-- ==== Sys2Proof/Word.lean ====
section
/-!
DEFINITION. The word types of the node, the record of a register field, and sparse maps as data.
-/
namespace Sys2Proof

/-- A register word (R10). -/
abbrev Word := BitVec 32

/-- A byte of memory. -/
abbrev Byte := BitVec 8

/-- The access types of R7. -/
inductive Acc where
  | rw | ro | wo | w1c | w1s | wl
  deriving DecidableEq, Repr

/-- One register field: address of its register, highest and lowest bit, access type (R7) and reset value (R9).
The instance a selector register picks stands above bit 32 of the address. -/
structure Fd where
  addr : Nat
  msb  : Nat
  lsb  : Nat
  acc  : Acc
  rst  : Nat
  deriving DecidableEq, Repr

/-- What error correction met on the reads of an access or a fetch: nothing, a corrected error, corrected errors in `n` of the
words read, or an uncorrectable one (R94, R134). -/
inductive Ecc where
  | clean | ce | ue
  | ces (n : Nat)
  deriving DecidableEq, Repr

/-- What the journal engine was doing on the flash when power was lost, with what it had done of it: nothing, an erase, `n` bytes of a
sector's header, `n` bytes of a record with its COMMIT, or a checkpoint, `k` whole records and `n` bytes of the next (R343). -/
inductive Cut where
  | none | erase
  | header (n : Nat)
  | record (n : Nat)
  | checkpoint (k n : Nat)
  deriving DecidableEq, Repr

/-- What a control core's Sv39 translation depends on: the page of its root table, whether the access is made in user mode and is an
instruction fetch, and the core's SUM and MXR bits (R361). -/
structure SvCtx where
  root  : Nat
  user  : Bool
  fetch : Bool
  sum   : Bool
  mxr   : Bool
  deriving DecidableEq, Repr

/-- The exceptions of a control core's own translation (R361). -/
inductive SvTrap where
  | accessFault | pageFault
  deriving DecidableEq, Repr

/-- How an access reaches the fabric: by physical address, through a PCIe BAR (R370), or as a control core's virtual address (R361);
`pte` is what error correction meets on the page-table entry of a window address, where that is read (R360). -/
inductive Via where
  | fabric | bar0
  | bar2 (pte : Ecc)
  | sv39 (c : SvCtx)
  deriving DecidableEq, Repr

/-- The pad settings of R404. -/
structure PadSet where
  drive : Nat
  slew  : Nat
  pull  : Nat
  filt  : Nat
  deriving DecidableEq, Repr

/-- V3P3_AON rising (R414) at instant `t`, with TEST_MODE as the pin reads. -/
structure PowerRise where
  test : Bool
  t    : Nat
  deriving DecidableEq, Repr

/-- Loss of V3P3_AON at instant `t`, and what it cut off on the flash (R343, R379). -/
structure PowerLoss where
  cut : Cut
  t   : Nat
  deriving DecidableEq, Repr

/-- A word, with what error correction meets on the reads that the command makes. -/
structure EccWord where
  v : Nat
  e : Ecc
  deriving DecidableEq, Repr

/-- The words that a reader clocks out after a late fill, with what error correction meets on each word read (R371). -/
structure LateWords where
  late : List Nat
  es   : List Ecc
  deriving DecidableEq, Repr

/-- What error correction meets on the words that an event reads, and its instant `t`. -/
structure EccAt where
  es : List Ecc
  t  : Nat
  deriving DecidableEq, Repr

/-- The requesters of a target with the lengths they declare, and whether its owner drops its request (R142). -/
structure Requests where
  drop : Bool
  reqs : List (Nat × Nat)
  deriving DecidableEq, Repr

/-- A module's LOS and TX_FAULT pins (R171). -/
structure ModulePins where
  los : Bool
  txf : Bool
  deriving DecidableEq, Repr

/-- An instant `t`, and the module's TX_FAULT pin then (R171). -/
structure FaultPinAt where
  txf : Bool
  t   : Nat
  deriving DecidableEq, Repr

/-- The ten A2h bytes of a diagnostics poll and the module's pins at it (R171). -/
structure Diagnostics where
  bs   : List Byte
  pins : ModulePins
  deriving DecidableEq, Repr

/-- What decoding met in a frame: a code error, and how many codewords FEC corrected and could not correct (R170). -/
structure FrameCode where
  code : Bool
  corr : Nat
  unc  : Nat
  deriving DecidableEq, Repr

/-- A serial slot as received: its word, and whether its frame is well formed (R265, R271). -/
structure SlotWord where
  w  : Nat
  ok : Bool
  deriving DecidableEq, Repr

/-- Sparse data by number: keys strictly rising, and no entry equal to what an unlisted key reads as. -/
abbrev SMap (α : Type) := List (Nat × α)

end Sys2Proof
end

