-- ==== Sys2Proof/Syntax.lean ====
section
/-!
DEFINITION. The commands of the node: one constructor for each row of the table of operations and events, with what the row
says of it. Operands named `m` are the master that makes a register access, `t` the instant of an event on the node's clock in
1/256 ns, `p` a port or a physical core, `v` the word written; Sys2Proof.WellFormed says what each operand may be.
-/
namespace Sys2Proof

/-- A command (spec/opcode_table.json). -/
inductive Instr where
  /-- REGISTER_WRITE (R7): A write to a register field that has no behaviour of its own stores the value under its
  access type. -/
  | registerWrite (m a v : Nat)
  /-- PAIR_LOW_READ (R10): A read of the low word of a 64-bit or latching register returns it and latches the high
  word and the related words. -/
  | pairLowRead (m a : Nat)
  /-- MEMORY_ACCESS (R358): A master's access to a memory target is decoded, checked against width and region tables,
  and then takes effect. -/
  | memoryAccess (via : Via) (m a w : Nat) (wr : Bool) (v : Nat) (e : Ecc)
  /-- POWER_ON_RESET (R414): V3P3_AON rising releases the AON power-on reset, and the housekeeper runs boot ROM in
  STANDBY. -/
  | powerOnReset (e : PowerRise)
  /-- AON_LOSS (R379): Loss of V3P3_AON takes the device to OFF. -/
  | aonLoss (e : PowerLoss)
  /-- XO_CHECK (R337): The XO is checked against the crystal: the housekeeper moves to 200 MHz, or CLK_XO is raised.
  -/
  | xoCheck (ok : Bool) (t : Nat)
  /-- RAIL_START (R385): At its instant in the power-up sequence, a rail is started with soft start. -/
  | railStart (r : Nat) (passes : Bool) (t : Nat)
  /-- RAIL_SEQ_TIMEOUT (R385): A rail that has not passed 94 % within 5 ms raises PMU_SEQ and stops the sequence. -/
  | railSeqTimeout (r t : Nat)
  /-- DRAM_TRAINING_DONE (R337): DRAM training ends, and DRAM is cleared to zero. -/
  | dramTrainingDone (t : Nat)
  /-- JOURNAL_SCAN (R342): The housekeeper scans the ring, finds the head and rebuilds the live state, restoring
  fences. -/
  | journalScan (t : Nat)
  /-- SLOT_CHOOSE (R335): The manifest copy and the slot to boot are chosen, with rollback or RECOVERY as needed. -/
  | slotChoose (t : Nat)
  /-- DIRECTORY_CHECK (R331): The slot directory and its entries are checked, and CCFW, CAL and HOSTKEYS are loaded.
  -/
  | directoryCheck (t : Nat)
  /-- BOOT_CONFIGURATION (R337): The FCU configuration is written and locked, the mode is put into force, the BOOT
  record is admitted and the control cores are released. -/
  | bootConfiguration (t : Nat)
  /-- HOLDUP_MEASURE_DONE (R349): The hold-up fall has been timed, and FLUSH_BUDGET is computed. -/
  | holdupMeasureDone (v0 us t : Nat)
  /-- VOICE_IMAGE_BOOT_LOAD (R337): Each VOICE entry is copied to buffer 0, checked and loaded into its cores. -/
  | voiceImageBootLoad (t : Nat)
  /-- BOOT_BREATH_ZERO (R337): At breath 0 of the boot, sections restart with reset state, GEN becomes 1 and
  CONFIG_GEN records are appended. -/
  | bootBreathZero (t : Nat)
  /-- MODE_APPLY (R19): A keyed SYS_MODE_APPLY write with GO is checked and accepted, which breaks locks, starts ramp-
  outs and cancels pending work. -/
  | modeApply (m v : Nat)
  /-- MODE_LAST_BREATH (R19): At B + 32 of an apply the old mode ends: transmission stops, serial outputs drive zero
  and the breath stops. -/
  | modeLastBreath (t : Nat)
  /-- CLOCKS_RECONFIGURED (R19): The clocks take the new mode's values, sections are judged, and DISP is placed in
  ARMED or left STOPPED. -/
  | clocksReconfigured (t : Nat)
  /-- APPLY_ANCHOR_TIMEOUT (R19): No anchor trigger within 1 ms of ARMED, so SYS makes the anchor itself. -/
  | applyAnchorTimeout (t : Nat)
  /-- APPLY_DONE (R19): At breath 32 of the new mode APPLYING clears and RESULT is set. -/
  | applyDone (t : Nat)
  /-- UNIT_RESET (R29): A keyed SYS_URST write is checked and, if accepted, puts the named unit into reset. -/
  | unitReset (m v : Nat)
  /-- UNIT_RESET_RELEASE (R30): A unit reset releases, BUSY clears, RESULT reads DONE and COUNT increments. -/
  | unitResetRelease (t : Nat)
  /-- WARM_RESTART (R31): A keyed SYS_WARM write resets every domain except AON, and the housekeeper boots again. -/
  | warmRestart (m v : Nat)
  /-- RESET_N (R414): A low level of RESET_N of 1.1 µs or more holds the device in warm restart until it rises. -/
  | resetN (t : Nat)
  /-- WATCHDOG_EXPIRY (R31): The housekeeper watchdog expires and requests a warm restart. -/
  | watchdogExpiry (t : Nat)
  /-- DISP_RUN (R33): RUN written 1 moves a STOPPED dispatcher to ARMED. -/
  | dispRun (m v : Nat)
  /-- DISP_STOP (R33): RUN written 0 moves ARMED to STOPPED or RUNNING to STOPPING, or is held while a commit is
  started. -/
  | dispStop (m v : Nat)
  /-- BREATH_START (R36): At each breath instant DISP_INDEX advances and every valid task of every running section is
  armed. -/
  | breathStart (t : Nat)
  /-- DISP_STOPPED (R33): Every instance armed up to the last breath has ended, so the dispatcher enters STOPPED. -/
  | dispStopped (t : Nat)
  /-- TASK_TIME_TRIGGER (R40): Device time reaches breath start + OFFSET, and the TIME task fires. -/
  | taskTimeTrigger (l k b t : Nat)
  /-- CORE_WAKE (R43): At a core's wake instant the dispatcher begins to wake it from clock gating. -/
  | coreWake (l t : Nat)
  /-- INSTANCE_START (R42): A fired instance starts on its core 5 cycles after the latest of firing, wake, free core
  and guard end, with registers reset. -/
  | instanceStart (l k b t : Nat)
  /-- DEADLINE_MISS (R46): An instance has not completed by breath start + DEADLINE, so it is a LATE or UNTRIGGERED
  miss and its taps repeat. -/
  | deadlineMiss (l k b t : Nat)
  /-- INSTANCE_ABORT (R91): An instance still running at DEADLINE + one breath is aborted with the effects of a LATE
  miss. -/
  | instanceAbort (p t : Nat)
  /-- INSTANCE_COMPLETE (R90): An instance completes: the TWR queue commits, sticky flags reach RC_FLAGS and DISP is
  told. -/
  | instanceComplete (p t : Nat)
  /-- CLR_CORE (R61): DISP_CLR.CORE clears DISP_CORE_STAT for every logical core. -/
  | clrCore (m : Nat)
  /-- CLR_TBT (R61): DISP_CLR.TBT clears MEAS_MAX and EXC_COUNT of every transit-bound entry. -/
  | clrTbt (m : Nat)
  /-- CLR_EVT (R61): DISP_CLR.EVT clears DISP_EVT_COUNT. -/
  | clrEvt (m : Nat)
  /-- CLR_MISS (R61): DISP_CLR.MISS clears the miss count, last miss and miss breath. -/
  | clrMiss (m : Nat)
  /-- TBT_DATA_READ (R61): A read of DISP_TBT_DATA1 returns word 1 and, with AUTOINC, increments INDEX. -/
  | tbtDataRead (m : Nat)
  /-- ROTATION_STEP_START (R55): A rotation step starts: BULK from P to the lowest healthy idle spare, or SUSPENDED if
  none. -/
  | rotationStepStart (t : Nat)
  /-- HANDOVER_BULK_DONE (R54): All memory of a hand-over has been copied once, and CATCH-UP begins. -/
  | handoverBulkDone (t : Nat)
  /-- HANDOVER_CATCHUP_DONE (R54): Fewer than 16 granules are dirty, so the hand-over waits for SWITCH. -/
  | handoverCatchupDone (t : Nat)
  /-- HANDOVER_SWITCH (R54): At a breath start with no instance in flight, the remaining granules are copied and the
  logical-to-physical map changes. -/
  | handoverSwitch (t : Nat)
  /-- BIST_START (R55): The isolated physical core begins its 2 ms built-in self-test. -/
  | bistStart (t : Nat)
  /-- BIST_END (R56): A self-test ends: on a pass the hand-back begins; on a fail the core is fenced. -/
  | bistEnd (ok : Bool) (t : Nat)
  /-- BIST_REQUEST (R58): A keyed DISP_BIST_REQ write requests the self-test of one physical core. -/
  | bistRequest (m v : Nat)
  /-- SPARE_SELECT (R59): At F + 1 the lowest healthy idle spare is selected and its load from the voice image starts.
  -/
  | spareSelect (l t : Nat)
  /-- FENCE_RAMP_OUT (R59): At F + 8 the fenced logical core's output taps begin to ramp to zero. -/
  | fenceRampOut (l t : Nat)
  /-- SPARE_LOAD_DONE (R59): The spare's load completes, held mailbox words are written, and L restarts at the next
  breath start. -/
  | spareLoadDone (l t : Nat)
  /-- NOP (R76): Does nothing. -/
  | nop (p : Nat) (e : Ecc)
  /-- TEND (R90): Ends the instance after two delay slots. -/
  | tend (p : Nat) (e : Ecc)
  /-- B (R76): Branches to TGT after two delay slots. -/
  | b (p : Nat) (e : Ecc)
  /-- BC (R76): Branches if COND holds for Ds. -/
  | bc (p : Nat) (e : Ecc)
  /-- CALL (R76): Writes index + 3 to D15 and branches. -/
  | call (p : Nat) (e : Ecc)
  /-- JR (R76): Branches to Ds[12:0]. -/
  | jr (p : Nat) (e : Ecc)
  /-- LOOP (R76): Sets the loop start, end and immediate count of a level. -/
  | loop (p : Nat) (e : Ecc)
  /-- LOOPR (R76): Sets a loop with its count taken from Ds. -/
  | loopr (p : Nat) (e : Ecc)
  /-- TRAP (R87): Raises interrupt cause TRAP with CODE. -/
  | trap (p : Nat) (e : Ecc)
  /-- RTI (R88): Returns from an interrupt after two delay slots and a drain. -/
  | rti (p : Nat) (e : Ecc)
  /-- MVS (R76): Writes Ds into a special register. -/
  | mvs (p : Nat) (e : Ecc)
  /-- MFS (R76): Reads a special register into Dd. -/
  | mfs (p : Nat) (e : Ecc)
  /-- MVI (R76): Writes an immediate into a special register. -/
  | mvi (p : Nat) (e : Ecc)
  /-- ADD (R75): Dd = Ds + Dt, wrapping. -/
  | add (p : Nat) (e : Ecc)
  /-- SUB (R75): Dd = Ds − Dt, wrapping. -/
  | sub (p : Nat) (e : Ecc)
  /-- ADDS (R75): Saturating addition. -/
  | adds (p : Nat) (e : Ecc)
  /-- SUBS (R75): Saturating subtraction. -/
  | subs (p : Nat) (e : Ecc)
  /-- AND (R75): Bitwise AND. -/
  | iAnd (p : Nat) (e : Ecc)
  /-- OR (R75): Bitwise OR. -/
  | iOr (p : Nat) (e : Ecc)
  /-- XOR (R75): Bitwise XOR. -/
  | xor (p : Nat) (e : Ecc)
  /-- MIN (R75): Signed minimum. -/
  | min (p : Nat) (e : Ecc)
  /-- MAX (R75): Signed maximum. -/
  | max (p : Nat) (e : Ecc)
  /-- ABSS (R75): Saturating absolute value. -/
  | abss (p : Nat) (e : Ecc)
  /-- SHL (R75): Shifts Ds left by Dt[5:0]. -/
  | shl (p : Nat) (e : Ecc)
  /-- SHR (R75): Shifts Ds right logically by Dt[5:0]. -/
  | shr (p : Nat) (e : Ecc)
  /-- SHRA (R75): Shifts Ds right arithmetically by Dt[5:0]. -/
  | shra (p : Nat) (e : Ecc)
  /-- SLT (R75): Dd = 1 if Ds < Dt, signed. -/
  | slt (p : Nat) (e : Ecc)
  /-- ADDI (R76): Adds a sign-extended immediate. -/
  | addi (p : Nat) (e : Ecc)
  /-- LDI (R76): Loads an immediate into Dd, or into its upper half. -/
  | ldi (p : Nat) (e : Ecc)
  /-- SHI_SHL (R75): Shifts left by an immediate amount. -/
  | shiShl (p : Nat) (e : Ecc)
  /-- SHI_SHR (R75): Shifts right logically by an immediate amount. -/
  | shiShr (p : Nat) (e : Ecc)
  /-- SHI_SHRA (R75): Shifts right arithmetically by an immediate amount. -/
  | shiShra (p : Nat) (e : Ecc)
  /-- SHLS (R75): Saturating left shift by an immediate amount. -/
  | shls (p : Nat) (e : Ecc)
  /-- LDX (R76): Loads one word or a pair from X memory. -/
  | ldx (p : Nat) (e : Ecc)
  /-- LDY (R76): Loads one word or a pair from Y memory. -/
  | ldy (p : Nat) (e : Ecc)
  /-- STX (R76): Stores one word or a pair to X memory. -/
  | stx (p : Nat) (e : Ecc)
  /-- STY (R76): Stores one word or a pair to Y memory through the Y write slot. -/
  | sty (p : Nat) (e : Ecc)
  /-- STXA (R76): Stores a rounded accumulator to X memory. -/
  | stxa (p : Nat) (e : Ecc)
  /-- STYA (R76): Stores a rounded accumulator to Y memory. -/
  | stya (p : Nat) (e : Ecc)
  /-- MUL_MPY (R76): Starts a sum with Ds × Dt on lane 0. -/
  | mulMpy (p : Nat) (e : Ecc)
  /-- MUL_MAC (R76): Adds Ds × Dt to an accumulator. -/
  | mulMac (p : Nat) (e : Ecc)
  /-- MUL_MSU (R76): Subtracts Ds × Dt from an accumulator. -/
  | mulMsu (p : Nat) (e : Ecc)
  /-- DMUL_MPY (R76): Starts two-lane products of register pairs. -/
  | dmulMpy (p : Nat) (e : Ecc)
  /-- DMUL_MAC (R76): Adds two-lane products of register pairs. -/
  | dmulMac (p : Nat) (e : Ecc)
  /-- DMUL_MSU (R76): Subtracts two-lane products of register pairs. -/
  | dmulMsu (p : Nat) (e : Ecc)
  /-- MULM_MPY (R76): Starts a sum with X[XP] × Y[YP]. -/
  | mulmMpy (p : Nat) (e : Ecc)
  /-- MULM_MAC (R76): Adds X[XP] × Y[YP]. -/
  | mulmMac (p : Nat) (e : Ecc)
  /-- MULM_MSU (R76): Subtracts X[XP] × Y[YP]. -/
  | mulmMsu (p : Nat) (e : Ecc)
  /-- DMULM_MPY (R76): Starts two-lane products of X and Y pairs. -/
  | dmulmMpy (p : Nat) (e : Ecc)
  /-- DMULM_MAC (R76): Adds two-lane products of X and Y pairs. -/
  | dmulmMac (p : Nat) (e : Ecc)
  /-- DMULM_MSU (R76): Subtracts two-lane products of X and Y pairs. -/
  | dmulmMsu (p : Nat) (e : Ecc)
  /-- FTAP (R76): Does one delay-line tap: multiply-accumulate XCAR × Y and shift the line through XCAR. -/
  | ftap (p : Nat) (e : Ecc)
  /-- FTAP2 (R76): Does two delay-line taps on two lanes over X and Y pairs. -/
  | ftap2 (p : Nat) (e : Ecc)
  /-- CLRA (R75): Clears an accumulator as a starting write. -/
  | clra (p : Nat) (e : Ecc)
  /-- MOVA (R75): Copies one accumulator to another. -/
  | mova (p : Nat) (e : Ecc)
  /-- ADDA (R75): Adds one accumulator into another. -/
  | adda (p : Nat) (e : Ecc)
  /-- SUBA (R75): Subtracts one accumulator from another. -/
  | suba (p : Nat) (e : Ecc)
  /-- ACCSH (R75): Shifts an accumulator by SHAMT. -/
  | accsh (p : Nat) (e : Ecc)
  /-- RND (R71): Rounds an accumulator to Q1.31 into Dn, with saturation. -/
  | rnd (p : Nat) (e : Ecc)
  /-- LDA (R75): Loads a Q1.31 sample into an accumulator. -/
  | lda (p : Nat) (e : Ecc)
  /-- TRD (R77): Reads the committed value of a tap into Dd. -/
  | trd (p : Nat) (e : Ecc)
  /-- TWR (R78): Queues a write to a reed-output tap in the task's range. -/
  | twr (p : Nat) (e : Ecc)
  /-- INTERRUPT_ENTRY (R87): After the drain, ISTAT and IPC are saved, IE clears and fetch begins at the vector. -/
  | interruptEntry (p : Nat)
  /-- INTERRUPT_RETURN (R88): After RTI's drain, fetch resumes at IPC and IE and the flags are restored. -/
  | interruptReturn (p : Nat)
  /-- DEBUG_HALT (R92): RC_DBGCTL.HALT written 1 requests a halt, or raises DEBUG when DBGINT_EN = 1. -/
  | debugHalt (m p v : Nat)
  /-- CORE_HALTED (R92): The core reaches an allowed boundary, drains and reads HALTED. -/
  | coreHalted (p t : Nat)
  /-- DEBUG_STEP (R92): STEP written 1 fetches one instruction while halted, then halts again. -/
  | debugStep (m p : Nat) (v : EccWord)
  /-- CLR_ECC_CE (R95): RC_ECC.CLR clears the corrected-error count. -/
  | clrEccCe (m p : Nat)
  /-- TAP_DEFAULT_COMMIT (R97): At breath start + 100 ns every unowned tap commits 0, and AES67 and ASRC taps commit.
  -/
  | tapDefaultCommit (t : Nat)
  /-- BUS_COMPLETE (R100): A bus's sources have committed and its products are added, so the bus commits and posts its
  bus-complete event. -/
  | busComplete (n b t : Nat)
  /-- ZC_TIMEOUT (R109): The zero-crossing wait reaches zc_timeout, and a 64-breath ramp starts. -/
  | zcTimeout (src bus b t : Nat)
  /-- GAIN_RAMP_END (R109): A gain ramp reaches LEN and goes IDLE, and a retiring crosspoint at 0 is dropped. -/
  | gainRampEnd (src bus t : Nat)
  /-- MATRIX_SWAP_REQUEST (R105): A keyed MTX_SWAP write requests a bank swap and makes the shadow read-only. -/
  | matrixSwapRequest (m v : Nat)
  /-- SWAP_VALIDATION_DONE (R105): Validation of the shadow bank ends, with a rejection or a pass. -/
  | swapValidationDone (t : Nat)
  /-- MATRIX_SWAP (R104): At breath B the banks merge pair by pair and ACTIVE toggles. -/
  | matrixSwap (t : Nat)
  /-- SWAP_DONE (R105): At breath B + 1 BUSY clears and RESULT reads DONE. -/
  | swapDone (t : Nat)
  /-- CLR_FMTSAT (R122): MTX_CLR.FMTSAT clears MTX_FMTSAT. -/
  | clrFmtsat (m : Nat)
  /-- CLR_BUSSAT (R122): MTX_CLR.BUSSAT clears MTX_BUSSAT. -/
  | clrBussat (m : Nat)
  /-- MAILBOX_POST (R115): An MTX_MBOXm_POST write posts a mailbox for apply breath B or rejects it. -/
  | mailboxPost (m k v : Nat)
  /-- MAILBOX_APPLY (R116): In breath B the records of the mailboxes posted for B are applied, and skipped records are
  counted. -/
  | mailboxApply (k t : Nat)
  /-- MAILBOX_WORD_LAND (R116): An XWORD or YWORD write lands once the earlier instance completes, and STATE reads
  APPLIED. -/
  | mailboxWordLand (l t : Nat)
  /-- ASRC_LOCK (R118): A channel's ratio has stayed within 10 ppm for 1 s, and the channel becomes LOCKED. -/
  | asrcLock (k t : Nat)
  /-- ASRC_UNLOCK (R120): Foreign clock loss or an out-of-range ratio takes the channel out of LOCKED, and its tap
  repeats then ramps. -/
  | asrcUnlock (k : Nat) (range : Bool) (t : Nat)
  /-- DELAY_DELIVERY (R128): A delay line's sample is written to the holder core's X memory. -/
  | delayDelivery (j : EccWord) (t : Nat)
  /-- DELAY_FETCH_ISSUE (R130): At breath 16k − 8 the fetch of read block k is issued on DMA channel 0. -/
  | delayFetchIssue (j t : Nat)
  /-- DELAY_LATE (R131): A flush or fetch misses its deadline, and the line repeats its last sample. -/
  | delayLate (j : Nat) (flush : Bool) (k t : Nat)
  /-- DELAY_CHANGE_POST (R132): A keyed DLY_CHG_POST write queues a delay change or rejects it. -/
  | delayChangePost (m v : Nat)
  /-- DELAY_CHANGE_APPLY (R133): At the effective breath the line changes delay by JUMP or starts a crossfade. -/
  | delayChangeApply (j t : Nat)
  /-- DELAY_XFADE_END (R133): A delay crossfade reaches breath B + 63 and delivers the new read only. -/
  | delayXfadeEnd (j t : Nat)
  /-- SCRUB_READ (R134): The patrol scrub reads a block and writes back corrected data. -/
  | scrubRead (e : Ecc) (t : Nat)
  /-- DMA_GO (R138): GO makes a channel READY, clearing ERR and ABORT_LATE. -/
  | dmaGo (m k v : Nat)
  /-- DMA_ABORT (R140): ABORT stops a RUNNING or READY channel, or sets ABORT_LATE. -/
  | dmaAbort (m k v : Nat)
  /-- DMA_BURST_END (R137): A burst ends, and the engine picks the next channel by rank, completing or pre-empting
  channels. -/
  | dmaBurstEnd (bad : List (Nat × Bool)) (t : Nat)
  /-- ARBITRATE (R142): A target without an owner grants the best-ranked requester, round-robin within the rank. -/
  | arbitrate (tg : Nat) (reqs : Requests) (t : Nat)
  /-- CLR_ARB_STATS (R147): ARB_CLR.STATS clears the wait and grant statistics. -/
  | clrArbStats (m : Nat)
  /-- ACQUIRE (R151): Acquires a section's revoice lock with a new ticket. -/
  | acquire (m j tk : Nat)
  /-- RENEW (R152): Reloads the lease. -/
  | renew (m j tk : Nat)
  /-- RELEASE (R152): Discards the pending buffer and frees the lock. -/
  | release (m j tk : Nat)
  /-- VERIFY (R155): Makes the pending buffer read-only and starts its check. -/
  | verify (m j tk : Nat)
  /-- VERIFY_DONE (R155): The check ends: READY on a pass, or HELD with VERR set. -/
  | verifyDone (j t : Nat)
  /-- REOPEN (R152): Makes the pending buffer writable again. -/
  | reopen (m j tk : Nat)
  /-- COMMIT (R156): Latches the configuration and R and starts a commit when its conditions hold. -/
  | commit (m j tk : Nat)
  /-- VACATE (R163): A COMMIT with VACATE = 1 starts the release of every resource of the section. -/
  | vacate (m j tk : Nat)
  /-- CANCEL (R161): Withdraws a started commit before breath S. -/
  | cancel (m j tk : Nat)
  /-- LEASE_LAPSE (R153): The lease reaches 0 and the lock breaks with LAPSE. -/
  | leaseLapse (j t : Nat)
  /-- FORCED_BREAK (R153): A keyed RVC_BREAK write breaks a section's lock with FORCED. -/
  | forcedBreak (m v : Nat)
  /-- COMMIT_RAMPOUT (R157): At breath S the section's outputs start to ramp out, and mirroring is judged. -/
  | commitRampout (j t : Nat)
  /-- COMMIT_DRAIN (R157): At S + 32 no instance is armed, and the outputs commit 0. -/
  | commitDrain (j t : Nat)
  /-- COMMIT_LOADING (R157): At S + 34 channel 3 starts loading the image and queued changes are discarded. -/
  | commitLoading (j t : Nat)
  /-- COMMIT_LOAD_DONE (R157): The load completes and LIVEBUF toggles. -/
  | commitLoadDone (j t : Nat)
  /-- COMMIT_RESTART (R157): At breath R, or later if late, tasks are armed, GEN increments, the lock frees and ramp-
  in begins. -/
  | commitRestart (j t : Nat)
  /-- RAMPIN_END (R157): At breath R + 31 RAMPIN clears. -/
  | rampinEnd (j t : Nat)
  /-- CLR_LOADMAX (R166): RVC_CLR.LOADMAX clears RVC_LOADMAX. -/
  | clrLoadmax (m : Nat)
  /-- PORT_ENABLE (R169): EN written 1 latches the link settings and starts AN, TRAINING or ALIGN. -/
  | portEnable (m p v : Nat)
  /-- PORT_DISABLE (R169): EN written 0 squelches the transmitter and takes the port to DISABLED. -/
  | portDisable (m p v : Nat)
  /-- AN_PAGE_EXCHANGE (R168): The Clause 73 page exchange completes, and speed and FEC are resolved, or no common
  ability is found. -/
  | anPageExchange (p ab t : Nat)
  /-- AN_BREAK_LINK_TIMER (R169): The break-link timer expires, and Clause 73 restarts. -/
  | anBreakLinkTimer (p t : Nat)
  /-- TRAINING_COMPLETE (R169): Both ends report training complete, so the coefficients freeze and the link goes to
  ALIGN. -/
  | trainingComplete (p t : Nat)
  /-- TRAINING_TIMEOUT (R169): 500 ms pass without training completing. -/
  | trainingTimeout (p t : Nat)
  /-- LINK_UP (R169): Block lock is held for 10 ms without fault, so the link enters UP. -/
  | linkUp (p : Nat) (e : FaultPinAt)
  /-- ALIGN_TIMEOUT (R169): 500 ms pass in ALIGN without lock. -/
  | alignTimeout (p t : Nat)
  /-- LINK_DOWN (R169): Lock loss, a fault, LOS or module removal takes the link out of UP. -/
  | linkDown (p : Nat) (rfault : Bool) (pins : ModulePins) (t : Nat)
  /-- SPEED_STEP (R191): The load threshold holds, and the port re-runs Clause 73 at the other speed. -/
  | speedStep (p : Nat) (pins : ModulePins) (t : Nat)
  /-- LPI_ENTER (R192): Every queue has been empty for LPI_IDLE, so the transmitter enters low-power idle. -/
  | lpiEnter (p t : Nat)
  /-- MODULE_INSERT (R171): MOD_ABS deasserts, and the 300 ms wait begins. -/
  | moduleInsert (p : Nat) (los txf : Bool) (t : Nat)
  /-- MODULE_ID_READ (R171): After 300 ms, A0h bytes 0–95 are read, and ID_VALID and INSERT are set. -/
  | moduleIdRead (p : Nat) (bs : List Byte) (t : Nat)
  /-- MODULE_REMOVE (R171): The module is removed, so the identity clears, REMOVE is set and the link goes down. -/
  | moduleRemove (p t : Nat)
  /-- DDM_POLL (R171): Every DDM_PERIOD, A2h diagnostics are read into SFP_DDM. -/
  | ddmPoll (p : Nat) (bs : Diagnostics) (t : Nat)
  /-- SFP_READ (R172): SFP_CMD with WRITE = 0 starts an I2C read into SFP_DATA. -/
  | sfpRead (m p dev ofs len : Nat)
  /-- SFP_WRITE (R172): SFP_CMD with WRITE = 1 starts an I2C write of SFP_DATA. -/
  | sfpWrite (m p dev ofs len : Nat)
  /-- SFP_TRANSFER_DONE (R172): An I2C transfer ends, with data or with NACK. -/
  | sfpTransferDone (p : Nat) (ack : Bool) (data t : Nat)
  /-- FRAME_RECEIVE (R175): A received frame is stored whole and passes the stages to a drop, a claimant or a ring. -/
  | frameReceive (p : Nat) (bs : List Byte) (code : FrameCode) (sfd held : Nat) (ue : Option Nat) (t : Nat)
  /-- RING_TAIL_WRITE (R184): A TAIL write hands descriptors to the device, or sets TAILERR. -/
  | ringTailWrite (m p r v : Nat)
  /-- RING_ENABLE (R184): Ring EN written 1 with a valid LEN sets HEAD and TAIL to 0 and starts the ring. -/
  | ringEnable (m p r : Nat)
  /-- RING_DISABLE (R186): Ring EN written 0 stops the ring at the next frame boundary. -/
  | ringDisable (m p r : Nat)
  /-- TX_FRAME_QUEUE (R174): A ring frame has been fetched whole, built and placed in its queue, or refused with
  ERR_LEN. -/
  | txFrameQueue (p k : Nat) (ue : Option Nat) (t : Nat)
  /-- FRAME_TRANSMIT (R216): At a frame boundary the MAC starts the highest open queue's frame that fits before its
  gate closes. -/
  | frameTransmit (p t : Nat)
  /-- TX_FRAME_DONE (R188): A ring frame has been sent, and its descriptors are written back with DONE. -/
  | txFrameDone (p t : Nat)
  /-- CLR_NET_COUNTERS (R194): NET_CNT_CLR.ALL clears every port counter. -/
  | clrNetCounters (m p : Nat)
  /-- STREAM_ENABLE (R198): A descriptor EN written 1 validates the stream, which becomes live at the next breath
  start. -/
  | streamEnable (m v : Nat)
  /-- STREAM_DISABLE (R198): EN written 0 makes a receive stream miss every breath, or stops a transmit stream. -/
  | streamDisable (m v : Nat)
  /-- JITTER_SAMPLE_RELEASE (R210): At the start of breath b a held sample is written and its arrival event posted. -/
  | jitterSampleRelease (j t : Nat)
  /-- SAMPLE_MISSING (R211): No sample of breath b has been written by DUE_OFS, so a substitute and a substitute
  arrival event are posted. -/
  | sampleMissing (j t : Nat)
  /-- TAKE_ANY_RESET (R209): No frame has passed within RESET_BREATHS, so take_any is set and RESETS increments. -/
  | takeAnyReset (j t : Nat)
  /-- PATH_TIMEOUT (R209): No frame has arrived on a path within PATH_TMO, so the path goes down. -/
  | pathTimeout (j : Nat) (b : Bool) (t : Nat)
  /-- FRAME_CLOSE (R214): An AVTP transmit frame closes, gets its header fields and enters queue 7 of each UP path
  port. -/
  | frameClose (j t : Nat)
  /-- AES67_PACKET_SEND (R221): An AES67 packet's last sample is formatted, and it enters queue 6. -/
  | aes67PacketSend (j t : Nat)
  /-- GCL_COMMIT (R217): A keyed STRM_GCL_COMMIT write commits the admin list for breath B, or rejects it. -/
  | gclCommit (m v : Nat)
  /-- GCL_OPERATIVE (R217): At the first breath at or after B the admin list becomes operative. -/
  | gclOperative (t : Nat)
  /-- GATE_ENTRY (R215): A gate control entry begins, and the gates take its GATES. -/
  | gateEntry (p k t : Nat)
  /-- CLR_STREAM_COUNTERS (R222): STRM_CLR.CNT clears the counters of every stream. -/
  | clrStreamCounters (m : Nat)
  /-- PTP_SAMPLE (R224): A PP_PTPn_ERR write delivers a phase-error sample and updates the DPLL. -/
  | ptpSample (m n v : Nat)
  /-- REF_SAMPLE (R224): A hardware reference's edges are averaged per 1 ms into a sample and the DPLL updates. -/
  | refSample (r : Nat) (edges : List (Nat × Bool)) (t : Nat)
  /-- FREQUENCY_ESTIMATE (R226): Each second, each reference's frequency is estimated and disagreement judged. -/
  | frequencyEstimate (t : Nat)
  /-- REF_QUALIFIED (R226): A reference's conditions have held for QUAL_MS, so it becomes valid. -/
  | refQualified (r t : Nat)
  /-- REF_INVALID (R226): Loss of activity or frequency makes a reference invalid, which can start a switch or
  holdover. -/
  | refInvalid (r : Nat) (lost : Bool) (t : Nat)
  /-- SEL_WRITE (R229): A write of PP_CTRL.SEL is evaluated at once and can begin a switch. -/
  | selWrite (m v : Nat)
  /-- STEER_ENABLE (R227): STEER set from 0 to 1 writes the rate that the state calls for. -/
  | steerEnable (m v : Nat)
  /-- FREERUN_RATE_WRITE (R227): A PP_FREERUN_RATE write in FREERUN writes TIME_RATE. -/
  | freerunRateWrite (m v : Nat)
  /-- SWITCH_COMPLETE (R231): The target's samples have been averaged, so the build-out is set and the loop closes. -/
  | switchComplete (t : Nat)
  /-- LOCK_ACHIEVED (R235): |u| has stayed below LOCK_NS for LOCK_MS, so the Pitch Pipe becomes LOCKED. -/
  | lockAchieved (t : Nat)
  /-- LOCK_LOSS (R235): |u| exceeds 4 × LOCK_NS for 100 ms, so LOCKED is left. -/
  | lockLoss (t : Nat)
  /-- REVERSION (R234): The hold-off expires, and the Pitch Pipe switches back to SEL or to a better candidate. -/
  | reversion (t : Nat)
  /-- HOLD_RATE_UPDATE (R236): Once per second while LOCKED, HOLD_RATE and HOLD_AGE are updated. -/
  | holdRateUpdate (t : Nat)
  /-- PHASE_STEP_SLEW (R237): A keyed PP_PSTEP_CMD with MODE = SLEW starts moving the build-out by Δ. -/
  | phaseStepSlew (m v : Nat)
  /-- PHASE_STEP_IMMEDIATE (R237): A keyed PP_PSTEP_CMD with MODE = IMMEDIATE steps device time by Δ and the build-out
  with it. -/
  | phaseStepImmediate (m v : Nat)
  /-- SLEW_DONE (R237): The slew remaining reaches 0, and PSTEP completes. -/
  | slewDone (t : Nat)
  /-- CLOCK_OUTPUT_START (R238): An enabled clock output starts at the next breath instant. -/
  | clockOutputStart (k t : Nat)
  /-- RATE_WRITE (R245): A TIME_RATE write folds the old rate into the base and takes the new one, or is rejected
  under STEER. -/
  | rateWrite (m v : Nat)
  /-- RATE_FOLD (R245): Every 2^32 ns of raw time the rate is folded into the base. -/
  | rateFold (t : Nat)
  /-- OFFSET_STEP (R246): A TIME_OFFSET_HI write applies the epoch's one offset step, or is rejected. -/
  | offsetStep (m v : Nat)
  /-- SERVO_RESET (R246): A keyed TIME_SERVO write re-arms the servo epoch. -/
  | servoReset (m v : Nat)
  /-- SNAPSHOT (R249): TIME_SNAP.GO latches device time in ns and seconds. -/
  | snapshot (m v : Nat)
  /-- TRIGGER_ENABLE (R252): EN written 1 arms a trigger, or refuses it with BADCFG. -/
  | triggerEnable (m k v : Nat)
  /-- TRIGGER_FIRE (R254): A trigger reaches its instant, records the firing and performs its ACTION. -/
  | triggerFire (k t : Nat)
  /-- PULSE_END (R254): A TTRIG pulse's PULSE µs elapse, and the ball goes low. -/
  | pulseEnd (o t : Nat)
  /-- CAPTURE (R255): An edge on TCAP or a selected internal event stamps device time into a capture FIFO. -/
  | capture (c : Nat) (rising : Bool) (t : Nat)
  /-- CAPTURE_READ (R255): A read of CAPc_TS_LO removes the oldest entry and latches the rest. -/
  | captureRead (m c : Nat)
  /-- TXTS_READ (R251): A read of TXTSp_TS removes the oldest entry and latches its TAG. -/
  | txtsRead (m p : Nat)
  /-- SAP_ENABLE (R264): SAP port EN written 1 validates the port and makes it ARMED. -/
  | sapEnable (m p v : Nat)
  /-- SAP_DISABLE (R264): SAP port EN written 0 drives DOUT to 0, stops the clocks and returns the port to OFF. -/
  | sapDisable (m p v : Nat)
  /-- SAP_FRAME_START (R265): A started port begins its first frame at I(b) + OFS or at the first FS edge. -/
  | sapFrameStart (p : Nat) (ok : Bool) (t : Nat)
  /-- SLOT_RECEIVE (R265): An input slot ends, so its tap commits and its arrival event is posted. -/
  | slotReceive (p sl : Nat) (w : SlotWord) (t : Nat)
  /-- SLOT_MISSING (R269): A slot is not written by its due instant, so an underrun, a substitute and its event
  follow. -/
  | slotMissing (p sl b t : Nat)
  /-- OUTPUT_UNDERRUN (R272): An output word is missing at its load instant, so the slot repeats its last word. -/
  | outputUnderrun (p sl t : Nat)
  /-- BLOCK_STAMP (R266): A block frame's FS is stamped, which maps, aligns or repairs the port. -/
  | blockStamp (p : Nat) (rateOk : Bool) (t : Nat)
  /-- LOSS_OF_CLOCK (R271): A slave port loses FS or frames, so it mutes and enters LOCLK. -/
  | lossOfClock (p t : Nat)
  /-- CLOCK_RECOVERED (R270): 16 well-formed frames in a row end LOCLK. -/
  | clockRecovered (p t : Nat)
  /-- MASK_WRITE (R273): An RXMASK or TXMASK write is sent to the port's clock domain, or rejected. -/
  | maskWrite (m p : Nat) (tx : Bool) (v : Nat)
  /-- MASK_EPOCH (R273): The first frame after the mask arrives applies it and records the epoch. -/
  | maskEpoch (p t : Nat)
  /-- CABLE_MEASURE (R274): Every 100 ms the round trip of BCLK and BCLK_RET is measured. -/
  | cableMeasure (p rtt t : Nat)
  /-- BSI_ENABLE (R279): BSI channel EN written 1 is checked against the preset rules and arms the channel. -/
  | bsiEnable (m c v : Nat)
  /-- BSI_DISABLE (R285): BSI channel EN written 0 takes the channel to OFF. -/
  | bsiDisable (m c v : Nat)
  /-- BSI_FILL_DONE (R278): FILL output samples have been produced, and the channel enters RAMPIN. -/
  | bsiFillDone (c t : Nat)
  /-- BSI_RAMPIN_END (R278): A channel's 32-breath ramp-in ends, and it enters RUN. -/
  | bsiRampinEnd (c t : Nat)
  /-- BSI_COMMIT (R280): At I(b) + 120 ns a bitstream tap commits with its arrival event, and its detectors update. -/
  | bsiCommit (c : Nat) (ones : List Bool) (t : Nat)
  /-- BSI_OVERLOAD (R276): A ones density outside 5–95 % over 1 ms sets OVLD. -/
  | bsiOverload (c ones total t : Nat)
  /-- FREEZE_WRITE (R282): A FREEZE write holds or resumes the DC estimate from the next sample. -/
  | freezeWrite (m c v : Nat)
  /-- PAIRING_ENABLE (R290): TWIN EN written 1 starts HELLOs and enters SEEK. -/
  | pairingEnable (m v : Nat)
  /-- PAIRING_DISABLE (R290): TWIN EN written 0 sends FLATLINE, lifts every quiet, abandons re-seats and enters OFF.
  -/
  | pairingDisable (m v : Nat)
  /-- HELLO_SEND (R289): A HELLO is sent every 1 ms or 100 ms. -/
  | helloSend (t : Nat)
  /-- HELLO (R289): A received HELLO is checked, updates offset, delay and skew, and can pair the twins or decide
  roles. -/
  | hello (t : Nat)
  /-- BREATH_FRAME_SEND (R297): At breath b + 2 + 100 ns the BREATH frame for b is queued. -/
  | breathFrameSend (t : Nat)
  /-- HEARTBEAT (R297): A received BREATH frame records the partner's digests, quiet and ratio words. -/
  | heartbeat (t : Nat)
  /-- DIGEST_COMPARE (R297): At the due instant digests are compared and missed heartbeats counted, which can set
  quiet or lose the partner. -/
  | digestCompare (t : Nat)
  /-- FLATLINE (R309): A received FLATLINE makes the partner lost at once. -/
  | flatline (t : Nat)
  /-- ROLE_RESOLVE (R293): At the next breath start a double LEAD or double FOLLOW is resolved by serial number. -/
  | roleResolve (t : Nat)
  /-- YIELD (R295): A keyed TWIN_CMD with OP = YIELD starts a role swap at breath Y. -/
  | yield (m v : Nat)
  /-- YIELD_RECEIVE (R295): A FOLLOW echoes a YIELD frame, or a LEAD records the echo. -/
  | yieldReceive (t : Nat)
  /-- ROLE_SWAP (R295): At breath Y the roles swap if an echo came in time, otherwise REJ_LATE. -/
  | roleSwap (t : Nat)
  /-- COMMIT_NOTE (R301): A received COMMIT_NOTE is held for judging the mirror at breath S. -/
  | commitNote (t : Nat)
  /-- RESEAT_REQ (R303): The LEAD receives a re-seat request and begins to capture a seat, or refuses it. -/
  | reseatReq (t : Nat)
  /-- SEAT_CAPTURED (R303): The LEAD's seat is complete in twin staging, and sending begins. -/
  | seatCaptured (t : Nat)
  /-- RESEAT_DATA (R306): A received RESEAT_DATA frame stores seat bytes at its offset. -/
  | reseatData (t : Nat)
  /-- RESEAT_END (R306): A received RESEAT_END is checked, and the FOLLOW answers with a RESEAT_ACK and stops the set.
  -/
  | reseatEnd (t : Nat)
  /-- RESEAT_ACK (R306): The LEAD receives the result and frees the seat region. -/
  | reseatAck (t : Nat)
  /-- SEAT_LOADED (R307): The seat has been loaded into the cores and MTX, and CATCHUP begins. -/
  | seatLoaded (t : Nat)
  /-- RESEAT_COMPLETE (R307): AGREE consecutive live breaths agree, so quiet is lifted and RESEATS increments. -/
  | reseatComplete (t : Nat)
  /-- RESEAT_TIMEOUT (R307): No RESEAT_END has come within 100 ms, so the re-seat fails and is requested again. -/
  | reseatTimeout (t : Nat)
  /-- RESEAT_RETRY_WAIT_END (R307): The 1 s wait after RETRY_MAX failures ends. -/
  | reseatRetryWaitEnd (t : Nat)
  /-- FAULT_EVENT (R317): A source's event is latched, recorded and given the reaction of its class. -/
  | faultEvent (src idx : Nat) (parityOk : Bool) (t : Nat)
  /-- BROKEN_WIRE (R312): A source pair held invalid for 4 cycles raises FCU_WIRE. -/
  | brokenWire (src cycles t : Nat)
  /-- AUDIO_STOP (R320): At FLATLINE egress or 1 µs every audio transmission stops. -/
  | audioStop (t : Nat)
  /-- SHADOW_END (R319): A reaction shadow's SHADOW_US ends. -/
  | shadowEnd (g t : Nat)
  /-- QUIET_AUTO_RESTART (R321): DELAY_MS after Q, with the record committed, the FCU requests a warm restart, or
  suppresses it. -/
  | quietAutoRestart (t : Nat)
  /-- QRESTART_AGE (R321): A restart instant ages past 600 s, and QRESTARTS falls. -/
  | qrestartAge (t : Nat)
  /-- HALT_FLUSH_DONE (R322): The flush ends or H + 100 ms passes, so the domain clocks stop and rails may switch off.
  -/
  | haltFlushDone (t : Nat)
  /-- CONFIG_CHECK_FAIL (R324): A copy mismatch or parity failure in the configuration raises FCU_CFG and HALT. -/
  | configCheckFail (w diff : Nat) (parity : Bool) (t : Nat)
  /-- CONFIG_LOCK (R325): A keyed FCU_LOCK write with LOCK = 1 locks the configuration. -/
  | configLock (m v : Nat)
  /-- FAULT_FORCE (R326): A force bit drives a source pair as an event or as a broken wire. -/
  | faultForce (m k v : Nat)
  /-- RECORD_READ (R318): A read of FCU_REC0 removes the oldest record and latches its words. -/
  | recordRead (m : Nat)
  /-- RECORD_COMMIT (R340): A pending record is programmed and read back, or a failure moves it to the next sector. -/
  | recordCommit (ok : Bool) (t : Nat)
  /-- CHECKPOINT (R344): A checkpoint restates every live record between BEGIN and END. -/
  | checkpoint (t : Nat)
  /-- RECLAIM (R345): The oldest sector behind the latest checkpoint is erased and headed. -/
  | reclaim (ok : Bool) (t : Nat)
  /-- AGE_CHECK (R346): Once a day the engine checks for sectors aged 5 years and takes a checkpoint. -/
  | ageCheck (t : Nat)
  /-- HOURS_RECORD (R341): Every 3,600 s of operation an HOURS record is appended. -/
  | hoursRecord (t : Nat)
  /-- JOURNAL_APPEND (R352): A LIG_APPEND write queues a software record, or rejects it. -/
  | journalAppend (m v : Nat)
  /-- FLASH_WINDOW_READ (R352): LIG_RD_CMD.GO starts a 256-byte flash read into the window. -/
  | flashWindowRead (m v : Nat)
  /-- FLASH_WINDOW_READ_DONE (R352): The window is filled, and BUSY clears. -/
  | flashWindowReadDone (t : Nat)
  /-- INPUT_FALL (R350): VIN below FALL raises PMU_INFALL, stops audio and flushes the journal. -/
  | inputFall (t : Nat)
  /-- INPUT_RECOVER (R350): The input stays above RISE for 100 ms, so the PMU performs a power-on reset. -/
  | inputRecover (t : Nat)
  /-- BOOT_CONFIRM (R336): A keyed SEC_BOOT_CONFIRM GO confirms the boot and appends a BOOT record. -/
  | bootConfirm (m v : Nat)
  /-- FLOOR_BURN (R353): A keyed SEC_FLOOR_BURN write raises the generation floor, or is rejected. -/
  | floorBurn (m v : Nat)
  /-- KEY_REVOKE (R353): A keyed SEC_REVOKE GO revokes key 0, or is rejected. -/
  | keyRevoke (m v : Nat)
  /-- AUTH_CHECK (R353): SEC_AUTH_CMD.GO queues the check of a voice image or directory. -/
  | authCheck (m v : Nat)
  /-- AUTH_DONE (R353): An authentication check completes with its result and digest. -/
  | authDone (t : Nat)
  /-- REQUEST (R363): A Host Channel REQUEST is checked for tag and sequence, run, and answered. -/
  | request (e : EccAt)
  /-- SYNC (R365): A SYNC with a valid tag resets the slot, draws RXNEXT and is answered by SYNC_ACK. -/
  | sync (t : Nat)
  /-- EVENT (R366): An EVENT frame is sent when an enabled bit becomes pending, and again every EVT_REPEAT ms. -/
  | event (n t : Nat)
  /-- SLOT_TUNE (R373): SLOTn_TUNE.GO issues a TUNE for the slot. -/
  | slotTune (m n : Nat) (ack : Bool)
  /-- TUNE_DONE (R373): Assembly of the summary ends, and TUNE_STAT reads DONE and VALID. -/
  | tuneDone (n t : Nat)
  /-- KICK (R367): SLOTn_CTRL.KICK written 1 resets the slot. -/
  | kick (m n v : Nat)
  /-- BELL_IN (R369): BELL.IN sets the slot's bit in HOST_CC_IRQ. -/
  | bellIn (m n : Nat)
  /-- BELL_OUT (R369): BELL.OUT sets the slot's MBOX event. -/
  | bellOut (m n : Nat)
  /-- PCIE_RESET (R367): PCIe link down, hot reset or function-level reset resets slot 4. -/
  | pcieReset (down : Bool) (t : Nat)
  /-- STATUS (R371): The SPI STATUS command shifts out the status byte and clears ERR and LATE. -/
  | status (t : Nat)
  /-- SPI_READ (R371): The SPI READ command reads words as master HS. -/
  | spiRead (a n : Nat) (late : LateWords) (t : Nat)
  /-- QREAD (R371): The quad SPI read command reads words as master HS. -/
  | qread (a n : Nat) (late : LateWords) (t : Nat)
  /-- SPI_WRITE (R371): The SPI WRITE command writes words as master HS. -/
  | spiWrite (a : Nat) (ws : List Nat) (t : Nat)
  /-- QWRITE (R371): The quad SPI write command writes words as master HS. -/
  | qwrite (a : Nat) (ws : List Nat) (t : Nat)
  /-- SPI_TUNE (R371): The SPI TUNE command issues a TUNE for slot 5. -/
  | spiTune (ack : Bool) (t : Nat)
  /-- RESET_SLOT (R371): The SPI RESET_SLOT command with correct bytes resets slot 5. -/
  | resetSlot (b0 b1 t : Nat)
  /-- FLASH_READ (R371): In RECOVERY, reads bytes from the flash. -/
  | flashRead (a n t : Nat)
  /-- FLASH_PROGRAM (R371): In RECOVERY, programs up to one flash page. -/
  | flashProgram (a : Nat) (bs : List Byte) (ok : Bool) (e t : Nat)
  /-- FLASH_ERASE (R371): In RECOVERY, erases a 64 KiB flash sector. -/
  | flashErase (a : Nat) (ok : Bool) (e t : Nat)
  /-- FLASH_STATUS (R371): In RECOVERY, returns the flash BUSY and FAIL byte. -/
  | flashStatus (t : Nat)
  /-- MMU_FLUSH (R360): MMU_FLUSH.GO flushes the translation cache of one window or all windows. -/
  | mmuFlush (m v : Nat)
  /-- MMU_FLUSH_DONE (R360): The flush completes, and BUSY clears. -/
  | mmuFlushDone (t : Nat)
  /-- REQUEST_STANDBY (R380): A keyed PMU_PSTATE_REQ for STANDBY commits the journal and powers rails down. -/
  | requestStandby (m v : Nat)
  /-- REQUEST_NAP (R380): A keyed PMU_PSTATE_REQ for NAP powers down non-wake domains. -/
  | requestNap (m v : Nat)
  /-- REQUEST_READY (R381): A keyed PMU_PSTATE_REQ for READY wakes the device from NAP. -/
  | requestReady (m v : Nat)
  /-- PSTATE_TRANSITION_DONE (R379): A power-state transition completes, and PSTATE changes. -/
  | pstateTransitionDone (t : Nat)
  /-- WAKE_N (R381): A debounced falling edge on WAKE_N wakes the device. -/
  | wakeN (t : Nat)
  /-- ALARM (R381): PMU_AON_SEC reaches PMU_ALARM, which wakes the device. -/
  | alarm (t : Nat)
  /-- SPI_WAKE (R381): HS_CS_N held low for 10 µs wakes the device from STANDBY. -/
  | spiWake (t : Nat)
  /-- LINK_WAKE (R381): A wake port reaching UP wakes the device from NAP. -/
  | linkWake (p t : Nat)
  /-- RAIL_UNDERVOLTAGE (R385): A rail below 94 % of its target raises PMU_UV. -/
  | railUndervoltage (r t : Nat)
  /-- RAIL_OVERVOLTAGE (R385): A rail above 110 % of its target raises PMU_OV. -/
  | railOvervoltage (r t : Nat)
  /-- AVS_STEP (R386): Every 1 ms the AVS loop steps VDD_ENG by 5 mV towards the margin. -/
  | avsStep (up : Bool) (t : Nat)
  /-- AVS_EMERGENCY (R386): Negative slack raises the VDD_ENG target by 25 mV at once. -/
  | avsEmergency (t : Nat)
  /-- ADC_ROUND (R390): Every 864 µs the monitor readings update, and the bandgap and thermal thresholds are checked.
  -/
  | adcRound (rails : List Nat) (vin vhold : Nat) (temps : List Nat) (bandgap : Bool) (t : Nat)
  /-- LINE_ENABLE (R392): A SURV line EN written 1 is checked and enables the line, or sets CFGERR. -/
  | lineEnable (m j v : Nat)
  /-- MEAS_GO (R394): MEAS_GO starts an impedance measurement window on every enabled line. -/
  | measGo (m v : Nat)
  /-- MEASURE_DONE (R394): The window ends, ZMAG and ZPH load and the band is checked. -/
  | measureDone (t : Nat)
  /-- POWER_GOOD (R379): In STANDBY after AON power-on reset, the 12 V input reaching RISE starts the rail sequence
  and the boot of R337 (origin P). -/
  | powerGood (t : Nat)
  /-- RESET_N_RELEASE (R414): The rising edge of RESET_N ends the held warm restart, and the housekeeper restarts the
  boot of R338 within 10 µs. -/
  | resetNRelease (t : Nat)
  /-- TEST_LOGIC_RESET (R154): The JTAG TAP entering Test-Logic-Reset breaks every revoice lock held by DBG with
  OWNER_RESET. -/
  | testLogicReset (t : Nat)
  /-- HEARTBEAT_MISS (R298): While the partner's last HELLO shows RUNNING = 0, each 1 ms without a HELLO counts a
  missed heartbeat, and HB_MISS of them lose the partner. -/
  | heartbeatMiss (t : Nat)
  /-- RESEAT_DATA_SEND (R306): At the pace of TWIN_RESEAT_RATE the LEAD queues the next RESEAT_DATA frame, and after
  the last one a RESEAT_END carrying S, BYTES and CRC. -/
  | reseatDataSend (t : Nat)
  /-- PCIE_LINK_UP (R370): The PCIe link trains and comes up, setting HOST_STAT.PCIE_UP, PCIE_WIDTH and PCIE_SPEED. -/
  | pcieLinkUp (width speed : Nat) (msix : Bool) (t : Nat)
  /-- RECEIVE_LPI (R192): The link partner enters or leaves low-power idle, and the receiver follows it, changing
  NET_STAT.LPI_RX. -/
  | receiveLpi (p : Nat) (on : Bool) (t : Nat)
  deriving DecidableEq, Repr

end Sys2Proof
end

