-- ==== Sys2Proof/Decode.lean ====
section
/-!
DEFINITION. The words of the table: no row of spec/opcode_table.json gives its command any bits.
-/
namespace Sys2Proof

/-- The command that the low `nbits` bits of `w` spell by the bits the table gives: the table gives none. -/
def decodeTableWord (nbits w : Nat) : Option Instr :=
  match nbits, w with
  | _, _ => none

end Sys2Proof
end

