-- ==== Sys2Proof/Config.lean ====
section
/-!
DEFINITION. What one device fixes (its fuses and its boot ROM) and the free values: constants with no body, for
which nothing can be proved but what the model makes of them.
-/
namespace Sys2Proof

/-- The fused serial number (R32). -/
opaque Config.serial : BitVec 64
/-- SYS_SERIAL_LO as fused. -/
def Config.serialLo : Nat := Config.serial.toNat % 0x100000000
/-- SYS_SERIAL_HI as fused. -/
def Config.serialHi : Nat := Config.serial.toNat / 0x100000000
/-- Fuse KEY1_VALID as the device is delivered (R334). -/
opaque Config.fuseKey1ValidBit : Bool
def Config.fuseKey1Valid : Nat := Config.fuseKey1ValidBit.toNat
/-- Fuse KEY0_REVOKED as the device is delivered (R334). -/
opaque Config.fuseKey0RevokedBit : Bool
def Config.fuseKey0Revoked : Nat := Config.fuseKey0RevokedBit.toNat
/-- The generation floor as the device is delivered (R334). -/
opaque Config.fuseFloorByte : BitVec 8
def Config.fuseFloor : Nat := Config.fuseFloorByte.toNat
/-- Word j of fused key hash k (R353). -/
opaque Config.fuseKeyHashWord : Nat → Nat → BitVec 32
def Config.fuseKeyHash (k j : Nat) : Nat := (Config.fuseKeyHashWord k j).toNat
/-- The bytes of the boot ROM, which the spec does not list (R24) (DESIGN CHOICE: log entry 15). -/
opaque Config.bootRom : Nat → BitVec 8
/-- Coefficient `j` of phase `q` of the converter's polyphase filter, 64 coefficients for each phase; those of phase 256 end the
interpolation of phase 255 (R119). The spec does not give them (DESIGN CHOICE: log entry 16). -/
opaque Config.asrcCoef : Nat → Nat → BitVec 32
/-- Proportional gain of the Pitch Pipe's loop at a bandwidth in mHz, less 2^-16 per second, in that unit: the spec gives the bandwidth
and the damping, not the gains (R227) (DESIGN CHOICE: log entry 52). -/
opaque Config.ppGain : Nat → BitVec 32
/-- What a converter takes for a sample before the first that it holds (R119) (DESIGN CHOICE: log entry 68). -/
opaque Config.asrcAbsent : Nat → BitVec 32
/-- Coefficient k of the bitstream compensator and of the halfband, which the spec does not list (R278) (DESIGN
CHOICE: log entry 16). -/
opaque Config.bsiComp : Nat → BitVec 32
opaque Config.bsiHalf : Nat → BitVec 32
/-- The ECDSA P-256 check of a signature over a digest under a public key (R329): the standard defines it, not the
spec (DESIGN CHOICE: log entry 15). -/
opaque Config.ecdsaP256 : List Byte → List Byte → List Byte → Bool
/-- AES-256-GCM decryption under the fused device key: nonce, additional data, ciphertext and tag to the plaintext,
none for a tag failure (R331) (DESIGN CHOICE: log entry 15). -/
opaque Config.unwrapKeys : List Byte → List Byte → List Byte → List Byte → Option (List Byte)
/-- The tone of a line whose LEVEL lies beyond its stated range, for an index of the sine table (R393, R399) (DESIGN
CHOICE: log entry 25). -/
opaque Config.toneBeyond : Nat → Nat → BitVec 32
/-- A cable length that its field cannot hold, or below 0, in 0.1 m (R396) (DESIGN CHOICE: log entry 25). -/
opaque Config.lenBeyond : Int → BitVec 16
/-- The threshold in force where SURV_THERM holds a value outside its stated range (R399) (DESIGN CHOICE: log entry 25). -/
opaque Config.thermBeyond : Nat → Nat
/-- What a byte of a retired sector reads as: an erase or a program failed in it (R340, R347). -/
opaque Config.retiredByte : Nat → BitVec 8
/-- The source address of the Host Channel's frames on a port, and whether LAST is set in a frame that is no part of a TUNE
response, by its subtype (R362). -/
opaque Config.hostSa : Nat → BitVec 48
opaque Config.hostLast : Nat → Bool
/-- What a byte of the flash reads as after the k-th failed program or erase over the SPI target (R371). -/
opaque Config.failedByte : Nat → Nat → BitVec 8
/-- The fitted flash has 2 Gbit rather than 1 Gbit (R328). -/
opaque Config.flash2Gbit : Bool
/-- How far into its period of 32 µs the profile of the spread clocks stands at instant 0 of `State.now`, in 1/256 ns (DESIGN CHOICE:
log entry 65). -/
opaque Config.spreadStart : Nat
/-- Free values: the k-th value drawn where the spec leaves a value open (log entry of each use). -/
opaque Config.free : Nat → Nat

end Sys2Proof
end

