-- ==== Sys2Proof/Machine/Map.lean ====
section
/-!
DEFINITION. Sparse maps in one canonical form: what an unlisted key reads as is an argument, a write of that value
removes the entry, and keys rise strictly.
-/
namespace Sys2Proof.Machine

/-- The value at key `k`; an unlisted key reads as `d`. -/
def mget {α : Type} (d : α) (k : Nat) : SMap α → α
  | [] => d
  | (j, v) :: r => if j = k then v else mget d k r

/-- Removes key `k`. -/
def mdel {α : Type} (k : Nat) : SMap α → SMap α
  | [] => []
  | (j, v) :: r => if j = k then mdel k r else (j, v) :: mdel k r

/-- Lists value `v` at key `k`, keeping the keys in rising order. -/
def mput {α : Type} (k : Nat) (v : α) : SMap α → SMap α
  | [] => [(k, v)]
  | (j, w) :: r => if k < j then (k, v) :: (j, w) :: r else if j = k then (k, v) :: r else (j, w) :: mput k v r

/-- Sets key `k` to `v` in canonical form: the value an unlisted key reads as is not listed. -/
def mset {α : Type} [DecidableEq α] (d : α) (k : Nat) (v : α) (m : SMap α) : SMap α :=
  if v = d then mdel k m else mput k v m

/-- Every listed key is above `b`, and keys rise strictly. -/
def mrising {α : Type} (b : Nat) : SMap α → Bool
  | [] => true
  | (j, _) :: r => decide (b ≤ j) && mrising (j + 1) r

/-- The canonical form: rising keys, no entry equal to the unlisted value. -/
def mwf {α : Type} [DecidableEq α] (d : α) (m : SMap α) : Bool :=
  mrising 0 m && m.all (fun e => decide (e.2 ≠ d))

/-- Keeps the entries whose keys satisfy `p`. -/
def mkeep {α : Type} (p : Nat → Bool) (m : SMap α) : SMap α := m.filter (fun e => p e.1)

end Sys2Proof.Machine
end

