-- ==== Sys2Proof/Machine/RegsAudio.lean ====
section
/-!
DEFINITION. Addresses (`A.`) and fields (`F.`) of the registers of DLY, ARB, RVC, STRM, SAP and BSI, as the field tables of the named rules give them: address, highest bit, lowest bit, access type (R7) and reset value (R9). Reserved fields are left out: they read as zero and ignore writes (R8). A register that a selector register picks carries the instance above bit 32 of its address.
-/
namespace Sys2Proof.Machine

/-! ## DLY -/
/-- Address of DLY_STAT (R146). -/
def A.DLY_STAT : Nat := 0x20070000
def F.DLY_STAT_GOREJ : Fd := ⟨A.DLY_STAT, 2, 2, .w1c, 0⟩
def F.DLY_STAT_BADLINE : Fd := ⟨A.DLY_STAT, 1, 1, .w1c, 0⟩
def F.DLY_STAT_DESCWR : Fd := ⟨A.DLY_STAT, 0, 0, .w1c, 0⟩
/-- Address of DLY_POOL_USED (R146). -/
def A.DLY_POOL_USED : Nat := 0x20070004
def F.DLY_POOL_USED_WORDS : Fd := ⟨A.DLY_POOL_USED, 23, 0, .ro, 0⟩
/-- Address of DLY_DRAM_USED (R146). -/
def A.DLY_DRAM_USED : Nat := 0x20070008
def F.DLY_DRAM_USED_BLOCKS : Fd := ⟨A.DLY_DRAM_USED, 25, 0, .ro, 0⟩
/-- Address of DLY_SCRUB (R146). -/
def A.DLY_SCRUB : Nat := 0x2007000C
def F.DLY_SCRUB_PERIOD : Fd := ⟨A.DLY_SCRUB, 15, 0, .rw, 0x258⟩
/-- Address of DLY_LINE_INDEX (R146). -/
def A.DLY_LINE_INDEX : Nat := 0x20070010
def F.DLY_LINE_INDEX_LINE : Fd := ⟨A.DLY_LINE_INDEX, 11, 0, .rw, 0⟩
/-- Address of DLY_LINE_DATA (R146). -/
def A.DLY_LINE_DATA (j : Nat) (i : Nat) : Nat := 0x20070014 + 0x4 * j + 0x100000000 * i
def F.DLY_LINE_DATA_WORD (j : Nat) (i : Nat) : Fd := ⟨A.DLY_LINE_DATA j i, 31, 0, .rw, 0⟩
/-- Address of DLY_LINE_STAT (R146). -/
def A.DLY_LINE_STAT (i : Nat) : Nat := 0x20070024 + 0x100000000 * i
def F.DLY_LINE_STAT_STATE (i : Nat) : Fd := ⟨A.DLY_LINE_STAT i, 31, 30, .ro, 0⟩
def F.DLY_LINE_STAT_FILLED (i : Nat) : Fd := ⟨A.DLY_LINE_STAT i, 29, 29, .ro, 0⟩
def F.DLY_LINE_STAT_DELAY (i : Nat) : Fd := ⟨A.DLY_LINE_STAT i, 23, 0, .ro, 0⟩
/-- Address of DLY_CHG_LINE (R146). -/
def A.DLY_CHG_LINE : Nat := 0x20070030
def F.DLY_CHG_LINE_MODE : Fd := ⟨A.DLY_CHG_LINE, 31, 31, .rw, 0⟩
def F.DLY_CHG_LINE_LINE : Fd := ⟨A.DLY_CHG_LINE, 11, 0, .rw, 0⟩
/-- Address of DLY_CHG_DELAY (R146). -/
def A.DLY_CHG_DELAY : Nat := 0x20070034
def F.DLY_CHG_DELAY_DELAY : Fd := ⟨A.DLY_CHG_DELAY, 23, 0, .rw, 0⟩
/-- Address of DLY_CHG_BREATH_LO (R146). -/
def A.DLY_CHG_BREATH_LO : Nat := 0x20070038
def F.DLY_CHG_BREATH_LO_B_LO : Fd := ⟨A.DLY_CHG_BREATH_LO, 31, 0, .rw, 0⟩
/-- Address of DLY_CHG_BREATH_HI (R146). -/
def A.DLY_CHG_BREATH_HI : Nat := 0x2007003C
def F.DLY_CHG_BREATH_HI_B_HI : Fd := ⟨A.DLY_CHG_BREATH_HI, 15, 0, .rw, 0⟩
/-- Address of DLY_CHG_POST (R146). -/
def A.DLY_CHG_POST : Nat := 0x20070040
def F.DLY_CHG_POST_KEY : Fd := ⟨A.DLY_CHG_POST, 31, 16, .wo, 0⟩
def F.DLY_CHG_POST_GO : Fd := ⟨A.DLY_CHG_POST, 0, 0, .wo, 0⟩
/-- Address of DLY_CHG_STAT (R146). -/
def A.DLY_CHG_STAT : Nat := 0x20070044
def F.DLY_CHG_STAT_PENDING : Fd := ⟨A.DLY_CHG_STAT, 22, 16, .ro, 0⟩
def F.DLY_CHG_STAT_RESULT : Fd := ⟨A.DLY_CHG_STAT, 2, 0, .ro, 0⟩
/-- Address of DLY_LATE (R146). -/
def A.DLY_LATE : Nat := 0x20070048
def F.DLY_LATE_FETCH : Fd := ⟨A.DLY_LATE, 31, 16, .ro, 0⟩
def F.DLY_LATE_FLUSH : Fd := ⟨A.DLY_LATE, 15, 0, .ro, 0⟩
/-- Address of DLY_ECC (R146). -/
def A.DLY_ECC : Nat := 0x2007004C
def F.DLY_ECC_UE : Fd := ⟨A.DLY_ECC, 31, 16, .ro, 0⟩
def F.DLY_ECC_CE : Fd := ⟨A.DLY_ECC, 15, 0, .ro, 0⟩
/-- Address of DLY_UELINE (R146). -/
def A.DLY_UELINE : Nat := 0x20070050
def F.DLY_UELINE_VALID : Fd := ⟨A.DLY_UELINE, 31, 31, .w1c, 0⟩
def F.DLY_UELINE_LINE : Fd := ⟨A.DLY_UELINE, 11, 0, .ro, 0⟩
/-- Address of DLY_DMA_IRQ (R146). -/
def A.DLY_DMA_IRQ : Nat := 0x20070060
def F.DLY_DMA_IRQ_EVT : Fd := ⟨A.DLY_DMA_IRQ, 15, 0, .w1c, 0⟩
/-- Address of DMA_CTRL (R146). -/
def A.DMA_CTRL (k : Nat) : Nat := 0x20070100 + 0x20 * k
def F.DMA_CTRL_WINDOW (k : Nat) : Fd := ⟨A.DMA_CTRL k, 20, 16, .rw, 0⟩
def F.DMA_CTRL_RANK (k : Nat) : Fd := ⟨A.DMA_CTRL k, 10, 8, .rw, (if k ≤ 1 then 1 else if k = 2 then 2 else if k = 3 then 3 else 5)⟩
def F.DMA_CTRL_IE (k : Nat) : Fd := ⟨A.DMA_CTRL k, 3, 3, .rw, 0⟩
def F.DMA_CTRL_XLATE (k : Nat) : Fd := ⟨A.DMA_CTRL k, 2, 2, .rw, 0⟩
def F.DMA_CTRL_ABORT (k : Nat) : Fd := ⟨A.DMA_CTRL k, 1, 1, .wo, 0⟩
def F.DMA_CTRL_GO (k : Nat) : Fd := ⟨A.DMA_CTRL k, 0, 0, .wo, 0⟩
/-- Address of DMA_SRC_LO (R146). -/
def A.DMA_SRC_LO (k : Nat) : Nat := 0x20070104 + 0x20 * k
def F.DMA_SRC_LO_ADDR_LO (k : Nat) : Fd := ⟨A.DMA_SRC_LO k, 31, 0, .rw, 0⟩
/-- Address of DMA_DST_LO (R146). -/
def A.DMA_DST_LO (k : Nat) : Nat := 0x2007010C + 0x20 * k
def F.DMA_DST_LO_ADDR_LO (k : Nat) : Fd := ⟨A.DMA_DST_LO k, 31, 0, .rw, 0⟩
/-- Address of DMA_SRC_HI (R146). -/
def A.DMA_SRC_HI (k : Nat) : Nat := 0x20070108 + 0x20 * k
def F.DMA_SRC_HI_ADDR_HI (k : Nat) : Fd := ⟨A.DMA_SRC_HI k, 7, 0, .rw, 0⟩
/-- Address of DMA_DST_HI (R146). -/
def A.DMA_DST_HI (k : Nat) : Nat := 0x20070110 + 0x20 * k
def F.DMA_DST_HI_ADDR_HI (k : Nat) : Fd := ⟨A.DMA_DST_HI k, 7, 0, .rw, 0⟩
/-- Address of DMA_COUNT (R146). -/
def A.DMA_COUNT (k : Nat) : Nat := 0x20070114 + 0x20 * k
def F.DMA_COUNT_BYTES (k : Nat) : Fd := ⟨A.DMA_COUNT k, 27, 0, .rw, 0⟩
/-- Address of DMA_STAT (R146). -/
def A.DMA_STAT (k : Nat) : Nat := 0x20070118 + 0x20 * k
def F.DMA_STAT_PREEMPTS (k : Nat) : Fd := ⟨A.DMA_STAT k, 31, 16, .ro, 0⟩
def F.DMA_STAT_ERR (k : Nat) : Fd := ⟨A.DMA_STAT k, 7, 4, .ro, 0⟩
def F.DMA_STAT_ABORT_LATE (k : Nat) : Fd := ⟨A.DMA_STAT k, 3, 3, .ro, 0⟩
def F.DMA_STAT_STATE (k : Nat) : Fd := ⟨A.DMA_STAT k, 2, 0, .ro, 0⟩

/-! ## ARB -/
/-- Address of ARB_RANK0 (R147). -/
def A.ARB_RANK0 : Nat := 0x20080000
def F.ARB_RANK0_RANK (r : Nat) : Fd := ⟨A.ARB_RANK0, 4 * r + 2, 4 * r, (if r = 1 then .ro else .rw), (0x65433100 / 16 ^ r % 8)⟩
/-- Address of ARB_RANK1 (R147). -/
def A.ARB_RANK1 : Nat := 0x20080004
def F.ARB_RANK1_RANK8 : Fd := ⟨A.ARB_RANK1, 2, 0, .rw, 7⟩
/-- Address of ARB_SEL (R147). -/
def A.ARB_SEL : Nat := 0x20080010
def F.ARB_SEL_REQ : Fd := ⟨A.ARB_SEL, 3, 0, .rw, 0⟩
/-- Address of ARB_WAITMAX (R147). -/
def A.ARB_WAITMAX (i : Nat) : Nat := 0x20080014 + 0x100000000 * i
def F.ARB_WAITMAX_TARGET (i : Nat) : Fd := ⟨A.ARB_WAITMAX i, 31, 24, .ro, 0⟩
def F.ARB_WAITMAX_CYCLES (i : Nat) : Fd := ⟨A.ARB_WAITMAX i, 15, 0, .ro, 0⟩
/-- Address of ARB_HINT (R147). -/
def A.ARB_HINT (i : Nat) : Nat := 0x20080018 + 0x100000000 * i
def F.ARB_HINT_WAITING (i : Nat) : Fd := ⟨A.ARB_HINT i, 31, 31, .ro, 0⟩
def F.ARB_HINT_HINT (i : Nat) : Fd := ⟨A.ARB_HINT i, 11, 0, .ro, 0⟩
/-- Address of ARB_GRANTS (R147). -/
def A.ARB_GRANTS (i : Nat) : Nat := 0x2008001C + 0x100000000 * i
def F.ARB_GRANTS_COUNT (i : Nat) : Fd := ⟨A.ARB_GRANTS i, 31, 0, .ro, 0⟩
/-- Address of ARB_CLR (R147). -/
def A.ARB_CLR : Nat := 0x20080020
def F.ARB_CLR_STATS : Fd := ⟨A.ARB_CLR, 0, 0, .wo, 0⟩
/-- Address of ARB_TSEL (R147). -/
def A.ARB_TSEL : Nat := 0x20080030
def F.ARB_TSEL_TARGET : Fd := ⟨A.ARB_TSEL, 7, 0, .rw, 0⟩
/-- Address of ARB_OWNER (R147). -/
def A.ARB_OWNER (i : Nat) : Nat := 0x20080034 + 0x100000000 * i
def F.ARB_OWNER_HELD (i : Nat) : Fd := ⟨A.ARB_OWNER i, 31, 31, .ro, 0⟩
def F.ARB_OWNER_REQ (i : Nat) : Fd := ⟨A.ARB_OWNER i, 3, 0, .ro, 0⟩

/-! ## RVC -/
/-- Address of RVC_STAT (R166). -/
def A.RVC_STAT : Nat := 0x20090000
def F.RVC_STAT_STARTED : Fd := ⟨A.RVC_STAT, 31, 16, .ro, 0⟩
def F.RVC_STAT_HELD : Fd := ⟨A.RVC_STAT, 15, 0, .ro, 0⟩
/-- Address of RVC_LEASE (R166). -/
def A.RVC_LEASE : Nat := 0x20090004
def F.RVC_LEASE_MS : Fd := ⟨A.RVC_LEASE, 15, 0, .rw, 0x1388⟩
/-- Address of RVC_BREAK (R166). -/
def A.RVC_BREAK : Nat := 0x20090008
def F.RVC_BREAK_KEY : Fd := ⟨A.RVC_BREAK, 31, 16, .wo, 0⟩
def F.RVC_BREAK_SECTION : Fd := ⟨A.RVC_BREAK, 11, 8, .wo, 0⟩
def F.RVC_BREAK_GO : Fd := ⟨A.RVC_BREAK, 0, 0, .wo, 0⟩
/-- Address of RVC_EVT (R166). -/
def A.RVC_EVT : Nat := 0x2009000C
def F.RVC_EVT_DONE : Fd := ⟨A.RVC_EVT, 31, 16, .w1c, 0⟩
def F.RVC_EVT_BROKEN : Fd := ⟨A.RVC_EVT, 15, 0, .w1c, 0⟩
/-- Address of RVC_LOADMAX (R166). -/
def A.RVC_LOADMAX : Nat := 0x20090010
def F.RVC_LOADMAX_US : Fd := ⟨A.RVC_LOADMAX, 15, 0, .ro, 0⟩
/-- Address of RVC_CLR (R166). -/
def A.RVC_CLR : Nat := 0x20090014
def F.RVC_CLR_LOADMAX : Fd := ⟨A.RVC_CLR, 0, 0, .wo, 0⟩
/-- Address of SECn_CMD (R166). -/
def A.SECn_CMD (n : Nat) : Nat := 0x20090100 + 0x40 * n
def F.SECn_CMD_TICKET (n : Nat) : Fd := ⟨A.SECn_CMD n, 31, 16, .wo, 0⟩
def F.SECn_CMD_OP (n : Nat) : Fd := ⟨A.SECn_CMD n, 3, 0, .wo, 0⟩
/-- Address of SECn_LOCK (R166). -/
def A.SECn_LOCK (n : Nat) : Nat := 0x20090104 + 0x40 * n
def F.SECn_LOCK_TICKET (n : Nat) : Fd := ⟨A.SECn_LOCK n, 31, 16, .ro, 0⟩
def F.SECn_LOCK_HOLDER (n : Nat) : Fd := ⟨A.SECn_LOCK n, 15, 11, .ro, 0⟩
def F.SECn_LOCK_LASTEND (n : Nat) : Fd := ⟨A.SECn_LOCK n, 10, 7, .ro, 0⟩
def F.SECn_LOCK_STATE (n : Nat) : Fd := ⟨A.SECn_LOCK n, 2, 0, .ro, 0⟩
/-- Address of SECn_REMAIN (R166). -/
def A.SECn_REMAIN (n : Nat) : Nat := 0x20090108 + 0x40 * n
def F.SECn_REMAIN_MS (n : Nat) : Fd := ⟨A.SECn_REMAIN n, 15, 0, .ro, 0⟩
/-- Address of SECn_RESULT (R166). -/
def A.SECn_RESULT (n : Nat) : Nat := 0x2009010C + 0x40 * n
def F.SECn_RESULT_VERR (n : Nat) : Fd := ⟨A.SECn_RESULT n, 19, 16, .ro, 0⟩
def F.SECn_RESULT_LASTOP (n : Nat) : Fd := ⟨A.SECn_RESULT n, 11, 8, .ro, 0⟩
def F.SECn_RESULT_CODE (n : Nat) : Fd := ⟨A.SECn_RESULT n, 3, 0, .ro, 0⟩
/-- Address of SECn_STAT (R166). -/
def A.SECn_STAT (n : Nat) : Nat := 0x20090110 + 0x40 * n
def F.SECn_STAT_RAMPIN (n : Nat) : Fd := ⟨A.SECn_STAT n, 31, 31, .ro, 0⟩
def F.SECn_STAT_RETAINED (n : Nat) : Fd := ⟨A.SECn_STAT n, 30, 30, .ro, 0⟩
def F.SECn_STAT_LATE (n : Nat) : Fd := ⟨A.SECn_STAT n, 29, 29, .w1c, 0⟩
def F.SECn_STAT_CORES (n : Nat) : Fd := ⟨A.SECn_STAT n, 23, 16, .ro, 0⟩
def F.SECn_STAT_LIVEBUF (n : Nat) : Fd := ⟨A.SECn_STAT n, 8, 8, .ro, 0⟩
def F.SECn_STAT_STATE (n : Nat) : Fd := ⟨A.SECn_STAT n, 2, 0, .ro, 0⟩
/-- Address of SECn_GEN (R166). -/
def A.SECn_GEN (n : Nat) : Nat := 0x20090114 + 0x40 * n
def F.SECn_GEN_GEN (n : Nat) : Fd := ⟨A.SECn_GEN n, 31, 0, .ro, 0⟩
/-- Address of SECn_CFG (R166). -/
def A.SECn_CFG (n : Nat) : Nat := 0x20090118 + 0x40 * n
def F.SECn_CFG_VACATE (n : Nat) : Fd := ⟨A.SECn_CFG n, 2, 2, .rw, 0⟩
def F.SECn_CFG_RETAIN (n : Nat) : Fd := ⟨A.SECn_CFG n, 1, 1, .rw, 0⟩
def F.SECn_CFG_WHEN (n : Nat) : Fd := ⟨A.SECn_CFG n, 0, 0, .rw, 0⟩
/-- Address of SECn_RESTART_LO (R166). -/
def A.SECn_RESTART_LO (n : Nat) : Nat := 0x2009011C + 0x40 * n
def F.SECn_RESTART_LO_R_LO (n : Nat) : Fd := ⟨A.SECn_RESTART_LO n, 31, 0, .rw, 0⟩
/-- Address of SECn_RESTART_HI (R166). -/
def A.SECn_RESTART_HI (n : Nat) : Nat := 0x20090120 + 0x40 * n
def F.SECn_RESTART_HI_R_HI (n : Nat) : Fd := ⟨A.SECn_RESTART_HI n, 15, 0, .rw, 0⟩
/-- Address of SECn_STOP_LO (R166). -/
def A.SECn_STOP_LO (n : Nat) : Nat := 0x20090124 + 0x40 * n
def F.SECn_STOP_LO_S_LO (n : Nat) : Fd := ⟨A.SECn_STOP_LO n, 31, 0, .ro, 0⟩
/-- Address of SECn_STOP_HI (R166). -/
def A.SECn_STOP_HI (n : Nat) : Nat := 0x20090128 + 0x40 * n
def F.SECn_STOP_HI_S_HI (n : Nat) : Fd := ⟨A.SECn_STOP_HI n, 15, 0, .ro, 0⟩

/-! ## STRM -/
/-- Address of STRM_CFG (R222). -/
def A.STRM_CFG : Nat := 0x200A0000
def F.STRM_CFG_RESET_BREATHS : Fd := ⟨A.STRM_CFG, 31, 16, .rw, 0x3c0⟩
def F.STRM_CFG_PATH_TMO : Fd := ⟨A.STRM_CFG, 15, 8, .rw, 0x20⟩
def F.STRM_CFG_REPEAT_MAX : Fd := ⟨A.STRM_CFG, 7, 0, .rw, 8⟩
/-- Address of STRM_STAT (R222). -/
def A.STRM_STAT : Nat := 0x200A0004
def F.STRM_STAT_DESCWR : Fd := ⟨A.STRM_STAT, 31, 31, .w1c, 0⟩
def F.STRM_STAT_BADDESC : Fd := ⟨A.STRM_STAT, 30, 30, .w1c, 0⟩
def F.STRM_STAT_GCLWR : Fd := ⟨A.STRM_STAT, 29, 29, .w1c, 0⟩
def F.STRM_STAT_RX_CH : Fd := ⟨A.STRM_STAT, 27, 16, .ro, 0⟩
def F.STRM_STAT_TX_CH : Fd := ⟨A.STRM_STAT, 11, 0, .ro, 0⟩
/-- Address of STRM_SEL (R222). -/
def A.STRM_SEL : Nat := 0x200A0010
def F.STRM_SEL_KIND : Fd := ⟨A.STRM_SEL, 29, 28, .rw, 0⟩
def F.STRM_SEL_INDEX : Fd := ⟨A.STRM_SEL, 5, 0, .rw, 0⟩
/-- Address of STRM_DESC (R222). -/
def A.STRM_DESC (j : Nat) (i : Nat) : Nat := 0x200A0020 + 0x4 * j + 0x100000000 * i
def F.STRM_DESC_WORD (j : Nat) (i : Nat) : Fd := ⟨A.STRM_DESC j i, 31, 0, .rw, 0⟩
/-- Address of STRM_DSTAT (R222). -/
def A.STRM_DSTAT (i : Nat) : Nat := 0x200A0050 + 0x100000000 * i
def F.STRM_DSTAT_STATE (i : Nat) : Fd := ⟨A.STRM_DSTAT i, 31, 29, .ro, 0⟩
def F.STRM_DSTAT_PATH_A (i : Nat) : Fd := ⟨A.STRM_DSTAT i, 28, 28, .ro, 0⟩
def F.STRM_DSTAT_PATH_B (i : Nat) : Fd := ⟨A.STRM_DSTAT i, 27, 27, .ro, 0⟩
def F.STRM_DSTAT_DERR (i : Nat) : Fd := ⟨A.STRM_DSTAT i, 26, 24, .ro, 0⟩
def F.STRM_DSTAT_RAMP_K (i : Nat) : Fd := ⟨A.STRM_DSTAT i, 7, 0, .ro, 0⟩
/-- Address of STRM_SCNT (R222). -/
def A.STRM_SCNT (j : Nat) (i : Nat) : Nat := 0x200A0060 + 0x4 * j + 0x100000000 * i
def F.STRM_SCNT_COUNT (j : Nat) (i : Nat) : Fd := ⟨A.STRM_SCNT j i, 31, 0, .ro, 0⟩
/-- Address of STRM_CLR (R222). -/
def A.STRM_CLR : Nat := 0x200A0090
def F.STRM_CLR_CNT : Fd := ⟨A.STRM_CLR, 0, 0, .wo, 0⟩
/-- Address of STRM_GCL_PORT (R222). -/
def A.STRM_GCL_PORT : Nat := 0x200A0100
def F.STRM_GCL_PORT_PORT : Fd := ⟨A.STRM_GCL_PORT, 1, 0, .rw, 0⟩
/-- Address of STRM_GCL_LEN (R222). -/
def A.STRM_GCL_LEN (i : Nat) : Nat := 0x200A0104 + 0x100000000 * i
def F.STRM_GCL_LEN_LEN (i : Nat) : Fd := ⟨A.STRM_GCL_LEN i, 6, 0, .rw, 1⟩
/-- Address of STRM_GCL_BREATH_LO (R222). -/
def A.STRM_GCL_BREATH_LO (i : Nat) : Nat := 0x200A0108 + 0x100000000 * i
def F.STRM_GCL_BREATH_LO_B_LO (i : Nat) : Fd := ⟨A.STRM_GCL_BREATH_LO i, 31, 0, .rw, 0⟩
/-- Address of STRM_GCL_BREATH_HI (R222). -/
def A.STRM_GCL_BREATH_HI (i : Nat) : Nat := 0x200A010C + 0x100000000 * i
def F.STRM_GCL_BREATH_HI_B_HI (i : Nat) : Fd := ⟨A.STRM_GCL_BREATH_HI i, 15, 0, .rw, 0⟩
/-- Address of STRM_GCL_COMMIT (R222). -/
def A.STRM_GCL_COMMIT (i : Nat) : Nat := 0x200A0110 + 0x100000000 * i
def F.STRM_GCL_COMMIT_KEY (i : Nat) : Fd := ⟨A.STRM_GCL_COMMIT i, 31, 16, .wo, 0⟩
def F.STRM_GCL_COMMIT_GO (i : Nat) : Fd := ⟨A.STRM_GCL_COMMIT i, 0, 0, .wo, 0⟩
/-- Address of STRM_GCL_STAT (R222). -/
def A.STRM_GCL_STAT (i : Nat) : Nat := 0x200A0114 + 0x100000000 * i
def F.STRM_GCL_STAT_BUSY (i : Nat) : Fd := ⟨A.STRM_GCL_STAT i, 31, 31, .ro, 0⟩
def F.STRM_GCL_STAT_RESULT (i : Nat) : Fd := ⟨A.STRM_GCL_STAT i, 30, 28, .ro, 0⟩
def F.STRM_GCL_STAT_OPER_LEN (i : Nat) : Fd := ⟨A.STRM_GCL_STAT i, 6, 0, .ro, 1⟩
/-- Address of STRM_CBS_SLOPE (R222). -/
def A.STRM_CBS_SLOPE (i : Nat) : Nat := 0x200A0118 + 0x100000000 * i
def F.STRM_CBS_SLOPE_SLOPE (i : Nat) : Fd := ⟨A.STRM_CBS_SLOPE i, 24, 0, .rw, 0⟩
/-- Address of STRM_SA_HI (R222). -/
def A.STRM_SA_HI (p : Nat) : Nat := 0x200A0180 + 0x8 * p
def F.STRM_SA_HI_SA_HI (p : Nat) : Fd := ⟨A.STRM_SA_HI p, 15, 0, .rw, 0⟩
/-- Address of STRM_SA_LO (R222). -/
def A.STRM_SA_LO (p : Nat) : Nat := 0x200A0184 + 0x8 * p
def F.STRM_SA_LO_SA_LO (p : Nat) : Fd := ⟨A.STRM_SA_LO p, 31, 0, .rw, 0⟩
/-- Address of STRM_GCL_ADMIN (R222). -/
def A.STRM_GCL_ADMIN (k : Nat) (i : Nat) : Nat := 0x200A0400 + 0x4 * k + 0x100000000 * i
def F.STRM_GCL_ADMIN_GATES (k : Nat) (i : Nat) : Fd := ⟨A.STRM_GCL_ADMIN k i, 31, 24, .rw, (if k = 0 then 255 else 0)⟩
def F.STRM_GCL_ADMIN_INTERVAL (k : Nat) (i : Nat) : Fd := ⟨A.STRM_GCL_ADMIN k i, 19, 0, .rw, 0⟩
/-- Address of STRM_GCL_OPER (R222). -/
def A.STRM_GCL_OPER (k : Nat) (i : Nat) : Nat := 0x200A0500 + 0x4 * k + 0x100000000 * i
def F.STRM_GCL_OPER_GATES (k : Nat) (i : Nat) : Fd := ⟨A.STRM_GCL_OPER k i, 31, 24, .ro, (if k = 0 then 255 else 0)⟩
def F.STRM_GCL_OPER_INTERVAL (k : Nat) (i : Nat) : Fd := ⟨A.STRM_GCL_OPER k i, 19, 0, .ro, 0⟩

/-! ## SAP -/
/-- Address of SAP_CFG (R284). -/
def A.SAP_CFG : Nat := 0x20110000
def F.SAP_CFG_REPEAT_MAX : Fd := ⟨A.SAP_CFG, 7, 0, .rw, 8⟩
/-- Address of SAP_STAT (R284). -/
def A.SAP_STAT : Nat := 0x20110004
def F.SAP_STAT_RX_SLOTS : Fd := ⟨A.SAP_STAT, 24, 16, .ro, 0⟩
def F.SAP_STAT_TX_SLOTS : Fd := ⟨A.SAP_STAT, 8, 0, .ro, 0⟩
/-- Address of SAP_EVT (R284). -/
def A.SAP_EVT : Nat := 0x20110008
def F.SAP_EVT_REPAIR : Fd := ⟨A.SAP_EVT, 31, 16, .w1c, 0⟩
def F.SAP_EVT_LOCLK : Fd := ⟨A.SAP_EVT, 15, 0, .w1c, 0⟩
/-- Address of SAPp_CFG (R284). -/
def A.SAPp_CFG (p : Nat) : Nat := 0x20110100 + 0x40 * p
def F.SAPp_CFG_EN (p : Nat) : Fd := ⟨A.SAPp_CFG p, 31, 31, .rw, 0⟩
def F.SAPp_CFG_MASTER (p : Nat) : Fd := ⟨A.SAPp_CFG p, 30, 30, .rw, 0⟩
def F.SAPp_CFG_DOMAIN (p : Nat) : Fd := ⟨A.SAPp_CFG p, 29, 29, .rw, 0⟩
def F.SAPp_CFG_FMT (p : Nat) : Fd := ⟨A.SAPp_CFG p, 28, 27, .rw, 0⟩
def F.SAPp_CFG_RATE (p : Nat) : Fd := ⟨A.SAPp_CFG p, 26, 24, .rw, 3⟩
def F.SAPp_CFG_SLOTS (p : Nat) : Fd := ⟨A.SAPp_CFG p, 23, 18, .rw, 2⟩
def F.SAPp_CFG_SLOTW (p : Nat) : Fd := ⟨A.SAPp_CFG p, 17, 16, .rw, 2⟩
def F.SAPp_CFG_WORD (p : Nat) : Fd := ⟨A.SAPp_CFG p, 15, 14, .rw, 1⟩
def F.SAPp_CFG_FSW (p : Nat) : Fd := ⟨A.SAPp_CFG p, 13, 13, .rw, 0⟩
def F.SAPp_CFG_DELAY (p : Nat) : Fd := ⟨A.SAPp_CFG p, 12, 12, .rw, 0⟩
def F.SAPp_CFG_BCLK_INV (p : Nat) : Fd := ⟨A.SAPp_CFG p, 11, 11, .rw, 0⟩
def F.SAPp_CFG_FS_INV (p : Nat) : Fd := ⟨A.SAPp_CFG p, 10, 10, .rw, 0⟩
def F.SAPp_CFG_TXHIZ (p : Nat) : Fd := ⟨A.SAPp_CFG p, 9, 9, .rw, 0⟩
def F.SAPp_CFG_RETCLK (p : Nat) : Fd := ⟨A.SAPp_CFG p, 8, 8, .rw, 0⟩
/-- Address of SAPp_MAP (R284). -/
def A.SAPp_MAP (p : Nat) : Nat := 0x20110104 + 0x40 * p
def F.SAPp_MAP_TAP_BASE (p : Nat) : Fd := ⟨A.SAPp_MAP p, 23, 16, .rw, 0⟩
def F.SAPp_MAP_TXLAG (p : Nat) : Fd := ⟨A.SAPp_MAP p, 13, 12, .rw, 0⟩
def F.SAPp_MAP_BLOCKLEN (p : Nat) : Fd := ⟨A.SAPp_MAP p, 5, 0, .rw, 8⟩
/-- Address of SAPp_TIMING (R284). -/
def A.SAPp_TIMING (p : Nat) : Nat := 0x20110108 + 0x40 * p
def F.SAPp_TIMING_ALIGN (p : Nat) : Fd := ⟨A.SAPp_TIMING p, 31, 31, .rw, 1⟩
def F.SAPp_TIMING_FRAME_OFS (p : Nat) : Fd := ⟨A.SAPp_TIMING p, 25, 16, .rw, 0⟩
def F.SAPp_TIMING_DUE_MARGIN (p : Nat) : Fd := ⟨A.SAPp_TIMING p, 15, 0, .rw, 0xc8⟩
/-- Address of SAPp_RXMASK (R284). -/
def A.SAPp_RXMASK (p : Nat) : Nat := 0x2011010C + 0x40 * p
def F.SAPp_RXMASK_MASK (p : Nat) : Fd := ⟨A.SAPp_RXMASK p, 31, 0, .rw, 0⟩
/-- Address of SAPp_TXMASK (R284). -/
def A.SAPp_TXMASK (p : Nat) : Nat := 0x20110110 + 0x40 * p
def F.SAPp_TXMASK_MASK (p : Nat) : Fd := ⟨A.SAPp_TXMASK p, 31, 0, .rw, 0⟩
/-- Address of SAPp_EPOCH_FRAME (R284). -/
def A.SAPp_EPOCH_FRAME (p : Nat) : Nat := 0x20110114 + 0x40 * p
def F.SAPp_EPOCH_FRAME_FRAME (p : Nat) : Fd := ⟨A.SAPp_EPOCH_FRAME p, 31, 0, .ro, 0⟩
/-- Address of SAPp_EPOCH_BREATH (R284). -/
def A.SAPp_EPOCH_BREATH (p : Nat) : Nat := 0x20110118 + 0x40 * p
def F.SAPp_EPOCH_BREATH_BREATH (p : Nat) : Fd := ⟨A.SAPp_EPOCH_BREATH p, 31, 0, .ro, 0⟩
/-- Address of SAPp_STAT (R284). -/
def A.SAPp_STAT (p : Nat) : Nat := 0x2011011C + 0x40 * p
def F.SAPp_STAT_STATE (p : Nat) : Fd := ⟨A.SAPp_STAT p, 31, 29, .ro, 0⟩
def F.SAPp_STAT_DERR (p : Nat) : Fd := ⟨A.SAPp_STAT p, 28, 26, .ro, 0⟩
def F.SAPp_STAT_CFGWR (p : Nat) : Fd := ⟨A.SAPp_STAT p, 25, 25, .w1c, 0⟩
def F.SAPp_STAT_MASKREJ (p : Nat) : Fd := ⟨A.SAPp_STAT p, 24, 24, .w1c, 0⟩
def F.SAPp_STAT_LOCLK_EV (p : Nat) : Fd := ⟨A.SAPp_STAT p, 23, 23, .w1c, 0⟩
def F.SAPp_STAT_REPAIRED (p : Nat) : Fd := ⟨A.SAPp_STAT p, 22, 22, .w1c, 0⟩
/-- Address of SAPp_FRAME (R284). -/
def A.SAPp_FRAME (p : Nat) : Nat := 0x20110120 + 0x40 * p
def F.SAPp_FRAME_FRAME (p : Nat) : Fd := ⟨A.SAPp_FRAME p, 31, 0, .ro, 0⟩
/-- Address of SAPp_BLK_TS_LO (R284). -/
def A.SAPp_BLK_TS_LO (p : Nat) : Nat := 0x20110124 + 0x40 * p
def F.SAPp_BLK_TS_LO_NS (p : Nat) : Fd := ⟨A.SAPp_BLK_TS_LO p, 31, 0, .ro, 0⟩
/-- Address of SAPp_BLK_TS_HI (R284). -/
def A.SAPp_BLK_TS_HI (p : Nat) : Nat := 0x20110128 + 0x40 * p
def F.SAPp_BLK_TS_HI_NS (p : Nat) : Fd := ⟨A.SAPp_BLK_TS_HI p, 31, 0, .ro, 0⟩
/-- Address of SAPp_PHASE (R284). -/
def A.SAPp_PHASE (p : Nat) : Nat := 0x2011012C + 0x40 * p
def F.SAPp_PHASE_PHASE (p : Nat) : Fd := ⟨A.SAPp_PHASE p, 31, 0, .ro, 0⟩
/-- Address of SAPp_REPAIR (R284). -/
def A.SAPp_REPAIR (p : Nat) : Nat := 0x20110130 + 0x40 * p
def F.SAPp_REPAIR_BREATH (p : Nat) : Fd := ⟨A.SAPp_REPAIR p, 31, 0, .ro, 0⟩
/-- Address of SAPp_SLIP (R284). -/
def A.SAPp_SLIP (p : Nat) : Nat := 0x20110134 + 0x40 * p
def F.SAPp_SLIP_REPAIRS (p : Nat) : Fd := ⟨A.SAPp_SLIP p, 31, 16, .ro, 0⟩
def F.SAPp_SLIP_SLIP (p : Nat) : Fd := ⟨A.SAPp_SLIP p, 15, 0, .ro, 0⟩
/-- Address of SAPp_CNT0 (R284). -/
def A.SAPp_CNT0 (p : Nat) : Nat := 0x20110138 + 0x40 * p
def F.SAPp_CNT0_UNDERRUN (p : Nat) : Fd := ⟨A.SAPp_CNT0 p, 31, 16, .ro, 0⟩
def F.SAPp_CNT0_OVERRUN (p : Nat) : Fd := ⟨A.SAPp_CNT0 p, 15, 0, .ro, 0⟩
/-- Address of SAPp_CNT1 (R284). -/
def A.SAPp_CNT1 (p : Nat) : Nat := 0x2011013C + 0x40 * p
def F.SAPp_CNT1_TXUNDER (p : Nat) : Fd := ⟨A.SAPp_CNT1 p, 31, 16, .ro, 0⟩
def F.SAPp_CNT1_LOSSES (p : Nat) : Fd := ⟨A.SAPp_CNT1 p, 15, 8, .ro, 0⟩
def F.SAPp_CNT1_BADFRAME (p : Nat) : Fd := ⟨A.SAPp_CNT1 p, 7, 0, .ro, 0⟩
/-- Address of SAPp_CABLE_CFG (R284). -/
def A.SAPp_CABLE_CFG (p : Nat) : Nat := 0x20110500 + 0x8 * p
def F.SAPp_CABLE_CFG_MEAS_EN (p : Nat) : Fd := ⟨A.SAPp_CABLE_CFG p, 16, 16, .rw, 0⟩
def F.SAPp_CABLE_CFG_TURN (p : Nat) : Fd := ⟨A.SAPp_CABLE_CFG p, 15, 0, .rw, 0⟩
/-- Address of SAPp_CABLE_STAT (R284). -/
def A.SAPp_CABLE_STAT (p : Nat) : Nat := 0x20110504 + 0x8 * p
def F.SAPp_CABLE_STAT_VALID (p : Nat) : Fd := ⟨A.SAPp_CABLE_STAT p, 31, 31, .ro, 0⟩
def F.SAPp_CABLE_STAT_RTT (p : Nat) : Fd := ⟨A.SAPp_CABLE_STAT p, 23, 0, .ro, 0⟩

/-! ## BSI -/
/-- Address of BSI_CTRL (R285). -/
def A.BSI_CTRL : Nat := 0x20120000
def F.BSI_CTRL_CLK_EN : Fd := ⟨A.BSI_CTRL, 7, 4, .rw, 0⟩
def F.BSI_CTRL_CLK_FAST : Fd := ⟨A.BSI_CTRL, 3, 0, .rw, 0⟩
/-- Address of BSI_STAT (R285). -/
def A.BSI_STAT : Nat := 0x20120004
def F.BSI_STAT_RUNNING : Fd := ⟨A.BSI_STAT, 5, 0, .ro, 0⟩
/-- Address of BSI_EVT (R285). -/
def A.BSI_EVT : Nat := 0x20120008
def F.BSI_EVT_OVLD : Fd := ⟨A.BSI_EVT, 31, 0, .w1c, 0⟩
/-- Address of BSIc_CFG (R285). -/
def A.BSIc_CFG (c : Nat) : Nat := 0x20120100 + 0x40 * c
def F.BSIc_CFG_EN (c : Nat) : Fd := ⟨A.BSIc_CFG c, 31, 31, .rw, 0⟩
def F.BSIc_CFG_CLASS (c : Nat) : Fd := ⟨A.BSIc_CFG c, 30, 30, .rw, 0⟩
def F.BSIc_CFG_PRESET (c : Nat) : Fd := ⟨A.BSIc_CFG c, 29, 28, .rw, 2⟩
def F.BSIc_CFG_INV (c : Nat) : Fd := ⟨A.BSIc_CFG c, 27, 27, .rw, 0⟩
def F.BSIc_CFG_FREEZE (c : Nat) : Fd := ⟨A.BSIc_CFG c, 26, 26, .rw, 0⟩
def F.BSIc_CFG_DLY (c : Nat) : Fd := ⟨A.BSIc_CFG c, 19, 16, .rw, 0⟩
/-- Address of BSIc_STAT (R285). -/
def A.BSIc_STAT (c : Nat) : Nat := 0x20120104 + 0x40 * c
def F.BSIc_STAT_STATE (c : Nat) : Fd := ⟨A.BSIc_STAT c, 31, 29, .ro, 0⟩
def F.BSIc_STAT_CFGERR (c : Nat) : Fd := ⟨A.BSIc_STAT c, 28, 26, .ro, 0⟩
def F.BSIc_STAT_OVLD (c : Nat) : Fd := ⟨A.BSIc_STAT c, 25, 25, .w1c, 0⟩
def F.BSIc_STAT_FROZEN (c : Nat) : Fd := ⟨A.BSIc_STAT c, 24, 24, .ro, 0⟩
def F.BSIc_STAT_CFGWR (c : Nat) : Fd := ⟨A.BSIc_STAT c, 23, 23, .w1c, 0⟩
/-- Address of BSIc_COEF0 (R285). -/
def A.BSIc_COEF0 (c : Nat) : Nat := 0x20120108 + 0x40 * c
def F.BSIc_COEF0_PREL_CORNER (c : Nat) : Fd := ⟨A.BSIc_COEF0 c, 31, 0, .rw, 0⟩
/-- Address of BSIc_COEF1 (R285). -/
def A.BSIc_COEF1 (c : Nat) : Nat := 0x2012010C + 0x40 * c
def F.BSIc_COEF1_ARMS (c : Nat) : Fd := ⟨A.BSIc_COEF1 c, 31, 0, .rw, 0⟩
/-- Address of BSIc_COEF2 (R285). -/
def A.BSIc_COEF2 (c : Nat) : Nat := 0x20120110 + 0x40 * c
def F.BSIc_COEF2_EATT (c : Nat) : Fd := ⟨A.BSIc_COEF2 c, 31, 0, .rw, 0⟩
/-- Address of BSIc_COEF3 (R285). -/
def A.BSIc_COEF3 (c : Nat) : Nat := 0x20120114 + 0x40 * c
def F.BSIc_COEF3_EREL (c : Nat) : Fd := ⟨A.BSIc_COEF3 c, 31, 0, .rw, 0⟩
/-- Address of BSIc_HOLD (R285). -/
def A.BSIc_HOLD (c : Nat) : Nat := 0x20120118 + 0x40 * c
def F.BSIc_HOLD_HOLD (c : Nat) : Fd := ⟨A.BSIc_HOLD c, 15, 0, .rw, 0⟩
/-- Address of BSIc_PEAK (R285). -/
def A.BSIc_PEAK (c : Nat) : Nat := 0x20120120 + 0x40 * c
def F.BSIc_PEAK_P (c : Nat) : Fd := ⟨A.BSIc_PEAK c, 31, 0, .ro, 0⟩
/-- Address of BSIc_RMS (R285). -/
def A.BSIc_RMS (c : Nat) : Nat := 0x20120124 + 0x40 * c
def F.BSIc_RMS_R (c : Nat) : Fd := ⟨A.BSIc_RMS c, 31, 0, .ro, 0⟩
/-- Address of BSIc_ENV (R285). -/
def A.BSIc_ENV (c : Nat) : Nat := 0x20120128 + 0x40 * c
def F.BSIc_ENV_E (c : Nat) : Fd := ⟨A.BSIc_ENV c, 31, 0, .ro, 0⟩
/-- Address of BSIc_MS (R285). -/
def A.BSIc_MS (c : Nat) : Nat := 0x2012012C + 0x40 * c
def F.BSIc_MS_MS (c : Nat) : Fd := ⟨A.BSIc_MS c, 31, 0, .ro, 0⟩
/-- Address of BSIc_DCEST (R285). -/
def A.BSIc_DCEST (c : Nat) : Nat := 0x20120130 + 0x40 * c
def F.BSIc_DCEST_M (c : Nat) : Fd := ⟨A.BSIc_DCEST c, 31, 0, .ro, 0⟩
/-- Address of BSIc_ALPHA (R285). -/
def A.BSIc_ALPHA (c : Nat) : Nat := 0x20120134 + 0x40 * c
def F.BSIc_ALPHA_ALPHA (c : Nat) : Fd := ⟨A.BSIc_ALPHA c, 31, 0, .ro, 0⟩

end Sys2Proof.Machine
end

