-- ==== Sys2Proof/Machine/RegsCtrl.lean ====
section
/-!
DEFINITION. Addresses (`A.`) and fields (`F.`) of the registers of FCU, LIG, SEC, the access tables of every block, HOST, MMU, PMU and SURV, as the field tables of the named rules give them: address, highest bit, lowest bit, access type (R7) and reset value (R9). Reserved fields are left out: they read as zero and ignore writes (R8). A register that a selector register picks carries the instance above bit 32 of its address.
-/
namespace Sys2Proof.Machine

/-- Nominal rail voltage in mV (R384, R386 for rail 0). -/
def railNominal (r : Nat) : Nat :=
  match r with
  | 0 => 800 | 1 => 750 | 2 => 1100 | 3 => 600 | 4 => 1800 | 5 => 750 | 6 => 1800 | 7 => 1800
  | 8 => 850 | 9 => 850 | 10 => 850 | 11 => 850 | 12 => 1200 | 13 => 1800 | 14 => 3300 | 15 => 3300
  | _ => 0

/-- The kinds of pads with one set of reset values in R404, from the pad numbers of R401. -/
def padReset (i : Nat) : PadSet :=
  if i < 80 then ⟨2, 0, 3, 1⟩                                  -- SAP
  else if i < 112 then ⟨0, 0, 3, 0⟩                            -- BSI_DATA
  else if i < 116 then ⟨2, 0, 0, 0⟩                            -- BSICLK
  else if i < 156 then
    let q := (i - 116) % 8
    if q < 2 then ⟨1, 3, 0, 4⟩                                 -- SCL, SDA
    else if q < 5 then ⟨1, 3, 0, 0⟩                            -- TX_DISABLE, RS0, RS1
    else ⟨0, 0, 2, 5⟩                                          -- MOD_ABS, LOS, TX_FAULT
  else if i = 158 then ⟨0, 0, 1, 0⟩                            -- XSPI_DQS
  else if i < 168 then ⟨1, 0, 3, 0⟩                            -- xSPI
  else if i < 173 then ⟨1, 1, 3, 1⟩                            -- HS_SCK, HS_IO
  else if i = 173 then ⟨1, 3, 0, 0⟩                            -- HS_IRQ_N
  else if i = 174 || i = 178 then ⟨0, 0, 1, 1⟩                 -- TCK, TRST_N
  else if i = 175 || i = 176 then ⟨0, 0, 2, 1⟩                 -- TMS, TDI
  else if i = 177 then ⟨1, 1, 0, 0⟩                            -- TDO
  else if i = 179 then ⟨0, 0, 3, 1⟩                            -- WCLK_IN
  else if i < 183 then ⟨2, 0, 0, 0⟩                            -- WCLK_OUT, MCLK_OUT
  else if i < 187 then ⟨1, 1, 0, 0⟩                            -- TTRIG
  else if i < 191 then ⟨0, 0, 1, 1⟩                            -- TCAP
  else if i < 197 then ⟨1, 3, 0, 0⟩                            -- CLKSTAT, REFACT
  else if i = 197 then ⟨0, 0, 2, 4⟩                            -- PERST_N
  else if i = 198 then ⟨0, 0, 2, 5⟩                            -- RESET_N
  else if i = 199 then ⟨2, 3, 0, 0⟩                            -- SAFE_N
  else if i = 200 then ⟨0, 0, 2, 6⟩                            -- WAKE_N
  else if i = 202 then ⟨0, 0, 2, 1⟩                            -- HS_CS_N
  else if 203 ≤ i && i < 209 then ⟨2, 0, 0, 0⟩                 -- PWM
  else if i = 214 then ⟨0, 0, 1, 5⟩                            -- TEST_MODE
  else if i < 215 then ⟨1, 3, 0, 0⟩                            -- IO33_EN, PS_EN, HU_CHG_EN, HU_SINK_EN
  else ⟨0, 0, 0, 0⟩

/-- Reset class of source 16k + j (R314, R327). -/
def classReset (k j : Nat) : Nat :=
  (match k with
   | 0 => 0x00800054 | 1 => 0x0A000048 | 2 => 0x50500008 | 3 => 0x00505050
   | 4 => 0x00440100 | 5 => 0xC0DE0A0B | 6 => 0x302A0000 | 7 => 0x00030104 | _ => 0) / 4 ^ j % 4

/-- Default dependents of unit group u (R315). -/
def depReset (u : Nat) : Nat :=
  if u = 0 then 0x4002 else if u = 3 then 0x102 else if 9 ≤ u && u ≤ 12 then 0x00820100
  else if u = 13 then 0x00024000 else if u = 15 then 0x0002000A else if u = 16 then 0x00200002
  else if u = 19 then 0x00380000 else if u = 23 then 0x02000000 else 0

/-- Reset value of word w of the access-table entry of master m (R355). -/
def aclReset (w m : Nat) : Nat := if m ≤ 1 then (if w < 3 then 0xFFFFFFFF else 0x00FFFFFF) else 0

/-- First byte and last byte of memory target t of the region tables (R24, R357). -/
def targetFirst (t : Nat) : Nat :=
  match t with
  | 0 => 0 | 1 => 0x08000000 | 2 => 0x10000000 | 3 => 0x40000000 | 4 => 0x60000000 | 5 => 0x70000000 | 6 => 0x100000000
  | _ => 0

def targetLast (t : Nat) : Nat :=
  match t with
  | 0 => 0x3FFFF | 1 => 0x0800FFFF | 2 => 0x101FFFFF | 3 => 0x421FFFFF | 4 => 0x605FFFFF | 5 => 0x71FFFFFF | 6 => 0x1DFFFFFFF
  | _ => 0

/-- BASE of a region-table entry after reset: entry 0 covers its target (R358). -/
def rgnBaseReset (t e : Nat) : Nat := if e = 0 then targetFirst t / 4096 else 0
/-- LIMIT of a region-table entry after reset (R358). -/
def rgnLimitReset (t e : Nat) : Nat := if e = 0 then targetLast t / 4096 else 0


/-! ## FCU -/
/-- Address of FCU_STAT (R327). -/
def A.FCU_STAT : Nat := 0x20020000
def F.FCU_STAT_STATE : Fd := ⟨A.FCU_STAT, 31, 30, .ro, 0⟩
def F.FCU_STAT_LOCKED : Fd := ⟨A.FCU_STAT, 29, 29, .ro, 0⟩
def F.FCU_STAT_CFGWR : Fd := ⟨A.FCU_STAT, 28, 28, .w1c, 0⟩
def F.FCU_STAT_AUTOSUP : Fd := ⟨A.FCU_STAT, 27, 27, .w1c, 0⟩
def F.FCU_STAT_QRESTARTS : Fd := ⟨A.FCU_STAT, 26, 23, .ro, 0⟩
def F.FCU_STAT_LOCKWR : Fd := ⟨A.FCU_STAT, 22, 22, .w1c, 0⟩
/-- Address of FCU_CTRL (R327). -/
def A.FCU_CTRL : Nat := 0x20020004
def F.FCU_CTRL_SHADOW_US : Fd := ⟨A.FCU_CTRL, 25, 16, .rw, 0x32⟩
def F.FCU_CTRL_WIRE_FLOOR : Fd := ⟨A.FCU_CTRL, 1, 0, .rw, 1⟩
/-- Address of FCU_QUIET_CFG (R327). -/
def A.FCU_QUIET_CFG : Nat := 0x20020008
def F.FCU_QUIET_CFG_AUTO : Fd := ⟨A.FCU_QUIET_CFG, 31, 31, .rw, 1⟩
def F.FCU_QUIET_CFG_QUIET_MAX : Fd := ⟨A.FCU_QUIET_CFG, 19, 16, .rw, 3⟩
def F.FCU_QUIET_CFG_DELAY_MS : Fd := ⟨A.FCU_QUIET_CFG, 15, 0, .rw, 0x64⟩
/-- Address of FCU_LOCK (R327). -/
def A.FCU_LOCK : Nat := 0x2002000C
def F.FCU_LOCK_KEY : Fd := ⟨A.FCU_LOCK, 31, 16, .wo, 0⟩
def F.FCU_LOCK_LOCK : Fd := ⟨A.FCU_LOCK, 0, 0, .wl, 0⟩
/-- Address of FCU_LAST (R327). -/
def A.FCU_LAST : Nat := 0x20020010
def F.FCU_LAST_VALID : Fd := ⟨A.FCU_LAST, 31, 31, .w1c, 0⟩
def F.FCU_LAST_CLASS : Fd := ⟨A.FCU_LAST, 27, 26, .ro, 0⟩
def F.FCU_LAST_SOURCE : Fd := ⟨A.FCU_LAST, 22, 16, .ro, 0⟩
def F.FCU_LAST_INDEX : Fd := ⟨A.FCU_LAST, 15, 0, .ro, 0⟩
/-- Address of FCU_CONSEQ (R327). -/
def A.FCU_CONSEQ : Nat := 0x20020014
def F.FCU_CONSEQ_COUNT : Fd := ⟨A.FCU_CONSEQ, 31, 0, .ro, 0⟩
/-- Address of FCU_SRCSEL (R327). -/
def A.FCU_SRCSEL : Nat := 0x20020018
def F.FCU_SRCSEL_SRC : Fd := ⟨A.FCU_SRCSEL, 6, 0, .rw, 0⟩
/-- Address of FCU_SRCCNT (R327). -/
def A.FCU_SRCCNT (i : Nat) : Nat := 0x2002001C + 0x100000000 * i
def F.FCU_SRCCNT_COUNT (i : Nat) : Fd := ⟨A.FCU_SRCCNT i, 31, 0, .ro, 0⟩
/-- Address of FCU_CLASS (R327). -/
def A.FCU_CLASS (k : Nat) : Nat := 0x20020020 + 0x4 * k
def F.FCU_CLASS_CLASS (k : Nat) (j : Nat) : Fd := ⟨A.FCU_CLASS k, 2 * j + 1, 2 * j, .rw, (classReset k j)⟩
/-- Address of FCU_PEND (R327). -/
def A.FCU_PEND (k : Nat) : Nat := 0x20020040 + 0x4 * k
def F.FCU_PEND_PEND (k : Nat) : Fd := ⟨A.FCU_PEND k, 31, 0, .w1c, 0⟩
/-- Address of FCU_FORCE (R327). -/
def A.FCU_FORCE (k : Nat) : Nat := 0x20020050 + 0x4 * k
def F.FCU_FORCE_FORCE (k : Nat) : Fd := ⟨A.FCU_FORCE k, 31, 0, .w1s, 0⟩
/-- Address of FCU_FORCE_CFG (R327). -/
def A.FCU_FORCE_CFG : Nat := 0x20020060
def F.FCU_FORCE_CFG_EN : Fd := ⟨A.FCU_FORCE_CFG, 31, 31, .rw, 0⟩
def F.FCU_FORCE_CFG_WIRE : Fd := ⟨A.FCU_FORCE_CFG, 30, 30, .rw, 0⟩
def F.FCU_FORCE_CFG_INDEX : Fd := ⟨A.FCU_FORCE_CFG, 15, 0, .rw, 0⟩
/-- Address of FCU_WIREBAD (R327). -/
def A.FCU_WIREBAD (k : Nat) : Nat := 0x20020070 + 0x4 * k
def F.FCU_WIREBAD_WIREBAD (k : Nat) : Fd := ⟨A.FCU_WIREBAD k, 31, 0, .w1c, 0⟩
/-- Address of FCU_DEP (R327). -/
def A.FCU_DEP (u : Nat) : Nat := 0x20020080 + 0x4 * u
def F.FCU_DEP_DEP (u : Nat) : Fd := ⟨A.FCU_DEP u, 31, 0, (if 28 ≤ u then .ro else .rw), (depReset u)⟩
/-- Address of FCU_REC_STAT (R327). -/
def A.FCU_REC_STAT : Nat := 0x20020100
def F.FCU_REC_STAT_OVF : Fd := ⟨A.FCU_REC_STAT, 31, 31, .w1c, 0⟩
def F.FCU_REC_STAT_DROPPED : Fd := ⟨A.FCU_REC_STAT, 23, 16, .ro, 0⟩
def F.FCU_REC_STAT_COUNT : Fd := ⟨A.FCU_REC_STAT, 5, 0, .ro, 0⟩
/-- Address of FCU_REC0 (R327). -/
def A.FCU_REC0 : Nat := 0x20020104
def F.FCU_REC0_WORD0 : Fd := ⟨A.FCU_REC0, 31, 0, .ro, 0⟩
/-- Address of FCU_REC1 (R327). -/
def A.FCU_REC1 (j : Nat) : Nat := 0x20020108 + 0x4 * j
def F.FCU_REC1_WORD (j : Nat) : Fd := ⟨A.FCU_REC1 j, 31, 0, .ro, 0⟩
/-- Address of FCU_FENCED (R327). -/
def A.FCU_FENCED : Nat := 0x20020120
def F.FCU_FENCED_GROUPS : Fd := ⟨A.FCU_FENCED, 27, 0, .ro, 0⟩

/-! ## LIG -/
/-- Address of LIG_STAT (R352). -/
def A.LIG_STAT : Nat := 0x20140000
def F.LIG_STAT_STATE : Fd := ⟨A.LIG_STAT, 31, 29, .ro, 0⟩
def F.LIG_STAT_WORN : Fd := ⟨A.LIG_STAT, 28, 28, .ro, 0⟩
def F.LIG_STAT_QDROP : Fd := ⟨A.LIG_STAT, 27, 27, .w1c, 0⟩
def F.LIG_STAT_RETIRE : Fd := ⟨A.LIG_STAT, 26, 26, .w1c, 0⟩
/-- Address of LIG_HEAD (R352). -/
def A.LIG_HEAD : Nat := 0x20140004
def F.LIG_HEAD_SECTOR : Fd := ⟨A.LIG_HEAD, 31, 16, .ro, 0⟩
def F.LIG_HEAD_OFFSET : Fd := ⟨A.LIG_HEAD, 15, 0, .ro, 0⟩
/-- Address of LIG_SEQ (R352). -/
def A.LIG_SEQ : Nat := 0x20140008
def F.LIG_SEQ_SEQ : Fd := ⟨A.LIG_SEQ, 31, 0, .ro, 0⟩
/-- Address of LIG_RING (R352). -/
def A.LIG_RING : Nat := 0x2014000C
def F.LIG_RING_USABLE : Fd := ⟨A.LIG_RING, 31, 16, .ro, 0⟩
def F.LIG_RING_TAIL : Fd := ⟨A.LIG_RING, 15, 0, .ro, 0⟩
/-- Address of LIG_KEEP (R352). -/
def A.LIG_KEEP : Nat := 0x20140010
def F.LIG_KEEP_QUEUED : Fd := ⟨A.LIG_KEEP, 31, 16, .ro, 0⟩
def F.LIG_KEEP_PENDING : Fd := ⟨A.LIG_KEEP, 15, 0, .ro, 0⟩
/-- Address of LIG_BUDGET (R352). -/
def A.LIG_BUDGET : Nat := 0x20140014
def F.LIG_BUDGET_VALID : Fd := ⟨A.LIG_BUDGET, 31, 31, .ro, 0⟩
def F.LIG_BUDGET_BYTES : Fd := ⟨A.LIG_BUDGET, 15, 0, .ro, 0⟩
/-- Address of LIG_HOLDUP (R352). -/
def A.LIG_HOLDUP : Nat := 0x20140018
def F.LIG_HOLDUP_CAP : Fd := ⟨A.LIG_HOLDUP, 31, 16, .ro, 0⟩
def F.LIG_HOLDUP_V0 : Fd := ⟨A.LIG_HOLDUP, 15, 0, .ro, 0⟩
/-- Address of LIG_TAI (R352). -/
def A.LIG_TAI : Nat := 0x2014001C
def F.LIG_TAI_SECONDS : Fd := ⟨A.LIG_TAI, 31, 0, .rw, 0⟩
/-- Address of LIG_WEAR (R352). -/
def A.LIG_WEAR : Nat := 0x20140020
def F.LIG_WEAR_MAXERASE : Fd := ⟨A.LIG_WEAR, 31, 15, .ro, 0⟩
def F.LIG_WEAR_RETIRED : Fd := ⟨A.LIG_WEAR, 11, 0, .ro, 0⟩
/-- Address of LIG_CNT (R352). -/
def A.LIG_CNT : Nat := 0x20140024
def F.LIG_CNT_CHECKPOINTS : Fd := ⟨A.LIG_CNT, 31, 16, .ro, 0⟩
def F.LIG_CNT_TORN : Fd := ⟨A.LIG_CNT, 15, 8, .ro, 0⟩
def F.LIG_CNT_QDROPPED : Fd := ⟨A.LIG_CNT, 7, 0, .ro, 0⟩
/-- Address of LIG_APPEND (R352). -/
def A.LIG_APPEND : Nat := 0x20140030
def F.LIG_APPEND_GO : Fd := ⟨A.LIG_APPEND, 31, 31, .wo, 0⟩
def F.LIG_APPEND_LEN : Fd := ⟨A.LIG_APPEND, 27, 16, .wo, 0⟩
def F.LIG_APPEND_TYPE : Fd := ⟨A.LIG_APPEND, 15, 0, .wo, 0⟩
/-- Address of LIG_APPEND_STAT (R352). -/
def A.LIG_APPEND_STAT : Nat := 0x20140034
def F.LIG_APPEND_STAT_BUSY : Fd := ⟨A.LIG_APPEND_STAT, 31, 31, .ro, 0⟩
def F.LIG_APPEND_STAT_RESULT : Fd := ⟨A.LIG_APPEND_STAT, 2, 0, .ro, 0⟩
/-- Address of LIG_RD_ADDR (R352). -/
def A.LIG_RD_ADDR : Nat := 0x20140040
def F.LIG_RD_ADDR_ADDR : Fd := ⟨A.LIG_RD_ADDR, 27, 0, .rw, 0⟩
/-- Address of LIG_RD_CMD (R352). -/
def A.LIG_RD_CMD : Nat := 0x20140044
def F.LIG_RD_CMD_BUSY : Fd := ⟨A.LIG_RD_CMD, 31, 31, .ro, 0⟩
def F.LIG_RD_CMD_ERR : Fd := ⟨A.LIG_RD_CMD, 1, 1, .ro, 0⟩
def F.LIG_RD_CMD_GO : Fd := ⟨A.LIG_RD_CMD, 0, 0, .wo, 0⟩
/-- Address of LIG_APBUF (R352). -/
def A.LIG_APBUF (j : Nat) : Nat := 0x20140800 + 0x4 * j
def F.LIG_APBUF (j : Nat) : Fd := ⟨A.LIG_APBUF j, 31, 0, .rw, 0⟩
/-- Address of LIG_RDWIN (R352). -/
def A.LIG_RDWIN (j : Nat) : Nat := 0x20141000 + 0x4 * j
def F.LIG_RDWIN (j : Nat) : Fd := ⟨A.LIG_RDWIN j, 31, 0, .ro, 0⟩

/-! ## SEC -/
/-- Address of SEC_STAT (R353). -/
def A.SEC_STAT : Nat := 0x20180000
def F.SEC_STAT_RECOVERY : Fd := ⟨A.SEC_STAT, 31, 31, .ro, 0⟩
def F.SEC_STAT_ROLLBACK : Fd := ⟨A.SEC_STAT, 30, 30, .ro, 0⟩
def F.SEC_STAT_TRIAL : Fd := ⟨A.SEC_STAT, 29, 29, .ro, 0⟩
def F.SEC_STAT_SLOT : Fd := ⟨A.SEC_STAT, 28, 28, .ro, 0⟩
def F.SEC_STAT_KEY : Fd := ⟨A.SEC_STAT, 27, 27, .ro, 0⟩
def F.SEC_STAT_KEYERR : Fd := ⟨A.SEC_STAT, 26, 26, .ro, 0⟩
def F.SEC_STAT_CONFIRMED : Fd := ⟨A.SEC_STAT, 25, 25, .ro, 0⟩
def F.SEC_STAT_CONFWR : Fd := ⟨A.SEC_STAT, 24, 24, .w1c, 0⟩
def F.SEC_STAT_RBCAUSE : Fd := ⟨A.SEC_STAT, 19, 16, .ro, 0⟩
def F.SEC_STAT_FAILSEC : Fd := ⟨A.SEC_STAT, 15, 0, .ro, 0⟩
/-- Address of SEC_BOOT_GEN (R353). -/
def A.SEC_BOOT_GEN : Nat := 0x20180004
def F.SEC_BOOT_GEN_GEN : Fd := ⟨A.SEC_BOOT_GEN, 31, 0, .ro, 0⟩
/-- Address of SEC_BOOT_CONFIRM (R353). -/
def A.SEC_BOOT_CONFIRM : Nat := 0x20180008
def F.SEC_BOOT_CONFIRM_KEY : Fd := ⟨A.SEC_BOOT_CONFIRM, 31, 16, .wo, 0⟩
def F.SEC_BOOT_CONFIRM_GO : Fd := ⟨A.SEC_BOOT_CONFIRM, 0, 0, .wl, 0⟩
/-- Address of SEC_FUSE (R353). -/
def A.SEC_FUSE : Nat := 0x2018000C
def F.SEC_FUSE_KEY1_VALID : Fd := ⟨A.SEC_FUSE, 31, 31, .ro, Config.fuseKey1Valid⟩
def F.SEC_FUSE_KEY0_REVOKED : Fd := ⟨A.SEC_FUSE, 30, 30, .ro, Config.fuseKey0Revoked⟩
def F.SEC_FUSE_FUSERES : Fd := ⟨A.SEC_FUSE, 10, 8, .ro, 0⟩
def F.SEC_FUSE_FLOOR : Fd := ⟨A.SEC_FUSE, 7, 0, .ro, Config.fuseFloor⟩
/-- Address of SEC_FLOOR_BURN (R353). -/
def A.SEC_FLOOR_BURN : Nat := 0x20180010
def F.SEC_FLOOR_BURN_KEY : Fd := ⟨A.SEC_FLOOR_BURN, 31, 16, .wo, 0⟩
def F.SEC_FLOOR_BURN_FLOOR : Fd := ⟨A.SEC_FLOOR_BURN, 7, 0, .wo, 0⟩
/-- Address of SEC_REVOKE (R353). -/
def A.SEC_REVOKE : Nat := 0x20180014
def F.SEC_REVOKE_KEY : Fd := ⟨A.SEC_REVOKE, 31, 16, .wo, 0⟩
def F.SEC_REVOKE_GO : Fd := ⟨A.SEC_REVOKE, 0, 0, .wo, 0⟩
/-- Address of SEC_AUTH_ADDR_LO (R353). -/
def A.SEC_AUTH_ADDR_LO : Nat := 0x20180020
def F.SEC_AUTH_ADDR_LO_ADDR_LO : Fd := ⟨A.SEC_AUTH_ADDR_LO, 31, 0, .rw, 0⟩
/-- Address of SEC_AUTH_ADDR_HI (R353). -/
def A.SEC_AUTH_ADDR_HI : Nat := 0x20180024
def F.SEC_AUTH_ADDR_HI_ADDR_HI : Fd := ⟨A.SEC_AUTH_ADDR_HI, 7, 0, .rw, 0⟩
/-- Address of SEC_AUTH_CMD (R353). -/
def A.SEC_AUTH_CMD : Nat := 0x20180028
def F.SEC_AUTH_CMD_GO : Fd := ⟨A.SEC_AUTH_CMD, 31, 31, .wo, 0⟩
def F.SEC_AUTH_CMD_KIND : Fd := ⟨A.SEC_AUTH_CMD, 0, 0, .wo, 0⟩
/-- Address of SEC_AUTH_STAT (R353). -/
def A.SEC_AUTH_STAT : Nat := 0x2018002C
def F.SEC_AUTH_STAT_BUSY : Fd := ⟨A.SEC_AUTH_STAT, 31, 31, .ro, 0⟩
def F.SEC_AUTH_STAT_RESULT : Fd := ⟨A.SEC_AUTH_STAT, 2, 0, .ro, 0⟩
/-- Address of SEC_DIGEST (R353). -/
def A.SEC_DIGEST (j : Nat) : Nat := 0x20180040 + 0x4 * j
def F.SEC_DIGEST_DIGEST (j : Nat) : Fd := ⟨A.SEC_DIGEST j, 31, 0, .ro, 0⟩
/-- Address of SEC_KEYHASH (R353). -/
def A.SEC_KEYHASH (k : Nat) (j : Nat) : Nat := 0x20180100 + 0x20 * k + 0x4 * j
def F.SEC_KEYHASH_HASH (k : Nat) (j : Nat) : Fd := ⟨A.SEC_KEYHASH k j, 31, 0, .ro, (Config.fuseKeyHash k j)⟩

/-! ## ACC -/
/-- Address of ACC_VINFO (R359). -/
def A.ACC_VINFO (b : Nat) : Nat := 0x2000F200 + 0x10000 * b
def F.ACC_VINFO_VALID (b : Nat) : Fd := ⟨A.ACC_VINFO b, 31, 31, .w1c, 0⟩
def F.ACC_VINFO_OVF (b : Nat) : Fd := ⟨A.ACC_VINFO b, 30, 30, .w1c, 0⟩
def F.ACC_VINFO_CAUSE (b : Nat) : Fd := ⟨A.ACC_VINFO b, 9, 8, .ro, 0⟩
def F.ACC_VINFO_WRITE (b : Nat) : Fd := ⟨A.ACC_VINFO b, 7, 7, .ro, 0⟩
def F.ACC_VINFO_MASTER (b : Nat) : Fd := ⟨A.ACC_VINFO b, 4, 0, .ro, 0⟩
/-- Address of ACC_VOFS (R359). -/
def A.ACC_VOFS (b : Nat) : Nat := 0x2000F204 + 0x10000 * b
def F.ACC_VOFS_OFFSET (b : Nat) : Fd := ⟨A.ACC_VOFS b, 15, 0, .ro, 0⟩
/-- Address of ACL_W0 (R354). -/
def A.ACL_W0 (b : Nat) (m : Nat) : Nat := 0x2000F000 + 0x10000 * b + 0x10 * m
def F.ACL_W0 (b : Nat) (m : Nat) : Fd := ⟨A.ACL_W0 b m, 31, 0, .rw, (aclReset 0 m)⟩
/-- Address of ACL_W1 (R354). -/
def A.ACL_W1 (b : Nat) (m : Nat) : Nat := 0x2000F004 + 0x10000 * b + 0x10 * m
def F.ACL_W1 (b : Nat) (m : Nat) : Fd := ⟨A.ACL_W1 b m, 31, 0, .rw, (aclReset 1 m)⟩
/-- Address of ACL_W2 (R354). -/
def A.ACL_W2 (b : Nat) (m : Nat) : Nat := 0x2000F008 + 0x10000 * b + 0x10 * m
def F.ACL_W2 (b : Nat) (m : Nat) : Fd := ⟨A.ACL_W2 b m, 31, 0, .rw, (aclReset 2 m)⟩
/-- Address of ACL_W3 (R354). -/
def A.ACL_W3 (b : Nat) (m : Nat) : Nat := 0x2000F00C + 0x10000 * b + 0x10 * m
def F.ACL_W3 (b : Nat) (m : Nat) : Fd := ⟨A.ACL_W3 b m, 23, 0, .rw, (aclReset 3 m)⟩

/-! ## HOST -/
/-- Address of HOST_STAT (R376). -/
def A.HOST_STAT : Nat := 0x20150000
def F.HOST_STAT_CHAN_OPEN : Fd := ⟨A.HOST_STAT, 31, 31, .ro, 0⟩
def F.HOST_STAT_PCIE_UP : Fd := ⟨A.HOST_STAT, 30, 30, .ro, 0⟩
def F.HOST_STAT_PCIE_WIDTH : Fd := ⟨A.HOST_STAT, 29, 28, .ro, 0⟩
def F.HOST_STAT_PCIE_SPEED : Fd := ⟨A.HOST_STAT, 27, 26, .ro, 0⟩
def F.HOST_STAT_MSIX_EN : Fd := ⟨A.HOST_STAT, 25, 25, .ro, 0⟩
/-- Address of HOST_CFG (R376). -/
def A.HOST_CFG : Nat := 0x20150004
def F.HOST_CFG_EVT_REPEAT : Fd := ⟨A.HOST_CFG, 31, 16, .rw, 0x64⟩
def F.HOST_CFG_DUMMY : Fd := ⟨A.HOST_CFG, 15, 8, .rw, 0x10⟩
/-- Address of HOST_SUMGEN_LO (R376). -/
def A.HOST_SUMGEN_LO : Nat := 0x20150008
def F.HOST_SUMGEN_LO_GEN : Fd := ⟨A.HOST_SUMGEN_LO, 31, 0, .ro, 0⟩
/-- Address of HOST_SUMGEN_HI (R376). -/
def A.HOST_SUMGEN_HI : Nat := 0x2015000C
def F.HOST_SUMGEN_HI_GEN : Fd := ⟨A.HOST_SUMGEN_HI, 31, 0, .ro, 0⟩
/-- Address of HOST_CC_IRQ (R376). -/
def A.HOST_CC_IRQ : Nat := 0x20150010
def F.HOST_CC_IRQ_BELL : Fd := ⟨A.HOST_CC_IRQ, 5, 0, .w1c, 0⟩
/-- Address of SLOTn_CTRL (R376). -/
def A.SLOTn_CTRL (n : Nat) : Nat := 0x20150400 + 0x400 * n
def F.SLOTn_CTRL_EN (n : Nat) : Fd := ⟨A.SLOTn_CTRL n, 31, 31, .rw, 1⟩
def F.SLOTn_CTRL_KICK (n : Nat) : Fd := ⟨A.SLOTn_CTRL n, 30, 30, .wo, 0⟩
def F.SLOTn_CTRL_PORTS (n : Nat) : Fd := ⟨A.SLOTn_CTRL n, 29, 26, .rw, 0xf⟩
/-- Address of SLOTn_STAT (R376). -/
def A.SLOTn_STAT (n : Nat) : Nat := 0x20150404 + 0x400 * n
def F.SLOTn_STAT_SYNCED (n : Nat) : Fd := ⟨A.SLOTn_STAT n, 31, 31, .ro, 0⟩
def F.SLOTn_STAT_LASTPORT (n : Nat) : Fd := ⟨A.SLOTn_STAT n, 30, 28, .ro, 0⟩
def F.SLOTn_STAT_RESETS (n : Nat) : Fd := ⟨A.SLOTn_STAT n, 15, 8, .ro, 0⟩
/-- Address of SLOTn_EVT (R376). -/
def A.SLOTn_EVT (n : Nat) : Nat := 0x20150408 + 0x400 * n
def F.SLOTn_EVT_EVT (n : Nat) : Fd := ⟨A.SLOTn_EVT n, 31, 0, .w1c, 0⟩
/-- Address of SLOTn_EVT_EN (R376). -/
def A.SLOTn_EVT_EN (n : Nat) : Nat := 0x2015040C + 0x400 * n
def F.SLOTn_EVT_EN_EN (n : Nat) : Fd := ⟨A.SLOTn_EVT_EN n, 31, 0, .rw, 0⟩
/-- Address of SLOTn_RXNEXT (R376). -/
def A.SLOTn_RXNEXT (n : Nat) : Nat := 0x20150410 + 0x400 * n
def F.SLOTn_RXNEXT_SEQ (n : Nat) : Fd := ⟨A.SLOTn_RXNEXT n, 31, 0, .ro, 0⟩
/-- Address of SLOTn_TXSEQ (R376). -/
def A.SLOTn_TXSEQ (n : Nat) : Nat := 0x20150414 + 0x400 * n
def F.SLOTn_TXSEQ_SEQ (n : Nat) : Fd := ⟨A.SLOTn_TXSEQ n, 31, 0, .ro, 0⟩
/-- Address of SLOTn_CNT0 (R376). -/
def A.SLOTn_CNT0 (n : Nat) : Nat := 0x20150418 + 0x400 * n
def F.SLOTn_CNT0_AUTHFAIL (n : Nat) : Fd := ⟨A.SLOTn_CNT0 n, 31, 16, .ro, 0⟩
def F.SLOTn_CNT0_REPLAY (n : Nat) : Fd := ⟨A.SLOTn_CNT0 n, 15, 0, .ro, 0⟩
/-- Address of SLOTn_CNT1 (R376). -/
def A.SLOTn_CNT1 (n : Nat) : Nat := 0x2015041C + 0x400 * n
def F.SLOTn_CNT1_VIOLS (n : Nat) : Fd := ⟨A.SLOTn_CNT1 n, 31, 16, .ro, 0⟩
def F.SLOTn_CNT1_TUNES (n : Nat) : Fd := ⟨A.SLOTn_CNT1 n, 15, 0, .ro, 0⟩
/-- Address of SLOTn_BELL (R376). -/
def A.SLOTn_BELL (n : Nat) : Nat := 0x20150420 + 0x400 * n
def F.SLOTn_BELL_OUT (n : Nat) : Fd := ⟨A.SLOTn_BELL n, 1, 1, .wo, 0⟩
def F.SLOTn_BELL_IN (n : Nat) : Fd := ⟨A.SLOTn_BELL n, 0, 0, .wo, 0⟩
/-- Address of SLOTn_TUNE (R376). -/
def A.SLOTn_TUNE (n : Nat) : Nat := 0x20150424 + 0x400 * n
def F.SLOTn_TUNE_ACK (n : Nat) : Fd := ⟨A.SLOTn_TUNE n, 1, 1, .wo, 0⟩
def F.SLOTn_TUNE_GO (n : Nat) : Fd := ⟨A.SLOTn_TUNE n, 0, 0, .wo, 0⟩
/-- Address of SLOTn_TUNE_STAT (R376). -/
def A.SLOTn_TUNE_STAT (n : Nat) : Nat := 0x20150428 + 0x400 * n
def F.SLOTn_TUNE_STAT_BUSY (n : Nat) : Fd := ⟨A.SLOTn_TUNE_STAT n, 31, 31, .ro, 0⟩
def F.SLOTn_TUNE_STAT_VALID (n : Nat) : Fd := ⟨A.SLOTn_TUNE_STAT n, 30, 30, .ro, 0⟩
def F.SLOTn_TUNE_STAT_RESULT (n : Nat) : Fd := ⟨A.SLOTn_TUNE_STAT n, 1, 0, .ro, 0⟩
/-- Address of SLOTn_INBOX (R376). -/
def A.SLOTn_INBOX (n : Nat) (j : Nat) : Nat := 0x20150600 + 0x400 * n + 0x4 * j
def F.SLOTn_INBOX_DATA (n : Nat) (j : Nat) : Fd := ⟨A.SLOTn_INBOX n j, 31, 0, .rw, 0⟩
/-- Address of SLOTn_OUTBOX (R376). -/
def A.SLOTn_OUTBOX (n : Nat) (j : Nat) : Nat := 0x20150700 + 0x400 * n + 0x4 * j
def F.SLOTn_OUTBOX_DATA (n : Nat) (j : Nat) : Fd := ⟨A.SLOTn_OUTBOX n j, 31, 0, .rw, 0⟩
/-- Address of SLOTn_SUMMARY (R373). -/
def A.SLOTn_SUMMARY (n : Nat) (j : Nat) : Nat := 0x20152000 + 0x1000 * n + 0x4 * j
def F.SLOTn_SUMMARY (n : Nat) (j : Nat) : Fd := ⟨A.SLOTn_SUMMARY n j, 31, 0, .ro, 0⟩

/-! ## MMU -/
/-- Address of MMU_STAT (R377). -/
def A.MMU_STAT : Nat := 0x20160000
def F.MMU_STAT_BUSY : Fd := ⟨A.MMU_STAT, 31, 31, .ro, 0⟩
def F.MMU_STAT_CFGWR : Fd := ⟨A.MMU_STAT, 30, 30, .w1c, 0⟩
/-- Address of MMU_WINSEL (R377). -/
def A.MMU_WINSEL : Nat := 0x20160004
def F.MMU_WINSEL_WIN : Fd := ⟨A.MMU_WINSEL, 4, 0, .rw, 0⟩
/-- Address of MMU_WIN_CFG (R377). -/
def A.MMU_WIN_CFG (i : Nat) : Nat := 0x20160008 + 0x100000000 * i
def F.MMU_WIN_CFG_EN (i : Nat) : Fd := ⟨A.MMU_WIN_CFG i, 31, 31, .rw, 0⟩
def F.MMU_WIN_CFG_PAGES_M1 (i : Nat) : Fd := ⟨A.MMU_WIN_CFG i, 17, 0, .rw, 0⟩
/-- Address of MMU_WIN_BASE_LO (R377). -/
def A.MMU_WIN_BASE_LO (i : Nat) : Nat := 0x2016000C + 0x100000000 * i
def F.MMU_WIN_BASE_LO_BASE_LO (i : Nat) : Fd := ⟨A.MMU_WIN_BASE_LO i, 31, 12, .rw, 0⟩
/-- Address of MMU_WIN_BASE_HI (R377). -/
def A.MMU_WIN_BASE_HI (i : Nat) : Nat := 0x20160010 + 0x100000000 * i
def F.MMU_WIN_BASE_HI_BASE_HI (i : Nat) : Fd := ⟨A.MMU_WIN_BASE_HI i, 7, 0, .rw, 0⟩
/-- Address of MMU_HPWIN (R377). -/
def A.MMU_HPWIN : Nat := 0x20160014
def F.MMU_HPWIN_EN : Fd := ⟨A.MMU_HPWIN, 31, 31, .rw, 0⟩
def F.MMU_HPWIN_WIN : Fd := ⟨A.MMU_HPWIN, 4, 0, .rw, 0⟩
/-- Address of MMU_FLUSH (R377). -/
def A.MMU_FLUSH : Nat := 0x20160018
def F.MMU_FLUSH_GO : Fd := ⟨A.MMU_FLUSH, 6, 6, .wo, 0⟩
def F.MMU_FLUSH_ALL : Fd := ⟨A.MMU_FLUSH, 5, 5, .wo, 0⟩
def F.MMU_FLUSH_WIN : Fd := ⟨A.MMU_FLUSH, 4, 0, .wo, 0⟩
/-- Address of MMU_XFAULT_INFO (R377). -/
def A.MMU_XFAULT_INFO : Nat := 0x20160020
def F.MMU_XFAULT_INFO_VALID : Fd := ⟨A.MMU_XFAULT_INFO, 31, 31, .w1c, 0⟩
def F.MMU_XFAULT_INFO_OVF : Fd := ⟨A.MMU_XFAULT_INFO, 30, 30, .w1c, 0⟩
def F.MMU_XFAULT_INFO_WINDOW : Fd := ⟨A.MMU_XFAULT_INFO, 20, 16, .ro, 0⟩
def F.MMU_XFAULT_INFO_CAUSE : Fd := ⟨A.MMU_XFAULT_INFO, 9, 8, .ro, 0⟩
def F.MMU_XFAULT_INFO_WRITE : Fd := ⟨A.MMU_XFAULT_INFO, 7, 7, .ro, 0⟩
def F.MMU_XFAULT_INFO_MASTER : Fd := ⟨A.MMU_XFAULT_INFO, 4, 0, .ro, 0⟩
/-- Address of MMU_XFAULT_ADDR (R377). -/
def A.MMU_XFAULT_ADDR : Nat := 0x20160024
def F.MMU_XFAULT_ADDR_ADDR : Fd := ⟨A.MMU_XFAULT_ADDR, 29, 0, .ro, 0⟩
/-- Address of MMU_RVIOL_ADDR_LO (R377). -/
def A.MMU_RVIOL_ADDR_LO : Nat := 0x20160030
def F.MMU_RVIOL_ADDR_LO_ADDR_LO : Fd := ⟨A.MMU_RVIOL_ADDR_LO, 31, 0, .ro, 0⟩
/-- Address of MMU_RVIOL_ADDR_HI (R377). -/
def A.MMU_RVIOL_ADDR_HI : Nat := 0x20160034
def F.MMU_RVIOL_ADDR_HI_ADDR_HI : Fd := ⟨A.MMU_RVIOL_ADDR_HI, 7, 0, .ro, 0⟩
/-- Address of MMU_RVIOL_INFO (R377). -/
def A.MMU_RVIOL_INFO : Nat := 0x20160038
def F.MMU_RVIOL_INFO_VALID : Fd := ⟨A.MMU_RVIOL_INFO, 31, 31, .w1c, 0⟩
def F.MMU_RVIOL_INFO_OVF : Fd := ⟨A.MMU_RVIOL_INFO, 30, 30, .w1c, 0⟩
def F.MMU_RVIOL_INFO_TARGET : Fd := ⟨A.MMU_RVIOL_INFO, 18, 16, .ro, 0⟩
def F.MMU_RVIOL_INFO_CAUSE : Fd := ⟨A.MMU_RVIOL_INFO, 9, 8, .ro, 0⟩
def F.MMU_RVIOL_INFO_WRITE : Fd := ⟨A.MMU_RVIOL_INFO, 7, 7, .ro, 0⟩
def F.MMU_RVIOL_INFO_MASTER : Fd := ⟨A.MMU_RVIOL_INFO, 4, 0, .ro, 0⟩
/-- Address of RGN_BASE (R357). -/
def A.RGN_BASE (t : Nat) (e : Nat) : Nat := 0x20160400 + 0x100 * t + 0x10 * e
def F.RGN_BASE (t : Nat) (e : Nat) : Fd := ⟨A.RGN_BASE t e, 31, 4, .rw, (rgnBaseReset t e)⟩
/-- Address of RGN_EN (R358). -/
def A.RGN_EN (t : Nat) (e : Nat) : Nat := 0x20160400 + 0x100 * t + 0x10 * e
def F.RGN_EN (t : Nat) (e : Nat) : Fd := ⟨A.RGN_EN t e, 0, 0, .rw, (if e = 0 then 1 else 0)⟩
/-- Address of RGN_LIMIT (R357). -/
def A.RGN_LIMIT (t : Nat) (e : Nat) : Nat := 0x20160404 + 0x100 * t + 0x10 * e
def F.RGN_LIMIT (t : Nat) (e : Nat) : Fd := ⟨A.RGN_LIMIT t e, 31, 4, .rw, (rgnLimitReset t e)⟩
/-- Address of RGN_RMASK (R358). -/
def A.RGN_RMASK (t : Nat) (e : Nat) : Nat := 0x20160408 + 0x100 * t + 0x10 * e
def F.RGN_RMASK (t : Nat) (e : Nat) : Fd := ⟨A.RGN_RMASK t e, 31, 0, .rw, (if e = 0 then 3 else 0)⟩
/-- Address of RGN_WMASK (R358). -/
def A.RGN_WMASK (t : Nat) (e : Nat) : Nat := 0x2016040C + 0x100 * t + 0x10 * e
def F.RGN_WMASK (t : Nat) (e : Nat) : Fd := ⟨A.RGN_WMASK t e, 31, 0, .rw, (if e = 0 then 3 else 0)⟩

/-! ## PMU -/
/-- Address of PMU_STAT (R398). -/
def A.PMU_STAT : Nat := 0x20010000
def F.PMU_STAT_PSTATE : Fd := ⟨A.PMU_STAT, 31, 29, .ro, 1⟩
def F.PMU_STAT_BUSY : Fd := ⟨A.PMU_STAT, 28, 28, .ro, 0⟩
def F.PMU_STAT_RESULT : Fd := ⟨A.PMU_STAT, 27, 25, .ro, 0⟩
def F.PMU_STAT_SWMODE : Fd := ⟨A.PMU_STAT, 24, 24, .ro, 1⟩
/-- Address of PMU_PSTATE_REQ (R398). -/
def A.PMU_PSTATE_REQ : Nat := 0x20010004
def F.PMU_PSTATE_REQ_KEY : Fd := ⟨A.PMU_PSTATE_REQ, 31, 16, .wo, 0⟩
def F.PMU_PSTATE_REQ_TARGET : Fd := ⟨A.PMU_PSTATE_REQ, 3, 1, .wo, 0⟩
def F.PMU_PSTATE_REQ_GO : Fd := ⟨A.PMU_PSTATE_REQ, 0, 0, .wo, 0⟩
/-- Address of PMU_WAKE_EN (R398). -/
def A.PMU_WAKE_EN : Nat := 0x20010008
def F.PMU_WAKE_EN_WAKE_PORTS : Fd := ⟨A.PMU_WAKE_EN, 11, 8, .rw, 1⟩
def F.PMU_WAKE_EN_EN : Fd := ⟨A.PMU_WAKE_EN, 3, 0, .rw, 3⟩
/-- Address of PMU_WAKE (R398). -/
def A.PMU_WAKE : Nat := 0x2001000C
def F.PMU_WAKE_VALID : Fd := ⟨A.PMU_WAKE, 31, 31, .w1c, 0⟩
def F.PMU_WAKE_SRC : Fd := ⟨A.PMU_WAKE, 4, 0, .w1c, 0⟩
/-- Address of PMU_AON_SEC (R398). -/
def A.PMU_AON_SEC : Nat := 0x20010010
def F.PMU_AON_SEC_SEC : Fd := ⟨A.PMU_AON_SEC, 31, 0, .ro, 0⟩
/-- Address of PMU_AON_FRAC (R398). -/
def A.PMU_AON_FRAC : Nat := 0x20010014
def F.PMU_AON_FRAC_FRAC : Fd := ⟨A.PMU_AON_FRAC, 14, 0, .ro, 0⟩
/-- Address of PMU_ALARM (R398). -/
def A.PMU_ALARM : Nat := 0x20010018
def F.PMU_ALARM_SEC : Fd := ⟨A.PMU_ALARM, 31, 0, .rw, 0xffffffff⟩
/-- Address of PMU_REG_CTRL (R398). -/
def A.PMU_REG_CTRL : Nat := 0x20010020
def F.PMU_REG_CTRL_CLKSPREAD : Fd := ⟨A.PMU_REG_CTRL, 1, 1, .rw, 1⟩
def F.PMU_REG_CTRL_SWMODE : Fd := ⟨A.PMU_REG_CTRL, 0, 0, .rw, 0⟩
/-- Address of PMU_AVS (R398). -/
def A.PMU_AVS : Nat := 0x20010024
def F.PMU_AVS_EN : Fd := ⟨A.PMU_AVS, 31, 31, .rw, 1⟩
def F.PMU_AVS_VMIN : Fd := ⟨A.PMU_AVS, 29, 20, .rw, 0x258⟩
def F.PMU_AVS_VMAX : Fd := ⟨A.PMU_AVS, 19, 10, .rw, 0x352⟩
/-- Address of PMU_AVS_STAT (R398). -/
def A.PMU_AVS_STAT : Nat := 0x20010028
def F.PMU_AVS_STAT_VNOW : Fd := ⟨A.PMU_AVS_STAT, 25, 16, .ro, 0⟩
def F.PMU_AVS_STAT_EMERG : Fd := ⟨A.PMU_AVS_STAT, 15, 0, .ro, 0⟩
/-- Address of PMU_PHASE (R398). -/
def A.PMU_PHASE : Nat := 0x2001002C
def F.PMU_PHASE_SHED : Fd := ⟨A.PMU_PHASE, 13, 8, .ro, 0⟩
def F.PMU_PHASE_EN : Fd := ⟨A.PMU_PHASE, 5, 0, .rw, 0x3f⟩
/-- Address of PMU_ILIM (R398). -/
def A.PMU_ILIM : Nat := 0x20010030
def F.PMU_ILIM_ILIM2 : Fd := ⟨A.PMU_ILIM, 23, 16, .rw, 8⟩
def F.PMU_ILIM_ILIM1 : Fd := ⟨A.PMU_ILIM, 15, 8, .rw, 0xc⟩
def F.PMU_ILIM_ILIM0 : Fd := ⟨A.PMU_ILIM, 7, 0, .rw, 0xc⟩
/-- Address of PMU_VIN_CFG (R398). -/
def A.PMU_VIN_CFG : Nat := 0x20010034
def F.PMU_VIN_CFG_FALL : Fd := ⟨A.PMU_VIN_CFG, 31, 16, .rw, 0x27d8⟩
def F.PMU_VIN_CFG_RISE : Fd := ⟨A.PMU_VIN_CFG, 15, 0, .rw, 0x2a30⟩
/-- Address of PMU_DIV_CFG (R398). -/
def A.PMU_DIV_CFG : Nat := 0x20010038
def F.PMU_DIV_CFG_VIN_DIV : Fd := ⟨A.PMU_DIV_CFG, 31, 16, .rw, 0xa000⟩
def F.PMU_DIV_CFG_VHOLD_DIV : Fd := ⟨A.PMU_DIV_CFG, 15, 0, .rw, 0xa000⟩
/-- Address of PMU_RAIL (R398). -/
def A.PMU_RAIL (r : Nat) : Nat := 0x20010040 + 0x4 * r
def F.PMU_RAIL_OV (r : Nat) : Fd := ⟨A.PMU_RAIL r, 18, 18, .w1c, 0⟩
def F.PMU_RAIL_UV (r : Nat) : Fd := ⟨A.PMU_RAIL r, 17, 17, .w1c, 0⟩
def F.PMU_RAIL_OK (r : Nat) : Fd := ⟨A.PMU_RAIL r, 16, 16, .ro, 0⟩
def F.PMU_RAIL_TARGET (r : Nat) : Fd := ⟨A.PMU_RAIL r, 15, 0, .ro, (railNominal r)⟩
/-- Address of PMU_RAILOK (R398). -/
def A.PMU_RAILOK : Nat := 0x20010080
def F.PMU_RAILOK_OK : Fd := ⟨A.PMU_RAILOK, 15, 0, .ro, 0⟩
/-- Address of PMU_PADSEL (R398). -/
def A.PMU_PADSEL : Nat := 0x20010400
def F.PMU_PADSEL_INDEX : Fd := ⟨A.PMU_PADSEL, 7, 0, .rw, 0⟩
/-- Address of PMU_PAD_CFG (R398). -/
def A.PMU_PAD_CFG (i : Nat) : Nat := 0x20010404 + 0x100000000 * i
def F.PMU_PAD_CFG_VALID (i : Nat) : Fd := ⟨A.PMU_PAD_CFG i, 31, 31, .ro, (if i < 215 then 1 else 0)⟩
def F.PMU_PAD_CFG_FILT (i : Nat) : Fd := ⟨A.PMU_PAD_CFG i, 11, 9, .rw, (padReset i).filt⟩
def F.PMU_PAD_CFG_PULL (i : Nat) : Fd := ⟨A.PMU_PAD_CFG i, 7, 6, .rw, (padReset i).pull⟩
def F.PMU_PAD_CFG_SLEW (i : Nat) : Fd := ⟨A.PMU_PAD_CFG i, 3, 2, .rw, (padReset i).slew⟩
def F.PMU_PAD_CFG_DRIVE (i : Nat) : Fd := ⟨A.PMU_PAD_CFG i, 1, 0, .rw, (padReset i).drive⟩

/-! ## SURV -/
/-- Address of SURV_CTRL (R399). -/
def A.SURV_CTRL : Nat := 0x20130000
def F.SURV_CTRL_PILOT_EN : Fd := ⟨A.SURV_CTRL, 31, 31, .rw, 0⟩
def F.SURV_CTRL_MEAS_GO : Fd := ⟨A.SURV_CTRL, 30, 30, .wo, 0⟩
def F.SURV_CTRL_MEAS_MS : Fd := ⟨A.SURV_CTRL, 15, 0, .rw, 0x64⟩
/-- Address of SURV_STAT (R399). -/
def A.SURV_STAT : Nat := 0x20130004
def F.SURV_STAT_ADC_OK : Fd := ⟨A.SURV_STAT, 31, 31, .ro, 1⟩
def F.SURV_STAT_BUSY : Fd := ⟨A.SURV_STAT, 30, 30, .ro, 0⟩
/-- Address of SURV_THERM (R399). -/
def A.SURV_THERM : Nat := 0x20130008
def F.SURV_THERM_CRIT : Fd := ⟨A.SURV_THERM, 31, 16, .rw, 0x640⟩
def F.SURV_THERM_WARN : Fd := ⟨A.SURV_THERM, 15, 0, .rw, 0x578⟩
/-- Address of SURV_RAIL (R399). -/
def A.SURV_RAIL (r : Nat) : Nat := 0x20130010 + 0x4 * r
def F.SURV_RAIL_MV (r : Nat) : Fd := ⟨A.SURV_RAIL r, 15, 0, .ro, 0⟩
/-- Address of SURV_VIN (R399). -/
def A.SURV_VIN : Nat := 0x20130050
def F.SURV_VIN_VHOLD : Fd := ⟨A.SURV_VIN, 31, 16, .ro, 0⟩
def F.SURV_VIN_VIN : Fd := ⟨A.SURV_VIN, 15, 0, .ro, 0⟩
/-- Address of SURV_TEMP (R399). -/
def A.SURV_TEMP (k : Nat) : Nat := 0x20130054 + 0x4 * k
def F.SURV_TEMP_T1 (k : Nat) : Fd := ⟨A.SURV_TEMP k, 31, 16, .ro, 0⟩
def F.SURV_TEMP_T0 (k : Nat) : Fd := ⟨A.SURV_TEMP k, 15, 0, .ro, 0⟩
/-- Address of SURV_TMAX (R399). -/
def A.SURV_TMAX : Nat := 0x20130064
def F.SURV_TMAX_SENSOR : Fd := ⟨A.SURV_TMAX, 18, 16, .ro, 0⟩
def F.SURV_TMAX_TEMP : Fd := ⟨A.SURV_TMAX, 15, 0, .ro, 0⟩
/-- Address of SURV_LINESEL (R399). -/
def A.SURV_LINESEL : Nat := 0x20130080
def F.SURV_LINESEL_LINE : Fd := ⟨A.SURV_LINESEL, 4, 0, .rw, 0⟩
/-- Address of SURV_LINE_CFG (R399). -/
def A.SURV_LINE_CFG (i : Nat) : Nat := 0x20130084 + 0x100000000 * i
def F.SURV_LINE_CFG_EN (i : Nat) : Fd := ⟨A.SURV_LINE_CFG i, 31, 31, .rw, 0⟩
def F.SURV_LINE_CFG_DCFRZ (i : Nat) : Fd := ⟨A.SURV_LINE_CFG i, 30, 30, .rw, 1⟩
def F.SURV_LINE_CFG_ICH (i : Nat) : Fd := ⟨A.SURV_LINE_CFG i, 28, 24, .rw, 0⟩
def F.SURV_LINE_CFG_VCH (i : Nat) : Fd := ⟨A.SURV_LINE_CFG i, 20, 16, .rw, 0⟩
def F.SURV_LINE_CFG_OUTPUT (i : Nat) : Fd := ⟨A.SURV_LINE_CFG i, 12, 0, .rw, 0⟩
/-- Address of SURV_LINE_STEP (R399). -/
def A.SURV_LINE_STEP (i : Nat) : Nat := 0x20130088 + 0x100000000 * i
def F.SURV_LINE_STEP_STEP (i : Nat) : Fd := ⟨A.SURV_LINE_STEP i, 31, 0, .rw, 0⟩
/-- Address of SURV_LINE_LEVEL (R399). -/
def A.SURV_LINE_LEVEL (i : Nat) : Nat := 0x2013008C + 0x100000000 * i
def F.SURV_LINE_LEVEL_LEVEL (i : Nat) : Fd := ⟨A.SURV_LINE_LEVEL i, 31, 0, .rw, 0⟩
/-- Address of SURV_LINE_VSCALE (R399). -/
def A.SURV_LINE_VSCALE (i : Nat) : Nat := 0x20130090 + 0x100000000 * i
def F.SURV_LINE_VSCALE_MV (i : Nat) : Fd := ⟨A.SURV_LINE_VSCALE i, 17, 0, .rw, 0⟩
/-- Address of SURV_LINE_ISCALE (R399). -/
def A.SURV_LINE_ISCALE (i : Nat) : Nat := 0x20130094 + 0x100000000 * i
def F.SURV_LINE_ISCALE_MA (i : Nat) : Fd := ⟨A.SURV_LINE_ISCALE i, 17, 0, .rw, 0⟩
/-- Address of SURV_LINE_BASE (R399). -/
def A.SURV_LINE_BASE (i : Nat) : Nat := 0x20130098 + 0x100000000 * i
def F.SURV_LINE_BASE_ZMAG (i : Nat) : Fd := ⟨A.SURV_LINE_BASE i, 31, 0, .rw, 0⟩
/-- Address of SURV_LINE_BPH (R399). -/
def A.SURV_LINE_BPH (i : Nat) : Nat := 0x2013009C + 0x100000000 * i
def F.SURV_LINE_BPH_ZPH (i : Nat) : Fd := ⟨A.SURV_LINE_BPH i, 31, 16, .rw, 0⟩
/-- Address of SURV_LINE_TOL (R399). -/
def A.SURV_LINE_TOL (i : Nat) : Nat := 0x201300A0 + 0x100000000 * i
def F.SURV_LINE_TOL_TOL_MAG (i : Nat) : Fd := ⟨A.SURV_LINE_TOL i, 31, 16, .rw, 0⟩
def F.SURV_LINE_TOL_TOL_PH (i : Nat) : Fd := ⟨A.SURV_LINE_TOL i, 15, 0, .rw, 0⟩
/-- Address of SURV_LINE_ZMAG (R399). -/
def A.SURV_LINE_ZMAG (i : Nat) : Nat := 0x201300A4 + 0x100000000 * i
def F.SURV_LINE_ZMAG_ZMAG (i : Nat) : Fd := ⟨A.SURV_LINE_ZMAG i, 31, 0, .ro, 0⟩
/-- Address of SURV_LINE_ZSTAT (R399). -/
def A.SURV_LINE_ZSTAT (i : Nat) : Nat := 0x201300A8 + 0x100000000 * i
def F.SURV_LINE_ZSTAT_VALID (i : Nat) : Fd := ⟨A.SURV_LINE_ZSTAT i, 31, 31, .ro, 0⟩
def F.SURV_LINE_ZSTAT_OUT (i : Nat) : Fd := ⟨A.SURV_LINE_ZSTAT i, 30, 30, .w1c, 0⟩
def F.SURV_LINE_ZSTAT_CFGERR (i : Nat) : Fd := ⟨A.SURV_LINE_ZSTAT i, 29, 29, .w1c, 0⟩
def F.SURV_LINE_ZSTAT_ZPH (i : Nat) : Fd := ⟨A.SURV_LINE_ZSTAT i, 15, 0, .ro, 0⟩
/-- Address of SURV_NET_LEN (R399). -/
def A.SURV_NET_LEN (p : Nat) : Nat := 0x201300C0 + 0x4 * p
def F.SURV_NET_LEN_SRC (p : Nat) : Fd := ⟨A.SURV_NET_LEN p, 31, 30, .ro, 0⟩
def F.SURV_NET_LEN_LEN (p : Nat) : Fd := ⟨A.SURV_NET_LEN p, 15, 0, .ro, 0⟩
/-- Address of SURV_NET_PDLY (R399). -/
def A.SURV_NET_PDLY (p : Nat) : Nat := 0x201300E0 + 0x4 * p
def F.SURV_NET_PDLY_PDLY (p : Nat) : Fd := ⟨A.SURV_NET_PDLY p, 31, 0, .rw, 0⟩
/-- Address of SURV_SAP_LEN (R399). -/
def A.SURV_SAP_LEN (p : Nat) : Nat := 0x20130100 + 0x4 * p
def F.SURV_SAP_LEN_VALID (p : Nat) : Fd := ⟨A.SURV_SAP_LEN p, 31, 31, .ro, 0⟩
def F.SURV_SAP_LEN_LEN (p : Nat) : Fd := ⟨A.SURV_SAP_LEN p, 15, 0, .ro, 0⟩
/-- Address of SURV_SAP_NSPM (R399). -/
def A.SURV_SAP_NSPM : Nat := 0x20130140
def F.SURV_SAP_NSPM_NSPM : Fd := ⟨A.SURV_SAP_NSPM, 15, 0, .rw, 0x500⟩

end Sys2Proof.Machine
end

