-- ==== Sys2Proof/Machine/RegsNet.lean ====
section
/-!
DEFINITION. Addresses (`A.`) and fields (`F.`) of the registers of the NET and TWINMAC blocks, PP, TIME and TWIN, as the field tables of the named rules give them: address, highest bit, lowest bit, access type (R7) and reset value (R9). Reserved fields are left out: they read as zero and ignore writes (R8). A register that a selector register picks carries the instance above bit 32 of its address.
-/
namespace Sys2Proof.Machine

/-! ## NET -/
/-- Address of NET_CTRL (R196). -/
def A.NET_CTRL (p : Nat) : Nat := 0x200B0000 + 0x10000 * p
def F.NET_CTRL_EN (p : Nat) : Fd := ⟨A.NET_CTRL p, 31, 31, .rw, 0⟩
def F.NET_CTRL_PHY (p : Nat) : Fd := ⟨A.NET_CTRL p, 30, 30, .rw, 0⟩
def F.NET_CTRL_SPEED (p : Nat) : Fd := ⟨A.NET_CTRL p, 29, 29, .rw, 0⟩
def F.NET_CTRL_AN_EN (p : Nat) : Fd := ⟨A.NET_CTRL p, 28, 28, .rw, 0⟩
def F.NET_CTRL_FEC (p : Nat) : Fd := ⟨A.NET_CTRL p, 27, 26, .rw, 0⟩
def F.NET_CTRL_LOWPWR (p : Nat) : Fd := ⟨A.NET_CTRL p, 25, 24, .rw, 0⟩
def F.NET_CTRL_TX_POL (p : Nat) : Fd := ⟨A.NET_CTRL p, 23, 23, .rw, 0⟩
def F.NET_CTRL_RX_POL (p : Nat) : Fd := ⟨A.NET_CTRL p, 22, 22, .rw, 0⟩
def F.NET_CTRL_PROMISC (p : Nat) : Fd := ⟨A.NET_CTRL p, 15, 15, .rw, 0⟩
def F.NET_CTRL_ALLMULTI (p : Nat) : Fd := ⟨A.NET_CTRL p, 14, 14, .rw, 0⟩
def F.NET_CTRL_BCAST_EN (p : Nat) : Fd := ⟨A.NET_CTRL p, 13, 13, .rw, 1⟩
def F.NET_CTRL_VLAN_EN (p : Nat) : Fd := ⟨A.NET_CTRL p, 12, 12, .rw, 0⟩
def F.NET_CTRL_UNTAG_EN (p : Nat) : Fd := ⟨A.NET_CTRL p, 11, 11, .rw, 1⟩
/-- Address of NET_STAT (R196). -/
def A.NET_STAT (p : Nat) : Nat := 0x200B0004 + 0x10000 * p
def F.NET_STAT_LSTATE (p : Nat) : Fd := ⟨A.NET_STAT p, 31, 29, .ro, 0⟩
def F.NET_STAT_SPEED (p : Nat) : Fd := ⟨A.NET_STAT p, 28, 28, .ro, 0⟩
def F.NET_STAT_FEC (p : Nat) : Fd := ⟨A.NET_STAT p, 27, 26, .ro, 0⟩
def F.NET_STAT_AUDIO_HOLD (p : Nat) : Fd := ⟨A.NET_STAT p, 25, 25, .ro, 0⟩
def F.NET_STAT_LPI_TX (p : Nat) : Fd := ⟨A.NET_STAT p, 24, 24, .ro, 0⟩
def F.NET_STAT_LPI_RX (p : Nat) : Fd := ⟨A.NET_STAT p, 23, 23, .ro, 0⟩
def F.NET_STAT_RFAULT (p : Nat) : Fd := ⟨A.NET_STAT p, 22, 22, .ro, 0⟩
def F.NET_STAT_FECCFG (p : Nat) : Fd := ⟨A.NET_STAT p, 7, 7, .w1c, 0⟩
def F.NET_STAT_TAILERR (p : Nat) : Fd := ⟨A.NET_STAT p, 6, 6, .w1c, 0⟩
def F.NET_STAT_LINKCHG (p : Nat) : Fd := ⟨A.NET_STAT p, 5, 5, .w1c, 0⟩
def F.NET_STAT_STEPPED (p : Nat) : Fd := ⟨A.NET_STAT p, 4, 4, .w1c, 0⟩
/-- Address of NET_AN_ADV (R196). -/
def A.NET_AN_ADV (p : Nat) : Nat := 0x200B0008 + 0x10000 * p
def F.NET_AN_ADV_EEE (p : Nat) : Fd := ⟨A.NET_AN_ADV p, 5, 5, .rw, 0⟩
def F.NET_AN_ADV_KR25 (p : Nat) : Fd := ⟨A.NET_AN_ADV p, 4, 4, .rw, 1⟩
def F.NET_AN_ADV_KR25S (p : Nat) : Fd := ⟨A.NET_AN_ADV p, 3, 3, .rw, 0⟩
def F.NET_AN_ADV_KR10 (p : Nat) : Fd := ⟨A.NET_AN_ADV p, 2, 2, .rw, 1⟩
def F.NET_AN_ADV_FEC_RS (p : Nat) : Fd := ⟨A.NET_AN_ADV p, 1, 1, .rw, 1⟩
def F.NET_AN_ADV_FEC_BASER (p : Nat) : Fd := ⟨A.NET_AN_ADV p, 0, 0, .rw, 1⟩
/-- Address of NET_AN_LP (R196). -/
def A.NET_AN_LP (p : Nat) : Nat := 0x200B000C + 0x10000 * p
def F.NET_AN_LP_VALID (p : Nat) : Fd := ⟨A.NET_AN_LP p, 31, 31, .ro, 0⟩
def F.NET_AN_LP_ABIL (p : Nat) : Fd := ⟨A.NET_AN_LP p, 5, 0, .ro, 0⟩
/-- Address of NET_MAXLEN (R196). -/
def A.NET_MAXLEN (p : Nat) : Nat := 0x200B0010 + 0x10000 * p
def F.NET_MAXLEN_MAXLEN (p : Nat) : Fd := ⟨A.NET_MAXLEN p, 13, 0, .rw, 0x800⟩
/-- Address of NET_RING_MAP (R196). -/
def A.NET_RING_MAP (p : Nat) : Nat := 0x200B0014 + 0x10000 * p
def F.NET_RING_MAP_BCAST_RING (p : Nat) : Fd := ⟨A.NET_RING_MAP p, 7, 6, .rw, 0⟩
def F.NET_RING_MAP_HASH_RING (p : Nat) : Fd := ⟨A.NET_RING_MAP p, 5, 4, .rw, 0⟩
def F.NET_RING_MAP_PTP_RING (p : Nat) : Fd := ⟨A.NET_RING_MAP p, 3, 2, .rw, 0⟩
def F.NET_RING_MAP_DEFAULT_RING (p : Nat) : Fd := ⟨A.NET_RING_MAP p, 1, 0, .rw, 0⟩
/-- Address of NET_LP_CFG (R196). -/
def A.NET_LP_CFG (p : Nat) : Nat := 0x200B0018 + 0x10000 * p
def F.NET_LP_CFG_DOWN_PCT (p : Nat) : Fd := ⟨A.NET_LP_CFG p, 31, 24, .rw, 0x14⟩
def F.NET_LP_CFG_UP_PCT (p : Nat) : Fd := ⟨A.NET_LP_CFG p, 23, 16, .rw, 0x3c⟩
def F.NET_LP_CFG_LPI_IDLE (p : Nat) : Fd := ⟨A.NET_LP_CFG p, 15, 0, .rw, 0x64⟩
/-- Address of NET_LPI_TW (R196). -/
def A.NET_LPI_TW (p : Nat) : Nat := 0x200B001C + 0x10000 * p
def F.NET_LPI_TW_TW (p : Nat) : Fd := ⟨A.NET_LPI_TW p, 15, 0, .rw, 0x20⟩
/-- Address of NET_EVT (R196). -/
def A.NET_EVT (p : Nat) : Nat := 0x200B0020 + 0x10000 * p
def F.NET_EVT_SFP (p : Nat) : Fd := ⟨A.NET_EVT p, 21, 21, .w1c, 0⟩
def F.NET_EVT_LINK (p : Nat) : Fd := ⟨A.NET_EVT p, 20, 20, .w1c, 0⟩
def F.NET_EVT_TX (p : Nat) : Fd := ⟨A.NET_EVT p, 13, 8, .w1c, 0⟩
def F.NET_EVT_RX (p : Nat) : Fd := ⟨A.NET_EVT p, 3, 0, .w1c, 0⟩
/-- Address of NET_EVT_EN (R196). -/
def A.NET_EVT_EN (p : Nat) : Nat := 0x200B0024 + 0x10000 * p
def F.NET_EVT_EN_EN (p : Nat) : Fd := ⟨A.NET_EVT_EN p, 31, 0, .rw, 0⟩
/-- Address of NET_HASH (R196). -/
def A.NET_HASH (p : Nat) (k : Nat) : Nat := 0x200B0040 + 0x10000 * p + 0x4 * k
def F.NET_HASH_BINS (p : Nat) (k : Nat) : Fd := ⟨A.NET_HASH p k, 31, 0, .rw, 0⟩
/-- Address of UCAST_HI (R196). -/
def A.UCAST_HI (p : Nat) (k : Nat) : Nat := 0x200B0080 + 0x10000 * p + 0x8 * k
def F.UCAST_HI_EN (p : Nat) (k : Nat) : Fd := ⟨A.UCAST_HI p k, 31, 31, .rw, 0⟩
def F.UCAST_HI_RING (p : Nat) (k : Nat) : Fd := ⟨A.UCAST_HI p k, 25, 24, .rw, 0⟩
def F.UCAST_HI_ADDR_HI (p : Nat) (k : Nat) : Fd := ⟨A.UCAST_HI p k, 15, 0, .rw, 0⟩
/-- Address of UCAST_LO (R196). -/
def A.UCAST_LO (p : Nat) (k : Nat) : Nat := 0x200B0084 + 0x10000 * p + 0x8 * k
def F.UCAST_LO_ADDR_LO (p : Nat) (k : Nat) : Fd := ⟨A.UCAST_LO p k, 31, 0, .rw, 0⟩
/-- Address of NET_VLAN (R196). -/
def A.NET_VLAN (p : Nat) (k : Nat) : Nat := 0x200B0200 + 0x10000 * p + 0x4 * k
def F.NET_VLAN_VIDS (p : Nat) (k : Nat) : Fd := ⟨A.NET_VLAN p k, 31, 0, .rw, 0⟩
/-- Address of SFP_ID (R196). -/
def A.SFP_ID (p : Nat) (k : Nat) : Nat := 0x200B0400 + 0x10000 * p + 0x4 * k
def F.SFP_ID_BYTES (p : Nat) (k : Nat) : Fd := ⟨A.SFP_ID p k, 31, 0, .ro, 0⟩
/-- Address of SFP_CTRL (R196). -/
def A.SFP_CTRL (p : Nat) : Nat := 0x200B0500 + 0x10000 * p
def F.SFP_CTRL_POLL_EN (p : Nat) : Fd := ⟨A.SFP_CTRL p, 31, 31, .rw, 1⟩
def F.SFP_CTRL_FAST (p : Nat) : Fd := ⟨A.SFP_CTRL p, 30, 30, .rw, 0⟩
def F.SFP_CTRL_TXDIS (p : Nat) : Fd := ⟨A.SFP_CTRL p, 29, 29, .rw, 0⟩
def F.SFP_CTRL_RS (p : Nat) : Fd := ⟨A.SFP_CTRL p, 28, 27, .rw, 3⟩
def F.SFP_CTRL_DDM_PERIOD (p : Nat) : Fd := ⟨A.SFP_CTRL p, 15, 0, .rw, 0x3e8⟩
/-- Address of SFP_STAT (R196). -/
def A.SFP_STAT (p : Nat) : Nat := 0x200B0504 + 0x10000 * p
def F.SFP_STAT_PRESENT (p : Nat) : Fd := ⟨A.SFP_STAT p, 31, 31, .ro, 0⟩
def F.SFP_STAT_LOS (p : Nat) : Fd := ⟨A.SFP_STAT p, 30, 30, .ro, 0⟩
def F.SFP_STAT_TX_FAULT (p : Nat) : Fd := ⟨A.SFP_STAT p, 29, 29, .ro, 0⟩
def F.SFP_STAT_ID_VALID (p : Nat) : Fd := ⟨A.SFP_STAT p, 28, 28, .ro, 0⟩
def F.SFP_STAT_DDM_VALID (p : Nat) : Fd := ⟨A.SFP_STAT p, 27, 27, .ro, 0⟩
def F.SFP_STAT_NACK (p : Nat) : Fd := ⟨A.SFP_STAT p, 26, 26, .w1c, 0⟩
def F.SFP_STAT_INSERT (p : Nat) : Fd := ⟨A.SFP_STAT p, 25, 25, .w1c, 0⟩
def F.SFP_STAT_REMOVE (p : Nat) : Fd := ⟨A.SFP_STAT p, 24, 24, .w1c, 0⟩
/-- Address of SFP_CMD (R196). -/
def A.SFP_CMD (p : Nat) : Nat := 0x200B0508 + 0x10000 * p
def F.SFP_CMD_GO (p : Nat) : Fd := ⟨A.SFP_CMD p, 31, 31, .wo, 0⟩
def F.SFP_CMD_WRITE (p : Nat) : Fd := ⟨A.SFP_CMD p, 30, 30, .wo, 0⟩
def F.SFP_CMD_BUSY (p : Nat) : Fd := ⟨A.SFP_CMD p, 29, 29, .ro, 0⟩
def F.SFP_CMD_LEN (p : Nat) : Fd := ⟨A.SFP_CMD p, 25, 24, .wo, 0⟩
def F.SFP_CMD_DEV (p : Nat) : Fd := ⟨A.SFP_CMD p, 23, 17, .wo, 0⟩
def F.SFP_CMD_OFFSET (p : Nat) : Fd := ⟨A.SFP_CMD p, 7, 0, .wo, 0⟩
/-- Address of SFP_DATA (R196). -/
def A.SFP_DATA (p : Nat) : Nat := 0x200B050C + 0x10000 * p
def F.SFP_DATA_DATA (p : Nat) : Fd := ⟨A.SFP_DATA p, 31, 0, .rw, 0⟩
/-- Address of SFP_DDM0 (R196). -/
def A.SFP_DDM0 (p : Nat) : Nat := 0x200B0510 + 0x10000 * p
def F.SFP_DDM0_TEMP (p : Nat) : Fd := ⟨A.SFP_DDM0 p, 31, 16, .ro, 0⟩
def F.SFP_DDM0_VCC (p : Nat) : Fd := ⟨A.SFP_DDM0 p, 15, 0, .ro, 0⟩
/-- Address of SFP_DDM1 (R196). -/
def A.SFP_DDM1 (p : Nat) : Nat := 0x200B0514 + 0x10000 * p
def F.SFP_DDM1_TXBIAS (p : Nat) : Fd := ⟨A.SFP_DDM1 p, 31, 16, .ro, 0⟩
def F.SFP_DDM1_TXPWR (p : Nat) : Fd := ⟨A.SFP_DDM1 p, 15, 0, .ro, 0⟩
/-- Address of SFP_DDM2 (R196). -/
def A.SFP_DDM2 (p : Nat) : Nat := 0x200B0518 + 0x10000 * p
def F.SFP_DDM2_RXPWR (p : Nat) : Fd := ⟨A.SFP_DDM2 p, 31, 16, .ro, 0⟩
/-- Address of RX_CTRL (R196). -/
def A.RX_CTRL (p : Nat) (k : Nat) : Nat := 0x200B0600 + 0x10000 * p + 0x20 * k
def F.RX_CTRL_EN (p : Nat) (k : Nat) : Fd := ⟨A.RX_CTRL p k, 31, 31, .rw, 0⟩
/-- Address of TX_CTRL (R196). -/
def A.TX_CTRL (p : Nat) (k : Nat) : Nat := 0x200B0700 + 0x10000 * p + 0x20 * k
def F.TX_CTRL_EN (p : Nat) (k : Nat) : Fd := ⟨A.TX_CTRL p k, 31, 31, .rw, 0⟩
/-- Address of RX_BASE_LO (R196). -/
def A.RX_BASE_LO (p : Nat) (k : Nat) : Nat := 0x200B0604 + 0x10000 * p + 0x20 * k
def F.RX_BASE_LO_BASE_LO (p : Nat) (k : Nat) : Fd := ⟨A.RX_BASE_LO p k, 31, 4, .rw, 0⟩
/-- Address of TX_BASE_LO (R196). -/
def A.TX_BASE_LO (p : Nat) (k : Nat) : Nat := 0x200B0704 + 0x10000 * p + 0x20 * k
def F.TX_BASE_LO_BASE_LO (p : Nat) (k : Nat) : Fd := ⟨A.TX_BASE_LO p k, 31, 4, .rw, 0⟩
/-- Address of RX_BASE_HI (R196). -/
def A.RX_BASE_HI (p : Nat) (k : Nat) : Nat := 0x200B0608 + 0x10000 * p + 0x20 * k
def F.RX_BASE_HI_BASE_HI (p : Nat) (k : Nat) : Fd := ⟨A.RX_BASE_HI p k, 7, 0, .rw, 0⟩
/-- Address of TX_BASE_HI (R196). -/
def A.TX_BASE_HI (p : Nat) (k : Nat) : Nat := 0x200B0708 + 0x10000 * p + 0x20 * k
def F.TX_BASE_HI_BASE_HI (p : Nat) (k : Nat) : Fd := ⟨A.TX_BASE_HI p k, 7, 0, .rw, 0⟩
/-- Address of RX_LEN (R196). -/
def A.RX_LEN (p : Nat) (k : Nat) : Nat := 0x200B060C + 0x10000 * p + 0x20 * k
def F.RX_LEN_LEN (p : Nat) (k : Nat) : Fd := ⟨A.RX_LEN p k, 12, 0, .rw, 0⟩
/-- Address of TX_LEN (R196). -/
def A.TX_LEN (p : Nat) (k : Nat) : Nat := 0x200B070C + 0x10000 * p + 0x20 * k
def F.TX_LEN_LEN (p : Nat) (k : Nat) : Fd := ⟨A.TX_LEN p k, 12, 0, .rw, 0⟩
/-- Address of RX_HEAD (R196). -/
def A.RX_HEAD (p : Nat) (k : Nat) : Nat := 0x200B0610 + 0x10000 * p + 0x20 * k
def F.RX_HEAD_HEAD (p : Nat) (k : Nat) : Fd := ⟨A.RX_HEAD p k, 11, 0, .ro, 0⟩
/-- Address of TX_HEAD (R196). -/
def A.TX_HEAD (p : Nat) (k : Nat) : Nat := 0x200B0710 + 0x10000 * p + 0x20 * k
def F.TX_HEAD_HEAD (p : Nat) (k : Nat) : Fd := ⟨A.TX_HEAD p k, 11, 0, .ro, 0⟩
/-- Address of RX_TAIL (R196). -/
def A.RX_TAIL (p : Nat) (k : Nat) : Nat := 0x200B0614 + 0x10000 * p + 0x20 * k
def F.RX_TAIL_TAIL (p : Nat) (k : Nat) : Fd := ⟨A.RX_TAIL p k, 11, 0, .rw, 0⟩
/-- Address of TX_TAIL (R196). -/
def A.TX_TAIL (p : Nat) (k : Nat) : Nat := 0x200B0714 + 0x10000 * p + 0x20 * k
def F.TX_TAIL_TAIL (p : Nat) (k : Nat) : Fd := ⟨A.TX_TAIL p k, 11, 0, .rw, 0⟩
/-- Address of RX_STAT (R196). -/
def A.RX_STAT (p : Nat) (k : Nat) : Nat := 0x200B0618 + 0x10000 * p + 0x20 * k
def F.RX_STAT_HALTED (p : Nat) (k : Nat) : Fd := ⟨A.RX_STAT p k, 31, 31, .ro, 0⟩
def F.RX_STAT_ERR (p : Nat) (k : Nat) : Fd := ⟨A.RX_STAT p k, 30, 28, .ro, 0⟩
/-- Address of TX_STAT (R196). -/
def A.TX_STAT (p : Nat) (k : Nat) : Nat := 0x200B0718 + 0x10000 * p + 0x20 * k
def F.TX_STAT_HALTED (p : Nat) (k : Nat) : Fd := ⟨A.TX_STAT p k, 31, 31, .ro, 0⟩
def F.TX_STAT_ERR (p : Nat) (k : Nat) : Fd := ⟨A.TX_STAT p k, 30, 28, .ro, 0⟩
/-- Address of NCNT_RX_OK (R194). -/
def A.NCNT_RX_OK (p : Nat) : Nat := 0x200B0800 + 0x10000 * p
def F.NCNT_RX_OK (p : Nat) : Fd := ⟨A.NCNT_RX_OK p, 31, 0, .ro, 0⟩
/-- Address of NCNT_RX_OCTETS_LO (R194). -/
def A.NCNT_RX_OCTETS_LO (p : Nat) : Nat := 0x200B0804 + 0x10000 * p
def F.NCNT_RX_OCTETS_LO (p : Nat) : Fd := ⟨A.NCNT_RX_OCTETS_LO p, 31, 0, .ro, 0⟩
/-- Address of NCNT_RX_OCTETS_HI (R194). -/
def A.NCNT_RX_OCTETS_HI (p : Nat) : Nat := 0x200B0808 + 0x10000 * p
def F.NCNT_RX_OCTETS_HI (p : Nat) : Fd := ⟨A.NCNT_RX_OCTETS_HI p, 31, 0, .ro, 0⟩
/-- Address of NCNT_RX_RUNT (R194). -/
def A.NCNT_RX_RUNT (p : Nat) : Nat := 0x200B080C + 0x10000 * p
def F.NCNT_RX_RUNT (p : Nat) : Fd := ⟨A.NCNT_RX_RUNT p, 31, 0, .ro, 0⟩
/-- Address of NCNT_RX_OVERSIZE (R194). -/
def A.NCNT_RX_OVERSIZE (p : Nat) : Nat := 0x200B0810 + 0x10000 * p
def F.NCNT_RX_OVERSIZE (p : Nat) : Fd := ⟨A.NCNT_RX_OVERSIZE p, 31, 0, .ro, 0⟩
/-- Address of NCNT_RX_FCS (R194). -/
def A.NCNT_RX_FCS (p : Nat) : Nat := 0x200B0814 + 0x10000 * p
def F.NCNT_RX_FCS (p : Nat) : Fd := ⟨A.NCNT_RX_FCS p, 31, 0, .ro, 0⟩
/-- Address of NCNT_RX_CODE (R194). -/
def A.NCNT_RX_CODE (p : Nat) : Nat := 0x200B0818 + 0x10000 * p
def F.NCNT_RX_CODE (p : Nat) : Fd := ⟨A.NCNT_RX_CODE p, 31, 0, .ro, 0⟩
/-- Address of NCNT_RX_PAUSE (R194). -/
def A.NCNT_RX_PAUSE (p : Nat) : Nat := 0x200B081C + 0x10000 * p
def F.NCNT_RX_PAUSE (p : Nat) : Fd := ⟨A.NCNT_RX_PAUSE p, 31, 0, .ro, 0⟩
/-- Address of NCNT_RX_DA_DROP (R194). -/
def A.NCNT_RX_DA_DROP (p : Nat) : Nat := 0x200B0820 + 0x10000 * p
def F.NCNT_RX_DA_DROP (p : Nat) : Fd := ⟨A.NCNT_RX_DA_DROP p, 31, 0, .ro, 0⟩
/-- Address of NCNT_RX_VLAN_DROP (R194). -/
def A.NCNT_RX_VLAN_DROP (p : Nat) : Nat := 0x200B0824 + 0x10000 * p
def F.NCNT_RX_VLAN_DROP (p : Nat) : Fd := ⟨A.NCNT_RX_VLAN_DROP p, 31, 0, .ro, 0⟩
/-- Address of NCNT_RX_BUF_DROP (R194). -/
def A.NCNT_RX_BUF_DROP (p : Nat) : Nat := 0x200B0828 + 0x10000 * p
def F.NCNT_RX_BUF_DROP (p : Nat) : Fd := ⟨A.NCNT_RX_BUF_DROP p, 31, 0, .ro, 0⟩
/-- Address of NCNT_RX_NOBUF (R194). -/
def A.NCNT_RX_NOBUF (p : Nat) : Nat := 0x200B082C + 0x10000 * p
def F.NCNT_RX_NOBUF (p : Nat) : Fd := ⟨A.NCNT_RX_NOBUF p, 31, 0, .ro, 0⟩
/-- Address of NCNT_TX_OK (R194). -/
def A.NCNT_TX_OK (p : Nat) : Nat := 0x200B0830 + 0x10000 * p
def F.NCNT_TX_OK (p : Nat) : Fd := ⟨A.NCNT_TX_OK p, 31, 0, .ro, 0⟩
/-- Address of NCNT_TX_OCTETS_LO (R194). -/
def A.NCNT_TX_OCTETS_LO (p : Nat) : Nat := 0x200B0834 + 0x10000 * p
def F.NCNT_TX_OCTETS_LO (p : Nat) : Fd := ⟨A.NCNT_TX_OCTETS_LO p, 31, 0, .ro, 0⟩
/-- Address of NCNT_TX_OCTETS_HI (R194). -/
def A.NCNT_TX_OCTETS_HI (p : Nat) : Nat := 0x200B0838 + 0x10000 * p
def F.NCNT_TX_OCTETS_HI (p : Nat) : Fd := ⟨A.NCNT_TX_OCTETS_HI p, 31, 0, .ro, 0⟩
/-- Address of NCNT_TX_LEN_ERR (R194). -/
def A.NCNT_TX_LEN_ERR (p : Nat) : Nat := 0x200B083C + 0x10000 * p
def F.NCNT_TX_LEN_ERR (p : Nat) : Fd := ⟨A.NCNT_TX_LEN_ERR p, 31, 0, .ro, 0⟩
/-- Address of NCNT_FEC_CORR (R194). -/
def A.NCNT_FEC_CORR (p : Nat) : Nat := 0x200B0840 + 0x10000 * p
def F.NCNT_FEC_CORR (p : Nat) : Fd := ⟨A.NCNT_FEC_CORR p, 31, 0, .ro, 0⟩
/-- Address of NCNT_FEC_UNCORR (R194). -/
def A.NCNT_FEC_UNCORR (p : Nat) : Nat := 0x200B0844 + 0x10000 * p
def F.NCNT_FEC_UNCORR (p : Nat) : Fd := ⟨A.NCNT_FEC_UNCORR p, 31, 0, .ro, 0⟩
/-- Address of NCNT_LINK_DOWNS (R194). -/
def A.NCNT_LINK_DOWNS (p : Nat) : Nat := 0x200B0848 + 0x10000 * p
def F.NCNT_LINK_DOWNS (p : Nat) : Fd := ⟨A.NCNT_LINK_DOWNS p, 31, 0, .ro, 0⟩
/-- Address of NET_CNT_CLR (R194). -/
def A.NET_CNT_CLR (p : Nat) : Nat := 0x200B0850 + 0x10000 * p
def F.NET_CNT_CLR_ALL (p : Nat) : Fd := ⟨A.NET_CNT_CLR p, 0, 0, .wo, 0⟩

/-! ## PP -/
/-- Address of PP_CTRL (R241). -/
def A.PP_CTRL : Nat := 0x20030000
def F.PP_CTRL_STEER : Fd := ⟨A.PP_CTRL, 10, 10, .rw, 1⟩
def F.PP_CTRL_REVERT : Fd := ⟨A.PP_CTRL, 9, 9, .rw, 1⟩
def F.PP_CTRL_BW : Fd := ⟨A.PP_CTRL, 8, 6, .rw, 2⟩
def F.PP_CTRL_SEL : Fd := ⟨A.PP_CTRL, 2, 0, .rw, 5⟩
/-- Address of PP_STAT (R241). -/
def A.PP_STAT : Nat := 0x20030004
def F.PP_STAT_LOCKLOSS : Fd := ⟨A.PP_STAT, 12, 12, .w1c, 0⟩
def F.PP_STAT_HISTVALID : Fd := ⟨A.PP_STAT, 11, 11, .ro, 0⟩
def F.PP_STAT_SELOK : Fd := ⟨A.PP_STAT, 10, 10, .ro, 1⟩
def F.PP_STAT_REVPEND : Fd := ⟨A.PP_STAT, 9, 9, .ro, 0⟩
def F.PP_STAT_CLAMP : Fd := ⟨A.PP_STAT, 8, 8, .ro, 0⟩
def F.PP_STAT_STATE : Fd := ⟨A.PP_STAT, 6, 4, .ro, 0⟩
def F.PP_STAT_ACTIVE : Fd := ⟨A.PP_STAT, 2, 0, .ro, 5⟩
/-- Address of PP_RANK (R241). -/
def A.PP_RANK : Nat := 0x20030008
def F.PP_RANK_RANK (r : Nat) : Fd := ⟨A.PP_RANK, 4 * r + 2, 4 * r, (if r = 5 then .ro else .rw), (0x00743210 / 16 ^ r % 8)⟩
/-- Address of PP_REF_EN (R241). -/
def A.PP_REF_EN : Nat := 0x2003000C
def F.PP_REF_EN_EN : Fd := ⟨A.PP_REF_EN, 4, 0, .rw, 0⟩
/-- Address of PP_QUAL (R241). -/
def A.PP_QUAL : Nat := 0x20030010
def F.PP_QUAL_QUAL_MS : Fd := ⟨A.PP_QUAL, 31, 16, .rw, 0x7d0⟩
def F.PP_QUAL_QUAL_PPM : Fd := ⟨A.PP_QUAL, 15, 0, .rw, 0x64⟩
/-- Address of PP_HOLDOFF (R241). -/
def A.PP_HOLDOFF : Nat := 0x20030014
def F.PP_HOLDOFF_SECONDS : Fd := ⟨A.PP_HOLDOFF, 15, 0, .rw, 0xa⟩
/-- Address of PP_DISAGREE (R241). -/
def A.PP_DISAGREE : Nat := 0x20030018
def F.PP_DISAGREE_PPB : Fd := ⟨A.PP_DISAGREE, 15, 0, .rw, 0x64⟩
/-- Address of PP_LOCK (R241). -/
def A.PP_LOCK : Nat := 0x2003001C
def F.PP_LOCK_LOCK_MS : Fd := ⟨A.PP_LOCK, 31, 16, .rw, 0x3e8⟩
def F.PP_LOCK_LOCK_NS : Fd := ⟨A.PP_LOCK, 15, 0, .rw, 0x64⟩
/-- Address of PP_SLEW (R241). -/
def A.PP_SLEW : Nat := 0x20030020
def F.PP_SLEW_NS_PER_S : Fd := ⟨A.PP_SLEW, 15, 0, .rw, 0xa⟩
/-- Address of PP_PTP (R241). -/
def A.PP_PTP : Nat := 0x20030024
def F.PP_PTP_TMO_MS : Fd := ⟨A.PP_PTP, 31, 16, .rw, 0x1f4⟩
def F.PP_PTP_VALID1 : Fd := ⟨A.PP_PTP, 1, 1, .rw, 0⟩
def F.PP_PTP_VALID0 : Fd := ⟨A.PP_PTP, 0, 0, .rw, 0⟩
/-- Address of PP_PTP_ERR (R241). -/
def A.PP_PTP_ERR (k : Nat) : Nat := 0x20030028 + 0x4 * k
def F.PP_PTP_ERR_ERR (k : Nat) : Fd := ⟨A.PP_PTP_ERR k, 31, 0, .wo, 0⟩
/-- Address of PP_WCLK_CFG (R241). -/
def A.PP_WCLK_CFG : Nat := 0x20030030
def F.PP_WCLK_CFG_EDGE : Fd := ⟨A.PP_WCLK_CFG, 2, 2, .rw, 0⟩
def F.PP_WCLK_CFG_RATE : Fd := ⟨A.PP_WCLK_CFG, 1, 0, .rw, 0⟩
/-- Address of PP_SAPREF_CFG (R241). -/
def A.PP_SAPREF_CFG : Nat := 0x20030034
def F.PP_SAPREF_CFG_PORT : Fd := ⟨A.PP_SAPREF_CFG, 3, 0, .rw, 0⟩
/-- Address of PP_REFSTAT (R241). -/
def A.PP_REFSTAT : Nat := 0x20030038
def F.PP_REFSTAT_LOS : Fd := ⟨A.PP_REFSTAT, 21, 16, .w1c, 0⟩
def F.PP_REFSTAT_DISAGREE : Fd := ⟨A.PP_REFSTAT, 13, 8, .ro, 0⟩
def F.PP_REFSTAT_VALID : Fd := ⟨A.PP_REFSTAT, 5, 0, .ro, 0x20⟩
/-- Address of PP_REFSEL (R241). -/
def A.PP_REFSEL : Nat := 0x2003003C
def F.PP_REFSEL_REF : Fd := ⟨A.PP_REFSEL, 2, 0, .rw, 0⟩
/-- Address of PP_REF_PHASE (R241). -/
def A.PP_REF_PHASE (i : Nat) : Nat := 0x20030040 + 0x100000000 * i
def F.PP_REF_PHASE_E (i : Nat) : Fd := ⟨A.PP_REF_PHASE i, 31, 0, .ro, 0⟩
/-- Address of PP_REF_FREQ (R241). -/
def A.PP_REF_FREQ (i : Nat) : Nat := 0x20030044 + 0x100000000 * i
def F.PP_REF_FREQ_F (i : Nat) : Fd := ⟨A.PP_REF_FREQ i, 31, 0, .ro, 0⟩
/-- Address of PP_BUILDOUT (R241). -/
def A.PP_BUILDOUT (i : Nat) : Nat := 0x20030048 + 0x100000000 * i
def F.PP_BUILDOUT_B (i : Nat) : Fd := ⟨A.PP_BUILDOUT i, 31, 0, .ro, 0⟩
/-- Address of PP_HOLD_RATE (R241). -/
def A.PP_HOLD_RATE : Nat := 0x2003004C
def F.PP_HOLD_RATE_RATE : Fd := ⟨A.PP_HOLD_RATE, 31, 0, .ro, 0⟩
/-- Address of PP_HOLD_AGE (R241). -/
def A.PP_HOLD_AGE : Nat := 0x20030050
def F.PP_HOLD_AGE_SECONDS : Fd := ⟨A.PP_HOLD_AGE, 31, 0, .ro, 0⟩
/-- Address of PP_FREERUN_RATE (R241). -/
def A.PP_FREERUN_RATE : Nat := 0x20030054
def F.PP_FREERUN_RATE_RATE : Fd := ⟨A.PP_FREERUN_RATE, 31, 0, .rw, 0⟩
/-- Address of PP_PSTEP (R241). -/
def A.PP_PSTEP : Nat := 0x20030058
def F.PP_PSTEP_DELTA : Fd := ⟨A.PP_PSTEP, 31, 0, .rw, 0⟩
/-- Address of PP_PSTEP_CMD (R241). -/
def A.PP_PSTEP_CMD : Nat := 0x2003005C
def F.PP_PSTEP_CMD_KEY : Fd := ⟨A.PP_PSTEP_CMD, 31, 16, .wo, 0⟩
def F.PP_PSTEP_CMD_MODE : Fd := ⟨A.PP_PSTEP_CMD, 1, 1, .wo, 0⟩
def F.PP_PSTEP_CMD_GO : Fd := ⟨A.PP_PSTEP_CMD, 0, 0, .wo, 0⟩
/-- Address of PP_PSTEP_STAT (R241). -/
def A.PP_PSTEP_STAT : Nat := 0x20030060
def F.PP_PSTEP_STAT_BUSY : Fd := ⟨A.PP_PSTEP_STAT, 31, 31, .ro, 0⟩
def F.PP_PSTEP_STAT_RESULT : Fd := ⟨A.PP_PSTEP_STAT, 2, 0, .ro, 0⟩
/-- Address of PP_PSTEP_REMAIN (R241). -/
def A.PP_PSTEP_REMAIN : Nat := 0x20030064
def F.PP_PSTEP_REMAIN_REMAIN : Fd := ⟨A.PP_PSTEP_REMAIN, 31, 0, .ro, 0⟩
/-- Address of PP_CLKOUT (R241). -/
def A.PP_CLKOUT : Nat := 0x20030068
def F.PP_CLKOUT_WC_EN : Fd := ⟨A.PP_CLKOUT, 9, 9, .rw, 0⟩
def F.PP_CLKOUT_WC_48 : Fd := ⟨A.PP_CLKOUT, 8, 8, .rw, 0⟩
def F.PP_CLKOUT_MC1_EN : Fd := ⟨A.PP_CLKOUT, 7, 7, .rw, 0⟩
def F.PP_CLKOUT_MC1_DIV : Fd := ⟨A.PP_CLKOUT, 6, 5, .rw, 0⟩
def F.PP_CLKOUT_MC0_EN : Fd := ⟨A.PP_CLKOUT, 2, 2, .rw, 0⟩
def F.PP_CLKOUT_MC0_DIV : Fd := ⟨A.PP_CLKOUT, 1, 0, .rw, 0⟩
/-- Address of PP_EVT (R241). -/
def A.PP_EVT : Nat := 0x2003006C
def F.PP_EVT_STATE : Fd := ⟨A.PP_EVT, 4, 4, .w1c, 0⟩
def F.PP_EVT_SWITCH : Fd := ⟨A.PP_EVT, 3, 3, .w1c, 0⟩
def F.PP_EVT_REFLOSS : Fd := ⟨A.PP_EVT, 2, 2, .w1c, 0⟩
def F.PP_EVT_DISAGREE : Fd := ⟨A.PP_EVT, 1, 1, .w1c, 0⟩
def F.PP_EVT_PSTEP : Fd := ⟨A.PP_EVT, 0, 0, .w1c, 0⟩
/-- Address of PP_SWCOUNT (R241). -/
def A.PP_SWCOUNT : Nat := 0x20030070
def F.PP_SWCOUNT_COUNT : Fd := ⟨A.PP_SWCOUNT, 31, 0, .ro, 0⟩

/-! ## TIME -/
/-- Address of TIME_STAT (R258). -/
def A.TIME_STAT : Nat := 0x20040000
def F.TIME_STAT_EPOCH : Fd := ⟨A.TIME_STAT, 31, 24, .ro, 0⟩
def F.TIME_STAT_ARMED : Fd := ⟨A.TIME_STAT, 4, 4, .ro, 1⟩
def F.TIME_STAT_RATEREJ : Fd := ⟨A.TIME_STAT, 3, 3, .w1c, 0⟩
def F.TIME_STAT_STEPREJ : Fd := ⟨A.TIME_STAT, 2, 2, .w1c, 0⟩
def F.TIME_STAT_STEPPED : Fd := ⟨A.TIME_STAT, 1, 1, .w1c, 0⟩
/-- Address of TIME_SERVO (R258). -/
def A.TIME_SERVO : Nat := 0x20040004
def F.TIME_SERVO_KEY : Fd := ⟨A.TIME_SERVO, 31, 16, .wo, 0⟩
def F.TIME_SERVO_RESET : Fd := ⟨A.TIME_SERVO, 0, 0, .wo, 0⟩
/-- Address of TIME_RATE (R258). -/
def A.TIME_RATE : Nat := 0x20040008
def F.TIME_RATE_RATE : Fd := ⟨A.TIME_RATE, 31, 0, .rw, 0⟩
/-- Address of TIME_OFFSET_LO (R258). -/
def A.TIME_OFFSET_LO : Nat := 0x20040010
def F.TIME_OFFSET_LO_DELTA_LO : Fd := ⟨A.TIME_OFFSET_LO, 31, 0, .rw, 0⟩
/-- Address of TIME_OFFSET_HI (R258). -/
def A.TIME_OFFSET_HI : Nat := 0x20040014
def F.TIME_OFFSET_HI_DELTA_HI : Fd := ⟨A.TIME_OFFSET_HI, 31, 0, .wl, 0⟩
/-- Address of TIME_NOW_LO (R258). -/
def A.TIME_NOW_LO : Nat := 0x20040020
def F.TIME_NOW_LO_NS_LO : Fd := ⟨A.TIME_NOW_LO, 31, 0, .ro, 0⟩
/-- Address of TIME_RAW_LO (R258). -/
def A.TIME_RAW_LO : Nat := 0x20040030
def F.TIME_RAW_LO_NS_LO : Fd := ⟨A.TIME_RAW_LO, 31, 0, .ro, 0⟩
/-- Address of TIME_NOW_HI (R258). -/
def A.TIME_NOW_HI : Nat := 0x20040024
def F.TIME_NOW_HI_NS_HI : Fd := ⟨A.TIME_NOW_HI, 31, 0, .ro, 0⟩
/-- Address of TIME_RAW_HI (R258). -/
def A.TIME_RAW_HI : Nat := 0x20040034
def F.TIME_RAW_HI_NS_HI : Fd := ⟨A.TIME_RAW_HI, 31, 0, .ro, 0⟩
/-- Address of TIME_NOW_FRAC (R258). -/
def A.TIME_NOW_FRAC : Nat := 0x20040028
def F.TIME_NOW_FRAC_FRAC : Fd := ⟨A.TIME_NOW_FRAC, 7, 0, .ro, 0⟩
/-- Address of TIME_RAW_FRAC (R258). -/
def A.TIME_RAW_FRAC : Nat := 0x20040038
def F.TIME_RAW_FRAC_FRAC : Fd := ⟨A.TIME_RAW_FRAC, 7, 0, .ro, 0⟩
/-- Address of TIME_SNAP (R258). -/
def A.TIME_SNAP : Nat := 0x20040040
def F.TIME_SNAP_GO : Fd := ⟨A.TIME_SNAP, 0, 0, .wo, 0⟩
/-- Address of TIME_SNAP_NS_LO (R258). -/
def A.TIME_SNAP_NS_LO : Nat := 0x20040044
def F.TIME_SNAP_NS_LO_NS : Fd := ⟨A.TIME_SNAP_NS_LO, 31, 0, .ro, 0⟩
/-- Address of TIME_SNAP_NS_HI (R258). -/
def A.TIME_SNAP_NS_HI : Nat := 0x20040048
def F.TIME_SNAP_NS_HI_NS : Fd := ⟨A.TIME_SNAP_NS_HI, 31, 0, .ro, 0⟩
/-- Address of TIME_SNAP_SEC_LO (R258). -/
def A.TIME_SNAP_SEC_LO : Nat := 0x2004004C
def F.TIME_SNAP_SEC_LO_SEC_LO : Fd := ⟨A.TIME_SNAP_SEC_LO, 31, 0, .ro, 0⟩
/-- Address of TIME_SNAP_SEC_HI (R258). -/
def A.TIME_SNAP_SEC_HI : Nat := 0x20040050
def F.TIME_SNAP_SEC_HI_SEC_HI : Fd := ⟨A.TIME_SNAP_SEC_HI, 15, 0, .ro, 0⟩
/-- Address of TIME_EVT (R258). -/
def A.TIME_EVT : Nat := 0x20040060
def F.TIME_EVT_TXTS : Fd := ⟨A.TIME_EVT, 20, 16, .w1c, 0⟩
def F.TIME_EVT_CAP : Fd := ⟨A.TIME_EVT, 15, 8, .w1c, 0⟩
def F.TIME_EVT_TRIG : Fd := ⟨A.TIME_EVT, 7, 0, .w1c, 0⟩
/-- Address of TRIG_CFG (R258). -/
def A.TRIG_CFG (k : Nat) : Nat := 0x20040100 + 0x20 * k
def F.TRIG_CFG_EN (k : Nat) : Fd := ⟨A.TRIG_CFG k, 31, 31, .rw, 0⟩
def F.TRIG_CFG_MODE (k : Nat) : Fd := ⟨A.TRIG_CFG k, 30, 28, .rw, 0⟩
def F.TRIG_CFG_ACTION (k : Nat) : Fd := ⟨A.TRIG_CFG k, 27, 25, .rw, 0⟩
def F.TRIG_CFG_OUT (k : Nat) : Fd := ⟨A.TRIG_CFG k, 21, 20, .rw, 0⟩
def F.TRIG_CFG_PULSE (k : Nat) : Fd := ⟨A.TRIG_CFG k, 15, 0, .rw, 0⟩
/-- Address of TRIG_AT_LO (R258). -/
def A.TRIG_AT_LO (k : Nat) : Nat := 0x20040104 + 0x20 * k
def F.TRIG_AT_LO_AT_LO (k : Nat) : Fd := ⟨A.TRIG_AT_LO k, 31, 0, .rw, 0⟩
/-- Address of TRIG_AT_HI (R258). -/
def A.TRIG_AT_HI (k : Nat) : Nat := 0x20040108 + 0x20 * k
def F.TRIG_AT_HI_AT_HI (k : Nat) : Fd := ⟨A.TRIG_AT_HI k, 31, 0, .rw, 0⟩
/-- Address of TRIG_PERIOD (R258). -/
def A.TRIG_PERIOD (k : Nat) : Nat := 0x2004010C + 0x20 * k
def F.TRIG_PERIOD_PERIOD (k : Nat) : Fd := ⟨A.TRIG_PERIOD k, 31, 0, .rw, 0⟩
/-- Address of TRIG_TGT (R258). -/
def A.TRIG_TGT (k : Nat) : Nat := 0x20040110 + 0x20 * k
def F.TRIG_TGT_MASK (k : Nat) : Fd := ⟨A.TRIG_TGT k, 31, 0, .rw, 0⟩
/-- Address of TRIG_STAT (R258). -/
def A.TRIG_STAT (k : Nat) : Nat := 0x20040114 + 0x20 * k
def F.TRIG_STAT_ARMED (k : Nat) : Fd := ⟨A.TRIG_STAT k, 31, 31, .ro, 0⟩
def F.TRIG_STAT_LATE (k : Nat) : Fd := ⟨A.TRIG_STAT k, 30, 30, .w1c, 0⟩
def F.TRIG_STAT_STEPFIRE (k : Nat) : Fd := ⟨A.TRIG_STAT k, 29, 29, .w1c, 0⟩
def F.TRIG_STAT_IGNORED (k : Nat) : Fd := ⟨A.TRIG_STAT k, 28, 28, .w1c, 0⟩
def F.TRIG_STAT_BADCFG (k : Nat) : Fd := ⟨A.TRIG_STAT k, 27, 27, .w1c, 0⟩
def F.TRIG_STAT_CFGWR (k : Nat) : Fd := ⟨A.TRIG_STAT k, 26, 26, .w1c, 0⟩
def F.TRIG_STAT_FIRES (k : Nat) : Fd := ⟨A.TRIG_STAT k, 15, 0, .ro, 0⟩
/-- Address of TRIG_FIRED_LO (R258). -/
def A.TRIG_FIRED_LO (k : Nat) : Nat := 0x20040118 + 0x20 * k
def F.TRIG_FIRED_LO_NS (k : Nat) : Fd := ⟨A.TRIG_FIRED_LO k, 31, 0, .ro, 0⟩
/-- Address of TRIG_FIRED_HI (R258). -/
def A.TRIG_FIRED_HI (k : Nat) : Nat := 0x2004011C + 0x20 * k
def F.TRIG_FIRED_HI_NS (k : Nat) : Fd := ⟨A.TRIG_FIRED_HI k, 31, 0, .ro, 0⟩
/-- Address of CAP_CFG (R258). -/
def A.CAP_CFG (c : Nat) : Nat := 0x20040200 + 0x10 * c
def F.CAP_CFG_EN (c : Nat) : Fd := ⟨A.CAP_CFG c, 31, 31, .rw, 0⟩
def F.CAP_CFG_SRC (c : Nat) : Fd := ⟨A.CAP_CFG c, 27, 24, .rw, 0⟩
def F.CAP_CFG_ARG (c : Nat) : Fd := ⟨A.CAP_CFG c, 7, 0, .rw, 0⟩
/-- Address of CAP_STAT (R258). -/
def A.CAP_STAT (c : Nat) : Nat := 0x20040204 + 0x10 * c
def F.CAP_STAT_OVF (c : Nat) : Fd := ⟨A.CAP_STAT c, 31, 31, .w1c, 0⟩
def F.CAP_STAT_VALID (c : Nat) : Fd := ⟨A.CAP_STAT c, 23, 23, .ro, 0⟩
def F.CAP_STAT_COUNT (c : Nat) : Fd := ⟨A.CAP_STAT c, 18, 16, .ro, 0⟩
def F.CAP_STAT_FRAC (c : Nat) : Fd := ⟨A.CAP_STAT c, 7, 0, .ro, 0⟩
/-- Address of CAP_TS_LO (R258). -/
def A.CAP_TS_LO (c : Nat) : Nat := 0x20040208 + 0x10 * c
def F.CAP_TS_LO_NS_LO (c : Nat) : Fd := ⟨A.CAP_TS_LO c, 31, 0, .ro, 0⟩
/-- Address of CAP_TS_HI (R258). -/
def A.CAP_TS_HI (c : Nat) : Nat := 0x2004020C + 0x10 * c
def F.CAP_TS_HI_NS_HI (c : Nat) : Fd := ⟨A.CAP_TS_HI c, 31, 0, .ro, 0⟩
/-- Address of TXTS_TS (R258). -/
def A.TXTS_TS (p : Nat) : Nat := 0x20040300 + 0x10 * p
def F.TXTS_TS_TS (p : Nat) : Fd := ⟨A.TXTS_TS p, 31, 0, .ro, 0⟩
/-- Address of TXTS_TAG (R258). -/
def A.TXTS_TAG (p : Nat) : Nat := 0x20040304 + 0x10 * p
def F.TXTS_TAG_VALID (p : Nat) : Fd := ⟨A.TXTS_TAG p, 31, 31, .ro, 0⟩
def F.TXTS_TAG_TAG (p : Nat) : Fd := ⟨A.TXTS_TAG p, 15, 0, .ro, 0⟩
/-- Address of TXTS_STAT (R258). -/
def A.TXTS_STAT (p : Nat) : Nat := 0x20040308 + 0x10 * p
def F.TXTS_STAT_TXTS_OVF (p : Nat) : Fd := ⟨A.TXTS_STAT p, 31, 31, .w1c, 0⟩
def F.TXTS_STAT_DROPPED (p : Nat) : Fd := ⟨A.TXTS_STAT p, 23, 16, .ro, 0⟩
def F.TXTS_STAT_COUNT (p : Nat) : Fd := ⟨A.TXTS_STAT p, 4, 0, .ro, 0⟩

/-! ## TWIN -/
/-- Address of TWIN_CTRL (R310). -/
def A.TWIN_CTRL : Nat := 0x20100000
def F.TWIN_CTRL_EN : Fd := ⟨A.TWIN_CTRL, 31, 31, .rw, 0⟩
def F.TWIN_CTRL_AGREE : Fd := ⟨A.TWIN_CTRL, 23, 16, .rw, 0x60⟩
def F.TWIN_CTRL_RETRY_MAX : Fd := ⟨A.TWIN_CTRL, 11, 8, .rw, 3⟩
def F.TWIN_CTRL_HB_MISS : Fd := ⟨A.TWIN_CTRL, 3, 0, .rw, 3⟩
/-- Address of TWIN_STAT (R310). -/
def A.TWIN_STAT : Nat := 0x20100004
def F.TWIN_STAT_LINK : Fd := ⟨A.TWIN_STAT, 31, 30, .ro, 0⟩
def F.TWIN_STAT_ROLE : Fd := ⟨A.TWIN_STAT, 29, 28, .ro, 0⟩
def F.TWIN_STAT_ALIGNED : Fd := ⟨A.TWIN_STAT, 27, 27, .ro, 0⟩
def F.TWIN_STAT_JOINREQ : Fd := ⟨A.TWIN_STAT, 26, 26, .w1c, 0⟩
def F.TWIN_STAT_UNCOVERED : Fd := ⟨A.TWIN_STAT, 25, 25, .ro, 0⟩
def F.TWIN_STAT_INCOMPAT : Fd := ⟨A.TWIN_STAT, 24, 22, .ro, 0⟩
/-- Address of TWIN_SKEW_MAX (R310). -/
def A.TWIN_SKEW_MAX : Nat := 0x20100008
def F.TWIN_SKEW_MAX_NS : Fd := ⟨A.TWIN_SKEW_MAX, 15, 0, .rw, 0x7d0⟩
/-- Address of TWIN_RESEAT_RATE (R310). -/
def A.TWIN_RESEAT_RATE : Nat := 0x2010000C
def F.TWIN_RESEAT_RATE_MBPS : Fd := ⟨A.TWIN_RESEAT_RATE, 15, 0, .rw, 0x7d0⟩
/-- Address of TWIN_CMD (R310). -/
def A.TWIN_CMD : Nat := 0x20100010
def F.TWIN_CMD_KEY : Fd := ⟨A.TWIN_CMD, 31, 16, .wo, 0⟩
def F.TWIN_CMD_OP : Fd := ⟨A.TWIN_CMD, 3, 0, .wo, 0⟩
/-- Address of TWIN_CMD_BREATH_LO (R310). -/
def A.TWIN_CMD_BREATH_LO : Nat := 0x20100018
def F.TWIN_CMD_BREATH_LO_Y_LO : Fd := ⟨A.TWIN_CMD_BREATH_LO, 31, 0, .rw, 0⟩
/-- Address of TWIN_CMD_BREATH_HI (R310). -/
def A.TWIN_CMD_BREATH_HI : Nat := 0x2010001C
def F.TWIN_CMD_BREATH_HI_Y_HI : Fd := ⟨A.TWIN_CMD_BREATH_HI, 15, 0, .rw, 0⟩
/-- Address of TWIN_CMD_STAT (R310). -/
def A.TWIN_CMD_STAT : Nat := 0x20100020
def F.TWIN_CMD_STAT_BUSY : Fd := ⟨A.TWIN_CMD_STAT, 31, 31, .ro, 0⟩
def F.TWIN_CMD_STAT_RESULT : Fd := ⟨A.TWIN_CMD_STAT, 2, 0, .ro, 0⟩
/-- Address of TWIN_QUIET (R310). -/
def A.TWIN_QUIET : Nat := 0x20100024
def F.TWIN_QUIET_PARTNER : Fd := ⟨A.TWIN_QUIET, 31, 16, .ro, 0⟩
def F.TWIN_QUIET_OWN : Fd := ⟨A.TWIN_QUIET, 15, 0, .ro, 0⟩
/-- Address of TWIN_QREASON (R310). -/
def A.TWIN_QREASON : Nat := 0x20100028
def F.TWIN_QREASON_REASON : Fd := ⟨A.TWIN_QREASON, 31, 0, .ro, 0⟩
/-- Address of TWIN_RS_STAT (R310). -/
def A.TWIN_RS_STAT : Nat := 0x2010002C
def F.TWIN_RS_STAT_PHASE : Fd := ⟨A.TWIN_RS_STAT, 31, 29, .ro, 0⟩
def F.TWIN_RS_STAT_LASTERR : Fd := ⟨A.TWIN_RS_STAT, 28, 25, .ro, 0⟩
def F.TWIN_RS_STAT_FAILS : Fd := ⟨A.TWIN_RS_STAT, 19, 16, .ro, 0⟩
def F.TWIN_RS_STAT_SET : Fd := ⟨A.TWIN_RS_STAT, 15, 0, .ro, 0⟩
/-- Address of TWIN_RS_SEAT_LO (R310). -/
def A.TWIN_RS_SEAT_LO : Nat := 0x20100030
def F.TWIN_RS_SEAT_LO_S_LO : Fd := ⟨A.TWIN_RS_SEAT_LO, 31, 0, .ro, 0⟩
/-- Address of TWIN_RS_SEAT_HI (R310). -/
def A.TWIN_RS_SEAT_HI : Nat := 0x20100034
def F.TWIN_RS_SEAT_HI_S_HI : Fd := ⟨A.TWIN_RS_SEAT_HI, 15, 0, .ro, 0⟩
/-- Address of TWIN_RS_GAP (R310). -/
def A.TWIN_RS_GAP : Nat := 0x20100038
def F.TWIN_RS_GAP_BREATHS : Fd := ⟨A.TWIN_RS_GAP, 15, 0, .ro, 0⟩
/-- Address of TWIN_RS_BYTES (R310). -/
def A.TWIN_RS_BYTES : Nat := 0x2010003C
def F.TWIN_RS_BYTES_BYTES : Fd := ⟨A.TWIN_RS_BYTES, 31, 0, .ro, 0⟩
/-- Address of TWIN_CNT0 (R310). -/
def A.TWIN_CNT0 : Nat := 0x20100040
def F.TWIN_CNT0_MISMATCH : Fd := ⟨A.TWIN_CNT0, 31, 16, .ro, 0⟩
def F.TWIN_CNT0_RESEATS : Fd := ⟨A.TWIN_CNT0, 15, 0, .ro, 0⟩
/-- Address of TWIN_CNT1 (R310). -/
def A.TWIN_CNT1 : Nat := 0x20100044
def F.TWIN_CNT1_HBMISS : Fd := ⟨A.TWIN_CNT1, 31, 16, .ro, 0⟩
def F.TWIN_CNT1_LOSTS : Fd := ⟨A.TWIN_CNT1, 15, 12, .ro, 0⟩
def F.TWIN_CNT1_RSFAIL : Fd := ⟨A.TWIN_CNT1, 11, 4, .ro, 0⟩
def F.TWIN_CNT1_BADFRAME : Fd := ⟨A.TWIN_CNT1, 3, 0, .ro, 0⟩
/-- Address of TWIN_PSERIAL_LO (R310). -/
def A.TWIN_PSERIAL_LO : Nat := 0x20100048
def F.TWIN_PSERIAL_LO_SERIAL : Fd := ⟨A.TWIN_PSERIAL_LO, 31, 0, .ro, 0⟩
/-- Address of TWIN_PSERIAL_HI (R310). -/
def A.TWIN_PSERIAL_HI : Nat := 0x2010004C
def F.TWIN_PSERIAL_HI_SERIAL : Fd := ⟨A.TWIN_PSERIAL_HI, 31, 0, .ro, 0⟩
/-- Address of TWIN_OFFSET_LO (R310). -/
def A.TWIN_OFFSET_LO : Nat := 0x20100050
def F.TWIN_OFFSET_LO_OFFSET : Fd := ⟨A.TWIN_OFFSET_LO, 31, 0, .ro, 0⟩
/-- Address of TWIN_OFFSET_HI (R310). -/
def A.TWIN_OFFSET_HI : Nat := 0x20100054
def F.TWIN_OFFSET_HI_OFFSET : Fd := ⟨A.TWIN_OFFSET_HI, 31, 0, .ro, 0⟩
/-- Address of TWIN_LINKDLY (R310). -/
def A.TWIN_LINKDLY : Nat := 0x20100058
def F.TWIN_LINKDLY_DELAY : Fd := ⟨A.TWIN_LINKDLY, 31, 0, .ro, 0⟩
/-- Address of TWIN_SKEW (R310). -/
def A.TWIN_SKEW : Nat := 0x2010005C
def F.TWIN_SKEW_SKEW : Fd := ⟨A.TWIN_SKEW, 31, 0, .ro, 0⟩
/-- Address of TWIN_EVT (R310). -/
def A.TWIN_EVT : Nat := 0x20100060
def F.TWIN_EVT_JOIN : Fd := ⟨A.TWIN_EVT, 5, 5, .w1c, 0⟩
def F.TWIN_EVT_RESEAT_DONE : Fd := ⟨A.TWIN_EVT, 4, 4, .w1c, 0⟩
def F.TWIN_EVT_RESEAT_FAIL : Fd := ⟨A.TWIN_EVT, 3, 3, .w1c, 0⟩
def F.TWIN_EVT_MISMATCH : Fd := ⟨A.TWIN_EVT, 2, 2, .w1c, 0⟩
def F.TWIN_EVT_ROLE : Fd := ⟨A.TWIN_EVT, 1, 1, .w1c, 0⟩
def F.TWIN_EVT_LINK : Fd := ⟨A.TWIN_EVT, 0, 0, .w1c, 0⟩
/-- Address of TWIN_SA_HI (R310). -/
def A.TWIN_SA_HI : Nat := 0x20100064
def F.TWIN_SA_HI_SA_HI : Fd := ⟨A.TWIN_SA_HI, 15, 0, .rw, 0⟩
/-- Address of TWIN_SA_LO (R310). -/
def A.TWIN_SA_LO : Nat := 0x20100068
def F.TWIN_SA_LO_SA_LO : Fd := ⟨A.TWIN_SA_LO, 31, 0, .rw, 0⟩
/-- Address of TWIN_PNEXT_LO (R310). -/
def A.TWIN_PNEXT_LO : Nat := 0x2010006C
def F.TWIN_PNEXT_LO_N_LO : Fd := ⟨A.TWIN_PNEXT_LO, 31, 0, .ro, 0⟩
/-- Address of TWIN_PNEXT_HI (R310). -/
def A.TWIN_PNEXT_HI : Nat := 0x20100070
def F.TWIN_PNEXT_HI_N_HI : Fd := ⟨A.TWIN_PNEXT_HI, 15, 0, .ro, 0⟩
/-- Address of TWIN_PSTART_LO (R310). -/
def A.TWIN_PSTART_LO : Nat := 0x20100074
def F.TWIN_PSTART_LO_NS : Fd := ⟨A.TWIN_PSTART_LO, 31, 0, .ro, 0⟩
/-- Address of TWIN_PSTART_HI (R310). -/
def A.TWIN_PSTART_HI : Nat := 0x20100078
def F.TWIN_PSTART_HI_NS : Fd := ⟨A.TWIN_PSTART_HI, 31, 0, .ro, 0⟩
/-- Address of TWIN_DIGSEL (R310). -/
def A.TWIN_DIGSEL : Nat := 0x20100080
def F.TWIN_DIGSEL_SECTION : Fd := ⟨A.TWIN_DIGSEL, 3, 0, .rw, 0⟩
/-- Address of TWIN_DIG_OWN_LO (R310). -/
def A.TWIN_DIG_OWN_LO (i : Nat) : Nat := 0x20100084 + 0x100000000 * i
def F.TWIN_DIG_OWN_LO_DIGEST (i : Nat) : Fd := ⟨A.TWIN_DIG_OWN_LO i, 31, 0, .ro, 0⟩
/-- Address of TWIN_DIG_OWN_HI (R310). -/
def A.TWIN_DIG_OWN_HI (i : Nat) : Nat := 0x20100088 + 0x100000000 * i
def F.TWIN_DIG_OWN_HI_DIGEST (i : Nat) : Fd := ⟨A.TWIN_DIG_OWN_HI i, 31, 0, .ro, 0⟩
/-- Address of TWIN_DIG_PART_LO (R310). -/
def A.TWIN_DIG_PART_LO (i : Nat) : Nat := 0x2010008C + 0x100000000 * i
def F.TWIN_DIG_PART_LO_DIGEST (i : Nat) : Fd := ⟨A.TWIN_DIG_PART_LO i, 31, 0, .ro, 0⟩
/-- Address of TWIN_DIG_PART_HI (R310). -/
def A.TWIN_DIG_PART_HI (i : Nat) : Nat := 0x20100090 + 0x100000000 * i
def F.TWIN_DIG_PART_HI_DIGEST (i : Nat) : Fd := ⟨A.TWIN_DIG_PART_HI i, 31, 0, .ro, 0⟩
/-- Address of TWIN_DIG_BREATH (R310). -/
def A.TWIN_DIG_BREATH (i : Nat) : Nat := 0x20100094 + 0x100000000 * i
def F.TWIN_DIG_BREATH_BREATH (i : Nat) : Fd := ⟨A.TWIN_DIG_BREATH i, 31, 0, .ro, 0⟩

end Sys2Proof.Machine
end

