-- ==== Sys2Proof/Machine/RegsNode.lean ====
section
/-!
DEFINITION. Addresses (`A.`) and fields (`F.`) of the registers of SYS, DISP, the reed core windows, MTX and ASRC, as the field tables of the named rules give them: address, highest bit, lowest bit, access type (R7) and reset value (R9). Reserved fields are left out: they read as zero and ignore writes (R8). A register that a selector register picks carries the instance above bit 32 of its address.
-/
namespace Sys2Proof.Machine

/-! ## SYS -/
/-- Address of SYS_ID (R32). -/
def A.SYS_ID : Nat := 0x20000000
def F.SYS_ID_PART : Fd := ⟨A.SYS_ID, 31, 16, .ro, 0x9632⟩
def F.SYS_ID_STEP : Fd := ⟨A.SYS_ID, 15, 8, .ro, 0x11⟩
def F.SYS_ID_PKG : Fd := ⟨A.SYS_ID, 7, 0, .ro, 4⟩
/-- Address of SYS_CAPS (R32). -/
def A.SYS_CAPS : Nat := 0x20000004
def F.SYS_CAPS_SAP_PORTS : Fd := ⟨A.SYS_CAPS, 28, 24, .ro, 0x10⟩
def F.SYS_CAPS_NET_PORTS : Fd := ⟨A.SYS_CAPS, 23, 20, .ro, 5⟩
def F.SYS_CAPS_DRAM_GIB : Fd := ⟨A.SYS_CAPS, 19, 16, .ro, 4⟩
def F.SYS_CAPS_REED_SPARE : Fd := ⟨A.SYS_CAPS, 15, 8, .ro, 8⟩
def F.SYS_CAPS_REED_TOTAL : Fd := ⟨A.SYS_CAPS, 7, 0, .ro, 0x88⟩
/-- Address of SYS_SERIAL_LO (R32). -/
def A.SYS_SERIAL_LO : Nat := 0x20000008
def F.SYS_SERIAL_LO_SERIAL : Fd := ⟨A.SYS_SERIAL_LO, 31, 0, .ro, Config.serialLo⟩
/-- Address of SYS_SERIAL_HI (R32). -/
def A.SYS_SERIAL_HI : Nat := 0x2000000C
def F.SYS_SERIAL_HI_SERIAL : Fd := ⟨A.SYS_SERIAL_HI, 31, 0, .ro, Config.serialHi⟩
/-- Address of SYS_MODE (R32). -/
def A.SYS_MODE : Nat := 0x20000010
def F.SYS_MODE_REQ : Fd := ⟨A.SYS_MODE, 1, 0, .rw, 0⟩
/-- Address of SYS_MODE_STAT (R32). -/
def A.SYS_MODE_STAT : Nat := 0x20000014
def F.SYS_MODE_STAT_MISMATCH : Fd := ⟨A.SYS_MODE_STAT, 31, 16, .ro, 0⟩
def F.SYS_MODE_STAT_RESULT : Fd := ⟨A.SYS_MODE_STAT, 10, 8, .ro, 0⟩
def F.SYS_MODE_STAT_APPLYING : Fd := ⟨A.SYS_MODE_STAT, 4, 4, .ro, 0⟩
def F.SYS_MODE_STAT_CUR : Fd := ⟨A.SYS_MODE_STAT, 1, 0, .ro, 0⟩
/-- Address of SYS_MODE_APPLY (R32). -/
def A.SYS_MODE_APPLY : Nat := 0x20000018
def F.SYS_MODE_APPLY_KEY : Fd := ⟨A.SYS_MODE_APPLY, 31, 16, .wo, 0⟩
def F.SYS_MODE_APPLY_GO : Fd := ⟨A.SYS_MODE_APPLY, 0, 0, .wo, 0⟩
/-- Address of SYS_URST (R32). -/
def A.SYS_URST : Nat := 0x20000020
def F.SYS_URST_KEY : Fd := ⟨A.SYS_URST, 31, 16, .wo, 0⟩
def F.SYS_URST_UNIT : Fd := ⟨A.SYS_URST, 12, 8, .wo, 0⟩
def F.SYS_URST_GO : Fd := ⟨A.SYS_URST, 0, 0, .wo, 0⟩
/-- Address of SYS_URST_STAT (R32). -/
def A.SYS_URST_STAT : Nat := 0x20000024
def F.SYS_URST_STAT_COUNT : Fd := ⟨A.SYS_URST_STAT, 31, 24, .ro, 0⟩
def F.SYS_URST_STAT_RESULT : Fd := ⟨A.SYS_URST_STAT, 18, 16, .ro, 0⟩
def F.SYS_URST_STAT_LAST_UNIT : Fd := ⟨A.SYS_URST_STAT, 12, 8, .ro, 0⟩
def F.SYS_URST_STAT_BUSY : Fd := ⟨A.SYS_URST_STAT, 0, 0, .ro, 0⟩
/-- Address of SYS_RESET_CAUSE (R32). -/
def A.SYS_RESET_CAUSE : Nat := 0x20000030
def F.SYS_RESET_CAUSE_WDOG : Fd := ⟨A.SYS_RESET_CAUSE, 4, 4, .w1c, 0⟩
def F.SYS_RESET_CAUSE_QUIET_EXIT : Fd := ⟨A.SYS_RESET_CAUSE, 3, 3, .w1c, 0⟩
def F.SYS_RESET_CAUSE_SW : Fd := ⟨A.SYS_RESET_CAUSE, 2, 2, .w1c, 0⟩
def F.SYS_RESET_CAUSE_PIN : Fd := ⟨A.SYS_RESET_CAUSE, 1, 1, .w1c, 0⟩
def F.SYS_RESET_CAUSE_POR : Fd := ⟨A.SYS_RESET_CAUSE, 0, 0, .w1c, 1⟩
/-- Address of SYS_WARM (R32). -/
def A.SYS_WARM : Nat := 0x20000034
def F.SYS_WARM_KEY : Fd := ⟨A.SYS_WARM, 31, 16, .wo, 0⟩
def F.SYS_WARM_GO : Fd := ⟨A.SYS_WARM, 0, 0, .wo, 0⟩
/-- Address of SYS_ERRADDR_LO (R32). -/
def A.SYS_ERRADDR_LO : Nat := 0x20000040
def F.SYS_ERRADDR_LO_ADDR_LO : Fd := ⟨A.SYS_ERRADDR_LO, 31, 0, .ro, 0⟩
/-- Address of SYS_ERRADDR_HI (R32). -/
def A.SYS_ERRADDR_HI : Nat := 0x20000044
def F.SYS_ERRADDR_HI_ADDR_HI : Fd := ⟨A.SYS_ERRADDR_HI, 7, 0, .ro, 0⟩
/-- Address of SYS_ERRINFO (R32). -/
def A.SYS_ERRINFO : Nat := 0x20000048
def F.SYS_ERRINFO_VALID : Fd := ⟨A.SYS_ERRINFO, 31, 31, .w1c, 0⟩
def F.SYS_ERRINFO_OVF : Fd := ⟨A.SYS_ERRINFO, 30, 30, .w1c, 0⟩
def F.SYS_ERRINFO_WRITE : Fd := ⟨A.SYS_ERRINFO, 8, 8, .ro, 0⟩
def F.SYS_ERRINFO_MASTER : Fd := ⟨A.SYS_ERRINFO, 4, 0, .ro, 0⟩
/-- Address of SYS_SCRATCH (R32). -/
def A.SYS_SCRATCH (k : Nat) : Nat := 0x20000060 + 0x4 * k
def F.SYS_SCRATCH_DATA (k : Nat) : Fd := ⟨A.SYS_SCRATCH k, 31, 0, .rw, 0⟩

/-! ## DISP -/
/-- Address of DISP_CTRL (R61). -/
def A.DISP_CTRL : Nat := 0x20050000
def F.DISP_CTRL_ROT_EN : Fd := ⟨A.DISP_CTRL, 1, 1, .rw, 0⟩
def F.DISP_CTRL_RUN : Fd := ⟨A.DISP_CTRL, 0, 0, .rw, 0⟩
/-- Address of DISP_STAT (R61). -/
def A.DISP_STAT : Nat := 0x20050004
def F.DISP_STAT_SPARES : Fd := ⟨A.DISP_STAT, 11, 8, .ro, 8⟩
def F.DISP_STAT_STEPPED : Fd := ⟨A.DISP_STAT, 6, 6, .w1c, 0⟩
def F.DISP_STAT_BADTASK : Fd := ⟨A.DISP_STAT, 5, 5, .w1c, 0⟩
def F.DISP_STAT_DEGRADED : Fd := ⟨A.DISP_STAT, 4, 4, .ro, 0⟩
def F.DISP_STAT_STATE : Fd := ⟨A.DISP_STAT, 2, 0, .ro, 0⟩
/-- Address of DISP_START_INDEX_LO (R61). -/
def A.DISP_START_INDEX_LO : Nat := 0x20050008
def F.DISP_START_INDEX_LO_START_LO : Fd := ⟨A.DISP_START_INDEX_LO, 31, 0, .rw, 0⟩
/-- Address of DISP_START_INDEX_HI (R61). -/
def A.DISP_START_INDEX_HI : Nat := 0x2005000C
def F.DISP_START_INDEX_HI_START_HI : Fd := ⟨A.DISP_START_INDEX_HI, 15, 0, .rw, 0⟩
/-- Address of DISP_ANCHOR_LO (R61). -/
def A.DISP_ANCHOR_LO : Nat := 0x20050010
def F.DISP_ANCHOR_LO_NS_LO : Fd := ⟨A.DISP_ANCHOR_LO, 31, 0, .ro, 0⟩
/-- Address of DISP_ANCHOR_HI (R61). -/
def A.DISP_ANCHOR_HI : Nat := 0x20050014
def F.DISP_ANCHOR_HI_NS_HI : Fd := ⟨A.DISP_ANCHOR_HI, 31, 0, .ro, 0⟩
/-- Address of DISP_ANCHOR_FRAC (R61). -/
def A.DISP_ANCHOR_FRAC : Nat := 0x20050018
def F.DISP_ANCHOR_FRAC_FRAC : Fd := ⟨A.DISP_ANCHOR_FRAC, 7, 0, .ro, 0⟩
/-- Address of DISP_INDEX_LO (R61). -/
def A.DISP_INDEX_LO : Nat := 0x20050020
def F.DISP_INDEX_LO_IDX_LO : Fd := ⟨A.DISP_INDEX_LO, 31, 0, .ro, 0⟩
/-- Address of DISP_INDEX_HI (R61). -/
def A.DISP_INDEX_HI : Nat := 0x20050024
def F.DISP_INDEX_HI_IDX_HI : Fd := ⟨A.DISP_INDEX_HI, 15, 0, .ro, 0⟩
/-- Address of DISP_PERIOD (R61). -/
def A.DISP_PERIOD : Nat := 0x20050028
def F.DISP_PERIOD_PERIOD_Q8 : Fd := ⟨A.DISP_PERIOD, 23, 0, .ro, 0x28b0aa⟩
/-- Address of DISP_MISS_BREATH (R61). -/
def A.DISP_MISS_BREATH : Nat := 0x2005002C
def F.DISP_MISS_BREATH_BREATH : Fd := ⟨A.DISP_MISS_BREATH, 31, 0, .ro, 0⟩
/-- Address of DISP_MISS_COUNT (R61). -/
def A.DISP_MISS_COUNT : Nat := 0x20050030
def F.DISP_MISS_COUNT_COUNT : Fd := ⟨A.DISP_MISS_COUNT, 31, 0, .ro, 0⟩
/-- Address of DISP_MISS_LAST (R61). -/
def A.DISP_MISS_LAST : Nat := 0x20050034
def F.DISP_MISS_LAST_VALID : Fd := ⟨A.DISP_MISS_LAST, 31, 31, .ro, 0⟩
def F.DISP_MISS_LAST_LCORE : Fd := ⟨A.DISP_MISS_LAST, 30, 24, .ro, 0⟩
def F.DISP_MISS_LAST_TASK : Fd := ⟨A.DISP_MISS_LAST, 22, 16, .ro, 0⟩
def F.DISP_MISS_LAST_KIND : Fd := ⟨A.DISP_MISS_LAST, 15, 14, .ro, 0⟩
/-- Address of DISP_EVT_COUNT (R61). -/
def A.DISP_EVT_COUNT : Nat := 0x20050038
def F.DISP_EVT_COUNT_EARLY : Fd := ⟨A.DISP_EVT_COUNT, 31, 16, .ro, 0⟩
def F.DISP_EVT_COUNT_EXC : Fd := ⟨A.DISP_EVT_COUNT, 15, 0, .ro, 0⟩
/-- Address of DISP_CLR (R61). -/
def A.DISP_CLR : Nat := 0x2005003C
def F.DISP_CLR_CORE : Fd := ⟨A.DISP_CLR, 3, 3, .wo, 0⟩
def F.DISP_CLR_TBT : Fd := ⟨A.DISP_CLR, 2, 2, .wo, 0⟩
def F.DISP_CLR_EVT : Fd := ⟨A.DISP_CLR, 1, 1, .wo, 0⟩
def F.DISP_CLR_MISS : Fd := ⟨A.DISP_CLR, 0, 0, .wo, 0⟩
/-- Address of DISP_ROT_CTRL (R61). -/
def A.DISP_ROT_CTRL : Nat := 0x20050040
def F.DISP_ROT_CTRL_STEP : Fd := ⟨A.DISP_ROT_CTRL, 15, 0, .rw, 0x384⟩
/-- Address of DISP_ROT_STAT (R61). -/
def A.DISP_ROT_STAT : Nat := 0x20050044
def F.DISP_ROT_STAT_PASSES : Fd := ⟨A.DISP_ROT_STAT, 31, 16, .ro, 0⟩
def F.DISP_ROT_STAT_LCORE : Fd := ⟨A.DISP_ROT_STAT, 14, 8, .ro, 0⟩
def F.DISP_ROT_STAT_PHASE : Fd := ⟨A.DISP_ROT_STAT, 2, 0, .ro, 0⟩
/-- Address of DISP_BIST_REQ (R61). -/
def A.DISP_BIST_REQ : Nat := 0x20050048
def F.DISP_BIST_REQ_KEY : Fd := ⟨A.DISP_BIST_REQ, 31, 16, .wo, 0⟩
def F.DISP_BIST_REQ_PCORE : Fd := ⟨A.DISP_BIST_REQ, 15, 8, .wo, 0⟩
def F.DISP_BIST_REQ_GO : Fd := ⟨A.DISP_BIST_REQ, 0, 0, .wo, 0⟩
/-- Address of DISP_BIST_STAT (R61). -/
def A.DISP_BIST_STAT : Nat := 0x2005004C
def F.DISP_BIST_STAT_BUSY : Fd := ⟨A.DISP_BIST_STAT, 31, 31, .ro, 0⟩
def F.DISP_BIST_STAT_RESULT : Fd := ⟨A.DISP_BIST_STAT, 18, 16, .ro, 0⟩
def F.DISP_BIST_STAT_PCORE : Fd := ⟨A.DISP_BIST_STAT, 15, 8, .ro, 0⟩
/-- Address of DISP_FENCED (R61). -/
def A.DISP_FENCED (k : Nat) : Nat := 0x20050050 + 0x4 * k
def F.DISP_FENCED_FENCED (k : Nat) : Fd := ⟨A.DISP_FENCED k, 31, 0, .ro, 0⟩
/-- Address of DISP_FENCED4 (R61). -/
def A.DISP_FENCED4 : Nat := 0x20050060
def F.DISP_FENCED4_FENCED : Fd := ⟨A.DISP_FENCED4, 7, 0, .ro, 0⟩
/-- Address of DISP_LOST (R61). -/
def A.DISP_LOST (k : Nat) : Nat := 0x20050070 + 0x4 * k
def F.DISP_LOST_LOST (k : Nat) : Fd := ⟨A.DISP_LOST k, 31, 0, .ro, 0⟩
/-- Address of DISP_CORESEL (R61). -/
def A.DISP_CORESEL : Nat := 0x20050080
def F.DISP_CORESEL_LCORE : Fd := ⟨A.DISP_CORESEL, 6, 0, .rw, 0⟩
/-- Address of DISP_CORE_STAT (R61). -/
def A.DISP_CORE_STAT (i : Nat) : Nat := 0x20050084 + 0x100000000 * i
def F.DISP_CORE_STAT_BUSY_MAX (i : Nat) : Fd := ⟨A.DISP_CORE_STAT i, 31, 16, .ro, 0⟩
def F.DISP_CORE_STAT_SLACK_MIN (i : Nat) : Fd := ⟨A.DISP_CORE_STAT i, 15, 0, .ro, 0xffff⟩
/-- Address of DISP_CORE_SLEEP (R61). -/
def A.DISP_CORE_SLEEP (i : Nat) : Nat := 0x20050088 + 0x100000000 * i
def F.DISP_CORE_SLEEP_WAKES (i : Nat) : Fd := ⟨A.DISP_CORE_SLEEP i, 31, 16, .ro, 0⟩
def F.DISP_CORE_SLEEP_GATED (i : Nat) : Fd := ⟨A.DISP_CORE_SLEEP i, 15, 0, .ro, 0⟩
/-- Address of DISP_TBT_INDEX (R61). -/
def A.DISP_TBT_INDEX : Nat := 0x20050090
def F.DISP_TBT_INDEX_AUTOINC : Fd := ⟨A.DISP_TBT_INDEX, 31, 31, .rw, 0⟩
def F.DISP_TBT_INDEX_INDEX : Fd := ⟨A.DISP_TBT_INDEX, 12, 0, .rw, 0⟩
/-- Address of DISP_TBT_DATA0 (R61). -/
def A.DISP_TBT_DATA0 (i : Nat) : Nat := 0x20050094 + 0x100000000 * i
def F.DISP_TBT_DATA0_WORD0 (i : Nat) : Fd := ⟨A.DISP_TBT_DATA0 i, 31, 0, .ro, 0⟩
/-- Address of DISP_TBT_DATA1 (R61). -/
def A.DISP_TBT_DATA1 (i : Nat) : Nat := 0x20050098 + 0x100000000 * i
def F.DISP_TBT_DATA1_WORD1 (i : Nat) : Fd := ⟨A.DISP_TBT_DATA1 i, 31, 0, .ro, 0⟩
/-- Address of DISP_GRP_INDEX (R61). -/
def A.DISP_GRP_INDEX : Nat := 0x200500A0
def F.DISP_GRP_INDEX_GROUP : Fd := ⟨A.DISP_GRP_INDEX, 7, 0, .rw, 0⟩
/-- Address of DISP_GRP_AVTP_LO (R61). -/
def A.DISP_GRP_AVTP_LO (i : Nat) : Nat := 0x200500A4 + 0x100000000 * i
def F.DISP_GRP_AVTP_LO_STREAMS (i : Nat) : Fd := ⟨A.DISP_GRP_AVTP_LO i, 31, 0, .ro, 0⟩
/-- Address of DISP_GRP_AVTP_HI (R61). -/
def A.DISP_GRP_AVTP_HI (i : Nat) : Nat := 0x200500A8 + 0x100000000 * i
def F.DISP_GRP_AVTP_HI_STREAMS (i : Nat) : Fd := ⟨A.DISP_GRP_AVTP_HI i, 31, 0, .ro, 0⟩
/-- Address of DISP_GRP_SAP (R61). -/
def A.DISP_GRP_SAP (i : Nat) : Nat := 0x200500AC + 0x100000000 * i
def F.DISP_GRP_SAP_PORTS (i : Nat) : Fd := ⟨A.DISP_GRP_SAP i, 15, 0, .ro, 0⟩
/-- Address of DISP_MAP (R61). -/
def A.DISP_MAP (k : Nat) : Nat := 0x20050200 + 0x4 * k
def F.DISP_MAP_PHYS3 (k : Nat) : Fd := ⟨A.DISP_MAP k, 31, 24, .ro, (4 * k + 3)⟩
def F.DISP_MAP_PHYS2 (k : Nat) : Fd := ⟨A.DISP_MAP k, 23, 16, .ro, (4 * k + 2)⟩
def F.DISP_MAP_PHYS1 (k : Nat) : Fd := ⟨A.DISP_MAP k, 15, 8, .ro, (4 * k + 1)⟩
def F.DISP_MAP_PHYS0 (k : Nat) : Fd := ⟨A.DISP_MAP k, 7, 0, .ro, (4 * k + 0)⟩

/-! ## RC -/
/-- Address of RC_STAT (R94). -/
def A.RC_STAT (c : Nat) : Nat := 0x40030000 + 0x40000 * c
def F.RC_STAT_LASTCAUSE (c : Nat) : Fd := ⟨A.RC_STAT c, 11, 10, .ro, 0⟩
def F.RC_STAT_IWREJ (c : Nat) : Fd := ⟨A.RC_STAT c, 8, 8, .w1c, 0⟩
def F.RC_STAT_STATE (c : Nat) : Fd := ⟨A.RC_STAT c, 2, 0, .ro, 0⟩
/-- Address of RC_FLAGS (R94). -/
def A.RC_FLAGS (c : Nat) : Nat := 0x40030004 + 0x40000 * c
def F.RC_FLAGS_RUNAWAY (c : Nat) : Fd := ⟨A.RC_FLAGS c, 12, 12, .w1c, 0⟩
def F.RC_FLAGS_DOUBLE (c : Nat) : Fd := ⟨A.RC_FLAGS c, 11, 11, .w1c, 0⟩
def F.RC_FLAGS_ILL (c : Nat) : Fd := ⟨A.RC_FLAGS c, 10, 10, .w1c, 0⟩
def F.RC_FLAGS_TAPE (c : Nat) : Fd := ⟨A.RC_FLAGS c, 9, 9, .w1c, 0⟩
def F.RC_FLAGS_SAT (c : Nat) : Fd := ⟨A.RC_FLAGS c, 8, 8, .w1c, 0⟩
def F.RC_FLAGS_ASAT (c : Nat) : Fd := ⟨A.RC_FLAGS c, 3, 0, .w1c, 0⟩
/-- Address of RC_ERR (R94). -/
def A.RC_ERR (c : Nat) : Nat := 0x40030008 + 0x40000 * c
def F.RC_ERR_TASKIDX (c : Nat) : Fd := ⟨A.RC_ERR c, 28, 16, .ro, 0⟩
def F.RC_ERR_ERRIDX (c : Nat) : Fd := ⟨A.RC_ERR c, 12, 0, .ro, 0⟩
/-- Address of RC_ECC (R94). -/
def A.RC_ECC (c : Nat) : Nat := 0x4003000C + 0x40000 * c
def F.RC_ECC_UE (c : Nat) : Fd := ⟨A.RC_ECC c, 31, 31, .w1c, 0⟩
def F.RC_ECC_CLR (c : Nat) : Fd := ⟨A.RC_ECC c, 30, 30, .wo, 0⟩
def F.RC_ECC_CE (c : Nat) : Fd := ⟨A.RC_ECC c, 15, 0, .ro, 0⟩
/-- Address of RC_DBGPC (R94). -/
def A.RC_DBGPC (c : Nat) : Nat := 0x40030014 + 0x40000 * c
def F.RC_DBGPC_PC (c : Nat) : Fd := ⟨A.RC_DBGPC c, 12, 0, .ro, 0⟩
/-- Address of RC_DBGCTL (R94). -/
def A.RC_DBGCTL (c : Nat) : Nat := 0x40030010 + 0x40000 * c
def F.RC_DBGCTL_DBGINT_EN (c : Nat) : Fd := ⟨A.RC_DBGCTL c, 2, 2, .rw, 0⟩
def F.RC_DBGCTL_STEP (c : Nat) : Fd := ⟨A.RC_DBGCTL c, 1, 1, .w1s, 0⟩
def F.RC_DBGCTL_HALT (c : Nat) : Fd := ⟨A.RC_DBGCTL c, 0, 0, .rw, 0⟩
/-- Address of RC_CYCLES (R94). -/
def A.RC_CYCLES (c : Nat) : Nat := 0x40030018 + 0x40000 * c
def F.RC_CYCLES_CYCLES (c : Nat) : Fd := ⟨A.RC_CYCLES c, 15, 0, .ro, 0⟩
/-- Address of RC_TASK (R94). -/
def A.RC_TASK (c : Nat) : Nat := 0x4003001C + 0x40000 * c
def F.RC_TASK_RUNNING (c : Nat) : Fd := ⟨A.RC_TASK c, 31, 31, .ro, 0⟩
def F.RC_TASK_TASK (c : Nat) : Fd := ⟨A.RC_TASK c, 22, 16, .ro, 0⟩
def F.RC_TASK_LCORE (c : Nat) : Fd := ⟨A.RC_TASK c, 6, 0, .ro, 0⟩

/-! ## MTX -/
/-- Address of MTX_STAT (R122). -/
def A.MTX_STAT : Nat := 0x20060000
def F.MTX_STAT_BADMAP : Fd := ⟨A.MTX_STAT, 5, 5, .w1c, 0⟩
def F.MTX_STAT_MAPWR : Fd := ⟨A.MTX_STAT, 4, 4, .w1c, 0⟩
def F.MTX_STAT_BANKWR : Fd := ⟨A.MTX_STAT, 3, 3, .w1c, 0⟩
def F.MTX_STAT_OVERLIMIT : Fd := ⟨A.MTX_STAT, 2, 2, .ro, 0⟩
def F.MTX_STAT_ACTIVE : Fd := ⟨A.MTX_STAT, 0, 0, .ro, 0⟩
/-- Address of MTX_BANK_COUNT (R122). -/
def A.MTX_BANK_COUNT (k : Nat) : Nat := 0x20060004 + 0x4 * k
def F.MTX_BANK_COUNT_COUNT (k : Nat) : Fd := ⟨A.MTX_BANK_COUNT k, 18, 0, .rw, 0⟩
/-- Address of MTX_RETIRING (R122). -/
def A.MTX_RETIRING : Nat := 0x2006000C
def F.MTX_RETIRING_COUNT : Fd := ⟨A.MTX_RETIRING, 18, 0, .ro, 0⟩
/-- Address of MTX_SWAP (R122). -/
def A.MTX_SWAP : Nat := 0x20060010
def F.MTX_SWAP_KEY : Fd := ⟨A.MTX_SWAP, 31, 16, .wo, 0⟩
def F.MTX_SWAP_WHEN : Fd := ⟨A.MTX_SWAP, 1, 1, .wo, 0⟩
def F.MTX_SWAP_GO : Fd := ⟨A.MTX_SWAP, 0, 0, .wo, 0⟩
/-- Address of MTX_SWAP_BREATH_LO (R122). -/
def A.MTX_SWAP_BREATH_LO : Nat := 0x20060014
def F.MTX_SWAP_BREATH_LO_B_LO : Fd := ⟨A.MTX_SWAP_BREATH_LO, 31, 0, .rw, 0⟩
/-- Address of MTX_SWAP_BREATH_HI (R122). -/
def A.MTX_SWAP_BREATH_HI : Nat := 0x20060018
def F.MTX_SWAP_BREATH_HI_B_HI : Fd := ⟨A.MTX_SWAP_BREATH_HI, 15, 0, .rw, 0⟩
/-- Address of MTX_SWAP_STAT (R122). -/
def A.MTX_SWAP_STAT : Nat := 0x2006001C
def F.MTX_SWAP_STAT_BUSY : Fd := ⟨A.MTX_SWAP_STAT, 31, 31, .ro, 0⟩
def F.MTX_SWAP_STAT_RESULT : Fd := ⟨A.MTX_SWAP_STAT, 27, 24, .ro, 0⟩
def F.MTX_SWAP_STAT_ERRIDX : Fd := ⟨A.MTX_SWAP_STAT, 18, 0, .ro, 0⟩
/-- Address of MTX_ZC_TIMEOUT (R122). -/
def A.MTX_ZC_TIMEOUT : Nat := 0x20060020
def F.MTX_ZC_TIMEOUT_BREATHS : Fd := ⟨A.MTX_ZC_TIMEOUT, 15, 0, .rw, 0x3c0⟩
/-- Address of MTX_RAMP_LEN (R122). -/
def A.MTX_RAMP_LEN : Nat := 0x20060024
def F.MTX_RAMP_LEN_BREATHS : Fd := ⟨A.MTX_RAMP_LEN, 15, 0, .rw, 0x40⟩
/-- Address of MTX_XFADE_LEN (R122). -/
def A.MTX_XFADE_LEN : Nat := 0x20060028
def F.MTX_XFADE_LEN_BREATHS : Fd := ⟨A.MTX_XFADE_LEN, 15, 0, .rw, 0x12c0⟩
/-- Address of MTX_BUSSAT (R122). -/
def A.MTX_BUSSAT : Nat := 0x2006002C
def F.MTX_BUSSAT_COUNT : Fd := ⟨A.MTX_BUSSAT, 31, 0, .ro, 0⟩
/-- Address of MTX_FMTSAT (R122). -/
def A.MTX_FMTSAT : Nat := 0x20060030
def F.MTX_FMTSAT_COUNT : Fd := ⟨A.MTX_FMTSAT, 31, 0, .ro, 0⟩
/-- Address of MTX_CLR (R122). -/
def A.MTX_CLR : Nat := 0x20060034
def F.MTX_CLR_FMTSAT : Fd := ⟨A.MTX_CLR, 1, 1, .wo, 0⟩
def F.MTX_CLR_BUSSAT : Fd := ⟨A.MTX_CLR, 0, 0, .wo, 0⟩
/-- Address of MTX_STATE_INDEX (R122). -/
def A.MTX_STATE_INDEX : Nat := 0x20060040
def F.MTX_STATE_INDEX_INDEX : Fd := ⟨A.MTX_STATE_INDEX, 17, 0, .rw, 0⟩
/-- Address of MTX_STATE_DATA (R122). -/
def A.MTX_STATE_DATA (j : Nat) : Nat := 0x20060044 + 0x4 * j
def F.MTX_STATE_DATA_WORD (j : Nat) : Fd := ⟨A.MTX_STATE_DATA j, 31, 0, .ro, 0⟩
/-- Address of MTX_MBOX_POST (R122). -/
def A.MTX_MBOX_POST (m : Nat) : Nat := 0x20060100 + 0x10 * m
def F.MTX_MBOX_POST_GO (m : Nat) : Fd := ⟨A.MTX_MBOX_POST m, 31, 31, .wo, 0⟩
def F.MTX_MBOX_POST_WHEN (m : Nat) : Fd := ⟨A.MTX_MBOX_POST m, 30, 30, .wo, 0⟩
def F.MTX_MBOX_POST_COUNT (m : Nat) : Fd := ⟨A.MTX_MBOX_POST m, 6, 0, .wo, 0⟩
/-- Address of MTX_MBOX_BREATH_LO (R122). -/
def A.MTX_MBOX_BREATH_LO (m : Nat) : Nat := 0x20060104 + 0x10 * m
def F.MTX_MBOX_BREATH_LO_B_LO (m : Nat) : Fd := ⟨A.MTX_MBOX_BREATH_LO m, 31, 0, .rw, 0⟩
/-- Address of MTX_MBOX_BREATH_HI (R122). -/
def A.MTX_MBOX_BREATH_HI (m : Nat) : Nat := 0x20060108 + 0x10 * m
def F.MTX_MBOX_BREATH_HI_B_HI (m : Nat) : Fd := ⟨A.MTX_MBOX_BREATH_HI m, 15, 0, .rw, 0⟩
/-- Address of MTX_MBOX_STAT (R122). -/
def A.MTX_MBOX_STAT (m : Nat) : Nat := 0x2006010C + 0x10 * m
def F.MTX_MBOX_STAT_BUSYWR (m : Nat) : Fd := ⟨A.MTX_MBOX_STAT m, 31, 31, .w1c, 0⟩
def F.MTX_MBOX_STAT_SKIPPED (m : Nat) : Fd := ⟨A.MTX_MBOX_STAT m, 22, 16, .ro, 0⟩
def F.MTX_MBOX_STAT_STATE (m : Nat) : Fd := ⟨A.MTX_MBOX_STAT m, 2, 0, .ro, 0⟩
/-- Address of MTX_SEED_LO (R122). -/
def A.MTX_SEED_LO (s : Nat) : Nat := 0x20060400 + 0x8 * s
def F.MTX_SEED_LO_SEED_LO (s : Nat) : Fd := ⟨A.MTX_SEED_LO s, 31, 0, .rw, 0⟩
/-- Address of MTX_SEED_HI (R122). -/
def A.MTX_SEED_HI (s : Nat) : Nat := 0x20060404 + 0x8 * s
def F.MTX_SEED_HI_SEED_HI (s : Nat) : Fd := ⟨A.MTX_SEED_HI s, 31, 0, .rw, 0⟩
/-- Address of MTX_BUSOWN (R122). -/
def A.MTX_BUSOWN (j : Nat) : Nat := 0x20061000 + 0x4 * j
def F.MTX_BUSOWN_OWNER (j : Nat) : Fd := ⟨A.MTX_BUSOWN j, 31, 0, .ro, 0⟩
/-- Address of MTX_BUSVALID (R122). -/
def A.MTX_BUSVALID (k : Nat) : Nat := 0x20061200 + 0x4 * k
def F.MTX_BUSVALID_VALID (k : Nat) : Fd := ⟨A.MTX_BUSVALID k, 31, 0, .ro, 0⟩
/-- Address of MTX_MBREC (R113). -/
def A.MTX_MBREC (j : Nat) : Nat := 0x20062000 + 0x4 * j
def F.MTX_MBREC (j : Nat) : Fd := ⟨A.MTX_MBREC j, 31, 0, .rw, 0⟩
/-- Address of MTX_OUTMAP (R121). -/
def A.MTX_OUTMAP (j : Nat) : Nat := 0x20064000 + 0x4 * j
def F.MTX_OUTMAP (j : Nat) : Fd := ⟨A.MTX_OUTMAP j, 31, 0, .rw, 0⟩

/-! ## ASRC -/
/-- Address of ASRC_CTRL (R123). -/
def A.ASRC_CTRL : Nat := 0x20170000
def F.ASRC_CTRL_TWINRATIO : Fd := ⟨A.ASRC_CTRL, 8, 8, .rw, 0⟩
def F.ASRC_CTRL_BW : Fd := ⟨A.ASRC_CTRL, 3, 1, .rw, 2⟩
def F.ASRC_CTRL_EN : Fd := ⟨A.ASRC_CTRL, 0, 0, .rw, 0⟩
/-- Address of ASRC_STAT (R123). -/
def A.ASRC_STAT : Nat := 0x20170004
def F.ASRC_STAT_LOCKED : Fd := ⟨A.ASRC_STAT, 24, 16, .ro, 0⟩
def F.ASRC_STAT_ENABLED : Fd := ⟨A.ASRC_STAT, 8, 0, .ro, 0⟩
/-- Address of ASRC_SEL (R123). -/
def A.ASRC_SEL : Nat := 0x20170010
def F.ASRC_SEL_CH : Fd := ⟨A.ASRC_SEL, 7, 0, .rw, 0⟩
/-- Address of ASRC_CH_CFG (R123). -/
def A.ASRC_CH_CFG (i : Nat) : Nat := 0x20170014 + 0x100000000 * i
def F.ASRC_CH_CFG_EN (i : Nat) : Fd := ⟨A.ASRC_CH_CFG i, 31, 31, .rw, 0⟩
def F.ASRC_CH_CFG_DIR (i : Nat) : Fd := ⟨A.ASRC_CH_CFG i, 30, 30, .rw, 0⟩
def F.ASRC_CH_CFG_MODE (i : Nat) : Fd := ⟨A.ASRC_CH_CFG i, 29, 28, .rw, 0⟩
def F.ASRC_CH_CFG_FKIND (i : Nat) : Fd := ⟨A.ASRC_CH_CFG i, 27, 26, .rw, 0⟩
def F.ASRC_CH_CFG_FINDEX (i : Nat) : Fd := ⟨A.ASRC_CH_CFG i, 12, 0, .rw, 0⟩
/-- Address of ASRC_CH_TAP (R123). -/
def A.ASRC_CH_TAP (i : Nat) : Nat := 0x20170018 + 0x100000000 * i
def F.ASRC_CH_TAP_TAP (i : Nat) : Fd := ⟨A.ASRC_CH_TAP i, 12, 0, .rw, 0⟩
/-- Address of ASRC_CH_STAT (R123). -/
def A.ASRC_CH_STAT (i : Nat) : Nat := 0x2017001C + 0x100000000 * i
def F.ASRC_CH_STAT_LOCKED (i : Nat) : Fd := ⟨A.ASRC_CH_STAT i, 31, 31, .ro, 0⟩
def F.ASRC_CH_STAT_RANGE (i : Nat) : Fd := ⟨A.ASRC_CH_STAT i, 30, 30, .w1c, 0⟩
def F.ASRC_CH_STAT_LOST (i : Nat) : Fd := ⟨A.ASRC_CH_STAT i, 29, 29, .w1c, 0⟩
def F.ASRC_CH_STAT_UNLOCKS (i : Nat) : Fd := ⟨A.ASRC_CH_STAT i, 15, 0, .ro, 0⟩
/-- Address of ASRC_CH_RATIO_LO (R123). -/
def A.ASRC_CH_RATIO_LO (i : Nat) : Nat := 0x20170020 + 0x100000000 * i
def F.ASRC_CH_RATIO_LO_RATIO_LO (i : Nat) : Fd := ⟨A.ASRC_CH_RATIO_LO i, 31, 0, .ro, 0⟩
/-- Address of ASRC_CH_RATIO_HI (R123). -/
def A.ASRC_CH_RATIO_HI (i : Nat) : Nat := 0x20170024 + 0x100000000 * i
def F.ASRC_CH_RATIO_HI_RATIO_HI (i : Nat) : Fd := ⟨A.ASRC_CH_RATIO_HI i, 15, 0, .ro, 0⟩
/-- Address of ASRC_CH_FIXED_LO (R123). -/
def A.ASRC_CH_FIXED_LO (i : Nat) : Nat := 0x20170028 + 0x100000000 * i
def F.ASRC_CH_FIXED_LO_FIXED_LO (i : Nat) : Fd := ⟨A.ASRC_CH_FIXED_LO i, 31, 0, .rw, 0⟩
/-- Address of ASRC_CH_FIXED_HI (R123). -/
def A.ASRC_CH_FIXED_HI (i : Nat) : Nat := 0x2017002C + 0x100000000 * i
def F.ASRC_CH_FIXED_HI_FIXED_HI (i : Nat) : Fd := ⟨A.ASRC_CH_FIXED_HI i, 15, 0, .rw, 0x100⟩

end Sys2Proof.Machine
end

