-- ==== Sys2Proof/Machine/RegMap.lean ====
section
/-!
DEFINITION. Which fields a register address holds: the summary table of each register block (R24, R25 and the tables named in the field files).
-/
namespace Sys2Proof.Machine

/-- The fields of the SYS register at block offset `o`; `b` numbers the unit of a block that exists several times, `i` the instance a selector register names. -/
def fieldsOfSYS (_b _i o : Nat) : List Fd :=
  match o with
  | 0x0 => [F.SYS_ID_PART, F.SYS_ID_STEP, F.SYS_ID_PKG]
  | 0x4 => [F.SYS_CAPS_SAP_PORTS, F.SYS_CAPS_NET_PORTS, F.SYS_CAPS_DRAM_GIB, F.SYS_CAPS_REED_SPARE, F.SYS_CAPS_REED_TOTAL]
  | 0x8 => [F.SYS_SERIAL_LO_SERIAL]
  | 0xC => [F.SYS_SERIAL_HI_SERIAL]
  | 0x10 => [F.SYS_MODE_REQ]
  | 0x14 => [F.SYS_MODE_STAT_MISMATCH, F.SYS_MODE_STAT_RESULT, F.SYS_MODE_STAT_APPLYING, F.SYS_MODE_STAT_CUR]
  | 0x18 => [F.SYS_MODE_APPLY_KEY, F.SYS_MODE_APPLY_GO]
  | 0x20 => [F.SYS_URST_KEY, F.SYS_URST_UNIT, F.SYS_URST_GO]
  | 0x24 => [F.SYS_URST_STAT_COUNT, F.SYS_URST_STAT_RESULT, F.SYS_URST_STAT_LAST_UNIT, F.SYS_URST_STAT_BUSY]
  | 0x30 => [F.SYS_RESET_CAUSE_WDOG, F.SYS_RESET_CAUSE_QUIET_EXIT, F.SYS_RESET_CAUSE_SW, F.SYS_RESET_CAUSE_PIN, F.SYS_RESET_CAUSE_POR]
  | 0x34 => [F.SYS_WARM_KEY, F.SYS_WARM_GO]
  | 0x40 => [F.SYS_ERRADDR_LO_ADDR_LO]
  | 0x44 => [F.SYS_ERRADDR_HI_ADDR_HI]
  | 0x48 => [F.SYS_ERRINFO_VALID, F.SYS_ERRINFO_OVF, F.SYS_ERRINFO_WRITE, F.SYS_ERRINFO_MASTER]
  | _ =>
    if 0x60 ≤ o && o < 0x70 && (o - 0x60) % 0x4 == 0 then [F.SYS_SCRATCH_DATA ((o - 0x60) / 0x4)]
    else []

/-- The fields of the DISP register at block offset `o`; `b` numbers the unit of a block that exists several times, `i` the instance a selector register names. -/
def fieldsOfDISP (_b i o : Nat) : List Fd :=
  match o with
  | 0x0 => [F.DISP_CTRL_ROT_EN, F.DISP_CTRL_RUN]
  | 0x4 => [F.DISP_STAT_SPARES, F.DISP_STAT_STEPPED, F.DISP_STAT_BADTASK, F.DISP_STAT_DEGRADED, F.DISP_STAT_STATE]
  | 0x8 => [F.DISP_START_INDEX_LO_START_LO]
  | 0xC => [F.DISP_START_INDEX_HI_START_HI]
  | 0x10 => [F.DISP_ANCHOR_LO_NS_LO]
  | 0x14 => [F.DISP_ANCHOR_HI_NS_HI]
  | 0x18 => [F.DISP_ANCHOR_FRAC_FRAC]
  | 0x20 => [F.DISP_INDEX_LO_IDX_LO]
  | 0x24 => [F.DISP_INDEX_HI_IDX_HI]
  | 0x28 => [F.DISP_PERIOD_PERIOD_Q8]
  | 0x2C => [F.DISP_MISS_BREATH_BREATH]
  | 0x30 => [F.DISP_MISS_COUNT_COUNT]
  | 0x34 => [F.DISP_MISS_LAST_VALID, F.DISP_MISS_LAST_LCORE, F.DISP_MISS_LAST_TASK, F.DISP_MISS_LAST_KIND]
  | 0x38 => [F.DISP_EVT_COUNT_EARLY, F.DISP_EVT_COUNT_EXC]
  | 0x3C => [F.DISP_CLR_CORE, F.DISP_CLR_TBT, F.DISP_CLR_EVT, F.DISP_CLR_MISS]
  | 0x40 => [F.DISP_ROT_CTRL_STEP]
  | 0x44 => [F.DISP_ROT_STAT_PASSES, F.DISP_ROT_STAT_LCORE, F.DISP_ROT_STAT_PHASE]
  | 0x48 => [F.DISP_BIST_REQ_KEY, F.DISP_BIST_REQ_PCORE, F.DISP_BIST_REQ_GO]
  | 0x4C => [F.DISP_BIST_STAT_BUSY, F.DISP_BIST_STAT_RESULT, F.DISP_BIST_STAT_PCORE]
  | 0x60 => [F.DISP_FENCED4_FENCED]
  | 0x80 => [F.DISP_CORESEL_LCORE]
  | 0x84 => [F.DISP_CORE_STAT_BUSY_MAX i, F.DISP_CORE_STAT_SLACK_MIN i]
  | 0x88 => [F.DISP_CORE_SLEEP_WAKES i, F.DISP_CORE_SLEEP_GATED i]
  | 0x90 => [F.DISP_TBT_INDEX_AUTOINC, F.DISP_TBT_INDEX_INDEX]
  | 0x94 => [F.DISP_TBT_DATA0_WORD0 i]
  | 0x98 => [F.DISP_TBT_DATA1_WORD1 i]
  | 0xA0 => [F.DISP_GRP_INDEX_GROUP]
  | 0xA4 => [F.DISP_GRP_AVTP_LO_STREAMS i]
  | 0xA8 => [F.DISP_GRP_AVTP_HI_STREAMS i]
  | 0xAC => [F.DISP_GRP_SAP_PORTS i]
  | _ =>
    if 0x50 ≤ o && o < 0x60 && (o - 0x50) % 0x4 == 0 then [F.DISP_FENCED_FENCED ((o - 0x50) / 0x4)]
    else if 0x70 ≤ o && o < 0x80 && (o - 0x70) % 0x4 == 0 then [F.DISP_LOST_LOST ((o - 0x70) / 0x4)]
    else if 0x200 ≤ o && o < 0x280 && (o - 0x200) % 0x4 == 0 then [F.DISP_MAP_PHYS3 ((o - 0x200) / 0x4), F.DISP_MAP_PHYS2 ((o - 0x200) / 0x4), F.DISP_MAP_PHYS1 ((o - 0x200) / 0x4), F.DISP_MAP_PHYS0 ((o - 0x200) / 0x4)]
    else []

/-- The fields of the RC register at block offset `o`; `b` numbers the unit of a block that exists several times, `i` the instance a selector register names. -/
def fieldsOfRC (b _i o : Nat) : List Fd :=
  match o with
  | 0x0 => [F.RC_STAT_LASTCAUSE b, F.RC_STAT_IWREJ b, F.RC_STAT_STATE b]
  | 0x4 => [F.RC_FLAGS_RUNAWAY b, F.RC_FLAGS_DOUBLE b, F.RC_FLAGS_ILL b, F.RC_FLAGS_TAPE b, F.RC_FLAGS_SAT b, F.RC_FLAGS_ASAT b]
  | 0x8 => [F.RC_ERR_TASKIDX b, F.RC_ERR_ERRIDX b]
  | 0xC => [F.RC_ECC_UE b, F.RC_ECC_CLR b, F.RC_ECC_CE b]
  | 0x14 => [F.RC_DBGPC_PC b]
  | 0x10 => [F.RC_DBGCTL_DBGINT_EN b, F.RC_DBGCTL_STEP b, F.RC_DBGCTL_HALT b]
  | 0x18 => [F.RC_CYCLES_CYCLES b]
  | 0x1C => [F.RC_TASK_RUNNING b, F.RC_TASK_TASK b, F.RC_TASK_LCORE b]
  | _ =>
    []

/-- The fields of the MTX register at block offset `o`; `b` numbers the unit of a block that exists several times, `i` the instance a selector register names. -/
def fieldsOfMTX (_b _i o : Nat) : List Fd :=
  match o with
  | 0x0 => [F.MTX_STAT_BADMAP, F.MTX_STAT_MAPWR, F.MTX_STAT_BANKWR, F.MTX_STAT_OVERLIMIT, F.MTX_STAT_ACTIVE]
  | 0xC => [F.MTX_RETIRING_COUNT]
  | 0x10 => [F.MTX_SWAP_KEY, F.MTX_SWAP_WHEN, F.MTX_SWAP_GO]
  | 0x14 => [F.MTX_SWAP_BREATH_LO_B_LO]
  | 0x18 => [F.MTX_SWAP_BREATH_HI_B_HI]
  | 0x1C => [F.MTX_SWAP_STAT_BUSY, F.MTX_SWAP_STAT_RESULT, F.MTX_SWAP_STAT_ERRIDX]
  | 0x20 => [F.MTX_ZC_TIMEOUT_BREATHS]
  | 0x24 => [F.MTX_RAMP_LEN_BREATHS]
  | 0x28 => [F.MTX_XFADE_LEN_BREATHS]
  | 0x2C => [F.MTX_BUSSAT_COUNT]
  | 0x30 => [F.MTX_FMTSAT_COUNT]
  | 0x34 => [F.MTX_CLR_FMTSAT, F.MTX_CLR_BUSSAT]
  | 0x40 => [F.MTX_STATE_INDEX_INDEX]
  | _ =>
    if 0x4 ≤ o && o < 0xC && (o - 0x4) % 0x4 == 0 then [F.MTX_BANK_COUNT_COUNT ((o - 0x4) / 0x4)]
    else if 0x44 ≤ o && o < 0x54 && (o - 0x44) % 0x4 == 0 then [F.MTX_STATE_DATA_WORD ((o - 0x44) / 0x4)]
    else if 0x100 ≤ o && o < 0x180 && (o - 0x100) % 0x10 == 0 then [F.MTX_MBOX_POST_GO ((o - 0x100) / 0x10), F.MTX_MBOX_POST_WHEN ((o - 0x100) / 0x10), F.MTX_MBOX_POST_COUNT ((o - 0x100) / 0x10)]
    else if 0x104 ≤ o && o < 0x184 && (o - 0x104) % 0x10 == 0 then [F.MTX_MBOX_BREATH_LO_B_LO ((o - 0x104) / 0x10)]
    else if 0x108 ≤ o && o < 0x188 && (o - 0x108) % 0x10 == 0 then [F.MTX_MBOX_BREATH_HI_B_HI ((o - 0x108) / 0x10)]
    else if 0x10C ≤ o && o < 0x18C && (o - 0x10C) % 0x10 == 0 then [F.MTX_MBOX_STAT_BUSYWR ((o - 0x10C) / 0x10), F.MTX_MBOX_STAT_SKIPPED ((o - 0x10C) / 0x10), F.MTX_MBOX_STAT_STATE ((o - 0x10C) / 0x10)]
    else if 0x400 ≤ o && o < 0x480 && (o - 0x400) % 0x8 == 0 then [F.MTX_SEED_LO_SEED_LO ((o - 0x400) / 0x8)]
    else if 0x404 ≤ o && o < 0x484 && (o - 0x404) % 0x8 == 0 then [F.MTX_SEED_HI_SEED_HI ((o - 0x404) / 0x8)]
    else if 0x1000 ≤ o && o < 0x1200 && (o - 0x1000) % 0x4 == 0 then [F.MTX_BUSOWN_OWNER ((o - 0x1000) / 0x4)]
    else if 0x1200 ≤ o && o < 0x1280 && (o - 0x1200) % 0x4 == 0 then [F.MTX_BUSVALID_VALID ((o - 0x1200) / 0x4)]
    else if 0x2000 ≤ o && o < 0x3000 && (o - 0x2000) % 0x4 == 0 then [F.MTX_MBREC ((o - 0x2000) / 0x4)]
    else if 0x4000 ≤ o && o < 0x8C00 && (o - 0x4000) % 0x4 == 0 then [F.MTX_OUTMAP ((o - 0x4000) / 0x4)]
    else []

/-- The fields of the ASRC register at block offset `o`; `b` numbers the unit of a block that exists several times, `i` the instance a selector register names. -/
def fieldsOfASRC (_b i o : Nat) : List Fd :=
  match o with
  | 0x0 => [F.ASRC_CTRL_TWINRATIO, F.ASRC_CTRL_BW, F.ASRC_CTRL_EN]
  | 0x4 => [F.ASRC_STAT_LOCKED, F.ASRC_STAT_ENABLED]
  | 0x10 => [F.ASRC_SEL_CH]
  | 0x14 => [F.ASRC_CH_CFG_EN i, F.ASRC_CH_CFG_DIR i, F.ASRC_CH_CFG_MODE i, F.ASRC_CH_CFG_FKIND i, F.ASRC_CH_CFG_FINDEX i]
  | 0x18 => [F.ASRC_CH_TAP_TAP i]
  | 0x1C => [F.ASRC_CH_STAT_LOCKED i, F.ASRC_CH_STAT_RANGE i, F.ASRC_CH_STAT_LOST i, F.ASRC_CH_STAT_UNLOCKS i]
  | 0x20 => [F.ASRC_CH_RATIO_LO_RATIO_LO i]
  | 0x24 => [F.ASRC_CH_RATIO_HI_RATIO_HI i]
  | 0x28 => [F.ASRC_CH_FIXED_LO_FIXED_LO i]
  | 0x2C => [F.ASRC_CH_FIXED_HI_FIXED_HI i]
  | _ =>
    []

/-- The fields of the DLY register at block offset `o`; `b` numbers the unit of a block that exists several times, `i` the instance a selector register names. -/
def fieldsOfDLY (_b i o : Nat) : List Fd :=
  match o with
  | 0x0 => [F.DLY_STAT_GOREJ, F.DLY_STAT_BADLINE, F.DLY_STAT_DESCWR]
  | 0x4 => [F.DLY_POOL_USED_WORDS]
  | 0x8 => [F.DLY_DRAM_USED_BLOCKS]
  | 0xC => [F.DLY_SCRUB_PERIOD]
  | 0x10 => [F.DLY_LINE_INDEX_LINE]
  | 0x24 => [F.DLY_LINE_STAT_STATE i, F.DLY_LINE_STAT_FILLED i, F.DLY_LINE_STAT_DELAY i]
  | 0x30 => [F.DLY_CHG_LINE_MODE, F.DLY_CHG_LINE_LINE]
  | 0x34 => [F.DLY_CHG_DELAY_DELAY]
  | 0x38 => [F.DLY_CHG_BREATH_LO_B_LO]
  | 0x3C => [F.DLY_CHG_BREATH_HI_B_HI]
  | 0x40 => [F.DLY_CHG_POST_KEY, F.DLY_CHG_POST_GO]
  | 0x44 => [F.DLY_CHG_STAT_PENDING, F.DLY_CHG_STAT_RESULT]
  | 0x48 => [F.DLY_LATE_FETCH, F.DLY_LATE_FLUSH]
  | 0x4C => [F.DLY_ECC_UE, F.DLY_ECC_CE]
  | 0x50 => [F.DLY_UELINE_VALID, F.DLY_UELINE_LINE]
  | 0x60 => [F.DLY_DMA_IRQ_EVT]
  | _ =>
    if 0x14 ≤ o && o < 0x24 && (o - 0x14) % 0x4 == 0 then [F.DLY_LINE_DATA_WORD ((o - 0x14) / 0x4) i]
    else if 0x100 ≤ o && o < 0x300 && (o - 0x100) % 0x20 == 0 then [F.DMA_CTRL_WINDOW ((o - 0x100) / 0x20), F.DMA_CTRL_RANK ((o - 0x100) / 0x20), F.DMA_CTRL_IE ((o - 0x100) / 0x20), F.DMA_CTRL_XLATE ((o - 0x100) / 0x20), F.DMA_CTRL_ABORT ((o - 0x100) / 0x20), F.DMA_CTRL_GO ((o - 0x100) / 0x20)]
    else if 0x104 ≤ o && o < 0x304 && (o - 0x104) % 0x20 == 0 then [F.DMA_SRC_LO_ADDR_LO ((o - 0x104) / 0x20)]
    else if 0x10C ≤ o && o < 0x30C && (o - 0x10C) % 0x20 == 0 then [F.DMA_DST_LO_ADDR_LO ((o - 0x10C) / 0x20)]
    else if 0x108 ≤ o && o < 0x308 && (o - 0x108) % 0x20 == 0 then [F.DMA_SRC_HI_ADDR_HI ((o - 0x108) / 0x20)]
    else if 0x110 ≤ o && o < 0x310 && (o - 0x110) % 0x20 == 0 then [F.DMA_DST_HI_ADDR_HI ((o - 0x110) / 0x20)]
    else if 0x114 ≤ o && o < 0x314 && (o - 0x114) % 0x20 == 0 then [F.DMA_COUNT_BYTES ((o - 0x114) / 0x20)]
    else if 0x118 ≤ o && o < 0x318 && (o - 0x118) % 0x20 == 0 then [F.DMA_STAT_PREEMPTS ((o - 0x118) / 0x20), F.DMA_STAT_ERR ((o - 0x118) / 0x20), F.DMA_STAT_ABORT_LATE ((o - 0x118) / 0x20), F.DMA_STAT_STATE ((o - 0x118) / 0x20)]
    else []

/-- The fields of the ARB register at block offset `o`; `b` numbers the unit of a block that exists several times, `i` the instance a selector register names. -/
def fieldsOfARB (_b i o : Nat) : List Fd :=
  match o with
  | 0x0 => [F.ARB_RANK0_RANK 0, F.ARB_RANK0_RANK 1, F.ARB_RANK0_RANK 2, F.ARB_RANK0_RANK 3, F.ARB_RANK0_RANK 4, F.ARB_RANK0_RANK 5, F.ARB_RANK0_RANK 6, F.ARB_RANK0_RANK 7]
  | 0x4 => [F.ARB_RANK1_RANK8]
  | 0x10 => [F.ARB_SEL_REQ]
  | 0x14 => [F.ARB_WAITMAX_TARGET i, F.ARB_WAITMAX_CYCLES i]
  | 0x18 => [F.ARB_HINT_WAITING i, F.ARB_HINT_HINT i]
  | 0x1C => [F.ARB_GRANTS_COUNT i]
  | 0x20 => [F.ARB_CLR_STATS]
  | 0x30 => [F.ARB_TSEL_TARGET]
  | 0x34 => [F.ARB_OWNER_HELD i, F.ARB_OWNER_REQ i]
  | _ =>
    []

/-- The fields of the RVC register at block offset `o`; `b` numbers the unit of a block that exists several times, `i` the instance a selector register names. -/
def fieldsOfRVC (_b _i o : Nat) : List Fd :=
  match o with
  | 0x0 => [F.RVC_STAT_STARTED, F.RVC_STAT_HELD]
  | 0x4 => [F.RVC_LEASE_MS]
  | 0x8 => [F.RVC_BREAK_KEY, F.RVC_BREAK_SECTION, F.RVC_BREAK_GO]
  | 0xC => [F.RVC_EVT_DONE, F.RVC_EVT_BROKEN]
  | 0x10 => [F.RVC_LOADMAX_US]
  | 0x14 => [F.RVC_CLR_LOADMAX]
  | _ =>
    if 0x100 ≤ o && o < 0x500 && (o - 0x100) % 0x40 == 0 then [F.SECn_CMD_TICKET ((o - 0x100) / 0x40), F.SECn_CMD_OP ((o - 0x100) / 0x40)]
    else if 0x104 ≤ o && o < 0x504 && (o - 0x104) % 0x40 == 0 then [F.SECn_LOCK_TICKET ((o - 0x104) / 0x40), F.SECn_LOCK_HOLDER ((o - 0x104) / 0x40), F.SECn_LOCK_LASTEND ((o - 0x104) / 0x40), F.SECn_LOCK_STATE ((o - 0x104) / 0x40)]
    else if 0x108 ≤ o && o < 0x508 && (o - 0x108) % 0x40 == 0 then [F.SECn_REMAIN_MS ((o - 0x108) / 0x40)]
    else if 0x10C ≤ o && o < 0x50C && (o - 0x10C) % 0x40 == 0 then [F.SECn_RESULT_VERR ((o - 0x10C) / 0x40), F.SECn_RESULT_LASTOP ((o - 0x10C) / 0x40), F.SECn_RESULT_CODE ((o - 0x10C) / 0x40)]
    else if 0x110 ≤ o && o < 0x510 && (o - 0x110) % 0x40 == 0 then [F.SECn_STAT_RAMPIN ((o - 0x110) / 0x40), F.SECn_STAT_RETAINED ((o - 0x110) / 0x40), F.SECn_STAT_LATE ((o - 0x110) / 0x40), F.SECn_STAT_CORES ((o - 0x110) / 0x40), F.SECn_STAT_LIVEBUF ((o - 0x110) / 0x40), F.SECn_STAT_STATE ((o - 0x110) / 0x40)]
    else if 0x114 ≤ o && o < 0x514 && (o - 0x114) % 0x40 == 0 then [F.SECn_GEN_GEN ((o - 0x114) / 0x40)]
    else if 0x118 ≤ o && o < 0x518 && (o - 0x118) % 0x40 == 0 then [F.SECn_CFG_VACATE ((o - 0x118) / 0x40), F.SECn_CFG_RETAIN ((o - 0x118) / 0x40), F.SECn_CFG_WHEN ((o - 0x118) / 0x40)]
    else if 0x11C ≤ o && o < 0x51C && (o - 0x11C) % 0x40 == 0 then [F.SECn_RESTART_LO_R_LO ((o - 0x11C) / 0x40)]
    else if 0x120 ≤ o && o < 0x520 && (o - 0x120) % 0x40 == 0 then [F.SECn_RESTART_HI_R_HI ((o - 0x120) / 0x40)]
    else if 0x124 ≤ o && o < 0x524 && (o - 0x124) % 0x40 == 0 then [F.SECn_STOP_LO_S_LO ((o - 0x124) / 0x40)]
    else if 0x128 ≤ o && o < 0x528 && (o - 0x128) % 0x40 == 0 then [F.SECn_STOP_HI_S_HI ((o - 0x128) / 0x40)]
    else []

/-- The fields of the NET register at block offset `o`; `b` numbers the unit of a block that exists several times, `i` the instance a selector register names. -/
def fieldsOfNET (b _i o : Nat) : List Fd :=
  match o with
  | 0x0 => [F.NET_CTRL_EN b, F.NET_CTRL_PHY b, F.NET_CTRL_SPEED b, F.NET_CTRL_AN_EN b, F.NET_CTRL_FEC b, F.NET_CTRL_LOWPWR b, F.NET_CTRL_TX_POL b, F.NET_CTRL_RX_POL b, F.NET_CTRL_PROMISC b, F.NET_CTRL_ALLMULTI b, F.NET_CTRL_BCAST_EN b, F.NET_CTRL_VLAN_EN b, F.NET_CTRL_UNTAG_EN b]
  | 0x4 => [F.NET_STAT_LSTATE b, F.NET_STAT_SPEED b, F.NET_STAT_FEC b, F.NET_STAT_AUDIO_HOLD b, F.NET_STAT_LPI_TX b, F.NET_STAT_LPI_RX b, F.NET_STAT_RFAULT b, F.NET_STAT_FECCFG b, F.NET_STAT_TAILERR b, F.NET_STAT_LINKCHG b, F.NET_STAT_STEPPED b]
  | 0x8 => [F.NET_AN_ADV_EEE b, F.NET_AN_ADV_KR25 b, F.NET_AN_ADV_KR25S b, F.NET_AN_ADV_KR10 b, F.NET_AN_ADV_FEC_RS b, F.NET_AN_ADV_FEC_BASER b]
  | 0xC => [F.NET_AN_LP_VALID b, F.NET_AN_LP_ABIL b]
  | 0x10 => [F.NET_MAXLEN_MAXLEN b]
  | 0x14 => [F.NET_RING_MAP_BCAST_RING b, F.NET_RING_MAP_HASH_RING b, F.NET_RING_MAP_PTP_RING b, F.NET_RING_MAP_DEFAULT_RING b]
  | 0x18 => [F.NET_LP_CFG_DOWN_PCT b, F.NET_LP_CFG_UP_PCT b, F.NET_LP_CFG_LPI_IDLE b]
  | 0x1C => [F.NET_LPI_TW_TW b]
  | 0x20 => [F.NET_EVT_SFP b, F.NET_EVT_LINK b, F.NET_EVT_TX b, F.NET_EVT_RX b]
  | 0x24 => [F.NET_EVT_EN_EN b]
  | 0x500 => [F.SFP_CTRL_POLL_EN b, F.SFP_CTRL_FAST b, F.SFP_CTRL_TXDIS b, F.SFP_CTRL_RS b, F.SFP_CTRL_DDM_PERIOD b]
  | 0x504 => [F.SFP_STAT_PRESENT b, F.SFP_STAT_LOS b, F.SFP_STAT_TX_FAULT b, F.SFP_STAT_ID_VALID b, F.SFP_STAT_DDM_VALID b, F.SFP_STAT_NACK b, F.SFP_STAT_INSERT b, F.SFP_STAT_REMOVE b]
  | 0x508 => [F.SFP_CMD_GO b, F.SFP_CMD_WRITE b, F.SFP_CMD_BUSY b, F.SFP_CMD_LEN b, F.SFP_CMD_DEV b, F.SFP_CMD_OFFSET b]
  | 0x50C => [F.SFP_DATA_DATA b]
  | 0x510 => [F.SFP_DDM0_TEMP b, F.SFP_DDM0_VCC b]
  | 0x514 => [F.SFP_DDM1_TXBIAS b, F.SFP_DDM1_TXPWR b]
  | 0x518 => [F.SFP_DDM2_RXPWR b]
  | 0x800 => [F.NCNT_RX_OK b]
  | 0x804 => [F.NCNT_RX_OCTETS_LO b]
  | 0x808 => [F.NCNT_RX_OCTETS_HI b]
  | 0x80C => [F.NCNT_RX_RUNT b]
  | 0x810 => [F.NCNT_RX_OVERSIZE b]
  | 0x814 => [F.NCNT_RX_FCS b]
  | 0x818 => [F.NCNT_RX_CODE b]
  | 0x81C => [F.NCNT_RX_PAUSE b]
  | 0x820 => [F.NCNT_RX_DA_DROP b]
  | 0x824 => [F.NCNT_RX_VLAN_DROP b]
  | 0x828 => [F.NCNT_RX_BUF_DROP b]
  | 0x82C => [F.NCNT_RX_NOBUF b]
  | 0x830 => [F.NCNT_TX_OK b]
  | 0x834 => [F.NCNT_TX_OCTETS_LO b]
  | 0x838 => [F.NCNT_TX_OCTETS_HI b]
  | 0x83C => [F.NCNT_TX_LEN_ERR b]
  | 0x840 => [F.NCNT_FEC_CORR b]
  | 0x844 => [F.NCNT_FEC_UNCORR b]
  | 0x848 => [F.NCNT_LINK_DOWNS b]
  | 0x850 => [F.NET_CNT_CLR_ALL b]
  | _ =>
    if 0x40 ≤ o && o < 0x80 && (o - 0x40) % 0x4 == 0 then [F.NET_HASH_BINS b ((o - 0x40) / 0x4)]
    else if 0x80 ≤ o && o < 0x180 && (o - 0x80) % 0x8 == 0 then [F.UCAST_HI_EN b ((o - 0x80) / 0x8), F.UCAST_HI_RING b ((o - 0x80) / 0x8), F.UCAST_HI_ADDR_HI b ((o - 0x80) / 0x8)]
    else if 0x84 ≤ o && o < 0x184 && (o - 0x84) % 0x8 == 0 then [F.UCAST_LO_ADDR_LO b ((o - 0x84) / 0x8)]
    else if 0x200 ≤ o && o < 0x400 && (o - 0x200) % 0x4 == 0 then [F.NET_VLAN_VIDS b ((o - 0x200) / 0x4)]
    else if 0x400 ≤ o && o < 0x460 && (o - 0x400) % 0x4 == 0 then [F.SFP_ID_BYTES b ((o - 0x400) / 0x4)]
    else if 0x600 ≤ o && o < 0x680 && (o - 0x600) % 0x20 == 0 then [F.RX_CTRL_EN b ((o - 0x600) / 0x20)]
    else if 0x700 ≤ o && o < 0x7C0 && (o - 0x700) % 0x20 == 0 then [F.TX_CTRL_EN b ((o - 0x700) / 0x20)]
    else if 0x604 ≤ o && o < 0x684 && (o - 0x604) % 0x20 == 0 then [F.RX_BASE_LO_BASE_LO b ((o - 0x604) / 0x20)]
    else if 0x704 ≤ o && o < 0x7C4 && (o - 0x704) % 0x20 == 0 then [F.TX_BASE_LO_BASE_LO b ((o - 0x704) / 0x20)]
    else if 0x608 ≤ o && o < 0x688 && (o - 0x608) % 0x20 == 0 then [F.RX_BASE_HI_BASE_HI b ((o - 0x608) / 0x20)]
    else if 0x708 ≤ o && o < 0x7C8 && (o - 0x708) % 0x20 == 0 then [F.TX_BASE_HI_BASE_HI b ((o - 0x708) / 0x20)]
    else if 0x60C ≤ o && o < 0x68C && (o - 0x60C) % 0x20 == 0 then [F.RX_LEN_LEN b ((o - 0x60C) / 0x20)]
    else if 0x70C ≤ o && o < 0x7CC && (o - 0x70C) % 0x20 == 0 then [F.TX_LEN_LEN b ((o - 0x70C) / 0x20)]
    else if 0x610 ≤ o && o < 0x690 && (o - 0x610) % 0x20 == 0 then [F.RX_HEAD_HEAD b ((o - 0x610) / 0x20)]
    else if 0x710 ≤ o && o < 0x7D0 && (o - 0x710) % 0x20 == 0 then [F.TX_HEAD_HEAD b ((o - 0x710) / 0x20)]
    else if 0x614 ≤ o && o < 0x694 && (o - 0x614) % 0x20 == 0 then [F.RX_TAIL_TAIL b ((o - 0x614) / 0x20)]
    else if 0x714 ≤ o && o < 0x7D4 && (o - 0x714) % 0x20 == 0 then [F.TX_TAIL_TAIL b ((o - 0x714) / 0x20)]
    else if 0x618 ≤ o && o < 0x698 && (o - 0x618) % 0x20 == 0 then [F.RX_STAT_HALTED b ((o - 0x618) / 0x20), F.RX_STAT_ERR b ((o - 0x618) / 0x20)]
    else if 0x718 ≤ o && o < 0x7D8 && (o - 0x718) % 0x20 == 0 then [F.TX_STAT_HALTED b ((o - 0x718) / 0x20), F.TX_STAT_ERR b ((o - 0x718) / 0x20)]
    else []

/-- The fields of the STRM register at block offset `o`; `b` numbers the unit of a block that exists several times, `i` the instance a selector register names. -/
def fieldsOfSTRM (_b i o : Nat) : List Fd :=
  match o with
  | 0x0 => [F.STRM_CFG_RESET_BREATHS, F.STRM_CFG_PATH_TMO, F.STRM_CFG_REPEAT_MAX]
  | 0x4 => [F.STRM_STAT_DESCWR, F.STRM_STAT_BADDESC, F.STRM_STAT_GCLWR, F.STRM_STAT_RX_CH, F.STRM_STAT_TX_CH]
  | 0x10 => [F.STRM_SEL_KIND, F.STRM_SEL_INDEX]
  | 0x50 => [F.STRM_DSTAT_STATE i, F.STRM_DSTAT_PATH_A i, F.STRM_DSTAT_PATH_B i, F.STRM_DSTAT_DERR i, F.STRM_DSTAT_RAMP_K i]
  | 0x90 => [F.STRM_CLR_CNT]
  | 0x100 => [F.STRM_GCL_PORT_PORT]
  | 0x104 => [F.STRM_GCL_LEN_LEN i]
  | 0x108 => [F.STRM_GCL_BREATH_LO_B_LO i]
  | 0x10C => [F.STRM_GCL_BREATH_HI_B_HI i]
  | 0x110 => [F.STRM_GCL_COMMIT_KEY i, F.STRM_GCL_COMMIT_GO i]
  | 0x114 => [F.STRM_GCL_STAT_BUSY i, F.STRM_GCL_STAT_RESULT i, F.STRM_GCL_STAT_OPER_LEN i]
  | 0x118 => [F.STRM_CBS_SLOPE_SLOPE i]
  | _ =>
    if 0x20 ≤ o && o < 0x44 && (o - 0x20) % 0x4 == 0 then [F.STRM_DESC_WORD ((o - 0x20) / 0x4) i]
    else if 0x60 ≤ o && o < 0x88 && (o - 0x60) % 0x4 == 0 then [F.STRM_SCNT_COUNT ((o - 0x60) / 0x4) i]
    else if 0x180 ≤ o && o < 0x1A0 && (o - 0x180) % 0x8 == 0 then [F.STRM_SA_HI_SA_HI ((o - 0x180) / 0x8)]
    else if 0x184 ≤ o && o < 0x1A4 && (o - 0x184) % 0x8 == 0 then [F.STRM_SA_LO_SA_LO ((o - 0x184) / 0x8)]
    else if 0x400 ≤ o && o < 0x500 && (o - 0x400) % 0x4 == 0 then [F.STRM_GCL_ADMIN_GATES ((o - 0x400) / 0x4) i, F.STRM_GCL_ADMIN_INTERVAL ((o - 0x400) / 0x4) i]
    else if 0x500 ≤ o && o < 0x600 && (o - 0x500) % 0x4 == 0 then [F.STRM_GCL_OPER_GATES ((o - 0x500) / 0x4) i, F.STRM_GCL_OPER_INTERVAL ((o - 0x500) / 0x4) i]
    else []

/-- The fields of the PP register at block offset `o`; `b` numbers the unit of a block that exists several times, `i` the instance a selector register names. -/
def fieldsOfPP (_b i o : Nat) : List Fd :=
  match o with
  | 0x0 => [F.PP_CTRL_STEER, F.PP_CTRL_REVERT, F.PP_CTRL_BW, F.PP_CTRL_SEL]
  | 0x4 => [F.PP_STAT_LOCKLOSS, F.PP_STAT_HISTVALID, F.PP_STAT_SELOK, F.PP_STAT_REVPEND, F.PP_STAT_CLAMP, F.PP_STAT_STATE, F.PP_STAT_ACTIVE]
  | 0x8 => [F.PP_RANK_RANK 0, F.PP_RANK_RANK 1, F.PP_RANK_RANK 2, F.PP_RANK_RANK 3, F.PP_RANK_RANK 4, F.PP_RANK_RANK 5]
  | 0xC => [F.PP_REF_EN_EN]
  | 0x10 => [F.PP_QUAL_QUAL_MS, F.PP_QUAL_QUAL_PPM]
  | 0x14 => [F.PP_HOLDOFF_SECONDS]
  | 0x18 => [F.PP_DISAGREE_PPB]
  | 0x1C => [F.PP_LOCK_LOCK_MS, F.PP_LOCK_LOCK_NS]
  | 0x20 => [F.PP_SLEW_NS_PER_S]
  | 0x24 => [F.PP_PTP_TMO_MS, F.PP_PTP_VALID1, F.PP_PTP_VALID0]
  | 0x30 => [F.PP_WCLK_CFG_EDGE, F.PP_WCLK_CFG_RATE]
  | 0x34 => [F.PP_SAPREF_CFG_PORT]
  | 0x38 => [F.PP_REFSTAT_LOS, F.PP_REFSTAT_DISAGREE, F.PP_REFSTAT_VALID]
  | 0x3C => [F.PP_REFSEL_REF]
  | 0x40 => [F.PP_REF_PHASE_E i]
  | 0x44 => [F.PP_REF_FREQ_F i]
  | 0x48 => [F.PP_BUILDOUT_B i]
  | 0x4C => [F.PP_HOLD_RATE_RATE]
  | 0x50 => [F.PP_HOLD_AGE_SECONDS]
  | 0x54 => [F.PP_FREERUN_RATE_RATE]
  | 0x58 => [F.PP_PSTEP_DELTA]
  | 0x5C => [F.PP_PSTEP_CMD_KEY, F.PP_PSTEP_CMD_MODE, F.PP_PSTEP_CMD_GO]
  | 0x60 => [F.PP_PSTEP_STAT_BUSY, F.PP_PSTEP_STAT_RESULT]
  | 0x64 => [F.PP_PSTEP_REMAIN_REMAIN]
  | 0x68 => [F.PP_CLKOUT_WC_EN, F.PP_CLKOUT_WC_48, F.PP_CLKOUT_MC1_EN, F.PP_CLKOUT_MC1_DIV, F.PP_CLKOUT_MC0_EN, F.PP_CLKOUT_MC0_DIV]
  | 0x6C => [F.PP_EVT_STATE, F.PP_EVT_SWITCH, F.PP_EVT_REFLOSS, F.PP_EVT_DISAGREE, F.PP_EVT_PSTEP]
  | 0x70 => [F.PP_SWCOUNT_COUNT]
  | _ =>
    if 0x28 ≤ o && o < 0x30 && (o - 0x28) % 0x4 == 0 then [F.PP_PTP_ERR_ERR ((o - 0x28) / 0x4)]
    else []

/-- The fields of the TIME register at block offset `o`; `b` numbers the unit of a block that exists several times, `i` the instance a selector register names. -/
def fieldsOfTIME (_b _i o : Nat) : List Fd :=
  match o with
  | 0x0 => [F.TIME_STAT_EPOCH, F.TIME_STAT_ARMED, F.TIME_STAT_RATEREJ, F.TIME_STAT_STEPREJ, F.TIME_STAT_STEPPED]
  | 0x4 => [F.TIME_SERVO_KEY, F.TIME_SERVO_RESET]
  | 0x8 => [F.TIME_RATE_RATE]
  | 0x10 => [F.TIME_OFFSET_LO_DELTA_LO]
  | 0x14 => [F.TIME_OFFSET_HI_DELTA_HI]
  | 0x20 => [F.TIME_NOW_LO_NS_LO]
  | 0x30 => [F.TIME_RAW_LO_NS_LO]
  | 0x24 => [F.TIME_NOW_HI_NS_HI]
  | 0x34 => [F.TIME_RAW_HI_NS_HI]
  | 0x28 => [F.TIME_NOW_FRAC_FRAC]
  | 0x38 => [F.TIME_RAW_FRAC_FRAC]
  | 0x40 => [F.TIME_SNAP_GO]
  | 0x44 => [F.TIME_SNAP_NS_LO_NS]
  | 0x48 => [F.TIME_SNAP_NS_HI_NS]
  | 0x4C => [F.TIME_SNAP_SEC_LO_SEC_LO]
  | 0x50 => [F.TIME_SNAP_SEC_HI_SEC_HI]
  | 0x60 => [F.TIME_EVT_TXTS, F.TIME_EVT_CAP, F.TIME_EVT_TRIG]
  | _ =>
    if 0x100 ≤ o && o < 0x200 && (o - 0x100) % 0x20 == 0 then [F.TRIG_CFG_EN ((o - 0x100) / 0x20), F.TRIG_CFG_MODE ((o - 0x100) / 0x20), F.TRIG_CFG_ACTION ((o - 0x100) / 0x20), F.TRIG_CFG_OUT ((o - 0x100) / 0x20), F.TRIG_CFG_PULSE ((o - 0x100) / 0x20)]
    else if 0x104 ≤ o && o < 0x204 && (o - 0x104) % 0x20 == 0 then [F.TRIG_AT_LO_AT_LO ((o - 0x104) / 0x20)]
    else if 0x108 ≤ o && o < 0x208 && (o - 0x108) % 0x20 == 0 then [F.TRIG_AT_HI_AT_HI ((o - 0x108) / 0x20)]
    else if 0x10C ≤ o && o < 0x20C && (o - 0x10C) % 0x20 == 0 then [F.TRIG_PERIOD_PERIOD ((o - 0x10C) / 0x20)]
    else if 0x110 ≤ o && o < 0x210 && (o - 0x110) % 0x20 == 0 then [F.TRIG_TGT_MASK ((o - 0x110) / 0x20)]
    else if 0x114 ≤ o && o < 0x214 && (o - 0x114) % 0x20 == 0 then [F.TRIG_STAT_ARMED ((o - 0x114) / 0x20), F.TRIG_STAT_LATE ((o - 0x114) / 0x20), F.TRIG_STAT_STEPFIRE ((o - 0x114) / 0x20), F.TRIG_STAT_IGNORED ((o - 0x114) / 0x20), F.TRIG_STAT_BADCFG ((o - 0x114) / 0x20), F.TRIG_STAT_CFGWR ((o - 0x114) / 0x20), F.TRIG_STAT_FIRES ((o - 0x114) / 0x20)]
    else if 0x118 ≤ o && o < 0x218 && (o - 0x118) % 0x20 == 0 then [F.TRIG_FIRED_LO_NS ((o - 0x118) / 0x20)]
    else if 0x11C ≤ o && o < 0x21C && (o - 0x11C) % 0x20 == 0 then [F.TRIG_FIRED_HI_NS ((o - 0x11C) / 0x20)]
    else if 0x200 ≤ o && o < 0x280 && (o - 0x200) % 0x10 == 0 then [F.CAP_CFG_EN ((o - 0x200) / 0x10), F.CAP_CFG_SRC ((o - 0x200) / 0x10), F.CAP_CFG_ARG ((o - 0x200) / 0x10)]
    else if 0x204 ≤ o && o < 0x284 && (o - 0x204) % 0x10 == 0 then [F.CAP_STAT_OVF ((o - 0x204) / 0x10), F.CAP_STAT_VALID ((o - 0x204) / 0x10), F.CAP_STAT_COUNT ((o - 0x204) / 0x10), F.CAP_STAT_FRAC ((o - 0x204) / 0x10)]
    else if 0x208 ≤ o && o < 0x288 && (o - 0x208) % 0x10 == 0 then [F.CAP_TS_LO_NS_LO ((o - 0x208) / 0x10)]
    else if 0x20C ≤ o && o < 0x28C && (o - 0x20C) % 0x10 == 0 then [F.CAP_TS_HI_NS_HI ((o - 0x20C) / 0x10)]
    else if 0x300 ≤ o && o < 0x350 && (o - 0x300) % 0x10 == 0 then [F.TXTS_TS_TS ((o - 0x300) / 0x10)]
    else if 0x304 ≤ o && o < 0x354 && (o - 0x304) % 0x10 == 0 then [F.TXTS_TAG_VALID ((o - 0x304) / 0x10), F.TXTS_TAG_TAG ((o - 0x304) / 0x10)]
    else if 0x308 ≤ o && o < 0x358 && (o - 0x308) % 0x10 == 0 then [F.TXTS_STAT_TXTS_OVF ((o - 0x308) / 0x10), F.TXTS_STAT_DROPPED ((o - 0x308) / 0x10), F.TXTS_STAT_COUNT ((o - 0x308) / 0x10)]
    else []

/-- The fields of the SAP register at block offset `o`; `b` numbers the unit of a block that exists several times, `i` the instance a selector register names. -/
def fieldsOfSAP (_b _i o : Nat) : List Fd :=
  match o with
  | 0x0 => [F.SAP_CFG_REPEAT_MAX]
  | 0x4 => [F.SAP_STAT_RX_SLOTS, F.SAP_STAT_TX_SLOTS]
  | 0x8 => [F.SAP_EVT_REPAIR, F.SAP_EVT_LOCLK]
  | _ =>
    if 0x100 ≤ o && o < 0x500 && (o - 0x100) % 0x40 == 0 then [F.SAPp_CFG_EN ((o - 0x100) / 0x40), F.SAPp_CFG_MASTER ((o - 0x100) / 0x40), F.SAPp_CFG_DOMAIN ((o - 0x100) / 0x40), F.SAPp_CFG_FMT ((o - 0x100) / 0x40), F.SAPp_CFG_RATE ((o - 0x100) / 0x40), F.SAPp_CFG_SLOTS ((o - 0x100) / 0x40), F.SAPp_CFG_SLOTW ((o - 0x100) / 0x40), F.SAPp_CFG_WORD ((o - 0x100) / 0x40), F.SAPp_CFG_FSW ((o - 0x100) / 0x40), F.SAPp_CFG_DELAY ((o - 0x100) / 0x40), F.SAPp_CFG_BCLK_INV ((o - 0x100) / 0x40), F.SAPp_CFG_FS_INV ((o - 0x100) / 0x40), F.SAPp_CFG_TXHIZ ((o - 0x100) / 0x40), F.SAPp_CFG_RETCLK ((o - 0x100) / 0x40)]
    else if 0x104 ≤ o && o < 0x504 && (o - 0x104) % 0x40 == 0 then [F.SAPp_MAP_TAP_BASE ((o - 0x104) / 0x40), F.SAPp_MAP_TXLAG ((o - 0x104) / 0x40), F.SAPp_MAP_BLOCKLEN ((o - 0x104) / 0x40)]
    else if 0x108 ≤ o && o < 0x508 && (o - 0x108) % 0x40 == 0 then [F.SAPp_TIMING_ALIGN ((o - 0x108) / 0x40), F.SAPp_TIMING_FRAME_OFS ((o - 0x108) / 0x40), F.SAPp_TIMING_DUE_MARGIN ((o - 0x108) / 0x40)]
    else if 0x10C ≤ o && o < 0x50C && (o - 0x10C) % 0x40 == 0 then [F.SAPp_RXMASK_MASK ((o - 0x10C) / 0x40)]
    else if 0x110 ≤ o && o < 0x510 && (o - 0x110) % 0x40 == 0 then [F.SAPp_TXMASK_MASK ((o - 0x110) / 0x40)]
    else if 0x114 ≤ o && o < 0x514 && (o - 0x114) % 0x40 == 0 then [F.SAPp_EPOCH_FRAME_FRAME ((o - 0x114) / 0x40)]
    else if 0x118 ≤ o && o < 0x518 && (o - 0x118) % 0x40 == 0 then [F.SAPp_EPOCH_BREATH_BREATH ((o - 0x118) / 0x40)]
    else if 0x11C ≤ o && o < 0x51C && (o - 0x11C) % 0x40 == 0 then [F.SAPp_STAT_STATE ((o - 0x11C) / 0x40), F.SAPp_STAT_DERR ((o - 0x11C) / 0x40), F.SAPp_STAT_CFGWR ((o - 0x11C) / 0x40), F.SAPp_STAT_MASKREJ ((o - 0x11C) / 0x40), F.SAPp_STAT_LOCLK_EV ((o - 0x11C) / 0x40), F.SAPp_STAT_REPAIRED ((o - 0x11C) / 0x40)]
    else if 0x120 ≤ o && o < 0x520 && (o - 0x120) % 0x40 == 0 then [F.SAPp_FRAME_FRAME ((o - 0x120) / 0x40)]
    else if 0x124 ≤ o && o < 0x524 && (o - 0x124) % 0x40 == 0 then [F.SAPp_BLK_TS_LO_NS ((o - 0x124) / 0x40)]
    else if 0x128 ≤ o && o < 0x528 && (o - 0x128) % 0x40 == 0 then [F.SAPp_BLK_TS_HI_NS ((o - 0x128) / 0x40)]
    else if 0x12C ≤ o && o < 0x52C && (o - 0x12C) % 0x40 == 0 then [F.SAPp_PHASE_PHASE ((o - 0x12C) / 0x40)]
    else if 0x130 ≤ o && o < 0x530 && (o - 0x130) % 0x40 == 0 then [F.SAPp_REPAIR_BREATH ((o - 0x130) / 0x40)]
    else if 0x134 ≤ o && o < 0x534 && (o - 0x134) % 0x40 == 0 then [F.SAPp_SLIP_REPAIRS ((o - 0x134) / 0x40), F.SAPp_SLIP_SLIP ((o - 0x134) / 0x40)]
    else if 0x138 ≤ o && o < 0x538 && (o - 0x138) % 0x40 == 0 then [F.SAPp_CNT0_UNDERRUN ((o - 0x138) / 0x40), F.SAPp_CNT0_OVERRUN ((o - 0x138) / 0x40)]
    else if 0x13C ≤ o && o < 0x53C && (o - 0x13C) % 0x40 == 0 then [F.SAPp_CNT1_TXUNDER ((o - 0x13C) / 0x40), F.SAPp_CNT1_LOSSES ((o - 0x13C) / 0x40), F.SAPp_CNT1_BADFRAME ((o - 0x13C) / 0x40)]
    else if 0x500 ≤ o && o < 0x580 && (o - 0x500) % 0x8 == 0 then [F.SAPp_CABLE_CFG_MEAS_EN ((o - 0x500) / 0x8), F.SAPp_CABLE_CFG_TURN ((o - 0x500) / 0x8)]
    else if 0x504 ≤ o && o < 0x584 && (o - 0x504) % 0x8 == 0 then [F.SAPp_CABLE_STAT_VALID ((o - 0x504) / 0x8), F.SAPp_CABLE_STAT_RTT ((o - 0x504) / 0x8)]
    else []

/-- The fields of the BSI register at block offset `o`; `b` numbers the unit of a block that exists several times, `i` the instance a selector register names. -/
def fieldsOfBSI (_b _i o : Nat) : List Fd :=
  match o with
  | 0x0 => [F.BSI_CTRL_CLK_EN, F.BSI_CTRL_CLK_FAST]
  | 0x4 => [F.BSI_STAT_RUNNING]
  | 0x8 => [F.BSI_EVT_OVLD]
  | _ =>
    if 0x100 ≤ o && o < 0x900 && (o - 0x100) % 0x40 == 0 then [F.BSIc_CFG_EN ((o - 0x100) / 0x40), F.BSIc_CFG_CLASS ((o - 0x100) / 0x40), F.BSIc_CFG_PRESET ((o - 0x100) / 0x40), F.BSIc_CFG_INV ((o - 0x100) / 0x40), F.BSIc_CFG_FREEZE ((o - 0x100) / 0x40), F.BSIc_CFG_DLY ((o - 0x100) / 0x40)]
    else if 0x104 ≤ o && o < 0x904 && (o - 0x104) % 0x40 == 0 then [F.BSIc_STAT_STATE ((o - 0x104) / 0x40), F.BSIc_STAT_CFGERR ((o - 0x104) / 0x40), F.BSIc_STAT_OVLD ((o - 0x104) / 0x40), F.BSIc_STAT_FROZEN ((o - 0x104) / 0x40), F.BSIc_STAT_CFGWR ((o - 0x104) / 0x40)]
    else if 0x108 ≤ o && o < 0x908 && (o - 0x108) % 0x40 == 0 then [F.BSIc_COEF0_PREL_CORNER ((o - 0x108) / 0x40)]
    else if 0x10C ≤ o && o < 0x90C && (o - 0x10C) % 0x40 == 0 then [F.BSIc_COEF1_ARMS ((o - 0x10C) / 0x40)]
    else if 0x110 ≤ o && o < 0x910 && (o - 0x110) % 0x40 == 0 then [F.BSIc_COEF2_EATT ((o - 0x110) / 0x40)]
    else if 0x114 ≤ o && o < 0x914 && (o - 0x114) % 0x40 == 0 then [F.BSIc_COEF3_EREL ((o - 0x114) / 0x40)]
    else if 0x118 ≤ o && o < 0x918 && (o - 0x118) % 0x40 == 0 then [F.BSIc_HOLD_HOLD ((o - 0x118) / 0x40)]
    else if 0x120 ≤ o && o < 0x920 && (o - 0x120) % 0x40 == 0 then [F.BSIc_PEAK_P ((o - 0x120) / 0x40)]
    else if 0x124 ≤ o && o < 0x924 && (o - 0x124) % 0x40 == 0 then [F.BSIc_RMS_R ((o - 0x124) / 0x40)]
    else if 0x128 ≤ o && o < 0x928 && (o - 0x128) % 0x40 == 0 then [F.BSIc_ENV_E ((o - 0x128) / 0x40)]
    else if 0x12C ≤ o && o < 0x92C && (o - 0x12C) % 0x40 == 0 then [F.BSIc_MS_MS ((o - 0x12C) / 0x40)]
    else if 0x130 ≤ o && o < 0x930 && (o - 0x130) % 0x40 == 0 then [F.BSIc_DCEST_M ((o - 0x130) / 0x40)]
    else if 0x134 ≤ o && o < 0x934 && (o - 0x134) % 0x40 == 0 then [F.BSIc_ALPHA_ALPHA ((o - 0x134) / 0x40)]
    else []

/-- The fields of the TWIN register at block offset `o`; `b` numbers the unit of a block that exists several times, `i` the instance a selector register names. -/
def fieldsOfTWIN (_b i o : Nat) : List Fd :=
  match o with
  | 0x0 => [F.TWIN_CTRL_EN, F.TWIN_CTRL_AGREE, F.TWIN_CTRL_RETRY_MAX, F.TWIN_CTRL_HB_MISS]
  | 0x4 => [F.TWIN_STAT_LINK, F.TWIN_STAT_ROLE, F.TWIN_STAT_ALIGNED, F.TWIN_STAT_JOINREQ, F.TWIN_STAT_UNCOVERED, F.TWIN_STAT_INCOMPAT]
  | 0x8 => [F.TWIN_SKEW_MAX_NS]
  | 0xC => [F.TWIN_RESEAT_RATE_MBPS]
  | 0x10 => [F.TWIN_CMD_KEY, F.TWIN_CMD_OP]
  | 0x18 => [F.TWIN_CMD_BREATH_LO_Y_LO]
  | 0x1C => [F.TWIN_CMD_BREATH_HI_Y_HI]
  | 0x20 => [F.TWIN_CMD_STAT_BUSY, F.TWIN_CMD_STAT_RESULT]
  | 0x24 => [F.TWIN_QUIET_PARTNER, F.TWIN_QUIET_OWN]
  | 0x28 => [F.TWIN_QREASON_REASON]
  | 0x2C => [F.TWIN_RS_STAT_PHASE, F.TWIN_RS_STAT_LASTERR, F.TWIN_RS_STAT_FAILS, F.TWIN_RS_STAT_SET]
  | 0x30 => [F.TWIN_RS_SEAT_LO_S_LO]
  | 0x34 => [F.TWIN_RS_SEAT_HI_S_HI]
  | 0x38 => [F.TWIN_RS_GAP_BREATHS]
  | 0x3C => [F.TWIN_RS_BYTES_BYTES]
  | 0x40 => [F.TWIN_CNT0_MISMATCH, F.TWIN_CNT0_RESEATS]
  | 0x44 => [F.TWIN_CNT1_HBMISS, F.TWIN_CNT1_LOSTS, F.TWIN_CNT1_RSFAIL, F.TWIN_CNT1_BADFRAME]
  | 0x48 => [F.TWIN_PSERIAL_LO_SERIAL]
  | 0x4C => [F.TWIN_PSERIAL_HI_SERIAL]
  | 0x50 => [F.TWIN_OFFSET_LO_OFFSET]
  | 0x54 => [F.TWIN_OFFSET_HI_OFFSET]
  | 0x58 => [F.TWIN_LINKDLY_DELAY]
  | 0x5C => [F.TWIN_SKEW_SKEW]
  | 0x60 => [F.TWIN_EVT_JOIN, F.TWIN_EVT_RESEAT_DONE, F.TWIN_EVT_RESEAT_FAIL, F.TWIN_EVT_MISMATCH, F.TWIN_EVT_ROLE, F.TWIN_EVT_LINK]
  | 0x64 => [F.TWIN_SA_HI_SA_HI]
  | 0x68 => [F.TWIN_SA_LO_SA_LO]
  | 0x6C => [F.TWIN_PNEXT_LO_N_LO]
  | 0x70 => [F.TWIN_PNEXT_HI_N_HI]
  | 0x74 => [F.TWIN_PSTART_LO_NS]
  | 0x78 => [F.TWIN_PSTART_HI_NS]
  | 0x80 => [F.TWIN_DIGSEL_SECTION]
  | 0x84 => [F.TWIN_DIG_OWN_LO_DIGEST i]
  | 0x88 => [F.TWIN_DIG_OWN_HI_DIGEST i]
  | 0x8C => [F.TWIN_DIG_PART_LO_DIGEST i]
  | 0x90 => [F.TWIN_DIG_PART_HI_DIGEST i]
  | 0x94 => [F.TWIN_DIG_BREATH_BREATH i]
  | _ =>
    []

/-- The fields of the FCU register at block offset `o`; `b` numbers the unit of a block that exists several times, `i` the instance a selector register names. -/
def fieldsOfFCU (_b i o : Nat) : List Fd :=
  match o with
  | 0x0 => [F.FCU_STAT_STATE, F.FCU_STAT_LOCKED, F.FCU_STAT_CFGWR, F.FCU_STAT_AUTOSUP, F.FCU_STAT_QRESTARTS, F.FCU_STAT_LOCKWR]
  | 0x4 => [F.FCU_CTRL_SHADOW_US, F.FCU_CTRL_WIRE_FLOOR]
  | 0x8 => [F.FCU_QUIET_CFG_AUTO, F.FCU_QUIET_CFG_QUIET_MAX, F.FCU_QUIET_CFG_DELAY_MS]
  | 0xC => [F.FCU_LOCK_KEY, F.FCU_LOCK_LOCK]
  | 0x10 => [F.FCU_LAST_VALID, F.FCU_LAST_CLASS, F.FCU_LAST_SOURCE, F.FCU_LAST_INDEX]
  | 0x14 => [F.FCU_CONSEQ_COUNT]
  | 0x18 => [F.FCU_SRCSEL_SRC]
  | 0x1C => [F.FCU_SRCCNT_COUNT i]
  | 0x60 => [F.FCU_FORCE_CFG_EN, F.FCU_FORCE_CFG_WIRE, F.FCU_FORCE_CFG_INDEX]
  | 0x100 => [F.FCU_REC_STAT_OVF, F.FCU_REC_STAT_DROPPED, F.FCU_REC_STAT_COUNT]
  | 0x104 => [F.FCU_REC0_WORD0]
  | 0x120 => [F.FCU_FENCED_GROUPS]
  | _ =>
    if 0x20 ≤ o && o < 0x40 && (o - 0x20) % 0x4 == 0 then [F.FCU_CLASS_CLASS ((o - 0x20) / 0x4) 0, F.FCU_CLASS_CLASS ((o - 0x20) / 0x4) 1, F.FCU_CLASS_CLASS ((o - 0x20) / 0x4) 2, F.FCU_CLASS_CLASS ((o - 0x20) / 0x4) 3, F.FCU_CLASS_CLASS ((o - 0x20) / 0x4) 4, F.FCU_CLASS_CLASS ((o - 0x20) / 0x4) 5, F.FCU_CLASS_CLASS ((o - 0x20) / 0x4) 6, F.FCU_CLASS_CLASS ((o - 0x20) / 0x4) 7, F.FCU_CLASS_CLASS ((o - 0x20) / 0x4) 8, F.FCU_CLASS_CLASS ((o - 0x20) / 0x4) 9, F.FCU_CLASS_CLASS ((o - 0x20) / 0x4) 10, F.FCU_CLASS_CLASS ((o - 0x20) / 0x4) 11, F.FCU_CLASS_CLASS ((o - 0x20) / 0x4) 12, F.FCU_CLASS_CLASS ((o - 0x20) / 0x4) 13, F.FCU_CLASS_CLASS ((o - 0x20) / 0x4) 14, F.FCU_CLASS_CLASS ((o - 0x20) / 0x4) 15]
    else if 0x40 ≤ o && o < 0x50 && (o - 0x40) % 0x4 == 0 then [F.FCU_PEND_PEND ((o - 0x40) / 0x4)]
    else if 0x50 ≤ o && o < 0x60 && (o - 0x50) % 0x4 == 0 then [F.FCU_FORCE_FORCE ((o - 0x50) / 0x4)]
    else if 0x70 ≤ o && o < 0x80 && (o - 0x70) % 0x4 == 0 then [F.FCU_WIREBAD_WIREBAD ((o - 0x70) / 0x4)]
    else if 0x80 ≤ o && o < 0x100 && (o - 0x80) % 0x4 == 0 then [F.FCU_DEP_DEP ((o - 0x80) / 0x4)]
    else if 0x108 ≤ o && o < 0x114 && (o - 0x108) % 0x4 == 0 then [F.FCU_REC1_WORD ((o - 0x108) / 0x4)]
    else []

/-- The fields of the LIG register at block offset `o`; `b` numbers the unit of a block that exists several times, `i` the instance a selector register names. -/
def fieldsOfLIG (_b _i o : Nat) : List Fd :=
  match o with
  | 0x0 => [F.LIG_STAT_STATE, F.LIG_STAT_WORN, F.LIG_STAT_QDROP, F.LIG_STAT_RETIRE]
  | 0x4 => [F.LIG_HEAD_SECTOR, F.LIG_HEAD_OFFSET]
  | 0x8 => [F.LIG_SEQ_SEQ]
  | 0xC => [F.LIG_RING_USABLE, F.LIG_RING_TAIL]
  | 0x10 => [F.LIG_KEEP_QUEUED, F.LIG_KEEP_PENDING]
  | 0x14 => [F.LIG_BUDGET_VALID, F.LIG_BUDGET_BYTES]
  | 0x18 => [F.LIG_HOLDUP_CAP, F.LIG_HOLDUP_V0]
  | 0x1C => [F.LIG_TAI_SECONDS]
  | 0x20 => [F.LIG_WEAR_MAXERASE, F.LIG_WEAR_RETIRED]
  | 0x24 => [F.LIG_CNT_CHECKPOINTS, F.LIG_CNT_TORN, F.LIG_CNT_QDROPPED]
  | 0x30 => [F.LIG_APPEND_GO, F.LIG_APPEND_LEN, F.LIG_APPEND_TYPE]
  | 0x34 => [F.LIG_APPEND_STAT_BUSY, F.LIG_APPEND_STAT_RESULT]
  | 0x40 => [F.LIG_RD_ADDR_ADDR]
  | 0x44 => [F.LIG_RD_CMD_BUSY, F.LIG_RD_CMD_ERR, F.LIG_RD_CMD_GO]
  | _ =>
    if 0x800 ≤ o && o < 0x1000 && (o - 0x800) % 0x4 == 0 then [F.LIG_APBUF ((o - 0x800) / 0x4)]
    else if 0x1000 ≤ o && o < 0x1100 && (o - 0x1000) % 0x4 == 0 then [F.LIG_RDWIN ((o - 0x1000) / 0x4)]
    else []

/-- The fields of the SEC register at block offset `o`; `b` numbers the unit of a block that exists several times, `i` the instance a selector register names. -/
def fieldsOfSEC (_b _i o : Nat) : List Fd :=
  match o with
  | 0x0 => [F.SEC_STAT_RECOVERY, F.SEC_STAT_ROLLBACK, F.SEC_STAT_TRIAL, F.SEC_STAT_SLOT, F.SEC_STAT_KEY, F.SEC_STAT_KEYERR, F.SEC_STAT_CONFIRMED, F.SEC_STAT_CONFWR, F.SEC_STAT_RBCAUSE, F.SEC_STAT_FAILSEC]
  | 0x4 => [F.SEC_BOOT_GEN_GEN]
  | 0x8 => [F.SEC_BOOT_CONFIRM_KEY, F.SEC_BOOT_CONFIRM_GO]
  | 0xC => [F.SEC_FUSE_KEY1_VALID, F.SEC_FUSE_KEY0_REVOKED, F.SEC_FUSE_FUSERES, F.SEC_FUSE_FLOOR]
  | 0x10 => [F.SEC_FLOOR_BURN_KEY, F.SEC_FLOOR_BURN_FLOOR]
  | 0x14 => [F.SEC_REVOKE_KEY, F.SEC_REVOKE_GO]
  | 0x20 => [F.SEC_AUTH_ADDR_LO_ADDR_LO]
  | 0x24 => [F.SEC_AUTH_ADDR_HI_ADDR_HI]
  | 0x28 => [F.SEC_AUTH_CMD_GO, F.SEC_AUTH_CMD_KIND]
  | 0x2C => [F.SEC_AUTH_STAT_BUSY, F.SEC_AUTH_STAT_RESULT]
  | _ =>
    if 0x40 ≤ o && o < 0x60 && (o - 0x40) % 0x4 == 0 then [F.SEC_DIGEST_DIGEST ((o - 0x40) / 0x4)]
    else if 0x100 ≤ o && o < 0x140 && (o - 0x100) % 0x20 % 0x4 == 0 && (o - 0x100) % 0x20 < 0x20 then [F.SEC_KEYHASH_HASH ((o - 0x100) / 0x20) ((o - 0x100) % 0x20 / 0x4)]
    else []

/-- The fields of the ACC register at block offset `o`; `b` numbers the unit of a block that exists several times, `i` the instance a selector register names. -/
def fieldsOfACC (b _i o : Nat) : List Fd :=
  match o with
  | 0xF200 => [F.ACC_VINFO_VALID b, F.ACC_VINFO_OVF b, F.ACC_VINFO_CAUSE b, F.ACC_VINFO_WRITE b, F.ACC_VINFO_MASTER b]
  | 0xF204 => [F.ACC_VOFS_OFFSET b]
  | _ =>
    if 0xF000 ≤ o && o < 0xF200 && (o - 0xF000) % 0x10 == 0 then [F.ACL_W0 b ((o - 0xF000) / 0x10)]
    else if 0xF004 ≤ o && o < 0xF204 && (o - 0xF004) % 0x10 == 0 then [F.ACL_W1 b ((o - 0xF004) / 0x10)]
    else if 0xF008 ≤ o && o < 0xF208 && (o - 0xF008) % 0x10 == 0 then [F.ACL_W2 b ((o - 0xF008) / 0x10)]
    else if 0xF00C ≤ o && o < 0xF20C && (o - 0xF00C) % 0x10 == 0 then [F.ACL_W3 b ((o - 0xF00C) / 0x10)]
    else []

/-- The fields of the HOST register at block offset `o`; `b` numbers the unit of a block that exists several times, `i` the instance a selector register names. -/
def fieldsOfHOST (_b _i o : Nat) : List Fd :=
  match o with
  | 0x0 => [F.HOST_STAT_CHAN_OPEN, F.HOST_STAT_PCIE_UP, F.HOST_STAT_PCIE_WIDTH, F.HOST_STAT_PCIE_SPEED, F.HOST_STAT_MSIX_EN]
  | 0x4 => [F.HOST_CFG_EVT_REPEAT, F.HOST_CFG_DUMMY]
  | 0x8 => [F.HOST_SUMGEN_LO_GEN]
  | 0xC => [F.HOST_SUMGEN_HI_GEN]
  | 0x10 => [F.HOST_CC_IRQ_BELL]
  | _ =>
    if 0x400 ≤ o && o < 0x1C00 && (o - 0x400) % 0x400 == 0 then [F.SLOTn_CTRL_EN ((o - 0x400) / 0x400), F.SLOTn_CTRL_KICK ((o - 0x400) / 0x400), F.SLOTn_CTRL_PORTS ((o - 0x400) / 0x400)]
    else if 0x404 ≤ o && o < 0x1C04 && (o - 0x404) % 0x400 == 0 then [F.SLOTn_STAT_SYNCED ((o - 0x404) / 0x400), F.SLOTn_STAT_LASTPORT ((o - 0x404) / 0x400), F.SLOTn_STAT_RESETS ((o - 0x404) / 0x400)]
    else if 0x408 ≤ o && o < 0x1C08 && (o - 0x408) % 0x400 == 0 then [F.SLOTn_EVT_EVT ((o - 0x408) / 0x400)]
    else if 0x40C ≤ o && o < 0x1C0C && (o - 0x40C) % 0x400 == 0 then [F.SLOTn_EVT_EN_EN ((o - 0x40C) / 0x400)]
    else if 0x410 ≤ o && o < 0x1C10 && (o - 0x410) % 0x400 == 0 then [F.SLOTn_RXNEXT_SEQ ((o - 0x410) / 0x400)]
    else if 0x414 ≤ o && o < 0x1C14 && (o - 0x414) % 0x400 == 0 then [F.SLOTn_TXSEQ_SEQ ((o - 0x414) / 0x400)]
    else if 0x418 ≤ o && o < 0x1C18 && (o - 0x418) % 0x400 == 0 then [F.SLOTn_CNT0_AUTHFAIL ((o - 0x418) / 0x400), F.SLOTn_CNT0_REPLAY ((o - 0x418) / 0x400)]
    else if 0x41C ≤ o && o < 0x1C1C && (o - 0x41C) % 0x400 == 0 then [F.SLOTn_CNT1_VIOLS ((o - 0x41C) / 0x400), F.SLOTn_CNT1_TUNES ((o - 0x41C) / 0x400)]
    else if 0x420 ≤ o && o < 0x1C20 && (o - 0x420) % 0x400 == 0 then [F.SLOTn_BELL_OUT ((o - 0x420) / 0x400), F.SLOTn_BELL_IN ((o - 0x420) / 0x400)]
    else if 0x424 ≤ o && o < 0x1C24 && (o - 0x424) % 0x400 == 0 then [F.SLOTn_TUNE_ACK ((o - 0x424) / 0x400), F.SLOTn_TUNE_GO ((o - 0x424) / 0x400)]
    else if 0x428 ≤ o && o < 0x1C28 && (o - 0x428) % 0x400 == 0 then [F.SLOTn_TUNE_STAT_BUSY ((o - 0x428) / 0x400), F.SLOTn_TUNE_STAT_VALID ((o - 0x428) / 0x400), F.SLOTn_TUNE_STAT_RESULT ((o - 0x428) / 0x400)]
    else if 0x600 ≤ o && o < 0x1E00 && (o - 0x600) % 0x400 % 0x4 == 0 && (o - 0x600) % 0x400 < 0x40 then [F.SLOTn_INBOX_DATA ((o - 0x600) / 0x400) ((o - 0x600) % 0x400 / 0x4)]
    else if 0x700 ≤ o && o < 0x1F00 && (o - 0x700) % 0x400 % 0x4 == 0 && (o - 0x700) % 0x400 < 0x40 then [F.SLOTn_OUTBOX_DATA ((o - 0x700) / 0x400) ((o - 0x700) % 0x400 / 0x4)]
    else if 0x2000 ≤ o && o < 0x8000 && (o - 0x2000) % 0x1000 % 0x4 == 0 && (o - 0x2000) % 0x1000 < 0x1000 then [F.SLOTn_SUMMARY ((o - 0x2000) / 0x1000) ((o - 0x2000) % 0x1000 / 0x4)]
    else []

/-- The fields of the MMU register at block offset `o`; `b` numbers the unit of a block that exists several times, `i` the instance a selector register names. -/
def fieldsOfMMU (_b i o : Nat) : List Fd :=
  match o with
  | 0x0 => [F.MMU_STAT_BUSY, F.MMU_STAT_CFGWR]
  | 0x4 => [F.MMU_WINSEL_WIN]
  | 0x8 => [F.MMU_WIN_CFG_EN i, F.MMU_WIN_CFG_PAGES_M1 i]
  | 0xC => [F.MMU_WIN_BASE_LO_BASE_LO i]
  | 0x10 => [F.MMU_WIN_BASE_HI_BASE_HI i]
  | 0x14 => [F.MMU_HPWIN_EN, F.MMU_HPWIN_WIN]
  | 0x18 => [F.MMU_FLUSH_GO, F.MMU_FLUSH_ALL, F.MMU_FLUSH_WIN]
  | 0x20 => [F.MMU_XFAULT_INFO_VALID, F.MMU_XFAULT_INFO_OVF, F.MMU_XFAULT_INFO_WINDOW, F.MMU_XFAULT_INFO_CAUSE, F.MMU_XFAULT_INFO_WRITE, F.MMU_XFAULT_INFO_MASTER]
  | 0x24 => [F.MMU_XFAULT_ADDR_ADDR]
  | 0x30 => [F.MMU_RVIOL_ADDR_LO_ADDR_LO]
  | 0x34 => [F.MMU_RVIOL_ADDR_HI_ADDR_HI]
  | 0x38 => [F.MMU_RVIOL_INFO_VALID, F.MMU_RVIOL_INFO_OVF, F.MMU_RVIOL_INFO_TARGET, F.MMU_RVIOL_INFO_CAUSE, F.MMU_RVIOL_INFO_WRITE, F.MMU_RVIOL_INFO_MASTER]
  | _ =>
    if 0x400 ≤ o && o < 0xB00 && (o - 0x400) % 0x100 % 0x10 == 0 && (o - 0x400) % 0x100 < 0x100 then [F.RGN_BASE ((o - 0x400) / 0x100) ((o - 0x400) % 0x100 / 0x10), F.RGN_EN ((o - 0x400) / 0x100) ((o - 0x400) % 0x100 / 0x10)]
    else if 0x404 ≤ o && o < 0xB04 && (o - 0x404) % 0x100 % 0x10 == 0 && (o - 0x404) % 0x100 < 0x100 then [F.RGN_LIMIT ((o - 0x404) / 0x100) ((o - 0x404) % 0x100 / 0x10)]
    else if 0x408 ≤ o && o < 0xB08 && (o - 0x408) % 0x100 % 0x10 == 0 && (o - 0x408) % 0x100 < 0x100 then [F.RGN_RMASK ((o - 0x408) / 0x100) ((o - 0x408) % 0x100 / 0x10)]
    else if 0x40C ≤ o && o < 0xB0C && (o - 0x40C) % 0x100 % 0x10 == 0 && (o - 0x40C) % 0x100 < 0x100 then [F.RGN_WMASK ((o - 0x40C) / 0x100) ((o - 0x40C) % 0x100 / 0x10)]
    else []

/-- The fields of the PMU register at block offset `o`; `b` numbers the unit of a block that exists several times, `i` the instance a selector register names. -/
def fieldsOfPMU (_b i o : Nat) : List Fd :=
  match o with
  | 0x0 => [F.PMU_STAT_PSTATE, F.PMU_STAT_BUSY, F.PMU_STAT_RESULT, F.PMU_STAT_SWMODE]
  | 0x4 => [F.PMU_PSTATE_REQ_KEY, F.PMU_PSTATE_REQ_TARGET, F.PMU_PSTATE_REQ_GO]
  | 0x8 => [F.PMU_WAKE_EN_WAKE_PORTS, F.PMU_WAKE_EN_EN]
  | 0xC => [F.PMU_WAKE_VALID, F.PMU_WAKE_SRC]
  | 0x10 => [F.PMU_AON_SEC_SEC]
  | 0x14 => [F.PMU_AON_FRAC_FRAC]
  | 0x18 => [F.PMU_ALARM_SEC]
  | 0x20 => [F.PMU_REG_CTRL_CLKSPREAD, F.PMU_REG_CTRL_SWMODE]
  | 0x24 => [F.PMU_AVS_EN, F.PMU_AVS_VMIN, F.PMU_AVS_VMAX]
  | 0x28 => [F.PMU_AVS_STAT_VNOW, F.PMU_AVS_STAT_EMERG]
  | 0x2C => [F.PMU_PHASE_SHED, F.PMU_PHASE_EN]
  | 0x30 => [F.PMU_ILIM_ILIM2, F.PMU_ILIM_ILIM1, F.PMU_ILIM_ILIM0]
  | 0x34 => [F.PMU_VIN_CFG_FALL, F.PMU_VIN_CFG_RISE]
  | 0x38 => [F.PMU_DIV_CFG_VIN_DIV, F.PMU_DIV_CFG_VHOLD_DIV]
  | 0x80 => [F.PMU_RAILOK_OK]
  | 0x400 => [F.PMU_PADSEL_INDEX]
  | 0x404 => [F.PMU_PAD_CFG_VALID i, F.PMU_PAD_CFG_FILT i, F.PMU_PAD_CFG_PULL i, F.PMU_PAD_CFG_SLEW i, F.PMU_PAD_CFG_DRIVE i]
  | _ =>
    if 0x40 ≤ o && o < 0x80 && (o - 0x40) % 0x4 == 0 then [F.PMU_RAIL_OV ((o - 0x40) / 0x4), F.PMU_RAIL_UV ((o - 0x40) / 0x4), F.PMU_RAIL_OK ((o - 0x40) / 0x4), F.PMU_RAIL_TARGET ((o - 0x40) / 0x4)]
    else []

/-- The fields of the SURV register at block offset `o`; `b` numbers the unit of a block that exists several times, `i` the instance a selector register names. -/
def fieldsOfSURV (_b i o : Nat) : List Fd :=
  match o with
  | 0x0 => [F.SURV_CTRL_PILOT_EN, F.SURV_CTRL_MEAS_GO, F.SURV_CTRL_MEAS_MS]
  | 0x4 => [F.SURV_STAT_ADC_OK, F.SURV_STAT_BUSY]
  | 0x8 => [F.SURV_THERM_CRIT, F.SURV_THERM_WARN]
  | 0x50 => [F.SURV_VIN_VHOLD, F.SURV_VIN_VIN]
  | 0x64 => [F.SURV_TMAX_SENSOR, F.SURV_TMAX_TEMP]
  | 0x80 => [F.SURV_LINESEL_LINE]
  | 0x84 => [F.SURV_LINE_CFG_EN i, F.SURV_LINE_CFG_DCFRZ i, F.SURV_LINE_CFG_ICH i, F.SURV_LINE_CFG_VCH i, F.SURV_LINE_CFG_OUTPUT i]
  | 0x88 => [F.SURV_LINE_STEP_STEP i]
  | 0x8C => [F.SURV_LINE_LEVEL_LEVEL i]
  | 0x90 => [F.SURV_LINE_VSCALE_MV i]
  | 0x94 => [F.SURV_LINE_ISCALE_MA i]
  | 0x98 => [F.SURV_LINE_BASE_ZMAG i]
  | 0x9C => [F.SURV_LINE_BPH_ZPH i]
  | 0xA0 => [F.SURV_LINE_TOL_TOL_MAG i, F.SURV_LINE_TOL_TOL_PH i]
  | 0xA4 => [F.SURV_LINE_ZMAG_ZMAG i]
  | 0xA8 => [F.SURV_LINE_ZSTAT_VALID i, F.SURV_LINE_ZSTAT_OUT i, F.SURV_LINE_ZSTAT_CFGERR i, F.SURV_LINE_ZSTAT_ZPH i]
  | 0x140 => [F.SURV_SAP_NSPM_NSPM]
  | _ =>
    if 0x10 ≤ o && o < 0x50 && (o - 0x10) % 0x4 == 0 then [F.SURV_RAIL_MV ((o - 0x10) / 0x4)]
    else if 0x54 ≤ o && o < 0x64 && (o - 0x54) % 0x4 == 0 then [F.SURV_TEMP_T1 ((o - 0x54) / 0x4), F.SURV_TEMP_T0 ((o - 0x54) / 0x4)]
    else if 0xC0 ≤ o && o < 0xD4 && (o - 0xC0) % 0x4 == 0 then [F.SURV_NET_LEN_SRC ((o - 0xC0) / 0x4), F.SURV_NET_LEN_LEN ((o - 0xC0) / 0x4)]
    else if 0xE0 ≤ o && o < 0xF4 && (o - 0xE0) % 0x4 == 0 then [F.SURV_NET_PDLY_PDLY ((o - 0xE0) / 0x4)]
    else if 0x100 ≤ o && o < 0x140 && (o - 0x100) % 0x4 == 0 then [F.SURV_SAP_LEN_VALID ((o - 0x100) / 0x4), F.SURV_SAP_LEN_LEN ((o - 0x100) / 0x4)]
    else []

/-- Number of register blocks (R24). -/
def numBlocks : Nat := 25

/-- The fields of the register at address `a`; the instance a selector register names stands above bit 32. -/
def fieldsAt (a : Nat) : List Fd :=
  let p := a % 0x100000000
  let i := a / 0x100000000
  if 0x20000000 ≤ p && p < 0x20190000 then
    let blk := (p - 0x20000000) / 0x10000
    let o := p % 0x10000
    if 0xF000 ≤ o then fieldsOfACC blk i o
    else match blk with
      | 0 => fieldsOfSYS 0 i o | 1 => fieldsOfPMU 0 i o | 2 => fieldsOfFCU 0 i o | 3 => fieldsOfPP 0 i o
      | 4 => fieldsOfTIME 0 i o | 5 => fieldsOfDISP 0 i o | 6 => fieldsOfMTX 0 i o | 7 => fieldsOfDLY 0 i o
      | 8 => fieldsOfARB 0 i o | 9 => fieldsOfRVC 0 i o | 10 => fieldsOfSTRM 0 i o
      | 11 => fieldsOfNET 0 i o | 12 => fieldsOfNET 1 i o | 13 => fieldsOfNET 2 i o | 14 => fieldsOfNET 3 i o
      | 15 => fieldsOfNET 4 i o | 16 => fieldsOfTWIN 0 i o | 17 => fieldsOfSAP 0 i o | 18 => fieldsOfBSI 0 i o
      | 19 => fieldsOfSURV 0 i o | 20 => fieldsOfLIG 0 i o | 21 => fieldsOfHOST 0 i o | 22 => fieldsOfMMU 0 i o
      | 23 => fieldsOfASRC 0 i o | 24 => fieldsOfSEC 0 i o
      | _ => []
  else if 0x40000000 ≤ p && p < 0x42200000 then
    let c := (p - 0x40000000) / 0x40000
    let o := (p - 0x40000000) % 0x40000
    if 0x30000 ≤ o && o < 0x30800 then fieldsOfRC c i (o - 0x30000) else []
  else []

end Sys2Proof.Machine
end

