-- ==== Sys2Proof/Machine/State.lean ====
section
/-!
DEFINITION. The state of the node as plain data: time, the register fields, the memories, and for every unit the
state its chapter gives it beyond its registers, the queue of waiting commands, and the machine after reset.
-/
namespace Sys2Proof.Machine

/-- A state in which the spec gives a command no effect at all; the machine stops. -/
inductive Fault where
  /-- Raised by no command of this model: every row of the table has an effect. Safe. -/
  | noEffectGiven (rule : String)
  deriving DecidableEq, Repr

/-- A command the model gives no meaning. -/
inductive Refusal where
  /-- The row has no meaning in this model yet: raised by an arm of `exec` that is refused by name. Safe. -/
  | notModelled (mnemonic : String)
  deriving DecidableEq, Repr

/-! ## Time (R242–R255) -/

/-- An entry of a capture FIFO: integer ns and fraction (R255). -/
structure Stamp where
  ns   : Nat
  frac : Nat
  deriving DecidableEq, Repr

/-- An entry of a transmit time-stamp queue (R251). -/
structure TxStamp where
  ts  : Nat
  tag : Nat
  /-- `State.now` at the stamped instant, which can lie a little ahead of the entry's arrival (R248). -/
  sfd : Nat
  deriving DecidableEq, Repr

/-- The hidden state of one timed trigger: the pending instant (device time in ns, or a breath index), and the breath last
compared with it, plus one (R252). -/
structure TrigS where
  next   : Nat := 0
  judged : Nat := 0
  deriving DecidableEq, Repr

/-- A TTRIG ball: its level and the device time at which its pulse ends (R254). -/
structure TtrigS where
  high  : Bool := false
  until_ : Option Nat := none
  deriving DecidableEq, Repr

structure TimeS where
  /-- The CLOCK domain is powered, so the counter counts (R242). -/
  on    : Bool := false
  /-- `State.now` when the raw counter was last started at 0 (R242). -/
  start : Nat := 0
  /-- Correction base C, in 2^-40 of 1/256 ns (R243). -/
  c     : Int := 0
  /-- Rate epoch E, raw 1/256 ns (R243). -/
  e     : Nat := 0
  /-- Corrections that were in force until a recent instant, newest first: the instant, C, E and the rate (R248). -/
  past  : List (Nat × Int × Nat × Int) := []
  trig  : SMap TrigS := []
  ttrig : SMap TtrigS := []
  caps  : SMap (List Stamp) := []
  txts  : SMap (List TxStamp) := []
  deriving DecidableEq, Repr

/-! ## Faults (R311–R326) -/

/-- A fault record (R318). -/
structure FaultRec where
  src    : Nat
  index  : Nat
  wire   : Bool
  forced : Bool
  conseq : Bool
  cls    : Nat
  time   : Nat
  breath : Nat
  deriving DecidableEq, Repr

/-- A fence in force: its source, its group, the instance (0xFFFF for the whole group) (R315, R316). -/
structure FenceRec where
  src   : Nat
  group : Nat
  index : Nat
  deriving DecidableEq, Repr

structure FcuS where
  /-- Per source: instant of its last record, plus one; 0 for none (R318). -/
  lastRec   : SMap Nat := []
  /-- Per source: instant before which its line is ignored after a broken wire (R312). -/
  wireUntil : SMap Nat := []
  /-- Per group: instant before which its lines are ignored after a reset, power-up or fence (R313). -/
  groupUntil : SMap Nat := []
  /-- Per group: instant its shadow opened (R319). -/
  shOpen    : SMap Nat := []
  /-- Per group: instant its shadow ends; 0 for no shadow (R319). -/
  shEnd     : SMap Nat := []
  /-- Per configuration word: the bits in which the second copy differs from the first (R324). -/
  copyDiff  : SMap Nat := []
  /-- Per configuration word: the parity of a copy fails (R324). -/
  parityBad : SMap Bool := []
  recs      : List FaultRec := []
  fences    : List FenceRec := []
  /-- Instant Q of the QUIET in force (R320). -/
  quietAt   : Option Nat := none
  /-- Instant H and source of the HALT in force (R322). -/
  haltAt    : Option Nat := none
  haltSrc   : Nat := 0
  /-- Audio transmission has stopped under QUIET or HALT (R320, R322). -/
  audioStopped : Bool := false
  /-- Under HALT, the balls of R322 hold. -/
  pinsHold  : Bool := false
  /-- An automatic warm restart is due (R321). -/
  autoDue   : Bool := false
  /-- Instants of automatic restarts in PMU_AON_SEC, kept in keep RAM (R321). -/
  restarts  : List Nat := []
  /-- The domain clocks have stopped after a HALT (R322). -/
  stopped   : Bool := false
  deriving DecidableEq, Repr

/-! ## Ligature journal (R339–R352) -/

/-- A journal record: type, prefix and the rest of the body; its SEQ once it is pending (R340). -/
structure JRec where
  type    : Nat
  opsec   : Nat
  origseq : Nat
  body    : List Byte
  seq     : Nat := 0
  deriving DecidableEq, Repr

structure LigS where
  /-- Records in the keep RAM buffer that are not yet pending, oldest first (R348). -/
  queued  : List JRec := []
  /-- Pending records in SEQ order (R348). -/
  pend    : List JRec := []
  /-- Device records waiting at their producers for room (R348). -/
  waiting : List JRec := []
  /-- FENCE and BOOT records waiting in the housekeeper state area, at most 16 (R348). -/
  hkWait  : List JRec := []
  /-- Live records, committed (R341). -/
  live    : List JRec := []
  /-- Sequence number of the next record admitted (R340). -/
  nextSeq : Nat := 0
  /-- Sector and offset of the head in the ring (R342). -/
  headSec : Nat := 0
  headOfs : Nat := 16
  /-- Sectors that a program or an erase failed in, or that are worn out (R347). -/
  retired : List Nat := []
  /-- Per sector: erase count of its header (R339). -/
  erases  : SMap Nat := []
  /-- Per sector: SEQ of its newest record, plus one (R345). -/
  newest  : SMap Nat := []
  /-- Sectors erased and headed with no record yet (R345). -/
  ready   : List Nat := []
  /-- SEQ of the BEGIN of the latest complete checkpoint, plus one (R345). -/
  ckBegin : Nat := 0
  /-- Sectors filled since the last checkpoint END (R344). -/
  filled  : Nat := 0
  /-- Eight HOURS bins in seconds (R341). -/
  hours   : List Nat := [0, 0, 0, 0, 0, 0, 0, 0]
  /-- Operating seconds at the last HOURS record and at the last daily age check (R341, R346). -/
  lastHours : Nat := 0
  lastAge : Nat := 0
  /-- Instant up to which the HOURS bins have counted (R341). -/
  hoursAt : Nat := 0
  /-- A flush is running (R350). -/
  flush   : Bool := false
  /-- A read into the window is running (R352). -/
  rdBusy  : Bool := false
  /-- A software append waits for room (R352). -/
  apBusy  : Bool := false
  deriving DecidableEq, Repr

/-! ## Dispatcher (R33–R61) -/

/-- The kind of a task's trigger (R40). -/
inductive TKind where
  | time | arrival | completion | bus
  deriving DecidableEq, Repr

/-- The dispatcher's copy of one valid task-list entry (R37, R38). -/
structure TaskE where
  kind     : TKind
  entry    : Nat
  arg      : Nat
  deadline : Nat
  expect   : Nat
  outBase  : Nat
  outCount : Nat
  budget   : Nat
  deriving DecidableEq, Repr

/-- How a task instance ended. -/
inductive IEnd where
  | completed | untriggered | aborted | fenced
  deriving DecidableEq, Repr

/-- One armed task instance: logical core, task, breath (unwrapped), the instants (on `State.now`) at which it fired
and started, whether it has been declared a LATE miss, and how it ended (R40–R46, R59). -/
structure Inst where
  lcore   : Nat
  task    : Nat
  breath  : Nat
  fired   : Option Nat := none
  started : Option Nat := none
  late    : Bool := false
  ended   : Option IEnd := none
  deriving DecidableEq, Repr

/-- Sleep state of a logical core (R43). -/
inductive Sleep where
  | gated | waking (awakeAt : Nat) | awake
  deriving DecidableEq, Repr

/-- Ramp of a task's output taps after 8 misses, and back in (R47). -/
inductive TaskRamp where
  | none | down (k : Nat) | zero | up (k : Nat)
  deriving DecidableEq, Repr

/-- Phase of a hand-over (R54). -/
inductive HPhase where
  | bulk | catchup | switchWait
  deriving DecidableEq, Repr

/-- A rotation step in progress (R55): it moves `lcore` between `p` and `q`; `back` in the hand-back. -/
structure RotS where
  lcore  : Nat
  p      : Nat
  q      : Nat
  back   : Bool := false
  hand   : Option HPhase := none
  /-- Dirty 256-byte granules of the holder not yet copied again (R54). -/
  dirty  : List Nat := []
  /-- 256-byte pieces that channel 2 has copied (R54, R137). -/
  copied : Nat := 0
  /-- Device time at which the step started, and with it the power-up of the spare (R383). -/
  upAt   : Nat := 0
  /-- Device time at which the self-test began (R55). -/
  bistAt : Option Nat := none
  /-- Breath at which the step started. -/
  startB : Nat := 0
  /-- The step serves a request of R58. -/
  requested : Bool := false
  /-- The step ends as a swap: the spare keeps the logical core (R57). -/
  swap   : Bool := false
  deriving DecidableEq, Repr

/-- The timeline of a fenced logical core (R59). -/
structure FenceTl where
  f       : Nat
  p       : Nat
  spare   : Option Nat := none
  /-- Breath in which the taps began to ramp to zero. -/
  ramp    : Option Nat := none
  /-- Breath at which L restarts, once known. -/
  restart : Option Nat := none
  deriving DecidableEq, Repr

/-- A word a mailbox record writes to a core: logical core, apply breath, Y memory or X, word address, value, mailbox
(R116). -/
structure HeldWord where
  lcore : Nat
  b     : Nat
  y     : Bool
  word  : Nat
  value : Nat
  mbox  : Nat
  deriving DecidableEq, Repr

structure DispS where
  /-- The breath in progress, unwrapped (R12). -/
  n        : Nat := 0
  /-- A breath has been started since the anchor was set, and ever. -/
  started  : Bool := false
  ran      : Bool := false
  /-- The breath at which the anchor was set, unwrapped, and what unwrapped numbers exceed its count from the anchor by
  (R34): every anchor moves on to numbers not used before. -/
  first    : Nat := 0
  base     : Nat := 0
  /-- RUN = 0 was written while a revoice commit was started (R33). -/
  stopHeld : Bool := false
  /-- The dispatcher's copies of the task lists, at 128 × logical core + task (R37). -/
  tasks    : SMap (Option TaskE) := []
  insts    : List Inst := []
  /-- Consecutive misses, at 128 × logical core + task (R47). -/
  misses   : SMap Nat := []
  tramp    : SMap TaskRamp := []
  sleep    : SMap Sleep := []
  /-- Instant at which the core was last gated; wakes and ns gated in the breath in progress (R61). -/
  gatedAt  : SMap Nat := []
  wakes    : SMap Nat := []
  gatedNs  : SMap Nat := []
  /-- Instant at which the logical core last completed an instance (R42). -/
  freeAt   : SMap Nat := []
  /-- Reed cycles executed in the breath in progress (R48). -/
  cycles   : SMap Nat := []
  rot      : Option RotS := none
  /-- Next logical core of the rotation, and the breath at which the next step is due (R53, R55). -/
  rotNext  : Nat := 0
  rotDue   : Nat := 0
  /-- A requested self-test of a core that holds a logical core, waiting to run as a step (R58). -/
  bistReq  : Option Nat := none
  /-- First breath in which the self-test of a spare may begin (R58). -/
  bistB    : Nat := 0
  /-- A self-test of an idle spare: the core and, once it runs, the device time at which it began (R58). -/
  bistSpare : Option (Nat × Option Nat) := none
  isolated : List Nat := []
  /-- Physical cores power-gated in QUIET (R18). -/
  pgated   : List Nat := []
  fenceTl  : SMap (Option FenceTl) := []
  heldWords : List HeldWord := []
  /-- Arrival events posted, at 65,536 × breath + source key: 1 for a substitute, else the arrival instant in device
  time, plus two (R40, R51). -/
  arrivals : SMap Nat := []
  /-- Device times at which the arrival events were posted, plus one, at 65,536 × breath + source key (R44). -/
  posted   : SMap Nat := []
  /-- Early arrivals, at 65,536 × breath + source key (R44). -/
  early    : SMap Bool := []
  /-- Breath of the latest commits at breath start + 100 ns, plus one (R97). -/
  defaultB : Nat := 0
  /-- Breaths counted in DISP_EVT_COUNT.EXC (R61). -/
  excB     : List Nat := []
  /-- First breath in which a rotation step may start after the step before has ended (R55). -/
  rotFree  : Nat := 0
  deriving DecidableEq, Repr

/-! ## Taps, matrix, converters (R96–R123) -/

/-- One tap: committed value, the values of the two commits before, breath of the latest commit plus one (R97). -/
structure TapS where
  cur  : Int := 0
  prev : Int := 0
  prev2 : Int := 0
  at_  : Nat := 0
  deriving DecidableEq, Repr

/-- PHASE of a gain state (R108). -/
inductive GPhase where
  | idle | wait | ramp
  deriving DecidableEq, Repr

/-- A target change waiting for its bus to reach breath `b`: target, RAMP code, length, zero-crossing timeout, and
whether the crosspoint retires (R104, R109). -/
structure GChg where
  b      : Nat
  target : Int
  mode   : Nat
  len    : Nat
  zct    : Nat
  retire : Bool
  deriving DecidableEq, Repr

/-- A gain state of a pair of source and bus: the fields of R108, the target, the zero-crossing timeout latched when
the change took effect, and changes not yet reached (R109). -/
structure GainS where
  cur    : Int := 0
  start  : Int := 0
  phase  : GPhase := .idle
  retire : Bool := false
  mode   : Nat := 0
  count  : Nat := 0
  len    : Nat := 0
  target : Int := 0
  zct    : Nat := 0
  next   : List GChg := []
  deriving DecidableEq, Repr

/-- A ramp of a tap by R107: start level, position, length, and whether it leads to zero. -/
structure RampS where
  a    : Int
  k    : Nat
  n    : Nat
  zero : Bool
  deriving DecidableEq, Repr

/-- The formatted words of an output with their breaths, newest first, at most 24 (R112, R214). -/
structure OutW where
  words : List (Nat × Int) := []
  deriving DecidableEq, Repr

structure MtxS where
  taps    : SMap TapS := []
  /-- Gain states of the active bank, at SRC × 1,024 + BUS (R108). -/
  gain    : SMap GainS := []
  /-- Retiring crosspoints: their pair and gain state (R104). -/
  retiring : List (Nat × GainS) := []
  /-- Breath of the latest completion of each bus, plus one (R100). -/
  busDone : SMap Nat := []
  /-- A swap: validated, WHEN, breath B (R105). -/
  swapOk  : Bool := false
  swapWhen : Bool := false
  swapB   : Nat := 0
  swapAt  : Nat := 0
  swapped : Bool := false
  /-- Apply breath of each posted mailbox and its COUNT (R115). -/
  mboxB   : SMap Nat := []
  mboxN   : SMap Nat := []
  outw    : SMap OutW := []
  /-- Ramps of output words or taps under R107, by tap. -/
  tapRamp : SMap (Option RampS) := []
  deriving DecidableEq, Repr

/-- Configuration of a converter channel: direction, MODE, foreign end, tap and FIXED ratio, as the registers name them (R123). -/
structure AsrcCfg where
  dir    : Nat
  mode   : Nat
  fkind  : Nat
  findex : Nat
  tap    : Nat
  fixed  : Nat
  deriving DecidableEq, Repr

/-- One converter channel (R117–R120). -/
structure AsrcCh where
  /-- The configuration in force, and whether the channel runs under it or only fades (R120, R123). -/
  live     : Option AsrcCfg := none
  on       : Bool := false
  /-- The phase at the start of the breath, in foreign samples with 40 fractional bits (R119). -/
  phase    : Nat := 0
  /-- Samples by number, ascending: IN, foreign samples, of an AES67 channel by media count; OUT, breath-rate samples by breath
  (R119, R220). -/
  smp      : List (Nat × Int) := []
  /-- OUT: number of the next foreign sample (R119). -/
  sent     : Nat := 0
  /-- The ratio since `stableAt` has stayed within 10 ppm of this one (R118). -/
  refRatio : Nat := 0
  stableAt : Nat := 0
  /-- Breaths since the channel stopped sounding, plus one; 0 while it has not (R120). -/
  lostFor  : Nat := 0
  /-- Position of the ramp-in; 32 once it is over (R120). -/
  rampIn   : Nat := 32
  /-- Last value given, where it is repeated and ramped from (R120). -/
  last     : Int := 0
  /-- Ratio words to apply: breath, ratio, phase (R302). -/
  words    : List (Nat × Nat × Nat) := []
  /-- A configuration change takes effect at the next breath start (R123). -/
  cfgPend  : Bool := false
  deriving DecidableEq, Repr

structure AsrcS where
  ch : SMap AsrcCh := []
  deriving DecidableEq, Repr

/-! ## Reed cores (R62–R95) -/

/-- A register write in flight: place, cycle at whose end it lands, value, the tap whose committed value it takes
(TRD), and whether the fetch stage sees it at once (LOOP, LOOPR) (R79–R81). -/
structure PW where
  loc : Nat
  at_ : Nat
  val : Int := 0
  tap : Option Nat := none
  fwd : Bool := false
  deriving DecidableEq, Repr

/-- Which instruction opened the delay slots (R82). -/
inductive SlotKind where
  | branch | tend | rti
  deriving DecidableEq, Repr

/-- Delay slots still to be fetched and the target after them, if the branch is taken (R82). -/
structure SlotS where
  left : Nat
  kind : SlotKind
  tgt  : Option Nat
  deriving DecidableEq, Repr

/-- An interrupt cause waiting to be taken (R85–R88). -/
structure PendI where
  cause    : Nat
  code     : Nat := 0
  /-- The saved index; absent where it is the next fetch address that results. -/
  ipc      : Option Nat
  dslot    : Bool := false
  /-- Raised in a slot of RTI with IE = 1: taken after the return (R88). -/
  afterRti : Bool := false
  deriving DecidableEq, Repr

/-- The instance a core runs (R42, R66). -/
structure InstRef where
  lcore  : Nat
  task   : Nat
  breath : Nat
  entry  : Nat
  outBase  : Nat
  outCount : Nat
  deriving DecidableEq, Repr

/-- One physical core: fetch index and cycle since the start of the instance, landed registers (by place number),
writes in flight, delay slots, drains, interrupts, halt, the TWR queue (R65–R92). -/
structure CoreS where
  pc     : Nat := 0
  cyc    : Nat := 0
  base   : SMap Int := []
  fly    : List PW := []
  slot   : Option SlotS := none
  /-- TEND's second slot has been fetched: the instance drains (R90). -/
  ending : Bool := false
  /-- RTI's second slot has been fetched: the core drains (R88). -/
  returning : Bool := false
  pend   : Option PendI := none
  /-- A DEBUG request waits (R85). -/
  dbgReq : Bool := false
  /-- It arrived in a delay slot of a branch (R87). -/
  dbgSlot : Bool := false
  halted : Bool := false
  inst   : Option InstRef := none
  twr    : List (Nat × Int) := []
  /-- Cycles of the instance that the statistics of earlier breaths have counted (R48). -/
  counted : Nat := 0
  /-- The words that the instruction last fetched has stored, with what they held before, and whether it holds the Y write
  slot (R64). -/
  lastW  : List (Nat × Nat) := []
  lastY  : Bool := false
  /-- External writes that wait for the Y write slot: address and bytes (R64). -/
  yext   : List (Nat × List Byte) := []
  deriving DecidableEq, Repr

/-! ## Delay lines, DMA and arbiter (R124–R147) -/

/-- One delay line beyond its descriptor (R124–R133). -/
structure LineS where
  /-- Breath in which the history starts, once the line has recorded (R129). -/
  hist  : Option Nat := none
  /-- Delay in force, once the section has started; the descriptor's until then. -/
  delay : Option Nat := none
  /-- Crossfade: old delay and its first breath (R133). -/
  xf    : Option (Nat × Nat) := none
  /-- Last sample delivered (R131). -/
  last  : Int := 0
  /-- Breath of the last delivery, plus one. -/
  delivered : Nat := 0
  /-- Read blocks that have arrived: block number, for the old delay of a crossfade, and the 16 samples (R130). -/
  rd    : List (Nat × Bool × List Int) := []
  deriving DecidableEq, Repr

/-- A flush or a fetch that waits for, or uses, DMA channel 1 or 0 (R130). -/
structure DlyJob where
  line  : Nat
  flush : Bool
  block : Nat
  /-- A fetch for the old delay of a crossfade (R133). -/
  old   : Bool := false
  /-- The delay a fetch is for. -/
  delay : Nat := 0
  /-- The bytes of a write block, as recorded when it closed. -/
  data  : List Byte := []
  /-- The deadline has been missed and counted (R131). -/
  late  : Bool := false
  /-- A fetch has read the first of its two ring blocks (R137). -/
  half  : Bool := false
  /-- Words of 64 bits that it could not read (R135). -/
  ue    : List Nat := []
  deriving DecidableEq, Repr

/-- A queued delay change (R132). -/
structure Chg where
  line  : Nat
  xfade : Bool
  delay : Nat
  /-- The effective breath, as an index. -/
  b     : Nat
  deriving DecidableEq, Repr

structure DlyS where
  lines : SMap LineS := []
  chg   : List Chg := []
  jobs  : List DlyJob := []
  /-- Channel the engine moves now, and the one that ran last (R137). -/
  running : Option Nat := none
  lastRan : Nat := 15
  /-- Master that started each channel (R136). -/
  starter : SMap Nat := []
  /-- Bytes that channel 3 has moved in the load in progress (R136, R137). -/
  loaded : Nat := 0
  /-- Next 64-byte block of the patrol scrub, and the instant at which its pass began (R134). -/
  scrub : Nat := 0
  scrubAt : Nat := 0
  deriving DecidableEq, Repr

/-- A request that waits at a target: requester, declared length and the instant of its assertion (R142–R145). -/
structure ArbReq where
  q     : Nat
  len   : Nat
  since : Nat
  deriving DecidableEq, Repr

/-- One target of the arbiter: owner, the length it declared and the instant of its grant, waiting requests, round-robin pointers
by rank (R142). -/
structure ArbT where
  owner : Option Nat := none
  len   : Nat := 0
  at_   : Nat := 0
  wait  : List ArbReq := []
  rr    : SMap Nat := []
  deriving DecidableEq, Repr

/-! ## Translation windows (R360) -/

structure MmuS where
  /-- Cached translations, oldest first: window, page, entry (R360). -/
  cache : List (Nat × Nat × Nat) := []
  /-- Windows that the flush in progress covers. -/
  flush : List Nat := []
  /-- The exception that a control core's last access by virtual address raised in it (R361). -/
  trap  : Option SvTrap := none
  deriving DecidableEq, Repr

/-! ## Revoicing (R148–R166) -/

/-- What a voice image makes a section own (R148). -/
structure Claim where
  cores  : List Nat := []
  taps   : List Nat := []
  buses  : List Nat := []
  lines  : List Nat := []
  outs   : List Nat := []
  groups : List Nat := []
  deriving DecidableEq, Repr

/-- One section beyond its registers: lease, check in progress, pending buffer, commit, ramps (R148–R165). -/
structure SecS where
  /-- Instant at which the lease reaches 0 (R153). -/
  leaseEnd : Nat := 0
  /-- Sections whose commits have been accepted since the last VERIFY (R156). -/
  since    : List Nat := []
  /-- Logical cores of the image that the load in progress replaces (R159). -/
  old      : List Nat := []
  /-- What the section owns, and what the image of its started commit names. -/
  own      : Claim := {}
  next     : Claim := {}
  /-- Breaths R and S of the started commit, unwrapped; RETAIN and VACATE as latched (R156). -/
  rB       : Nat := 0
  sB       : Nat := 0
  retain   : Bool := false
  vacate   : Bool := false
  /-- Instant of the start of the load in progress (R157, R160). -/
  loadAt   : Nat := 0
  /-- Breath in progress when the load ended (R160). -/
  loadedB  : Nat := 0
  /-- Breath in which the ramp-in began (R158). -/
  rampIn   : Option Nat := none
  /-- Breath in which the ramp-out of a commit or a mode apply began (R158, R19). -/
  rampOut  : Option Nat := none
  /-- The section is to restart at the first breath started: with reset state (R19, R33). -/
  ready    : Bool := false
  /-- Digest of the live image (R164). -/
  digest   : List Byte := []
  deriving DecidableEq, Repr

structure RvcS where
  sec     : SMap SecS := []
  /-- The last ticket drawn (R151). -/
  ticket  : Nat := 0
  /-- Section owning each logical core, plus one; 0 for none (R39, R148). -/
  coreSec : SMap Nat := []
  /-- Section owning each reed-output tap, plus one (R148). -/
  tapSec  : SMap Nat := []
  deriving DecidableEq, Repr

/-- Steps of the boot, in order (R337, R338). -/
inductive BootPh where
  | none | xo | rails | scan | choose | directory | config | images | recovery
  deriving DecidableEq, Repr

/-! ## System control (R19, R29–R31, R414) -/

/-- Phase of a mode apply (R19): waiting for breath B, ramping out, clocks being reconfigured, DISP armed and waiting for
its anchor, ramping in. -/
inductive ApplyPh where
  | idle | wait | ramp | clocks | anchor | rampIn
  deriving DecidableEq, Repr

structure SysS where
  /-- TEST_MODE read high at the AON power-on reset: the device stays in STANDBY (R402). -/
  testMode  : Bool := false
  /-- Unit reset in progress: block index and the instant of its acceptance (R29, R30). -/
  urst      : Option (Nat × Nat) := none
  /-- Blocks held in unit reset by a fence (R315). -/
  held      : List Nat := []
  apply     : ApplyPh := .idle
  /-- Mode latched at acceptance of the apply (R20). -/
  applyMode : Nat := 0
  /-- Breath B of the apply, unwrapped (R19). -/
  applyB    : Nat := 0
  /-- Instant of the last phase change of the apply. -/
  applyAt   : Nat := 0
  /-- The breath rate before a mode change, until breath 0 of the new mode (R19, R200). -/
  oldFs     : Option Nat := none
  /-- RESET_N holds the device in warm restart (R414). -/
  pinHeld   : Bool := false
  /-- V3P3_AON is absent (R378). -/
  off       : Bool := false
  /-- The step of the boot that comes next (R337). -/
  boot      : BootPh := .none
  /-- The boot follows a warm restart: no XO check, no hold-up measurement (R338). -/
  warmBoot  : Bool := false
  /-- DRAM training is over, and DRAM is cleared (R337). -/
  dramReady : Bool := false
  /-- The hold-up measurement is still to come (R349). -/
  holdDue   : Bool := false
  /-- Breath 0 of the boot has not restarted its sections yet (R337). -/
  bootZero  : Bool := false
  /-- SAFE_N is asserted (R322). -/
  safeN     : Bool := true
  deriving DecidableEq, Repr

/-! ## Boot (R329–R338, R353) -/

/-- The manifest and slot of this boot: its copy plus one (0 for none), the slot, key that authenticated the slot, the refused slot and
generation of a rollback, the TRIALS its BOOT record counts; the Host Channel keys; checks waiting at the authentication
engine: address and kind; the order of the requests to it, sections and, as 16, those checks (R335, R336, R331, R353). -/
structure SecS1 where
  copy    : Nat := 0
  slot    : Nat := 0
  refused : Option (Nat × Nat) := none
  trials  : Nat := 0
  keys    : List (List Byte) := []
  auth    : List (Nat × Bool) := []
  jobs    : List Nat := []
  deriving DecidableEq, Repr

/-! ## Power (R378–R391) -/

structure PmuS where
  /-- Instant of the AON power-on reset (R398). -/
  aonAt   : Nat := 0
  /-- Origin P of the rail sequence (R385). -/
  origin  : Nat := 0
  /-- The sequence has stopped at a rail that did not come up (R385). -/
  seqStop : Bool := false
  /-- Rails started: rail and instant (R385). -/
  started : List (Nat × Nat) := []
  /-- Rails that their comparators have below 94 % of their target (R385). -/
  below   : List Nat := []
  /-- Target of the transition in progress, and the instant of its request (R379). -/
  target  : Option (Nat × Nat) := none
  /-- A wake that arrived during an entry to NAP or STANDBY: its bit of R381. -/
  woken   : Option Nat := none
  /-- PMU_AON_SEC has reached PMU_ALARM since that was written (R381). -/
  alarmed : Bool := false
  /-- The input has fallen: instant of the detection (R350). -/
  fallAt  : Option Nat := none
  deriving DecidableEq, Repr

/-! ## Bus (R356–R359) -/

/-- The last response the fabric gave: master, data of a read, error response, and whether it was a decode error
(R24, R359). -/
structure BusS where
  master : Nat := 0
  data   : Nat := 0
  err    : Bool := false
  decode : Bool := false
  deriving DecidableEq, Repr

/-! ## Network ports (R167–R195) -/

/-- A frame in a transmit queue: queue, bytes DA to payload without FCS, for a ring frame its ring, first descriptor and
descriptor count and its TAG if it requests a stamp, and the outputs and breaths it carries (R173, R188, R51). -/
structure TxFrame where
  q     : Nat
  bytes : List Byte
  ring  : Option (Nat × Nat × Nat) := none
  tag   : Option Nat := none
  outs  : List (Nat × Nat) := []
  deriving DecidableEq, Repr

/-- A received frame that waits at the Host Channel or the TWIN unit: port, bytes without FCS, ingress time-stamp and
end-of-frame instant in device time (R178, R248). -/
structure RxFrame where
  port  : Nat
  bytes : List Byte
  sfd   : Nat
  eof   : Nat
  deriving DecidableEq, Repr

/-- A frame of a transmit ring between its fetch and its write-back: ring, first descriptor, descriptors, whether they
are written back (R188). -/
structure TxOut where
  ring  : Nat
  first : Nat
  count : Nat
  done  : Bool
  deriving DecidableEq, Repr

/-- One port beyond its registers. -/
structure PortS where
  /-- Link settings as latched on leaving DISABLED: PHY KR, auto-negotiation (R167). -/
  kr     : Bool := false
  an     : Bool := false
  /-- Lane polarities latched with them: transmit and receive (R167). -/
  txPol  : Bool := false
  rxPol  : Bool := false
  /-- The Clause 73 abilities latched on leaving DISABLED (R169). -/
  adv    : Nat := 0
  /-- Instant of entry to LSTATE. -/
  since  : Nat := 0
  /-- Clause 73 waits for its break-link timer (R169). -/
  anWait : Bool := false
  /-- A SPEED_STEP step advertises only this speed, 0 for 25 and 1 for 10 Gb/s (R191). -/
  step   : Option Nat := none
  /-- No step comes before this instant. -/
  noStep : Nat := 0
  /-- Instant of module insertion, and of the last diagnostic poll (R171). -/
  insert : Nat := 0
  poll   : Nat := 0
  /-- The I2C command held, and whether its transfer runs or waits for an automatic read (R172). -/
  i2c    : Nat := 0
  i2cRun : Bool := false
  /-- Bits received and sent in each 100 ms, newest first: number of the 100 ms, bits (R191). -/
  load   : List (Nat × Nat × Nat) := []
  /-- Filter registers as they stood before recent writes, newest first: instant, address, word (R196). -/
  undo   : List (Nat × Nat × Nat) := []
  /-- The latest TAIL write of each receive ring: its instant, and TAIL before it (R187). -/
  tailAt : SMap (Nat × Nat) := []
  txq    : List TxFrame := []
  /-- Instant at which the frame on the line ends, with its inter-frame gap. -/
  lineEnd : Nat := 0
  /-- The transmitter has woken from low-power idle and sends from this instant on (R192). -/
  wakeAt : Nat := 0
  /-- Instant since which every queue has been empty. -/
  idle   : Nat := 0
  /-- Per transmit ring: next descriptor to fetch (R188). -/
  fetch  : SMap Nat := []
  out    : List TxOut := []
  /-- Ring frames that have left, with the instant at which each ended (R188). -/
  sent   : List (TxFrame × Nat) := []
  /-- Credit of the queue 6 shaper, in kb/s × 1/256 ns, and its instant (R218). -/
  credit : Int := 0
  creditAt : Nat := 0
  /-- Gates in force and the entry running (R215). -/
  gates  : Nat := 0xFF
  gateK  : Nat := 0
  deriving DecidableEq, Repr

structure NetS where
  port  : SMap PortS := []
  hostq : List RxFrame := []
  twinq : List RxFrame := []
  deriving DecidableEq, Repr

/-! ## Streams (R197–R221) -/

/-- One stream beyond its descriptor, status and counters. -/
structure StrmS where
  /-- The stream is live (R197); from which breath; EN as accepted takes effect at the next breath start (R198). -/
  live   : Bool := false
  from_  : Nat := 0
  pend   : Bool := false
  /-- Transmit: first breath that no frame covers any more (R198). Receive: EN = 0 is in effect. -/
  stopB  : Option Nat := none
  /-- Sequence recovery (R208). -/
  takeAny : Bool := true
  recov  : Nat := 0
  hist   : Nat := 0
  /-- Breath of the last frame passed, and of the last frame on path A and B (R209). -/
  passB  : Nat := 0
  lastA  : Nat := 0
  lastB  : Nat := 0
  /-- Held samples: breath, end-of-frame instant, values by channel (R210). -/
  held   : List (Nat × Nat × List Int) := []
  /-- Breath last written or substituted, plus one (R210, R211). -/
  doneB  : Nat := 0
  /-- Repeats so far, and the ramp-in position REPEAT came from; 0 for RUN (R212). -/
  repeats : Nat := 0
  fromK  : Nat := 0
  /-- Start levels of the ramp in progress, by channel (R212). -/
  level  : List Int := []
  /-- Transmit: first breath of the next frame to close (R214). AES67: next media count (R220, R221). -/
  next   : Nat := 0
  /-- AES67 receive: a packet has been seen, and its last samples by channel (R220). -/
  seen   : Bool := false
  last   : List Int := []
  deriving DecidableEq, Repr

structure StrmBlk where
  st  : SMap StrmS := []
  /-- The mr bit: toggled at each anchor set and absorbed step (R204). -/
  mr  : Bool := false
  /-- The pending gate list: port and breath index (R217). -/
  gcl : Option (Nat × Nat) := none
  deriving DecidableEq, Repr

/-! ## Serial ports and bitstream inputs (R259–R285) -/

/-- The tap sequence of one input slot (R212, R269): state code, ramp position and start level, repeats, the ramp
position REPEAT came from, and the breath last committed, plus one. -/
structure SeqS where
  st      : Nat := 1
  k       : Nat := 0
  a       : Int := 0
  repeats : Nat := 0
  fromK   : Nat := 0
  doneB   : Nat := 0
  deriving DecidableEq, Repr

/-- One serial port beyond its registers. -/
structure SapS where
  /-- Device time of the SAP_START firing that waits for the first frame (R265). -/
  req    : Option Nat := none
  /-- Number of the frame in progress (R265). -/
  frame  : Option Nat := none
  /-- OFS in 1/256 ns (R266). -/
  ofs    : Int := 0
  /-- The breath of frame f is f + map (R266). -/
  map    : Option Int := none
  /-- `State.now` and device time at the FS edge of the frame in progress, and whether its block stamp has been taken. -/
  fsAt   : Nat := 0
  stamp  : Nat := 0
  stamped : Bool := false
  /-- Slot masks in force, and masks on their way with the instant of their write (R273). -/
  rx     : Nat := 0
  tx     : Nat := 0
  rxNext : Option (Nat × Nat) := none
  txNext : Option (Nat × Nat) := none
  /-- Consecutive well-formed and malformed frames (R271). -/
  good   : Nat := 0
  bad    : Nat := 0
  slots  : SMap SeqS := []
  /-- Word each output slot carries, and the slots that had an underrun in this frame (R272). -/
  txw    : SMap Int := []
  under  : List Nat := []
  /-- Breath of the latest frame and frames of it before, for the dither of a foreign port (R263). -/
  jB     : Nat := 0
  jN     : Nat := 0
  /-- EN was written 0: the port returns to OFF at the end of the frame in progress (R264). -/
  closing : Bool := false
  /-- The clock has recovered: the next block stamp ends LOCLK (R270). -/
  back   : Bool := false
  /-- Breaths of malformed frames whose slots were discarded (R271). -/
  lone   : List Nat := []
  /-- Instant of the last cable measurement, plus one (R274). -/
  cableAt : Nat := 0
  /-- First tap of a port that a unit reset has turned off while its taps fade (R29). -/
  orphan : Option Nat := none
  deriving DecidableEq, Repr

/-- One bitstream channel beyond its registers. -/
structure BsiS where
  /-- Device time of the start: the channel begins at the first breath instant at or after it (R278). -/
  start  : Option Nat := none
  /-- CIC integrators, comb delays, and bits since the last CIC output (R278). -/
  integ  : List Int := []
  comb   : List Int := []
  bits   : Nat := 0
  /-- Inputs of the compensator and of the halfband, newest first, and inputs of the halfband so far. -/
  comp   : List Int := []
  half   : List Int := []
  halfN  : Nat := 0
  /-- Output samples produced, and the latest one (R278, R280). -/
  made   : Nat := 0
  out    : Int := 0
  rampK  : Nat := 0
  /-- Detectors (R281) and DC estimate with its 32 further fraction bits (R282). -/
  p      : Int := 0
  h      : Nat := 0
  ms     : Int := 0
  e      : Int := 0
  m      : Int := 0
  /-- After a unit reset: breaths of repeat left; then the tap ramps to zero from `out` by `rampK` (R29). -/
  orphan : Option Nat := none
  deriving DecidableEq, Repr

/-! ## Pitch Pipe (R224–R239) -/

/-- One reference: activity, the instant from which its conditions have held and the instant its frequency left the
window (each plus one, 0 for none), the instant it became valid, and the samples of the current second as pairs of raw
time and reference time less raw time (R226). -/
structure RefS where
  act    : Bool := false
  last   : Nat := 0
  ok     : Nat := 0
  bad    : Nat := 0
  since  : Nat := 0
  pts    : List (Nat × Int) := []
  deriving DecidableEq, Repr

structure PpS where
  refs   : SMap RefS := []
  /-- Last loop input; build-up of the switch: its u0, whether LOCKED came before, its start, samples taken (R231). -/
  u      : Int := 0
  u0     : Int := 0
  wasLocked : Bool := false
  swAt   : Nat := 0
  avg    : List Int := []
  /-- SEL was written during a switch (R232). -/
  selPend : Bool := false
  /-- Instants, plus one, since which |u| has stayed below LOCK_NS, and above four times it (R235). -/
  below  : Nat := 0
  above  : Nat := 0
  /-- Instant of the last frequency estimate (R226). -/
  freqAt : Nat := 0
  /-- HOLD_RATE: instant from which the present LOCKED time counts, LOCKED time before it since the last update, sum and number of
  the rates written since then (R236). -/
  holdAt : Nat := 0
  holdAcc : Nat := 0
  rateSum : Int := 0
  rateN  : Nat := 0
  /-- The loop: its integral path in 2^-40 of a TIME_RATE unit, and the instant of its last update (R227). -/
  integ  : Int := 0
  updAt  : Nat := 0
  /-- A phase step held under R232: whether IMMEDIATE, and its amount. -/
  held   : Option (Bool × Int) := none
  /-- A slew is in progress: device time from which it counts, and what it has moved since (R237). -/
  slewing : Bool := false
  slewAt : Nat := 0
  slewMoved : Nat := 0
  /-- Clock outputs that run: bit 0 MCLK_OUT0, 1 MCLK_OUT1, 2 WCLK_OUT; the half period of the audio clock at which each started, and
  at which one that was disabled stops (R238). -/
  clkRun : Nat := 0
  clkFrom : SMap Int := []
  clkStop : SMap Int := []
  /-- The levels that the clock, CLKSTAT and REFACT balls hold under HALT: bits 0–2, 3–5 and 6–8 (R239). -/
  hold   : Option Nat := none
  deriving DecidableEq, Repr

/-! ## Double-reed pairing (R286–R309) -/

/-- A BREATH frame's contents for one breath, unwrapped: DVALID, QUIET, ROLE, digests (R297). -/
structure BFrame where
  b      : Nat
  dvalid : Nat
  quiet  : Nat
  role   : Nat
  digs   : List Nat
  deriving DecidableEq, Repr

/-- A COMMIT_NOTE: section, flags, R, image digest (R301). -/
structure NoteS where
  sec    : Nat
  flags  : Nat
  r      : Nat
  digest : List Byte
  deriving DecidableEq, Repr

/-- The logged inputs of one breath: taps, deliveries by line, mailbox words (R305). -/
structure RsLog where
  b     : Nat
  taps  : List (Nat × Int) := []
  dels  : List (Nat × Int) := []
  words : List HeldWord := []
  deriving DecidableEq, Repr

/-- A re-seat as FOLLOW or a capture as LEAD (R303–R307). -/
structure ReseatS where
  /-- Instant of the request; instant at which the retry wait began (R307). -/
  reqAt   : Nat := 0
  waitAt  : Option Nat := none
  /-- Failures since the last wait. -/
  tries   : Nat := 0
  log     : List RsLog := []
  logBytes : Nat := 0
  /-- Ranges of the seat received: offset and length. -/
  got     : List (Nat × Nat) := []
  /-- A valid RESEAT_END has come; seat breath S. -/
  ended   : Bool := false
  seatB   : Nat := 0
  /-- First live breath of CATCHUP, and the next breath to replay. -/
  liveB   : Nat := 0
  next    : Nat := 0
  /-- Tap records of the replay, for the taps of the set. -/
  taps    : SMap TapS := []
  /-- Agreeing breaths in CHECKING. -/
  agree   : Nat := 0
  /-- What a swap, a delay change or a commit of the set would change, and the last breath in which it did, plus one. -/
  token   : List Nat := []
  changed : Nat := 0
  /-- LEAD: breath of the request, bytes sent so far, instant from which the next frame may go. -/
  reqB    : Nat := 0
  sent    : Nat := 0
  sendAt  : Nat := 0
  deriving DecidableEq, Repr

structure TwinS where
  /-- SEQ of the next frame to send (R288). -/
  seq     : Nat := 0
  /-- Instant of the last HELLO sent; own HELLOs by SEQ with their egress stamp and its instant on `State.now`, newest first (R289). -/
  helloAt : Option Nat := none
  egress  : List (Nat × Nat × Nat) := []
  /-- Last HELLO received: SEQ, ingress stamp, its RXSEQ and RXTS; its instant on `State.now` (R289, R298). -/
  rx      : Option (Nat × Nat × Nat × Nat) := none
  helloRx : Nat := 0
  /-- Compatible HELLOs received in sequence (R290). -/
  hellos  : Nat := 0
  /-- Offset computed, signed in 1/256 ns; skew in 1/256 ns, once known (R289, R292). -/
  offset  : Option Int := none
  skew    : Option Int := none
  /-- From the partner's last HELLO. -/
  pRun    : Bool := false
  pSenior : Nat := 0
  pImages : List Byte := []
  /-- First breath for which the partner owes a heartbeat; consecutive misses; last breath compared, plus one (R297). -/
  pFrom   : Nat := 0
  missed  : Nat := 0
  cmpB    : Nat := 0
  /-- Last breath whose frame was sent, plus one; own frames and partner's frames, newest first (R297). -/
  sentB   : Nat := 0
  own     : List BFrame := []
  part    : List BFrame := []
  /-- Sections whose digest is valid, by breath, newest first (R296). -/
  valid   : List (Nat × Nat) := []
  /-- Consecutive agreeing breaths of each section (R300). -/
  agree   : SMap Nat := []
  /-- Role to take at the next breath start, with the breath of the decision (R293, R294). -/
  role    : Option (Nat × Nat) := none
  /-- Instant, plus one, at which DISP last left ARMED (R289). -/
  left    : Nat := 0
  notes   : List NoteS := []
  /-- Pending yield: Y; as LEAD, an echo came in time; as FOLLOW, the echo went in time (R295). -/
  yieldY  : Option Nat := none
  echo    : Bool := false
  rs      : ReseatS := {}
  deriving DecidableEq, Repr

/-! ## Surveillance (R390–R394) -/

/-- The sums of one line over a window (R394). -/
structure LineSum where
  vc : Int := 0
  vs : Int := 0
  ic : Int := 0
  is_ : Int := 0
  deriving DecidableEq, Repr

/-- A measurement window: its length in breaths, its first breath once that has started, and the lines it measures (R394). -/
structure MeasS where
  len   : Nat
  first : Option Nat := none
  lines : List Nat := []
  sums  : SMap LineSum := []
  deriving DecidableEq, Repr

structure SurvS where
  win : Option MeasS := none
  /-- Sensors that have raised THERM_WARN and not yet fallen 5 °C below WARN (R391). -/
  hot : List Nat := []
  deriving DecidableEq, Repr

/-! ## Host ports (R362–R373) -/

/-- One slot beyond its registers: SA of the last accepted request; instant of the last EVENT while an enabled bit has
stayed pending; the summary being assembled with its instant; the port, SA and SEQ of the request that asked for it
(R363, R366, R373). -/
structure HSlotS where
  sa     : List Byte := []
  evtAt  : Option Nat := none
  snap   : List Byte := []
  snapAt : Nat := 0
  asker  : Option (Nat × List Byte × Nat) := none
  deriving DecidableEq, Repr

/-- The host ports: slots; ERR, LATE and TUNED of the SPI status byte, and the bytes the last SPI command shifted out; the
flash operation of RECOVERY in progress ends at `flEnd`, and whether the last one failed; MSI-X messages raised, the four words
of the MSI-X vector and its pending bit (R368, R370, R371). -/
structure HostS where
  slot   : SMap HSlotS := []
  err    : Bool := false
  late   : Bool := false
  tuned  : Bool := false
  out    : List Byte := []
  flEnd  : Nat := 0
  flFail : Bool := false
  msix   : Nat := 0
  vector : List Nat := [0, 0, 0, 1]
  pba    : Bool := false
  deriving DecidableEq, Repr

/-! ## The whole node -/

structure State where
  /-- Elapsed time of the XO domain in 1/256 ns; it never goes back. -/
  now     : Nat := 0
  /-- Register fields that do not read their reset value, by field number (R7, R9). -/
  fld     : SMap Nat := []
  /-- High words latched by the read of a low word, by address (R10). -/
  latch   : SMap Nat := []
  /-- All memories of the physical map, by byte (R24); an unlisted byte reads 0. -/
  mem     : List Host.Cell := []
  /-- How many fresh free values have been drawn. -/
  fresh   : Nat := 0
  time    : TimeS := {}
  fcu     : FcuS := {}
  lig     : LigS := {}
  disp    : DispS := {}
  core    : SMap CoreS := []
  mtx     : MtxS := {}
  asrc    : AsrcS := {}
  dly     : DlyS := {}
  arb     : SMap ArbT := []
  mmu     : MmuS := {}
  rvc     : RvcS := {}
  sys     : SysS := {}
  bus     : BusS := {}
  net     : NetS := {}
  strm    : StrmBlk := {}
  sap     : SMap SapS := []
  bsi     : SMap BsiS := []
  pp      : PpS := {}
  twin    : TwinS := {}
  surv    : SurvS := {}
  boot    : SecS1 := {}
  host    : HostS := {}
  pmu     : PmuS := {}
  /-- The boot flash, by byte (R328); an unlisted byte reads 0xFF, as an erased flash. -/
  flash   : List Host.Cell := []
  pending : List Instr := []
  deriving DecidableEq, Repr

/-- The machine right after the AON power-on reset: STANDBY, before 12 V power-good (R27, R414). Every register field has its
reset value (R9), memory lists nothing, and no command waits. -/
def State.reset : State := {}

end Sys2Proof.Machine
end

