-- ==== Sys2Proof/Machine/Ops.lean ====
section
/-!
DEFINITION. The named operations every meaning is built from: register fields, time, breaths, memory, arithmetic of
R6, captures and free values.
-/
namespace Sys2Proof.Machine

/-! ## Arithmetic of the number formats (R3, R6, R418) -/

/-- The signed value of the low `w` bits of `v`. -/
def sx (w v : Nat) : Int := if v % 2 ^ w < 2 ^ (w - 1) then (v % 2 ^ w : Nat) else ((v % 2 ^ w : Nat) : Int) - (2 ^ w : Nat)

/-- The low `w` bits of `x` as an unsigned number. -/
def ux (w : Nat) (x : Int) : Nat := (x % ((2 ^ w : Nat) : Int)).toNat

/-- Largest and smallest signed `w`-bit numbers. -/
def smax (w : Nat) : Int := (2 ^ (w - 1) : Nat) - 1
def smin (w : Nat) : Int := -((2 ^ (w - 1) : Nat) : Int)

/-- Saturation to the signed `w`-bit range (R6). -/
def satS (w : Nat) (x : Int) : Int := if smax w < x then smax w else if x < smin w then smin w else x

/-- Rounding of x / q to nearest, ties away from zero (R6, R71). -/
def roundAway (x : Int) (q : Nat) : Int :=
  if 0 ≤ x then (2 * x + q) / (2 * (q : Int)) else -((2 * (-x) + q) / (2 * (q : Int)))

/-- Bits [hi:lo] of a word (R3). -/
def bits (hi lo v : Nat) : Nat := v / 2 ^ lo % 2 ^ (hi + 1 - lo)

/-- Bit `i` of a word. -/
def bitOf (v i : Nat) : Bool := v / 2 ^ i % 2 == 1

/-- The word with bit `i` set, or cleared. -/
def withBit (v i : Nat) (b : Bool) : Nat :=
  if bitOf v i then (if b then v else v - 2 ^ i) else (if b then v + 2 ^ i else v)

/-- `a` is after `b` in the serial order of `w`-bit values (R418). -/
def serAfter (w a b : Nat) : Bool :=
  let d := ((a : Int) - b) % ((2 ^ w : Nat) : Int)
  decide (1 ≤ d) && decide (d < (2 ^ (w - 1) : Nat))

/-- `a` is before `b` in the serial order of `w`-bit values (R418). -/
def serBefore (w a b : Nat) : Bool := serAfter w b a

/-- `a` is at or after `b` (R418). -/
def serAtOrAfter (w a b : Nat) : Bool := a % 2 ^ w == b % 2 ^ w || serAfter w a b

/-! ## Register fields (R7–R9) -/

/-- The number under which a field is stored (DESIGN CHOICE: log entry 60). -/
def Fd.key (f : Fd) : Nat := f.addr * 32 + f.lsb

/-- Width of a field. -/
def Fd.width (f : Fd) : Nat := f.msb + 1 - f.lsb

/-- Value of a field (DESIGN CHOICE: log entry 60). -/
def State.get (s : State) (f : Fd) : Nat := mget f.rst (Fd.key f) s.fld

/-- Sets a field, truncated to its width (DESIGN CHOICE: log entry 60). -/
def State.set (s : State) (f : Fd) (v : Nat) : State :=
  { s with fld := mset f.rst (Fd.key f) (v % 2 ^ Fd.width f) s.fld }

/-- A one-bit field read as a truth value. -/
def State.on (s : State) (f : Fd) : Bool := s.get f != 0

/-- Bit `i` of a field. -/
def State.bit (s : State) (f : Fd) (i : Nat) : Bool := bitOf (s.get f) i

/-- Sets or clears bit `i` of a field. -/
def State.setBit (s : State) (f : Fd) (i : Nat) (b : Bool) : State := s.set f (withBit (s.get f) i b)

/-- Adds one, modulo the width of the field. -/
def State.inc (s : State) (f : Fd) : State := s.set f (s.get f + 1)

/-- Adds `n`, saturating at the width of the field. -/
def State.addSat (s : State) (f : Fd) (n : Nat) : State :=
  s.set f (min (s.get f + n) (2 ^ Fd.width f - 1))

/-- Adds one, saturating. -/
def State.incSat (s : State) (f : Fd) : State := s.addSat f 1

/-- Takes fields back to their reset values (R9): every field whose register address satisfies `p`. -/
def State.resetRegs (s : State) (p : Nat → Bool) : State :=
  { s with fld := mkeep (fun k => !p (k / 32)) s.fld, latch := mkeep (fun a => !p a) s.latch }

/-- The address lies in register block `b`, access table aside (R24). -/
def inBlock (b a : Nat) : Bool :=
  let q := a % 0x100000000
  q / 0x10000 == 0x2000 + b && decide (q % 0x10000 < 0xF000)

/-- A word assembled from fields, each at its place: a WO field reads 0 (R7), and a WL field, of whose reads R7 says nothing, what
it holds, which for TIME_OFFSET_HI.DELTA_HI stays its reset value 0 (DESIGN CHOICE: log entry 39). -/
def State.wordOf (s : State) (fs : List Fd) : Nat :=
  fs.foldl (fun acc f => acc + (if f.acc = .wo then 0 else s.get f) * 2 ^ f.lsb) 0

/-- What a write of word `v` does to one field that has no behaviour of its own (R7, R8). -/
def State.writeField (s : State) (v : Nat) (f : Fd) : State :=
  let x := bits f.msb f.lsb v
  match f.acc with
  | .rw => s.set f x
  | .ro => s
  | .wo => s
  | .w1c => s.set f (s.get f &&& ((2 ^ Fd.width f - 1) ^^^ x))
  | .w1s => s.set f (s.get f ||| x)
  | .wl => s

/-- A write of word `v` to a register without behaviour of its own, field by field. -/
def State.writeRegPlain (s : State) (a v : Nat) : State := (fieldsAt a).foldl (fun t f => t.writeField v f) s

/-! ## Time (R242–R245) -/

/-- Units of 1/256 ns in one nanosecond, microsecond, millisecond and second. -/
def uNs : Nat := 256
def uUs : Nat := 256000
def uMs : Nat := 256000000
def uS : Nat := 256000000000

/-- Moves the clock on to instant `t`; it never goes back (DESIGN CHOICE: log entry 2). -/
def State.atTime (s : State) (t : Nat) : State := { s with now := max s.now t }

/-- Nothing is commanded: 1 ns passes (DESIGN CHOICE: log entry 2). -/
def idle (s : State) : State := { s with now := s.now + 256 }

/-- Raw time in 1/256 ns (R242). -/
def State.raw (s : State) : Nat := if s.time.on then s.now - s.time.start else 0

/-- TIME_RATE as a signed number. -/
def State.rate (s : State) : Int := sx 32 (s.get F.TIME_RATE_RATE)

/-- The correction function of R243, in 1/256 ns, modulo 2^72. -/
def corrected (c rate : Int) (e r : Nat) : Nat :=
  (((r : Int) + (c + rate * ((r : Int) - e)) / ((2 ^ 40 : Nat) : Int)) % ((2 ^ 72 : Nat) : Int)).toNat

/-- Device time in 1/256 ns, modulo 2^72 (R243). -/
def State.dev (s : State) : Nat := corrected s.time.c s.rate s.time.e s.raw

/-- Device time of an instant of `State.now`, under the correction in force (R243, R248). -/
def State.devAt (s : State) (x : Nat) : Nat := if s.time.on then corrected s.time.c s.rate s.time.e (x - s.time.start) else 0

/-- Device time at an instant not long past, under the correction that was in force then (R248). -/
def State.devThen (s : State) (x : Nat) : Nat :=
  match (s.time.past.filter (fun h => decide (x < h.1))).getLast? with
  | some (_, c, e, r) => corrected c r e (x - s.time.start)
  | none => s.devAt x

/-- Device time in whole ns (64 bits), and its fraction. -/
def State.devNs (s : State) : Nat := s.dev / 256
def State.devFrac (s : State) : Nat := s.dev % 256

/-- The low 48 bits of a breath number: the breath index (R12). -/
def bidx (n : Nat) : Nat := n % 2 ^ 48

/-! ## Engine mode (R17) -/

inductive Mode where
  | concert | studio | arena | quiet
  deriving DecidableEq, Repr

def Mode.ofCode (c : Nat) : Mode :=
  match c % 4 with
  | 0 => .concert | 1 => .studio | 2 => .arena | _ => .quiet

/-- Breath rate in Hz. -/
def Mode.fs : Mode → Nat
  | .concert => 96000 | .studio => 192000 | .arena => 48000 | .quiet => 96000
/-- Reed clock in kHz. -/
def Mode.reedKHz : Mode → Nat
  | .quiet => 800000 | _ => 1200000
/-- Active reed cores. -/
def Mode.cores : Mode → Nat
  | .quiet => 64 | _ => 128
/-- Crosspoint limit. -/
def Mode.xpLimit : Mode → Nat
  | .concert => 262144 | .arena => 262144 | .studio => 131072 | .quiet => 131072
/-- Network, AES67 and serial channels in each direction. -/
def Mode.netCh : Mode → Nat
  | .concert => 2048 | .studio => 1024 | .arena => 3072 | .quiet => 1024
def Mode.aesCh : Mode → Nat
  | .concert => 256 | .arena => 256 | .studio => 128 | .quiet => 128
def Mode.serCh : Mode → Nat
  | .concert => 256 | .arena => 256 | .studio => 128 | .quiet => 128

/-- The mode in force (SYS_MODE_STAT.CUR). -/
def State.mode (s : State) : Mode := Mode.ofCode (s.get F.SYS_MODE_STAT_CUR)
def State.fs (s : State) : Nat := s.mode.fs

/-- Half a period of the triangular profile of the spread clocks, 16 µs (R389). -/
def spreadHalf : Nat := 16 * uUs

/-- How far the reed, matrix, fabric and control-core clocks run below their nominal frequency now, in millionths: by the profile from 0
to 1 % and back while CLKSPREAD = 1, else not at all (R28, R389). Where the profile stands is free (DESIGN CHOICE: log entry 65). -/
def State.downSpread (s : State) : Nat :=
  let y := (s.now + Config.spreadStart) % (2 * spreadHalf)
  if s.get F.PMU_REG_CTRL_CLKSPREAD = 0 then 0 else min y (2 * spreadHalf - y) * 10000 / spreadHalf

/-- The sum of the profile over the first `x` units of time from the start of a period, in millionths (R389). -/
def spreadSum (x : Nat) : Nat :=
  let h := spreadHalf
  let y := x % (2 * h)
  x / (2 * h) * (h * 10000) + (if y ≤ h then y * y * 5000 / h else h * 10000 - (2 * h - y) * (2 * h - y) * 5000 / h)

/-- What the spread takes from the last `d` units of time, in millionths of a unit (R28, R389). -/
def State.spreadLost (s : State) (d : Nat) : Nat :=
  if s.get F.PMU_REG_CTRL_CLKSPREAD = 0 then 0
  else spreadSum (s.now + Config.spreadStart) - spreadSum (s.now - d + Config.spreadStart)

/-- `k` cycles, a few, of a clock of `kHz` nominal in 1/256 ns, at the frequency the spread gives it now, rounded down. -/
def State.cycleUnits (s : State) (kHz k : Nat) : Nat := k * 256 * 1000000 * 1000000 / (kHz * (1000000 - s.downSpread))

/-- Whole cycles of a clock of `kHz` nominal in the last `d` units of 1/256 ns (R28, R389). -/
def State.unitCycles (s : State) (kHz d : Nat) : Nat := kHz * (d * 1000000 - s.spreadLost d) / (256 * 1000000 * 1000000)

/-- `k` reed cycles in 1/256 ns (R17, R28). -/
def State.reedUnits (s : State) (k : Nat) : Nat := s.cycleUnits s.mode.reedKHz k

/-- Period of a breath as DISP_PERIOD shows it (R61). -/
def State.period (s : State) : Nat := 256 * 1000000000 / s.fs

/-! ## Breaths (R12, R34) -/

/-- The anchor in 1/256 ns (R34). -/
def State.anchor (s : State) : Nat :=
  (s.get F.DISP_ANCHOR_HI_NS_HI * 2 ^ 32 + s.get F.DISP_ANCHOR_LO_NS_LO) * 256 + s.get F.DISP_ANCHOR_FRAC_FRAC

def State.setAnchor (s : State) (a : Int) : State :=
  let v := ux 72 a
  ((s.set F.DISP_ANCHOR_HI_NS_HI (v / 2 ^ 40)).set F.DISP_ANCHOR_LO_NS_LO (v / 256)).set F.DISP_ANCHOR_FRAC_FRAC v

/-- Offset of breath `n` from breath 0 at rate `fs` (R12). -/
def breathOfs (fs n : Nat) : Nat := n * 256 * 1000000000 / fs

/-- Instant of breath `n` in device time (R12). -/
def State.breathAt (s : State) (n : Nat) : Nat := (s.anchor + breathOfs s.fs (n - s.disp.base)) % 2 ^ 72

/-- Device time elapsed since the instant of breath `n`, signed, in 1/256 ns. -/
def State.since (s : State) (n : Nat) : Int := sx 72 (ux 72 ((s.dev : Int) - s.breathAt n))

/-- Time from the anchor to device time `u`, signed, in 1/256 ns. -/
def State.sinceAnchor (s : State) (u : Int) : Int := sx 72 (ux 72 (u - s.anchor))

/-- Device time has reached the instant `d` ns after the start of breath `n`. -/
def State.reached (s : State) (n d : Nat) : Bool := decide (((d * 256 : Nat) : Int) ≤ s.since n)

/-- The number with breath index `b` that lies from `lo` on, nearest to it (R12, R418). -/
def unwrapFrom (lo b : Nat) : Nat := lo + ux 48 ((b : Int) - lo)

/-- The breath in progress. -/
def State.n (s : State) : Nat := s.disp.n

/-- The breath that starts next. -/
def State.nextBreath (s : State) : Nat := if s.disp.started then s.disp.n + 1 else s.disp.first

/-- A mode apply is between breath B + 32, the last of the old mode, and breath 0 of the new one (R19, R200, R275). -/
def State.modeGap (s : State) : Bool :=
  (s.sys.apply == .ramp && s.sys.applyB + 32 ≤ s.disp.n) || s.sys.apply == .clocks || s.sys.apply == .anchor

/-- Dispatcher states (R33, DISP_STAT.STATE). -/
def dStopped : Nat := 0
def dArmed : Nat := 1
def dRunning : Nat := 2
def dStopping : Nat := 3
def State.dstate (s : State) : Nat := s.get F.DISP_STAT_STATE

/-- Breaths are being started or finished. -/
def State.breathing (s : State) : Bool := s.dstate == dRunning || s.dstate == dStopping

/-! ## Memory (R4, R24, R25) -/

/-- The canonical form of memory: addresses strictly rising, and no byte equal to what an unlisted address reads as
(DESIGN CHOICE: log entry 1). -/
def Memory.wf (m : List Host.Cell) : Bool := mwf 0 m

/-- One byte of memory; the boot ROM reads what the device holds (DESIGN CHOICE: log entry 1). -/
def State.byte (s : State) (a : Nat) : Byte := if a < 0x40000 then Config.bootRom a else mget 0 a s.mem

def State.setByte (s : State) (a : Nat) (b : Byte) : State := { s with mem := mset 0 a b s.mem }

/-- `k` bytes from address `a` on. -/
def State.bytes (s : State) (a : Nat) : Nat → List Byte
  | 0 => []
  | k + 1 => s.byte a :: s.bytes (a + 1) k

/-- Stores bytes from address `a` on. -/
def State.setBytes (s : State) (a : Nat) : List Byte → State
  | [] => s
  | b :: r => (s.setByte a b).setBytes (a + 1) r

/-- The number a list of bytes spells, lowest byte first (R4). -/
def leNat : List Byte → Nat
  | [] => 0
  | b :: r => b.toNat + 256 * leNat r

/-- The low `k` bytes of a number, lowest first (R4). -/
def leBytes : Nat → Nat → List Byte
  | 0, _ => []
  | k + 1, v => BitVec.ofNat 8 v :: leBytes k (v / 256)

/-- The number a list of bytes spells, highest byte first (network frames, R4). -/
def beNat (l : List Byte) : Nat := l.foldl (fun a b => a * 256 + b.toNat) 0

/-- The low `k` bytes of a number, highest first. -/
def beBytes (k v : Nat) : List Byte := (leBytes k v).reverse

/-- A 32-bit word of memory. -/
def State.word (s : State) (a : Nat) : Nat := leNat (s.bytes a 4)
def State.setWord (s : State) (a v : Nat) : State := s.setBytes a (leBytes 4 v)

/-- Clears every byte whose address satisfies `p` (R31). -/
def State.clearMem (s : State) (p : Nat → Bool) : State := { s with mem := mkeep (fun a => !p a) s.mem }

/-- Bases of the memories (R24, R25). -/
def keepBase : Nat := 0x08000000
def ctlBase : Nat := 0x10000000
def coreBase (c : Nat) : Nat := 0x40000000 + c * 0x40000
def iBase (c : Nat) : Nat := coreBase c
def xBase (c : Nat) : Nat := coreBase c + 0x10000
def yBase (c : Nat) : Nat := coreBase c + 0x20000
def taskBase (c : Nat) : Nat := coreBase c + 0x30800
def bankBase (k : Nat) : Nat := 0x60000000 + k * 0x300000
def poolBase : Nat := 0x70000000
def dramBase : Nat := 0x100000000

/-- Staging buffer `u` of section `s` (R150). -/
def stagingBase (sec u : Nat) : Nat := 0x1C0000000 + sec * 0x800000 + u * 0x400000

/-! ## Free values -/

/-- Draws a fresh free value (DESIGN CHOICE: log entry 17). -/
def State.draw (s : State) : Nat × State := (Config.free s.fresh, { s with fresh := s.fresh + 1 })

/-! ## Slot events (R368) -/

def evLOCK : Nat := 0
def evFAULT : Nat := 1
def evCLOCK : Nat := 2
def evTWIN : Nat := 3
def evLINK : Nat := 4
def evSTREAM : Nat := 5
def evMBOX : Nat := 6
def evSUMMARY : Nat := 7
def evVIOL : Nat := 8
def evMODE : Nat := 9

/-- Sets event `b` of slot `n`. -/
def slotEvt (n b : Nat) (s : State) : State := s.setBit (F.SLOTn_EVT_EVT n) b true

/-- Sets a device-wide event in every slot. -/
def allEvt (b : Nat) (s : State) : State := (List.range 6).foldl (fun t n => slotEvt n b t) s

/-! ## Captures (R255) -/

/-- A stamp enters capture FIFO `c`; a full FIFO drops it and sets OVF (R251, R255). -/
def capPush (c : Nat) (st : Stamp) (s : State) : State :=
  let q := mget [] c s.time.caps
  if 4 ≤ q.length then s.set (F.CAP_STAT_OVF c) 1
  else
    let s := s.setBit F.TIME_EVT_CAP c true
    { s with time := { s.time with caps := mset [] c (q ++ [st]) s.time.caps } }.set (F.CAP_STAT_COUNT c) (q.length + 1)

/-- Stamps internal event `src` with argument `arg` on CAP4–CAP7 (R255). -/
def capEvent (src arg : Nat) (s : State) : State :=
  [4, 5, 6, 7].foldl (fun t c =>
    if t.on (F.CAP_CFG_EN c) && t.get (F.CAP_CFG_SRC c) == src &&
       (src == 0 || src == 1 || src == 2 || t.get (F.CAP_CFG_ARG c) == arg)
    then capPush c ⟨t.devNs, t.devFrac⟩ t else t) s

end Sys2Proof.Machine
end

