-- ==== Sys2Proof/Machine/Journal.lean ====
section
/-!
DEFINITION. Journal records entering keep RAM: sizes, room, admission against the flush budget (R340, R341, R348).
-/
namespace Sys2Proof.Machine

/-- Record types (R341). -/
def jBOOT : Nat := 1
def jFAULT : Nat := 2
def jFENCE : Nat := 3
def jWEAR : Nat := 4
def jHOURS : Nat := 5
def jBASELINE : Nat := 6
def jREFHIST : Nat := 7
def jCONFIGGEN : Nat := 8
def jTWINIDENT : Nat := 9
def jCAL : Nat := 10
def jCHECKPOINT : Nat := 11

/-- LEN and TOTAL of a record (R340). -/
def jLen (r : JRec) : Nat := 8 + r.body.length
def jTotal (r : JRec) : Nat := 13 + jLen r

/-- The type keeps one record in force per key (R341). -/
def jIsLive (t : Nat) : Bool := t == 1 || (3 ≤ t && t ≤ 10)

/-- Byte `i` of a body. -/
def jByte (r : JRec) (i : Nat) : Nat := (r.body.getD i 0).toNat

/-- The key of a live record within its type (R341): source and INDEX, FIRST, output line, section or ITEM. -/
def jKey (r : JRec) : List Nat :=
  if r.type = jFENCE then [jByte r 0, jByte r 2, jByte r 3]
  else if r.type = jWEAR || r.type = jCAL then [jByte r 0, jByte r 1]
  else if r.type = jBASELINE || r.type = jCONFIGGEN then [jByte r 0]
  else []

/-- Same live type and key. -/
def jSame (a b : JRec) : Bool := a.type == b.type && jKey a == jKey b

def jBytes (l : List JRec) : Nat := l.foldl (fun n r => n + jTotal r) 0

/-- Size of the record buffer (R348). -/
def keepBufBytes : Nat := 65024

/-- The record fits the buffer without a drop. -/
def jFits (l : LigS) (r : JRec) : Bool := decide (jBytes l.queued + jBytes l.pend + jTotal r ≤ keepBufBytes)

/-- Removes the oldest record that satisfies `p`. -/
def dropFirst (p : JRec → Bool) : List JRec → List JRec
  | [] => []
  | r :: t => if p r then t else r :: dropFirst p t

/-- Drops queued records that satisfy `p`, oldest first, until `r` fits; counts the drops (R348). -/
def jDropTo (p : JRec → Bool) (r : JRec) : Nat → LigS × Nat → LigS × Nat
  | 0, x => x
  | k + 1, (l, n) =>
    if jFits l r || !l.queued.any p then (l, n)
    else jDropTo p r k ({ l with queued := dropFirst p l.queued }, n + 1)

/-- Makes room for a device record in the order of R348; answers the drops made. -/
def jRoom (r : JRec) (l : LigS) : LigS × Nat :=
  let k := l.queued.length
  let (l, n) := jDropTo (fun q => q.type == jFAULT) r k (l, 0)
  let l := if !jFits l r && jIsLive r.type then { l with queued := l.queued.filter (fun q => !jSame q r) } else l
  jDropTo (fun q => q.type != jFENCE && q.type != jBOOT) r k (l, n)

/-- The queued record to be admitted next: FENCE and BOOT ahead of every other (R348). -/
def jNext (l : LigS) : Option JRec :=
  match l.queued.find? (fun q => q.type == jFENCE || q.type == jBOOT) with
  | some r => some r
  | none => l.queued.head?

/-- Admits queued records while the pending bytes stay within the budget; an empty pending region admits one (R348). -/
def jAdmit (budget : Nat) : Nat → LigS → LigS
  | 0, l => l
  | k + 1, l =>
    match jNext l with
    | none => l
    | some r =>
      if l.pend.isEmpty || decide (jBytes l.pend + jTotal r ≤ budget) then
        jAdmit budget k { l with queued := dropFirst (fun q => q == r) l.queued
                                 pend := l.pend ++ [{ r with seq := l.nextSeq }]
                                 nextSeq := (l.nextSeq + 1) % 2 ^ 32 }
      else l

/-- Shows the queue in LIG_KEEP and LIG_SEQ (R352). -/
def jShow (s : State) : State :=
  ((s.set F.LIG_KEEP_QUEUED (jBytes s.lig.queued)).set F.LIG_KEEP_PENDING (jBytes s.lig.pend)).set F.LIG_SEQ_SEQ s.lig.nextSeq

/-- Admission against LIG_BUDGET; none during a flush (R348, R350). -/
def jPump (s : State) : State :=
  let l := if s.lig.flush then s.lig else jAdmit (s.get F.LIG_BUDGET_BYTES) s.lig.queued.length s.lig
  jShow { s with lig := l }

/-- A record of a device producer arrives at the buffer (R348). -/
def jArrive (r : JRec) (s : State) : State :=
  let (l, n) := jRoom r s.lig
  let s := { s with lig := l }
  let s := if n = 0 then s else (s.set F.LIG_STAT_QDROP 1).addSat F.LIG_CNT_QDROPPED n
  if jFits s.lig r then jPump { s with lig := { s.lig with queued := s.lig.queued ++ [r] } }
  else if r.type == jFENCE || r.type == jBOOT then
    if s.lig.hkWait.length < 16 then { s with lig := { s.lig with hkWait := s.lig.hkWait ++ [r] } }
    else (s.set F.LIG_STAT_QDROP 1).incSat F.LIG_CNT_QDROPPED
  else { s with lig := { s.lig with waiting := s.lig.waiting ++ [r] } }

/-- Operating seconds: the sum of the HOURS bins (R340). -/
def State.opsec (s : State) : Nat := s.lig.hours.foldl (· + ·) 0

/-- The device appends a record of type `t` (R341). -/
def journal (t : Nat) (body : List Byte) (s : State) : State :=
  jArrive { type := t, opsec := s.opsec, origseq := 0, body := body } s

/-- Records that waited for room are tried again (R348). -/
def jRetry (s : State) : State :=
  let hk := s.lig.hkWait
  let wt := s.lig.waiting
  let s := { s with lig := { s.lig with hkWait := [], waiting := [] } }
  (hk ++ wt).foldl (fun t r => jArrive r t) s

end Sys2Proof.Machine
end

