-- ==== Sys2Proof/Machine/Sine.lean ====
section
/-!
DEFINITION. The sine table and the pilot tone of the loudspeaker lines (R393), and the angle of a vector (R394).
-/
namespace Sys2Proof.Machine

/-- π in 2^-96. -/
def piQ : Int := 248902613312231085230521944622

/-- Taylor's series: adds the terms from `term` on, which is x^j / j! with its sign, for x in 2^-96. -/
def taylor : Nat → Nat → Int → Int → Int
  | 0, _, _, _ => 0
  | k + 1, j, term, x2 => term + taylor k (j + 2) (-(term * x2 / 2 ^ 96) / ((j + 1) * (j + 2) : Nat)) x2

/-- sin and cos of 2π k / n in 2^-96, for an angle in the first quadrant. -/
def sinQ (k n : Nat) : Int := let x := 2 * piQ * k / (n : Int); taylor 20 1 x (x * x / 2 ^ 96)
def cosQ (k n : Nat) : Int := let x := 2 * piQ * k / (n : Int); taylor 20 0 (2 ^ 96) (x * x / 2 ^ 96)

/-- SINE[k] = round(2^31 sin(2πk / 4,096)), saturated to Q1.31 (R393). -/
def sineWord (k : Nat) : Int :=
  let q := k % 1024
  let v := fun (m : Nat) => satS 32 (roundAway (sinQ m 4096) (2 ^ 65))
  match k / 1024 % 4 with
  | 0 => v q | 1 => v (1024 - q) | 2 => satS 32 (-(roundAway (sinQ q 4096) (2 ^ 65)))
  | _ => satS 32 (-(roundAway (sinQ (1024 - q) 4096) (2 ^ 65)))

/-- Index of the tone of line `j` in breath `b` (R393). -/
def State.toneK (s : State) (j b : Nat) : Nat := bidx b * s.get (F.SURV_LINE_STEP_STEP j) % 2 ^ 32 / 2 ^ 20

/-- The tones that the lines of output `o` add to its value in breath `b` (R393). -/
def State.withPilot (s : State) (o b : Nat) (v : Int) : Int :=
  if !s.on F.SURV_CTRL_PILOT_EN then v
  else (List.range 32).foldl (fun x j =>
    let lv := s.get (F.SURV_LINE_LEVEL_LEVEL j)
    let k := s.toneK j b
    let p : Int := if 2 ^ 31 ≤ lv then (Config.toneBeyond lv k).toInt else roundAway ((lv : Int) * sineWord k) (2 ^ 31)
    if s.on (F.SURV_LINE_CFG_EN j) && s.get (F.SURV_LINE_CFG_OUTPUT j) == o && lv != 0
    then satS 32 (x + p) else x) v

/-- The angle of (x, y), both at least 0 and not both 0, in whole 0.01°, rounded down: 0 to 9,000 by bisection. -/
def angleQuad (x y : Int) : Nat :=
  (List.range 14).reverse.foldl (fun p i =>
    let q := p + 2 ^ i
    if q ≤ 9000 && decide (x * sinQ q 36000 ≤ y * cosQ q 36000) then q else p) 0

/-- atan2(y, x) in 0.01°, rounded down, in -18,000 to 17,999 (R394). -/
def angle (x y : Int) : Int :=
  if y < 0 || (y = 0 && 0 < x) then
    -- the opposite vector lies in the upper half plane
    let (x, y) := if y < 0 then (-x, -y) else (x, y)
    if y = 0 then 0
    else if 0 ≤ x then (angleQuad x y : Int) - 18000 else (angleQuad y (-x) : Int) - 9000
  else if y = 0 then -18000
  else if 0 ≤ x then angleQuad x y else (angleQuad y (-x) : Int) + 9000

end Sys2Proof.Machine
end

