-- ==== Sys2Proof/Machine/Taps.lean ====
section
/-!
DEFINITION. The tap namespace: commits, previous values, section ramps, output formatting and dither
(R96, R97, R107, R111, R112, R158).
-/
namespace Sys2Proof.Machine

/-- First reed-output tap and first bus tap (R96). -/
def reedTap0 : Nat := 0x1000
def busTap0 : Nat := 0x1800

/-- The tap is not reserved (R96). -/
def isTap (t : Nat) : Bool :=
  t < 0x0D20 || (0x0E00 ≤ t && t < 0x0F00) || (0x1000 ≤ t && t < 0x1C00)

/-- Committed value of a tap; a reserved tap has none and reads 0 (R77, R97). -/
def State.tap (s : State) (t : Nat) : TapS := mget {} t s.mtx.taps

/-- The value a tap committed for breath `b`, or the last before it (R97, R99). -/
def TapS.val (x : TapS) (b : Nat) : Int := if x.at_ ≤ b + 1 then x.cur else if x.at_ == b + 2 then x.prev else x.prev2

/-- The ramp rule of R107. -/
def rampVal (a c : Int) (k n : Nat) : Int := a + Int.tdiv ((c - a) * k) n

/-- Output-map entry `o` (R111). -/
def State.outEntry (s : State) (o : Nat) : Nat := s.get (F.MTX_OUTMAP o)

/-- The entry is mapped: V = 1, with no reserved SRC and no reserved WIDTH (R111). -/
def outMapped (w : Nat) : Bool := bitOf w 31 && isTap (bits 12 0 w) && bits 29 28 w != 3

/-- Word length of an output (R111). -/
def outWidth (w : Nat) : Nat := match bits 29 28 w with | 0 => 32 | 1 => 24 | _ => 16

/-- Finalising mixer of the dither generator, modulo 2^64 (R112). -/
def ditherX (seed o b : Nat) : Nat :=
  let m := 2 ^ 64
  let x := (seed ^^^ (b * 0x9E3779B97F4A7C15 % m)) ^^^ ((o + 1) * 0xD1B54A32D192ED03 % m)
  let x := (x ^^^ (x / 2 ^ 30)) * 0xBF58476D1CE4E5B9 % m
  let x := (x ^^^ (x / 2 ^ 27)) * 0x94D049BB133111EB % m
  x ^^^ (x / 2 ^ 31)

/-- Triangular dither of output `o` in breath index `b` (R112). -/
def dither (seed o b w : Nat) : Int :=
  let x := ditherX seed o b
  let q := 2 ^ (32 - w)
  ((x % 2 ^ 32 % q : Nat) : Int) - ((x / 2 ^ 32 % q : Nat) : Int)

/-- The formatted word of output `o`, and whether it saturated (R112). -/
def formatOut (seed o entry b : Nat) (v : Int) : Int × Bool :=
  let w := outWidth entry
  let q := 2 ^ (32 - w)
  let d := if bitOf entry 30 && w < 32 then dither seed o b w else 0
  let y := roundAway (v + d) q
  (satS w y * q, decide (smax w < y) || decide (y < smin w))

/-- The seed of a section (R113). -/
def State.seed (s : State) (sec : Nat) : Nat :=
  s.get (F.MTX_SEED_HI_SEED_HI sec) * 2 ^ 32 + s.get (F.MTX_SEED_LO_SEED_LO sec)

/-- Formats output `o` from value `v` of breath `n`, with the pilot tones of its lines (R112, R393). -/
def formatStep (o : Nat) (v : Int) (n : Nat) (s : State) : State :=
  let e := s.outEntry o
  let (y, sat) := formatOut (s.seed (bits 27 24 e)) o e (bidx n) (s.withPilot o n v)
  let s := if sat then s.incSat F.MTX_FMTSAT_COUNT else s
  let ws := (n, y) :: (mget {} o s.mtx.outw).words.take 23
  { s with mtx := { s.mtx with outw := mset {} o ⟨ws⟩ s.mtx.outw } }

/-- The word of output `o` for breath `b`, or the last before it, and whether it has been formatted (R214); an unmapped output
carries 0 (R111). -/
def State.outWord (s : State) (o b : Nat) : Int × Bool :=
  if !outMapped (s.outEntry o) then (0, false)
  else match (mget {} o s.mtx.outw).words.find? (fun e => e.1 ≤ b) with
    | some (n, y) => (y, n == b)
    | none => (0, false)

/-- The outputs whose map entry takes tap `t`: the listed entries of the output map that are mapped from it. -/
def State.outsOf (s : State) (t : Nat) : List Nat :=
  s.fld.filterMap (fun e =>
    let a := e.1 / 32
    let o := (a - 0x20064000) / 4
    if 0x20064000 ≤ a && a < 0x20068C00 && e.1 % 32 == 0 && outMapped (s.outEntry o) && bits 12 0 (s.outEntry o) == t
    then some o else none)

/-! ## Sections: owners and ramps -/

/-- One section's state. -/
def State.sec (s : State) (i : Nat) : SecS := mget {} i s.rvc.sec
def State.setSec (s : State) (i : Nat) (x : SecS) : State :=
  { s with rvc := { s.rvc with sec := mset {} i x s.rvc.sec } }

/-- Section states (SECn_STAT.STATE). -/
def secEMPTY : Nat := 0
def secRUNNING : Nat := 1
def secRAMPOUT : Nat := 2
def secDRAIN : Nat := 3
def secLOADING : Nat := 4
def secWAITING : Nat := 5
def secMISMATCH : Nat := 6
def State.secState (s : State) (i : Nat) : Nat := s.get (F.SECn_STAT_STATE i)

/-- Section owning a logical core, a reed-output tap, a bus (R148, R122). -/
def State.coreOwner (s : State) (l : Nat) : Option Nat :=
  match mget 0 l s.rvc.coreSec with | 0 => none | k + 1 => some k
def State.tapOwner (s : State) (t : Nat) : Option Nat :=
  match mget 0 t s.rvc.tapSec with | 0 => none | k + 1 => some k
def State.busOwner (s : State) (b : Nat) : Option Nat :=
  if bitOf (s.get (F.MTX_BUSVALID_VALID (b / 32))) (b % 32)
  then some (s.get (F.MTX_BUSOWN_OWNER (b / 8)) / 16 ^ (b % 8) % 16) else none

/-- Tasks of the section are armed for breath `n`: it runs or ramps out (R40, R157). -/
def State.secArms (s : State) (i n : Nat) : Bool :=
  let st := s.secState i
  st == secRUNNING || (st == secRAMPOUT && (match (s.sec i).rampOut with | some b => decide (n < b + 32) | none => true))

/-! ## A re-seat's suspended set and its input log (R305, R307) -/

/-- The re-seat has stopped the instances of section `i`, and its taps repeat (R307). -/
def State.suspended (s : State) (i : Nat) : Bool :=
  (s.get F.TWIN_RS_STAT_PHASE == 3 || s.get F.TWIN_RS_STAT_PHASE == 4) && bitOf (s.get F.TWIN_RS_STAT_SET) i
def State.suspendedO (s : State) (o : Option Nat) : Bool := match o with | some i => s.suspended i | none => false

/-- The inputs of section `i` are logged: it is in the set of a re-seat in REQUESTED to CATCHUP (R303, R305). -/
def State.logsSec (s : State) (i : Nat) : Bool :=
  let p := s.get F.TWIN_RS_STAT_PHASE
  1 ≤ p && p ≤ 4 && bitOf (s.get F.TWIN_RS_STAT_SET) i

/-- Changes the log entry of breath `b`, which is made where it is missing. -/
def mapLog (b : Nat) (f : RsLog → RsLog) (s : State) : State :=
  let r := s.twin.rs
  let l := if r.log.any (fun e => e.b == b) then r.log else r.log ++ [{ b := b }]
  { s with twin := { s.twin with rs := { r with log := l.map (fun e => if e.b == b then f e else e) } } }

/-- Logs delivery `v` of line `j` for breath `b`; logs a mailbox word (R305). -/
def logDelivery (j b : Nat) (v : Int) (s : State) : State := mapLog b (fun e => { e with dels := e.dels ++ [(j, v)] }) s
def logWord (h : HeldWord) (b : Nat) (s : State) : State := mapLog b (fun e => { e with words := e.words ++ [h] }) s

/-- A word that a delivery or a mailbox record brings core `lc` of a suspended set waits in the log. -/
def State.suspendedCore (s : State) (lc : Nat) : Bool := s.suspendedO (s.coreOwner lc)
def State.logsCore (s : State) (lc : Nat) : Bool := match s.coreOwner lc with | some i => s.logsSec i | none => false

/-- Sections whose AVTP frames are discarded: quiet ones, and those a re-seat has stopped (R299, R307). -/
def State.silent (s : State) (i : Nat) : Bool := bitOf (s.get F.TWIN_QUIET_OWN) i || s.suspended i

/-! ## Delay lines: descriptors and recording (R124–R127) -/

/-- Descriptor word `w` of line `j` (R125). -/
def State.lineW (s : State) (w j : Nat) : Nat := s.get (F.DLY_LINE_DATA_WORD w j)
def State.lineS (s : State) (j : Nat) : LineS := mget {} j s.dly.lines
def State.setLine (s : State) (j : Nat) (x : LineS) : State := { s with dly := { s.dly with lines := mset {} j x s.dly.lines } }

/-- The descriptor's bits hold nothing that makes the line V = 0: no reserved SRC, even WORD, reserved bits zero (R126). -/
def lineOk (w0 w1 w2 w3 : Nat) : Bool :=
  isTap (bits 28 16 w2) && w2 % 2 == 0 && bits 25 24 w0 == 0 && bits 24 24 w1 == 0 && bits 31 29 w2 == 0
  && bits 15 13 w2 == 0 && bits 31 26 w3 == 0

/-- The line is valid: V = 1 and R126 holds of its bits. -/
def State.lineValid (s : State) (j : Nat) : Bool :=
  bitOf (s.lineW 0 j) 31 && lineOk (s.lineW 0 j) (s.lineW 1 j) (s.lineW 2 j) (s.lineW 3 j)
def State.lineSec (s : State) (j : Nat) : Nat := bits 29 26 (s.lineW 0 j)
def State.lineDram (s : State) (j : Nat) : Bool := bitOf (s.lineW 0 j) 30
def State.lineDmax (s : State) (j : Nat) : Nat := bits 23 0 (s.lineW 1 j)
def State.lineSrc (s : State) (j : Nat) : Nat := bits 28 16 (s.lineW 2 j)
def State.lineBase (s : State) (j : Nat) : Nat := bits 25 0 (s.lineW 3 j)

/-- Lines with V = 1, in ascending order. -/
def State.linesV (s : State) : List Nat :=
  s.fld.filterMap (fun e =>
    let a := e.1 / 32
    if a % 0x100000000 == 0x20070014 && 0x80000000 ≤ e.2 then some (a / 0x100000000) else none)

/-- Staging of a DRAM line in the pool (R126), and its write block for block number `j` (PRESUMED: log entry 18). -/
def lineStage (l : Nat) : Nat := poolBase + 0x1F00000 + 256 * l
def wrStage (l j : Nat) : Nat := lineStage l + 64 * (j % 2)

/-- Line `j` records sample `v` of breath `n` where its section runs or is stopped for a commit (R127). Closing a write
block issues its flush (R130) (PRESUMED: log entry 18). -/
def recordLine (v : Int) (n : Nat) (s : State) (j : Nat) : State :=
  let st := s.secState (s.lineSec j)
  if !(s.lineValid j && 1 ≤ st && st ≤ 5) then s
  else
    let x := s.lineS j
    let s := s.setLine j { x with hist := some (x.hist.getD n) }
    if s.lineDram j then
      let s := s.setWord (wrStage j (n / 16) + 4 * (n % 16)) (ux 32 v)
      if n % 16 == 15 then
        { s with dly := { s.dly with jobs := s.dly.jobs ++
            [{ line := j, flush := true, block := n / 16, data := s.bytes (wrStage j (n / 16)) 64 }] } }
      else s
    else s.setWord (poolBase + 4 * (s.lineBase j + bidx n % (s.lineDmax j + 1))) (ux 32 v)

/-- Every line whose source is tap `t` records (R127). -/
def recordLines (t : Nat) (v : Int) (n : Nat) (s : State) : State :=
  (s.linesV.filter (fun j => s.lineSrc j == t)).foldl (recordLine v n) s

/-- Commits value `v` to tap `t` for breath `n`: at most once per breath and in breath order, keeping the previous
value, formats every output that takes the tap, and lets the delay lines record it (R97, R112, R127). -/
def commitTap (t : Nat) (v : Int) (n : Nat) (s : State) : State :=
  let x := s.tap t
  if !isTap t || n < x.at_ then s
  else
    let s := { s with mtx := { s.mtx with taps := mset {} t ⟨v, x.cur, x.prev, n + 1⟩ s.mtx.taps } }
    recordLines t v n ((s.outsOf t).foldl (fun u o => formatStep o v n u) s)

/-- The tap has committed for breath `n`. -/
def State.committed (s : State) (t n : Nat) : Bool := (s.tap t).at_ == n + 1

/-- The value an output of section `i` commits in breath `n` where `x` is computed: ramp-in and ramp-out of R158. -/
def State.secRamp (s : State) (i n : Nat) (x : Int) : Int :=
  let q := s.sec i
  let x := match q.rampIn with
    | some r => if n < r then 0 else if n + 1 < r + 32 then Int.tdiv (x * (n - r + 1 : Nat)) 32 else x
    | none => x
  match q.rampOut with
  | some b => if n < b then x else if n + 1 < b + 32 then x - Int.tdiv (x * (n - b + 1 : Nat)) 32 else 0
  | none => x

/-- A reed-output tap commits its computed value through the ramps of its section. -/
def commitReed (t : Nat) (x : Int) (n : Nat) (s : State) : State :=
  match s.tapOwner t with
  | some i => commitTap t (s.secRamp i n x) n s
  | none => commitTap t x n s

end Sys2Proof.Machine
end

