-- ==== Sys2Proof/Machine/DispOps.lean ====
section
/-!
DEFINITION. Parts of the dispatcher that other units act on: the core map, spares, physical cores going idle or
isolated, fencing a core (R42, R54–R61).
-/
namespace Sys2Proof.Machine

/-- Physical core that holds a logical core: DISP_MAP; 0xFF for none (R61). -/
def State.physOf (s : State) (l : Nat) : Nat :=
  match l % 4 with
  | 0 => s.get (F.DISP_MAP_PHYS0 (l / 4)) | 1 => s.get (F.DISP_MAP_PHYS1 (l / 4))
  | 2 => s.get (F.DISP_MAP_PHYS2 (l / 4)) | _ => s.get (F.DISP_MAP_PHYS3 (l / 4))

def State.setPhys (s : State) (l p : Nat) : State :=
  match l % 4 with
  | 0 => s.set (F.DISP_MAP_PHYS0 (l / 4)) p | 1 => s.set (F.DISP_MAP_PHYS1 (l / 4)) p
  | 2 => s.set (F.DISP_MAP_PHYS2 (l / 4)) p | _ => s.set (F.DISP_MAP_PHYS3 (l / 4)) p

/-- Logical core that a physical core holds. -/
def State.logOf (s : State) (p : Nat) : Option Nat := (List.range 128).find? (fun l => s.physOf l == p)

/-- State of a physical core beyond its registers. -/
def State.coreS (s : State) (c : Nat) : CoreS := mget {} c s.core
def State.setCore (s : State) (c : Nat) (x : CoreS) : State := { s with core := mset {} c x s.core }

/-- RC_STAT.STATE codes (R95). -/
def rcGATED : Nat := 0
def rcIDLE : Nat := 1
def rcRUNNING : Nat := 2
def rcHALTED : Nat := 3
def rcISOLATED : Nat := 4
def rcBIST : Nat := 5

/-- The physical core is fenced (DISP_FENCED). -/
def State.coreFenced (s : State) (p : Nat) : Bool :=
  if p < 128 then bitOf (s.get (F.DISP_FENCED_FENCED (p / 32))) (p % 32) else bitOf (s.get F.DISP_FENCED4_FENCED) (p - 128)

def State.setCoreFenced (s : State) (p : Nat) : State :=
  if p < 128 then s.setBit (F.DISP_FENCED_FENCED (p / 32)) (p % 32) true else s.setBit F.DISP_FENCED4_FENCED (p - 128) true

/-- The logical core is lost (DISP_LOST). -/
def State.coreLost (s : State) (l : Nat) : Bool := bitOf (s.get (F.DISP_LOST_LOST (l / 32))) (l % 32)

/-- Fence timeline of a logical core, if one runs (R59). -/
def State.fenceTl (s : State) (l : Nat) : Option FenceTl := mget none l s.disp.fenceTl
def State.setFenceTl (s : State) (l : Nat) (x : Option FenceTl) : State :=
  { s with disp := { s.disp with fenceTl := mset none l x s.disp.fenceTl } }

/-- Physical core that a load of logical core `l` goes to: its holder, or the spare loaded to take it over (R59). -/
def State.loadCoreOf (s : State) (l : Nat) : Nat :=
  if s.physOf l < 136 then s.physOf l
  else match s.fenceTl l with
    | some f => if f.restart.isSome then f.spare.getD 0xFF else 0xFF
    | none => 0xFF

/-- Active logical cores of the mode. -/
def State.activeCores (s : State) : Nat := s.mode.cores

/-- A healthy idle spare: not fenced, holds no logical core, not power-gated, not taking part in a step, a self-test or
a load (R53, R58, R59). -/
def State.idleSpare (s : State) (p : Nat) : Bool :=
  p < 136 && !s.coreFenced p && (s.logOf p).isNone && !s.disp.pgated.contains p
  && (match s.disp.rot with | some r => r.p != p && r.q != p | none => true)
  && (match s.disp.bistSpare with | some (b, _) => b != p | none => true)
  && (List.range 128).all (fun l => match s.fenceTl l with | some f => f.spare != some p | none => true)

/-- The lowest-numbered healthy idle spare. -/
def State.lowestSpare (s : State) : Option Nat := (List.range 136).find? (fun p => s.idleSpare p)

/-- DISP_STAT.SPARES: healthy cores beyond the 128 logical ones (R61). -/
def showSpares (s : State) : State :=
  s.set F.DISP_STAT_SPARES (8 - min 8 ((List.range 136).countP (fun p => s.coreFenced p)))

/-- Mailbox `k` is posted, not yet applied, and due in the breath in progress (R115, R116). -/
def State.mboxDue (s : State) (k : Nat) : Bool :=
  s.get (F.MTX_MBOX_STAT_STATE k) == 1 && mget 0 k s.mtx.mboxN != 0 && s.breathing && s.disp.started
  && serAtOrAfter 48 (bidx s.n) (mget 0 k s.mtx.mboxB)

/-- A record of mailbox `k` writes a word to logical core `l` (R114). -/
def State.mboxNames (s : State) (k l : Nat) : Bool :=
  (List.range (mget 0 k s.mtx.mboxN)).any (fun r =>
    let w := s.get (F.MTX_MBREC (128 * k + 2 * r))
    (w / 2 ^ 28 == 1 || w / 2 ^ 28 == 2) && bits 26 20 w == l)

/-- An instance of `l` of a breath before `b` is armed and has not ended (R116). -/
def State.earlierInst (s : State) (l b : Nat) : Bool :=
  s.disp.insts.any (fun i => i.lcore == l && decide (i.breath < b) && i.ended.isNone)

/-- The dispatcher's copy of a task-list entry (R37). -/
def State.task (s : State) (l k : Nat) : Option TaskE := mget none (128 * l + k) s.disp.tasks

/-- Reed-output taps of an entry (R38). -/
def TaskE.taps (e : TaskE) : List Nat := (List.range e.outCount).map (fun j => reedTap0 + e.outBase + j)

/-- Applies `f` to the task instances that satisfy `p`. -/
def mapInsts (p : Inst → Bool) (f : Inst → Inst) (s : State) : State :=
  { s with disp := { s.disp with insts := s.disp.insts.map (fun i => if p i then f i else i) } }

/-- A write of bytes into a core's memories, noting the 256-byte granules of X and Y that a hand-over must copy again
(R54). -/
def coreWrite (c a : Nat) (bs : List Byte) (s : State) : State :=
  let s := s.setBytes a bs
  match s.disp.rot with
  | some r =>
    let holder := if r.back then r.q else r.p
    let o := a - coreBase c
    if r.hand.isSome && holder == c && 0x10000 ≤ o && o < 0x28000 && !r.dirty.contains (o / 256)
    then { s with disp := { s.disp with rot := some { r with dirty := (o / 256) :: r.dirty } } } else s
  | none => s

/-- An external write of bytes to a core's memories (R64): one to Y waits while the instruction last fetched holds the Y write
slot, or behind others that wait (DEDUCED: log entry 7). -/
def extWrite (c a : Nat) (bs : List Byte) (s : State) : State :=
  let x := s.coreS c
  if yBase c ≤ a && a < yBase c + 0x8000 && x.lastY then s.setCore c { x with yext := x.yext ++ [(a, bs)] }
  else coreWrite c a bs s

/-- The Y write slot of core `c` is free: the external writes that wait land (R64). -/
def landY (c : Nat) (s : State) : State :=
  let x := s.coreS c
  x.yext.foldl (fun u e => coreWrite c e.1 e.2 u) (s.setCore c { x with yext := [] })

/-- The instruction last fetched by core `c` has left MEM (R64). -/
def leaveMem (c : Nat) (s : State) : State :=
  let s := landY c s
  s.setCore c { s.coreS c with lastW := [], lastY := false }

/-- A word of a core's memories as an external read in the cycle of the instruction last fetched finds it: the value before that
instruction's write (R64). -/
def State.extWord (s : State) (c a : Nat) : Nat :=
  match (s.coreS c).lastW.find? (fun e => e.1 == a) with | some e => e.2 | none => s.word a

/-- Counts the cycles that the instance on core `p` has executed by its cycle `cyc`, and not counted before, for its logical core
`l` in the breath in progress (R48). -/
def countCycles (p l cyc : Nat) (s : State) : State :=
  let x := s.coreS p
  let tot := mget 0 l s.disp.cycles + (cyc - x.counted)
  let s := { s with disp := { s.disp with cycles := mset 0 l tot s.disp.cycles } }.setCore p { x with counted := max cyc x.counted }
  s.set (F.DISP_CORE_STAT_BUSY_MAX l) (max (s.get (F.DISP_CORE_STAT_BUSY_MAX l)) (min tot 65535))

/-- Counts the cycles of the instance on core `p`, if it runs one, up to where it stands (R48). -/
def countCore (p : Nat) (s : State) : State :=
  match (s.coreS p).inst with
  | some i => countCycles p i.lcore (s.coreS p).cyc s
  | none => s

/-- A physical core stops what it runs, halted or not, and shows state `st` (R48, R95). -/
def stopCore (p st : Nat) (s : State) : State :=
  ((((leaveMem p (countCore p s)).setCore p {}).set (F.RC_STAT_STATE p) st).set (F.RC_TASK_RUNNING p) 0).set (F.RC_DBGPC_PC p) 0

/-- Result of a requested self-test (R58). -/
def bistResult (ok : Bool) (s : State) : State :=
  (s.set F.DISP_BIST_STAT_BUSY 0).set F.DISP_BIST_STAT_RESULT (if ok then 1 else 2)

/-- No rotation step is in progress any more: the next starts at a later breath start (R55). -/
def endStep (s : State) : State :=
  { s with disp := { s.disp with rot := none, rotFree := s.n + 1 } }.set F.DISP_ROT_STAT_PHASE 0

/-- Drops step `r`, of which core `p` has been fenced (R56, R59): the other core goes idle unless it holds a logical core.
A receiver lost before the switch leaves the step to be tried again at the next step instant, and a requested self-test that
has not ended is tried again too, or fails with its core (DEDUCED: log entry 63). -/
def dropRot (p : Nat) (r : RotS) (s : State) : State :=
  let other := if r.p == p then r.q else r.p
  let s := endStep s
  let s := if (s.logOf other).isNone && !s.coreFenced other then stopCore other rcGATED s else s
  if r.back then s
  else if r.requested then
    if p == r.p then bistResult false s else { s with disp := { s.disp with bistReq := some r.p } }
  else if p == r.q && r.hand.isSome then { s with disp := { s.disp with rotNext := r.lcore } }
  else s

/-- A load of spare `p` that has been fenced meanwhile begins again with another (R59) (DEDUCED: log entry 63). -/
def dropSpare (p : Nat) (s : State) : State :=
  (List.range 128).foldl (fun u l =>
    match u.fenceTl l with
    | some f => if f.spare == some p then u.setFenceTl l (some { f with spare := none, restart := none }) else u
    | none => u) s

/-- The taps of the instances of `l` in breath `b` that have not committed it repeat (R59). -/
def repeatTaps (l b : Nat) (s : State) : State :=
  (s.disp.insts.filter (fun i => i.lcore == l && i.breath == b)).foldl (fun u i =>
    match u.task l i.task with
    | some e => e.taps.foldl (fun v t => commitTap t (v.tap t).cur b v) u
    | none => u) s

/-- Physical core `p` is fenced (R59): isolated for good; the instances of the logical core it holds are abandoned, and
that core waits for a spare if it is active; where the commits of 100 ns into a breath are over, its taps repeat now. A step or a self-test it takes part in ends. -/
def fenceCore (p : Nat) (s : State) : State :=
  let s := showSpares (s.setCoreFenced p)
  let s := stopCore p rcISOLATED s
  let hold := s.logOf p
  let s := match s.disp.rot with
    | some r => if r.p == p || r.q == p then dropRot p r s else s
    | none => s
  let s := match s.disp.bistSpare with
    | some (b, _) => if b == p then bistResult false { s with disp := { s.disp with bistSpare := none } } else s
    | none => s
  let s := dropSpare p s
  match hold with
  | none => s
  | some l =>
    let s := s.setPhys l 0xFF
    if l < s.activeCores then
      let s := mapInsts (fun i => i.lcore == l && i.ended.isNone) (fun i => { i with ended := some .fenced }) s
      ([s.n - 1, s.n].filter (fun b => b < s.disp.defaultB)).foldl (fun u b => repeatTaps l b u)
        (s.setFenceTl l (some { f := s.n, p := p }))
    else s

/-! ## Deliveries that are due (R128, R133) -/

/-- Delay in force of a line. -/
def State.lineDelay (s : State) (j : Nat) : Nat := (s.lineS j).delay.getD (bits 23 0 (s.lineW 0 j))

/-- The section of a line runs, so that it delivers (R157). -/
def State.lineRuns (s : State) (j : Nat) : Bool :=
  s.lineValid j && (s.secState (s.lineSec j) == secRUNNING || s.secState (s.lineSec j) == secRAMPOUT)

/-- The sample that a delivery of breath `b` takes under delay `d` has committed (R128). -/
def State.delayDue (s : State) (j d b : Nat) : Bool :=
  match (s.lineS j).hist with
  | some h => b < h + d || b - d + 1 ≤ (s.tap (s.lineSrc j)).at_
  | none => 0 < d

/-- What line `j` delivers in breath `b` has committed (R128): in a crossfade the samples of both delays (R133). -/
def State.lineDue (s : State) (j b : Nat) : Bool :=
  s.delayDue j (s.lineDelay j) b
  && (match (s.lineS j).xf with | some (o, b0) => !(b0 ≤ b && b < b0 + 64) || s.delayDue j o b | none => true)

/-- A line that delivers to core `l` has a delivery for breath `b` outstanding, whose sample has committed (R128). -/
def State.deliveryOut (s : State) (l b : Nat) : Bool :=
  s.linesV.any (fun j => bits 31 25 (s.lineW 1 j) == l && s.lineRuns j && (s.lineS j).delivered < b + 1 && s.lineDue j b)

/-- Copies the bytes of the ranges `p` of one core window to another (R54). -/
def copyWindow (src dst : Nat) (p : Nat → Bool) (s : State) : State :=
  let inWin := fun (c a : Nat) => coreBase c ≤ a && a < coreBase (c + 1) && p (a - coreBase c)
  let from_ := s.mem.filter (fun e => inWin src e.1)
  let s := s.clearMem (fun a => inWin dst a)
  from_.foldl (fun t e => t.setByte (coreBase dst + (e.1 - coreBase src)) e.2) s

/-- The ranges a hand-over copies: I, X, Y and the task list (R54). -/
def handRange (o : Nat) : Bool :=
  o < 0x8000 || (0x10000 ≤ o && o < 0x18000) || (0x20000 ≤ o && o < 0x28000) || (0x30800 ≤ o && o < 0x31000)

end Sys2Proof.Machine
end

