-- ==== Sys2Proof/Machine/TwinLink.lean ====
section
/-!
DEFINITION. The TWIN unit's frames, roles, link states and quiet masks: the parts other units act on (R288–R290, R299,
R309).
-/
namespace Sys2Proof.Machine

/-- Link states and roles of TWIN_STAT. -/
def tlOFF : Nat := 0
def tlSEEK : Nat := 1
def tlPAIRED : Nat := 2
def trNONE : Nat := 0
def trLEAD : Nat := 1
def trFOLLOW : Nat := 2
def State.tlink (s : State) : Nat := s.get F.TWIN_STAT_LINK
def State.trole (s : State) : Nat := s.get F.TWIN_STAT_ROLE
def State.twinPaired (s : State) : Bool := s.tlink == tlPAIRED

/-- Phases of a re-seat (TWIN_RS_STAT.PHASE). -/
def rsIDLE : Nat := 0
def rsREQUESTED : Nat := 1
def rsRECEIVING : Nat := 2
def rsLOADING : Nat := 3
def rsCATCHUP : Nat := 4
def rsCHECKING : Nat := 5
def rsCAPTURE : Nat := 6
def rsSENDING : Nat := 7
def State.rsPhase (s : State) : Nat := s.get F.TWIN_RS_STAT_PHASE
def State.rsSet (s : State) : Nat := s.get F.TWIN_RS_STAT_SET
def setRs (f : ReseatS → ReseatS) (s : State) : State := { s with twin := { s.twin with rs := f s.twin.rs } }

/-- The device's serial number (R32). -/
def ownSerial : Nat := Config.serial.toNat

/-- A frame enters queue 7 of TWINMAC, padded to the least length; `alone` puts it at the head of the queue and drops
what waits there. Nothing is sent while the port is down (R195, R288, R320). -/
def twinQueue (alone : Bool) (bs : List Byte) (s : State) : State :=
  if s.get (F.NET_STAT_LSTATE 4) != 4 then s
  else
    let x : PortS := mget {} 4 s.net.port
    let f : TxFrame := { q := 7, bytes := bs ++ List.replicate (60 - bs.length) 0 }
    let q := if alone then f :: x.txq.filter (fun g => g.q != 7) else x.txq ++ [f]
    { s with net := { s.net with port := mset {} 4 { x with txq := q } s.net.port } }

/-- A TWIN frame with this SUBTYPE and the bytes from H + 12 on enters queue 7 (R288) (DEDUCED: log entry 24). -/
def putTwin (alone : Bool) (sub : Nat) (body : List Byte) (s : State) : State :=
  let hdr : List Byte := [0x01, 0x80, 0xC2, 0x00, 0x00, 0x0E] ++ beBytes 2 (s.get F.TWIN_SA_HI_SA_HI)
    ++ beBytes 4 (s.get F.TWIN_SA_LO_SA_LO) ++ [0x88, 0xB5, BitVec.ofNat 8 sub, 0x01] ++ beBytes 2 s.twin.seq ++ beBytes 8 ownSerial
  twinQueue alone (hdr ++ body) { s with twin := { s.twin with seq := (s.twin.seq + 1) % 65536 } }

/-- Sends a TWIN frame; after the FLATLINE of a QUIET or HALT, or of an input fall, the unit sends nothing (R288, R320, R350). -/
def sendTwin (sub : Nat) (body : List Byte) (s : State) : State :=
  if s.fcu.quietAt.isSome || s.fcu.haltAt.isSome || s.pmu.fallAt.isSome then s else putTwin false sub body s

/-- Sets LINK or ROLE, with its event (R290, R293, R368). -/
def setTlink (l : Nat) (s : State) : State :=
  if s.tlink == l then s else allEvt evTWIN ((s.set F.TWIN_STAT_LINK l).set F.TWIN_EVT_LINK 1)
def setTrole (r : Nat) (s : State) : State :=
  if s.trole == r then s else allEvt evTWIN ((s.set F.TWIN_STAT_ROLE r).set F.TWIN_EVT_ROLE 1)

/-! ## Quiet (R299, R300) -/

/-- Reasons, ranked by their codes. -/
def qrDIVERGED : Nat := 1
def qrIMAGE : Nat := 2
def qrJOIN : Nat := 3
def State.quietReason (s : State) (i : Nat) : Nat := s.get F.TWIN_QREASON_REASON / 4 ^ i % 4

/-- Gives section `i` a quiet reason; 0 lifts its quiet. -/
def putReason (i r : Nat) (s : State) : State :=
  let q := s.get F.TWIN_QREASON_REASON
  (s.set F.TWIN_QREASON_REASON (q - q / 4 ^ i % 4 * 4 ^ i + r * 4 ^ i)).setBit F.TWIN_QUIET_OWN i (r != 0)

/-- Section `i` is quiet for reason `r`, or for a higher-ranked one it has already. -/
def addQuiet (r : Nat) (i : Nat) (s : State) : State := putReason i (max r (s.quietReason i)) s

/-- Every quiet is lifted. -/
def liftAll (s : State) : State := ((s.set F.TWIN_QREASON_REASON 0).set F.TWIN_QUIET_OWN 0).set F.TWIN_STAT_UNCOVERED 0

/-- A re-seat or a capture ends without a result: its phase reads IDLE. -/
def rsIdle (s : State) : State := setRs (fun r => { tries := r.tries }) (s.set F.TWIN_RS_STAT_PHASE rsIDLE)

/-! ## FLATLINE and the end of pairing (R290, R309) -/

/-- Contents of a FLATLINE: breath, class and fault source (R309). -/
def State.flatline (s : State) (cls src : Nat) : List Byte := beBytes 6 (bidx s.n) ++ [BitVec.ofNat 8 cls, 0] ++ beBytes 2 src

/-- FLATLINE of a QUIET or HALT, at the head of the queue (R309, R320, R322) (DEDUCED: log entry 24). -/
def queueFlatline (cls src : Nat) (s : State) : State :=
  if s.tlink == tlOFF then s else putTwin true 0x22 (s.flatline cls src) s

/-- Pairing ends: FLATLINE of class DISABLE, every quiet lifted, every re-seat abandoned (R290). -/
def pairingOff (s : State) : State :=
  if s.tlink == tlOFF then s
  else
    let s := rsIdle (liftAll (sendTwin 0x22 (s.flatline 4 0) s))
    let s := ((s.set F.TWIN_STAT_ALIGNED 0).set F.TWIN_CMD_STAT_BUSY 0)
    setTrole trNONE (setTlink tlOFF { s with twin := { seq := s.twin.seq, left := s.twin.left } })

end Sys2Proof.Machine
end

