-- ==== Sys2Proof/Machine/UnitOps.lean ====
section
/-!
DEFINITION. Named operations of the units that faults act on: slots and locks (R26, R151–R154), links and ports
(R167–R169), serial ports and bitstream inputs going off (R264, R279). `raise` is how a fault source is raised.
-/
namespace Sys2Proof.Machine

/-- Slot of a master (H0–H3, HP, HS). -/
def slotOf (m : Nat) : Option Nat := if 16 ≤ m && m ≤ 21 then some (m - 16) else none

/-- Master of a slot. -/
def slotMaster (n : Nat) : Nat := 16 + n

/-- Lock states (SECn_LOCK.STATE). -/
def lkFREE : Nat := 0
def lkHELD : Nat := 1
def lkVERIFYING : Nat := 2
def lkREADY : Nat := 3
def lkSTARTED : Nat := 4
def State.lockState (s : State) (i : Nat) : Nat := s.get (F.SECn_LOCK_STATE i)

/-- Section `i` is committing: its commit is started, and breath S has begun (R93, R157). -/
def State.commits (s : State) (i : Nat) : Bool := s.lockState i == lkSTARTED && s.disp.started && (s.sec i).sB ≤ s.n

/-! ## Buffers (R149, R152) -/

/-- Pending buffer of a section. -/
def State.pendBase (s : State) (i : Nat) : Nat := stagingBase i (1 - s.get (F.SECn_STAT_LIVEBUF i))
def State.liveBase (s : State) (i : Nat) : Nat := stagingBase i (s.get (F.SECn_STAT_LIVEBUF i))

/-- Discards a buffer: its contents are not kept (R152) (DESIGN CHOICE: log entry 19). -/
def discardBuf (base : Nat) (s : State) : State := s.clearMem (fun a => base ≤ a && a < base + 0x400000)

/-- Discards the pending buffer of a section and the result of its check (R152). -/
def discardPending (i : Nat) (s : State) : State := (discardBuf (s.pendBase i) s).set (F.SECn_RESULT_VERR i) 0

/-! ## Lock states (R151–R154) -/

/-- Sets the lock state and the bits of RVC_STAT. -/
def setLock (i st : Nat) (s : State) : State :=
  let s := s.set (F.SECn_LOCK_STATE i) st
  (s.setBit F.RVC_STAT_HELD i (st != lkFREE)).setBit F.RVC_STAT_STARTED i (st == lkSTARTED)

/-- The lock may break: HELD, VERIFYING or READY. -/
def State.lockLive (s : State) (i : Nat) : Bool := let st := s.lockState i; 1 ≤ st && st ≤ 3

/-- The lock returns to FREE with LASTEND `why`; its holder's slot has a LOCK event where `evt` (R152, R368). -/
def freeLock (i why : Nat) (evt : Bool) (s : State) : State :=
  let h := s.get (F.SECn_LOCK_HOLDER i)
  let s := if evt then (match slotOf h with | some n => slotEvt n evLOCK s | none => s) else s
  setLock i lkFREE (((s.set (F.SECn_LOCK_HOLDER i) 0).set (F.SECn_LOCK_TICKET i) 0).set (F.SECn_LOCK_LASTEND i) why)

/-- LASTEND codes. -/
def leDONE : Nat := 1
def leRELEASE : Nat := 2
def leLAPSE : Nat := 3
def leRESET : Nat := 4
def leFAULT : Nat := 5
def leFORCED : Nat := 6
def leAPPLY : Nat := 7

/-- The lock of section `i` breaks (R152, R153): ignored in FREE and STARTED. -/
def breakLock (i why : Nat) (s : State) : State :=
  if s.lockLive i then (freeLock i why true (discardPending i s)).setBit F.RVC_EVT_BROKEN i true else s

/-- Request `j` to the authentication engine goes to the end of its order (R353). -/
def askAuth (j : Nat) (s : State) : State := { s with boot := { s.boot with jobs := s.boot.jobs.filter (· != j) ++ [j] } }

/-- The engine has come to request `j`: none that still stands was made before it (R353). -/
def State.authTurn (s : State) (j : Nat) : Bool :=
  (s.boot.jobs.takeWhile (· != j)).all (fun q => if q == 16 then !s.on F.SEC_AUTH_STAT_BUSY else s.lockState q != lkVERIFYING)

/-- Breaks the locks that a master holds (R154). -/
def breakLocksOf (m why : Nat) (s : State) : State :=
  (List.range 16).foldl (fun u i => if u.get (F.SECn_LOCK_HOLDER i) == m then breakLock i why u else u) s

def State.portS (s : State) (p : Nat) : PortS := mget {} p s.net.port
def State.setPort (s : State) (p : Nat) (x : PortS) : State := { s with net := { s.net with port := mset {} p x s.net.port } }

/-! ## Links (R167–R170) -/

/-- LSTATE codes. -/
def lsDISABLED : Nat := 0
def lsAN : Nat := 1
def lsTRAINING : Nat := 2
def lsALIGN : Nat := 3
def lsUP : Nat := 4
def State.lstate (s : State) (p : Nat) : Nat := s.get (F.NET_STAT_LSTATE p)
def State.portUp (s : State) (p : Nat) : Bool := s.lstate p == lsUP

/-- Raises NET_EVT bit `b` where its enable is set (R185, R196). -/
def netEvt (p b : Nat) (f : Fd) (s : State) : State := if s.bit (F.NET_EVT_EN_EN p) b then s.setBit f (b - f.lsb) true else s

/-- LINKCHG with what it sets elsewhere (R169, R255, R368). -/
def linkChg (p : Nat) (s : State) : State :=
  let s := netEvt p 20 (F.NET_EVT_LINK p) (s.set (F.NET_STAT_LINKCHG p) 1)
  let s := if p < 4 then allEvt evLINK s else s
  capEvent 4 p s

/-- Enters LSTATE `st`; entering AN starts Clause 73. -/
def enterL (p st : Nat) (s : State) : State :=
  let s := s.setPort p { s.portS p with since := s.now, anWait := false }
  let s := if st == lsAN then s.set (F.NET_AN_LP_VALID p) 0 else s
  s.set (F.NET_STAT_LSTATE p) st

/-- Number of a stream: 64 × KIND + INDEX (R197). -/
def sidRx (i : Nat) : Nat := i
def sidTx (i : Nat) : Nat := 64 + i
def sidRx67 (i : Nat) : Nat := 128 + i
def sidTx67 (i : Nat) : Nat := 192 + i

/-- Paths of a stream: for path A and B, the port where the path is enabled (R201, R202). -/
def State.pathPort (s : State) (sid : Nat) (b : Bool) : Option Nat :=
  let w := s.get (F.STRM_DESC_WORD 0 sid)
  if sid < 128 then
    if b then (if bitOf w 21 then some (bits 20 19 w) else none) else (if bitOf w 24 then some (bits 23 22 w) else none)
  else
    if b then (if bitOf w 20 then some (bits 19 18 w) else none) else (if bitOf w 23 then some (bits 22 21 w) else none)

/-- Gate of queue `q` is open: always while no breath runs and on TWINMAC (R215). -/
def State.gateOpen (s : State) (p q : Nat) : Bool := p == 4 || !s.breathing || bitOf (s.portS p).gates q

/-- Credit of the queue 6 shaper brought up to the present (R218): it grows by the idleSlope while queue 6 waits or is
in debt, and is 0 at most while queue 6 is empty. Nothing changes while its gate is closed (PRESUMED: log entry 47). -/
def creditTick (p : Nat) (s : State) : State :=
  let x := s.portS p
  let d : Int := ((s.now - x.creditAt : Nat) : Int)
  let c := if s.gateOpen p 6 then x.credit + s.get (F.STRM_CBS_SLOPE_SLOPE p) * d else x.credit
  let c := if x.txq.any (fun f => f.q == 6) then c else min c 0
  s.setPort p { x with credit := c, creditAt := s.now }

/-- The credit of every NET port, before breaths stop or resume, and with them the gates' being all open (R215, R218). -/
def tickCredits (s : State) : State := [0, 1, 2, 3].foldl (fun u p => creditTick p u) s

/-- One serial port's hidden state. -/
def State.sapS (s : State) (p : Nat) : SapS := mget {} p s.sap
def State.setSap (s : State) (p : Nat) (x : SapS) : State := { s with sap := mset {} p x s.sap }


/-! ## Serial ports -/

/-- States of a port (R270). -/
def saOFF : Nat := 0
def saARMED : Nat := 1
def saALIGNING : Nat := 2
def saRUN : Nat := 3
def saUNALIGNED : Nat := 4
def saLOCLK : Nat := 5
def State.sapState (s : State) (p : Nat) : Nat := s.get (F.SAPp_STAT_STATE p)
def setSapState (p st : Nat) (s : State) : State := s.set (F.SAPp_STAT_STATE p) st

/-- Frame rate in Hz; 0 for a reserved code. -/
def sapRateHz (c : Nat) : Nat := match c with | 0 => 44100 | 1 => 48000 | 2 => 88200 | 3 => 96000 | 4 => 176400 | 5 => 192000 | _ => 0
def State.sapHz (s : State) (p : Nat) : Nat := sapRateHz (s.get (F.SAPp_CFG_RATE p))

/-- Largest SLOTS of a rate (R261). -/
def sapMaxSlots (c : Nat) : Nat := match c with | 0 => 32 | 1 => 32 | 2 => 16 | 3 => 16 | 4 => 8 | 5 => 8 | _ => 32

/-- Bits of a SLOTW or WORD code. -/
def sapBits (c : Nat) : Nat := match c with | 0 => 16 | 1 => 24 | _ => 32
def State.sapSlotW (s : State) (p : Nat) : Nat := sapBits (s.get (F.SAPp_CFG_SLOTW p))
def State.sapWord (s : State) (p : Nat) : Nat := sapBits (s.get (F.SAPp_CFG_WORD p))
def State.sapSlots (s : State) (p : Nat) : Nat := s.get (F.SAPp_CFG_SLOTS p)
def State.sapForeign (s : State) (p : Nat) : Bool := s.on (F.SAPp_CFG_DOMAIN p)
def State.sapMaster (s : State) (p : Nat) : Bool := s.on (F.SAPp_CFG_MASTER p)

/-- Bit clocks between the FS edge and the MSB of slot 0 (R260). -/
def State.sapD (s : State) (p : Nat) : Nat := match s.get (F.SAPp_CFG_FMT p) with | 0 => 1 | 1 => 0 | _ => s.get (F.SAPp_CFG_DELAY p)

/-- Instant of bit clock `k` after the FS edge, in 1/256 ns. -/
def State.sapBitAt (s : State) (p k : Nat) : Nat := k * 256000000000 / max 1 (s.sapHz p * (s.sapSlots p * s.sapSlotW p))

/-- MSB and end of slot `t`, after the FS edge (R265). -/
def State.slotMsb (s : State) (p t : Nat) : Nat := s.sapBitAt p (s.sapD p + s.sapSlotW p * t)
def State.slotEnd (s : State) (p t : Nat) : Nat := s.sapBitAt p (s.sapD p + s.sapSlotW p * (t + 1))

/-- The bits of a received slot, MSB first in its SLOTW bits, as Q1.31 (R262). -/
def State.slotValue (s : State) (p w : Nat) : Int :=
  let n := s.sapWord p
  sx 32 (w % 2 ^ s.sapSlotW p / 2 ^ (s.sapSlotW p - n) * 2 ^ (32 - n))

/-- FRAME_OFS in 1/256 ns, modulo the serial-clock cycles of a breath (R265). -/
def State.sapFixedOfs (s : State) (p : Nat) : Nat :=
  s.get (F.SAPp_TIMING_FRAME_OFS p) % (49152000 / s.fs) * 256000000000 / 49152000

/-- First tap of a port (R263). -/
def State.sapTap0 (s : State) (p : Nat) : Nat := 0x0C00 + s.get (F.SAPp_MAP_TAP_BASE p)

/-- BLOCKLEN (R284). -/
def State.sapBlock (s : State) (p : Nat) : Nat := match s.get (F.SAPp_MAP_BLOCKLEN p) with | 0 => 64 | n => n

/-- Set bits of a mask that name slots of the port. -/
def State.maskCount (s : State) (p m : Nat) : Nat := (List.range (s.sapSlots p)).countP (fun t => bitOf m t)

/-- Enabled slots of the enabled ports other than `q`, receive or transmit (R261). -/
def State.slotsUsed (s : State) (tx : Bool) (q : Nat) : Nat :=
  ((List.range 16).filter (fun p => p != q && s.on (F.SAPp_CFG_EN p))).foldl
    (fun n p => n + s.maskCount p (s.get (if tx then F.SAPp_TXMASK_MASK p else F.SAPp_RXMASK_MASK p))) 0

/-- SAP_STAT shows the totals (R284). -/
def showSap (s : State) : State :=
  (s.set F.SAP_STAT_RX_SLOTS (s.slotsUsed false 16)).set F.SAP_STAT_TX_SLOTS (s.slotsUsed true 16)

/-- The port returns to OFF with EN = 0; its taps then commit 0 (R264). -/
def sapOff (p : Nat) (s : State) : State := showSap ((setSapState p saOFF (s.set (F.SAPp_CFG_EN p) 0)).setSap p {})

/-! ## Bitstream inputs -/

/-- States of a channel (R285). -/
def bsOFF : Nat := 0
def bsARMED : Nat := 1
def bsFILL : Nat := 2
def bsRAMPIN : Nat := 3
def bsRUN : Nat := 4
def State.bsiState (s : State) (c : Nat) : Nat := s.get (F.BSIc_STAT_STATE c)
def State.bsiS (s : State) (c : Nat) : BsiS := mget {} c s.bsi
def State.setBsi (s : State) (c : Nat) (x : BsiS) : State := { s with bsi := mset {} c x s.bsi }

/-- BSI_STAT counts the channels that run. -/
def showBsi (s : State) : State :=
  s.set F.BSI_STAT_RUNNING ((List.range 32).countP (fun c => bsFILL ≤ s.bsiState c))
def setBsiState (c st : Nat) (s : State) : State := showBsi (s.set (F.BSIc_STAT_STATE c) st)

/-- The channel returns to OFF. -/
def bsiOff (c : Nat) (s : State) : State := setBsiState c bsOFF ((s.set (F.BSIc_CFG_EN c) 0).setBsi c {})

/-! ## Surveillance -/

/-- A measurement window freezes the DC blocker of channel `c` (R394). -/
def State.survFreezes (s : State) (c : Nat) : Bool :=
  match s.surv.win with
  | some w => w.first.isSome && w.lines.any (fun j => s.on (F.SURV_LINE_CFG_DCFRZ j)
      && (s.get (F.SURV_LINE_CFG_VCH j) == c || s.get (F.SURV_LINE_CFG_ICH j) == c))
  | none => false

/-! ## Converter channels -/

def State.asrcCh (s : State) (k : Nat) : AsrcCh := mget {} k s.asrc.ch
def State.setAsrcCh (s : State) (k : Nat) (x : AsrcCh) : State := { s with asrc := { s.asrc with ch := mset {} k x s.asrc.ch } }

/-- The registers enable the channel: a reserved FKIND leaves it disabled (R123). -/
def State.asrcOn (s : State) (k : Nat) : Bool :=
  s.on F.ASRC_CTRL_EN && s.on (F.ASRC_CH_CFG_EN k) && s.get (F.ASRC_CH_CFG_FKIND k) < 2

/-- ASRC_STAT counts the channels. -/
def showAsrc (s : State) : State :=
  (s.set F.ASRC_STAT_ENABLED ((List.range 256).countP (fun k => s.asrcOn k))).set F.ASRC_STAT_LOCKED
    ((List.range 256).countP (fun k => s.on (F.ASRC_CH_STAT_LOCKED k)))

/-- The channel sounds: LOCKED, or in a MODE other than TRACK, and not fading (R120). -/
def State.asrcSounds (s : State) (k : Nat) : Bool :=
  let x := s.asrcCh k
  x.lostFor == 0 && (s.on (F.ASRC_CH_STAT_LOCKED k) || x.live.any (fun c => c.mode != 0))

/-- Channel `k` leaves LOCKED, or stops sounding without having been LOCKED; the truth value tells which (R120). -/
def asrcFade (k : Nat) (s : State) : Bool × State :=
  let was := s.on (F.ASRC_CH_STAT_LOCKED k)
  let s := if s.asrcSounds k then s.setAsrcCh k { s.asrcCh k with lostFor := 1, rampIn := 32, stableAt := s.now } else s
  (was, if was then showAsrc ((s.set (F.ASRC_CH_STAT_LOCKED k) 0).incSat (F.ASRC_CH_STAT_UNLOCKS k)) else s)

/-! ## Links going down (R169, R209) -/

/-- Path A or B of a stream goes down (R209). -/
def pathDownBy (raise : Nat → Nat → State → State) (sid : Nat) (b : Bool) (s : State) : State :=
  let f := if b then F.STRM_DSTAT_PATH_B sid else F.STRM_DSTAT_PATH_A sid
  if s.on f then allEvt evSTREAM (raise 32 (sid + (if b then 32768 else 0)) (s.set f 0)) else s

/-- A port has left UP: the paths on it go down at once (R209, R213). -/
def portPathsDownBy (raise : Nat → Nat → State → State) (p : Nat) (s : State) : State :=
  (List.range 160).foldl (fun u k =>
    let sid := if k < 64 then k else if k < 96 then 128 + (k - 64) else 256
    let u := if u.pathPort sid false == some p then pathDownBy raise sid false u else u
    if u.pathPort sid true == some p then pathDownBy raise sid true u else u) s

/-- The link leaves UP (R169): frames of the stream queues are lost, ring frames wait. -/
def leaveUpBy (raise : Nat → Nat → State → State) (p : Nat) (report : Bool) (s : State) : State :=
  if !s.portUp p then s
  else
    let x := s.portS p
    let s := s.setPort p { x with txq := x.txq.filter (fun f => f.q < 6) }
    let s := linkChg p (((s.inc (F.NCNT_LINK_DOWNS p)).set (F.NET_STAT_LPI_TX p) 0).set (F.NET_STAT_LPI_RX p) 0)
    let s := if p < 4 then portPathsDownBy raise p s else s
    if report then raise (40 + 4 * p) 0 s else s

/-- An enabled stream descriptor names the port (R193). -/
def State.portMapped (s : State) (p : Nat) : Bool :=
  (List.range 256).any (fun sid => bitOf (s.get (F.STRM_DESC_WORD 0 sid)) 31
    && (s.pathPort sid false == some p || s.pathPort sid true == some p))

/-- Unit reset of a port (R29, R196): the link drops, registers and frames are lost. The module stays where it is. -/
def resetNetBy (raise : Nat → Nat → State → State) (p : Nat) (s : State) : State :=
  let s := leaveUpBy raise p true s
  let pins := (s.get (F.SFP_STAT_PRESENT p), s.get (F.SFP_STAT_LOS p), s.get (F.SFP_STAT_TX_FAULT p))
  let s := (s.resetRegs (inBlock (11 + p))).setPort p { insert := s.now }
  let s := if p < 4 then s.set (F.NET_STAT_AUDIO_HOLD p) (s.portMapped p).toNat else s
  ((s.set (F.SFP_STAT_PRESENT p) pins.1).set (F.SFP_STAT_LOS p) pins.2.1).set (F.SFP_STAT_TX_FAULT p) pins.2.2

end Sys2Proof.Machine
end

