-- ==== Sys2Proof/Machine/UnitStops.lean ====
section
/-!
DEFINITION. What a fence stops in each unit (R315), and the end of audio transmission (R320, R322). `raise` is how a
fault source is raised.
-/
namespace Sys2Proof.Machine

/-! ## Fence actions (R315) -/

/-- Phases of the controller of phase `i` (R379). -/
def phasesWith (i : Nat) : List Nat := if i < 3 then [0, 1, 2] else if i < 5 then [3, 4] else [5]

/-- Phase `i` is driven: enabled and not shed (R379). -/
def State.phaseDriven (s : State) (i : Nat) : Bool := s.bit F.PMU_PHASE_EN i && !s.bit F.PMU_PHASE_SHED i

/-- Shedding phase `i` would leave its controller with no driven phase (R315). -/
def lastPhase (s : State) (i : Nat) : Bool := (phasesWith i).all (fun j => j == i || !s.phaseDriven j)

/-- A fenced converter channel is disabled; its tap follows R120. -/
def fenceAsrc (i : Nat) (s : State) : State :=
  let s := (asrcFade i (s.set (F.ASRC_CH_CFG_EN i) 0)).2
  showAsrc (s.setAsrcCh i { s.asrcCh i with on := false, cfgPend := false })

/-- Stops the surveillance unit: no pilot, no measurement (R315). -/
def stopSurv (s : State) : State :=
  { (s.set F.SURV_CTRL_PILOT_EN 0).set F.SURV_STAT_BUSY 0 with surv := { s.surv with win := none } }

/-- The fence action of group `g` for INDEX `idx` (R315). -/
def fenceUnit (raise : Nat → Nat → State → State) (src g idx : Nat) (s : State) : State :=
  if g = 0 then fenceCore idx s
  else if g = 3 then fenceAsrc idx s
  else if 9 ≤ g && g ≤ 13 then
    let s := resetNetBy raise (g - 9) s
    { s with sys := { s.sys with held := if s.sys.held.contains (g + 2) then s.sys.held else (g + 2) :: s.sys.held } }
  else if g = 14 then pairingOff (s.set F.TWIN_CTRL_EN 0)
  else if g = 15 then sapOff idx s
  else if g = 16 then (if src = 75 then (List.range 8).foldl (fun u j => bsiOff (idx + j) u) s else bsiOff idx s)
  else if g = 19 then s.setBit F.PMU_PHASE_SHED idx true
  else if g = 21 then stopSurv s
  else if g = 22 then s.set F.LIG_STAT_STATE 6
  else if g = 23 then breakLocksOf (slotMaster idx) leFAULT s
  else s

/-! ## The end of audio transmission (R320, R322) -/

/-- Queues 6 and 7 of the NET ports lose what waits in them (DEDUCED: log entry 55). -/
def stopAudio (s : State) : State :=
  [0, 1, 2, 3].foldl (fun u p => let x := u.portS p; u.setPort p { x with txq := x.txq.filter (fun f => f.q < 6) }) s

/-- Every serial output slot drives 0 (R275, R320). -/
def zeroSerial (s : State) : State :=
  (List.range 16).foldl (fun u p => u.setSap p { u.sapS p with txw := [] }) s

end Sys2Proof.Machine
end

