-- ==== Sys2Proof/Machine/Fault.lean ====
section
/-!
DEFINITION. The fault collector: which lines are heard, classes, shadows, coalescing, records and the reactions
(R311–R322).
-/
namespace Sys2Proof.Machine

/-- Unit group of a source; reserved sources have none (R314). -/
def srcGroup (k : Nat) : Option Nat :=
  if k ≤ 5 then some 0 else if 8 ≤ k && k ≤ 11 then some 1 else if k = 16 || k = 17 then some 2
  else if k = 18 || k = 19 then some 3 else if 24 ≤ k && k ≤ 27 then some 4 else if k = 28 then some 5
  else if k = 29 then some 6 else if k = 30 then some 7 else if 32 ≤ k && k ≤ 34 then some 8
  else if 40 ≤ k && k ≤ 59 then some (9 + (k - 40) / 4) else if 64 ≤ k && k ≤ 68 then some 14
  else if k = 72 || k = 73 then some 15 else if k = 74 || k = 75 then some 16 else if 80 ≤ k && k ≤ 84 then some 17
  else if k = 85 then some 18 else if 88 ≤ k && k ≤ 93 then some 19 else if k = 94 || k = 95 then some 20
  else if k = 96 || k = 97 then some 21 else if 104 ≤ k && k ≤ 108 then some 24
  else if k = 109 || k = 110 then some 25 else if 112 ≤ k && k ≤ 114 then some 23
  else if k = 115 || k = 116 then some 22 else if k = 120 || k = 121 then some 26
  else if 124 ≤ k && k ≤ 127 then some 27 else none

/-- The group has a fence action, and whether that action needs an instance (R315). -/
def fenceNeeds (g : Nat) : Option Bool :=
  if g = 0 || g = 3 || g = 15 || g = 16 || g = 19 || g = 23 then some true
  else if (9 ≤ g && g ≤ 14) || g = 21 || g = 22 then some false else none

/-- INDEX names an instance of the group (R315). -/
def namesInstance (src g idx : Nat) : Bool :=
  if g = 0 then idx < 136 else if g = 3 then idx < 256 else if g = 15 then idx < 16
  else if g = 16 then (if src = 75 then idx + 7 < 32 else idx < 32)
  else if g = 19 then idx < 6 else if g = 23 then idx < 6 else false

/-- Sources whose INDEX names an instance that a fence can silence (R313). -/
def instanceSource (k : Nat) : Bool :=
  k ≤ 5 || k = 18 || k = 19 || (72 ≤ k && k ≤ 75) || k = 90 || k = 112 || k = 113

/-- A fence holds instance `i` of group `g`, or the whole group. -/
def State.fencedInst (s : State) (g i : Nat) : Bool := s.fcu.fences.any (fun f => f.group == g && f.index == i)
def State.fencedGroup (s : State) (g : Nat) : Bool := s.fcu.fences.any (fun f => f.group == g && f.index == 0xFFFF)

/-- Power states (PMU_STAT.PSTATE). -/
def psSTANDBY : Nat := 1
def psNAP : Nat := 2
def psREADY : Nat := 3
def psSHOW : Nat := 4
def State.pstate (s : State) : Nat := s.get F.PMU_STAT_PSTATE

/-- A boot powers or has powered every domain (R337). -/
def State.booting (s : State) : Bool := s.sys.boot != .none

/-- ENGINE, LOCAL and NET have been powered down after an input fall (R350). -/
def State.shed (s : State) : Bool := match s.pmu.fallAt with | some f => decide (f + uMs ≤ s.now) | none => false

/-- The power state whose domains are on: those of READY during a boot, at most those of NAP once an input fall has shed
the rest (R27, R337, R350). -/
def State.domains (s : State) : Nat :=
  let p := if s.booting then max psREADY s.pstate else s.pstate
  if s.shed then min psNAP p else p

/-- The domain of a group is on in the power state in force (R27). -/
def State.groupOn (s : State) (g : Nat) : Bool :=
  let ps := s.domains
  if g = 19 || g = 20 then true
  else if 9 ≤ g && g ≤ 13 then psREADY ≤ ps || (ps == psNAP && !s.shed && g ≤ 12 && bitOf (s.get F.PMU_WAKE_EN_WAKE_PORTS) (g - 9))
  else if 22 ≤ g then psNAP ≤ ps
  else psREADY ≤ ps

/-- Block index of a group that unit resets act on, plus one (R319). -/
def groupBlock (g : Nat) : Nat :=
  if 9 ≤ g && g ≤ 13 then g + 3 else if g = 15 then 18 else if g = 16 then 19 else if g = 21 then 20
  else if g = 3 then 24 else 0

/-- The collector ignores the line (R312, R313). -/
def State.lineIgnored (s : State) (src g idx : Nat) : Bool :=
  !s.groupOn g
  || (match s.sys.urst with | some (u, _) => groupBlock g == u + 1 | none => false)
  || s.fencedGroup g
  || (instanceSource src && (if src = 75 then (List.range 8).all (fun j => s.fencedInst g (idx + j)) else s.fencedInst g idx))
  || decide (s.now < mget 0 g s.fcu.groupUntil)
  || decide (s.now < mget 0 src s.fcu.wireUntil)

/-- Class configured for a source; source 120 is fixed at HALT (R314). -/
def State.classOf (s : State) (src : Nat) : Nat := if src = 120 then 3 else s.get (F.FCU_CLASS_CLASS (src / 16) (src % 16))

/-- SHADOW_US within its limits, in 1/256 ns (R319, R327). -/
def State.shadowLen (s : State) : Nat := (max 1 (min 1000 (s.get F.FCU_CTRL_SHADOW_US))) * uUs

/-- A group is shadowed at this instant (R319). -/
def State.shadowed (s : State) (g : Nat) : Bool :=
  (List.range 28).any (fun u =>
    bitOf (s.get (F.FCU_DEP_DEP u)) g && decide (mget 0 u s.fcu.shOpen < s.now) && decide (s.now < mget 0 u s.fcu.shEnd))

/-- Opens or restarts the shadow of group `u` from now on, ending at `e` (R319). -/
def openShadow (u e : Nat) (s : State) : State :=
  { s with fcu := { s.fcu with shOpen := mset 0 u s.now s.fcu.shOpen, shEnd := mset 0 u e s.fcu.shEnd } }

/-- The four words of a record (R318). -/
def recWords (r : FaultRec) : List Nat :=
  [r.index * 65536 + r.wire.toNat * 16384 + r.forced.toNat * 8192 + r.conseq.toNat * 4096 + r.cls * 1024 + r.src,
   r.time % 2 ^ 32, r.time / 2 ^ 32 % 2 ^ 32, r.breath % 2 ^ 32]

/-- A record enters FCU_REC, or is dropped, and a FAULT record is journalled (R318). -/
def addRecord (r : FaultRec) (s : State) : State :=
  let s := if 32 ≤ s.fcu.recs.length then (s.set F.FCU_REC_STAT_OVF 1).incSat F.FCU_REC_STAT_DROPPED
    else { s with fcu := { s.fcu with recs := s.fcu.recs ++ [r] } }.set F.FCU_REC_STAT_COUNT (s.fcu.recs.length + 1)
  let s := { s with fcu := { s.fcu with lastRec := mset 0 r.src (s.now + 1) s.fcu.lastRec } }
  journal jFAULT ((recWords r).flatMap (leBytes 4)) s

/-- Reaction state (FCU_STAT.STATE). -/
def State.fcuState (s : State) : Nat := s.get F.FCU_STAT_STATE

/-- FCU_LAST shows the reaction, every slot has its FAULT event, and CAP SRC 2 is stamped (R255, R327, R368). -/
def noteReaction (cls src idx : Nat) (s : State) : State :=
  capEvent 2 0 <| allEvt evFAULT ((((s.set F.FCU_LAST_VALID 1).set F.FCU_LAST_CLASS cls).set F.FCU_LAST_SOURCE src).set F.FCU_LAST_INDEX idx)

/-- The instances a fence holds: BSI_CLK names eight channels; a whole group has 0xFFFF (R315). -/
def fenceList (src g idx : Nat) : List FenceRec :=
  if fenceNeeds g = some false then [⟨src, g, 0xFFFF⟩]
  else if src = 75 then (List.range 8).map (fun j => ⟨src, g, idx + j⟩)
  else [⟨src, g, idx⟩]

/-- A FENCE of group `g`: the fence action, its record, FCU_FENCED and the shadow (R315, R316, R319). -/
def takeFence (raise : Nat → Nat → State → State) (src g idx : Nat) (s : State) : State :=
  let s := { s with fcu := { s.fcu with fences := s.fcu.fences ++ fenceList src g idx } }
  let s := (s.setBit F.FCU_FENCED_GROUPS g true)
  let s := noteReaction 1 src idx s
  let s := fenceUnit raise src g idx s
  let s := openShadow g (s.now + s.shadowLen) s
  journal jFENCE ([BitVec.ofNat 8 src, BitVec.ofNat 8 g] ++ leBytes 2 idx) s

/-- QUIET from now on (R320). -/
def takeQuiet (src idx : Nat) (s : State) : State :=
  let s := noteReaction 2 src idx (s.set F.FCU_STAT_STATE 1)
  queueFlatline 2 src { s with fcu := { s.fcu with quietAt := some s.now, autoDue := true } }

/-- HALT from now on (R322). -/
def takeHalt (src idx : Nat) (s : State) : State :=
  let s := noteReaction 3 src idx (s.set F.FCU_STAT_STATE 2)
  queueFlatline 3 src { s with fcu := { s.fcu with haltAt := some s.now, haltSrc := src, autoDue := false } }

/-- The reaction a FENCE turns into where its group cannot be fenced (R312, R315). -/
def fenceClass (src g idx : Nat) (wire : Bool) (s : State) : Nat :=
  match fenceNeeds g with
  | none => 2
  | some false => 1
  | some true =>
    if wire || !namesInstance src g idx then 2
    else if g = 19 && lastPhase s idx then 2 else 1

/-- The collector collects nothing: in HALT, later than the instant of its latch, and without power (R27, R317, R322)
(DEDUCED: log entry 31). -/
def State.fcuDeaf (s : State) : Bool :=
  (s.fcuState == 2 && s.fcu.haltAt != some s.now) || s.domains < psNAP || s.sys.off || s.sys.pinHeld

/-- A forced and a real event of one source at one instant are one event (R317). -/
def State.sameEvent (s : State) (src : Nat) (forced : Bool) : Bool :=
  s.fcu.recs.any (fun r => r.src == src && r.time == s.devNs && r.forced != forced) && mget 0 src s.fcu.lastRec == s.now + 1

/-- Its record has FORCED = 1 and the source's own INDEX (R317) (DEDUCED: log entry 31). -/
def mergeEvent (src idx : Nat) (forced : Bool) (s : State) : State :=
  { s with fcu := { s.fcu with recs := s.fcu.recs.map (fun r =>
      if r.src == src && r.time == s.devNs then { r with forced := true, index := if forced then r.index else idx } else r) } }

/-- A reaction of class QUIET or HALT against the port of a host slot breaks the locks it holds, as a fence does (R154). -/
def hostReaction (src g idx c : Nat) (wire : Bool) (s : State) : State :=
  if g == 23 && 2 ≤ c && !wire && namesInstance src g idx then breakLocksOf (slotMaster idx) leFAULT s else s

/-- An event that a line delivers: latch, class, shadow, coalescing, record, reaction (R311–R322). `grpSrc` is the source
whose group and class count: the event's own, or that of the broken wire. `raise` is what the events do that a fence
action itself raises (DEDUCED: log entry 31). -/
def collect (raise : Nat → Nat → State → State) (src idx grpSrc : Nat) (forced : Bool) (s : State) : State :=
  match srcGroup grpSrc with
  | none => s
  | some g =>
    let wire := src == 121
    if s.fcuDeaf || s.lineIgnored grpSrc g (if wire then 0xFFFF else idx) then s
    else if s.sameEvent src forced then mergeEvent src idx forced s
    else
      let s := s.setBit (F.FCU_PEND_PEND (src / 32)) (src % 32) true
      let s := s.incSat (F.FCU_SRCCNT_COUNT src)
      let c0 := if wire then max (s.classOf grpSrc) (s.get F.FCU_CTRL_WIRE_FLOOR) else s.classOf src
      let conseq := s.shadowed g
      let c1 := if conseq && c0 != 3 then 0 else c0
      let last := mget 0 src s.fcu.lastRec
      if c1 == 0 && last != 0 && decide (s.now < last - 1 + uMs) then s
      else
        let s := if conseq then s.incSat F.FCU_CONSEQ_COUNT else s
        let c2 := if c1 == 1 then fenceClass src g idx wire s else c1
        let s := addRecord ⟨src, idx, wire, forced, conseq, c2, s.devNs, bidx s.n⟩ s
        let s := hostReaction src g idx c2 wire s
        match c2 with
        | 1 => takeFence raise src g idx s
        | 2 => if s.fcuState != 0 then s else takeQuiet src idx s
        | 3 => if s.fcuState == 2 then s else takeHalt src idx s
        | _ => s

/-- Events raised `k` fence actions deep: a fence of a port raises LINK and PATH events (R169, R209). -/
def raiseDeep : Nat → Nat → Nat → State → State
  | 0, _, _, s => s
  | k + 1, src, idx, s => collect (raiseDeep k) src (idx % 65536) src false s

/-- A unit raises source `src` with INDEX `idx` (R311, R314). A chain of port fences has at most one level for each of
the five ports. -/
def raiseF (src idx : Nat) (s : State) : State := raiseDeep 6 src idx s

/-- A source pair held broken for `cycles` collector cycles (R311, R312). -/
def breakWire (src cycles : Nat) (forced : Bool) (s : State) : State :=
  if cycles < 4 then s
  else match srcGroup src with
    | none => s
    | some g =>
      if s.fcuDeaf || s.lineIgnored src g 0xFFFF then s
      else
        let s := s.setBit (F.FCU_WIREBAD_WIREBAD (src / 32)) (src % 32) true
        let s := collect (raiseDeep 6) 121 src src forced s
        { s with fcu := { s.fcu with wireUntil := mset 0 src (s.now + (cycles + 1000) * uNs) s.fcu.wireUntil } }

/-- Lines of group `g` are ignored for a further 1 µs (R313). -/
def deafen (g : Nat) (s : State) : State :=
  { s with fcu := { s.fcu with groupUntil := mset 0 g (s.now + uUs) s.fcu.groupUntil } }

end Sys2Proof.Machine
end

