-- ==== Sys2Proof/Machine/Access.lean ====
section
/-!
DEFINITION. Who may access what: address decoding, widths, access tables, region tables, fixed rules, captures and
violations (R10, R24, R93, R150, R354–R359, R372, R420) and the summary generation (R374).
-/
namespace Sys2Proof.Machine

/-! ## Masters (R26) -/

def mHK : Nat := 0
def mCC : Nat := 1
def mDLYDMA : Nat := 5
def mNETDMA : Nat := 8
def mBOOT : Nat := 10
def mHP : Nat := 20
def mHS : Nat := 21
def mDBG : Nat := 22

/-! ## Decoding (R24, R25) -/

/-- Where an address leads. -/
inductive Target where
  /-- Register block and offset. -/
  | reg (b o : Nat)
  /-- Core registers or task list of a core window: core and offset from 0x3_0000. -/
  | coreReg (c o : Nat)
  /-- Memory target of the region tables (R357). -/
  | mem (t : Nat)
  deriving DecidableEq, Repr

/-- The target of an address, none for an address outside every region and for a hole (R24, R25). -/
def targetOf (a : Nat) : Option Target :=
  if a < 0x40000 then some (.mem 0)
  else if 0x08000000 ≤ a && a < 0x08010000 then some (.mem 1)
  else if 0x10000000 ≤ a && a < 0x10200000 then some (.mem 2)
  else if 0x20000000 ≤ a && a < 0x20190000 then some (.reg ((a - 0x20000000) / 0x10000) (a % 0x10000))
  else if 0x40000000 ≤ a && a < 0x42200000 then
    let c := (a - 0x40000000) / 0x40000
    let o := (a - 0x40000000) % 0x40000
    if o < 0x8000 || (0x10000 ≤ o && o < 0x18000) || (0x20000 ≤ o && o < 0x28000) then some (.mem 3)
    else if 0x30000 ≤ o && o < 0x31000 then some (.coreReg c (o - 0x30000)) else none
  else if 0x60000000 ≤ a && a < 0x60600000 then some (.mem 4)
  else if 0x70000000 ≤ a && a < 0x72000000 then some (.mem 5)
  else if 0x100000000 ≤ a && a < 0x1E0000000 && !(0x1BB800000 ≤ a && a < 0x1C0000000) then some (.mem 6)
  else none

/-- Refusal causes (R359). -/
def caNARROW : Nat := 0
def caTABLE : Nat := 1
def caFIXED : Nat := 2

/-- The outcome of the checks of R356 and R358. -/
inductive Check where
  | ok | decode | refused (cause : Nat)
  deriving DecidableEq, Repr

/-- An access: master, physical address, width in bytes, write, checked by the region tables although the master is
DLYDMA (channels 4–15), the master that started that channel, and the word a register write carries. -/
structure Acc1 where
  m       : Nat
  a       : Nat
  w       : Nat
  wr      : Bool
  dmaHi   : Bool := false
  starter : Nat := 0
  val     : Nat := 0
  deriving DecidableEq, Repr

/-- The access-table entry word of a master in a block; reserved master IDs have none (R354, R355). -/
def State.aclWord (s : State) (b m w : Nat) : Nat :=
  if (12 ≤ m && m ≤ 15) || 23 ≤ m then 0
  else match w with
    | 0 => s.get (F.ACL_W0 b m) | 1 => s.get (F.ACL_W1 b m) | 2 => s.get (F.ACL_W2 b m) | 3 => s.get (F.ACL_W3 b m)
    | _ => 0

/-- The entry grants reads, or writes, of granule `g` (R354). -/
def State.aclGrants (s : State) (b m g : Nat) (wr : Bool) : Bool :=
  bitOf (s.aclWord b m (g / 16)) (2 * (g % 16) + (if wr then 1 else 0))

/-- The entry grants at least one right in the block (R355). -/
def State.aclAny (s : State) (b m : Nat) : Bool := [0, 1, 2, 3].any (fun w => s.aclWord b m w != 0)

/-- Masters that region tables check (R358). -/
def tableChecked (x : Acc1) : Bool :=
  x.m == mHK || x.m == mCC || x.m == mNETDMA || (x.m == mDLYDMA && x.dmaHi) || (16 ≤ x.m && x.m ≤ 22)

/-- One enabled entry of target `t` contains the access and grants the right (R358). -/
def State.regionGrants (s : State) (t : Nat) (x : Acc1) : Bool :=
  (List.range 16).any (fun e =>
    s.on (F.RGN_EN t e) && decide (s.get (F.RGN_BASE t e) * 4096 ≤ x.a)
    && decide (x.a + x.w ≤ (s.get (F.RGN_LIMIT t e) + 1) * 4096)
    && bitOf (s.get (if x.wr then F.RGN_WMASK t e else F.RGN_RMASK t e)) x.m)

/-- A section runs or commits (R93, R111). -/
def State.secBusy (s : State) (i : Nat) : Bool := let st := s.secState i; (1 ≤ st && st ≤ 5) || s.commits i

/-- The core's section is running or committing, so I memory and the task list are closed to outside writes (R93). -/
def State.coreClosed (s : State) (c : Nat) : Bool :=
  match s.logOf c with
  | some l => (match s.coreOwner l with | some i => s.secBusy i | none => false)
  | none => false

/-- A staging buffer accepts the write (R150). -/
def State.stagingAccepts (s : State) (x : Acc1) : Bool :=
  let sec := (x.a - 0x1C0000000) / 0x800000
  let u := (x.a - 0x1C0000000) / 0x400000 % 2
  if u == s.get (F.SECn_STAT_LIVEBUF sec) then x.m == mBOOT
  else
    s.lockState sec == lkHELD &&
      (x.m == s.get (F.SECn_LOCK_HOLDER sec)
       || (x.m == mDLYDMA && x.dmaHi && x.starter ≤ 1 && s.get (F.SECn_LOCK_HOLDER sec) ≤ 1))

/-- The slot of master `m` is closed, by a fence or by EN = 0 (R367, R376). -/
def State.hostClosed (s : State) (m : Nat) : Bool :=
  match slotOf m with | some n => s.fencedInst 23 n || !s.on (F.SLOTn_CTRL_EN n) | none => false

/-- Fixed rules of the HOST block for offset `o`, master `m` and the word written (R372). -/
def hostFixed (o m : Nat) (wr : Bool) (v : Nat) : Bool :=
  if !wr then true
  else if 0x2000 ≤ o && o < 0x8000 then false
  else if 0x400 ≤ o && o < 0x1C00 then
    let n := o / 0x400 - 1
    let q := o % 0x400
    if q = 0 then m ≤ 1
    else if q = 0x20 then m ≤ 1 || (m == slotMaster n && !bitOf v 1)
    else if 0x300 ≤ q && q < 0x340 then m ≤ 1
    else if 0x200 ≤ q && q < 0x240 then m ≤ 1 || m == slotMaster n
    else true
  else true

/-- Fixed rules of the SEC block: three registers take writes from HK and CC only (R353). -/
def secFixed (o m : Nat) (wr : Bool) : Bool := !(wr && (o == 8 || o == 0x10 || o == 0x14) && 1 < m)

/-- The checks of R356 for a register window, of R358 and R420 for a memory target. -/
def State.check (s : State) (x : Acc1) : Check :=
  match targetOf x.a with
  | none => .decode
  | some (.reg b o) =>
    if x.w != 4 || x.a % 4 != 0 then .refused caNARROW
    else if s.hostClosed x.m then .refused caFIXED
    else if 0xF000 ≤ o then
      if (if x.wr then x.m ≤ 1 else s.aclAny b x.m) then .ok else .refused caFIXED
    else if !s.aclGrants b x.m (o / 0x400) x.wr then .refused caTABLE
    else if b == 21 && !hostFixed o x.m x.wr x.val then .refused caFIXED
    else if b == 24 && !secFixed o x.m x.wr then .refused caFIXED
    else .ok
  | some (.coreReg c o) =>
    if x.w != 4 || x.a % 4 != 0 then .refused caNARROW
    else if s.hostClosed x.m then .refused caFIXED
    else if tableChecked x && !s.regionGrants 3 x then .refused caTABLE
    else if x.wr && 0x800 ≤ o && s.coreClosed c then .refused caFIXED
    else .ok
  | some (.mem t) =>
    let wide := t == 3 || t == 4
    let okW := if wide then x.w == 4 || x.w == 8 else x.w == 1 || x.w == 2 || x.w == 4 || x.w == 8
    if !okW || x.a % x.w != 0 then .refused caNARROW
    else if s.hostClosed x.m then .refused caFIXED
    else if tableChecked x && !s.regionGrants t x then .refused caTABLE
    else if x.wr && t == 0 then .refused caFIXED
    else if x.wr && t == 6 && 0x1C0000000 ≤ x.a && x.a < 0x1C8000000 && !s.stagingAccepts x then .refused caFIXED
    else if x.wr && t == 3 && (x.a - 0x40000000) % 0x40000 < 0x8000 && s.coreClosed ((x.a - 0x40000000) / 0x40000)
      then .refused caFIXED
    else .ok

/-- Captures a decode error (R24, R32). -/
def captureDecode (x : Acc1) (s : State) : State :=
  if s.on F.SYS_ERRINFO_VALID then s.set F.SYS_ERRINFO_OVF 1
  else
    ((((s.set F.SYS_ERRINFO_VALID 1).set F.SYS_ERRADDR_LO_ADDR_LO x.a).set F.SYS_ERRADDR_HI_ADDR_HI (x.a / 2 ^ 32)).set
      F.SYS_ERRINFO_WRITE x.wr.toNat).set F.SYS_ERRINFO_MASTER x.m

/-- Captures a violation in its block, or in MMU_RVIOL for a memory target (R359). -/
def captureViol (x : Acc1) (cause : Nat) (s : State) : State :=
  match targetOf x.a with
  | some (.reg b o) =>
    if s.on (F.ACC_VINFO_VALID b) then s.set (F.ACC_VINFO_OVF b) 1
    else ((((s.set (F.ACC_VINFO_VALID b) 1).set (F.ACC_VINFO_CAUSE b) cause).set (F.ACC_VINFO_WRITE b) x.wr.toNat).set
      (F.ACC_VINFO_MASTER b) x.m).set (F.ACC_VOFS_OFFSET b) o
  | some t =>
    let tn := match t with | .mem k => k | _ => 3
    if s.on F.MMU_RVIOL_INFO_VALID then s.set F.MMU_RVIOL_INFO_OVF 1
    else (((((s.set F.MMU_RVIOL_INFO_VALID 1).set F.MMU_RVIOL_INFO_CAUSE cause).set F.MMU_RVIOL_INFO_WRITE x.wr.toNat).set
      F.MMU_RVIOL_INFO_MASTER x.m).set F.MMU_RVIOL_INFO_TARGET tn
      |>.set F.MMU_RVIOL_ADDR_LO_ADDR_LO x.a).set F.MMU_RVIOL_ADDR_HI_ADDR_HI (x.a / 2 ^ 32)
  | none => s

/-- A refused access: SEC_VIOL, the capture, the slot's count and event (R359); a write refused under R93 also sets
RC_STAT.IWREJ. -/
def violation (x : Acc1) (cause : Nat) (s : State) : State :=
  let s := captureViol x cause s
  let s := match slotOf x.m with
    | some n => slotEvt n evVIOL (s.incSat (F.SLOTn_CNT1_VIOLS n))
    | none => s
  let s := if cause == caFIXED && x.wr && !s.hostClosed x.m && 0x40000000 ≤ x.a && x.a < 0x42200000
    then s.set (F.RC_STAT_IWREJ ((x.a - 0x40000000) / 0x40000)) 1 else s
  raiseF 109 x.m s

/-- The response the master sees (DEDUCED: log entry 62). -/
def State.respond (s : State) (m d : Nat) (err dec : Bool) : State := { s with bus := ⟨m, d, err, dec⟩ }

/-- The domain of block `b` is on (R27) (DESIGN CHOICE: log entry 6). -/
def State.blockOn (s : State) (b : Nat) : Bool :=
  let ps := s.domains
  if b ≤ 2 || (20 ≤ b && b ≤ 22) || b == 24 then psNAP ≤ ps
  else if 11 ≤ b && b ≤ 14 then psREADY ≤ ps || (ps == psNAP && !s.shed && bitOf (s.get F.PMU_WAKE_EN_WAKE_PORTS) (b - 11))
  else if b = 3 || b = 4 then psREADY ≤ ps || s.shed
  else psREADY ≤ ps

/-- A block's own registers are in unit reset, held in it, or without power (R27, R30, R315). -/
def State.inReset (s : State) (b : Nat) : Bool :=
  (match s.sys.urst with | some (u, _) => u == b | none => false) || s.sys.held.contains b || !s.blockOn b

/-- The access table's entries are written through the checks too, but no unit reset closes them (R30, R355) (DESIGN
CHOICE: log entry 6). -/
def State.regClosed (s : State) (a : Nat) : Bool :=
  0x20000000 ≤ a && a < 0x20190000 && a % 0x10000 < 0xF000 && s.inReset ((a - 0x20000000) / 0x10000)

/-- In RECOVERY only HS and DBG are served, beside the housekeeper itself (R335). -/
def State.served (s : State) (m : Nat) : Bool := s.sys.boot != .recovery || m == mHS || m == mDBG || m == mHK

/-- Runs a write of `v` to the register at `a` by master `m` through the checks of R356: `f` is what the register does. -/
def guardedV (m a v : Nat) (f : State → State) (s : State) : State :=
  let p := a % 2 ^ 32
  let x : Acc1 := { m := m, a := p, w := 4, wr := true, val := v }
  if !s.served m then s.respond m 0 true false
  else match s.check x with
  | .decode => (captureDecode x s).respond m 0 true true
  | .refused c => (violation x c s).respond m 0 true false
  | .ok => if s.regClosed p then s.respond m 0 false false else (f s).respond m 0 false false

/-- The same for a write whose word no fixed rule looks at. -/
def guarded (m a : Nat) (f : State → State) (s : State) : State := guardedV m a 0 f s

/-- Runs a register read by master `m` through the checks of R356: `f` gives the data and what the read does. -/
def guardedRead (m a : Nat) (f : State → Nat × State) (s : State) : State :=
  let p := a % 2 ^ 32
  let x : Acc1 := { m := m, a := p, w := 4, wr := false }
  if !s.served m then s.respond m 0 true false
  else match s.check x with
  | .decode => (captureDecode x s).respond m 0 true true
  | .refused c => (violation x c s).respond m 0 true false
  | .ok =>
    if s.regClosed p then s.respond m 0 false false
    else
      let (d, u) := f s
      u.respond m (d % 2 ^ 32) false false

/-- The key of the action registers (R32, R61, …). -/
def keyA55A : Nat := 0xA55A

/-! ## Summary generation (R374) -/

/-- The registers whose change raises the summary generation: the fields of R375 that are not volatile. -/
def summaryReg (a : Nat) : Bool :=
  let p := a % 0x100000000
  let b := (p - 0x20000000) / 0x10000
  let o := p % 0x10000
  if p < 0x20000000 || 0x20190000 ≤ p then false
  else if 0xF000 ≤ o then 0xF100 ≤ o && o < 0xF160
  else match b with
    | 0 => o < 0x10 || o == 0x14 || o == 0x30
    | 1 => o == 0 || o == 0x80
    | 2 => o == 0 || o == 0x10 || o == 0x120 || (0x40 ≤ o && o < 0x50)
    | 3 => o == 4 || o == 0x38 || o == 0x24
    | 4 => o == 0 || o == 8
    | 5 => o == 4 || (0x10 ≤ o && o < 0x1C) || (0x50 ≤ o && o < 0x64) || (0x70 ≤ o && o < 0x80)
    | 6 => o == 0 || o == 0xC
    | 9 => o == 0 || (0x100 ≤ o && (o % 0x40 == 4 || o % 0x40 == 0x10 || o % 0x40 == 0x14 || 0x1C ≤ o % 0x40))
    | 10 => o == 0x50 || o == 4
    | 11 => o == 0 || o == 4 || o == 0x504
    | 12 => o == 0 || o == 4 || o == 0x504
    | 13 => o == 0 || o == 4 || o == 0x504
    | 14 => o == 0 || o == 4 || o == 0x504
    | 15 => o == 0 || o == 4 || o == 0x504
    | 16 => o == 4 || (0x24 ≤ o && o < 0x30) || o == 0x48 || o == 0x4C
    | 22 => 0x400 ≤ o && o < 0xB00
    | 24 => o == 0 || o == 4 || o == 0xC
    | _ => false

/-- What a stored register field shows in the summary, none for nothing: of PMU_STAT the power state, of STRM_DSTAT the state
and paths, of the region masks the slots' bits, of a transmit descriptor which of its ports are UP (R375). -/
def State.summaryPart (s : State) (e : Nat × Nat) : Option (Nat × Nat) :=
  let a := e.1 / 32
  let p := a % 0x100000000
  let part := fun (v : Nat) => if v = 0 then none else some (e.1, v)
  if p == 0x20010000 then (if e.1 % 32 == 29 then some e else none)
  else if p == 0x200A0050 then (if 27 ≤ e.1 % 32 then some e else none)
  else if 0x20160400 ≤ p && p < 0x20160B00 then (if 8 ≤ p % 16 then part (bits 21 16 e.2) else none)
  else if p == A.STRM_DESC 0 0 then
    let i := a / 0x100000000
    let up := fun (b : Bool) => match s.pathPort i b with | some q => (s.portUp q).toNat | none => 0
    if i / 64 % 2 = 1 then part (up false + 2 * up true) else none
  else if summaryReg a then some e else none

/-- The summary fields that are not volatile, as data: register fields, and which transmit streams are live. -/
def State.summaryView (s : State) : SMap Nat × List Nat :=
  (s.fld.filterMap s.summaryPart, (s.strm.st.filter (fun e => e.1 / 64 % 2 = 1 && e.2.live)).map (fun e => e.1))

/-- Counts a cycle in which a summary field changed (R374), once breath 0 has set the generation to 1. -/
def sumTick (s t : State) : State :=
  let g := t.get F.HOST_SUMGEN_HI_GEN * 2 ^ 32 + t.get F.HOST_SUMGEN_LO_GEN
  let g0 := s.get F.HOST_SUMGEN_HI_GEN * 2 ^ 32 + s.get F.HOST_SUMGEN_LO_GEN
  if g % 2 ^ 48 == 0 || g0 % 2 ^ 48 == 0 || s.summaryView == t.summaryView then t
  else
    let g' := g / 2 ^ 48 * 2 ^ 48 + (g + 1) % 2 ^ 48
    allEvt evSUMMARY ((t.set F.HOST_SUMGEN_HI_GEN (g' / 2 ^ 32)).set F.HOST_SUMGEN_LO_GEN g')

/-- The node takes commands: it has power, its clocks run, the boot has released its masters and no reset holds it
(R27, R322, R337, R414) (DEDUCED: log entry 5). -/
def State.alive (s : State) : Bool :=
  !s.sys.off && !s.sys.pinHeld && !s.fcu.stopped
  && (s.sys.boot == .images || s.sys.boot == .recovery || (s.sys.boot == .none && psNAP ≤ s.pstate))

/-- The end of a command to the node: the next state, with the summary generation counted; where the node takes no
commands, only time has passed (DEDUCED: log entry 3). -/
def done (s t : State) : Host.Outcome State Fault Refusal :=
  .next (if s.alive then sumTick s t else { s with now := max s.now t.now })

/-- The end of an event that the AON domain, the boot or the fault collector sees, in whatever state the node is
(DEDUCED: log entry 3). -/
def doneAon (s t : State) : Host.Outcome State Fault Refusal :=
  .next (if s.sys.off then { s with now := max s.now t.now } else sumTick s t)

/-- In HALT, after the clocks have stopped, the housekeeper still serves reads of the FCU block and of keep RAM by DBG
(R323). -/
def State.haltServes (s : State) (m a : Nat) : Bool :=
  s.fcu.stopped && !s.sys.pinHeld && m == mDBG && (0x20020000 ≤ a && a < 0x20030000 || targetOf a == some (.mem 1))

/-- The end of a read of `a` by master `m`. -/
def doneRead (m a : Nat) (s t : State) : Host.Outcome State Fault Refusal :=
  if s.haltServes m a then doneAon s t else done s t

end Sys2Proof.Machine
end

