-- ==== Sys2Proof/Machine/Mmu.lean ====
section
/-!
DEFINITION. What error correction reports of a read of memory (R94, R134, R135, R314), and translation windows (R360, R377).
-/
namespace Sys2Proof.Machine

/-- Counts a corrected or an uncorrectable error in DRAM or the pool; `line` is its INDEX (R134, R135). -/
def dlyEcc (e : Ecc) (line : Nat) (s : State) : State :=
  match e with
  | .clean => s
  | .ce => raiseF 25 0 (s.incSat F.DLY_ECC_CE)
  | .ces n => raiseF 25 0 (s.addSat F.DLY_ECC_CE n)
  | .ue => raiseF 26 line (s.incSat F.DLY_ECC_UE)

/-- What error correction reports of a read of target `t` at `a` (R94, R134, R135, R314) (PRESUMED: log entry 40). -/
def memEcc (t a : Nat) (e : Ecc) (s : State) : State :=
  let c := (a - 0x40000000) / 0x40000
  match t, e with
  | _, .clean => s
  | 1, .ue => raiseF 108 0 s
  | 2, .ue => raiseF 106 0 s
  | 2, .ce => raiseF 107 0 s
  | 2, .ces _ => raiseF 107 0 s
  | 3, .ce => raiseF 0 c (s.incSat (F.RC_ECC_CE c))
  | 3, .ces n => raiseF 0 c (s.addSat (F.RC_ECC_CE c) n)
  | 4, .ce => raiseF 16 0 s
  | 4, .ces _ => raiseF 16 0 s
  | 4, .ue => raiseF 17 0 s
  | 5, e => dlyEcc e 0xFFFF s
  | 6, e => dlyEcc e 0xFFFF s
  | _, _ => s

/-- Failure causes of MMU_XFAULT_INFO (R377). -/
def xfRANGE : Nat := 0
def xfINVALID : Nat := 1
def xfRIGHTS : Nat := 2
def xfTABLE : Nat := 3

/-- Records a failure (R360, R377). -/
def xfault (m w a cause : Nat) (wr : Bool) (s : State) : State :=
  if s.on F.MMU_XFAULT_INFO_VALID then s.set F.MMU_XFAULT_INFO_OVF 1
  else (((((s.set F.MMU_XFAULT_INFO_VALID 1).set F.MMU_XFAULT_INFO_WINDOW w).set F.MMU_XFAULT_INFO_CAUSE cause).set
    F.MMU_XFAULT_INFO_WRITE wr.toNat).set F.MMU_XFAULT_INFO_MASTER m).set F.MMU_XFAULT_ADDR_ADDR a

/-- The page-table entry of page `i`: cached, or read as master CC; none where it cannot be read, for a decode hole, a refusal or
an uncorrectable error. `ec` says what error correction meets at an address (R135, R360) (DEDUCED: log entry 21). -/
def mmuEntry (w i : Nat) (ec : Nat → Ecc) (s : State) : Option Nat × State :=
  match s.mmu.cache.find? (fun e => e.1 == w && e.2.1 == i) with
  | some e => (some e.2.2, s)
  | none =>
    let a := s.get (F.MMU_WIN_BASE_HI_BASE_HI w) * 2 ^ 32 + s.get (F.MMU_WIN_BASE_LO_BASE_LO w) * 4096 + 8 * i
    if s.check { m := mCC, a := a, w := 8, wr := false } == .ok then
      let s := match targetOf a with | some (.mem t) => memEcc t a (ec a) s | _ => s
      if ec a == .ue then (none, s) else
      let e := leNat (s.bytes a 8)
      let mine := s.mmu.cache.filter (fun x => x.1 == w)
      let c := if 64 ≤ mine.length then s.mmu.cache.erase (mine.headD (0, 0, 0)) else s.mmu.cache
      (some e, { s with mmu := { s.mmu with cache := c ++ [(w, i, e)] } })
    else (none, s)

/-- Translates window address `a` of window `w` for master `m`; none where it fails, the failure being recorded
(R360) (DEDUCED: log entry 21). -/
def translate (m w a : Nat) (wr : Bool) (ec : Nat → Ecc) (s : State) : Option Nat × State :=
  let i := a / 4096
  if !s.on (F.MMU_WIN_CFG_EN w) || s.get (F.MMU_WIN_CFG_PAGES_M1 w) < i then (none, xfault m w a xfRANGE wr s)
  else match mmuEntry w i ec s with
    | (none, s) => (none, xfault m w a xfTABLE wr s)
    | (some e, s) =>
      if !bitOf e 0 || bits 11 3 e != 0 || bits 63 40 e != 0 then (none, xfault m w a xfINVALID wr s)
      else if !bitOf e (if wr then 2 else 1) then (none, xfault m w a xfRIGHTS wr s)
      else (some (bits 39 12 e * 4096 + a % 4096), s)

/-! ## The control cores' own translation (R361) -/

/-- What a leaf entry `e` of a table `k` levels above the last gives virtual address `va`: the physical address, or the exception that
the core takes. No A or D bit is set by the hardware, and bits 55 to 40 must be 0 (R361) (PRESUMED: log entry 71). -/
def svLeaf (c : SvCtx) (k va e : Nat) (wr : Bool) : Except SvTrap Nat :=
  let size := 2 ^ (12 + 9 * k)
  let right := if c.fetch then bitOf e 3 else if wr then bitOf e 2 else bitOf e 1 || (c.mxr && bitOf e 3)
  let mode := if c.user then bitOf e 4 else !bitOf e 4 || (c.sum && !c.fetch)
  let base := bits 53 10 e * 4096
  if !right || !mode || base % size != 0 || !bitOf e 6 || (wr && !bitOf e 7) then .error .pageFault
  else if 2 ^ 40 ≤ base then .error .accessFault
  else .ok (base + va % size)

/-- Walks `k` levels of tables from the one at `tab` on, reading their entries as master CC (R361) (PRESUMED: log entry 71). -/
def svWalk (c : SvCtx) (va : Nat) (wr : Bool) (s : State) : Nat → Nat → Except SvTrap Nat
  | 0, _ => .error .pageFault
  | k + 1, tab =>
    let a := tab + 8 * (va / 2 ^ (12 + 9 * k) % 512)
    let e := leNat (s.bytes a 8)
    if 2 ^ 40 ≤ a || s.check { m := mCC, a := a, w := 8, wr := false } != .ok then .error .accessFault
    else if !bitOf e 0 || (!bitOf e 1 && bitOf e 2) || bits 63 54 e != 0 then .error .pageFault
    else if bitOf e 1 || bitOf e 3 then svLeaf c k va e wr
    else if bitOf e 4 || bitOf e 6 || bitOf e 7 then .error .pageFault
    else svWalk c va wr s k (bits 53 10 e * 4096)

/-- Translates virtual address `va` of a control core, given by its low 40 bits, of which bit 39 repeats bit 38 (R361). -/
def State.svTranslate (s : State) (c : SvCtx) (va : Nat) (wr : Bool) : Except SvTrap Nat :=
  if bitOf va 39 != bitOf va 38 then .error .pageFault else svWalk c va wr s 3 (c.root * 4096)

/-- A write of MMU_FLUSH (R360). -/
def wrMmuFlush (v : Nat) (s : State) : State :=
  if !bitOf v 6 then s
  else
    let ws := if bitOf v 5 then List.range 32 else [v % 32]
    { s.set F.MMU_STAT_BUSY 1 with mmu := { s.mmu with flush := (s.mmu.flush ++ ws).eraseDups } }

def execMmuFlush (m v : Nat) (s : State) : Host.Outcome State Fault Refusal :=
  done s (guarded m A.MMU_FLUSH (wrMmuFlush v) s)

def execMmuFlushDone (t : Nat) (s : State) : Host.Outcome State Fault Refusal :=
  let s1 := s.atTime t
  done s { s1.set F.MMU_STAT_BUSY 0 with
           mmu := { s1.mmu with cache := s1.mmu.cache.filter (fun e => !s1.mmu.flush.contains e.1), flush := [] } }

/-- A write of an MMU register; a configuration write to an enabled window is ignored, except one that disables it
(R377). -/
def wrMMU (a v : Nat) (s : State) : State :=
  let o := a % 0x10000
  let w := a / 0x100000000
  if a % 0x100000000 == A.MMU_FLUSH then wrMmuFlush v s
  else if o == A.MMU_WIN_CFG 0 % 0x10000 && s.on (F.MMU_WIN_CFG_EN w) then
    if bitOf v 31 then s.set F.MMU_STAT_CFGWR 1 else s.set (F.MMU_WIN_CFG_EN w) 0
  else if (o == A.MMU_WIN_BASE_LO 0 % 0x10000 || o == A.MMU_WIN_BASE_HI 0 % 0x10000) && s.on (F.MMU_WIN_CFG_EN w) then
    s.set F.MMU_STAT_CFGWR 1
  else s.writeRegPlain a v

end Sys2Proof.Machine
end

