-- ==== Sys2Proof/Machine/Operands.lean ====
section
/-!
DEFINITION. Operands of reed instructions: the places of the core registers, special-register numbers and widths
(R65), the circular rule and the address modes (R63, R67, R68).
-/
namespace Sys2Proof.Machine

/-! ## Places -/

/-- Places of data registers, accumulators, condition and sticky flags, and special registers. -/
def locD (n : Nat) : Nat := n
def locA (n : Nat) : Nat := 16 + n
def locACT (n : Nat) : Nat := 20 + n
def locASAT (n : Nat) : Nat := 24 + n
def locSAT : Nat := 28
def locTAPE : Nat := 29
def locIE : Nat := 30
def locS (k : Nat) : Nat := 64 + k

/-- Special-register numbers (R65). -/
def srLS (l : Nat) : Nat := 0x20 + 3 * l
def srLE (l : Nat) : Nat := 0x21 + 3 * l
def srLC (l : Nat) : Nat := 0x22 + 3 * l
def srIPC : Nat := 0x26
def srISTAT : Nat := 0x27
def srCSTAT : Nat := 0x28
def srXCAR : Nat := 0x29
def srBIDX : Nat := 0x2A
def srLCORE : Nat := 0x2B

/-- Numbers that name no register (R65). -/
def sregReserved (k : Nat) : Bool := k == 0x2E || k == 0x2F || 0x3C ≤ k

/-- Read-only numbers (R65). -/
def sregReadOnly (k : Nat) : Bool := k == srBIDX || k == srLCORE

/-- The number names a part of an accumulator. -/
def sregAcc (k : Nat) : Bool := 0x30 ≤ k && k < 0x3C

/-- The number names an offset, which is signed. -/
def sregOffset (k : Nat) : Bool := k < 0x20 && k % 16 / 4 == 1

/-- Width of a special register (R65). -/
def sregWidth (k : Nat) : Nat :=
  if k < 0x20 then (if sregOffset k then 16 else 13)
  else if k == 0x22 || k == 0x25 then 16
  else if k ≤ 0x26 then 13
  else if k == srLCORE then 7 else 32

/-- What special register `k` keeps of a value written to it: its width (R65), and for ISTAT the fields of R86, since its
other bits are reserved (R8). -/
def sregStore (k v : Nat) : Nat := if k == srISTAT then v &&& 0xFF033FFF else v % 2 ^ sregWidth k

/-! ## Addresses -/

/-- The circular rule (R67). -/
def circ (p : Nat) (o : Int) (b l : Nat) : Nat :=
  let len : Nat := if l = 0 then 8192 else l
  ((b : Int) + ((p : Int) - b + o) % (len : Int)).toNat % 8192

/-- The address an access uses and the pointer after it, for address mode `am` (R68). -/
def amode (am p : Nat) (o : Int) (b l : Nat) (pair : Bool) : Nat × Option Nat :=
  match am with
  | 0 => (p, none)
  | 1 => (p, some (circ p o b l))
  | 2 => (p, some (circ p (if pair then 2 else 1) b l))
  | _ => (circ p o b l, none)

/-- A paired access ignores bit 0 of its address (R63). -/
def pairLow (a : Nat) : Nat := a / 2 * 2

/-- The signed value of a 32-bit word held as an unsigned number. -/
def s32 (v : Int) : Int := sx 32 (ux 32 v)

end Sys2Proof.Machine
end

