-- ==== Sys2Proof/Machine/Flags.lean ====
section
/-!
DEFINITION. Results and flags of reed arithmetic: the 32-bit operations of R75, accumulator saturation (R70), rounding
(R71), and the layout of CSTAT (R72).
-/
namespace Sys2Proof.Machine

/-- A 32-bit result and whether it saturated. -/
structure AluR where
  val : Nat
  sat : Bool
  deriving DecidableEq, Repr

def wrap32 (x : Int) : AluR := ⟨ux 32 x, false⟩
def sat32 (x : Int) : AluR := ⟨ux 32 (satS 32 x), decide (satS 32 x ≠ x)⟩

/-- The ALU functions of R75 on unsigned words. -/
def aluAdd (a b : Nat) : AluR := wrap32 ((a : Int) + b)
def aluSub (a b : Nat) : AluR := wrap32 ((a : Int) - b)
def aluAdds (a b : Nat) : AluR := sat32 (sx 32 a + sx 32 b)
def aluSubs (a b : Nat) : AluR := sat32 (sx 32 a - sx 32 b)
def aluAnd (a b : Nat) : AluR := ⟨a &&& b, false⟩
def aluOr (a b : Nat) : AluR := ⟨a ||| b, false⟩
def aluXor (a b : Nat) : AluR := ⟨a ^^^ b, false⟩
def aluMin (a b : Nat) : AluR := ⟨if sx 32 a ≤ sx 32 b then a else b, false⟩
def aluMax (a b : Nat) : AluR := ⟨if sx 32 a ≤ sx 32 b then b else a, false⟩
def aluAbss (a _b : Nat) : AluR := sat32 (if sx 32 a < 0 then -(sx 32 a) else sx 32 a)
def aluShl (a b : Nat) : AluR := ⟨if 32 ≤ b % 64 then 0 else a * 2 ^ (b % 64) % 2 ^ 32, false⟩
def aluShr (a b : Nat) : AluR := ⟨if 32 ≤ b % 64 then 0 else a / 2 ^ (b % 64), false⟩
def aluShra (a b : Nat) : AluR := ⟨ux 32 (sx 32 a / ((2 ^ (min (b % 64) 32) : Nat) : Int)), false⟩
def aluSlt (a b : Nat) : AluR := ⟨if sx 32 a < sx 32 b then 1 else 0, false⟩
def aluShls (a b : Nat) : AluR := sat32 (sx 32 a * ((2 ^ (b % 32) : Nat) : Int))

/-- The limits of an accumulator, and whether a result lies beyond them (R69, R70). -/
def accMax : Int := smax 72
def accMin : Int := smin 72
def accSat (x : Int) : Int × Bool := (satS 72 x, decide (satS 72 x ≠ x))

/-- Rounding to Q1.31 (R71). -/
def accRound (a : Int) : AluR := sat32 (roundAway a (2 ^ 31))

/-- A × 2^n with n signed; right shifts are arithmetic and truncate (R75). -/
def accShift (a n : Int) : Int := if 0 ≤ n then a * ((2 ^ n.toNat : Nat) : Int) else a / ((2 ^ (-n).toNat : Nat) : Int)

/-- A condition of BC (R75). -/
def condHolds (c v : Nat) : Bool :=
  match c with
  | 0 => v == 0 | 1 => v != 0 | 2 => decide (sx 32 v < 0) | 3 => decide (0 ≤ sx 32 v)
  | 4 => decide (0 < sx 32 v) | _ => decide (sx 32 v ≤ 0)

/-- CSTAT as its bits stand (R72): `f` reads a place. -/
def cstatOf (f : Nat → Int) : Nat :=
  let b := fun (loc : Nat) => if f loc != 0 then 1 else 0
  b locIE * 4096 + b locTAPE * 512 + b locSAT * 256
  + b (locACT 3) * 128 + b (locACT 2) * 64 + b (locACT 1) * 32 + b (locACT 0) * 16
  + b (locASAT 3) * 8 + b (locASAT 2) * 4 + b (locASAT 1) * 2 + b (locASAT 0)

/-- The places of CSTAT's bits with the values a word gives them (R72). -/
def cstatPlaces (v : Nat) : List (Nat × Int) :=
  let b := fun (i : Nat) => if bitOf v i then (1 : Int) else 0
  [(locIE, b 12), (locTAPE, b 9), (locSAT, b 8), (locACT 3, b 7), (locACT 2, b 6), (locACT 1, b 5), (locACT 0, b 4),
   (locASAT 3, b 3), (locASAT 2, b 2), (locASAT 1, b 1), (locASAT 0, b 0)]

end Sys2Proof.Machine
end

