-- ==== Sys2Proof/Machine/Image.lean ====
section
/-!
DEFINITION. Voice images: header, records, what an image claims, and loading its records into cores and tables
(R332, R333, R157, R159).
-/
namespace Sys2Proof.Machine

/-- One record of an image: header fields and the address of its body (R333). -/
structure ImgRec where
  type  : Nat
  state : Bool
  lcore : Nat
  first : Nat
  count : Nat
  body  : Nat
  deriving DecidableEq, Repr

/-- Bytes of one entry of a record of a type (R333). -/
def entryBytes (t : Nat) : Nat :=
  match t with
  | 4 => 0 | 5 => 0 | 6 => 16 | 10 => 16 | 11 => 8 | 12 => 12 | _ => 4

/-- Body bytes of a record, without padding. -/
def ImgRec.bytes (r : ImgRec) : Nat := r.count * entryBytes r.type

/-- Header fields of the image at `b` (R332). -/
def imgMagic (s : State) (b : Nat) : Nat := s.word b
def imgVersion (s : State) (b : Nat) : Nat := leNat (s.bytes (b + 4) 2)
def imgMode (s : State) (b : Nat) : Nat := (s.byte (b + 6)).toNat
def imgSection (s : State) (b : Nat) : Nat := (s.byte (b + 7)).toNat
def imgSize (s : State) (b : Nat) : Nat := s.word (b + 8)
def imgCount (s : State) (b : Nat) : Nat := s.word (b + 16)

/-- Reads `k` records from address `a` on; none where a record breaks R333 or runs past `lim`. -/
def readRecords (s : State) (lim : Nat) : Nat → Nat → Option (List ImgRec)
  | 0, _ => some []
  | k + 1, a =>
    let w0 := s.word a
    let t := w0 / 2 ^ 24
    let r : ImgRec := ⟨t, bitOf w0 23, bits 22 16 w0, bits 12 0 w0, s.word (a + 4), a + 8⟩
    let fin := a + 8 + (r.bytes + 7) / 8 * 8
    if t == 0 || 14 ≤ t || lim < fin || (t == 6 && (r.count == 0 || 128 < r.count)) || (t == 8 && r.count != 2) then none
    else (readRecords s lim k fin).map (fun l => r :: l)

/-- The records of the image at `b`. -/
def imgRecords (s : State) (b : Nat) : Option (List ImgRec) :=
  readRecords s (b + (imgSize s b - 128)) (imgCount s b) (b + 64)

/-- The load volume (R333). -/
def loadVolume (l : List ImgRec) : Nat :=
  l.foldl (fun n r => if r.type == 4 || r.type == 5 || r.type == 13 then n else n + r.bytes) 0

/-- Words of a record's body. -/
def ImgRec.words (s : State) (r : ImgRec) : List Nat := (List.range (r.bytes / 4)).map (fun j => s.word (r.body + 4 * j))

/-- Numbers `first` to `first + count − 1`. -/
def ImgRec.span (r : ImgRec) : List Nat := (List.range r.count).map (fun j => r.first + j)

/-- Reed-output taps of one 16-byte task entry at `a` (R38). -/
def taskTaps (s : State) (a : Nat) : List Nat :=
  let w3 := s.word (a + 12)
  if bitOf (s.word a) 31 then (List.range (bits 20 14 w3)).map (fun j => reedTap0 + bits 31 21 w3 + j) else []

/-- What the image makes its section own (R148). -/
def claimOf (s : State) (l : List ImgRec) : Claim :=
  { cores := ((l.filter (fun r => 1 ≤ r.type && r.type ≤ 6)).map (fun r => r.lcore)).eraseDups
    taps  := ((l.filter (fun r => r.type == 6)).flatMap (fun r =>
      (List.range r.count).flatMap (fun j => taskTaps s (r.body + 16 * j)))).eraseDups
    buses := (l.filter (fun r => r.type == 9)).flatMap (fun r => (r.words s).map (fun w => w % 1024))
    lines := (l.filter (fun r => r.type == 10)).flatMap ImgRec.span
    outs  := (l.filter (fun r => r.type == 7)).flatMap ImgRec.span
    groups := (l.filter (fun r => r.type == 12)).flatMap ImgRec.span }

/-- The records of an image by type, for one logical core. -/
def recsFor (l : List ImgRec) (lc : Nat) : List ImgRec := l.filter (fun r => 1 ≤ r.type && r.type ≤ 6 && r.lcore == lc)

/-- Writes words into a core memory of 8,192 words from word `first` on, word addresses wrapping (R63). -/
def putWords (p base first : Nat) (ws : List Nat) (s : State) : State :=
  ws.zipIdx.foldl (fun t (e : Nat × Nat) => coreWrite p (base + 4 * ((first + e.2) % 8192)) (leBytes 4 e.1) t) s

/-- Clears words of a core memory. -/
def zeroWords (base first count : Nat) (s : State) : State :=
  s.clearMem (fun a => base ≤ a && a < base + 0x8000 && ((a - base) / 4 + 8192 - first % 8192) % 8192 < count)

/-- Loads one record of a core into physical core `p`; with `keep`, recursive state is left as it is (R159). -/
def loadCoreRec (p : Nat) (keep : Bool) (r : ImgRec) (s : State) : State :=
  if keep && r.state && 2 ≤ r.type && r.type ≤ 5 then s
  else match r.type with
    | 1 => putWords p (iBase p) r.first (r.words s) s
    | 2 => putWords p (xBase p) r.first (r.words s) s
    | 3 => putWords p (yBase p) r.first (r.words s) s
    | 4 => zeroWords (xBase p) r.first r.count s
    | 5 => zeroWords (yBase p) r.first r.count s
    | 6 => coreWrite p (taskBase p) (s.bytes r.body r.bytes) s
    | _ => s

/-- Clears I, X, Y and the task list of a physical core (R59, R159). -/
def clearCore (p : Nat) (s : State) : State :=
  s.clearMem (fun a => coreBase p ≤ a && a < coreBase (p + 1) && handRange (a - coreBase p))

/-- Loads logical core `lc` of the image into physical core `p` (R59, R157, R159). -/
def loadCore (l : List ImgRec) (lc p : Nat) (keep : Bool) (s : State) : State :=
  let s := if keep then s.clearMem (fun a => (taskBase p ≤ a && a < taskBase p + 0x800)
                || (iBase p ≤ a && a < iBase p + 0x8000)) else clearCore p s
  (recsFor l lc).foldl (fun t r => loadCoreRec p keep r t) s

/-- Stores one word of the output map, its reserved bits as 0 (R8), and notes a bad entry (R111). -/
def storeOutMap (o w : Nat) (s : State) : State :=
  let s := s.set (F.MTX_OUTMAP o) (w - bits 23 13 w * 2 ^ 13)
  if bitOf w 31 && !outMapped w then s.set F.MTX_STAT_BADMAP 1 else s

/-- Gives bus `b` to section `i`, or releases it (R122). -/
def setBusOwner (b : Nat) (i : Option Nat) (s : State) : State :=
  let s := s.setBit (F.MTX_BUSVALID_VALID (b / 32)) (b % 32) i.isSome
  let old := s.get (F.MTX_BUSOWN_OWNER (b / 8))
  let k := 16 ^ (b % 8)
  s.set (F.MTX_BUSOWN_OWNER (b / 8)) (old - old / k % 16 * k + (i.getD 0) * k)

/-- Loads a record that is not for one core into its table (R126, R333). -/
def loadTableRec (sec : Nat) (keepSeed : Bool) (r : ImgRec) (s : State) : State :=
  match r.type with
  | 7 => (r.words s).zipIdx.foldl (fun t (e : Nat × Nat) => storeOutMap (r.first + e.2) e.1 t) s
  | 8 => if keepSeed then s else
      (s.set (F.MTX_SEED_LO_SEED_LO sec) (s.word r.body)).set (F.MTX_SEED_HI_SEED_HI sec) (s.word (r.body + 4))
  | 9 => (r.words s).foldl (fun t w => setBusOwner (w % 1024) (some sec) t) s
  | 10 => r.span.zipIdx.foldl (fun t (e : Nat × Nat) =>
      let t := [0, 1, 2, 3].foldl (fun u j => u.set (F.DLY_LINE_DATA_WORD j e.1) (s.word (r.body + 16 * e.2 + 4 * j))) t
      if bitOf (t.lineW 0 e.1) 31 && !t.lineValid e.1 then t.set F.DLY_STAT_BADLINE 1 else t) s
  | 11 => r.span.zipIdx.foldl (fun t (e : Nat × Nat) =>
      (t.set (F.DISP_TBT_DATA0_WORD0 e.1) (s.word (r.body + 8 * e.2))).set (F.DISP_TBT_DATA1_WORD1 e.1) 0) s
  | 12 => r.span.zipIdx.foldl (fun t (e : Nat × Nat) =>
      ((t.set (F.DISP_GRP_AVTP_LO_STREAMS e.1) (s.word (r.body + 12 * e.2))).set
        (F.DISP_GRP_AVTP_HI_STREAMS e.1) (s.word (r.body + 12 * e.2 + 4))).set (F.DISP_GRP_SAP_PORTS e.1) (s.word (r.body + 12 * e.2 + 8))) s
  | _ => s

end Sys2Proof.Machine
end

