-- ==== Sys2Proof/Machine/Disp.lean ====
section
/-!
DEFINITION. The dispatcher: task lists, arming, firing, waking and gating, misses and their ramps, and the commands
that act on them (R33–R52, R61).
-/
namespace Sys2Proof.Machine

/-! ## Task lists (R37–R39) -/

/-- An entry's word 0 to 3 as the dispatcher takes it: none for V = 0 or a fault of R39 that shows in the entry alone;
the truth value tells a faulty entry. -/
def taskOfWords (fs w0 w1 w2 w3 : Nat) : Option TaskE × Bool :=
  if !bitOf w0 31 then (none, false)
  else
    let dl := w2 / 65536
    let cnt := bits 20 14 w3
    let k := bits 30 28 w0
    let badArg :=
      if k = 0 then w1 % 65536 < 100
      else if k = 1 then 3 ≤ w1 / 2 ^ 28
      else if k = 2 then !bitOf w1 31 && !bitOf w1 15 else false
    if 4 ≤ k || 64 < cnt || 2048 < bits 31 21 w3 + cnt || dl = 0 || 2000000000 ≤ dl * fs || badArg then (none, true)
    else
      let kind := if k = 0 then TKind.time else if k = 1 then .arrival else if k = 2 then .completion else .bus
      (some ⟨kind, w0 % 8192, w1, dl, w2 % 65536, bits 31 21 w3, cnt, w3 % 16384⟩, false)

/-- Loads the dispatcher's copy of the task list of logical core `l` from physical core `p` (R37). -/
def loadTasks (l p : Nat) (s : State) : State :=
  (List.range 128).foldl (fun t k =>
    let a := taskBase p + 16 * k
    let (e, bad) := taskOfWords t.fs (t.word a) (t.word (a + 4)) (t.word (a + 8)) (t.word (a + 12))
    let t := if bad then t.set F.DISP_STAT_BADTASK 1 else t
    { t with disp := { t.disp with tasks := mset none (128 * l + k) e t.disp.tasks } }) s

/-- Logical core `l` is lost when its section restarts, which goes on without it: the dispatcher has no list of it (R60, R162)
(DEDUCED: log entry 63). -/
def dropTasks (l : Nat) (s : State) : State :=
  { s with disp := { s.disp with tasks := mkeep (fun k => k / 128 != l) s.disp.tasks } }

/-- Predecessors of a COMPLETION entry: logical core and task (R40). -/
def preds (arg : Nat) : List (Nat × Nat) :=
  (if bitOf arg 31 then [(bits 30 24 arg, bits 22 16 arg)] else []) ++
  (if bitOf arg 15 then [(bits 14 8 arg, bits 6 0 arg)] else [])

/-- The entry is valid, its predecessors included (R39). -/
def State.taskValid (s : State) : Nat → Nat → Nat → Bool
  | 0, _, _ => true
  | f + 1, l, k =>
    match s.task l k with
    | none => false
    | some e => e.kind != .completion || (preds e.arg).all (fun q => State.taskValid s f q.1 q.2)

/-- Source key of an ARRIVAL argument: AVTP streams from 0, SAP slots from 4,096, BSI channels from 8,192 (R40)
(DEDUCED: log entry 9). -/
def arrKey (arg : Nat) : Nat :=
  match arg / 2 ^ 28 with
  | 0 => bits 5 0 arg
  | 1 => 4096 + 32 * bits 11 8 arg + bits 4 0 arg
  | _ => 8192 + bits 4 0 arg

/-! ## Instances -/

/-- The armed instances with their entries. -/
def State.instsOf (s : State) (p : Inst → TaskE → Bool) : List (Inst × TaskE) :=
  s.disp.insts.filterMap (fun i => (s.task i.lcore i.task).bind (fun e => if p i e then some (i, e) else none))

/-- The instance has not fired, and still can. -/
def Inst.waits (i : Inst) : Bool := i.fired.isNone && i.ended.isNone && !i.late

/-- The instance has fired and waits for its core. -/
def Inst.ready (i : Inst) : Bool := i.fired.isSome && i.started.isNone && i.ended.isNone

def Inst.running (i : Inst) : Bool := i.started.isSome && i.ended.isNone

/-- Same instance. -/
def Inst.is (i : Inst) (l k b : Nat) : Bool := i.lcore == l && i.task == k && i.breath == b

/-! ## Waking and gating (R43) -/

def State.sleepOf (s : State) (l : Nat) : Sleep := mget .gated l s.disp.sleep
def State.setSleep (s : State) (l : Nat) (x : Sleep) : State :=
  { s with disp := { s.disp with sleep := mset .gated l x s.disp.sleep } }

/-- Shows the state of the core that holds `l`, while it neither runs nor is halted. -/
def showIdle (l st : Nat) (s : State) : State :=
  let p := s.physOf l
  if p < 136 && (s.get (F.RC_STAT_STATE p) == rcGATED || s.get (F.RC_STAT_STATE p) == rcIDLE)
  then s.set (F.RC_STAT_STATE p) st else s

/-- Begins to wake a gated core: awake 40 ns later (R43); the wake and the time gated are counted (R61). -/
def wake (l : Nat) (s : State) : State :=
  if s.sleepOf l == .gated then
    let d := s.disp
    let ns := (s.now - mget 0 l d.gatedAt) / 256
    let s := { s with disp := { d with wakes := mset 0 l (mget 0 l d.wakes + 1) d.wakes
                                       gatedNs := mset 0 l (mget 0 l d.gatedNs + ns) d.gatedNs } }
    showIdle l rcIDLE (s.setSleep l (.waking (s.now + 40 * uNs)))
  else s

/-- Time until the wake instant of an instance of entry `e` in breath `b`, in 1/256 ns; negative once passed (R43). -/
def State.toWake (s : State) (e : TaskE) (b : Nat) : Int := ((e.expect : Int) - 40) * 256 - s.since b

/-- Gates core `l` if it is awake, has no ready or running instance, and its wake instant lies more than 40 ns ahead
(R43). -/
def gateCheck (l : Nat) (s : State) : State :=
  let awake := match s.sleepOf l with | .awake => true | .waking a => decide (a ≤ s.now) | .gated => false
  let mine := s.disp.insts.filter (fun i => i.lcore == l)
  if awake && !mine.any (fun i => i.ready || i.running)
      && (s.instsOf (fun i _ => i.lcore == l && i.waits)).all (fun x => decide (40 * 256 < s.toWake x.2 x.1.breath))
  then
    let s := s.setSleep l .gated
    showIdle l rcGATED { s with disp := { s.disp with gatedAt := mset 0 l s.now s.disp.gatedAt } }
  else s

/-! ## Firing (R40, R42, R44) -/

/-- Key of an arrival in the record of arrivals. -/
def evKey (b key : Nat) : Nat := 65536 * b + key

/-- The arrival event that fires entry `e` in breath `b` came more than 40 ns before EXPECT, whenever it fires it: an event for a
breath still to start waits for it (R44). -/
def State.isEarly (s : State) (e : TaskE) (b : Nat) : Bool :=
  let at_ : Int := match mget 0 (evKey b (arrKey e.arg)) s.disp.posted with
    | 0 => s.since b
    | x + 1 => sx 72 (ux 72 ((x : Int) - s.breathAt b))
  e.kind == .arrival && decide (at_ + 40 * 256 < (e.expect : Int) * 256)

/-- Fires the waiting instances that satisfy `p`, waking their cores; early ARRIVAL events are counted (R44). -/
def fire (p : Inst → TaskE → Bool) (s : State) : State :=
  (s.instsOf (fun i e => i.waits && p i e)).foldl (fun t x =>
    let (i, e) := x
    let t := mapInsts (fun j => j.is i.lcore i.task i.breath) (fun j => { j with fired := some s.now }) t
    let t := if t.isEarly e i.breath then
        { t.incSat F.DISP_EVT_COUNT_EARLY with
          disp := { t.disp with early := mset false (evKey i.breath (arrKey e.arg)) true t.disp.early } }
      else t
    wake i.lcore t) s

/-- A source posts its arrival event for breath `b` (R40, R41): `real` is the arrival instant of a real sample, in
device time; none for a substitute (DEDUCED: log entry 9). -/
def arrive (key b : Nat) (real : Option Nat) (s : State) : State :=
  let v := match real with | some x => x + 2 | none => 1
  let k := evKey b key
  let s := { s with disp := { s.disp with arrivals := mset 0 k (max v (mget 0 k s.disp.arrivals)) s.disp.arrivals
                                          posted := if mget 0 k s.disp.posted = 0 then mset 0 k (s.dev + 1) s.disp.posted
                                                    else s.disp.posted } }
  fire (fun i e => e.kind == .arrival && arrKey e.arg == key && i.breath == b) s

/-- The bus-complete event of bus `m` for breath `b` (R40, R100). -/
def busEvent (m b : Nat) (s : State) : State :=
  fire (fun i e => e.kind == .bus && e.arg % 1024 == m && i.breath == b) s

/-- A predecessor's instance of breath `b` counts as done: completed, missed, or ended without running (R40, R46, R59). -/
def State.predDone (s : State) (b l k : Nat) : Bool :=
  s.disp.insts.any (fun i => i.is l k b &&
    (i.late || i.ended == some .completed || i.ended == some .untriggered || i.ended == some .aborted))

/-- Fires the COMPLETION instances whose predecessors are all done (R40). -/
def fireSuccessors (s : State) : State :=
  fire (fun i e => e.kind == .completion && (preds e.arg).all (fun q => s.predDone i.breath q.1 q.2)) s

/-! ## Arming (R40) -/

/-- Logical cores a section owns. -/
def State.coresOf (s : State) (i : Nat) : List Nat :=
  s.rvc.coreSec.filterMap (fun e => if e.2 == i + 1 then some e.1 else none)

/-- Logical core `l` waits for its spare in breath `n` (R59). -/
def State.awaitsSpare (s : State) (l n : Nat) : Bool :=
  match s.fenceTl l with
  | none => false
  | some f => match f.restart with | some r => decide (n < r) | none => true

/-- Arms every valid task of section `i` for breath `n` (R40). The instances of a core that waits for its spare, or is lost, end
without running, and their successors fire at their deadlines (R59, R60). -/
def armSection (n i : Nat) (s : State) : State :=
  let cores := (s.coresOf i).filter (fun l => l < s.activeCores)
  let s := cores.foldl (fun t l =>
    (List.range 128).foldl (fun t k =>
      match t.task l k with
      | none => t
      | some _ =>
        if t.taskValid 16384 l k then
          let e := if t.awaitsSpare l n || t.coreLost l then some IEnd.fenced else none
          { t with disp := { t.disp with insts := t.disp.insts ++ [{ lcore := l, task := k, breath := n, ended := e }] } }
        else t.set F.DISP_STAT_BADTASK 1) t) s
  fire (fun i e => e.kind == .arrival && i.breath == n && mget 0 (evKey n (arrKey e.arg)) s.disp.arrivals != 0) s

/-! ## Misses and the ramps of a task's taps (R46, R47) -/

/-- Key of a task in the per-task records. -/
def tkey (l k : Nat) : Nat := 128 * l + k
def State.tramp (s : State) (l k : Nat) : TaskRamp := mget .none (tkey l k) s.disp.tramp
def State.setTramp (s : State) (l k : Nat) (x : TaskRamp) : State :=
  { s with disp := { s.disp with tramp := mset .none (tkey l k) x s.disp.tramp } }
def State.missRun (s : State) (l k : Nat) : Nat := mget 0 (tkey l k) s.disp.misses
def State.setMissRun (s : State) (l k m : Nat) : State :=
  { s with disp := { s.disp with misses := mset 0 (tkey l k) m s.disp.misses } }

/-- Start level of the ramp of tap `t`. -/
def State.rampA (s : State) (t : Nat) : Int := match mget none t s.mtx.tapRamp with | some r => r.a | none => 0
def State.setRampA (s : State) (t : Nat) (a : Int) : State :=
  { s with mtx := { s.mtx with tapRamp := mset none t (some ⟨a, 0, 32, false⟩) s.mtx.tapRamp } }

/-- Latches the committed values of the taps as the start levels of a ramp. -/
def latchLevels (taps : List Nat) (s : State) : State := taps.foldl (fun u t => u.setRampA t (u.tap t).cur) s

/-- Commits `f t` to every tap of the list for breath `b`. -/
def commitAll (taps : List Nat) (b : Nat) (f : State → Nat → Int) (s : State) : State :=
  taps.foldl (fun u t => commitTap t (f u t) b u) s

/-- A missed task's output taps in breath `b`: they repeat, and after 8 misses in a row ramp to zero (R46, R47)
(DEDUCED: log entry 8). -/
def missTaps (l k : Nat) (e : TaskE) (b : Nat) (s : State) : State :=
  let m := s.missRun l k + 1
  let s := s.setMissRun l k m
  let down := fun (j : Nat) (u : State) =>
    commitAll e.taps b (fun v t => rampVal (v.rampA t) 0 j 32) (u.setTramp l k (if j = 32 then .zero else .down j))
  match s.tramp l k with
  | .down j => down (j + 1) s
  | .zero => commitAll e.taps b (fun _ _ => 0) s
  | _ => if 9 ≤ m then down 1 (latchLevels e.taps s) else commitAll e.taps b (fun v t => (v.tap t).cur) s

/-- The output taps of a task that completes in time: the queued values, the taps it did not write repeating, through
the ramp-in of R47 and the ramps of the section (R78, R158) (DEDUCED: log entry 8). -/
def completeTaps (l k : Nat) (e : TaskE) (b : Nat) (twr : List (Nat × Int)) (s : State) : State :=
  let value := fun (u : State) (t : Nat) => match twr.find? (fun q => q.1 == t) with | some q => q.2 | none => (u.tap t).cur
  let s := s.setMissRun l k 0
  let up := fun (j : Nat) (u : State) =>
    e.taps.foldl (fun v t => commitReed t (rampVal (v.rampA t) (value v t) j 32) b v)
      (u.setTramp l k (if j = 32 then .none else .up j))
  match s.tramp l k with
  | .down _ | .zero => up 1 (latchLevels e.taps s)
  | .up j => up (j + 1) s
  | .none => e.taps.foldl (fun v t =>
      if twr.any (fun q => q.1 == t) then commitReed t (value v t) b v else commitTap t (v.tap t).cur b v) s

/-- Registers, statistics and report of a miss; KIND 0 LATE, 1 UNTRIGGERED (R46, R48) (DEDUCED: log entry 8). -/
def noteMiss (l k b kind : Nat) (s : State) : State :=
  let s := (s.incSat F.DISP_MISS_COUNT_COUNT).set F.DISP_MISS_BREATH_BREATH b
  let s := ((((s.set F.DISP_MISS_LAST_VALID 1).set F.DISP_MISS_LAST_LCORE l).set F.DISP_MISS_LAST_TASK k).set
    F.DISP_MISS_LAST_KIND kind).set (F.DISP_CORE_STAT_SLACK_MIN l) 0
  raiseF 8 (128 * l + k) s

/-- A LATE miss of instance (l, k, b): its taps repeat and its successors fire (R46). -/
def lateMiss (l k b : Nat) (s : State) : State :=
  match s.task l k with
  | none => s
  | some e =>
    let s := mapInsts (fun i => i.is l k b) (fun i => { i with late := true }) s
    fireSuccessors (noteMiss l k b 0 (missTaps l k e b s))

/-! ## Commands -/

/-- DISP_RUN (R33): RUN written 1. A stop held during a commit is withdrawn; entering ARMED from READY enters SHOW
(R379). -/
def dispRun (s : State) : State :=
  let s := s.set F.DISP_CTRL_RUN 1
  let s := { s with disp := { s.disp with stopHeld := false } }
  if s.dstate == dStopped then
    let s := (s.set F.DISP_STAT_STATE dArmed)
    if s.pstate == psREADY then s.set F.PMU_STAT_PSTATE psSHOW else s
  else s

/-- The return of DISP to STOPPED enters READY (R379). -/
def enterReady (s : State) : State := if s.pstate == psSHOW then s.set F.PMU_STAT_PSTATE psREADY else s

/-- DISP_STOP (R33, R157): RUN written 0. -/
def dispStop (s : State) : State :=
  let s := s.set F.DISP_CTRL_RUN 0
  if s.dstate == dArmed then enterReady (s.set F.DISP_STAT_STATE dStopped)
  else if s.dstate == dRunning then
    if s.get F.RVC_STAT_STARTED != 0 then { s with disp := { s.disp with stopHeld := true } }
    else s.set F.DISP_STAT_STATE dStopping
  else s

/-- What a write of DISP_CTRL does; RUN is not written while a mode apply runs (R33). -/
def wrDispCtrl (v : Nat) (s : State) : State :=
  let s := s.set F.DISP_CTRL_ROT_EN (bits 1 1 v)
  if s.on F.SYS_MODE_STAT_APPLYING then s else if bitOf v 0 then dispRun s else dispStop s

def execDispRun (m v : Nat) (s : State) : Host.Outcome State Fault Refusal :=
  done s (guarded m A.DISP_CTRL (wrDispCtrl v) s)
def execDispStop (m v : Nat) (s : State) : Host.Outcome State Fault Refusal :=
  done s (guarded m A.DISP_CTRL (wrDispCtrl v) s)

/-- DISP_STOPPED (R33): every instance armed has ended. A mode apply that ended the breath drives DISP itself (R19). -/
def execDispStopped (t : Nat) (s : State) : Host.Outcome State Fault Refusal :=
  let s1 := s.atTime t
  if s1.dstate == dStopping && s1.disp.insts.all (fun i => i.ended.isSome)
      && !s1.on F.SYS_MODE_STAT_APPLYING then
    let s2 := zeroSerial (stopAudio (tickCredits s1))
    done s (enterReady (s2.set F.DISP_STAT_STATE dStopped))
  else done s s1

/-- TASK_TIME_TRIGGER (R40): the TIME task `k` of core `l` fires in breath `b`. -/
def execTaskTimeTrigger (l k b t : Nat) (s : State) : Host.Outcome State Fault Refusal :=
  let s1 := s.atTime t
  done s (fire (fun i e => i.is l k b && e.kind == .time && s1.reached b (e.arg % 65536)) s1)

/-- CORE_WAKE (R43): the wake instant of core `l` has come. -/
def execCoreWake (l t : Nat) (s : State) : Host.Outcome State Fault Refusal :=
  let s1 := s.atTime t
  done s (if (s1.instsOf (fun i _ => i.lcore == l && i.waits)).any (fun x => decide (s1.toWake x.2 x.1.breath ≤ 0))
    then wake l s1 else gateCheck l s1)

/-- DEADLINE_MISS (R46, R47, R59) of task `k` of core `l` in breath `b`. -/
def execDeadlineMiss (l k b t : Nat) (s : State) : Host.Outcome State Fault Refusal :=
  let s1 := s.atTime t
  match s1.disp.insts.find? (fun i => i.is l k b), s1.task l k with
  | some i, some e =>
    if i.late || !s1.reached b e.deadline then done s s1
    else if i.ended == some .fenced then
      done s (fireSuccessors (mapInsts (fun j => j.is l k b) (fun j => { j with late := true }) s1))
    else if i.ended.isSome then done s s1
    else if i.fired.isSome then done s (lateMiss l k b s1)
    else
      let s2 := mapInsts (fun j => j.is l k b) (fun j => { j with ended := some .untriggered }) s1
      done s (gateCheck l (fireSuccessors (noteMiss l k b 1 (missTaps l k e b s2))))
  | _, _ => done s s1

/-! ### DISP_CLR (R61) -/

def clrCore (s : State) : State := s.resetRegs (fun a => a % 0x100000000 == A.DISP_CORE_STAT 0)
def clrTbt (s : State) : State := s.resetRegs (fun a => a % 0x100000000 == A.DISP_TBT_DATA1 0)
def clrEvt (s : State) : State := s.resetRegs (fun a => a == A.DISP_EVT_COUNT)
def clrMiss (s : State) : State :=
  s.resetRegs (fun a => a == A.DISP_MISS_COUNT || a == A.DISP_MISS_LAST || a == A.DISP_MISS_BREATH)

/-- A write of DISP_CLR (R61). -/
def wrDispClr (v : Nat) (s : State) : State :=
  let s := if bitOf v 3 then clrCore s else s
  let s := if bitOf v 2 then clrTbt s else s
  let s := if bitOf v 1 then clrEvt s else s
  if bitOf v 0 then clrMiss s else s

def execClrCore (m : Nat) (s : State) : Host.Outcome State Fault Refusal := done s (guarded m A.DISP_CLR clrCore s)
def execClrTbt (m : Nat) (s : State) : Host.Outcome State Fault Refusal := done s (guarded m A.DISP_CLR clrTbt s)
def execClrEvt (m : Nat) (s : State) : Host.Outcome State Fault Refusal := done s (guarded m A.DISP_CLR clrEvt s)
def execClrMiss (m : Nat) (s : State) : Host.Outcome State Fault Refusal := done s (guarded m A.DISP_CLR clrMiss s)

/-- What the read of DISP_TBT_DATA1 does beside returning the word: INDEX increments with AUTOINC (R61). -/
def tbtAutoinc (s : State) : State :=
  if s.on F.DISP_TBT_INDEX_AUTOINC then s.inc F.DISP_TBT_INDEX_INDEX else s

end Sys2Proof.Machine
end

