-- ==== Sys2Proof/Machine/Rot.lean ====
section
/-!
DEFINITION. Spare rotation, self-tests, and the replacement of a fenced core (R53–R61).
-/
namespace Sys2Proof.Machine

/-- PHASE codes of DISP_ROT_STAT (R61). -/
def rpIDLE : Nat := 0
def rpHANDOVER : Nat := 1
def rpBIST : Nat := 2
def rpHANDBACK : Nat := 3
def rpSUSPENDED : Nat := 4
def setRot (r : RotS) (ph : Nat) (s : State) : State :=
  { s with disp := { s.disp with rot := some r } }.set F.DISP_ROT_STAT_PHASE ph

/-- The section of logical core `l` is committing (R57, R157). -/
def State.lcoreCommits (s : State) (l : Nat) : Bool :=
  match s.coreOwner l with | some i => let st := s.secState i; (2 ≤ st && st ≤ 5) || s.commits i | none => false

/-- A physical core that holds nothing goes idle. -/
def idleCore (p : Nat) (s : State) : State := stopCore p rcGATED s

/-! ## Steps (R53–R57) -/

/-- The logical core of the next automatic step; none once the pass is over. A core of a committing section, and one that waits for
its spare, are passed over (DESIGN CHOICE: log entry 67). -/
def State.rotCandidate (s : State) : Option Nat :=
  (List.range s.activeCores).find? (fun l => s.disp.rotNext ≤ l && s.physOf l < 136 && !s.lcoreCommits l)

/-- Starts a step for `l`, or suspends it for want of a spare (R55, R56). -/
def startStep (l : Nat) (req : Bool) (s : State) : State :=
  let s := s.set F.DISP_ROT_STAT_LCORE l
  match s.lowestSpare with
  | none => s.set F.DISP_ROT_STAT_PHASE rpSUSPENDED
  | some q =>
    let r : RotS := { lcore := l, p := s.physOf l, q := q, hand := some .bulk, startB := s.n, upAt := s.dev, requested := req }
    let d := s.disp
    setRot r rpHANDOVER { s with disp := { d with
      rotNext := if req then d.rotNext else l + 1
      rotDue := if req then d.rotDue else s.n + max 600 (s.get F.DISP_ROT_CTRL_STEP)
      bistReq := if req then none else d.bistReq } }

/-- ROTATION_STEP_START (R53, R55, R57, R58). -/
def rotationStart (s : State) : State :=
  if !s.breathing || s.disp.rot.isSome || s.n < s.disp.rotFree || s.on F.SYS_MODE_STAT_APPLYING then s
  else match s.disp.bistReq with
    | some p =>
      match s.logOf p with
      | some l => if s.lcoreCommits l then s else startStep l true s
      | none =>
        if s.idleSpare p then { s with disp := { s.disp with bistReq := none, bistSpare := some (p, none), bistB := s.n } } else s
    | none =>
      if !s.on F.DISP_CTRL_ROT_EN || s.n < s.disp.rotDue then s
      else match s.rotCandidate with
        | some l => startStep l false s
        | none =>
          let s := { s with disp := { s.disp with rotNext := 0 } }.inc F.DISP_ROT_STAT_PASSES
          match s.rotCandidate with | some l => startStep l false s | none => s

def execRotationStepStart (t : Nat) (s : State) : Host.Outcome State Fault Refusal := done s (rotationStart (s.atTime t))

/-- Holder and receiver of the hand-over in progress (R54). -/
def RotS.holder (r : RotS) : Nat := if r.back then r.q else r.p
def RotS.receiver (r : RotS) : Nat := if r.back then r.p else r.q

/-- The spare of the step has been powered up for 20 µs, so that BULK may copy to it (R383). -/
def State.spareUp (s : State) (r : RotS) : Bool := r.back || decide (((20 * uUs : Nat) : Int) ≤ sx 72 (ux 72 ((s.dev : Int) - r.upAt)))

/-- Neither core of the hand-over runs an instance (R54). -/
def State.handQuiet (s : State) (r : RotS) : Bool := (s.coreS r.p).inst.isNone && (s.coreS r.q).inst.isNone

/-- Copies the memories and the task list of the holder to the receiver. -/
def copyHand (r : RotS) (s : State) : State := copyWindow r.holder r.receiver handRange s

/-- Copies the dirty 256-byte granules again. -/
def copyDirty (r : RotS) (s : State) : State := copyWindow r.holder r.receiver (fun o => r.dirty.contains (o / 256)) s

def execHandoverBulkDone (t : Nat) (s : State) : Host.Outcome State Fault Refusal :=
  let s1 := s.atTime t
  match s1.disp.rot with
  | some r =>
    if r.hand == some .bulk && s1.spareUp r && s1.handQuiet r then
      done s { copyHand r s1 with disp := { s1.disp with rot := some { r with hand := some .catchup, dirty := [] } } }
    else done s s1
  | none => done s s1

def execHandoverCatchupDone (t : Nat) (s : State) : Host.Outcome State Fault Refusal :=
  let s1 := s.atTime t
  match s1.disp.rot with
  | some r =>
    if r.hand == some .catchup && s1.handQuiet r then
      done s { copyDirty r s1 with disp := { s1.disp with rot := some { r with hand := some .switchWait, dirty := [] } } }
    else done s s1
  | none => done s s1

/-- The switch of a hand-over inside the switch guard of a breath (R54, R55). -/
def switchHand (r : RotS) (s : State) : State :=
  let s := copyDirty r s
  let s := loadTasks r.lcore r.receiver (s.setPhys r.lcore r.receiver)
  let s := s.set (F.RC_STAT_STATE r.receiver) (s.get (F.RC_STAT_STATE r.holder))
  if r.back then endStep (idleCore r.q s)
  else
    let s := stopCore r.p rcISOLATED s
    { s with disp := { s.disp with rot := some { r with hand := none, dirty := [], startB := s.n } } }

def execHandoverSwitch (t : Nat) (s : State) : Host.Outcome State Fault Refusal :=
  let s1 := s.atTime t
  match s1.disp.rot with
  | some r =>
    if r.hand == some .switchWait && (s1.coreS r.holder).inst.isNone && s1.breathing
        && decide (s1.since s1.n < 100 * 256) then done s (switchHand r s1)
    else done s s1
  | none => done s s1

/-- A commit or a mode apply meets a step on a core of the set (R57). -/
def meetRotation (p : Nat → Bool) (s : State) : State :=
  match s.disp.rot with
  | none => s
  | some r =>
    if !p r.lcore then s
    else if r.back then endStep (idleCore r.p s)
    else if r.hand.isSome then
      endStep { s with disp := { s.disp with bistReq := if r.requested then some r.p else s.disp.bistReq } }
    else { s with disp := { s.disp with rot := some { r with swap := true } } }

/-! ## Self-tests (R55, R56, R58) -/

/-- The self-test of a rotation step begins in the breath after the switch (R55). -/
def bistStartStep (s : State) : State :=
  match s.disp.rot with
  | some r =>
    if r.hand.isNone && !r.back && r.bistAt.isNone && r.startB < s.n then
      (setRot { r with bistAt := some s.dev } rpBIST s).set (F.RC_STAT_STATE r.p) rcBIST
    else s
  | none => s

/-- The self-test of a spare begins at the breath start after its request (R58). -/
def bistStartSpare (s : State) : State :=
  match s.disp.bistSpare with
  | some (p, none) =>
    if s.breathing && s.disp.started && s.disp.bistB ≤ s.n then
      { s with disp := { s.disp with bistSpare := some (p, some s.dev) } }.set (F.RC_STAT_STATE p) rcBIST
    else s
  | _ => s

/-- BIST_START (R55, R58): every self-test that is due begins. -/
def execBistStart (t : Nat) (s : State) : Host.Outcome State Fault Refusal :=
  done s (bistStartSpare (bistStartStep (s.atTime t)))

/-- The self-test of core `p` failed: RC_BIST, and the core is fenced (R56). -/
def bistFail (p : Nat) (s : State) : State :=
  let s := raiseF 3 p s
  if s.coreFenced p then s else fenceCore p s

/-- Instant at which the self-test of the step in progress began. -/
def State.stepTestAt (s : State) : Option Nat := s.disp.rot.bind (fun r => if r.hand.isSome then none else r.bistAt)

/-- Instant at which the self-test of a spare began. -/
def State.spareTestAt (s : State) : Option Nat := s.disp.bistSpare.bind (fun b => b.2)

/-- The self-test of the step in progress ends (R55–R57). -/
def stepTestEnd (ok : Bool) (s : State) : State :=
  match s.disp.rot with
  | none => s
  | some r =>
    let s := if r.requested then bistResult ok s else s
    if !ok then bistFail r.p (endStep s)
    else if r.swap then endStep (idleCore r.p s)
    else (setRot { r with back := true, hand := some .bulk, bistAt := none, dirty := [], copied := 0 } rpHANDBACK s).set
      (F.RC_STAT_STATE r.p) rcISOLATED

/-- The self-test of a spare ends (R56, R58). -/
def spareTestEnd (ok : Bool) (s : State) : State :=
  match s.disp.bistSpare with
  | some (p, _) =>
    let s := bistResult ok { s with disp := { s.disp with bistSpare := none } }
    if ok then idleCore p s else bistFail p s
  | none => s

/-- BIST_END (R55–R58): a self-test has run for 2 ms of device time; of two, the one that began first. -/
def bistEnd (ok : Bool) (s : State) : State :=
  let ran := fun (a : Nat) => sx 72 (ux 72 ((s.dev : Int) - a))
  let due := fun (a : Nat) => decide (((2 * uMs : Nat) : Int) ≤ ran a)
  match s.stepTestAt, s.spareTestAt with
  | some a, some b => if ran a < ran b then (if due b then spareTestEnd ok s else s) else if due a then stepTestEnd ok s else s
  | some a, none => if due a then stepTestEnd ok s else s
  | none, some b => if due b then spareTestEnd ok s else s
  | none, none => s

def execBistEnd (ok : Bool) (t : Nat) (s : State) : Host.Outcome State Fault Refusal := done s (bistEnd ok (s.atTime t))

/-- A write of DISP_BIST_REQ (R58, R61) (DESIGN CHOICE: log entry 13). A core that is neither idle nor holds a logical core, since it
takes part in a step or is being loaded, is accepted and waits (DESIGN CHOICE: log entry 67). -/
def wrBistReq (v : Nat) (s : State) : State :=
  if v / 65536 != keyA55A || !bitOf v 0 then s
  else
    let p := bits 15 8 v
    let s := s.set F.DISP_BIST_STAT_PCORE p
    let rej := fun (c : Nat) => s.set F.DISP_BIST_STAT_RESULT c
    let accept := fun (u : State) => (u.set F.DISP_BIST_STAT_BUSY 1).set F.DISP_BIST_STAT_RESULT 0
    if 135 < p then rej 7
    else if s.coreFenced p then rej 3
    else if s.disp.pgated.contains p then rej 6
    else if s.on F.DISP_BIST_STAT_BUSY then rej 4
    else if s.idleSpare p then accept { s with disp := { s.disp with bistSpare := some (p, none), bistB := s.nextBreath } }
    else if (s.logOf p).isSome && s.lowestSpare.isNone then rej 5
    else accept { s with disp := { s.disp with bistReq := some p } }

def execBistRequest (m v : Nat) (s : State) : Host.Outcome State Fault Refusal :=
  done s (guarded m A.DISP_BIST_REQ (wrBistReq v) s)

/-! ## Fenced cores (R59–R61) -/

/-- Logical core `l` is lost for want of a spare (R60). -/
def loseCore (l : Nat) (s : State) : State :=
  let s := (s.setBit (F.DISP_LOST_LOST (l / 32)) (l % 32) true).set F.DISP_STAT_DEGRADED 1
  raiseF 10 l (s.setPhys l 0xFF)

/-- SPARE_SELECT (R59, R60). -/
def spareSelect (l : Nat) (s : State) : State :=
  match s.fenceTl l with
  | none => s
  | some f =>
    if f.spare.isSome || s.coreLost l || (s.breathing && s.n < f.f + 1) then s
    else match s.lowestSpare with
      | some q => { s.setFenceTl l (some { f with spare := some q }) with dly := { s.dly with loaded := 0 } }
      | none => loseCore l s

def execSpareSelect (l t : Nat) (s : State) : Host.Outcome State Fault Refusal := done s (spareSelect l (s.atTime t))

/-- Output taps of the tasks of a logical core. -/
def State.coreTaps (s : State) (l : Nat) : List Nat :=
  ((List.range 128).flatMap (fun k => match s.task l k with | some e => e.taps | none => [])).eraseDups

/-- FENCE_RAMP_OUT (R59): from breath F + 8 on, the taps of `l` ramp to zero. -/
def execFenceRampOut (l t : Nat) (s : State) : Host.Outcome State Fault Refusal :=
  let s1 := s.atTime t
  match s1.fenceTl l with
  | some f =>
    if f.ramp.isNone && f.restart.isNone && f.f + 8 ≤ s1.n && s1.breathing then
      done s (latchLevels (s1.coreTaps l) (s1.setFenceTl l (some { f with ramp := some s1.n })))
    else done s s1
  | none => done s s1

/-- The value a tap of a fenced core commits in breath `n` (R59). -/
def State.fencedTap (s : State) (f : FenceTl) (n t : Nat) : Int :=
  match f.ramp with
  | some r => if n < r then (s.tap t).cur else if n < r + 31 then rampVal (s.rampA t) 0 (n - r + 1) 32 else 0
  | none => (s.tap t).cur

/-- Live image of a section (R149). -/
def State.liveImage (s : State) (i : Nat) : List ImgRec :=
  (imgRecords s (stagingBase i (s.get (F.SECn_STAT_LIVEBUF i)))).getD []

/-- Held mailbox words of `l` are written to its core in order, and their mailboxes read APPLIED (R59, R116). -/
def landWords (p : HeldWord → Bool) (s : State) : State :=
  let hs := s.disp.heldWords.filter p
  let s := { s with disp := { s.disp with heldWords := s.disp.heldWords.filter (fun h => !p h) } }
  hs.foldl (fun u h =>
    let c := u.loadCoreOf h.lcore
    let u := if c < 136 then extWrite c ((if h.y then yBase c else xBase c) + 4 * h.word) (leBytes 4 h.value) u else u
    if u.disp.heldWords.any (fun g => g.mbox == h.mbox) then u else u.set (F.MTX_MBOX_STAT_STATE h.mbox) 2) s

/-- The core of `l` is ready again: it restarts with the state just loaded, and its taps ramp in from the level reached
(R47, R59). -/
def restartFenced (l : Nat) (s : State) : State :=
  let s := (s.setPhys l (s.loadCoreOf l)).setFenceTl l none
  let s := latchLevels (s.coreTaps l) s
  (List.range 128).foldl (fun u k => if (u.task l k).isSome then (u.setTramp l k (.up 0)).setMissRun l k 0 else u) s

/-- SPARE_LOAD_DONE (R59). -/
def spareLoadDone (l : Nat) (s : State) : State :=
  match s.fenceTl l with
  | some f =>
    match f.spare, s.coreOwner l with
    | some q, some i =>
      if f.restart.isSome then s
      else
        let s := loadCore (s.liveImage i) l q false s
        let s := (loadTasks l q s).setFenceTl l (some { f with restart := some (s.n + 1) })
        let s := landWords (fun h => h.lcore == l) s
        if s.breathing then s else (s.setPhys l q).setFenceTl l none
    | some q, none => (s.setPhys l q).setFenceTl l none
    | _, _ => s
  | none => s

def execSpareLoadDone (l t : Nat) (s : State) : Host.Outcome State Fault Refusal := done s (spareLoadDone l (s.atTime t))

/-- Gives logical core `l` a holder by the rule of R61. -/
def takeHolder (l : Nat) (s : State) : State :=
  if s.idleSpare l then s.setPhys l l
  else match s.lowestSpare with | some q => s.setPhys l q | none => loseCore l s

/-- The map after a reset, with the fences in force applied (R61). -/
def resetMap (s : State) : State :=
  let s := (List.range 128).foldl (fun u l => u.setPhys l l) s
  (List.range 128).foldl (fun u l =>
    if !u.coreFenced l then u else if l < u.activeCores then takeHolder l (u.setPhys l 0xFF) else u.setPhys l 0xFF) s

/-- A lost logical core whose section restarts takes a spare that has become available (R60). -/
def restoreLost (l : Nat) (s : State) : State :=
  if s.coreLost l && l < s.activeCores then
    match s.lowestSpare with
    | some q =>
      let s := ((s.setPhys l q).setFenceTl l none).setBit (F.DISP_LOST_LOST (l / 32)) (l % 32) false
      s.set F.DISP_STAT_DEGRADED ((List.range 128).any s.coreLost).toNat
    | none => s
  else s

/-- Power-gates the cores that held the logical cores outside the active set, wherever a rotation has put those, so that the
spares stay as many as they are; or gives cores that become active a holder (R18, R19, R61). -/
def applyActive (s : State) : State :=
  let act := s.activeCores
  let s := if act = 128 then { s with disp := { s.disp with pgated := [] } } else s
  (List.range 128).foldl (fun u l =>
    if l < act then
      if u.physOf l < 136 || u.coreLost l || (u.fenceTl l).isSome then u
      else takeHolder l { u with disp := { u.disp with pgated := u.disp.pgated.filter (fun p => p != l) } }
    else
      let p := u.physOf l
      let u := (u.setPhys l 0xFF).setFenceTl l none
      if p < 136 then stopCore p rcGATED { u with disp := { u.disp with pgated := p :: u.disp.pgated } } else u) s

end Sys2Proof.Machine
end

