-- ==== Sys2Proof/Machine/Mtx.lean ====
section
/-!
DEFINITION. The mix matrix: banks, buses, gain movement, bank swaps and parameter mailboxes (R98–R116, R122).
-/
namespace Sys2Proof.Machine

/-! ## Banks (R102, R103) -/

/-- One crosspoint entry. -/
structure Xp where
  target : Int
  ramp   : Nat
  src    : Nat
  bus    : Nat
  bad    : Bool

def State.activeBank (s : State) : Nat := s.get F.MTX_STAT_ACTIVE
def State.shadowBank (s : State) : Nat := 1 - s.activeBank
def State.bankCount (s : State) (k : Nat) : Nat := s.get (F.MTX_BANK_COUNT_COUNT k)

/-- Entry `i` of bank `k`; `bad` for a reserved SRC, RAMP or bit (R105). -/
def State.xp (s : State) (k i : Nat) : Xp :=
  let a := bankBase k + 12 * i
  let w1 := s.word (a + 4)
  let src := bits 28 16 w1
  ⟨sx 32 (s.word a), bits 31 29 w1, src, w1 % 1024,
   !isTap src || 4 ≤ bits 31 29 w1 || bits 15 10 w1 != 0 || s.word (a + 8) != 0⟩

def Xp.key (x : Xp) : Nat := x.src * 1024 + x.bus

/-- Entries of a bank. -/
def State.bank (s : State) (k : Nat) : List Xp := (List.range (s.bankCount k)).map (fun i => s.xp k i)

/-- Entries of the active bank that count: beyond the crosspoint limit they are absent under OVERLIMIT (R106). -/
def State.active (s : State) : List Xp :=
  let n := s.bankCount s.activeBank
  let n := if s.on F.MTX_STAT_OVERLIMIT then min n s.mode.xpLimit else n
  (List.range n).map (fun i => s.xp s.activeBank i)

def State.gainOf (s : State) (key : Nat) : GainS := mget {} key s.mtx.gain
def State.setGain (s : State) (key : Nat) (g : GainS) : State := { s with mtx := { s.mtx with gain := mset {} key g s.mtx.gain } }

/-- MTX_RETIRING. -/
def showRetiring (s : State) : State := s.set F.MTX_RETIRING_COUNT s.mtx.retiring.length

/-! ## Gain movement (R109, R110) -/

/-- Applies the change that has taken effect by breath `b` (DEDUCED: log entry 12). -/
def GainS.take (g : GainS) (b : Nat) : GainS :=
  (g.next.filter (fun c => c.b ≤ b)).foldl (fun x c =>
    let y := { x with start := x.cur, count := 0, target := c.target, mode := c.mode, zct := c.zct, retire := c.retire
                      len := if c.mode = 1 || c.mode = 3 then c.len else x.len }
    match c.mode with
    | 0 => { y with phase := .wait }
    | 2 => { y with cur := c.target, phase := .idle }
    | _ => { y with phase := .ramp }) { g with next := g.next.filter (fun c => !(c.b ≤ b)) }

/-- The source crosses zero, or stands at it. -/
def crosses (s sp : Int) : Bool := s == 0 || (sp < 0 && 0 < s) || (0 < sp && s < 0)

/-- The branch of a wait that reached its timeout. -/
def GainS.timeout (g : GainS) : GainS := { g with start := g.cur, len := 64, count := 0, phase := .ramp }

/-- The branch of a ramp that reached its length. -/
def GainS.rampEnd (g : GainS) : GainS := if g.count == g.len then { g with phase := .idle } else g

/-- One breath of the gain computation of R109, for source value `s` and the value one breath earlier `sp`. -/
def GainS.step (g : GainS) (s sp : Int) : GainS :=
  let g := if g.phase == .wait then
      if crosses s sp then { g with cur := g.target, phase := .idle }
      else if g.zct ≤ g.count then g.timeout
      else { g with count := g.count + 1 }
    else g
  if g.phase == .ramp then
    let k := g.count + 1
    GainS.rampEnd { g with count := k, cur := rampVal g.start g.target k g.len }
  else g

/-- The crosspoint is dropped after this breath. -/
def GainS.dead (g : GainS) : Bool := g.retire && g.phase == .idle && g.cur == 0 && g.next.isEmpty

/-- Length of a movement under a RAMP code, latched now (R109, R122). -/
def State.rampLen (s : State) (mode : Nat) : Nat :=
  if mode = 1 then max 1 (s.get F.MTX_RAMP_LEN_BREATHS) else if mode = 3 then max 1 (s.get F.MTX_XFADE_LEN_BREATHS) else 0

/-- Adds a target change for breath `b`; a later one for the same breath prevails (R110) (DEDUCED: log entry 12). -/
def GainS.change (g : GainS) (c : GChg) : GainS := { g with next := g.next.filter (fun d => d.b != c.b) ++ [c] }

def State.gchg (s : State) (b : Nat) (target : Int) (mode : Nat) (retire : Bool) : GChg :=
  ⟨b, target, mode, s.rampLen mode, s.get F.MTX_ZC_TIMEOUT_BREATHS, retire⟩

/-! ## Buses (R98–R101) -/

/-- Source value of a crosspoint of bus `n` in breath `b`, and its value one breath earlier (R99). -/
def State.srcVals (s : State) (src n b : Nat) : Int × Int :=
  let x := s.tap src
  if busTap0 + n ≤ src && src < busTap0 + 1024 then (if b = 0 then (x.cur, x.prev) else (x.val (b - 1), x.val (b - 2)))
  else (x.val b, if b = 0 then x.prev else x.val (b - 1))

/-- First breath index after the anchor (R34). -/
def State.startIndex (s : State) : Nat := s.get F.DISP_START_INDEX_HI_START_HI * 2 ^ 32 + s.get F.DISP_START_INDEX_LO_START_LO

/-- The source has committed what bus `n` takes from it in breath `b` (R100). -/
def State.srcReady (s : State) (src n b : Nat) : Bool :=
  let x := s.tap src
  if busTap0 + n ≤ src && src < busTap0 + 1024 then b ≤ x.at_ || b == s.disp.first else b + 1 ≤ x.at_

/-- Sources of bus `n`: active crosspoints and retiring ones. -/
def State.busSrcs (s : State) (n : Nat) : List Nat :=
  ((s.active.filter (fun x => x.bus == n)).map Xp.src) ++
  ((s.mtx.retiring.filter (fun x => x.1 % 1024 == n)).map (fun x => x.1 / 1024))

/-- The gain states of the crosspoints of bus `n` after breath `b`, and the exact sum of R98 in 2^-62. -/
def sumBus (n b : Nat) (s : State) : Int × State :=
  let add := fun (acc : Int) (g : GainS) (src : Nat) =>
    let (v, vp) := s.srcVals src n b
    let g := (g.take b).step v vp
    (acc + 2 * v * g.cur, g)
  let (acc, s1) := (s.active.filter (fun x => x.bus == n)).foldl (fun (a : Int × State) x =>
    let (acc, g) := add a.1 (a.2.gainOf x.key) x.src
    (acc, a.2.setGain x.key g)) ((0 : Int), s)
  let (acc, rets) := s1.mtx.retiring.foldl (fun (a : Int × List (Nat × GainS)) x =>
    if x.1 % 1024 == n then
      let (acc, g) := add a.1 x.2 (x.1 / 1024)
      (acc, if g.dead then a.2 else a.2 ++ [(x.1, g)])
    else (a.1, a.2 ++ [x])) (acc, [])
  (acc, showRetiring { s1 with mtx := { s1.mtx with retiring := rets } })

/-- The swap of the breath in progress is still to come, or mailboxes below `k` are still to be applied in it (R105, R110,
R116). -/
def State.mtxWaits (s : State) (k : Nat) : Bool :=
  (s.on F.MTX_SWAP_STAT_BUSY && s.mtx.swapOk && !s.mtx.swapped && !s.mtx.swapWhen && decide (s.mtx.swapB ≤ s.n))
  || (List.range k).any (fun j => s.mboxDue j)

/-- Bus `n` completes for breath `b` (R100), once what takes effect in it has been applied: gains move, the sum commits through the ramps of the owning section, and
the bus-complete event is posted. -/
def busComplete (n b : Nat) (s : State) : State :=
  let t := busTap0 + n
  if 1024 ≤ n || s.n < b || !s.breathing || b + 1 ≤ (s.tap t).at_ || s.since b < 100 * 256
      || !(s.busSrcs n).all (fun q => s.srcReady q n b) || (b == s.n && s.mtxWaits 8) then s
  else if s.suspendedO (s.busOwner n) then busEvent n b (commitTap t (s.tap t).cur b s)
  else
    let (acc, s) := sumBus n b s
    let r := accRound acc
    let s := if r.sat then s.incSat F.MTX_BUSSAT_COUNT else s
    let v := sx 32 r.val
    let v := match s.busOwner n with
      | some i => if 3 ≤ s.secState i then 0 else s.secRamp i b v
      | none => v
    busEvent n b (commitTap t v b s)

def execBusComplete (n b t : Nat) (s : State) : Host.Outcome State Fault Refusal := done s (busComplete n b (s.atTime t))

/-- ZC_TIMEOUT (R109): the wait of the crosspoint has reached zc_timeout without a crossing in breath `b`, which is judged once
the source has committed what the bus takes and before the bus is summed. -/
def execZcTimeout (src bus b t : Nat) (s : State) : Host.Outcome State Fault Refusal :=
  let s1 := s.atTime t
  if b < (s1.tap (busTap0 + bus)).at_ || s1.n < b || !s1.srcReady src bus b then done s s1
  else
    let f := fun (g : GainS) =>
      let g' := g.take b
      let (v, vp) := s1.srcVals src bus b
      if g'.phase == .wait && g'.zct ≤ g'.count && !crosses v vp then g'.timeout else g
    let key := src * 1024 + bus
    let s2 := if s1.active.any (fun x => x.key == key) then s1.setGain key (f (s1.gainOf key)) else s1
    done s { s2 with mtx := { s2.mtx with retiring := s2.mtx.retiring.map (fun x => if x.1 == key then (x.1, f x.2) else x) } }

/-- GAIN_RAMP_END (R109): a ramp at LEN goes IDLE, and a retiring crosspoint at 0 is dropped. -/
def execGainRampEnd (src bus t : Nat) (s : State) : Host.Outcome State Fault Refusal :=
  let s1 := s.atTime t
  let f := fun (g : GainS) => if g.phase == .ramp then g.rampEnd else g
  let key := src * 1024 + bus
  let s2 := if s1.active.any (fun x => x.key == key) then s1.setGain key (f (s1.gainOf key)) else s1
  let rets := (s2.mtx.retiring.map (fun x => if x.1 == key then (x.1, f x.2) else x)).filter (fun x => x.1 != key || !x.2.dead)
  done s (showRetiring { s2 with mtx := { s2.mtx with retiring := rets } })

/-! ## Swaps (R104–R106) -/

/-- Results of MTX_SWAP_STAT (R122). -/
def swDONE : Nat := 1
def swBUSY : Nat := 2
def swORDER : Nat := 3
def swENTRY : Nat := 4
def swCAPACITY : Nat := 5
def swLATE : Nat := 6
def swPAIRED : Nat := 7
def swSTATE : Nat := 8

/-- Double-reed pairing is enabled (R20, R105, R115, R156). -/
def State.paired (s : State) : Bool := s.on F.TWIN_CTRL_EN

/-- A 48-bit index as an unwrapped breath near the breath in progress (R12, R418). -/
def State.unwrap (s : State) (v : Nat) : Nat := ((s.n : Int) + sx 48 (ux 48 ((v : Int) - s.n))).toNat

/-- Ends the request in hand with a result (R105). -/
def endSwap (r : Nat) (s : State) : State :=
  { (s.set F.MTX_SWAP_STAT_BUSY 0).set F.MTX_SWAP_STAT_RESULT r with mtx := { s.mtx with swapOk := false, swapped := false } }

/-- A write of MTX_SWAP (R105). -/
def wrSwap (v : Nat) (s : State) : State :=
  if v / 65536 != keyA55A || !bitOf v 0 then s
  else
    let b := s.get F.MTX_SWAP_BREATH_HI_B_HI * 2 ^ 32 + s.get F.MTX_SWAP_BREATH_LO_B_LO
    if s.on F.MTX_SWAP_STAT_BUSY then s.set F.MTX_SWAP_STAT_RESULT swBUSY
    else if s.on F.SYS_MODE_STAT_APPLYING then endSwap swSTATE s
    else if bitOf v 1 && s.paired then endSwap swPAIRED s
    else if !bitOf v 1 && !serAfter 48 b (bidx s.n) then endSwap swLATE s
    else { s.set F.MTX_SWAP_STAT_BUSY 1 with
           mtx := { s.mtx with swapOk := false, swapped := false, swapWhen := bitOf v 1, swapB := s.unwrap b, swapAt := s.now } }

def execMatrixSwapRequest (m v : Nat) (s : State) : Host.Outcome State Fault Refusal :=
  done s (guarded m A.MTX_SWAP (wrSwap v) s)

/-- The scan of the shadow bank: the first entry that fails, with its result (R105). -/
def scanBank : List Xp → Nat → Option Nat → Option (Nat × Nat)
  | [], _, _ => none
  | x :: r, i, last =>
    if x.bad then some (swENTRY, i)
    else if (match last with | some k => decide (x.key ≤ k) | none => false) then some (swORDER, i)
    else scanBank r (i + 1) (some x.key)

/-- Validation of the shadow bank ends (R105). -/
def swapValidate (s : State) : State :=
  if !s.on F.MTX_SWAP_STAT_BUSY || s.mtx.swapOk || s.mtx.swapped then s
  else
    let cnt := s.bankCount s.shadowBank
    if s.mode.xpLimit < cnt then endSwap swCAPACITY s
    else match scanBank (s.bank s.shadowBank) 0 none with
      | some (r, i) => endSwap r (s.set F.MTX_SWAP_STAT_ERRIDX i)
      | none =>
        let keys := (s.bank s.shadowBank).map Xp.key
        let goes := (s.active.filter (fun x => !keys.contains x.key)).length
        if s.mode.xpLimit < cnt + s.mtx.retiring.length + goes then endSwap swCAPACITY s
        else { s with mtx := { s.mtx with swapOk := true } }

def execSwapValidationDone (t : Nat) (s : State) : Host.Outcome State Fault Refusal := done s (swapValidate (s.atTime t))

/-- The merge of the two banks at breath `b` (R104). -/
def mergeBanks (b : Nat) (s : State) : State :=
  let old := s.active
  let new := s.bank s.shadowBank
  let kept := new.foldl (fun (m : SMap GainS) x =>
    match old.find? (fun y => y.key == x.key) with
    | some y =>
      let g := s.gainOf x.key
      mset {} x.key (if y.target == x.target && y.ramp == x.ramp then g else g.change (s.gchg b x.target x.ramp false)) m
    | none => mset {} x.key ((({} : GainS)).change (s.gchg b x.target x.ramp false)) m) []
  let gone := (old.filter (fun y => !new.any (fun x => x.key == y.key))).map (fun y =>
    let g := s.gainOf y.key
    (y.key, { g with retire := true }.change (s.gchg b 0 y.ramp true)))
  let s := { s with mtx := { s.mtx with gain := kept, retiring := s.mtx.retiring ++ gone, swapped := true } }
  showRetiring (s.set F.MTX_STAT_ACTIVE (1 - s.activeBank))

/-- What the start of breath `n` makes of a swap request (R105): the first breath after validation is breath B of WHEN = 1, and
a validation that has not ended by breath B ends in REJ_LATE. -/
def swapBreath (n : Nat) (s : State) : State :=
  if !s.on F.MTX_SWAP_STAT_BUSY || s.mtx.swapped then s
  else if s.mtx.swapWhen then
    if s.mtx.swapOk then { s with mtx := { s.mtx with swapWhen := false, swapB := n } } else s
  else if s.mtx.swapOk || n < s.mtx.swapB then s
  else endSwap swLATE s

/-- MATRIX_SWAP (R104, R105): the start of breath B, or of the first breath after it where B is skipped (DEDUCED: log entry 12). -/
def matrixSwap (s : State) : State :=
  if !s.on F.MTX_SWAP_STAT_BUSY || s.mtx.swapped || !s.mtx.swapOk || s.mtx.swapWhen || !s.breathing || s.n < s.mtx.swapB then s
  else mergeBanks s.n { s with mtx := { s.mtx with swapB := s.n } }

def execMatrixSwap (t : Nat) (s : State) : Host.Outcome State Fault Refusal := done s (matrixSwap (s.atTime t))

/-- SWAP_DONE (R105): the start of breath B + 1. -/
def execSwapDone (t : Nat) (s : State) : Host.Outcome State Fault Refusal :=
  let s1 := s.atTime t
  done s (if s1.mtx.swapped && s1.mtx.swapB + 1 ≤ s1.n then (endSwap swDONE s1).set F.MTX_STAT_OVERLIMIT 0 else s1)

/-- Breath 0 of a new engine mode (R106). -/
def mtxNewMode (s : State) : State :=
  let tooMany : Bool := decide (s.mode.xpLimit < s.bankCount s.activeBank)
  let s := s.set F.MTX_STAT_OVERLIMIT tooMany.toNat
  let s := { s with mtx := { s.mtx with retiring := [] } }
  showRetiring (s.active.foldl (fun u x =>
    let g := u.gainOf x.key
    u.setGain x.key { g with cur := x.target, target := x.target, phase := .idle, next := [] }) s)

/-- Every crosspoint into a bus of the list takes its target, a retiring one 0, where it is dropped (R104, R159). -/
def settleBuses (p : Nat → Bool) (s : State) : State :=
  let s := showRetiring { s with mtx := { s.mtx with retiring := s.mtx.retiring.filter (fun x => !p (x.1 % 1024)) } }
  s.active.foldl (fun u x =>
    if p x.bus then
      let g := u.gainOf x.key
      u.setGain x.key { g with cur := x.target, target := x.target, phase := .idle, next := [] }
    else u) s

/-- A COUNT write (R103, R122). -/
def wrBankCount (k v : Nat) (s : State) : State :=
  let n := bits 18 0 v
  if k == s.activeBank || s.on F.MTX_SWAP_STAT_BUSY || 262144 < n then s.set F.MTX_STAT_BANKWR 1
  else s.set (F.MTX_BANK_COUNT_COUNT k) n

/-- The four words of a gain state (R108). -/
def GainS.words (g : GainS) : List Nat :=
  let ph := match g.phase with | .idle => 0 | .wait => 1 | .ramp => 2
  [ux 32 g.cur, ux 32 g.start, ph * 2 ^ 30 + g.retire.toNat * 2 ^ 29 + g.mode * 2 ^ 16 + g.count % 65536, g.len % 65536]

/-- MTX_STATE_DATA: word `j` of the gain state at INDEX (R122). -/
def State.stateData (s : State) (j : Nat) : Nat :=
  let i := s.get F.MTX_STATE_INDEX_INDEX
  if s.bankCount s.activeBank ≤ i then 0 else (s.gainOf (s.xp s.activeBank i).key).words.getD j 0

/-! ## Mailboxes (R114–R116) -/

/-- STATE of a mailbox (R122). -/
def mbPOSTED : Nat := 1
def mbAPPLIED : Nat := 2
def State.mbState (s : State) (k : Nat) : Nat := s.get (F.MTX_MBOX_STAT_STATE k)

/-- A write of MTX_MBOXk_POST (R115). -/
def wrPost (k v : Nat) (s : State) : State :=
  if !bitOf v 31 then s
  else if s.mbState k == mbPOSTED then s.set (F.MTX_MBOX_STAT_BUSYWR k) 1
  else
    let c := bits 6 0 v
    let b := s.get (F.MTX_MBOX_BREATH_HI_B_HI k) * 2 ^ 32 + s.get (F.MTX_MBOX_BREATH_LO_B_LO k)
    if c = 0 || 64 < c then s.set (F.MTX_MBOX_STAT_STATE k) 3
    else if !bitOf v 30 && serBefore 48 b (bidx (s.n + 2)) then s.set (F.MTX_MBOX_STAT_STATE k) 4
    else if bitOf v 30 && s.paired then s.set (F.MTX_MBOX_STAT_STATE k) 5
    else
      let b := if bitOf v 30 then bidx (s.n + 2) else b
      let s := ((s.set (F.MTX_MBOX_BREATH_LO_B_LO k) b).set (F.MTX_MBOX_BREATH_HI_B_HI k) (b / 2 ^ 32)).set
        (F.MTX_MBOX_STAT_STATE k) mbPOSTED
      { s with mtx := { s.mtx with mboxB := mset 0 k b s.mtx.mboxB, mboxN := mset 0 k c s.mtx.mboxN } }

def execMailboxPost (m k v : Nat) (s : State) : Host.Outcome State Fault Refusal :=
  done s (guarded m (A.MTX_MBOX_POST k) (wrPost k v) s)

/-- Skips a record (R116). -/
def skipRec (k : Nat) (s : State) : State := s.inc (F.MTX_MBOX_STAT_SKIPPED k)

/-- The active bank's entry of a pair. -/
def State.xpIndex (s : State) (key : Nat) : Option Nat :=
  (List.range s.active.length).find? (fun i => (s.xp s.activeBank i).key == key)

/-- Applies record `r` of mailbox `k` in the breath in progress (R116). -/
def applyRec (k r : Nat) (s : State) : State :=
  let w0 := s.get (F.MTX_MBREC (128 * k + 2 * r))
  let v := s.get (F.MTX_MBREC (128 * k + 2 * r + 1))
  let kind := w0 / 2 ^ 28
  if kind = 0 then
    let ramp := bits 27 25 w0
    let key := bits 24 12 w0 * 1024 + w0 % 1024
    if 4 ≤ ramp || bits 11 10 w0 != 0 then skipRec k s
    else match s.xpIndex key with
      | none => skipRec k s
      | some i =>
        let a := bankBase s.activeBank + 12 * i
        let s1 := (s.setWord a v).setWord (a + 4) (ramp * 2 ^ 29 + bits 24 12 w0 * 2 ^ 16 + w0 % 1024)
        s1.setGain key ((s1.gainOf key).change (s1.gchg s1.n (sx 32 v) ramp false))
  else if kind ≤ 2 then
    let l := bits 26 20 w0
    let okSec := match s.coreOwner l with
      | some i => s.secState i == secRUNNING || s.secState i == secRAMPOUT
      | none => false
    if bitOf w0 27 || bits 19 13 w0 != 0 || s.activeCores ≤ l || s.coreLost l || !okSec then skipRec k s
    else
      let h : HeldWord := ⟨l, s.n, kind == 2, w0 % 8192, v, k⟩
      let s := if s.logsCore l then logWord h s.n s else s
      let p := s.physOf l
      let busy := s.earlierInst l s.n
      if s.suspendedCore l then s
      else if s.awaitsSpare l s.n || busy || 136 ≤ p || s.disp.heldWords.any (fun g => g.lcore == l)
      then { s with disp := { s.disp with heldWords := s.disp.heldWords ++ [h] } }
      else extWrite p ((if h.y then yBase p else xBase p) + 4 * h.word) (leBytes 4 v) s
  else skipRec k s

/-- MAILBOX_APPLY (R115, R116): mailbox `k` in its apply breath, after the swap and the mailboxes before it (R110). -/
def mailboxApply (k : Nat) (s : State) : State :=
  let c := mget 0 k s.mtx.mboxN
  if !s.mboxDue k || s.mtxWaits k then s
  else
    let s := s.set (F.MTX_MBOX_STAT_SKIPPED k) 0
    let s := (List.range c).foldl (fun u r => applyRec k r u) s
    let s := { s with mtx := { s.mtx with mboxN := mset 0 k 0 s.mtx.mboxN } }
    if s.disp.heldWords.any (fun h => h.mbox == k) then s else s.set (F.MTX_MBOX_STAT_STATE k) mbAPPLIED

def execMailboxApply (k t : Nat) (s : State) : Host.Outcome State Fault Refusal := done s (mailboxApply k (s.atTime t))

/-- MAILBOX_WORD_LAND (R116): the held words of core `l` land once its earlier instance has completed. -/
def execMailboxWordLand (l t : Nat) (s : State) : Host.Outcome State Fault Refusal :=
  let s1 := s.atTime t
  done s (landWords (fun h => h.lcore == l && !s1.awaitsSpare l s1.n && s1.physOf l < 136
    && !s1.earlierInst l h.b) s1)

/-- Every POSTED mailbox ends CANCELLED, and its words that have not landed are dropped (R19, R115). -/
def cancelMailboxes (s : State) : State :=
  (List.range 8).foldl (fun u k =>
    if u.mbState k == mbPOSTED then
      { u.set (F.MTX_MBOX_STAT_STATE k) 6 with
        mtx := { u.mtx with mboxN := mset 0 k 0 u.mtx.mboxN }
        disp := { u.disp with heldWords := u.disp.heldWords.filter (fun h => h.mbox != k) } }
    else u) s

/-! ## Clears and plain writes (R111, R113, R122) -/

def clrBussat (s : State) : State := s.set F.MTX_BUSSAT_COUNT 0
def clrFmtsat (s : State) : State := s.set F.MTX_FMTSAT_COUNT 0
def wrMtxClr (v : Nat) (s : State) : State :=
  let s := if bitOf v 1 then clrFmtsat s else s
  if bitOf v 0 then clrBussat s else s
def execClrFmtsat (m : Nat) (s : State) : Host.Outcome State Fault Refusal := done s (guarded m A.MTX_CLR clrFmtsat s)
def execClrBussat (m : Nat) (s : State) : Host.Outcome State Fault Refusal := done s (guarded m A.MTX_CLR clrBussat s)

/-- A write of an output-map entry, which its SECTION closes while it runs or commits, mapped or not (R111). -/
def wrOutMap (o v : Nat) (s : State) : State :=
  if s.secBusy (bits 27 24 (s.outEntry o)) then s.set F.MTX_STAT_MAPWR 1 else storeOutMap o v s

/-- A write of a seed word (R113). -/
def wrSeed (a sec v : Nat) (s : State) : State :=
  if s.secBusy sec then s.set F.MTX_STAT_MAPWR 1 else s.writeRegPlain a v

/-- A write of a mailbox record word (R115). -/
def wrMbRec (j v : Nat) (s : State) : State :=
  if s.mbState (j / 128) == mbPOSTED then s.set (F.MTX_MBOX_STAT_BUSYWR (j / 128)) 1 else s.set (F.MTX_MBREC j) v

/-- A write of an MTX register. -/
def wrMTX (a v : Nat) (s : State) : State :=
  let o := a % 0x10000
  if o == 4 then wrBankCount 0 v s
  else if o == 8 then wrBankCount 1 v s
  else if o == 0x10 then wrSwap v s
  else if o == 0x34 then wrMtxClr v s
  else if 0x100 ≤ o && o < 0x180 && o % 16 == 0 then wrPost ((o - 0x100) / 16) v s
  else if 0x400 ≤ o && o < 0x480 then wrSeed a ((o - 0x400) / 8) v s
  else if 0x2000 ≤ o && o < 0x3000 then wrMbRec ((o - 0x2000) / 4) v s
  else if 0x4000 ≤ o && o < 0x8C00 then wrOutMap ((o - 0x4000) / 4) v s
  else s.writeRegPlain a v

end Sys2Proof.Machine
end

