-- ==== Sys2Proof/Machine/Asrc.lean ====
section
/-!
DEFINITION. The sample-rate converters: ratio, lock, the samples they take and give (R117–R123).
-/
namespace Sys2Proof.Machine

/-- MODE 0 TRACK, 1 FIXED, 2 BYPASS; 3 acts as TRACK, and so does a BYPASS of a SAP slot, where it is not valid. Whether an AES67
stream is timed in the breath's own PTP domain no state of the node tells, and BYPASS holds for every AES67 channel (R117, R123)
(DESIGN CHOICE: log entry 68). -/
def asrcMode (mode fkind : Nat) : Nat :=
  match mode with
  | 1 => 1
  | 2 => if fkind == 1 then 2 else 0
  | _ => 0

/-- The configuration that the registers name; none while the channel is disabled. -/
def State.asrcCfg (s : State) (k : Nat) : Option AsrcCfg :=
  if !s.asrcOn k then none
  else some ⟨s.get (F.ASRC_CH_CFG_DIR k), asrcMode (s.get (F.ASRC_CH_CFG_MODE k)) (s.get (F.ASRC_CH_CFG_FKIND k)),
    s.get (F.ASRC_CH_CFG_FKIND k), s.get (F.ASRC_CH_CFG_FINDEX k), s.get (F.ASRC_CH_TAP_TAP k),
    s.get (F.ASRC_CH_FIXED_HI_FIXED_HI k) * 2 ^ 32 + s.get (F.ASRC_CH_FIXED_LO_FIXED_LO k)⟩

def State.asrcRatio (s : State) (k : Nat) : Nat :=
  s.get (F.ASRC_CH_RATIO_HI_RATIO_HI k) * 2 ^ 32 + s.get (F.ASRC_CH_RATIO_LO_RATIO_LO k)
def State.setAsrcRatio (s : State) (k r : Nat) : State :=
  (s.set (F.ASRC_CH_RATIO_HI_RATIO_HI k) (r / 2 ^ 32)).set (F.ASRC_CH_RATIO_LO_RATIO_LO k) r

/-- The ratio lies in 0.25 to 4.0 (R118). -/
def ratioOk (r : Nat) : Bool := 2 ^ 38 ≤ r && r ≤ 2 ^ 42

/-! ## LOCKED (R118, R120) -/

/-- Channel `k` leaves LOCKED, which is reported, or stops sounding in FIXED or BYPASS before it was LOCKED (R120). -/
def asrcUnlock (k : Nat) (s : State) : State :=
  let (was, s) := asrcFade k s
  if was then raiseF 18 k s else s

/-- ASRC_UNLOCK (R120): the foreign clock or its samples are lost, or the ratio has left its range. -/
def execAsrcUnlock (k : Nat) (range : Bool) (t : Nat) (s : State) : Host.Outcome State Fault Refusal :=
  let s1 := s.atTime t
  done s (if (s1.asrcCh k).on then
      asrcUnlock k (if range then s1.set (F.ASRC_CH_STAT_RANGE k) 1 else s1.set (F.ASRC_CH_STAT_LOST k) 1)
    else s1)

/-- ASRC_LOCK (R118, R120): the ratio has stayed within 10 ppm for 1 s. A channel that was silent ramps in; so does one in FIXED or
BYPASS that had stopped sounding, for which R120 gives no return (DESIGN CHOICE: log entry 68). -/
def execAsrcLock (k t : Nat) (s : State) : Host.Outcome State Fault Refusal :=
  let s1 := s.atTime t
  let x := s1.asrcCh k
  done s (if x.on && !s1.on (F.ASRC_CH_STAT_LOCKED k) && ratioOk (s1.asrcRatio k) && x.stableAt + uS ≤ s1.now then
      showAsrc ((s1.set (F.ASRC_CH_STAT_LOCKED k) 1).setAsrcCh k
        { x with lostFor := 0, rampIn := if s1.asrcSounds k then x.rampIn else 0 })
    else s1)

/-! ## Samples and the filter (R117, R119) -/

/-- A foreign end as FKIND and FINDEX name it: a SAP slot, or an AES67 channel (R123). -/
def sapEnd (p sl : Nat) : Nat × Nat := (0, p * 256 + sl)
def aesEnd (st ch : Nat) : Nat × Nat := (1, st * 256 + ch)

/-- The configuration is for direction `dir` at a foreign end. -/
def AsrcCfg.at_ (c : AsrcCfg) (dir : Nat) (e : Nat × Nat) : Bool :=
  c.dir == dir && c.fkind == e.1
  && (if e.1 = 0 then bits 11 8 c.findex * 256 + bits 4 0 c.findex == e.2 else bits 12 8 c.findex * 256 + bits 2 0 c.findex == e.2)

/-- Channels of a direction at a foreign end that run, or whose last ramp lasts (R120). -/
def State.asrcAt (s : State) (dir : Nat) (e : Nat × Nat) : List Nat :=
  (List.range 256).filter (fun k =>
    let x := s.asrcCh k
    x.live.any (fun c => c.at_ dir e) && (x.on || (1 ≤ x.lostFor && x.lostFor ≤ 40)))

/-- Puts sample number `m` in its place. -/
def putSample (m : Nat) (v : Int) : List (Nat × Int) → List (Nat × Int)
  | [] => [(m, v)]
  | (j, x) :: r => if m < j then (m, v) :: (j, x) :: r else if m = j then (m, v) :: r else (j, x) :: putSample m v r

/-- A sample reaches the channel; the phase starts at the first one (DESIGN CHOICE: log entry 68). -/
def AsrcCh.take (x : AsrcCh) (m : Nat) (v : Int) : AsrcCh :=
  { x with smp := putSample m v x.smp, phase := if x.smp.isEmpty then m * 2 ^ 40 else x.phase }

/-- A foreign sample arrives for the IN channels of an end: number `m` of an AES67 channel, the next of a SAP slot. -/
def asrcFeed (e : Nat × Nat) (m : Option Nat) (v : Int) (s : State) : State :=
  ((s.asrcAt 0 e).filter (fun k => (s.asrcCh k).on)).foldl (fun u k =>
    let x := u.asrcCh k
    u.setAsrcCh k (x.take (m.getD (match x.smp.getLast? with | some q => q.1 + 1 | none => 0)) v)) s

/-- Sample number `i` of a channel: a missing one is the last before it (R220). -/
def AsrcCh.sample (x : AsrcCh) (i : Int) : Int :=
  match (x.smp.filter (fun q => (q.1 : Int) ≤ i)).getLast? with
  | some q => q.2
  | none => (Config.asrcAbsent i.toNat).toInt

/-- The polyphase filter at position `pos` less 32 samples: 64 taps of 256 phases, linearly interpolated between phases (R119). The
coefficients are taken as Q1.31, and the exact sum is rounded once (DESIGN CHOICE: log entry 16). -/
def AsrcCh.fir (x : AsrcCh) (pos : Nat) : Int :=
  let i : Nat := pos / 2 ^ 40
  let q : Nat := pos / 2 ^ 32 % 256
  let w : Nat := pos % 2 ^ 32
  let acc := (List.range 64).foldl (fun (a : Int) (j : Nat) =>
    a + x.sample ((i : Int) - j)
      * ((Config.asrcCoef q j).toInt * ((2 ^ 32 - w : Nat) : Int) + (Config.asrcCoef (q + 1) j).toInt * (w : Int))) 0
  satS 32 (roundAway acc (2 ^ 63))

/-- Drops the samples that no later filter position takes. -/
def AsrcCh.trim (x : AsrcCh) (from_ : Nat) : AsrcCh :=
  { x with smp := x.smp.drop ((x.smp.filter (fun q => q.1 ≤ from_)).length - 1) }

/-! ## What the channels give (R117, R119, R120) -/

/-- The value after the rules of R120: repeated for 8 breaths, ramped to 0 over 32, held, and ramped in. -/
def AsrcCh.shape (x : AsrcCh) (sounds : Bool) (v : Int) : Int :=
  if x.lostFor != 0 then
    if x.lostFor ≤ 8 then x.last else if x.lostFor ≤ 40 then rampVal x.last 0 (x.lostFor - 8) 32 else 0
  else if !sounds then 0
  else if x.rampIn < 32 then rampVal 0 v (x.rampIn + 1) 32 else v

/-- A breath has passed over the fade or the ramp-in of a channel (R120). -/
def AsrcCh.pass (x : AsrcCh) (sounds : Bool) : AsrcCh :=
  if x.lostFor != 0 then { x with lostFor := min (x.lostFor + 1) 41 }
  else if sounds && x.rampIn < 32 then { x with rampIn := x.rampIn + 1 } else x

/-- Keeps the value given as the level of a later fade. -/
def AsrcCh.keep (x : AsrcCh) (sounds : Bool) (v : Int) : AsrcCh := if x.lostFor == 0 && sounds then { x with last := v } else x

/-- Media clock count at a device time, and the first ns with a count (R220, R221). -/
def mediaAt (rate : Nat) (ns : Int) : Int := ns * rate / 1000000000
def mediaNs (rate : Nat) (m : Int) : Int := -((-(m * 1000000000)) / rate)

/-- The AES67 sample that enters unconverted in breath `n`: the last whose presentation instant the start of the breath has reached
(R117, R220) (DEDUCED: log entry 68). -/
def State.bypassCount (s : State) (c : AsrcCfg) (n : Nat) : Int :=
  let sid := 128 + bits 12 8 c.findex
  let rate := match bits 29 28 (s.get (F.STRM_DESC_WORD 0 sid)) with | 0 => 44100 | 1 => 48000 | 2 => 88200 | _ => 96000
  mediaAt rate (((s.breathAt n) / 256 : Nat) - (min 10000 (s.get (F.STRM_DESC_WORD 6 sid) / 65536) * 1000 : Nat))

/-- One breath of channel `k` at breath start + 100 ns: what an IN channel commits, what an OUT channel takes (R117, R119, R120).
Answers the value of tap 0x0E00 + k. -/
def asrcBreath (k : Nat) (s : State) : Int × State :=
  let x := s.asrcCh k
  match x.live with
  | none => (0, s)
  | some c =>
    let sounds := s.asrcSounds k
    if c.dir = 1 then
      let x := if x.on then (x.take s.n (s.tap c.tap).cur).trim (s.n - 130) else x
      (0, s.setAsrcCh k (({ x with phase := (s.asrcCh k).phase } : AsrcCh).pass sounds))
    else
      let v := x.shape sounds (if c.mode = 2 then x.sample (s.bypassCount c s.n) else x.fir x.phase)
      (v, s.setAsrcCh k ((x.keep sounds v).pass sounds))

/-- The next foreign sample of the OUT channel at an end, whose instant lies in breath `b`; none where no channel feeds it. The
inverse mapping places foreign sample m at breath n + (m − φ) / ratio (R119, R120) (DESIGN CHOICE: log entry 17). -/
def asrcPull (e : Nat × Nat) (b : Int) (s : State) : Option Int × State :=
  match s.asrcAt 1 e with
  | [] => (none, s)
  | k :: _ =>
    let x := s.asrcCh k
    let sounds := s.asrcSounds k
    let pos := ((s.n * 2 ^ 40 : Nat) : Int) + ((x.sent * 2 ^ 40 : Nat) - (x.phase : Int)) * ((2 ^ 40 : Nat) : Int) / max 1 (s.asrcRatio k : Int)
    let v := x.shape sounds (if x.live.any (fun c => c.mode == 2) then x.sample b else x.fir pos.toNat)
    (some v, s.setAsrcCh k (({ x with sent := x.sent + 1 } : AsrcCh).keep sounds v))

/-! ## Breath starts (R118, R119, R123, R302) -/

/-- Ratio words rule the channel: pairing with TWINRATIO = 1 while PAIRED (R302). -/
def State.ratioWords (s : State) : Bool := s.on F.ASRC_CTRL_TWINRATIO && s.get F.TWIN_STAT_LINK == 2

/-- Queues a ratio word for breath `b`. -/
def queueWord (k b r ph : Nat) (s : State) : State :=
  let x := s.asrcCh k
  s.setAsrcCh k { x with words := x.words.filter (fun w => w.1 != b) ++ [(b, r, ph)] }

/-- Applies the ratio word of breath `n` for a channel in TRACK, at its start (R302). -/
def applyWord (k n : Nat) (s : State) : State :=
  let x := s.asrcCh k
  match x.words.find? (fun w => w.1 == n) with
  | some (_, r, ph) =>
    (s.setAsrcRatio k r).setAsrcCh k { x with phase := ((x.phase : Int) + sx 64 (ux 64 ((ph : Int) - x.phase))).toNat
                                              words := x.words.filter (fun w => n < w.1) }
  | none => s

/-- The ratio of a channel in TRACK for breath `n`: the ratio word in force, or its loop's, which is a free value, as the filter of
the loop is not given (R118). The LEAD queues its loop's ratio of every eighth breath for eight breaths on, with the phase the
channel will then hold (R302) (DESIGN CHOICE: log entry 17). -/
def trackRatio (k n : Nat) (s : State) : State :=
  if s.ratioWords then
    let s := applyWord k n s
    if s.get F.TWIN_STAT_ROLE == 1 && n % 8 == k % 8 then
      let (f, u) := s.draw
      queueWord k (n + 8) (f % 2 ^ 46) (((s.asrcCh k).phase + 8 * s.asrcRatio k) % 2 ^ 64) u
    else s
  else let (f, u) := s.draw; u.setAsrcRatio k (f % 2 ^ 48)

/-- The ratio is watched: since when it has stayed within 10 ppm, and whether it has left its range (R118, R120). -/
def watchRatio (k : Nat) (s : State) : State :=
  let r := s.asrcRatio k
  let x := s.asrcCh k
  let far := decide (x.refRatio < 100000 * (if r ≤ x.refRatio then x.refRatio - r else r - x.refRatio))
  let s := if x.refRatio == 0 || far then s.setAsrcCh k { x with refRatio := r, stableAt := s.now } else s
  if ratioOk r then s else asrcUnlock k (s.set (F.ASRC_CH_STAT_RANGE k) 1)

/-- A configuration change takes effect: the channel leaves LOCKED, and starts anew (R123). -/
def asrcApply (k : Nat) (s : State) : State :=
  let s := asrcUnlock k s
  let x := s.asrcCh k
  let x := { x with cfgPend := false, stableAt := s.now, refRatio := 0 }
  match s.asrcCfg k with
  | some c => s.setAsrcCh k { x with live := some c, on := true, phase := 0, smp := [], sent := 0, words := [] }
  | none => s.setAsrcCh k { x with on := false }

/-- The start of breath `n` for every channel: changes of configuration, then the phase moves on by the ratio of the breath before,
and the ratio of this one is taken (R118, R119, R123, R302). BYPASS converts by 1.0. -/
def asrcStart (n : Nat) (s : State) : State :=
  let s := showAsrc ((s.asrc.ch.filter (fun e => e.2.cfgPend)).foldl (fun u e => asrcApply e.1 u) s)
  s.asrc.ch.foldl (fun u e =>
    let k := e.1
    let x := u.asrcCh k
    match x.live with
    | some c =>
      if !x.on then u
      else
        let x := { x with phase := x.phase + u.asrcRatio k }
        let u := u.setAsrcCh k (if c.dir = 0 && c.mode != 2 then x.trim (x.phase / 2 ^ 40 - 63) else if c.dir = 0 then x.trim (u.bypassCount c n).toNat else x)
        watchRatio k (if c.mode = 1 then u.setAsrcRatio k c.fixed else if c.mode = 2 then u.setAsrcRatio k (2 ^ 40) else trackRatio k n u)
    | none => u) s

/-! ## Registers -/

/-- A write of an ASRC register; the CH registers are those of the channel in ASRC_SEL (R123). A fenced channel stays disabled
(R315). What enables a channel that does not run acts at once (DESIGN CHOICE: log entry 68). -/
def wrASRC (a v : Nat) (s : State) : State :=
  let o := a % 0x10000
  let s := s.writeRegPlain a v
  let note := fun (u : State) (k : Nat) =>
    let u := if u.fencedInst 3 k then u.set (F.ASRC_CH_CFG_EN k) 0 else u
    let x := u.asrcCh k
    if x.on then (if x.live == u.asrcCfg k then u else u.setAsrcCh k { x with cfgPend := true })
    else if u.asrcOn k then asrcApply k u else u
  if o == 0 then showAsrc ((List.range 256).foldl note s)
  else if o == 0x14 || o == 0x18 || o == 0x28 || o == 0x2C then showAsrc (note s (a / 0x100000000))
  else s

/-- Unit reset of ASRC (R29): registers and channels; the taps follow R120. -/
def resetAsrc (s : State) : State :=
  let chs := s.asrc.ch.filterMap (fun e => match e.2.live with
    | some c =>
      if s.asrcSounds e.1 then some (e.1, { live := some c, lostFor := 1, last := e.2.last : AsrcCh })
      else if e.2.lostFor != 0 then some (e.1, { live := some c, lostFor := e.2.lostFor, last := e.2.last }) else none
    | none => none)
  let s := s.resetRegs (inBlock 23)
  { s with asrc := { s.asrc with ch := chs } }

end Sys2Proof.Machine
end

