-- ==== Sys2Proof/Machine/Crypto.lean ====
section
/-!
DEFINITION. Check codes and digests: CRC-32C and CRC-32 by polynomial, SHA-256 and HMAC-SHA-256 (R332, R334, R340,
R362), and the acceptance of a signed structure (R329, R334). SHA-256 and HMAC are PRESUMED from FIPS 180-4 and
RFC 2104; the signature check itself is a constant without a body.
-/
namespace Sys2Proof.Machine

/-! ## CRCs, reflected -/

/-- `k` shifts of a reflected CRC register with polynomial `poly`. -/
def crcBits (poly : Nat) : Nat → Nat → Nat
  | 0, c => c
  | k + 1, c => crcBits poly k (if c % 2 = 1 then (c / 2) ^^^ poly else c / 2)

/-- A reflected CRC over bytes, from register value `c`. -/
def crcFrom (poly c : Nat) (l : List Byte) : Nat := l.foldl (fun c b => crcBits poly 8 (c ^^^ b.toNat)) c

/-- CRC-32C of bytes (R340). -/
def crc32c (l : List Byte) : Nat := crcFrom 0x82F63B78 0xFFFFFFFF l ^^^ 0xFFFFFFFF

/-- The CRC-32 of Ethernet frames (PRESUMED: log entry 14). -/
def crc32 (l : List Byte) : Nat := crcFrom 0xEDB88320 0xFFFFFFFF l ^^^ 0xFFFFFFFF

/-! ## SHA-256

The constants are computed, and the rounds are written as two recurrences over the words made so far, newest first. -/

/-- The largest `r` below 2^`b` above `r0` whose `k`-th power does not pass `t`, bit by bit. -/
def rootBits (k t : Nat) : Nat → Nat → Nat
  | 0, r0 => r0
  | b + 1, r0 => rootBits k t b (if (r0 + 2 ^ b) ^ k ≤ t then r0 + 2 ^ b else r0)

/-- The primes to 311. -/
def smallPrimes : List Nat :=
  (List.range 312).filter (fun p => 1 < p && (List.range 18).all (fun d => d < 2 || d == p || p % d != 0))

/-- The first 32 bits of the fraction of a number's `k`-th root. -/
def rootFraction (k p : Nat) : Nat := rootBits k (p * 2 ^ (32 * k)) 37 0 % 2 ^ 32

/-- The word turned right by each of three amounts, the last a shift where `cut`, and the three joined. -/
def shaMix (i j k : Nat) (cut : Bool) (x : Nat) : Nat :=
  let turn := fun (n : Nat) => x / 2 ^ n + (if cut && n == k then 0 else x % 2 ^ n * 2 ^ (32 - n))
  turn i ^^^ turn j ^^^ turn k

/-- One round: the words `a` and `e` made so far, newest first, take one word each. -/
def shaTurn (x : List Nat × List Nat) (kw : Nat) : List Nat × List Nat :=
  let a := fun (i : Nat) => x.1.getD i 0
  let e := fun (i : Nat) => x.2.getD i 0
  let t := e 3 + kw + shaMix 6 11 25 false (e 0) + (e 2 ^^^ (e 0 &&& (e 1 ^^^ e 2)))
  let top := shaMix 2 13 22 false (a 0) + ((a 0 &&& a 1) ||| (a 2 &&& (a 0 ||| a 1)))
  ((t + top) % 2 ^ 32 :: x.1, (a 3 + t) % 2 ^ 32 :: x.2)

/-- `k` further words of the message schedule, newest first. -/
def shaSpread : Nat → List Nat → List Nat
  | 0, w => w
  | k + 1, w =>
    shaSpread k ((w.getD 15 0 + shaMix 7 18 3 true (w.getD 14 0) + w.getD 6 0 + shaMix 17 19 10 true (w.getD 1 0)) % 2 ^ 32 :: w)

/-- The big-endian words of bytes. -/
def beWords : List Byte → List Nat
  | a :: b :: c :: d :: r => beNat [a, b, c, d] :: beWords r
  | _ => []

/-- The eight chaining words after one block of sixteen. -/
def shaBlock (h blk : List Nat) : List Nat :=
  let ks := smallPrimes.map (rootFraction 3)
  let r := (List.zipWith (· + ·) ks (shaSpread 48 blk.reverse).reverse).foldl shaTurn (h.take 4, h.drop 4)
  List.zipWith (fun u v => (u + v) % 2 ^ 32) h (r.1.take 4 ++ r.2.take 4)

/-- `k` blocks in turn. -/
def shaBlocks : Nat → List Nat → List Nat → List Nat
  | 0, h, _ => h
  | k + 1, h, w => shaBlocks k (shaBlock h (w.take 16)) (w.drop 16)

/-- SHA-256 of bytes, as 32 bytes (PRESUMED: log entry 14). -/
def sha256 (m : List Byte) : List Byte :=
  let len := m.length
  let zeros := (119 - len % 64) % 64
  let padded := m ++ [0x80] ++ List.replicate zeros 0 ++ beBytes 8 (8 * len)
  (shaBlocks ((len + 9 + zeros) / 64) ((smallPrimes.take 8).map (rootFraction 2)) (beWords padded)).flatMap (beBytes 4)

/-- HMAC-SHA-256 (PRESUMED: log entry 14). -/
def hmac (key m : List Byte) : List Byte :=
  let k := if 64 < key.length then sha256 key else key
  let k := k ++ List.replicate (64 - k.length) 0
  sha256 (k.map (fun b => b ^^^ 0x5C) ++ sha256 (k.map (fun b => b ^^^ 0x36) ++ m))

/-! ## Signed structures (R329, R334) -/

/-- The 32 bytes of fused key hash `k`. -/
def State.keyHash (s : State) (k : Nat) : List Byte :=
  (List.range 8).flatMap (fun j => leBytes 4 (s.get (F.SEC_KEYHASH_HASH k j)))

/-- The fused key a public key is accepted under (R334). -/
def State.keyOf (s : State) (pub : List Byte) : Option Nat :=
  let h := sha256 pub
  if h == s.keyHash 0 && !s.on F.SEC_FUSE_KEY0_REVOKED then some 0
  else if h == s.keyHash 1 && s.on F.SEC_FUSE_KEY1_VALID then some 1 else none

/-- The key under which a structure with this public key, digest and signature is accepted (R329, R334). -/
def State.accepts (s : State) (pub digest sig : List Byte) : Option Nat :=
  match s.keyOf pub with
  | some k => if Config.ecdsaP256 pub digest sig then some k else none
  | none => none

end Sys2Proof.Machine
end

