-- ==== Sys2Proof/Machine/Net.lean ====
section
/-!
DEFINITION. Network ports: links, modules, transmit queues, descriptor rings and the ring-bound receive path
(R167–R195). Port 4 is TWINMAC.
-/
namespace Sys2Proof.Machine

/-- Paths and links going down, and the unit reset of a port, with the fault sources they raise. -/
def pathDown (sid : Nat) (b : Bool) (s : State) : State := pathDownBy raiseF sid b s
def portPathsDown (p : Nat) (s : State) : State := portPathsDownBy raiseF p s
def leaveUp (p : Nat) (report : Bool) (s : State) : State := leaveUpBy raiseF p report s
def resetNet (p : Nat) (s : State) : State := resetNetBy raiseF p s

/-- A write of a filter register or of MAXLEN, remembered while a frame of the line can have begun before it (R176, R196). -/
def wrFilter (p a v : Nat) (s : State) : State :=
  let x := s.portS p
  let u := s.setPort p { x with undo := (s.now, a, s.wordOf (fieldsAt a)) :: x.undo.filter (fun h => s.now < h.1 + 20 * uUs) }
  u.writeRegPlain a v

/-- The filters as they stood at instant `x` (R176, R196). -/
def State.filtersAt (s : State) (p x : Nat) : State :=
  ((s.portS p).undo.filter (fun h => x ≤ h.1)).foldl (fun u h => u.writeRegPlain h.2.1 h.2.2) s

/-- EN written 1 (R167–R169). -/
def portEnable (p : Nat) (s : State) : State :=
  let kr := s.on (F.NET_CTRL_PHY p)
  let an := kr && s.on (F.NET_CTRL_AN_EN p)
  let speed := s.get (F.NET_CTRL_SPEED p)
  let fec := s.get (F.NET_CTRL_FEC p)
  let s := s.setPort p { s.portS p with kr := kr, an := an, txPol := s.on (F.NET_CTRL_TX_POL p), rxPol := s.on (F.NET_CTRL_RX_POL p),
                                        adv := s.get (F.NET_AN_ADV_EEE p) * 32 + s.get (F.NET_AN_ADV_KR25 p) * 16
                                          + s.get (F.NET_AN_ADV_KR25S p) * 8 + s.get (F.NET_AN_ADV_KR10 p) * 4
                                          + s.get (F.NET_AN_ADV_FEC_RS p) * 2 + s.get (F.NET_AN_ADV_FEC_BASER p), step := none }
  if an then enterL p lsAN s
  else
    let s := if fec == 2 && speed == 1 then s.set (F.NET_STAT_FECCFG p) 1 else s
    let s := (s.set (F.NET_STAT_SPEED p) speed).set (F.NET_STAT_FEC p) (if fec == 3 || (fec == 2 && speed == 1) then 0 else fec)
    enterL p (if kr then lsTRAINING else lsALIGN) s

/-- The transmitter is squelched: until EN is written 1 (R169). -/
def State.squelched (s : State) (p : Nat) : Bool := s.lstate p == lsDISABLED

/-- EN written 0: the transmitter is squelched (R169). -/
def portDisable (p : Nat) (s : State) : State := enterL p lsDISABLED (leaveUp p true s)

/-- A write of NET_CTRL; TWINMAC has no low-power policy (R190). -/
def wrNetCtrl (p v : Nat) (s : State) : State :=
  let was := s.on (F.NET_CTRL_EN p)
  let s := wrFilter p (A.NET_CTRL p) v s
  let s := if p = 4 then s.set (F.NET_CTRL_LOWPWR p) 0 else s
  if !was && bitOf v 31 then portEnable p s else if was && !bitOf v 31 then portDisable p s else s

def execPortEnable (m p v : Nat) (s : State) : Host.Outcome State Fault Refusal := done s (guarded m (A.NET_CTRL p) (wrNetCtrl p v) s)
def execPortDisable (m p v : Nat) (s : State) : Host.Outcome State Fault Refusal := done s (guarded m (A.NET_CTRL p) (wrNetCtrl p v) s)

/-- Abilities the port advertises: those latched on leaving DISABLED, or the target of a step alone (R168, R169, R191)
(DEDUCED: log entry 46). -/
def State.anAdv (s : State) (p : Nat) : Nat :=
  let x := s.portS p
  match x.step with
  | some 0 => withBit x.adv 2 false
  | some _ => withBit (withBit x.adv 4 false) 3 false
  | none => x.adv

/-- AN_PAGE_EXCHANGE (R168, R169): the partner's page `ab` has been received. -/
def anPage (p ab : Nat) (s : State) : State :=
  if s.lstate p != lsAN || (s.portS p).anWait then s
  else
    let a := s.anAdv p
    let s := (s.set (F.NET_AN_LP_ABIL p) ab).set (F.NET_AN_LP_VALID p) 1
    let both := fun (i : Nat) => bitOf a i && bitOf ab i
    let take := fun (speed fec : Nat) => enterL p lsTRAINING ((s.set (F.NET_STAT_SPEED p) speed).set (F.NET_STAT_FEC p) fec)
    if both 4 then take 0 (if both 1 then 2 else if both 0 then 1 else 0)
    else if both 3 then take 0 (if both 0 then 1 else 0)
    else if both 2 then take 1 (if both 0 then 1 else 0)
    else s.setPort p { s.portS p with anWait := true }
def execAnPageExchange (p ab t : Nat) (s : State) : Host.Outcome State Fault Refusal := done s (anPage p ab (s.atTime t))

/-- AN_BREAK_LINK_TIMER (R169). -/
def execAnBreakLinkTimer (p t : Nat) (s : State) : Host.Outcome State Fault Refusal :=
  let s1 := s.atTime t
  done s (if s1.lstate p == lsAN && (s1.portS p).anWait then
    s1.setPort p { s1.portS p with anWait := false, since := s1.now, step := none } else s1)

def execTrainingComplete (p t : Nat) (s : State) : Host.Outcome State Fault Refusal :=
  let s1 := s.atTime t
  done s (if s1.lstate p == lsTRAINING then enterL p lsALIGN s1 else s1)

/-- `d` ms have passed in LSTATE. -/
def State.lstateFor (s : State) (p ms : Nat) : Bool := decide ((s.portS p).since + ms * uMs ≤ s.now)

def execTrainingTimeout (p t : Nat) (s : State) : Host.Outcome State Fault Refusal :=
  let s1 := s.atTime t
  done s (if s1.lstate p == lsTRAINING && s1.lstateFor p 500 then enterL p (if (s1.portS p).an then lsAN else lsTRAINING) s1
    else s1)

/-- LOS and TX_FAULT of a module as a row of its port finds them (R171) (DESIGN CHOICE: log entry 46). -/
def samplePins (p : Nat) (los txf : Bool) (s : State) : State :=
  (s.set (F.SFP_STAT_LOS p) los.toNat).set (F.SFP_STAT_TX_FAULT p) txf.toNat

/-- LINK_UP, without LOS (R169). -/
def linkUp (p : Nat) (s : State) : State :=
  if s.lstate p == lsALIGN && s.lstateFor p 10 then
    let s := linkChg p (enterL p lsUP s)
    let s := s.setPort p { s.portS p with step := none, idle := s.now, wakeAt := 0 }
    s.set (F.NET_STAT_RFAULT p) 0
  else s
def execLinkUp (p : Nat) (e : FaultPinAt) (s : State) : Host.Outcome State Fault Refusal :=
  done s (linkUp p (samplePins p false e.txf (s.atTime e.t)))

def execAlignTimeout (p t : Nat) (s : State) : Host.Outcome State Fault Refusal :=
  let s1 := s.atTime t
  done s (if s1.lstate p == lsALIGN && s1.lstateFor p 500 then enterL p (if (s1.portS p).an then lsAN else lsALIGN) s1
    else s1)

/-- A link in UP goes down (R169). -/
def linkDown (p : Nat) (s : State) : State :=
  if s.portUp p then enterL p (if (s.portS p).an then lsAN else lsALIGN) (leaveUp p true s) else s

/-- LINK_DOWN: `rfault` for a remote fault being received, with the module's LOS and TX_FAULT. -/
def execLinkDown (p : Nat) (rfault : Bool) (pins : ModulePins) (t : Nat) (s : State) : Host.Outcome State Fault Refusal :=
  let s1 := samplePins p pins.los pins.txf (s.atTime t)
  done s (linkDown p (if rfault then s1.set (F.NET_STAT_RFAULT p) 1 else s1))

/-! ## Low-power policies (R190–R193) -/

/-- The transmitter leaves low-power idle (R192). -/
def lpiWake (p : Nat) (s : State) : State :=
  if s.on (F.NET_STAT_LPI_TX p) then
    (s.set (F.NET_STAT_LPI_TX p) 0).setPort p { s.portS p with wakeAt := s.now + s.get (F.NET_LPI_TW_TW p) * uUs }
  else s

/-- AUDIO_HOLD of every port after a descriptor change; a port that becomes mapped wakes (R193). -/
def showHold (s : State) : State :=
  [0, 1, 2, 3].foldl (fun u p =>
    let on := u.portMapped p
    let u := if on && !u.on (F.NET_STAT_AUDIO_HOLD p) then lpiWake p u else u
    u.set (F.NET_STAT_AUDIO_HOLD p) on.toNat) s

/-- Counts `rx` bits received or `tx` bits sent, frames from DA to FCS, in the 100 ms in progress (R191) (DESIGN CHOICE: log
entry 46). -/
def addLoad (p rx tx : Nat) (s : State) : State :=
  let x := s.portS p
  let w := s.now / (100 * uMs)
  let old := match x.load with | h :: _ => if h.1 == w then h.2 else (0, 0) | [] => (0, 0)
  s.setPort p { x with load := ((w, old.1 + rx, old.2 + tx) :: x.load.filter (fun h => h.1 != w)).take 12 }

/-- The load of the port in the `k`-th 100 ms: the larger bit rate, in bits in 100 ms; one percent of 10 Gb/s is 10^7 (R191). -/
def State.loadIn (s : State) (p w : Nat) : Nat :=
  match (s.portS p).load.find? (fun h => h.1 == w) with | some h => max h.2.1 h.2.2 | none => 0

/-- The load calls for a step: below DOWN_PCT in each of the last ten 100 ms, or above UP_PCT in the last (R191) (DESIGN
CHOICE: log entry 46). -/
def State.stepDue (s : State) (p : Nat) : Bool :=
  let w := s.now / (100 * uMs)
  let k := if s.get (F.NET_STAT_SPEED p) == 0 then 10 else 1
  let down := s.get (F.NET_LP_CFG_DOWN_PCT p)
  let up := max (s.get (F.NET_LP_CFG_UP_PCT p)) (down + 1)
  decide ((s.portS p).since ≤ (w - k) * (100 * uMs)) && k ≤ w &&
    (if k == 10 then (List.range 10).all (fun j => s.loadIn p (w - 1 - j) < down * 10 ^ 7) else up * 10 ^ 7 < s.loadIn p (w - 1))

/-- SPEED_STEP (R190, R191, R193). -/
def speedStep (p : Nat) (s : State) : State :=
  let x := s.portS p
  let down := s.get (F.NET_STAT_SPEED p) == 0
  let both := fun (i : Nat) => bitOf x.adv i && bitOf (s.get (F.NET_AN_LP_ABIL p)) i
  if p < 4 && s.portUp p && s.get (F.NET_CTRL_LOWPWR p) == 1 && x.kr && x.an && both 2 && (both 4 || both 3)
      && !s.portMapped p && x.noStep ≤ s.now && s.stepDue p then
    let s := (leaveUp p true s).set (F.NET_STAT_STEPPED p) 1
    let s := s.setPort p { s.portS p with step := some (if down then 1 else 0), noStep := s.now + 10 * uS }
    enterL p lsAN s
  else s
def execSpeedStep (p : Nat) (pins : ModulePins) (t : Nat) (s : State) : Host.Outcome State Fault Refusal :=
  let s1 := samplePins p pins.los pins.txf (s.atTime t)
  done s (if pins.los then linkDown p s1 else speedStep p s1)

/-- LPI_ENTER (R192). -/
def lpiEnter (p : Nat) (s : State) : State :=
  let x := s.portS p
  if p < 4 && s.portUp p && s.get (F.NET_CTRL_LOWPWR p) == 2 && x.kr && x.an && bitOf x.adv 5 && bitOf (s.get (F.NET_AN_LP_ABIL p)) 5
      && !s.portMapped p && x.txq.isEmpty && x.lineEnd ≤ s.now
      && max x.idle x.lineEnd + s.get (F.NET_LP_CFG_LPI_IDLE p) * uUs ≤ s.now then
    s.set (F.NET_STAT_LPI_TX p) 1
  else s
def execLpiEnter (p t : Nat) (s : State) : Host.Outcome State Fault Refusal := done s (lpiEnter p (s.atTime t))

/-- RECEIVE_LPI (R192). -/
def execReceiveLpi (p : Nat) (on : Bool) (t : Nat) (s : State) : Host.Outcome State Fault Refusal :=
  let s1 := s.atTime t
  done s (if s1.portUp p then s1.set (F.NET_STAT_LPI_RX p) on.toNat else s1)

/-! ## Modules (R171, R172) -/

def sfpEvt (p : Nat) (s : State) : State := netEvt p 21 (F.NET_EVT_SFP p) s

/-- MODULE_INSERT: MOD_ABS deasserts, with the LOS and TX_FAULT pins as they stand. -/
def execModuleInsert (p : Nat) (los txf : Bool) (t : Nat) (s : State) : Host.Outcome State Fault Refusal :=
  let s1 := s.atTime t
  if s1.on (F.SFP_STAT_PRESENT p) then done s s1
  else
    let s2 := samplePins p los txf (s1.set (F.SFP_STAT_PRESENT p) 1)
    done s (s2.setPort p { s2.portS p with insert := s2.now })

/-- The read of A0h is due: 300 ms after insertion (R171). -/
def State.idDue (s : State) (p : Nat) : Bool :=
  s.on (F.SFP_STAT_PRESENT p) && !s.on (F.SFP_STAT_ID_VALID p) && decide ((s.portS p).insert + 300 * uMs ≤ s.now)

/-- A diagnostic read is due (R171). -/
def State.pollDue (s : State) (p : Nat) : Bool :=
  s.on (F.SFP_CTRL_POLL_EN p) && s.on (F.SFP_STAT_ID_VALID p) && bitOf (s.get (F.SFP_ID_BYTES p 23)) 6
    && decide ((s.portS p).poll ≤ s.now)

/-- A transfer of software's own runs, so that an automatic read waits (R172). -/
def State.i2cOwn (s : State) (p : Nat) : Bool := s.on (F.SFP_CMD_BUSY p) && (s.portS p).i2cRun

/-- An automatic read has ended: a command that waits for it runs before the next (R172). -/
def i2cNext (p : Nat) (s : State) : State := s.setPort p { s.portS p with i2cRun := true }

/-- MODULE_ID_READ: A0h bytes 0 to 95 have been read. -/
def moduleId (p : Nat) (bs : List Byte) (s : State) : State :=
  if s.idDue p && !s.i2cOwn p then
    let s := i2cNext p s
    let s := (List.range 24).foldl (fun u w => u.set (F.SFP_ID_BYTES p w) (leNat ((bs.drop (4 * w)).take 4))) s
    sfpEvt p ((s.set (F.SFP_STAT_ID_VALID p) 1).set (F.SFP_STAT_INSERT p) 1)
  else s
def execModuleIdRead (p : Nat) (bs : List Byte) (t : Nat) (s : State) : Host.Outcome State Fault Refusal :=
  done s (moduleId p bs (s.atTime t))

/-- MODULE_REMOVE. -/
def moduleRemove (p : Nat) (s : State) : State :=
  if !s.on (F.SFP_STAT_PRESENT p) then s
  else
    let s := ((s.set (F.SFP_STAT_PRESENT p) 0).set (F.SFP_STAT_ID_VALID p) 0).set (F.SFP_STAT_DDM_VALID p) 0
    let s := (List.range 24).foldl (fun u w => u.set (F.SFP_ID_BYTES p w) 0) s
    linkDown p (sfpEvt p (s.set (F.SFP_STAT_REMOVE p) 1))
def execModuleRemove (p t : Nat) (s : State) : Host.Outcome State Fault Refusal := done s (moduleRemove p (s.atTime t))

/-- DDM_POLL: A2h bytes 96 to 105 have been read. -/
def ddmPoll (p : Nat) (bs : List Byte) (s : State) : State :=
  let w := fun (i : Nat) => beNat ((bs.drop i).take 2)
  if s.pollDue p && !s.i2cOwn p then
    let s := i2cNext p s
    let s := s.setPort p { s.portS p with poll := s.now + max 100 (s.get (F.SFP_CTRL_DDM_PERIOD p)) * uMs }
    (((((s.set (F.SFP_DDM0_TEMP p) (w 0)).set (F.SFP_DDM0_VCC p) (w 2)).set (F.SFP_DDM1_TXBIAS p) (w 4)).set
      (F.SFP_DDM1_TXPWR p) (w 6)).set (F.SFP_DDM2_RXPWR p) (w 8)).set (F.SFP_STAT_DDM_VALID p) 1
  else s
def execDdmPoll (p : Nat) (d : Diagnostics) (t : Nat) (s : State) : Host.Outcome State Fault Refusal :=
  let s1 := samplePins p d.pins.los d.pins.txf (s.atTime t)
  done s (ddmPoll p d.bs (if d.pins.los then linkDown p s1 else s1))

/-- A write of SFP_CMD: its transfer runs at once, or after the automatic read in progress (R172). -/
def wrSfpCmd (p v : Nat) (s : State) : State :=
  if bitOf v 31 && !s.on (F.SFP_CMD_BUSY p) then
    (s.set (F.SFP_CMD_BUSY p) 1).setPort p { s.portS p with i2c := v, i2cRun := !(s.idDue p || s.pollDue p) }
  else s
/-- SFP_READ: device address, offset and byte count − 1. -/
def execSfpRead (m p dev ofs len : Nat) (s : State) : Host.Outcome State Fault Refusal :=
  done s (guarded m (A.SFP_CMD p) (wrSfpCmd p (2 ^ 31 + len % 4 * 2 ^ 24 + dev % 128 * 2 ^ 17 + ofs % 256)) s)
/-- SFP_WRITE. -/
def execSfpWrite (m p dev ofs len : Nat) (s : State) : Host.Outcome State Fault Refusal :=
  done s (guarded m (A.SFP_CMD p) (wrSfpCmd p (2 ^ 31 + 2 ^ 30 + len % 4 * 2 ^ 24 + dev % 128 * 2 ^ 17 + ofs % 256)) s)

/-- SFP_TRANSFER_DONE: acknowledged or not, with the bytes a read brought. -/
def sfpDone (p : Nat) (ack : Bool) (data : Nat) (s : State) : State :=
  if !s.on (F.SFP_CMD_BUSY p) || (!(s.portS p).i2cRun && (s.idDue p || s.pollDue p)) then s
  else
    let c := (s.portS p).i2c
    let s := s.set (F.SFP_CMD_BUSY p) 0
    if !ack || !s.on (F.SFP_STAT_PRESENT p) then sfpEvt p (s.set (F.SFP_STAT_NACK p) 1)
    else if bitOf c 30 then s
    else
      let k := 256 ^ (bits 25 24 c + 1)
      let old := s.get (F.SFP_DATA_DATA p)
      s.set (F.SFP_DATA_DATA p) (old / k * k + data % k)
def execSfpTransferDone (p : Nat) (ack : Bool) (data t : Nat) (s : State) : Host.Outcome State Fault Refusal :=
  done s (sfpDone p ack data (s.atTime t))

/-! ## Descriptor rings (R184–R189): rings 0–3 receive, 4–9 are TX0–TX5 -/

/-- The registers of a ring. -/
structure RingF where
  en   : Fd
  blo  : Fd
  bhi  : Fd
  len  : Fd
  head : Fd
  tail : Fd
  halt : Fd
  err  : Fd

def ringF (p r : Nat) : RingF :=
  if r < 4 then ⟨F.RX_CTRL_EN p r, F.RX_BASE_LO_BASE_LO p r, F.RX_BASE_HI_BASE_HI p r, F.RX_LEN_LEN p r, F.RX_HEAD_HEAD p r,
    F.RX_TAIL_TAIL p r, F.RX_STAT_HALTED p r, F.RX_STAT_ERR p r⟩
  else
    let k := r - 4
    ⟨F.TX_CTRL_EN p k, F.TX_BASE_LO_BASE_LO p k, F.TX_BASE_HI_BASE_HI p k, F.TX_LEN_LEN p k, F.TX_HEAD_HEAD p k,
      F.TX_TAIL_TAIL p k, F.TX_STAT_HALTED p k, F.TX_STAT_ERR p k⟩

/-- A write of a ring's TAIL (R184). -/
def wrRingTail (p r v : Nat) (s : State) : State :=
  let f := ringF p r
  let v := v % 4096
  if s.on f.en && v < s.get f.len then
    (s.set f.tail v).setPort p { s.portS p with tailAt := mset (0, 0) r (s.now + 1, s.get f.tail) (s.portS p).tailAt }
  else s.set (F.NET_STAT_TAILERR p) 1

/-- A write of a ring's CTRL (R184, R186, R189). -/
def wrRingCtrl (p r v : Nat) (s : State) : State :=
  let f := ringF p r
  if bitOf v 31 then
    if 8 ≤ s.get f.len && s.get f.len ≤ 4096 then
      let x := s.portS p
      let s := ((s.set f.en 1).set f.head 0).set f.tail 0
      s.setPort p { x with fetch := mset 0 r 0 x.fetch, out := x.out.filter (fun o => o.ring != r) }
    else s
  else ((s.set f.en 0).set f.halt 0).set f.err 0

/-- A write of a ring register other than CTRL and TAIL: BASE and LEN are ignored while EN = 1 (R184). -/
def wrRingOther (p r a v : Nat) (s : State) : State := if s.on (ringF p r).en then s else s.writeRegPlain a v

/-- Address of ring register `o` of ring `r`. -/
def ringReg (p r o : Nat) : Nat := A.NET_CTRL p + (if r < 4 then 0x600 + 0x20 * r else 0x700 + 0x20 * (r - 4)) + o

def execRingTailWrite (m p r v : Nat) (s : State) : Host.Outcome State Fault Refusal :=
  done s (guarded m (ringReg p r 0x14) (wrRingTail p r v) s)
def execRingEnable (m p r : Nat) (s : State) : Host.Outcome State Fault Refusal :=
  done s (guarded m (ringReg p r 0) (wrRingCtrl p r (2 ^ 31)) s)
def execRingDisable (m p r : Nat) (s : State) : Host.Outcome State Fault Refusal :=
  done s (guarded m (ringReg p r 0) (wrRingCtrl p r 0) s)

/-- Descriptors the device owns (R184). -/
def State.ringOwned (s : State) (p r from_ : Nat) : Nat :=
  let f := ringF p r
  (s.get f.tail + s.get f.len - from_) % max 1 (s.get f.len)

/-- Descriptor requests of this cycle find the ring dry: a TAIL write of the same cycle is not seen yet (R187). -/
def State.ringDry (s : State) (p r head : Nat) : Bool :=
  let w := mget (0, 0) r (s.portS p).tailAt
  s.ringOwned p r head == 0 || (w.1 == s.now + 1 && w.2 == head)

def State.ringLive (s : State) (p r : Nat) : Bool := s.on (ringF p r).en && !s.on (ringF p r).halt

/-- Address of descriptor `i` of a ring. -/
def State.descAt (s : State) (p r i : Nat) : Nat :=
  let f := ringF p r
  s.get f.bhi * 2 ^ 32 + s.get f.blo * 16 + 16 * (i % max 1 (s.get f.len))

/-- Checks NETDMA's access to `n` bytes from `a` on: the first refusal, with ERR as a ring shows it; `ue` names a
failing 64-bit word of memory (R189). -/
def netCheck (a n : Nat) (wr : Bool) (buf : Bool) (ue : Option Nat) (s : State) : Option Nat × State :=
  (List.range n).foldl (fun (r : Option Nat × State) i =>
    match r with
    | (some e, u) => (some e, u)
    | (none, u) =>
      let x : Acc1 := { m := mNETDMA, a := a + i, w := 1, wr := wr }
      match u.check x with
      | .decode => (some 3, captureDecode x u)
      | .refused c => (some (if buf then 2 else 1), violation x c u)
      | .ok => if !wr && ue == some ((a + i) / 8 * 8) then (some 4, u) else (none, u)) (none, s)

/-- A ring halts (R189). -/
def haltRing (p r e : Nat) (s : State) : State :=
  let f := ringF p r
  raiseF (41 + 4 * p) (if r < 4 then r else 256 + (r - 4)) ((s.set f.halt 1).set f.err e)

/-! ## Receive rings (R182, R185, R186) -/

/-- Lengths of the pieces of a frame of `n` bytes in 2,048-byte buffers. -/
def pieces : Nat → Nat → List Nat
  | 0, _ => []
  | k + 1, n => if n = 0 then [] else min n 2048 :: pieces k (n - min n 2048)

/-- Writes the frame's bytes to the buffers of descriptors from `i` on; answers the error that stopped it. -/
def fillBufs (p r : Nat) (ue : Option Nat) : List Nat → Nat → List Byte → State → Option Nat × State
  | [], _, _, s => (none, s)
  | l :: ls, i, bs, s =>
    let d := s.descAt p r i
    match netCheck d 4 false false ue s with
    | (some e, s) => (some e, s)
    | (none, s) =>
      let b := s.word d * 64
      match netCheck b l true true ue s with
      | (some e, s) => (some e, s)
      | (none, s) => fillBufs p r ue ls (i + 1) (bs.drop l) (s.setBytes b (bs.take l))

/-- Delivers a frame to receive ring `r` (R185–R187, R189): `bs` DA to FCS, MATCH, UIDX, whether tagged, TS. -/
def rxToRing (p r : Nat) (bs : List Byte) (mat uidx : Nat) (tagged : Bool) (ts : Nat) (ue : Option Nat) (s : State) : State :=
  let f := ringF p r
  let head := s.get f.head
  let own := s.ringOwned p r head
  if !s.ringLive p r || s.ringDry p r head then s.inc (F.NCNT_RX_NOBUF p)
  else
    let ls := pieces 8 bs.length
    let used := ls.take own
    let cut := own < ls.length
    match fillBufs p r ue used head bs s with
    | (some e, s) => haltRing p r e (s.inc (F.NCNT_RX_NOBUF p))
    | (none, s) =>
      let n := used.length
      let word1 := fun (i l : Nat) =>
        2 ^ 31 + (if i = 0 then 2 ^ 30 else 0) + (if i + 1 = n then 2 ^ 29 else 0) + (if cut then 2 ^ 27 else 0)
        + mat * 2 ^ 24 + uidx * 2 ^ 19 + tagged.toNat * 2 ^ 18 + l
      let put := fun (u : State) (e : Nat × Nat) =>
        let d := u.descAt p r (head + e.2)
        let u := u.setWord (d + 4) (word1 e.2 e.1)
        let u := u.setWord (d + 8) (if e.2 = 0 then ts % 2 ^ 32 else 0)
        u.setWord (d + 12) (if e.2 + 1 = n then used.foldl (· + ·) 0 else 0)
      match (List.range n).foldl (fun (c : Option Nat × State) i =>
          match c with | (some e, u) => (some e, u) | (none, u) => netCheck (u.descAt p r (head + i) + 4) 12 true false ue u) (none, s) with
      | (some e, s) => haltRing p r e (s.inc (F.NCNT_RX_NOBUF p))
      | (none, s) =>
        let s := used.zipIdx.reverse.foldl put s
        let s := s.set f.head ((head + n) % max 1 (s.get f.len))
        let s := netEvt p r (F.NET_EVT_RX p) s
        if cut then s.inc (F.NCNT_RX_NOBUF p) else s

/-! ## Receive filters (R176, R179–R183) -/

def byteAt (bs : List Byte) (i : Nat) : Nat := (bs.getD i 0).toNat
def be16At (bs : List Byte) (i : Nat) : Nat := byteAt bs i * 256 + byteAt bs (i + 1)
def beAt (bs : List Byte) (i k : Nat) : Nat := beNat ((bs.drop i).take k)

/-- An outer tag with TPID 0x8100 (R176). -/
def frTagged (bs : List Byte) : Bool := be16At bs 12 == 0x8100
/-- Offset of the EtherType after a tag. -/
def frEt (bs : List Byte) : Nat := if frTagged bs then 16 else 12
def frVid (bs : List Byte) : Nat := if frTagged bs then be16At bs 14 % 4096 else 0

/-- The limit of R176 and R177. -/
def State.maxLen (s : State) (p : Nat) : Nat := max 1518 (min 9216 (s.get (F.NET_MAXLEN_MAXLEN p)))

/-- Reverses the low `k` bits. -/
def revBits : Nat → Nat → Nat
  | 0, _ => 0
  | k + 1, v => v % 2 * 2 ^ k + revBits k (v / 2)

/-- Hash bin of a group DA (R180) (DEDUCED: log entry 46). -/
def hashBin (da : List Byte) : Nat := revBits 9 (crc32 da % 512)

/-- The unicast filter that matches a DA (R179). -/
def State.ucast (s : State) (p da : Nat) : Option Nat :=
  (List.range 32).find? (fun i => s.on (F.UCAST_HI_EN p i) && s.get (F.UCAST_HI_ADDR_HI p i) * 2 ^ 32 + s.get (F.UCAST_LO_ADDR_LO p i) == da)

/-- Ring, MATCH and UIDX of a frame whose DA is accepted; none where the DA filter drops it (R179, R182) (DEDUCED:
log entry 46). -/
def State.daFilter (s : State) (p : Nat) (bs : List Byte) : Option (Nat × Nat × Nat) :=
  let da := beAt bs 0 6
  let group := bitOf (byteAt bs 0) 0
  let bc := da == 2 ^ 48 - 1
  let uni := if group then none else s.ucast p da
  let h := hashBin (bs.take 6)
  let hit := group && bitOf (s.get (F.NET_HASH_BINS p (h / 32))) (h % 32)
  let bcOk := bc && s.on (F.NET_CTRL_BCAST_EN p)
  if bcOk || uni.isSome || hit || s.on (F.NET_CTRL_PROMISC p) || (group && s.on (F.NET_CTRL_ALLMULTI p)) then
    if be16At bs (frEt bs) == 0x88F7 then some (s.get (F.NET_RING_MAP_PTP_RING p), 0, 0)
    else match uni with
      | some i => some (s.get (F.UCAST_HI_RING p i), 1, i)
      | none =>
        if bc then some (s.get (F.NET_RING_MAP_BCAST_RING p), 2, 0)
        else if hit then some (s.get (F.NET_RING_MAP_HASH_RING p), 3, 0)
        else some (s.get (F.NET_RING_MAP_DEFAULT_RING p), 4, 0)
  else none

/-- The VLAN filter (R181). -/
def State.vlanOk (s : State) (p : Nat) (bs : List Byte) : Bool :=
  let v := frVid bs
  if !s.on (F.NET_CTRL_VLAN_EN p) then true
  else if v = 0 then s.on (F.NET_CTRL_UNTAG_EN p)
  else if v = 4095 then false
  else bitOf (s.get (F.NET_VLAN_VIDS p (v / 32))) (v % 32)

/-- Adds to a 64-bit counter pair. -/
def addPair (lo hi : Fd) (n : Nat) (s : State) : State :=
  let v := s.get hi * 2 ^ 32 + s.get lo + n
  (s.set lo v).set hi (v / 2 ^ 32)

def countRx (p n : Nat) (s : State) : State := addPair (F.NCNT_RX_OCTETS_LO p) (F.NCNT_RX_OCTETS_HI p) n (s.inc (F.NCNT_RX_OK p))

/-- Stages 7 to 10 of a frame that nothing claims, under the filters of the state `at_`; `held` bytes of ring-bound frames are in the buffer (R175, R183). -/
def rxUnclaimed (p : Nat) (bs : List Byte) (at_ : State) (ts held : Nat) (ue : Option Nat) (s : State) : State :=
  match at_.daFilter p bs with
  | none => s.inc (F.NCNT_RX_DA_DROP p)
  | some (r, mat, uidx) =>
    if !at_.vlanOk p bs then s.inc (F.NCNT_RX_VLAN_DROP p)
    else if (if p = 4 then 98304 else 196608) < held + bs.length then s.inc (F.NCNT_RX_BUF_DROP p)
    else
      let k := s.get (F.NCNT_RX_NOBUF p)
      let s := rxToRing p r bs mat uidx (frTagged bs) ts ue s
      if s.get (F.NCNT_RX_NOBUF p) == k then countRx p bs.length s else s

/-! ## Transmit (R173, R174, R188, R215–R218) -/

/-- Bytes in the transmit buffer of a port (R183). -/
def txHeld (x : PortS) : Nat := x.txq.foldl (fun n f => n + f.bytes.length) 0

/-- A frame enters its queue (R173); a transmitter in low-power idle wakes (R192). -/
def enqueue (p : Nat) (f : TxFrame) (s : State) : State :=
  let s := lpiWake p (creditTick p s)
  s.setPort p { s.portS p with txq := (s.portS p).txq ++ [{ f with bytes := f.bytes ++ List.replicate (60 - f.bytes.length) 0 }] }

/-- Writes back word 1 and word 3 of `n` descriptors of transmit ring `r` from descriptor `i` on: DONE, and ERR `e` from
the `k`-th on; an EOP with IE raises the ring's event (R188). -/
def txWriteBack (p r i n k e : Nat) (s : State) : State :=
  (List.range n).foldl (fun u j =>
    let d := u.descAt p r (i + j)
    let w := u.word (d + 4)
    let w := w - bits 27 26 w * 2 ^ 26 + (if k ≤ j then e * 2 ^ 26 else 0)
    let u := (u.setWord (d + 4) (withBit w 31 true)).setWord (d + 12) 0
    if bitOf w 29 && bitOf w 25 then netEvt p (8 + (r - 4)) (F.NET_EVT_TX p) u else u) s

/-- HEAD advances past the frames of the ring that are written back, in order (R188). -/
def advanceHead (p r : Nat) : Nat → State → State
  | 0, s => s
  | k + 1, s =>
    let x := s.portS p
    match x.out.find? (fun o => o.ring == r) with
    | some o =>
      if o.done then
        let s := s.setPort p { x with out := x.out.erase o }
        advanceHead p r k (s.set (ringF p r).head ((o.first + o.count) % max 1 (s.get (ringF p r).len)))
      else s
    | none => s

/-- Marks the frame at descriptor `i` of ring `r` as written back. -/
def txDoneAt (p r i : Nat) (s : State) : State :=
  let x := s.portS p
  let s := s.setPort p { x with out := x.out.map (fun o => if o.ring == r && o.first == i then { o with done := true } else o) }
  advanceHead p r x.out.length s

/-- Returns `n` descriptors of a frame, where the access table lets NETDMA write each of them; else the ring halts and none is
written (R188, R189). -/
def txReturn (p r i n k e : Nat) (s : State) : State :=
  match (List.range n).foldl (fun (c : Option Nat × State) j =>
      match c with | (some x, u) => (some x, u) | (none, u) => netCheck (u.descAt p r (i + j) + 4) 12 true false none u) (none, s) with
  | (some x, s) => haltRing p r x s
  | (none, s) => txDoneAt p r i (txWriteBack p r i n k e s)

/-- Reads descriptors (words 0 to 2) from `i` on up to an EOP, at most `k`. -/
def readDescs (p r : Nat) (ue : Option Nat) : Nat → Nat → State → Option Nat × List (Nat × Nat × Nat) × State
  | 0, _, s => (none, [], s)
  | k + 1, i, s =>
    let d := s.descAt p r i
    match netCheck d 12 false false ue s with
    | (some e, s) => (some e, [], s)
    | (none, s) =>
      let w1 := s.word (d + 4)
      let x := (s.word d, w1, s.word (d + 8))
      if bitOf w1 29 then (none, [x], s)
      else
        let (e, l, s) := readDescs p r ue k (i + 1) s
        (e, x :: l, s)

/-- Reads the buffers of a frame's descriptors. -/
def readBufs (ue : Option Nat) : List (Nat × Nat × Nat) → State → Option Nat × List Byte × State
  | [], s => (none, [], s)
  | (w0, w1, _) :: l, s =>
    let a := w1 % 256 * 2 ^ 32 + w0
    let n := bits 19 8 w1
    match netCheck a n false true ue s with
    | (some e, s) => (some e, [], s)
    | (none, s) =>
      let (e, bs, s) := readBufs ue l s
      (e, s.bytes a n ++ bs, s)

/-- TX_FRAME_QUEUE (R174, R188, R189) for ring `r` (4–9): `ue` names a failing 64-bit word of memory. -/
def txQueue (p r : Nat) (ue : Option Nat) (s : State) : State :=
  let x := s.portS p
  let len := max 1 (s.get (ringF p r).len)
  let i := mget 0 r x.fetch
  if !s.ringLive p r then s
  else
    match readDescs p r ue (s.ringOwned p r i) i s with
    | (some e, _, s) => haltRing p r e s
    | (none, ds, s) =>
      let n := ds.length
      if !(match ds.getLast? with | some d => bitOf d.2.1 29 | none => false) then s
      else
        let take := fun (u : State) =>
          let y := u.portS p
          u.setPort p { y with fetch := mset 0 r ((i + n) % len) y.fetch, out := y.out ++ [⟨r, i, n, false⟩] }
        let bad := (ds.zipIdx.find? (fun d => (d.2 == 0 && !bitOf d.1.2.1 30) || bits 19 8 d.1.2.1 == 0 || 2048 < bits 19 8 d.1.2.1)).map (·.2)
        match bad with
        | some k => txReturn p r i n k 2 (take s)
        | none =>
          match readBufs ue ds s with
          | (some e, _, s) => haltRing p r e s
          | (none, bs, s) =>
            let lim := if frTagged bs then s.maxLen p else s.maxLen p - 4
            if bs.length < 14 || lim < bs.length then
              txReturn p r i n 0 1 (take (s.inc (F.NCNT_TX_LEN_ERR p)))
            else if (if p = 4 then 131072 else 65536) < txHeld x + bs.length then s
            else
              let d := ds.headD (0, 0, 0)
              enqueue p { q := r - 4, bytes := bs, ring := some (r, i, n),
                          tag := if bitOf d.2.1 28 then some (d.2.2 / 65536) else none } (take s)

def execTxFrameQueue (p k : Nat) (ue : Option Nat) (t : Nat) (s : State) : Host.Outcome State Fault Refusal :=
  done s (txQueue p (4 + k) ue (s.atTime t))

/-- TX_FRAME_DONE (R188): the oldest ring frame that has left is written back. -/
def txFrameDone (p : Nat) (s : State) : State :=
  let x := s.portS p
  match x.sent with
  | (f, e) :: l =>
    if e ≤ s.now then
      let s := s.setPort p { x with sent := l }
      match f.ring with
      | some (r, i, n) => if s.on (ringF p r).halt then s else txReturn p r i n 0 0 s
      | none => s
    else s
  | [] => s
def execTxFrameDone (p t : Nat) (s : State) : Host.Outcome State Fault Refusal := done s (txFrameDone p (s.atTime t))

/-- Bits per ns of the port (R167). -/
def State.lineRate (s : State) (p : Nat) : Nat := if s.on (F.NET_STAT_SPEED p) then 10 else 25

/-- Time a frame of `n` bytes before its FCS holds the line, in 1/256 ns (R216). -/
def State.onLine (s : State) (p n : Nat) : Nat := ((n + 24) * 8 * 256 + s.lineRate p - 1) / s.lineRate p

/-- Start of operative entry `k` after the breath instant, in 1/256 ns (R215). -/
def State.gateOfs (s : State) (p k : Nat) : Nat :=
  (List.range k).foldl (fun n j => n + s.get (F.STRM_GCL_OPER_INTERVAL j p) * 256) 0

/-- Time from now to the next close of queue `q` (R216); none where no entry closes it. -/
def State.nextClose (s : State) (p q : Nat) : Option Int :=
  if p == 4 || !s.breathing then none
  else
    let per := breathOfs s.fs (s.n + 1) - breathOfs s.fs s.n
    let el := s.since s.n
    ((List.range (s.get (F.STRM_GCL_STAT_OPER_LEN p))).filter (fun k =>
        !bitOf (s.get (F.STRM_GCL_OPER_GATES k p)) q && s.gateOfs p k < per)).foldl (fun (b : Option Int) k =>
      let o : Int := (s.gateOfs p k : Nat)
      let d := if el < o then o - el else o + per - el
      match b with | none => some d | some x => some (min x d)) none

/-- The frame at the head of queue `q` may start now (R173, R216, R218); in queue 5 the Host Channel goes first
(R363) (PRESUMED: log entry 47). -/
def State.mayStartTx (s : State) (p q : Nat) : Option TxFrame :=
  let l := (s.portS p).txq.filter (fun f => f.q == q)
  match (if q == 5 then l.filter (fun f => f.ring.isNone) ++ l else l).head? with
  | none => none
  | some f =>
    let fits := match s.nextClose p q with | none => true | some d => decide ((s.onLine p f.bytes.length : Int) ≤ d)
    let cbs := q != 6 || s.get (F.STRM_CBS_SLOPE_SLOPE p) == 0 || decide (0 ≤ (s.portS p).credit)
    if s.gateOpen p q && fits && cbs then some f else none

/-- An entry enters transmit time-stamp queue `p` (R251) (DEDUCED: log entry 48). -/
def txtsPush (p : Nat) (e : TxStamp) (s : State) : State :=
  let q := mget [] p s.time.txts
  if 16 ≤ q.length then (s.set (F.TXTS_STAT_TXTS_OVF p) 1).incSat (F.TXTS_STAT_DROPPED p)
  else
    let s := { s with time := { s.time with txts := mset [] p (q ++ [e]) s.time.txts } }
    (s.set (F.TXTS_STAT_COUNT p) (q.length + 1)).setBit F.TIME_EVT_TXTS p true

/-- Starts frame `f` on the line (R173, R194, R216, R248, R251) (DEDUCED: log entry 48). -/
def startTx (p : Nat) (f : TxFrame) (s : State) : State :=
  let dur := s.onLine p f.bytes.length
  let s := addLoad p 0 ((f.bytes.length + 4) * 8) s
  let x := s.portS p
  let x := { x with txq := x.txq.erase f, lineEnd := s.now + dur,
                    credit := if f.q == 6 then x.credit - ((s.lineRate p * 1000000 * dur : Nat) : Int) else x.credit,
                    sent := if f.ring.isSome then x.sent ++ [(f, s.now + dur)] else x.sent }
  let x := if x.txq.isEmpty then { x with idle := s.now + dur } else x
  let s := addPair (F.NCNT_TX_OCTETS_LO p) (F.NCNT_TX_OCTETS_HI p) (f.bytes.length + 4) ((s.setPort p x).inc (F.NCNT_TX_OK p))
  match f.tag with
  | some g =>
    let sfd := s.now + 64 * 256 / s.lineRate p
    txtsPush p ⟨s.devAt sfd / 256 % 2 ^ 32, g, sfd⟩ s
  | none => s

/-- The frame the MAC of port `p` starts at this frame boundary (R173). -/
def State.nextTx (s : State) (p : Nat) : Option TxFrame :=
  let x := s.portS p
  if !s.portUp p || s.now < x.lineEnd || s.now < x.wakeAt then none
  else [7, 6, 5, 4, 3, 2, 1, 0].findSome? (fun q => s.mayStartTx p q)

/-- GATE_ENTRY (R215): entry `k` of the operative list of port `p` begins. -/
def gateEntry (p k : Nat) (s : State) : State :=
  if p < 4 && s.breathing && k < s.get (F.STRM_GCL_STAT_OPER_LEN p) && s.gateOfs p k < s.period
      && decide ((s.gateOfs p k : Int) ≤ s.since s.n) then
    let s := creditTick p s
    s.setPort p { s.portS p with gates := s.get (F.STRM_GCL_OPER_GATES k p), gateK := k }
  else s
def execGateEntry (p k t : Nat) (s : State) : Host.Outcome State Fault Refusal := done s (gateEntry p k (s.atTime t))

/-! ## Registers and resets -/

/-- NET_CNT_CLR (R194). -/
def clrNet (p : Nat) (s : State) : State := s.resetRegs (fun a => A.NET_CTRL p + 0x800 ≤ a && a < A.NET_CTRL p + 0x850)
def execClrNetCounters (m p : Nat) (s : State) : Host.Outcome State Fault Refusal :=
  done s (guarded m (A.NET_CTRL p + 0x850) (clrNet p) s)

/-- A write of a NET or TWINMAC register. -/
def wrNET (a v : Nat) (s : State) : State :=
  let p := (a - A.NET_CTRL 0) / 0x10000
  let o := a % 0x10000
  let ring := fun (r q : Nat) =>
    if q == 0 then wrRingCtrl p r v s else if q == 0x14 then wrRingTail p r v s else wrRingOther p r a v s
  if o == 0 then wrNetCtrl p v s
  else if o == 0x508 then wrSfpCmd p v s
  else if 0x600 ≤ o && o < 0x680 then ring ((o - 0x600) / 0x20) (o % 0x20)
  else if 0x700 ≤ o && o < 0x7C0 then ring (4 + (o - 0x700) / 0x20) (o % 0x20)
  else if o == 0x850 then (if bitOf v 0 then clrNet p s else s)
  else if o == 0x10 || o == 0x14 || (0x40 ≤ o && o < 0x400) then wrFilter p a v s
  else s.writeRegPlain a v

end Sys2Proof.Machine
end

