-- ==== Sys2Proof/Machine/Strm.lean ====
section
/-!
DEFINITION. Audio streams: descriptors, recovery, jitter buffer, substitution, transmit frames, gate lists and AES67
(R197–R223). Stream number 64 × KIND + INDEX.
-/
namespace Sys2Proof.Machine

def State.strmS (s : State) (i : Nat) : StrmS := mget {} i s.strm.st
def State.setStrm (s : State) (i : Nat) (x : StrmS) : State := { s with strm := { s.strm with st := mset {} i x s.strm.st } }

/-- Descriptor word `j`. -/
def State.sw (s : State) (j i : Nat) : Nat := s.get (F.STRM_DESC_WORD j i)
def strmKind (i : Nat) : Nat := i / 64

/-- STATE codes of STRM_DSTAT (R222). -/
def ssOFF : Nat := 0
def ssSILENT : Nat := 1
def ssRAMPIN : Nat := 2
def ssRUN : Nat := 3
def ssREPEAT : Nat := 4
def ssFADE : Nat := 5
def State.strmState (s : State) (i : Nat) : Nat := s.get (F.STRM_DSTAT_STATE i)
def setStrmState (i st k : Nat) (s : State) : State := (s.set (F.STRM_DSTAT_STATE i) st).set (F.STRM_DSTAT_RAMP_K i) k

/-! ## Descriptors (R197–R202) -/

def State.strmCh (s : State) (i : Nat) : Nat := if i < 128 then bits 22 16 (s.sw 1 i) else bits 27 24 (s.sw 0 i)
/-- Samples per frame and bytes per sample of an AVTP stream. -/
def State.spf (s : State) (i : Nat) : Nat := 2 ^ bits 29 28 (s.sw 0 i)
def State.fmtBytes (s : State) (i : Nat) : Nat := match bits 27 26 (s.sw 0 i) with | 0 => 4 | 1 => 3 | _ => 2
def State.tapBase (s : State) (i : Nat) : Nat := bits 11 0 (s.sw 1 i)
def State.strmTagged (s : State) (i : Nat) : Bool := bitOf (s.sw 0 i) (if i < 128 then 18 else 17)
def State.strmVid (s : State) (i : Nat) : Nat := bits 11 0 (s.sw 0 i)
def State.strmPcp (s : State) (i : Nat) : Nat := if i < 128 then bits 17 15 (s.sw 0 i) else bits 14 12 (s.sw 0 i)
/-- Media rate and bytes per sample of an AES67 stream. -/
def State.mediaRate (s : State) (i : Nat) : Nat :=
  match bits 29 28 (s.sw 0 i) with | 0 => 44100 | 1 => 48000 | 2 => 88200 | _ => 96000
def State.encBytes (s : State) (i : Nat) : Nat := if bitOf (s.sw 0 i) 30 then 4 else 3
def State.spp (s : State) (i : Nat) : Nat := s.sw 1 i / 2 ^ 24

/-- The stream is live, or has an enable accepted. -/
def State.strmHeld (s : State) (i : Nat) : Bool := (s.strmS i).live || bitOf (s.sw 0 i) 31

def kindSids (k : Nat) : List Nat := (List.range (if k < 2 then 64 else 32)).map (fun j => 64 * k + j)

/-- What a receive stream matches on (R205, R220). -/
def State.matchKey (s : State) (i : Nat) : List Nat :=
  let vlan := if s.strmTagged i then 1 + s.strmVid i else 0
  if i < 128 then [s.sw 4 i % 65536, s.sw 5 i, s.sw 2 i, s.sw 3 i, vlan]
  else [s.sw 2 i, s.sw 1 i % 65536, if bitOf (s.sw 0 i) 16 then s.sw 3 i + 1 else 0, vlan]

/-- Two streams have a path on the same port. -/
def State.commonPort (s : State) (i j : Nat) : Bool :=
  [0, 1, 2, 3].any (fun p => (s.pathPort i false == some p || s.pathPort i true == some p)
    && (s.pathPort j false == some p || s.pathPort j true == some p))

/-- The cause for which a descriptor is refused; 0 for none (R199). -/
def State.descErr (s : State) (i : Nat) : Nat :=
  let k := strmKind i
  let ch := s.strmCh i
  let others := (kindSids k).filter (fun j => j != i && s.strmHeld j)
  let lap := fun (j : Nat) => s.tapBase i < s.tapBase j + s.strmCh j && s.tapBase j < s.tapBase i + ch
  let cap := if k < 2 then s.mode.netCh else s.mode.aesCh
  let total := others.foldl (fun n j => n + s.strmCh j) ch
  let badVid := s.strmTagged i && (s.strmVid i == 0 || s.strmVid i == 4095)
  let badFmt := if k < 2 then bits 27 26 (s.sw 0 i) == 3 || ch == 0 || 64 < ch
    else ch == 0 || 8 < ch || bits 6 0 (s.sw 6 i) < 96 || s.spp i * 8000 < s.mediaRate i || 1440 < s.spp i * ch * s.encBytes i
  if k = 0 && 0x0C00 < s.tapBase i + ch then 1
  else if (k = 0 && others.any lap) || (k < 3 && others.any (fun j => s.matchKey j == s.matchKey i && s.commonPort i j)) then 2
  else if cap < total then 3
  else if badFmt || badVid then 4
  else match s.pathPort i false, s.pathPort i true with
    | none, none => 5
    | some a, some b => if a = b then 5 else 0
    | _, _ => 0

/-- Channel totals and AUDIO_HOLD (R193, R222). -/
def showStrm (s : State) : State :=
  let total := fun (k : Nat) => ((kindSids k).filter (fun i => (s.strmS i).live)).foldl (fun n i => n + s.strmCh i) 0
  showHold ((s.set F.STRM_STAT_RX_CH (total 0)).set F.STRM_STAT_TX_CH (total 1))

/-- A write of EN = 1 with word 0 in place (R198). -/
def strmEnable (i : Nat) (s : State) : State :=
  let e := s.descErr i
  if e = 0 then
    let x := s.strmS i
    s.setStrm i { x with pend := true }
  else (((s.set (F.STRM_DESC_WORD 0 i) (withBit (s.sw 0 i) 31 false)).set F.STRM_STAT_BADDESC 1).set (F.STRM_DSTAT_DERR i) e)

/-- Bits of descriptor word `j` of a stream that are no reserved bits (R201, R202). -/
def descMask (j i : Nat) : Nat :=
  match strmKind i, j with
  | 0, 0 => 0xFFFF8FFF
  | 1, 0 => 0xBFFF8FFF
  | 0, 1 => 0x007FFFFF
  | 1, 1 => 0x007F0000
  | 0, 4 => 0xFFFF
  | 1, 4 => 0xFFFF
  | 0, 6 => 0xFFFF0000
  | 0, 8 => 0
  | 1, 8 => 0
  | 2, 0 => 0xFFFF7FFF
  | 3, 0 => 0xFFFF7FFF
  | 2, 1 => 0xFFFCFFFF
  | 3, 1 => 0xFFFCFFFF
  | 2, 5 => 0
  | 2, 6 => 0xFFFFFF7F
  | 3, 6 => 0xFFFFFF7F
  | _, _ => 0xFFFFFFFF

/-- A write of descriptor word `j` of stream `i` (R198, R222); reserved bits ignore it (R8). -/
def wrDesc (j i v : Nat) (s : State) : State :=
  let v := v &&& descMask j i
  if 128 ≤ i && 32 ≤ i % 64 then s
  else if s.strmHeld i then
    let s := if j != 0 || v % 2 ^ 31 != s.sw 0 i % 2 ^ 31 then s.set F.STRM_STAT_DESCWR 1 else s
    if j != 0 then s
    else
      let was := bitOf (s.sw 0 i) 31
      let s := s.set (F.STRM_DESC_WORD 0 i) (withBit (s.sw 0 i) 31 (bitOf v 31))
      if bitOf v 31 && !was then showStrm (strmEnable i s)
      else if !bitOf v 31 && was then showStrm (s.setStrm i { s.strmS i with pend := (s.strmS i).live })
      else s
  else
    let s := s.set (F.STRM_DESC_WORD j i) v
    if j == 0 && bitOf v 31 then showStrm (strmEnable i s) else s

/-- The stream STRM_SEL selects. -/
def State.selStream (s : State) : Nat := 64 * s.get F.STRM_SEL_KIND + s.get F.STRM_SEL_INDEX

/-- STREAM_ENABLE: word 0 of the selected stream is written with EN = 1. -/
def execStreamEnable (m v : Nat) (s : State) : Host.Outcome State Fault Refusal :=
  done s (guarded m 0x200A0020 (fun u => wrDesc 0 u.selStream (withBit (v % 2 ^ 32) 31 true) u) s)
/-- STREAM_DISABLE: word 0 of the selected stream is written with EN = 0. -/
def execStreamDisable (m v : Nat) (s : State) : Host.Outcome State Fault Refusal :=
  done s (guarded m 0x200A0020 (fun u => wrDesc 0 u.selStream (withBit (v % 2 ^ 32) 31 false) u) s)

/-! ## Receive states (R211–R213) -/

/-- Commits the values of a stream's channels for breath `b`. -/
def commitStream (i b : Nat) (vs : List Int) (s : State) : State :=
  vs.zipIdx.foldl (fun u (e : Int × Nat) => commitTap (s.tapBase i + e.2) e.1 b u) s

/-- Committed values of a stream's taps. -/
def State.streamLevel (s : State) (i : Nat) : List Int := (List.range (s.strmCh i)).map (fun c => (s.tap (s.tapBase i + c)).cur)

def ramp32 (a c : List Int) (k : Nat) : List Int := List.zipWith (fun x y => rampVal x y k 32) a c

/-- What a step of the table of R212 does with a value: nothing but 0, the received one, the last one again, or a ramp that starts
at the level kept, at the last value, or at 0. -/
inductive RxAct where
  | zero
  | take
  | hold
  | rampKept
  | rampLast
  | rampZero
  deriving DecidableEq, Repr

/-- Where a receive stream stands in the table of R212. -/
structure RxAt where
  st      : Nat
  k       : Nat
  fromK   : Nat
  repeats : Nat
  deriving DecidableEq, Repr

/-- One breath of the table of R212, with a sample written or missing. -/
def rxTable (most : Nat) (x : RxAt) (written : Bool) : RxAt × RxAct :=
  let up := fun (a : RxAct) (k : Nat) => if k = 32 then (({ x with st := ssRUN, k := 0 } : RxAt), RxAct.take) else ({ x with st := ssRAMPIN, k := k }, a)
  if written then
    if x.st = ssSILENT then up .rampZero 1
    else if x.st = ssRAMPIN then up .rampKept (x.k + 1)
    else if x.st = ssFADE then up .rampLast 1
    else if x.st = ssREPEAT && x.fromK != 0 then up .rampKept (x.fromK + 1)
    else ({ x with st := ssRUN, k := 0 }, .take)
  else if x.st = ssRUN || x.st = ssRAMPIN then
    (⟨ssREPEAT, 0, if x.st = ssRAMPIN then x.k else 0, 1⟩, .hold)
  else if x.st = ssREPEAT then
    if x.repeats < most then ({ x with k := 0, repeats := x.repeats + 1 }, .hold) else ({ x with st := ssFADE, k := 1 }, .rampLast)
  else if x.st = ssFADE then
    if x.k + 1 = 32 then ({ x with st := ssSILENT, k := 0 }, .zero) else ({ x with k := x.k + 1 }, .rampKept)
  else ({ x with k := 0 }, .zero)

/-- The stream takes one step of the table: its state, the level a ramp starts at, and what becomes of its values, where `last` are
the last ones and `v` the received ones. -/
def rxMove (i : Nat) (last : List Int) (v : Option (List Int)) (s : State) : List Int × State :=
  let x := s.strmS i
  let (y, a) := rxTable (max 1 (s.get F.STRM_CFG_REPEAT_MAX)) ⟨s.strmState i, s.get (F.STRM_DSTAT_RAMP_K i), x.fromK, x.repeats⟩ v.isSome
  let zeros := last.map (fun _ => (0 : Int))
  let goal := v.getD zeros
  let level := match a with | .rampLast => last | .rampZero => zeros | _ => x.level
  let out := match a with
    | .zero => zeros
    | .take => goal
    | .hold => last
    | _ => ramp32 level goal y.k
  (out, (setStrmState i y.st y.k s).setStrm i { x with level := level, fromK := y.fromK, repeats := y.repeats })

/-- A sample of breath `b` is written, or is missing (R212). -/
def strmStep (i b : Nat) (v : Option (List Int)) (s : State) : State :=
  let (out, s) := rxMove i (s.streamLevel i) v s
  commitStream i b out (s.setStrm i { s.strmS i with doneB := b + 1 })

/-- DUE_OFS of a stream in ns (R201). -/
def State.dueOfs (s : State) (i : Nat) : Nat := max 100 (min (s.period / 256 - 1) (s.sw 6 i / 65536))

/-- Writes a received sample of breath `b`, the one in progress, with its arrival event (R41, R210). -/
def writeSample (i b eof : Nat) (vs : List Int) (s : State) : State := arrive i b (some eof) (strmStep i b (some vs) s)

/-- JITTER_SAMPLE_RELEASE (R210): the sample held for the breath in progress is written. -/
def jitterRelease (i : Nat) (s : State) : State :=
  let x := s.strmS i
  match x.held.find? (fun e => e.1 == s.n) with
  | some (b, eof, vs) =>
    let s := s.setStrm i { x with held := x.held.filter (fun e => s.n < e.1) }
    if x.live && x.stopB.isNone && s.breathing && x.doneB ≤ b && !s.reached b (s.dueOfs i) && !s.modeGap
    then writeSample i b eof vs s else s
  | none => s
def execJitterSampleRelease (i t : Nat) (s : State) : Host.Outcome State Fault Refusal := done s (jitterRelease i (s.atTime t))

/-- SAMPLE_MISSING (R211): breath start + DUE_OFS has passed without a sample. -/
def sampleMissing (i : Nat) (s : State) : State :=
  let x := s.strmS i
  if i < 64 && x.live && x.from_ ≤ s.n && s.breathing && x.doneB ≤ s.n && s.reached s.n (s.dueOfs i) then
    arrive i s.n none ((strmStep i s.n none s).inc (F.STRM_SCNT_COUNT 8 i))
  else s
def execSampleMissing (i t : Nat) (s : State) : Host.Outcome State Fault Refusal := done s (sampleMissing i (s.atTime t))

/-! ## Recovery (R208, R209) -/

/-- Shifts the history window by `d`: lost frames counted, and the history (R208). -/
def shiftHist : Nat → Nat → Nat × Nat
  | 0, h => (0, h)
  | k + 1, h =>
    let (n, h') := shiftHist k (h * 2 % 2 ^ 32)
    (n + (if bitOf h 31 then 0 else 1), h')

/-- `recover` of R208: whether the frame passes. -/
def recover (i space seq : Nat) (s : State) : Bool × State :=
  let x := s.strmS i
  let cnt := fun (j : Nat) (u : State) => u.inc (F.STRM_SCNT_COUNT j i)
  if x.takeAny then
    (true, cnt 0 (s.setStrm i { x with recov := seq, hist := 0xFFFFFFFF, takeAny := false, passB := s.n }))
  else
    let w := if space = 256 then 8 else 16
    let d := sx w (ux w ((seq : Int) - x.recov))
    if 32 ≤ d || d ≤ -32 then (false, cnt 4 s)
    else if d ≤ 0 then
      let b := (-d).toNat
      if bitOf x.hist b then (false, cnt 1 s)
      else (true, cnt 0 (cnt 3 (s.setStrm i { x with hist := withBit x.hist b true, passB := s.n })))
    else
      let (lost, h) := shiftHist d.toNat x.hist
      let s := s.set (F.STRM_SCNT_COUNT 2 i) (s.get (F.STRM_SCNT_COUNT 2 i) + lost)
      (true, cnt 0 (s.setStrm i { x with hist := withBit h 0 true, recov := seq, passB := s.n }))

/-- A frame has arrived on a path (R209). -/
def pathUp (i : Nat) (b : Bool) (s : State) : State :=
  let x := s.strmS i
  if b then (s.set (F.STRM_DSTAT_PATH_B i) 1).setStrm i { x with lastB := s.n }
  else (s.set (F.STRM_DSTAT_PATH_A i) 1).setStrm i { x with lastA := s.n }

/-- TAKE_ANY_RESET (R209). -/
def takeAnyReset (i : Nat) (s : State) : State :=
  let x := s.strmS i
  if x.live && !x.takeAny && s.breathing && x.passB + max 1 (s.get F.STRM_CFG_RESET_BREATHS) < s.n then
    (s.setStrm i { x with takeAny := true }).inc (F.STRM_SCNT_COUNT 5 i)
  else s
def execTakeAnyReset (i t : Nat) (s : State) : Host.Outcome State Fault Refusal := done s (takeAnyReset i (s.atTime t))

/-- PATH_TIMEOUT (R209) of path A, or B. -/
def pathTimeout (i : Nat) (b : Bool) (s : State) : State :=
  let x := s.strmS i
  if (if b then x.lastB else x.lastA) + max 1 (s.get F.STRM_CFG_PATH_TMO) < s.n then pathDown i b s else s
def execPathTimeout (i : Nat) (b : Bool) (t : Nat) (s : State) : Host.Outcome State Fault Refusal :=
  done s (pathTimeout i b (s.atTime t))

/-! ## AVTP receive (R203–R207, R210) -/

/-- Offset of the AVTP header: after the tag, the R-tag and the EtherType (R204). -/
def avtpRtag (bs : List Byte) : Bool := be16At bs (frEt bs) == 0xF1C1
def avtpOfs (bs : List Byte) : Nat := frEt bs + (if avtpRtag bs then 6 else 0) + 2

/-- Stream `i` claims an AVTP frame that came on port `p`; which path (R205). -/
def State.avtpClaims (s : State) (p : Nat) (bs : List Byte) (i : Nat) : Option Bool :=
  let h := avtpOfs bs
  let vlan := if s.strmTagged i then frTagged bs && frVid bs == s.strmVid i else frVid bs == 0
  if (s.strmS i).live && (s.strmS i).stopB.isNone && be16At bs (h - 2) == 0x22F0 && byteAt bs h == 2
      && beAt bs 0 6 == s.sw 4 i % 65536 * 2 ^ 32 + s.sw 5 i && beAt bs (h + 4) 8 == s.sw 2 i * 2 ^ 32 + s.sw 3 i && vlan then
    if s.pathPort i false == some p then some false else if s.pathPort i true == some p then some true else none
  else none

/-- nsr of a breath rate (R203). -/
def nsrOf (fs : Nat) : Nat := if fs = 48000 then 5 else if fs = 96000 then 7 else 9
def fmtCode (bytes : Nat) : Nat := if bytes = 4 then 2 else if bytes = 3 then 3 else 4

/-- A claimed frame passes the checks of R206; `bs` without FCS. -/
def State.avtpOk (s : State) (i : Nat) (bs : List Byte) : Bool :=
  let h := avtpOfs bs
  let w0 := s.sw 0 i
  let b1 := byteAt bs (h + 1)
  let nb := s.fmtBytes i
  let data := s.strmCh i * s.spf i * nb
  let depth := byteAt bs (h + 19)
  bitOf b1 7 && bits 6 4 b1 == 0 && byteAt bs (h + 16) == fmtCode nb && byteAt bs (h + 17) / 16 == nsrOf s.fs
  && be16At bs (h + 17) % 1024 == s.strmCh i && be16At bs (h + 20) == data && depth != 0 && depth ≤ 8 * nb
  && h + 24 + data ≤ bs.length && (bitOf w0 30 || bitOf b1 0) && (!bitOf w0 25 || avtpRtag bs)

/-- Breath whose start lies nearest device time `u` in 1/256 ns; an exact half goes to the later (R207). -/
def State.nearestBreath (s : State) (u : Int) : Int :=
  (2 * s.sinceAnchor u * s.fs + 256000000000) / (2 * 256000000000)

/-- Breath in progress at device time `u` in 1/256 ns: the last whose instant, as R12 truncates it, is not after `u`. -/
def State.breathOf (s : State) (u : Int) : Int := ((s.sinceAnchor u + 1) * s.fs - 1) / 256000000000

/-- First breath of a passed frame, unwrapped (R207). -/
def State.frameBreath (s : State) (i : Nat) (bs : List Byte) (eof : Nat) : Nat :=
  let ts := beAt bs (avtpOfs bs + 12) 4
  let ns : Int := (eof / 256 : Nat)
  let t : Int := ns + sx 32 (ux 32 ((ts : Int) - ns))
  let b := if bitOf (s.sw 0 i) 30 then s.breathOf eof else s.nearestBreath ((t - s.sw 7 i) * 256)
  s.unwrap (ux 48 b)

/-- Values of sample `j` of a frame, as Q1.31 (R206). -/
def State.frameVals (s : State) (i : Nat) (bs : List Byte) (j : Nat) : List Int :=
  let nb := s.fmtBytes i
  (List.range (s.strmCh i)).map (fun c =>
    sx 32 (beAt bs (avtpOfs bs + 24 + (j * s.strmCh i + c) * nb) nb * 2 ^ (32 - 8 * nb)))

/-- The samples of a frame that passed recovery (R210). -/
def placeSamples (i b0 eof : Nat) (vals : Nat → List Int) (s : State) : State :=
  let x := s.strmS i
  if !s.breathing then s
  else if s.n + bits 15 12 (s.sw 1 i) < b0 then s.inc (F.STRM_SCNT_COUNT 7 i)
  else
    let (late, s) := (List.range (s.spf i)).foldl (fun (a : Bool × State) j =>
      let b := b0 + j
      let u := a.2
      let y := u.strmS i
      if u.n < b then
        (a.1, if y.held.any (fun e => e.1 == b) then u else u.setStrm i { y with held := y.held ++ [(b, eof, vals j)] })
      else if b == u.n && u.modeGap then (a.1, u)
      else if b == u.n && y.doneB ≤ b && !u.reached b (u.dueOfs i) then (a.1, writeSample i b eof (vals j) u)
      else (true, u)) (false, s)
    let s := if x.stopB.isSome then s.setStrm i { s.strmS i with held := [] } else s
    if late then s.inc (F.STRM_SCNT_COUNT 6 i) else s

/-- A claimed AVTP frame on path A or B, with its end-of-frame instant in device time (R206–R210). -/
def avtpReceive (i : Nat) (b : Bool) (bs : List Byte) (eof : Nat) (s : State) : State :=
  if !s.avtpOk i bs then s.inc (F.STRM_SCNT_COUNT 9 i)
  else
    let s := pathUp i b s
    let rt := bitOf (s.sw 0 i) 25
    let seq := if rt then be16At bs (frEt bs + 4) else byteAt bs (avtpOfs bs + 2)
    let (pass, s) := recover i (if rt then 65536 else 256) seq s
    if pass then placeSamples i (s.frameBreath i bs eof) eof (s.frameVals i bs) s else s

/-! ## AES67 receive (R219, R220) -/

/-- One's complement sum of 16-bit words. -/
def onesSum (bs : List Byte) : Nat :=
  let rec go : List Byte → Nat → Nat
    | a :: b :: r, n => go r (n + a.toNat * 256 + b.toNat)
    | [a], n => n + a.toNat * 256
    | [], n => n
  let n := go bs 0
  let n := n % 65536 + n / 65536
  n % 65536 + n / 65536

/-- Offsets in an IPv4 UDP packet: IP header, UDP header. -/
def ipOfs (bs : List Byte) : Nat := frEt bs + 2
def udpOfs (bs : List Byte) : Nat := ipOfs bs + 4 * (byteAt bs (ipOfs bs) % 16)
def isUdp (bs : List Byte) : Bool :=
  be16At bs (frEt bs) == 0x0800 && byteAt bs (ipOfs bs) / 16 == 4 && byteAt bs (ipOfs bs + 9) == 17

/-- Stream `i` claims an AES67 packet on port `p`; which path (R220). A fragment has no UDP header to match beyond the
first. -/
def State.rtpClaims (s : State) (p : Nat) (bs : List Byte) (i : Nat) : Option Bool :=
  let ip := ipOfs bs
  let vlan := if s.strmTagged i then frTagged bs && frVid bs == s.strmVid i else frVid bs == 0
  if (s.strmS i).live && (s.strmS i).stopB.isNone && isUdp bs && beAt bs (ip + 16) 4 == s.sw 2 i
      && be16At bs (udpOfs bs + 2) == s.sw 1 i % 65536 && (!bitOf (s.sw 0 i) 16 || beAt bs (ip + 12) 4 == s.sw 3 i) && vlan then
    if s.pathPort i false == some p then some false else if s.pathPort i true == some p then some true else none
  else none

/-- Payload of a packet that passes R219: sequence number, RTP timestamp, sample bytes. -/
def State.rtpParse (s : State) (i : Nat) (bs : List Byte) : Option (Nat × Nat × List Byte) :=
  let ip := ipOfs bs
  let u := udpOfs bs
  let ul := be16At bs (u + 4)
  let r := u + 8
  let b0 := byteAt bs r
  let pseudo := (bs.drop (ip + 12)).take 8 ++ [0, 17] ++ beBytes 2 ul
  let frag := bitOf (be16At bs (ip + 6)) 13 || be16At bs (ip + 6) % 8192 != 0
  let sumOk := onesSum ((bs.drop ip).take (u - ip)) == 65535
    && (be16At bs (u + 6) == 0 || onesSum (pseudo ++ (bs.drop u).take ul) == 65535)
  let h := r + 12 + 4 * (b0 % 16)
  let h := if bitOf b0 4 then h + 4 + 4 * be16At bs (h + 2) else h
  let fin := u + ul
  let fin := if bitOf b0 5 then fin - byteAt bs (fin - 1) else fin
  let want := s.spp i * s.strmCh i * s.encBytes i
  if frag || !sumOk || b0 / 64 != 2 || byteAt bs (r + 1) % 128 != s.sw 6 i % 128 || bs.length < u + ul || fin != h + want then none
  else some (be16At bs (r + 2), beAt bs (r + 4) 4, (bs.drop h).take want)

/-- LINK_OFS in ns (R202). -/
def State.linkNs (s : State) (i : Nat) : Nat := min 10000 (s.sw 6 i / 65536) * 1000

/-- A claimed AES67 packet on path A or B (R219, R220): its samples are held for their presentation instants (DEDUCED: log
entry 49). -/
def rtpReceive (i : Nat) (b : Bool) (bs : List Byte) (s : State) : State :=
  match s.rtpParse i bs with
  | none => s.inc (F.STRM_SCNT_COUNT 9 i)
  | some (seq, r, data) =>
    let (pass, s) := recover i 65536 seq (pathUp i b s)
    if !pass then s
    else
      let now : Int := (s.devNs : Nat)
      let rate := s.mediaRate i
      let m := ux 32 ((r : Int) - s.sw 4 i)
      let mm := mediaAt rate now + sx 32 (ux 32 ((m : Int) - mediaAt rate now))
      let pres := mediaNs rate mm + (s.linkNs i : Nat)
      if pres < now then s.inc (F.STRM_SCNT_COUNT 6 i)
      else if now + 16000000 < pres then s.inc (F.STRM_SCNT_COUNT 7 i)
      else
        let ch := s.strmCh i
        let nb := s.encBytes i
        let val := fun (j c : Nat) => sx 32 (beAt data ((j * ch + c) * nb) nb * 2 ^ (32 - 8 * nb))
        let rows := (List.range (s.spp i)).map (fun j => (mm.toNat + j, s.dev, (List.range ch).map (val j)))
        let x := s.strmS i
        s.setStrm i { x with held := x.held ++ rows.filter (fun e => !x.held.any (fun h => h.1 == e.1)) }

/-- A row of AES67 samples with media count `m` enters the converters that name the stream (R220). -/
def feedRow (i m : Nat) (vs : List Int) (s : State) : State :=
  vs.zipIdx.foldl (fun w (e : Int × Nat) => asrcFeed (aesEnd (i - 128) e.2) (some m) e.1 w) s

/-- The start of breath `n` for an AES67 receive stream: the samples whose presentation instants the start has reached enter the
converters, ramped in by the table of R212; those of a missing packet are the last sample received (R212, R220) (DEDUCED: log
entry 49). -/
def aesBreath (n i : Nat) (s : State) : State :=
  let x := s.strmS i
  if strmKind i != 2 || !x.live then s
  else
    let m1 := (mediaAt (s.mediaRate i) (((s.breathAt n) / 256 : Nat) - (s.linkNs i : Nat)) + 1).toNat
    let m0 := if x.next = 0 then m1 else x.next
    let due := (List.range (min 64 (m1 - m0))).map (fun j => m0 + j)
    let row := fun (m : Nat) => (x.held.find? (fun e => e.1 == m)).map (fun e => e.2.2)
    let off := s.modeGap || x.stopB.isSome
    let got := if due.isEmpty then x.seen else due.all (fun m => (row m).isSome)
    let zeros := (List.range (s.strmCh i)).map (fun _ => (0 : Int))
    let last := if x.last.isEmpty then zeros else x.last
    let s := due.foldl (fun u m => if (row m).isSome then u else feedRow i m last u) s
    let goal := (due.getLast?.bind row).getD last
    let (_, s) := rxMove i last (if got && !off then some goal else none) s
    let y := s.strmS i
    let k := s.get (F.STRM_DSTAT_RAMP_K i)
    let s := due.foldl (fun u m =>
      match row m with
      | some vs => feedRow i m (if off then last else if u.strmState i == ssRAMPIN then ramp32 y.level vs k else vs) u
      | none => u) s
    s.setStrm i { y with held := x.held.filter (fun e => m1 ≤ e.1), next := max m0 m1, seen := got,
                         last := if off then last else goal }

/-! ## Transmit (R204, R214, R221) -/

/-- The copies of a frame enter the queue `q` of each enabled path (R214, R221): SENT and DOWN count them. The outputs it
carries go with the first copy. -/
def sendCopies (i q : Nat) (frame : Nat → List Byte) (outs : List (Nat × Nat)) (s : State) : State :=
  ([s.pathPort i false, s.pathPort i true].foldl (fun (a : Bool × State) pp =>
    match pp with
    | none => a
    | some p =>
      if a.2.portUp p then
        (true, (enqueue p { q := q, bytes := frame p, outs := if a.1 then [] else outs } a.2).inc (F.STRM_SCNT_COUNT 0 i))
      else (a.1, a.2.inc (F.STRM_SCNT_COUNT 2 i))) (false, s)).2

/-- Audio transmission has stopped (R33, R200, R320, R322, R350) (DEDUCED: log entry 55). -/
def State.audioOff (s : State) : Bool := s.fcu.audioStopped || s.modeGap || !s.breathing

/-- Source address of a port. -/
def State.srcAddr (s : State) (p : Nat) : List Byte := beBytes 2 (s.get (F.STRM_SA_HI_SA_HI p)) ++ beBytes 4 (s.get (F.STRM_SA_LO_SA_LO p))
def State.vlanTag (s : State) (i : Nat) : List Byte :=
  if s.strmTagged i then [0x81, 0x00] ++ beBytes 2 (s.strmPcp i * 8192 + s.strmVid i) else []

/-- Start of breath `b` in whole ns, rounded up. -/
def State.breathNsUp (s : State) (b : Nat) : Nat := (s.breathAt b + 255) / 256

/-- The AVTP frame of stream `i` for breaths `b` on, on port `p` (R204, R214). -/
def State.avtpFrame (s : State) (i b p : Nat) : List Byte :=
  let n := s.spf i
  let nb := s.fmtBytes i
  let ch := s.strmCh i
  let q := (bidx b / n + s.sw 6 i % 65536) % 65536
  let word := fun (c j : Nat) => (s.outWord (64 * (i - 64) + c) (b + j)).1
  beBytes 2 (s.sw 4 i) ++ beBytes 4 (s.sw 5 i) ++ s.srcAddr p ++ s.vlanTag i
  ++ (if bitOf (s.sw 0 i) 25 then [0xF1, 0xC1, 0, 0] ++ beBytes 2 q else [])
  ++ [0x22, 0xF0, 0x02, BitVec.ofNat 8 (0x81 + 8 * s.strm.mr.toNat), BitVec.ofNat 8 q, BitVec.ofNat 8 (if s.get F.PP_STAT_STATE == 2 then 0 else 1)]
  ++ beBytes 4 (s.sw 2 i) ++ beBytes 4 (s.sw 3 i) ++ beBytes 4 (s.breathNsUp b + s.sw 7 i % 2 ^ 31)
  ++ [BitVec.ofNat 8 (fmtCode nb)] ++ beBytes 2 (nsrOf s.fs * 4096 + ch) ++ [BitVec.ofNat 8 (8 * nb)] ++ beBytes 2 (ch * n * nb) ++ [0, 0]
  ++ (List.range n).flatMap (fun j => (List.range ch).flatMap (fun c => beBytes nb (ux 32 (word c j) / 2 ^ (32 - 8 * nb))))

/-- An enabled channel of the stream has an output-map entry that names a quiet section (R299). -/
def quietStream (i : Nat) (s : State) : Bool :=
  (List.range (s.strmCh i)).any (fun c =>
    let e := s.outEntry (64 * (i - 64) + c)
    outMapped e && s.silent (bits 27 24 e))

/-- FRAME_CLOSE (R214) of transmit stream `i` (64–127): the frame of the breaths from `next` on. -/
def frameClose (i : Nat) (s : State) : State :=
  let x := s.strmS i
  let n := s.spf i
  let b := x.next
  let l := b + n - 1
  let lim := s.sw 6 i / 65536
  let formatted := (List.range (s.strmCh i)).all (fun c => (s.outWord (64 * (i - 64) + c) l).2)
  let timeUp := if lim = 0 then s.reached (l + 1) 0 else s.reached l lim
  if strmKind i != 1 || !(x.live || x.stopB.isSome) || (match x.stopB with | some e => decide (e ≤ b) | none => false)
      || s.n < l || !s.breathing || !(formatted || timeUp) || s.audioOff then s
  else
    let filled := (List.range n).any (fun j => (List.range (s.strmCh i)).any (fun c => !(s.outWord (64 * (i - 64) + c) (b + j)).2))
    let s := if filled then s.inc (F.STRM_SCNT_COUNT 1 i) else s
    let outs := (List.range (s.strmCh i)).flatMap (fun c => (List.range n).map (fun j => (64 * (i - 64) + c, b + j)))
    let s1 := s.setStrm i { x with next := b + n }
    if quietStream i s then s1 else sendCopies i 7 (fun p => s.avtpFrame i b p) outs s1
def execFrameClose (i t : Nat) (s : State) : Host.Outcome State Fault Refusal := done s (frameClose (64 + i) (s.atTime t))

/-- The breath in progress at the instant of media count `m` of a stream. -/
def State.mediaBreath (s : State) (i m : Nat) : Nat := s.unwrap (ux 48 (s.breathOf (mediaNs (s.mediaRate i) m * 256)))

/-- The output of channel `c` of an AES67 transmit stream (R221). -/
def out67 (i c : Nat) : Nat := 4608 + 8 * (i - 192) + c

/-- Formats the samples of channel `c` of an AES67 packet from media count `m` on; an unmapped output carries 0 (R111, R112, R221)
(DEDUCED: log entry 49). -/
def pullChannel (i c m0 : Nat) (s : State) : List Int × State :=
  let o := out67 i c
  let e := s.outEntry o
  (List.range (s.spp i)).foldl (fun (a : List Int × State) k =>
    let m := m0 + k
    let b := s.mediaBreath i m
    let (v, u) := asrcPull (aesEnd (i - 192) c) b a.2
    let j := ([1, 2, 3].filter (fun d => d ≤ m && s.mediaBreath i (m - d) == b)).length
    let (y, sat) := formatOut (u.seed (bits 27 24 e)) o e (4 * bidx b + j) (v.getD 0)
    (a.1 ++ [if outMapped e then y else 0], if outMapped e && sat then u.incSat F.MTX_FMTSAT_COUNT else u)) ([], s)

/-- The packet's Ethernet frame (R219, R221). -/
def State.rtpFrame (s : State) (i m0 : Nat) (data : List Byte) (p : Nat) : List Byte :=
  let rtp := [0x80, BitVec.ofNat 8 (s.sw 6 i % 128)] ++ beBytes 2 (m0 / max 1 (s.spp i)) ++ beBytes 4 (m0 + s.sw 4 i) ++ beBytes 4 (s.sw 5 i) ++ data
  let ul := 8 + rtp.length
  let udp := fun (c : Nat) => beBytes 2 (s.sw 7 i / 65536) ++ beBytes 2 (s.sw 1 i) ++ beBytes 2 ul ++ beBytes 2 c ++ rtp
  let addr := beBytes 4 (s.sw 3 i) ++ beBytes 4 (s.sw 2 i)
  let uc := 65535 - onesSum (addr ++ [0, 17] ++ beBytes 2 ul ++ udp 0)
  let ip := fun (c : Nat) => [0x45, BitVec.ofNat 8 (bits 23 18 (s.sw 1 i) * 4)] ++ beBytes 2 (20 + ul) ++ [0, 0, 0x40, 0]
    ++ beBytes 1 (bits 15 8 (s.sw 6 i)) ++ [17] ++ beBytes 2 c ++ addr
  beBytes 2 (s.sw 7 i) ++ beBytes 4 (s.sw 8 i) ++ s.srcAddr p ++ s.vlanTag i ++ [0x08, 0x00]
  ++ ip (65535 - onesSum (ip 0)) ++ udp (if uc = 0 then 65535 else uc)

/-- AES67_PACKET_SEND (R221) of transmit stream `i` (192–223): the last sample of the packet has its instant. A FOLLOW
builds the packet and discards it (DEDUCED: log entry 49). -/
def packetSend (i : Nat) (s : State) : State :=
  let x := s.strmS i
  let spp := s.spp i
  let m0 := x.next
  if strmKind i != 3 || !x.live || s.audioOff || mediaAt (s.mediaRate i) (s.devNs : Nat) < ((m0 + spp : Nat) : Int) - 1 then s
  else
    let nb := s.encBytes i
    let (rows, s) := (List.range (s.strmCh i)).foldl (fun (a : List (List Int) × State) c =>
      let (vs, u) := pullChannel i c m0 a.2
      (a.1 ++ [vs], u)) ([], s)
    let data := (List.range spp).flatMap (fun k => rows.flatMap (fun vs => beBytes nb (ux 32 (vs.getD k 0) / 2 ^ (32 - 8 * nb))))
    let s := s.setStrm i { x with next := m0 + spp }
    let outs := (List.range (s.strmCh i)).flatMap (fun c =>
      ((List.range spp).map (fun k => (out67 i c, s.mediaBreath i (m0 + k)))).eraseDups)
    if s.get F.TWIN_STAT_ROLE == 2 then s else sendCopies i 6 (s.rtpFrame i m0 data) outs s
def execAes67PacketSend (i t : Nat) (s : State) : Host.Outcome State Fault Refusal := done s (packetSend (192 + i) (s.atTime t))

/-! ## Breath starts and modes (R198, R200, R212) -/

/-- A stream returns to OFF; its paths are no longer up (R209). -/
def strmOff (i : Nat) (s : State) : State :=
  pathDown i true (pathDown i false (setStrmState i ssOFF 0 (s.setStrm i {})))

/-- First media count of a packet not before the present (R221). -/
def State.firstPacket (s : State) (i : Nat) : Nat :=
  let spp := max 1 (s.spp i)
  ((mediaAt (s.mediaRate i) (s.devNs : Nat)).toNat + spp) / spp * spp

/-- What the start of breath `n` does to a stream (R198, R212). -/
def strmBreath1 (n i : Nat) (s : State) : State :=
  let x := s.strmS i
  let rx := strmKind i = 0 || strmKind i = 2
  if rx && x.live && (x.pend || x.stopB.isSome) && s.strmState i == ssSILENT && !bitOf (s.sw 0 i) 31 then strmOff i s
  else if !x.pend then s
  else if bitOf (s.sw 0 i) 31 then
    if x.live && rx then s.setStrm i { x with pend := false, stopB := none }
    else
      let spf := s.spf i
      let nx := if strmKind i = 1 then (n + spf - 1) / spf * spf else if strmKind i = 3 then s.firstPacket i else 0
      setStrmState i (if rx then ssSILENT else ssRUN) 0
        (s.setStrm i { live := true, from_ := n, passB := n, doneB := n, next := nx })
  else if rx then
    s.setStrm i { x with pend := false, stopB := some n, held := [] }
  else setStrmState i ssOFF 0 (s.setStrm i { x with pend := false, live := false, stopB := some n })

/-- Every stream at the start of breath `n`. -/
def strmBreath (n : Nat) (s : State) : State :=
  if s.strm.st.isEmpty then s
  else showStrm ((s.strm.st.map (·.1)).foldl (fun u i => aesBreath n i (strmBreath1 n i u)) s)

/-- The first breath `n` of a run: what transmit streams send next does not lie before it (R200, R214, R221). -/
def strmResume (n : Nat) (s : State) : State :=
  (s.strm.st.map (·.1)).foldl (fun u i =>
    let x := u.strmS i
    if strmKind i = 1 && x.next < n then u.setStrm i { x with next := (n + u.spf i - 1) / u.spf i * u.spf i }
    else if strmKind i = 3 && x.live then u.setStrm i { x with next := max x.next (u.firstPacket i) }
    else u) s

/-- A stream turned off by a mode apply, with its cause (R200). -/
def strmRefuse (e i : Nat) (s : State) : State :=
  let s := strmOff i s
  ((s.set (F.STRM_DESC_WORD 0 i) (withBit (s.sw 0 i) 31 false)).set (F.STRM_DSTAT_DERR i) e).set F.STRM_STAT_BADDESC 1

/-- Breath 0 of a new mode (R200). -/
def strmNewMode (rateChanged : Bool) (s : State) : State :=
  let live := fun (u : State) (k : Nat) => (kindSids k).filter (fun i => (u.strmS i).live)
  let s := if rateChanged then (live s 0 ++ live s 1).foldl (fun u i => strmRefuse 4 i u) s else s
  let s := [0, 1, 2, 3].foldl (fun u k =>
    let cap := if k < 2 then u.mode.netCh else u.mode.aesCh
    ((live u k).foldl (fun (a : Nat × State) i =>
      let n := a.1 + a.2.strmCh i
      if cap < n then (a.1, strmRefuse 3 i a.2) else (n, a.2)) (0, u)).2) s
  let s := (live s 0 ++ live s 2).foldl (fun u i =>
    setStrmState i ssSILENT 0 (u.setStrm i { u.strmS i with takeAny := true, held := [], next := 0, seen := false, doneB := u.n, from_ := u.n, passB := u.n,
                                                            lastA := u.n, lastB := u.n })) s
  let s := (live s 1).foldl (fun u i =>
    let spf := u.spf i
    u.setStrm i { u.strmS i with next := (u.n + spf - 1) / spf * spf, from_ := u.n }) s
  showStrm s

/-! ## Gate lists (R217) -/

/-- Result codes of STRM_GCL_STAT. -/
def gclDONE : Nat := 1

/-- A write of STRM_GCL_COMMIT for port `p` (R217). -/
def wrGclCommit (p v : Nat) (s : State) : State :=
  if v / 65536 != keyA55A || !bitOf v 0 then s
  else
    let b := s.get (F.STRM_GCL_BREATH_HI_B_HI p) * 2 ^ 32 + s.get (F.STRM_GCL_BREATH_LO_B_LO p)
    let len := s.get (F.STRM_GCL_LEN_LEN p)
    let res := fun (c : Nat) => s.set (F.STRM_GCL_STAT_RESULT p) c
    if s.strm.gcl.isSome then res 2
    else if serBefore 48 b (bidx (s.n + 2)) then res 3
    else if len = 0 || 64 < len then res 4
    else { (res 0).set (F.STRM_GCL_STAT_BUSY p) 1 with strm := { s.strm with gcl := some (p, b) } }

/-- GCL_COMMIT: the write of STRM_GCL_COMMIT, for the port in STRM_GCL_PORT. -/
def execGclCommit (m v : Nat) (s : State) : Host.Outcome State Fault Refusal :=
  done s (guarded m 0x200A0110 (fun u => wrGclCommit (u.get F.STRM_GCL_PORT_PORT) v u) s)

/-- GCL_OPERATIVE (R217): the first breath start at or after B in serial order. -/
def gclOperative (s : State) : State :=
  match s.strm.gcl with
  | some (p, b) =>
    if !serAtOrAfter 48 (bidx s.n) b || !s.breathing || !s.disp.started then s
    else
      let s := (List.range 64).foldl (fun u k =>
        (u.set (F.STRM_GCL_OPER_GATES k p) (u.get (F.STRM_GCL_ADMIN_GATES k p))).set (F.STRM_GCL_OPER_INTERVAL k p)
          (u.get (F.STRM_GCL_ADMIN_INTERVAL k p))) s
      let s := { s with strm := { s.strm with gcl := none } }
      ((s.set (F.STRM_GCL_STAT_OPER_LEN p) (s.get (F.STRM_GCL_LEN_LEN p))).set (F.STRM_GCL_STAT_BUSY p) 0).set (F.STRM_GCL_STAT_RESULT p) gclDONE
  | none => s
def execGclOperative (t : Nat) (s : State) : Host.Outcome State Fault Refusal := done s (gclOperative (s.atTime t))

/-- A mode apply cancels a pending gate list (R217). -/
def cancelGcl (s : State) : State :=
  match s.strm.gcl with
  | some (p, _) => (({ s with strm := { s.strm with gcl := none } }).set (F.STRM_GCL_STAT_BUSY p) 0).set (F.STRM_GCL_STAT_RESULT p) 5
  | none => s

/-- STRM_CLR.CNT (R222). -/
def clrStrm (s : State) : State := s.resetRegs (fun a => 0x200A0060 ≤ a % 0x100000000 && a % 0x100000000 < 0x200A0088)
def execClrStreamCounters (m : Nat) (s : State) : Host.Outcome State Fault Refusal := done s (guarded m A.STRM_CLR clrStrm s)

/-- A write of a STRM register; a selected stream or port stands above bit 32 of the address. -/
def wrSTRM (a v : Nat) (s : State) : State :=
  let o := a % 0x10000
  let i := a / 0x100000000
  if 0x20 ≤ o && o < 0x44 then wrDesc ((o - 0x20) / 4) i v s
  else if o == 0x90 then (if bitOf v 0 then clrStrm s else s)
  else if o == 0x118 then (creditTick i s).writeRegPlain a v
  else if o == 0x110 then wrGclCommit i v s
  else if o == 0x104 || (0x400 ≤ o && o < 0x500) then
    if s.on (F.STRM_GCL_STAT_BUSY i) then s.set F.STRM_STAT_GCLWR 1 else s.writeRegPlain a v
  else s.writeRegPlain a v

end Sys2Proof.Machine
end

