-- ==== Sys2Proof/Machine/Transit.lean ====
section
/-!
DEFINITION. Measuring transit: contributor groups, the latest arrival, MEAS_MAX and exceedances (R49–R52).
-/
namespace Sys2Proof.Machine

/-- Arrival source keys of the members of contributor group `g`, one list per member: AVTP streams and SAP ports with
their enabled slots (R51). -/
def State.groupKeys (s : State) (g : Nat) : List (List Nat) :=
  let lo := s.get (F.DISP_GRP_AVTP_LO_STREAMS g)
  let hi := s.get (F.DISP_GRP_AVTP_HI_STREAMS g)
  let sp := s.get (F.DISP_GRP_SAP_PORTS g)
  ((List.range 64).filter (fun j => bitOf (if j < 32 then lo else hi) (j % 32))).map (fun j => [j])
  ++ ((List.range 16).filter (fun p => bitOf sp p)).map (fun p =>
    ((List.range 32).filter (fun t => bitOf (s.sapS p).rx t)).map (fun t => 4096 + 32 * p + t))

/-- The bound-table words of output `o` (R50). -/
def State.tbt0 (s : State) (o : Nat) : Nat := s.get (F.DISP_TBT_DATA0_WORD0 o)
def State.tbt1 (s : State) (o : Nat) : Nat := s.get (F.DISP_TBT_DATA1_WORD1 o)

/-- Measures the transit of output `o` for breath `b` at its egress instant, device time in 1/256 ns (R51, R52). -/
def measureTransit (o b egress : Nat) (s : State) : State :=
  let w0 := s.tbt0 o
  let w1 := s.tbt1 o
  let ms := s.groupKeys (bits 23 16 w0)
  let got := fun (k : Nat) => mget 0 (evKey b k) s.disp.arrivals
  if !bitOf w0 31 || ms.isEmpty || ms.any (fun m => m.isEmpty || m.any (fun k => got k < 2)) then s
  else
    let last := ms.flatten.foldl (fun x k => max x (got k - 2)) 0
    let tr := sx 72 (ux 72 ((egress : Int) - last))
    let ns := min 65535 (((tr + 255) / 256).toNat)
    let mx := max (bits 31 16 w1) ns
    let early := ms.flatten.any (fun k => mget false (evKey b k) s.disp.early)
    let exc := bitOf w0 30 && !early && decide (((bits 15 0 w0 * 256 : Nat) : Int) < tr - (51200 * bits 28 27 w0 : Nat))
    let n := if exc then min 65535 (w1 % 65536 + 1) else w1 % 65536
    let s := s.set (F.DISP_TBT_DATA1_WORD1 o) (mx * 65536 + n)
    if !exc then s
    else
      let s := if s.disp.excB.contains b then s
        else { s with disp := { s.disp with excB := b :: s.disp.excB } }.incSat F.DISP_EVT_COUNT_EXC
      raiseF 9 o s

/-- Measures every output a transmitted frame carries; its first preamble bit leaves at this instant (R51). -/
def measureFrame (f : TxFrame) (s : State) : State := f.outs.foldl (fun u e => measureTransit e.1 e.2 u.dev u) s

end Sys2Proof.Machine
end

