-- ==== Sys2Proof/Machine/Sap.lean ====
section
/-!
DEFINITION. Serial audio ports: formats, validation, start, frame timing, tap sequences, outputs, masks and the effects
of modes and resets (R259–R275).
-/
namespace Sys2Proof.Machine

/-! ## Enable and disable (R264) -/

/-- The cause for which the port cannot be enabled; 0 for none (R264). -/
def State.sapErr (s : State) (p : Nat) : Nat :=
  let fmt := s.get (F.SAPp_CFG_FMT p)
  let rate := s.get (F.SAPp_CFG_RATE p)
  let n := s.sapSlots p
  let nbits := n * s.sapSlotW p
  let b0 := s.get (F.SAPp_MAP_TAP_BASE p)
  let others := (List.range 16).filter (fun q => q != p && s.on (F.SAPp_CFG_EN q) && !s.sapForeign q)
  let meets := others.any (fun q => let c0 := s.get (F.SAPp_MAP_TAP_BASE q); b0 < c0 + s.sapSlots q && c0 < b0 + n)
  if (if fmt < 2 then n != 2 else n < 2) || sapMaxSlots rate < n then 1
  else if (s.sapMaster p && sapMaxSlots rate * 32 % nbits != 0) || s.sapSlotW p < s.sapWord p || fmt == 3 || 6 ≤ rate
      || s.get (F.SAPp_CFG_SLOTW p) == 3 || s.get (F.SAPp_CFG_WORD p) == 3 then 2
  else if !s.sapForeign p && (256 < b0 + n || meets) then 3
  else if s.mode.serCh < s.slotsUsed false p + s.maskCount p (s.get (F.SAPp_RXMASK_MASK p))
      || s.mode.serCh < s.slotsUsed true p + s.maskCount p (s.get (F.SAPp_TXMASK_MASK p)) then 4
  else if (if s.sapForeign p then s.sapMaster p else s.sapHz p != s.fs) then 5
  else 0

/-- EN written 1 on a port with EN = 0: validation (R264); a fenced port stays OFF (R315). -/
def sapEnable (p : Nat) (s : State) : State :=
  if s.fencedInst 15 p then s
  else
    let s := s.resetRegs (fun a => a == A.SAPp_CNT0 p || a == A.SAPp_CNT1 p || a == A.SAPp_SLIP p)
    let e := s.sapErr p
    if e != 0 then s.set (F.SAPp_STAT_DERR p) e
    else
      let s := s.set (F.SAPp_CFG_EN p) 1
      showSap (setSapState p saARMED (s.setSap p {}))

/-- EN written 0 on a port with EN = 1: its outputs drive 0, and it is OFF at the end of the frame in progress; at once where no frame
runs (R264). -/
def sapDisable (p : Nat) (s : State) : State :=
  let x := s.sapS p
  if x.frame.isNone || s.sapState p == saLOCLK then sapOff p s
  else showSap ((s.set (F.SAPp_CFG_EN p) 0).setSap p { x with closing := true, txw := [], under := [] })

/-- A write of SAPp_CFG (R264). -/
def wrSapCfg (p v : Nat) (s : State) : State :=
  if s.on (F.SAPp_CFG_EN p) then
    let keep := s.wordOf (fieldsAt (A.SAPp_CFG p))
    let mask := fun (w : Nat) => w % 2 ^ 31 / 256
    let s := if mask v != mask keep then s.set (F.SAPp_STAT_CFGWR p) 1 else s
    if bitOf v 31 then s else sapDisable p s
  else
    let s := s.writeRegPlain (A.SAPp_CFG p) (withBit (v % 2 ^ 32) 31 false)
    if bitOf v 31 then sapEnable p s else s

def execSapEnable (m p v : Nat) (s : State) : Host.Outcome State Fault Refusal :=
  done s (guarded m (A.SAPp_CFG p) (wrSapCfg p (withBit (v % 2 ^ 32) 31 true)) s)
def execSapDisable (m p v : Nat) (s : State) : Host.Outcome State Fault Refusal :=
  done s (guarded m (A.SAPp_CFG p) (wrSapCfg p (withBit (v % 2 ^ 32) 31 false)) s)

/-- The SAP_START action: the ARMED ports of `mask` start at this instant (R265). -/
def sapStart (mask : Nat) (s : State) : State :=
  (List.range 16).foldl (fun u p =>
    if bitOf mask p && u.sapState p == saARMED then u.setSap p { u.sapS p with req := some u.dev } else u) s

/-! ## Tap sequences (R212, R269) -/

/-- One breath of a slot's sequence, by the table of R212: `v` is the sample, or none where it is missing; answers what the tap
commits. -/
def seqStep (rmax : Nat) (cur : Int) (v : Option Int) (q : SeqS) : Int × SeqS :=
  let (y, a) := rxTable (max 1 rmax) ⟨q.st, q.k, q.fromK, q.repeats⟩ v.isSome
  let goal := v.getD 0
  let level := match a with | .rampLast => cur | .rampZero => 0 | _ => q.a
  let out := match a with
    | .zero => 0
    | .take => goal
    | .hold => cur
    | _ => rampVal level goal y.k 32
  (out, { q with st := y.st, k := y.k, a := level, fromK := y.fromK, repeats := y.repeats })

/-- Slot `t` of port `p`, whose first tap is `tap0`, commits for breath `b` (R263, R269). -/
def sapCommit (p tap0 t b : Nat) (v : Option Int) (s : State) : State :=
  let x := s.sapS p
  let q := mget {} t x.slots
  if b < q.doneB then s
  else
    let (y, q) := seqStep (s.get F.SAP_CFG_REPEAT_MAX) (s.tap (tap0 + t)).cur v q
    commitTap (tap0 + t) y b (s.setSap p { x with slots := mset {} t { q with doneB := b + 1 } x.slots })

/-- The mapping is lost: underrun, overrun or slip (R268). -/
def sapUnalign (p : Nat) (tooLate : Bool) (s : State) : State :=
  setSapState p saUNALIGNED (s.incSat (if tooLate then F.SAPp_CNT0_OVERRUN p else F.SAPp_CNT0_UNDERRUN p))

/-! ## Frames (R265, R271–R273) -/

/-- Serial outputs drive 0 for the whole device: no breath runs, audio transmission has stopped, or a mode apply is
between its modes (R33, R275). -/
def State.sapMute (s : State) : Bool :=
  s.fcu.audioStopped || !s.breathing || s.modeGap

/-- Output index of a serial output slot (R49). -/
def sapOut (p t : Nat) : Nat := 4096 + 32 * p + t

/-- The upper WORD bits of a formatted word (R262). -/
def State.sapTrim (s : State) (p : Nat) (y : Int) : Int := let q : Int := (2 ^ (32 - s.sapWord p) : Nat); y / q * q

/-- The output slots of the port are muted: no output word reaches them (R264, R271, R272, R275). -/
def State.sapMuted (s : State) (p : Nat) : Bool :=
  let st := s.sapState p
  s.sapMute || (s.sapS p).closing || st == saALIGNING || st == saLOCLK

/-- The enabled output slots of the frame in progress. -/
def State.sapTx (s : State) (p : Nat) : List Nat := (List.range (s.sapSlots p)).filter (fun t => bitOf (s.sapS p).tx t)

/-- A foreign port's frame begins: its output slots take what the converters give, formatted for the breath in progress; an unmapped
output carries 0; the transit of that breath is measured at the MSB (R51, R111, R263) (DESIGN CHOICE: log entry 50). -/
def sapPull (p : Nat) (s : State) : State :=
  if !s.sapForeign p then s
  else if s.sapMuted p then s.setSap p { s.sapS p with txw := [], under := [] }
  else
    let x := s.sapS p
    (s.sapTx p).foldl (fun u t =>
      let (v, u) := asrcPull (sapEnd p t) x.jB u
      let o := sapOut p t
      let e := u.outEntry o
      let (y, sat) := formatOut (u.seed (bits 27 24 e)) o e (4 * bidx x.jB + x.jN) (v.getD 0)
      let y := if outMapped e then y else 0
      let u := if outMapped e && sat then u.incSat F.MTX_FMTSAT_COUNT else u
      let z := u.sapS p
      let u := u.setSap p { z with txw := mset 0 t (u.sapTrim p y) z.txw }
      measureTransit o x.jB (ux 72 ((x.stamp : Int) + u.slotMsb p t)) u) s

/-- What the output slots of a BREATH port's frame that ends have carried: the formatted words, whose transit is measured at their
MSB, the last word again after an underrun, or 0 (R263, R265, R272). -/
def sapSend (p : Nat) (s : State) : State :=
  let x := s.sapS p
  if s.sapForeign p then s
  else if s.sapMuted p then s.setSap p { x with txw := [], under := [] }
  else match x.map, x.frame with
    | some m, some f =>
      let bf := (m + f).toNat
      let b := bf - s.get (F.SAPp_MAP_TXLAG p)
      let s := (s.sapTx p).foldl (fun u t =>
        let z := u.sapS p
        if z.under.contains t then u
        else
          let u := u.setSap p { z with txw := mset 0 t (u.sapTrim p (u.outWord (sapOut p t) b).1) z.txw }
          measureTransit (sapOut p t) b (ux 72 (u.breathAt bf + x.ofs + u.slotMsb p t)) u) s
      s.setSap p { s.sapS p with under := [] }
    | _, _ => s

/-- The epoch of a mask that applies from the frame in progress (R273). -/
def showEpoch (p : Nat) (s : State) : State :=
  let x := s.sapS p
  let b := match x.map, x.frame with | some m, some f => (m + f).toNat | _, _ => s.n
  (s.set (F.SAPp_EPOCH_FRAME_FRAME p) (x.frame.getD 0)).set (F.SAPp_EPOCH_BREATH_BREATH p) b

/-- The first frame of a port: masks as written, frame 0 (R265, R273). A slave has no mapping before its first block stamp. -/
def sapFirst (p : Nat) (map : Option Int) (s : State) : State :=
  let ofs : Int := s.sapFixedOfs p
  let masked := (s.sapS p).rxNext.isSome || (s.sapS p).txNext.isSome
  let s := s.setSap p { frame := some 0, ofs := ofs, map := map, fsAt := s.now, stamp := s.dev,
                        rx := s.get (F.SAPp_RXMASK_MASK p), tx := s.get (F.SAPp_TXMASK_MASK p), jB := s.n }
  let s := if masked then showEpoch p s else s
  sapPull p (setSapState p (if s.sapMaster p then saRUN else saALIGNING) (s.set (F.SAPp_FRAME_FRAME p) 0))

/-- SAP_FRAME_START (R265, R271): an FS edge; under HALT the balls of every port hold low (R322). `ok` tells whether
the frame it ends had the bit count of R260 (DEDUCED: log entry 50). -/
def sapFrameStart (p : Nat) (ok : Bool) (s : State) : State :=
  let x := s.sapS p
  let st := s.sapState p
  let master := s.sapMaster p
  let between := (!s.sapForeign p && s.modeGap) || s.fcu.pinsHold
  if st == saOFF || between then s
  else match x.frame with
    | none =>
      match x.req with
      | none => s
      | some d =>
        if !master then sapFirst p none s
        else
          let i : Int := s.breathAt s.n + s.sapFixedOfs p
          if s.breathing && (s.sapFixedOfs p : Int) ≤ s.since s.n && 0 ≤ sx 72 (ux 72 (i - d)) then sapFirst p (some s.n) s else s
    | some f =>
      let due := match x.map with | some m => decide (x.ofs ≤ s.since (m + (f + 1 : Nat)).toNat) | none => true
      if master && !due then s
      else if x.closing then sapOff p s
      else
        let s := sapSend p s
        let x := s.sapS p
        let b := s.n
        let bad := if ok then 0 else x.bad + 1
        let x := { x with
          frame := some (f + 1), fsAt := s.now, stamp := s.dev, stamped := false
          good := if ok then x.good + 1 else 0, bad := bad, back := x.back && bad < 2
          lone := x.lone.filter (fun c => s.n ≤ c + 8)
          jN := if x.jB == b then x.jN + 1 else 0, jB := b }
        let s := (s.setSap p x).inc (F.SAPp_FRAME_FRAME p)
        sapPull p (if ok || master then s else s.incSat (F.SAPp_CNT1_BADFRAME p))

def execSapFrameStart (p : Nat) (ok : Bool) (t : Nat) (s : State) : Host.Outcome State Fault Refusal :=
  done s (sapFrameStart p ok (s.atTime t))

/-- The frame a slot that ends now belongs to: with D = 1 the last slot ends in the next frame (R260) (DEDUCED: log
entry 50). -/
def State.slotFrame (s : State) (p t : Nat) : Option Nat :=
  match (s.sapS p).frame with
  | some f => if s.sapD p = 1 && t + 1 == s.sapSlots p then (if f = 0 then none else some (f - 1)) else some f
  | none => none

/-- A sequence state in which the last commit was a substitute, not a sample (R212). -/
def ssMissing (st : Nat) : Bool := st == ssSILENT || st == ssREPEAT || st == ssFADE

/-- SLOT_RECEIVE (R263, R265, R268, R271): input slot `t` ends, having carried the SLOTW bits `w`; `ok` tells whether its frame has the
bit count of R260, and a malformed frame is discarded. So is a sample for a breath whose substitute is committed (DEDUCED: log
entry 50). -/
def slotReceive (p t w : Nat) (ok : Bool) (s : State) : State :=
  let x := s.sapS p
  let v := s.slotValue p w
  if s.sapState p != saRUN || s.sapSlots p ≤ t then s
  else if s.sapForeign p then (if ok && bitOf x.rx t then asrcFeed (sapEnd p t) none v s else s)
  else match s.slotFrame p t, x.map with
    | some f, some m =>
      let b := (m + f).toNat
      let e := mget {} t x.slots
      let late := b + 1 == e.doneB && ssMissing e.st
      if !ok then (if x.lone.contains b then s else s.setSap p { x with lone := b :: x.lone }) else
      if s.n + 2 < b || (b < e.doneB && !late) then sapUnalign p true s
      else if late then s
      else
        let s := sapCommit p (s.sapTap0 p) t b (if bitOf x.rx t then some v else none) s
        arrive (4096 + 32 * p + t) b (some s.dev) s
    | _, _ => s
def execSlotReceive (p sl : Nat) (w : SlotWord) (t : Nat) (s : State) : Host.Outcome State Fault Refusal :=
  done s (slotReceive p sl w.w w.ok (s.atTime t))

/-- The due instant of slot `t` in breath `b` has passed (R265). -/
def State.slotDue (s : State) (p t b : Nat) : Bool :=
  let x := s.sapS p
  decide (x.ofs + (s.slotEnd p t + s.get (F.SAPp_TIMING_DUE_MARGIN p) * 256 : Nat) ≤ s.since b)

/-- SLOT_MISSING (R268, R269, R271): at its due instant slot `t` has not been written in breath `b`; a lone malformed frame is no
underrun (DEDUCED: log entry 50). -/
def slotMissing (p t b : Nat) (s : State) : State :=
  let x := s.sapS p
  let st := s.sapState p
  let on := saRUN ≤ st && !s.sapForeign p && x.map.isSome
  if !(on && s.breathing && t < s.sapSlots p && b ≤ s.n && (mget {} t x.slots).doneB ≤ b && s.slotDue p t b) then s
  else
    let s := if st == saRUN && bitOf x.rx t && !x.lone.contains b then sapUnalign p false s else s
    arrive (4096 + 32 * p + t) b none (sapCommit p (s.sapTap0 p) t b none s)
def execSlotMissing (p sl b t : Nat) (s : State) : Host.Outcome State Fault Refusal := done s (slotMissing p sl b (s.atTime t))

/-- OUTPUT_UNDERRUN (R272): at its load instant the word of output slot `t` is missing. -/
def outputUnderrun (p t : Nat) (s : State) : State :=
  let x := s.sapS p
  let st := s.sapState p
  match x.map, x.frame with
  | some m, some f =>
    let bf := (m + f).toNat
    let b := bf - s.get (F.SAPp_MAP_TXLAG p)
    let load : Int := x.ofs + s.slotMsb p t - 40 * 256
    if (st == saRUN || st == saUNALIGNED) && !s.sapMute && t < s.sapSlots p && bitOf x.tx t && !x.under.contains t
        && decide (load ≤ s.since bf) && !(s.outWord (sapOut p t) b).2
    then (s.incSat (F.SAPp_CNT1_TXUNDER p)).setSap p { x with under := t :: x.under } else s
  | _, _ => s
def execOutputUnderrun (p sl t : Nat) (s : State) : Host.Outcome State Fault Refusal := done s (outputUnderrun p sl (s.atTime t))

/-! ## Block stamps (R266–R268) -/

/-- Maps the block frame `f` of a BREATH slave to a breath, with ALIGN = AUTO latching OFS; answers the breath (R266). -/
def sapMap (p f : Nat) (s : State) : Nat × State :=
  let x := s.sapS p
  let auto := s.on (F.SAPp_TIMING_ALIGN p)
  let ofs0 : Int := s.sapFixedOfs p
  let b := s.unwrap (ux 48 (s.nearestBreath (if auto then (x.stamp : Int) else x.stamp - ofs0)))
  let ofs := if auto then sx 72 (ux 72 ((x.stamp : Int) - s.breathAt b)) else ofs0
  (b, s.setSap p { x with ofs := ofs, map := some ((b : Int) - f) })

/-- PHASE of the block for breath `b` (R266). -/
def State.sapPhase (s : State) (p b : Nat) : Int := sx 72 (ux 72 (((s.sapS p).stamp : Int) - (s.sapS p).ofs - s.breathAt b))

/-- BLOCK_STAMP (R266–R268): the stamp of a block frame. `rateOk` tells whether the measured frame rate lies within
±1,000 ppm of RATE. -/
def blockStamp (p : Nat) (rateOk : Bool) (s : State) : State :=
  let x := s.sapS p
  let st := s.sapState p
  match x.frame with
  | none => s
  | some f =>
    if f % s.sapBlock p != 0 || x.stamped then s
    else
      let s := s.setSap p { x with stamped := true }
      let s := (s.set (F.SAPp_BLK_TS_LO_NS p) (x.stamp / 256)).set (F.SAPp_BLK_TS_HI_NS p) (x.stamp / 256 / 2 ^ 32)
      let phase := fun (b : Nat) (u : State) => u.set (F.SAPp_PHASE_PHASE p) (ux 32 (u.sapPhase p b))
      if st == saLOCLK && !x.back then s
      else if s.sapMaster p then (match x.map with | some m => phase (m + f).toNat s | none => s)
      else if s.sapForeign p then (if st == saRUN then s else setSapState p saRUN (s.setSap p { s.sapS p with back := false }))
      else if st == saALIGNING then
        if !rateOk then s.incSat (F.SAPp_CNT1_BADFRAME p)
        else
          let (b, s) := sapMap p f s
          phase b (setSapState p saRUN s)
      else if st == saUNALIGNED || st == saLOCLK then
        let (b, s) := sapMap p f (s.setSap p { s.sapS p with back := false })
        let d := match x.map with | some m => (b : Int) - f - m | none => 0
        let s := ((s.set (F.SAPp_REPAIR_BREATH p) b).set (F.SAPp_SLIP_SLIP p) (ux 16 d)).incSat (F.SAPp_SLIP_REPAIRS p)
        phase b (setSapState p saRUN ((s.set (F.SAPp_STAT_REPAIRED p) 1).setBit F.SAP_EVT_REPAIR p true))
      else match x.map with
        | none => s
        | some m =>
          let b := s.unwrap (ux 48 (s.nearestBreath (x.stamp - x.ofs)))
          let s := phase b s
          let slip := decide (s.period < 4 * (s.sapPhase p b).natAbs) || (b : Int) != m + f
          if slip then sapUnalign p false s else s
def execBlockStamp (p : Nat) (rateOk : Bool) (t : Nat) (s : State) : Host.Outcome State Fault Refusal :=
  done s (blockStamp p rateOk (s.atTime t))

/-- CLOCK_RECOVERED (R270): after 16 well-formed frames in a row the next block stamp maps the port afresh and ends LOCLK. -/
def clockRecovered (p : Nat) (s : State) : State :=
  if s.sapState p == saLOCLK && 16 ≤ (s.sapS p).good then s.setSap p { s.sapS p with back := true } else s
def execClockRecovered (p t : Nat) (s : State) : Host.Outcome State Fault Refusal := done s (clockRecovered p (s.atTime t))

/-! ## Masks (R273) and the cable loop (R274) -/

/-- A write of RXMASK or TXMASK (R273). -/
def wrMask (p : Nat) (tx : Bool) (v : Nat) (s : State) : State :=
  let fd := if tx then F.SAPp_TXMASK_MASK p else F.SAPp_RXMASK_MASK p
  if s.on (F.SAPp_CFG_EN p) && s.mode.serCh < s.slotsUsed tx p + s.maskCount p (v % 2 ^ 32) then s.set (F.SAPp_STAT_MASKREJ p) 1
  else
    let s := s.set fd v
    let x := s.sapS p
    let s := if !s.on (F.SAPp_CFG_EN p) then s
      else s.setSap p (if tx then { x with txNext := some (v % 2 ^ 32, s.now) } else { x with rxNext := some (v % 2 ^ 32, s.now) })
    showSap s
def execMaskWrite (m p : Nat) (tx : Bool) (v : Nat) (s : State) : Host.Outcome State Fault Refusal :=
  done s (guarded m (if tx then A.SAPp_TXMASK p else A.SAPp_RXMASK p) (wrMask p tx v) s)

/-- The slot sequences under a new receive mask: a new bit ramps in from 0, a cleared one fades (R273). -/
def remaskSlots (tap0 old new : Nat) (s : State) (m : SMap SeqS) : SMap SeqS :=
  (List.range 32).foldl (fun q t =>
    let e := mget {} t q
    if bitOf new t && !bitOf old t then mset {} t { e with st := ssSILENT, k := 0 } q
    else if bitOf old t && !bitOf new t && e.st != ssSILENT then
      mset {} t { e with st := ssFADE, k := 0, a := (s.tap (tap0 + t)).cur } q
    else q) m

/-- MASK_EPOCH (R273): the frame in progress is the first that began after the mask arrived. -/
def maskEpoch (p : Nat) (s : State) : State :=
  let x := s.sapS p
  let arrived := fun (w : Option (Nat × Nat)) => match w with | some (v, at_) => if at_ < x.fsAt then some v else none | none => none
  let r := arrived x.rxNext
  let w := arrived x.txNext
  if x.frame.isNone || (s.sapState p == saLOCLK && !x.back) || (r.isNone && w.isNone) then s
  else
    let y := match r with
      | some v => { x with rx := v, rxNext := none, slots := remaskSlots (s.sapTap0 p) x.rx v s x.slots }
      | none => x
    let y := match w with
      | some v => { y with tx := v, txNext := none, txw := mkeep (fun t => bitOf v t) y.txw }
      | none => y
    showEpoch p (s.setSap p y)
def execMaskEpoch (p t : Nat) (s : State) : Host.Outcome State Fault Refusal := done s (maskEpoch p (s.atTime t))

/-- CABLE_MEASURE (R274): once in 100 ms, the mean of 1,024 round trips, in 1/256 ns. -/
def cableMeasure (p rtt : Nat) (s : State) : State :=
  let x := s.sapS p
  if s.on (F.SAPp_CABLE_CFG_MEAS_EN p) && s.on (F.SAPp_CFG_EN p) && s.sapMaster p && (x.cableAt == 0 || x.cableAt - 1 + 100 * uMs ≤ s.now)
  then ((s.setSap p { x with cableAt := s.now + 1 }).set (F.SAPp_CABLE_STAT_RTT p) rtt).set (F.SAPp_CABLE_STAT_VALID p) 1 else s
def execCableMeasure (p rtt t : Nat) (s : State) : Host.Outcome State Fault Refusal := done s (cableMeasure p rtt (s.atTime t))

/-! ## Modes, defaults and resets (R29, R275) -/

/-- Breath 0 of a new mode: started BREATH ports of the new rate start again without a trigger, the others of another rate
return to OFF (R275). -/
def sapNewMode (s : State) : State :=
  (List.range 16).foldl (fun u p =>
    if !u.on (F.SAPp_CFG_EN p) || u.sapForeign p then u
    else if u.sapHz p != u.fs then (sapOff p u).set (F.SAPp_STAT_DERR p) 5
    else if saALIGNING ≤ u.sapState p then setSapState p saARMED (u.setSap p { req := some u.dev })
    else u) s

/-- Serial-input taps that a port commits itself in this state: it has a mapping (R267, R269). -/
def State.sapOwns (s : State) (t : Nat) : Bool :=
  (List.range 16).any (fun p => saRUN ≤ s.sapState p && !s.sapForeign p && (s.sapS p).map.isSome
    && s.sapTap0 p ≤ t && t < s.sapTap0 p + s.sapSlots p)

/-- Serial-input taps of ports that a unit reset has turned off follow the missing-sample rules (R29); the other taps no
port commits are 0 (R264, R267). -/
def sapDefaults (b : Nat) (s : State) : State :=
  let s := (s.sap.filterMap (fun e => e.2.orphan.map (fun t0 => (e.1, t0, e.2.slots.map (·.1))))).foldl (fun u e =>
    e.2.2.foldl (fun w t => sapCommit e.1 e.2.1 t b none w) u) s
  ((List.range 256).map (0x0C00 + ·)).foldl (fun u t => if u.sapOwns t || u.committed t b then u else commitTap t 0 b u) s

/-- Unit reset of SAP: registers and ports; the taps in use fade (R29). -/
def resetSap (s : State) : State :=
  let keep := s.sap.filterMap (fun e =>
    let q := e.2.slots.filter (fun r => r.2.st != ssSILENT)
    if q.isEmpty || s.sapForeign e.1 then none else some (e.1, ({ orphan := some (s.sapTap0 e.1), slots := q } : SapS)))
  { s.resetRegs (inBlock 17) with sap := keep }

/-- A write of a SAP register (R264, R273, R284). -/
def wrSAP (a v : Nat) (s : State) : State :=
  let o := a % 0x10000
  let p := (o - 0x100) / 0x40
  let q := o % 0x40
  if 0x100 ≤ o && o < 0x500 then
    if q == 0 then wrSapCfg p v s
    else if (q == 4 || q == 8) && s.on (F.SAPp_CFG_EN p) then s.set (F.SAPp_STAT_CFGWR p) 1
    else if q == 0xC || q == 0x10 then wrMask p (q == 0x10) v s
    else s.writeRegPlain a v
  else s.writeRegPlain a v

end Sys2Proof.Machine
end

