-- ==== Sys2Proof/Machine/Bsi.lean ====
section
/-!
DEFINITION. Bitstream inputs: decimation, start, fill and ramp-in, commits, detectors, the DC blocker (R276–R285).
-/
namespace Sys2Proof.Machine

def State.bsiSense (s : State) (c : Nat) : Bool := s.on (F.BSIc_CFG_CLASS c)
def State.bsiPreset (s : State) (c : Nat) : Nat := s.get (F.BSIc_CFG_PRESET c)

/-- Input rate of the channel's group in Hz (R276). -/
def State.bsiHz (s : State) (c : Nat) : Nat := if s.bit F.BSI_CTRL_CLK_FAST (c / 8) then 12288000 else 6144000

/-- CIC order, log2 of its factor, the further factor of 2, and FILL, by preset (R277). -/
def cicN (p : Nat) : Nat := match p with | 0 => 3 | 1 => 4 | _ => 5
def cicLog (p : Nat) : Nat := match p with | 0 => 4 | 1 => 5 | _ => 6
def bsiFill (p : Nat) : Nat := match p with | 0 => 3 | 1 => 4 | 2 => 36 | _ => 41

/-- Output rate of a channel (R277). -/
def State.bsiFo (s : State) (c : Nat) : Nat :=
  s.bsiHz c / 2 ^ cicLog (s.bsiPreset c) / (if s.bsiPreset c == 3 then 2 else 1)

/-! ## Decimation (R278) -/

/-- Integrators: each adds the one before it, modulo 2^w. -/
def integrate (w : Nat) : Int → List Int → List Int
  | _, [] => []
  | x, i :: r => let y := sx w (ux w (i + x)); y :: integrate w y r

/-- Combs with a differential delay of 1: the output and the new delays. -/
def combs (w : Nat) : Int → List Int → Int × List Int
  | x, [] => (x, [])
  | x, d :: r => let (y, ds) := combs w (sx w (ux w (x - d))) r; (y, x :: ds)

/-- A linear-phase FIR over the newest inputs, rounded to Q1.31. -/
def firOut (h : Nat → BitVec 32) (xs : List Int) : Int :=
  sx 32 (accRound (xs.zipIdx.foldl (fun a (e : Int × Nat) => a + (h e.2).toInt * e.1) 0)).val

/-- ALPHA of the DC blocker (R282). -/
def State.bsiAlpha (s : State) (c : Nat) : Nat :=
  max 5 (min 200 (s.get (F.BSIc_COEF0_PREL_CORNER c) % 256)) * 2 ^ 31 * 62832 / (100000 * max 1 (s.bsiFo c))

/-- One output sample of the channel: the DC blocker of a SENSE channel, FREEZE or a measurement taking
effect with it (R282, R394). -/
def bsiOutput (c : Nat) (x : Int) (s : State) : State :=
  let q := s.bsiS c
  if !s.bsiSense c then s.setBsi c { q with made := q.made + 1, out := x }
  else
    let fz := s.on (F.BSIc_CFG_FREEZE c) || s.survFreezes c
    let m := if fz then q.m else q.m + (s.bsiAlpha c : Int) * (x * 2 ^ 32 - q.m) / 2 ^ 31
    let y := satS 32 (x - roundAway m (2 ^ 32))
    let s := (s.set (F.BSIc_STAT_FROZEN c) fz.toNat).set (F.BSIc_ALPHA_ALPHA c) (s.bsiAlpha c)
    (s.set (F.BSIc_DCEST_M c) (ux 32 (roundAway m (2 ^ 32)))).setBsi c { q with made := q.made + 1, out := y, m := m }

/-- A CIC output enters the further stages of the preset (R277, R278). -/
def bsiStage (c : Nat) (v : Int) (s : State) : State :=
  let p := s.bsiPreset c
  if p < 2 then bsiOutput c v s
  else
    let q := s.bsiS c
    let comp := (v :: q.comp).take 31
    let y := firOut Config.bsiComp comp
    if p = 2 then bsiOutput c y (s.setBsi c { q with comp := comp })
    else
      let half := (y :: q.half).take 47
      let s := s.setBsi c { q with comp := comp, half := half, halfN := q.halfN + 1 }
      if (q.halfN + 1) % 2 == 0 then bsiOutput c (firOut Config.bsiHalf half) s else s

/-- One input bit (R276, R278). One bit above the width of R278 tells +1.0, which saturates, from -1.0 (DEDUCED: log
entry 50). -/
def bsiBit (c : Nat) (s : State) (one : Bool) : State :=
  let p := s.bsiPreset c
  let n := cicN p
  let w := n * cicLog p + 2
  let q := s.bsiS c
  let x : Int := if one != s.on (F.BSIc_CFG_INV c) then 1 else -1
  let i := integrate w x (if q.integ.isEmpty then List.replicate n 0 else q.integ)
  if (q.bits + 1) % 2 ^ cicLog p != 0 then s.setBsi c { q with integ := i, bits := q.bits + 1 }
  else
    let (v, d) := combs w (i.getLastD 0) (if q.comb.isEmpty then List.replicate n 0 else q.comb)
    bsiStage c (satS 32 (v * 2 ^ (31 - n * cicLog p))) (s.setBsi c { q with integ := i, comb := d, bits := 0 })

/-! ## Enable, start, states (R278, R279) -/

/-- A PROGRAM channel's preset gives the breath rate (R279). -/
def State.bsiRateOk (s : State) (c : Nat) : Bool :=
  s.bsiSense c || (1 ≤ s.bsiPreset c && s.bsiFo c == s.fs)

/-- A change of class: what only the other class shows reads 0 (R285). -/
def newClass (c : Nat) (s : State) : State :=
  let fs := [F.BSIc_PEAK_P c, F.BSIc_RMS_R c, F.BSIc_ENV_E c, F.BSIc_MS_MS c, F.BSIc_DCEST_M c, F.BSIc_ALPHA_ALPHA c]
  fs.foldl (fun u f => u.set f 0) s

/-- A write of BSIc_CFG (R279, R285). -/
def wrBsiCfg (c v : Nat) (s : State) : State :=
  let a := A.BSIc_CFG c
  if s.on (F.BSIc_CFG_EN c) then
    let other := fun (w : Nat) => bits 30 27 w * 16 + bits 19 16 w
    let s := if other v != other (s.wordOf (fieldsAt a)) then s.set (F.BSIc_STAT_CFGWR c) 1 else s
    let s := s.set (F.BSIc_CFG_FREEZE c) (bits 26 26 v)
    if bitOf v 31 then s else bsiOff c s
  else
    let s := if bitOf v 30 == s.on (F.BSIc_CFG_CLASS c) then s else newClass c s
    let s := s.writeRegPlain a (withBit (v % 2 ^ 32) 31 false)
    if !bitOf v 31 || s.fencedInst 16 c then s
    else if !s.bsiRateOk c then s.set (F.BSIc_STAT_CFGERR c) 1
    else setBsiState c bsARMED (((s.set (F.BSIc_CFG_EN c) 1).set (F.BSIc_STAT_CFGERR c) 0).setBsi c {})

def execBsiEnable (m c v : Nat) (s : State) : Host.Outcome State Fault Refusal :=
  done s (guarded m (A.BSIc_CFG c) (wrBsiCfg c (withBit (v % 2 ^ 32) 31 true)) s)
def execBsiDisable (m c v : Nat) (s : State) : Host.Outcome State Fault Refusal :=
  done s (guarded m (A.BSIc_CFG c) (wrBsiCfg c (withBit (v % 2 ^ 32) 31 false)) s)
/-- FREEZE_WRITE (R282): a write of the channel's CFG; FREEZE acts from the next output sample. -/
def execFreezeWrite (m c v : Nat) (s : State) : Host.Outcome State Fault Refusal :=
  done s (guarded m (A.BSIc_CFG c) (wrBsiCfg c v) s)

/-- Clears the filters of an enabled channel and starts it at the first breath instant from now on (R278, R281, R282). -/
def bsiStart1 (c : Nat) (s : State) : State :=
  let s := s.resetRegs (fun a => 0x20 ≤ a % 0x40 && a - a % 0x40 == A.BSIc_CFG c)
  setBsiState c bsFILL (s.setBsi c { start := some s.dev })

/-- The BSI_START action on the channels of `mask` (R254, R278). -/
def bsiStart (mask : Nat) (s : State) : State :=
  (List.range 32).foldl (fun u c => if bitOf mask c && u.on (F.BSIc_CFG_EN c) then bsiStart1 c u else u) s

/-- BSI_FILL_DONE (R278). -/
def bsiFillDone (c : Nat) (s : State) : State :=
  if s.bsiState c == bsFILL && bsiFill (s.bsiPreset c) ≤ (s.bsiS c).made then
    setBsiState c bsRAMPIN (s.setBsi c { s.bsiS c with rampK := 0 })
  else s
def execBsiFillDone (c t : Nat) (s : State) : Host.Outcome State Fault Refusal := done s (bsiFillDone c (s.atTime t))

/-- BSI_RAMPIN_END (R278). -/
def bsiRampinEnd (c : Nat) (s : State) : State :=
  if s.bsiState c == bsRAMPIN && 32 ≤ (s.bsiS c).rampK then setBsiState c bsRUN s else s
def execBsiRampinEnd (c t : Nat) (s : State) : Host.Outcome State Fault Refusal := done s (bsiRampinEnd c (s.atTime t))

/-! ## Detectors and commits (R280, R281) -/

/-- Integer square root of a number below 2^64. -/
def isqrt (n : Nat) : Nat := (List.range 32).reverse.foldl (fun r i => if (r + 2 ^ i) * (r + 2 ^ i) ≤ n then r + 2 ^ i else r) 0

/-- The detectors of a PROGRAM channel take the committed value `x` (R281). -/
def bsiDetect (c : Nat) (x : Int) (s : State) : State :=
  let q := s.bsiS c
  let top : Int := 2 ^ 31 - 1
  let co := fun (f : Fd) => sx 32 (s.get f)
  let a : Int := min x.natAbs top
  let (p, h) := if q.p ≤ a then (a, s.get (F.BSIc_HOLD_HOLD c))
    else if 0 < q.h then (q.p, q.h - 1)
    else (q.p + (-(q.p * co (F.BSIc_COEF0_PREL_CORNER c))) / 2 ^ 31, 0)
  let sq := min (x * x / 2 ^ 31) top
  let ms := q.ms + co (F.BSIc_COEF1_ARMS c) * (sq - q.ms) / 2 ^ 31
  let k := if q.e < a then co (F.BSIc_COEF2_EATT c) else co (F.BSIc_COEF3_EREL c)
  let e := q.e + k * (a - q.e) / 2 ^ 31
  let s := s.setBsi c { q with p := p, h := h, ms := ms, e := e }
  (((s.set (F.BSIc_PEAK_P c) (ux 32 p)).set (F.BSIc_RMS_R c) (isqrt (ms * 2 ^ 31).toNat)).set (F.BSIc_ENV_E c) (ux 32 e)).set
    (F.BSIc_MS_MS c) (ux 32 ms)

def bsiTap (c : Nat) : Nat := 0x0D00 + c

/-- BSI_COMMIT (R278, R280): the bits sampled since the last commit are decimated, and at I(b) + 120 ns the tap commits;
there are none while the group's clock does not run or is held low under HALT (R322) (DESIGN CHOICE: log entry 51). -/
def bsiCommit (c : Nat) (ones : List Bool) (s : State) : State :=
  let st := s.bsiState c
  let from_ := match (s.bsiS c).start with | some d => decide (0 ≤ sx 72 (ux 72 ((s.breathAt s.n : Int) - d))) | none => false
  if !(bsFILL ≤ st && s.breathing && from_ && s.reached s.n 120 && !s.committed (bsiTap c) s.n) then s
  else
    let clocked := s.bit F.BSI_CTRL_CLK_EN (c / 8) && !s.fcu.pinsHold
    let s := (if clocked then ones else []).foldl (bsiBit c) s
    let q := s.bsiS c
    let k := q.rampK + 1
    let x := if st == bsFILL then 0 else if st == bsRAMPIN && k < 32 then rampVal 0 q.out k 32 else q.out
    let s := if st == bsRAMPIN then s.setBsi c { q with rampK := k } else s
    let s := if s.bsiSense c then s else bsiDetect c x s
    arrive (8192 + c) s.n (some s.dev) (commitTap (bsiTap c) x s.n s)
def execBsiCommit (c : Nat) (ones : List Bool) (t : Nat) (s : State) : Host.Outcome State Fault Refusal :=
  done s (bsiCommit c ones (s.atTime t))

/-- BSI_OVERLOAD (R276): `ones` of the `total` bits of a millisecond were 1. -/
def bsiOverload (c ones total : Nat) (s : State) : State :=
  if bsFILL ≤ s.bsiState c && total * 1000 == s.bsiHz c && (ones * 100 < 5 * total || 95 * total < ones * 100) then
    raiseF 74 c ((s.set (F.BSIc_STAT_OVLD c) 1).setBit F.BSI_EVT_OVLD c true)
  else s
def execBsiOverload (c ones total t : Nat) (s : State) : Host.Outcome State Fault Refusal :=
  done s (bsiOverload c ones total (s.atTime t))

/-! ## Modes, defaults, resets (R29, R283) -/

/-- Breath 0 of a new mode (R283). -/
def bsiNewMode (s : State) : State :=
  (List.range 32).foldl (fun u c =>
    if !u.on (F.BSIc_CFG_EN c) then u
    else if !u.bsiRateOk c then (bsiOff c u).set (F.BSIc_STAT_CFGERR c) 1
    else if bsFILL ≤ u.bsiState c then bsiStart1 c u else u) s

/-- The tap of a channel that does not run commits 0; after a unit reset it repeats and then ramps to zero (R29,
R278) (DESIGN CHOICE: log entry 51). -/
def bsiDefault (b : Nat) (s : State) (c : Nat) : State :=
  let q := s.bsiS c
  if bsFILL ≤ s.bsiState c || s.committed (bsiTap c) b then s
  else match q.orphan with
    | none => commitTap (bsiTap c) 0 b s
    | some 0 =>
      let k := q.rampK + 1
      commitTap (bsiTap c) (rampVal q.out 0 k 32) b (s.setBsi c (if k = 32 then {} else { q with rampK := k }))
    | some (r + 1) => commitTap (bsiTap c) q.out b (s.setBsi c { q with orphan := some r })
def bsiDefaults (b : Nat) (s : State) : State := (List.range 32).foldl (bsiDefault b) s

/-- Unit reset of BSI: the running taps repeat their last sample, for a number of breaths the spec does not give, and
then ramp to zero (R29) (DESIGN CHOICE: log entry 51). -/
def resetBsi (s : State) : State :=
  let ks := (List.range 32).filter (fun c => bsFILL ≤ s.bsiState c)
  let (r, s) := s.draw
  let lv := ks.map (fun c => (c, (s.tap (bsiTap c)).cur))
  let s := { s.resetRegs (inBlock 18) with bsi := [] }
  lv.foldl (fun u e => u.setBsi e.1 { orphan := some (r + 1), out := e.2 }) s

/-- A write of a BSI register (R285); CLK_FAST of a group is taken only while its CLK_EN is 0. -/
def wrBSI (a v : Nat) (s : State) : State :=
  let o := a % 0x10000
  if o == 0 then
    let en := s.get F.BSI_CTRL_CLK_EN
    let fast := [0, 1, 2, 3].foldl (fun w g => if bitOf en g then w else withBit w g (bitOf v g)) (s.get F.BSI_CTRL_CLK_FAST)
    (s.set F.BSI_CTRL_CLK_FAST fast).set F.BSI_CTRL_CLK_EN (bits 7 4 v)
  else if 0x100 ≤ o && o < 0x900 && o % 0x40 == 0 then wrBsiCfg ((o - 0x100) / 0x40) v s
  else s.writeRegPlain a v

end Sys2Proof.Machine
end

