-- ==== Sys2Proof/Machine/Dly.lean ====
section
/-!
DEFINITION. Delay lines, their changes and block gathering, DMA start and abort, and the arbiter (R124–R147).
-/
namespace Sys2Proof.Machine

/-! ## Deliveries (R128, R129, R133) -/

/-- The sample of a line for breath `b` under delay `d`: none where its read block has not arrived, 0 before the
history (R128–R131). -/
def State.lineRead (s : State) (j d : Nat) (old : Bool) (b : Nat) : Option Int :=
  let x := s.lineS j
  match x.hist with
  | none => some 0
  | some h =>
    if b < h + d then some 0
    else
      let q := b - d
      if s.lineDram j then
        match x.rd.find? (fun e => e.1 == b / 16 && e.2.1 == old) with
        | some e => some (e.2.2.getD (b % 16) 0)
        | none => none
      else some (sx 32 (s.word (poolBase + 4 * (s.lineBase j + bidx q % (s.lineDmax j + 1)))))

/-- The breath whose delivery line `j` makes now: the first that is outstanding and due, of the breath in progress and the two
before it, which a sample that commits late still serves (R128). -/
def State.deliveryB (s : State) (j : Nat) : Option Nat :=
  let x := s.lineS j
  [s.n - 2, s.n - 1, s.n].find? (fun b =>
    x.delivered < b + 1 && s.lineDue j b
    && (b == s.n || (s.disp.first ≤ b && x.delivered != 0 && (match x.hist with | some h => h ≤ b | none => false))))

/-- A read of samples of line `j` met an uncorrectable error (R135). -/
def lineUe (j : Nat) (s : State) : State := dlyEcc .ue j ((s.set F.DLY_UELINE_VALID 1).set F.DLY_UELINE_LINE j)

/-- What a delivery's own read meets: an uncorrectable word gives the line's last delivered sample (R135). -/
def deliverEcc (j : Nat) (e : Ecc) (s : State) : State := if e == .ue then lineUe j s else dlyEcc e j s

/-- DELAY_DELIVERY (R124, R128, R131, R133, R135) of line `j`; `e` is what error correction meets on its read. -/
def deliver (j : Nat) (e : Ecc) (s : State) : State :=
  let x := s.lineS j
  match s.deliveryB j with
  | none => s
  | some b =>
    if !s.breathing || !s.lineRuns j then s
    else
      let new := (s.lineRead j (s.lineDelay j) false b).getD x.last
      let v := if e == .ue then x.last else match x.xf with
        | some (o, b0) =>
          if b0 ≤ b && b < b0 + 64 then rampVal ((s.lineRead j o true b).getD x.last) new (b - b0 + 1) 64 else new
        | none => new
      let lc := bits 31 25 (s.lineW 1 j)
      let p := s.physOf lc
      let s := deliverEcc j e (s.setLine j { x with last := v, delivered := b + 1 })
      let s := if s.logsCore lc then logDelivery j b v s else s
      if 136 ≤ p || s.suspendedCore lc then s else extWrite p (xBase p + 4 * (bits 12 0 (s.lineW 2 j) + b % 2)) (leBytes 4 (ux 32 v)) s

def execDelayDelivery (j : EccWord) (t : Nat) (s : State) : Host.Outcome State Fault Refusal := done s (deliver j.v j.e (s.atTime t))

/-- Restarts the history of the lines that satisfy `p` (R129). -/
def restartHistory (p : Nat → Bool) (s : State) : State :=
  let ls := s.dly.lines.map (fun e => if p e.1 then (e.1, { e.2 with hist := none, rd := [] }) else e)
  { s with dly := { s.dly with lines := ls.filter (fun e => e.2 != {}) } }

/-! ## Block gathering (R130, R131) -/

/-- Slots of the ring of a DRAM line (R126). -/
def State.lineSlots (s : State) (j : Nat) : Nat := (s.lineDmax j + 15) / 16 + 1
/-- Address of the sample of breath `q` in the ring of a DRAM line (R130). -/
def State.dramAt (s : State) (j q : Nat) : Nat := dramBase + 64 * (s.lineBase j + bidx q / 16 % s.lineSlots j) + 4 * (q % 16)

/-- Queued changes of a line that take effect by breath `b`, in order of posting (R132). -/
def State.changesBy (s : State) (j b : Nat) : List Chg := s.dly.chg.filter (fun c => c.line == j && serAtOrAfter 48 (bidx b) c.b)

/-- The delays the read block of breath `b` is fetched for: that in force, and the old one of a crossfade (R130, R133). -/
def State.fetchDelays (s : State) (j b : Nat) : Nat × Option Nat :=
  let x := s.lineS j
  let now := match x.xf with | some (o, b0) => if b < b0 + 64 then some o else none | none => none
  (s.changesBy j b).foldl (fun a c => (c.delay, if c.xfade then some a.1 else none)) (s.lineDelay j, now)

/-- The section of a line holds a voice image and runs, or is stopped for a commit (R127). -/
def State.lineHeld (s : State) (j : Nat) : Bool :=
  let st := s.secState (s.lineSec j)
  s.lineValid j && st != secEMPTY && st != secMISMATCH

/-- Block moves that serve a descriptor no longer in force are dropped (DEDUCED: log entry 18). -/
def dropJobs (p : DlyJob → Bool) (s : State) : State := { s with dly := { s.dly with jobs := s.dly.jobs.filter (fun q => !p q) } }

/-- DELAY_FETCH_ISSUE (R130): at breath 16k − 8 the fetch of read block k is issued. -/
def fetchIssue (j : Nat) (s : State) : State :=
  let k := (s.n + 8) / 16
  if !s.breathing || !s.lineHeld j || !s.lineDram j || s.n % 16 != 8 then s
  else
    let (d, o) := s.fetchDelays j (16 * k)
    let jobs := { line := j, flush := false, block := k, delay := d } ::
      (match o with | some e => [{ line := j, flush := false, block := k, old := true, delay := e }] | none => [])
    let fresh := jobs.filter (fun (q : DlyJob) => !s.dly.jobs.any (fun r => r.line == j && !r.flush && r.block == k && r.old == q.old)
      && !(s.lineS j).rd.any (fun r => r.1 == k && r.2.1 == q.old))
    { s with dly := { s.dly with jobs := s.dly.jobs ++ fresh } }

def execDelayFetchIssue (j t : Nat) (s : State) : Host.Outcome State Fault Refusal := done s (fetchIssue j (s.atTime t))

/-- DELAY_LATE (R131): a flush or fetch of line `j` has missed its deadline. -/
def execDelayLate (j : Nat) (flush : Bool) (k t : Nat) (s : State) : Host.Outcome State Fault Refusal :=
  let s1 := s.atTime t
  let hit := fun (q : DlyJob) => q.line == j && q.flush == flush && q.block == k && !q.late
  if s1.dly.jobs.any hit && (if flush then 16 * k + 24 else 16 * k) ≤ s1.n then
    let s2 := { s1 with dly := { s1.dly with jobs := s1.dly.jobs.map (fun q => if hit q then { q with late := true } else q) } }
    done s (raiseF 24 j (s2.incSat (if flush then F.DLY_LATE_FLUSH else F.DLY_LATE_FETCH)))
  else done s s1

/-- A flush completes: its block is in DRAM (R130). -/
def endFlush (q : DlyJob) (s : State) : State := s.setBytes (s.dramAt q.line (16 * q.block)) q.data

/-- A fetch completes: its 16 samples are in staging; those of a failing 64-bit word repeat the last delivered sample
(R130, R135) (PRESUMED: log entry 18). -/
def endFetch (q : DlyJob) (s : State) : State :=
  let x := s.lineS q.line
  let vals := (List.range 16).map (fun i =>
    let b := 16 * q.block + i
    if b < q.delay then 0
    else
      let a := s.dramAt q.line (b - q.delay)
      if q.ue.contains (a / 8 * 8) then x.last else sx 32 (s.word a))
  let s := if q.old then s else
    s.setBytes (lineStage q.line + 128 + 64 * (q.block % 2)) (vals.flatMap (fun v => leBytes 4 (ux 32 v)))
  let keep := x.rd.filter (fun r => q.block ≤ r.1 + 1)
  s.setLine q.line { x with rd := keep ++ [(q.block, q.old, vals)] }

/-! ## Changes (R132, R133) -/

def showChg (s : State) : State := s.set F.DLY_CHG_STAT_PENDING s.dly.chg.length

/-- A write of DLY_CHG_POST (R132). -/
def wrChgPost (v : Nat) (s : State) : State :=
  if v / 65536 != keyA55A || !bitOf v 0 then s
  else
    let j := s.get F.DLY_CHG_LINE_LINE
    let d := s.get F.DLY_CHG_DELAY_DELAY
    let b := s.get F.DLY_CHG_BREATH_HI_B_HI * 2 ^ 32 + s.get F.DLY_CHG_BREATH_LO_B_LO
    let dram := s.lineDram j
    let inFade := fun (b0 : Nat) => serAtOrAfter 48 b b0 && serAfter 48 (b0 + 64) b
    let res := fun (c : Nat) => s.set F.DLY_CHG_STAT_RESULT c
    if 64 ≤ s.dly.chg.length then res 1
    else if !s.lineValid j || s.lineDmax j < d || (dram && d < 32) then res 2
    else if serBefore 48 b (bidx (s.n + if dram then 32 else 2)) then res 3
    else if dram && b % 16 != 0 then res 4
    else if s.dly.chg.any (fun c => c.line == j && c.xfade && inFade c.b)
        || (match (s.lineS j).xf with | some (_, b0) => inFade (bidx b0) | none => false) then res 5
    else if s.secState (s.lineSec j) != secRUNNING || s.lockState (s.lineSec j) == lkSTARTED
        || s.on F.SYS_MODE_STAT_APPLYING then res 6
    else showChg { res 0 with dly := { s.dly with chg := s.dly.chg ++ [⟨j, s.on F.DLY_CHG_LINE_MODE, d, b⟩] } }

def execDelayChangePost (m v : Nat) (s : State) : Host.Outcome State Fault Refusal :=
  done s (guarded m A.DLY_CHG_POST (wrChgPost v) s)

/-- DELAY_CHANGE_APPLY (R132, R133): the changes of line `j` that the breath in progress has reached. -/
def changeApply (j : Nat) (s : State) : State :=
  if !s.breathing || (s.lineDram j && s.n % 16 != 0) then s
  else
    let cs := s.changesBy j s.n
    let s := { s with dly := { s.dly with chg := s.dly.chg.filter (fun c => !cs.contains c) } }
    showChg (cs.foldl (fun u c =>
      let x := u.lineS j
      u.setLine j { x with delay := some c.delay, xf := if c.xfade then some (u.lineDelay j, u.n) else none }) s)

def execDelayChangeApply (j t : Nat) (s : State) : Host.Outcome State Fault Refusal := done s (changeApply j (s.atTime t))

/-- DELAY_XFADE_END (R133). -/
def execDelayXfadeEnd (j t : Nat) (s : State) : Host.Outcome State Fault Refusal :=
  let s1 := s.atTime t
  let x := s1.lineS j
  match x.xf with
  | some (_, b0) => done s (if b0 + 63 ≤ s1.n then s1.setLine j { x with xf := none } else s1)
  | none => done s s1

/-- Discards the queued changes of the lines that satisfy `p` (R132). -/
def dropChanges (p : Nat → Bool) (s : State) : State :=
  showChg { s with dly := { s.dly with chg := s.dly.chg.filter (fun c => !p c.line) } }

/-- A write of a descriptor word of line `j` (R124, R126). -/
def wrLine (w j v : Nat) (s : State) : State :=
  if bitOf (s.lineW 0 j) 31 && s.secBusy (s.lineSec j) then s.set F.DLY_STAT_DESCWR 1
  else
    let s := s.set (F.DLY_LINE_DATA_WORD w j) v
    if bitOf (s.lineW 0 j) 31 && !s.lineValid j then s.set F.DLY_STAT_BADLINE 1 else s

/-- DLY_LINE_STAT of a line (R129, R146): STATE, FILLED, DELAY. The breath in progress counts in the span that sets FILLED (DESIGN
CHOICE: log entry 69). -/
def State.lineStat (s : State) (j : Nat) : Nat :=
  let st := s.secState (s.lineSec j)
  let x := s.lineS j
  let state := if !s.lineValid j || st == secEMPTY then 0 else if !s.lineRuns j then 3
    else match x.xf with | some (_, b0) => if s.n < b0 + 64 then 2 else 1 | none => 1
  let filled := match x.hist with | some h => decide (h + s.lineDmax j ≤ s.n + 1) | none => false
  state * 2 ^ 30 + filled.toNat * 2 ^ 29 + s.lineDelay j

/-- Pool words and DRAM blocks held by rings and staging (R126, R146). -/
def State.dlyUsed (s : State) : Nat × Nat :=
  (s.linesV.filter (fun j => s.lineValid j && s.secState (s.lineSec j) != secEMPTY)).foldl (fun a j =>
    if s.lineDram j then (a.1 + 64, a.2 + s.lineSlots j) else (a.1 + s.lineDmax j + 1, a.2)) (0, 0)

/-! ## Memory errors (R134, R135) -/

/-- Blocks of the patrol scrub: the 3.5 GiB (R134). -/
def scrubBlocks : Nat := 58720256

/-- The next block of the patrol scrub is due: the pass takes the blocks at an even pace in PERIOD seconds, at least 60 (R134, R146)
(DESIGN CHOICE: log entry 69). -/
def State.scrubDue (s : State) : Bool :=
  s.dly.scrubAt + max 60 (s.get F.DLY_SCRUB_PERIOD) * uS * s.dly.scrub / scrubBlocks ≤ s.now

/-- SCRUB_READ (R134): the patrol scrub reads its next block, once that is due. -/
def scrubRead (e : Ecc) (s : State) : State :=
  if !s.scrubDue then s
  else
    let d := s.dly
    let last := d.scrub + 1 == scrubBlocks
    dlyEcc e 0xFFFF { s with dly := { d with scrub := if last then 0 else d.scrub + 1
                                             scrubAt := if last then d.scrubAt + max 60 (s.get F.DLY_SCRUB_PERIOD) * uS else d.scrubAt } }
def execScrubRead (e : Ecc) (t : Nat) (s : State) : Host.Outcome State Fault Refusal := done s (scrubRead e (s.atTime t))

/-! ## DMA channels (R136–R140) -/

/-- Channel states (DMAk_STAT.STATE). -/
def dmIDLE : Nat := 0
def dmREADY : Nat := 1
def dmRUNNING : Nat := 2
def dmCOMPLETED : Nat := 3
def dmABORTED : Nat := 4
def dmFAULTED : Nat := 5
def State.dmaState (s : State) (k : Nat) : Nat := s.get (F.DMA_STAT_STATE k)

def State.dmaSrc (s : State) (k : Nat) : Nat := s.get (F.DMA_SRC_HI_ADDR_HI k) * 2 ^ 32 + s.get (F.DMA_SRC_LO_ADDR_LO k)
def State.dmaDst (s : State) (k : Nat) : Nat := s.get (F.DMA_DST_HI_ADDR_HI k) * 2 ^ 32 + s.get (F.DMA_DST_LO_ADDR_LO k)
def State.setDmaPos (s : State) (k src dst cnt : Nat) : State :=
  ((((s.set (F.DMA_SRC_LO_ADDR_LO k) src).set (F.DMA_SRC_HI_ADDR_HI k) (src / 2 ^ 32)).set (F.DMA_DST_LO_ADDR_LO k) dst).set
    (F.DMA_DST_HI_ADDR_HI k) (dst / 2 ^ 32)).set (F.DMA_COUNT_BYTES k) cnt

/-- A channel leaves READY or RUNNING for state `st` (R138). -/
def dmaLeave (k st : Nat) (s : State) : State :=
  let s := s.set (F.DMA_STAT_STATE k) st
  let s := if s.dly.running == some k then { s with dly := { s.dly with running := none, lastRan := k } } else s
  if s.on (F.DMA_CTRL_IE k) then s.setBit F.DLY_DMA_IRQ_EVT k true else s

/-- A channel faults with ERR `e` (R139). -/
def dmaFault (k e : Nat) (s : State) : State := raiseF 27 k (dmaLeave k dmFAULTED (s.set (F.DMA_STAT_ERR k) e))

/-- The channel is in READY or RUNNING. -/
def State.dmaBusy (s : State) (k : Nat) : Bool := s.dmaState k == dmREADY || s.dmaState k == dmRUNNING

/-- ABORT (R140). -/
def dmaAbort (k : Nat) (s : State) : State :=
  if s.dmaBusy k then dmaLeave k dmABORTED s
  else if s.dmaState k == dmCOMPLETED || s.dmaState k == dmFAULTED then s.set (F.DMA_STAT_ABORT_LATE k) 1 else s

/-- GO by master `m` (R136, R138). -/
def dmaGo (k m : Nat) (s : State) : State :=
  if 1 < m then s.set F.DLY_STAT_GOREJ 1
  else if s.dmaBusy k then s
  else
    let s := ((s.set (F.DMA_STAT_ERR k) 0).set (F.DMA_STAT_ABORT_LATE k) 0).set (F.DMA_STAT_PREEMPTS k) 0
    let s := { s with dly := { s.dly with starter := mset 0 k m s.dly.starter } }
    if s.dmaSrc k % 4 != 0 || s.dmaDst k % 4 != 0 || s.get (F.DMA_COUNT_BYTES k) % 4 != 0 || s.get (F.DMA_COUNT_BYTES k) < 4
    then dmaFault k 7 s
    else s.set (F.DMA_STAT_STATE k) dmREADY

/-- A write of DMAk_CTRL (R136–R140): channels 0 to 3 take their RANK only, and a channel in READY or RUNNING its ABORT only. -/
def wrDmaCtrl (k m v : Nat) (s : State) : State :=
  if k < 4 then s.set (F.DMA_CTRL_RANK k) (bits 10 8 v)
  else
    let busy := s.dmaBusy k
    let s := if busy then s else
      (((s.set (F.DMA_CTRL_WINDOW k) (bits 20 16 v)).set (F.DMA_CTRL_RANK k) (bits 10 8 v)).set (F.DMA_CTRL_IE k) (bits 3 3 v)).set
        (F.DMA_CTRL_XLATE k) (bits 2 2 v)
    let s := if bitOf v 1 then dmaAbort k s else s
    if bitOf v 0 && (!busy || 1 < m) then dmaGo k m s else s

def execDmaGo (m k v : Nat) (s : State) : Host.Outcome State Fault Refusal := done s (guarded m (A.DMA_CTRL k) (wrDmaCtrl k m v) s)

/-- Shows the rank of the channel running in ARB_RANK0.RANK1 (R147). -/
def showRank (s : State) : State :=
  match s.dly.running with | some k => s.set (F.ARB_RANK0_RANK 1) (s.get (F.DMA_CTRL_RANK k)) | none => s

/-- Pieces of 256 bytes that a hand-over copies: I, X and Y memory and the task list (R54). -/
def handPieces : Nat := 392
def handOfs (k : Nat) : Nat := if k < 128 then 256 * k else if k < 256 then 0x10000 + 256 * (k - 128)
  else if k < 384 then 0x20000 + 256 * (k - 256) else 0x30800 + 256 * (k - 384)

/-- Cores of the image that a load goes to: the records of a section in LOADING, or of a core whose spare is being loaded, with the
physical core of each (R59, R157). -/
def State.loadImages (s : State) : List (List ImgRec × Nat × Nat) :=
  ((List.range 16).filter (fun i => s.secState i == secLOADING)).flatMap (fun i =>
    let l := (imgRecords s (s.pendBase i)).getD []
    (claimOf s l).cores.map (fun c => (l, c, s.loadCoreOf c)))
  ++ s.disp.fenceTl.filterMap (fun e =>
    match e.2, s.coreOwner e.1 with
    | some f, some i => (match f.spare with
      | some q => if f.restart.isNone then some ((imgRecords s (s.liveBase i)).getD [], e.1, q) else none
      | none => none)
    | _, _ => none)

/-- Source, destination and bytes of the core chunks that channel 3 moves (R136, R157) (DEDUCED: log entry 45). -/
def State.loadChunks (s : State) : List (Nat × Nat × Nat) :=
  (s.loadImages.filter (fun e => e.2.2 < 136)).flatMap (fun e =>
    ((recsFor e.1 e.2.1).filter (fun r => r.type == 1 || r.type == 2 || r.type == 3 || r.type == 6)).map (fun r =>
      let p := e.2.2
      let base := match r.type with | 1 => iBase p | 2 => xBase p | 3 => yBase p | _ => taskBase p
      (r.body, base + (if r.type == 6 then 0 else 4 * r.first), r.bytes)))

/-- The piece of a list of chunks that begins `n` bytes on: its source, its destination and the bytes left in its chunk. -/
def chunkAt : List (Nat × Nat × Nat) → Nat → Option (Nat × Nat × Nat)
  | [], _ => none
  | (a, b, k) :: r, n => if n < k then some (a + n, b + n, k - n) else chunkAt r (n - k)

/-- The next job of the fetch channel, which waits for the flushes of its line, or of the flush channel (R130). -/
def State.nextJob (s : State) (k : Nat) : Option DlyJob :=
  s.dly.jobs.find? (fun q => if k = 1 then q.flush else !q.flush && !s.dly.jobs.any (fun r => r.flush && r.line == q.line))

/-- The ring blocks that a fetch reads: one, or two that may lie apart (R130). -/
def State.fetchBlocks (s : State) (q : DlyJob) : List Nat :=
  let b0 := 16 * q.block - q.delay
  [s.dramAt q.line b0 / 64 * 64, s.dramAt q.line (b0 + 15) / 64 * 64].eraseDups

/-- What a channel that the device drives moves next: source, destination and bytes left (R130, R136, R137) (DEDUCED: log entry
45). -/
def State.drivenPos (s : State) (k : Nat) : Option (Nat × Nat × Nat) :=
  match k with
  | 0 => (s.nextJob 0).map (fun q =>
      let bs := s.fetchBlocks q
      let bs := if q.half then bs.drop 1 else bs
      (bs.headD 0, lineStage q.line + 128 + 64 * (q.block % 2), 64 * bs.length))
  | 1 => (s.nextJob 1).map (fun q => (wrStage q.line q.block, s.dramAt q.line (16 * q.block), 64))
  | 2 => match s.disp.rot with
    | some r =>
      let from_ := if r.back then r.q else r.p
      let into := if r.back then r.p else r.q
      if (s.coreS r.p).inst.isSome || (s.coreS r.q).inst.isSome || !s.spareUp r then none
      else if r.hand == some .bulk && r.copied < handPieces
      then some (coreBase from_ + handOfs r.copied, coreBase into + handOfs r.copied, 256 * (handPieces - r.copied))
      else if r.hand == some .catchup then
        r.dirty.head?.map (fun g => (coreBase from_ + 256 * g, coreBase into + 256 * g, 256 * r.dirty.length))
      else none
    | none => none
  | _ => chunkAt s.loadChunks s.dly.loaded

/-- The channel has bytes to move (R136, R138). -/
def State.dmaReady (s : State) (k : Nat) : Bool := if k < 4 then (s.drivenPos k).isSome else s.dmaBusy k

/-- States of the channels that the device drives follow their work (R136, R138). -/
def showDriven (s : State) : State :=
  [0, 1, 2, 3].foldl (fun u k =>
    if u.dly.running == some k then u
    else if u.dmaReady k then (if u.dmaState k == dmFAULTED then u else u.set (F.DMA_STAT_STATE k) dmREADY)
    else if u.dmaBusy k then u.set (F.DMA_STAT_STATE k) dmCOMPLETED else u) s

/-- A channel that the device drives shows where it goes on (R137). -/
def showPos (k : Nat) (s : State) : State :=
  if 4 ≤ k then s else match s.drivenPos k with | some (a, b, n) => s.setDmaPos k a b n | none => s

/-- The engine picks the ready channel of lowest RANK, in turn among equals (R137). A channel that ran and is not picked
again is pre-empted. -/
def dmaPick (s : State) : State :=
  let s := match s.dly.running with
    | some j => if s.dmaReady j then { s with dly := { s.dly with lastRan := j } } else { s with dly := { s.dly with running := none, lastRan := j } }
    | none => s
  let ready := (List.range 16).filter s.dmaReady
  let turn := fun (k : Nat) => (k + 16 - (s.dly.lastRan + 1) % 16) % 16
  let best := ready.foldl (fun (b : Option Nat) k =>
    match b with
    | none => some k
    | some j =>
      let rk := s.get (F.DMA_CTRL_RANK k)
      let rj := s.get (F.DMA_CTRL_RANK j)
      if rk < rj || (rk == rj && turn k < turn j) then some k else b) none
  let s := match s.dly.running with
    | some j => if best == some j then s else (s.set (F.DMA_STAT_STATE j) dmREADY).incSat (F.DMA_STAT_PREEMPTS j)
    | none => s
  let s := { s with dly := { s.dly with running := best } }
  showDriven (showRank (match best with | some k => showPos k (s.set (F.DMA_STAT_STATE k) dmRUNNING) | none => s))

/-- A write of a DLY register by master `m`. -/
def wrDLY (a m v : Nat) (s : State) : State :=
  let o := a % 0x10000
  let i := a / 0x100000000
  if 0x14 ≤ o && o < 0x24 then wrLine ((o - 0x14) / 4) i v s
  else if o == 0x40 then wrChgPost v s
  else if 0x100 ≤ o && o < 0x300 then
    let k := (o - 0x100) / 0x20
    if o % 0x20 == 0 then wrDmaCtrl k m v s
    else if k < 4 || s.dmaBusy k then s else s.writeRegPlain a v
  else s.writeRegPlain a v

/-! ## Arbiter (R141–R145) -/

/-- Rank of a requester (R141, R147). -/
def State.rankOf (s : State) (q : Nat) : Nat := if q = 8 then s.get F.ARB_RANK1_RANK8 else s.get (F.ARB_RANK0_RANK q)

/-- Position of a requester in the order of R142 for a rank pointer (PRESUMED: log entry 22). -/
def turnOf (rr q : Nat) : Nat := (q + 16 - (rr + 1) % 16) % 16

/-- Requester `q` has target `tg` among its targets: 0 the DRAM controller, 1 to 16 the pool banks, from 17 on the cores (R141). -/
def reaches (q tg : Nat) : Bool :=
  match q with
  | 0 => 1 ≤ tg | 2 => 17 ≤ tg | 3 => tg = 0 || 17 ≤ tg | 4 => tg = 0 || 17 ≤ tg | 6 => tg = 0 | 8 => tg = 0
  | _ => true

/-- The requester holds a target (R141). -/
def State.holds (s : State) (q : Nat) : Bool := s.arb.any (fun e => e.2.owner == some q)

/-- Requests asserted at target `tg` join those that wait there (R141, R145). -/
def assertReqs (tg : Nat) (reqs : List (Nat × Nat)) (s : State) : State :=
  reqs.foldl (fun u r =>
    let x := mget {} tg u.arb
    if 9 ≤ r.1 || !reaches r.1 tg || u.holds r.1 || x.wait.any (fun w => w.q == r.1) then u
    else { u with arb := mset {} tg { x with wait := x.wait ++ [⟨r.1, r.2, u.now⟩] } u.arb }) s

/-- Cycles of the fabric clock in a stretch of `State.now` (R28). -/
def State.fabricCycles (s : State) (d : Nat) : Nat := s.unitCycles 1000000 d

/-- A target without an owner grants the waiting requester of best rank, in turn among equals, that holds no other target (R141,
R142, R145). -/
def grant (tg : Nat) (s : State) : State :=
  let x := mget {} tg s.arb
  let wait := x.wait.filter (fun w => !s.holds w.q)
  match wait.map (fun w => s.rankOf w.q) with
  | [] => s
  | r0 :: rs =>
    let r := rs.foldl min r0
    let rr := mget 0 r x.rr
    let g := (wait.filter (fun w => s.rankOf w.q == r)).foldl (fun (b : Option ArbReq) w =>
      match b with | none => some w | some v => if turnOf rr w.q < turnOf rr v.q then some w else b) none
    match x.owner, g with
    | none, some w =>
      let s := s.incSat (F.ARB_GRANTS_COUNT w.q)
      let c := min (s.fabricCycles (s.now - w.since)) 65535
      let s := if s.get (F.ARB_WAITMAX_CYCLES w.q) < c then (s.set (F.ARB_WAITMAX_CYCLES w.q) c).set (F.ARB_WAITMAX_TARGET w.q) tg else s
      { s with arb := mset {} tg { owner := some w.q, len := w.len, at_ := s.now, wait := x.wait.filter (fun v => v.q != w.q)
                                   rr := mset 0 r w.q x.rr } s.arb }
    | _, _ => s

/-- ARBITRATE (R141–R145): at target `tg` the owner drops its request where `drop`, and the requesters of the list assert requests
with their declared lengths; then the target grants, if it has no owner (PRESUMED: log entry 22). -/
def arbitrate (tg : Nat) (drop : Bool) (reqs : List (Nat × Nat)) (s : State) : State :=
  let x := mget {} tg s.arb
  let s := if drop then { s with arb := mset {} tg { x with owner := none, len := 0, at_ := 0 } s.arb } else s
  grant tg (assertReqs tg reqs s)

def execArbitrate (tg : Nat) (reqs : Requests) (t : Nat) (s : State) : Host.Outcome State Fault Refusal :=
  done s (arbitrate tg reqs.drop reqs.reqs (s.atTime t))

/-- Remaining length of the owner of a target: what it declared less the cycles since its grant (R144). -/
def State.arbRem (s : State) (x : ArbT) : Nat := if x.owner.isNone then 0 else x.len - s.fabricCycles (s.now - x.at_)

/-- The turn hint of requester `q`: whether it waits, and cycles (R144). -/
def State.hint (s : State) (q : Nat) : Option Nat :=
  match s.arb.find? (fun e => e.2.wait.any (fun w => w.q == q)) with
  | none => none
  | some e =>
    let x := e.2
    let ahead := x.wait.filter (fun w => w.q != q && (s.rankOf w.q < s.rankOf q
      || (s.rankOf w.q == s.rankOf q && turnOf (mget 0 (s.rankOf q) x.rr) w.q < turnOf (mget 0 (s.rankOf q) x.rr) q)))
    some (min 4095 (ahead.foldl (fun n w => n + w.len + 2) (s.arbRem x)))

/-- CLR_ARB_STATS (R145, R147). -/
def clrArb (s : State) : State :=
  s.resetRegs (fun a => a % 0x100000000 == A.ARB_WAITMAX 0 || a % 0x100000000 == A.ARB_GRANTS 0)
def wrARB (a v : Nat) (s : State) : State :=
  if a % 0x100000000 == A.ARB_CLR then (if bitOf v 0 then clrArb s else s) else s.writeRegPlain a v
def execClrArbStats (m : Nat) (s : State) : Host.Outcome State Fault Refusal := done s (guarded m A.ARB_CLR clrArb s)

end Sys2Proof.Machine
end

