-- ==== Sys2Proof/Machine/Time.lean ====
section
/-!
DEFINITION. Device time: rate folds, offset steps, servo epochs, snapshots, triggers and their actions, TTRIG balls,
captures and time-stamp queues (R34, R35, R242–R258).
-/
namespace Sys2Proof.Machine

/-! ## Rate (R245) -/

/-- The correction in force ends at this instant; those that ended more than 2 ms ago are forgotten (R248). -/
def notePast (s : State) : State :=
  { s with time := { s.time with past := (s.now, s.time.c, s.time.e, s.rate) :: s.time.past.filter (fun h => s.now < h.1 + 2 * uMs) } }

/-- Egress stamps whose instants still lie ahead are those of the correction now in force (R248). -/
def restamp (s : State) : State :=
  { s with time := { s.time with txts := s.time.txts.map (fun q =>
             (q.1, q.2.map (fun e => if s.now < e.sfd then { e with ts := s.devAt e.sfd / 256 % 2 ^ 32 } else e))) }
           twin := { s.twin with egress := s.twin.egress.map (fun e => if s.now < e.2.2 then (e.1, s.devAt e.2.2, e.2.2) else e) } }

/-- Folds the rate in force into the base and takes `v` as the rate; device time does not move (R245). -/
def putRate (v : Int) (s : State) : State :=
  let s := notePast s
  let r := s.raw
  restamp <| { s with time := { s.time with c := s.time.c + s.rate * ((r : Int) - s.time.e), e := r } }.set F.TIME_RATE_RATE (ux 32 v)

/-- A write of TIME_RATE (R245). -/
def wrRate (v : Nat) (s : State) : State :=
  if s.on F.PP_CTRL_STEER then s.set F.TIME_STAT_RATEREJ 1 else putRate (sx 32 v) s
def execRateWrite (m v : Nat) (s : State) : Host.Outcome State Fault Refusal := done s (guarded m A.TIME_RATE (wrRate v) s)

/-- RATE_FOLD (R245): raw time has passed a multiple of 2^32 ns since the last fold. -/
def rateFold (s : State) : State := if s.time.e / 2 ^ 40 < s.raw / 2 ^ 40 then putRate s.rate s else s
def execRateFold (t : Nat) (s : State) : Host.Outcome State Fault Refusal := done s (rateFold (s.atTime t))

/-! ## The breath anchor (R33, R34) -/

/-- The breath-anchor trigger fires at device time `t` in ARMED: breath START_INDEX begins at `t` (R33, R34); breaths named by
index are counted from there (R418). The mr bit of
the streams toggles (R204); line histories restart unless the index goes on (R129). -/
def dispAnchor (t : Nat) (s : State) : State :=
  let s := tickCredits s
  let k := s.startIndex
  let d := s.disp
  let goOn := d.ran && k == bidx (d.n + 1)
  let new := if d.ran then d.n + 1 + (k + 2 ^ 48 - bidx (d.n + 1)) % 2 ^ 48 else k
  let s := s.setAnchor ((t : Int) - breathOfs s.fs k)
  let s := { s with disp := { d with started := false, first := new, base := new - k }, strm := { s.strm with mr := !s.strm.mr } }
  let re := fun (b : Nat) => ((new : Int) + sx 48 (ux 48 ((b : Int) - new))).toNat
  let s := if goOn then s else
    { s with mtx := { s.mtx with mboxB := s.mtx.mboxB.map (fun e => (e.1, re e.2)), swapB := re s.mtx.swapB }
             disp := { s.disp with heldWords := s.disp.heldWords.map (fun h => { h with b := re h.b }) } }
  (if goOn then s else restartHistory (fun _ => true) s).set F.DISP_STAT_STATE dRunning

/-! ## Triggers (R252–R254) -/

def State.trigS (s : State) (k : Nat) : TrigS := mget {} k s.time.trig
def State.setTrig (s : State) (k : Nat) (x : TrigS) : State := { s with time := { s.time with trig := mset {} k x s.time.trig } }
def State.trigAt (s : State) (k : Nat) : Nat := s.get (F.TRIG_AT_HI_AT_HI k) * 2 ^ 32 + s.get (F.TRIG_AT_LO_AT_LO k)

/-- Trigger modes (R252). -/
def tmONCE : Nat := 0
def tmPERIODIC : Nat := 1
def tmBREATH : Nat := 2

/-- PERIOD of a PERIODIC trigger (R252). -/
def State.trigPeriod (s : State) (k : Nat) : Nat := max 100 (s.get (F.TRIG_PERIOD_PERIOD k))

/-- EN and its reading. -/
def setTrigEn (k : Nat) (b : Bool) (s : State) : State :=
  (s.set (F.TRIG_CFG_EN k) b.toNat).set (F.TRIG_STAT_ARMED k) b.toNat

/-- The TTRIG action on ball `o` (R254): a pulse, extended if it is still high, or a toggle. -/
def ttrig (o pulse : Nat) (s : State) : State :=
  let b := mget {} o s.time.ttrig
  let b : TtrigS := if pulse = 0 then ⟨!b.high, none⟩ else ⟨true, some ((s.dev + pulse * uUs) % 2 ^ 72)⟩
  { s with time := { s.time with ttrig := mset {} o b s.time.ttrig } }

/-- A firing of trigger `k`: its record and its ACTION (R254, R255). -/
def fireTrigger (k : Nat) (s : State) : State :=
  let s := ((s.set (F.TRIG_FIRED_LO_NS k) s.devNs).set (F.TRIG_FIRED_HI_NS k) (s.devNs / 2 ^ 32)).inc (F.TRIG_STAT_FIRES k)
  let s := capEvent 3 k (s.setBit F.TIME_EVT_TRIG k true)
  let tgt := s.get (F.TRIG_TGT_MASK k)
  match s.get (F.TRIG_CFG_ACTION k) with
  | 1 => if s.dstate == dArmed then dispAnchor s.dev s else s.set (F.TRIG_STAT_IGNORED k) 1
  | 2 => sapStart (tgt % 65536) s
  | 3 => bsiStart tgt s
  | 4 => ttrig (s.get (F.TRIG_CFG_OUT k)) (s.get (F.TRIG_CFG_PULSE k)) s
  | _ => s

/-- The configuration cannot be enabled (R252). -/
def State.trigBad (s : State) (k : Nat) : Bool :=
  let m := s.get (F.TRIG_CFG_MODE k)
  let a := s.get (F.TRIG_CFG_ACTION k)
  3 ≤ m || 5 ≤ a || (m == tmBREATH && (a == 1 || 2 ^ 48 ≤ s.trigAt k))

/-- First instant `at0 + j * p` not before `x`. -/
def firstFrom (at0 p x : Nat) : Nat := if x ≤ at0 then at0 else at0 + (x - at0 + p - 1) / p * p

/-- EN written 1 (R252) (DEDUCED: log entry 54). -/
def trigEnable (k : Nat) (s : State) : State :=
  if s.trigBad k then s.set (F.TRIG_STAT_BADCFG k) 1
  else if s.fcuState == 2 then s
  else
    let at0 := s.trigAt k
    match s.get (F.TRIG_CFG_MODE k) with
    | 0 =>
      if at0 * 256 < s.dev then fireTrigger k (s.set (F.TRIG_STAT_LATE k) 1)
      else setTrigEn k true (s.setTrig k { next := at0 })
    | 1 => setTrigEn k true (s.setTrig k { next := firstFrom at0 (s.trigPeriod k) ((s.dev + 255) / 256) })
    | _ => setTrigEn k true (s.setTrig k { next := at0, judged := if s.breathing then s.n + 1 else 0 })

/-- A write of TRIGk_CFG (R252). -/
def wrTrigCfg (k v : Nat) (s : State) : State :=
  let a := A.TRIG_CFG k
  if s.on (F.TRIG_CFG_EN k) then
    let view := fun (w : Nat) => bits 30 25 w * 2 ^ 18 + bits 21 20 w * 2 ^ 16 + w % 65536
    let s := if view v != view (s.wordOf (fieldsAt a)) then s.set (F.TRIG_STAT_CFGWR k) 1 else s
    if bitOf v 31 then s else setTrigEn k false s
  else
    let s := s.writeRegPlain a (withBit (v % 2 ^ 32) 31 false)
    if bitOf v 31 then trigEnable k s else s

def execTriggerEnable (m k v : Nat) (s : State) : Host.Outcome State Fault Refusal :=
  done s (guarded m (A.TRIG_CFG k) (wrTrigCfg k (withBit (v % 2 ^ 32) 31 true)) s)

/-- A BREATH trigger at the breath instant of the breath in progress: serial order modulo 2^48 (R252) (DEDUCED: log
entry 54). -/
def trigBreath (k : Nat) (s : State) : State :=
  let x := s.trigS k
  if !(s.on (F.TRIG_CFG_EN k) && s.get (F.TRIG_CFG_MODE k) == tmBREATH && s.breathing && x.judged ≤ s.n) then s
  else
    let n := bidx s.n
    let p := s.get (F.TRIG_PERIOD_PERIOD k)
    let s := s.setTrig k { x with judged := s.n + 1 }
    let next := fun (t : Nat) (u : State) => u.setTrig k { next := t % 2 ^ 48, judged := u.n + 1 }
    if n == x.next then
      if p = 0 then fireTrigger k (setTrigEn k false s) else fireTrigger k (next (x.next + p) s)
    else if serAfter 48 n x.next then
      if p = 0 then fireTrigger k (setTrigEn k false (s.set (F.TRIG_STAT_LATE k) 1))
      else
        let d := ux 48 ((n : Int) - x.next)
        let t := (x.next + (d + p - 1) / p * p) % 2 ^ 48
        if t == n then fireTrigger k (next (t + p) s) else next t s
    else s

/-- TRIGGER_FIRE (R252, R254): trigger `k` reaches its instant. -/
def trigFire (k : Nat) (s : State) : State :=
  let x := s.trigS k
  if !s.on (F.TRIG_CFG_EN k) then s
  else match s.get (F.TRIG_CFG_MODE k) with
    | 0 => if x.next * 256 ≤ s.dev then fireTrigger k (setTrigEn k false s) else s
    | 1 => if x.next * 256 ≤ s.dev then fireTrigger k (s.setTrig k { x with next := x.next + s.trigPeriod k }) else s
    | _ => trigBreath k s
def execTriggerFire (k t : Nat) (s : State) : Host.Outcome State Fault Refusal := done s (trigFire k (s.atTime t))

/-- A forward step has carried device time past a pending instant: one firing, with STEPFIRE (R253) (DEDUCED: log
entry 54). -/
def trigStep (k : Nat) (s : State) : State :=
  let x := s.trigS k
  if !(s.on (F.TRIG_CFG_EN k) && s.get (F.TRIG_CFG_MODE k) < tmBREATH && x.next * 256 ≤ s.dev) then s
  else
    let s := s.set (F.TRIG_STAT_STEPFIRE k) 1
    if s.get (F.TRIG_CFG_MODE k) == tmONCE then fireTrigger k (setTrigEn k false s)
    else fireTrigger k (s.setTrig k { x with next := firstFrom x.next (s.trigPeriod k) (s.devNs + 1) })

/-- PULSE_END (R254): the pulse on ball `o` ends. -/
def pulseEnd (o : Nat) (s : State) : State :=
  match (mget {} o s.time.ttrig).until_ with
  | some e => if sx 72 (ux 72 ((e : Int) - s.dev)) ≤ 0 then { s with time := { s.time with ttrig := mset {} o {} s.time.ttrig } } else s
  | none => s
def execPulseEnd (o t : Nat) (s : State) : Host.Outcome State Fault Refusal := done s (pulseEnd o (s.atTime t))

/-! ## Steps and servo epochs (R35, R246, R247, R253) -/

/-- Device-time instants that lie on the raw time line keep their places when device time steps by `d` (R247): requests of serial ports
and bitstream channels, ends of pulses, slews, self-tests, and the instants at which events were posted. -/
def shiftMarks (d : Int) (s : State) : State :=
  let mv := fun (x : Nat) => ux 72 ((x : Int) + d)
  { s with
    pp := { s.pp with slewAt := mv s.pp.slewAt }
    sap := s.sap.map (fun e => (e.1, { e.2 with req := e.2.req.map mv }))
    bsi := s.bsi.map (fun e => (e.1, { e.2 with start := e.2.start.map mv }))
    time := { s.time with ttrig := s.time.ttrig.map (fun e => (e.1, { e.2 with until_ := e.2.until_.map mv })) }
    disp := { s.disp with
      posted := s.disp.posted.map (fun e => (e.1, mv (e.2 - 1) + 1))
      bistSpare := s.disp.bistSpare.map (fun b => (b.1, b.2.map mv))
      rot := s.disp.rot.map (fun r => { r with bistAt := r.bistAt.map mv }) } }

/-- An offset step Δ in 1/256 ns is taken: device time jumps, breath instants do not (R35, R246, R247, R253). -/
def takeStep (d : Int) (s : State) : State :=
  let s := notePast s
  let s := restamp (shiftMarks d { s with time := { s.time with c := s.time.c + d * 2 ^ 40 } })
  let s := (s.set F.TIME_STAT_ARMED 0).set F.TIME_STAT_STEPPED 1
  let s := if s.breathing then
      { s with strm := { s.strm with mr := !s.strm.mr } }.setAnchor (s.anchor + d) |>.set F.DISP_STAT_STEPPED 1
    else s
  if 0 < d then (List.range 8).foldl (fun u k => trigStep k u) s else s

/-- A write of TIME_OFFSET_HI (R246). -/
def wrOffset (v : Nat) (s : State) : State :=
  if s.on F.TIME_STAT_ARMED then
    let s := s.set F.TIME_OFFSET_HI_DELTA_HI v
    takeStep (sx 64 (v % 2 ^ 32 * 2 ^ 32 + s.get F.TIME_OFFSET_LO_DELTA_LO)) s
  else s.set F.TIME_STAT_STEPREJ 1
def execOffsetStep (m v : Nat) (s : State) : Host.Outcome State Fault Refusal := done s (guarded m A.TIME_OFFSET_HI (wrOffset v) s)

/-- A write of TIME_SERVO (R246). -/
def wrServo (v : Nat) (s : State) : State :=
  if v / 65536 == keyA55A && bitOf v 0 then (s.set F.TIME_STAT_ARMED 1).inc F.TIME_STAT_EPOCH else s
def execServoReset (m v : Nat) (s : State) : Host.Outcome State Fault Refusal := done s (guarded m A.TIME_SERVO (wrServo v) s)

/-- A write of TIME_SNAP (R249). -/
def wrSnap (v : Nat) (s : State) : State :=
  if !bitOf v 0 then s
  else
    let ns := s.devNs % 2 ^ 64
    let sec := ns / 1000000000
    (((s.set F.TIME_SNAP_NS_LO_NS ns).set F.TIME_SNAP_NS_HI_NS (ns / 2 ^ 32)).set F.TIME_SNAP_SEC_LO_SEC_LO sec).set
      F.TIME_SNAP_SEC_HI_SEC_HI (sec / 2 ^ 32)
def execSnapshot (m v : Nat) (s : State) : Host.Outcome State Fault Refusal := done s (guarded m A.TIME_SNAP (wrSnap v) s)

/-! ## Captures and queues (R251, R255) -/

/-- CAPTURE (R255): an edge of ball TCAPc. -/
def captureEdge (c : Nat) (rising : Bool) (s : State) : State :=
  let src := s.get (F.CAP_CFG_SRC c)
  if c < 4 && s.on (F.CAP_CFG_EN c) && (src == 2 || src == (if rising then 0 else 1)) then capPush c ⟨s.devNs, s.devFrac⟩ s else s
def execCapture (c : Nat) (rising : Bool) (t : Nat) (s : State) : Host.Outcome State Fault Refusal :=
  done s (captureEdge c rising (s.atTime t))

/-- A read of CAPc_TS_LO (R255). -/
def capRead (c : Nat) (s : State) : Nat × State :=
  let q := mget [] c s.time.caps
  let show_ := fun (st : Stamp) (v : Nat) (u : State) =>
    ((u.set (F.CAP_TS_HI_NS_HI c) (st.ns / 2 ^ 32)).set (F.CAP_STAT_FRAC c) st.frac).set (F.CAP_STAT_VALID c) v
  match q with
  | [] => (0, show_ ⟨0, 0⟩ 0 s)
  | st :: r =>
    let s := { s with time := { s.time with caps := mset [] c r s.time.caps } }.set (F.CAP_STAT_COUNT c) r.length
    (st.ns % 2 ^ 32, show_ st 1 s)
def execCaptureRead (m c : Nat) (s : State) : Host.Outcome State Fault Refusal := done s (guardedRead m (A.CAP_TS_LO c) (capRead c) s)

/-- A read of TXTSp_TS (R251). -/
def txtsRead (p : Nat) (s : State) : Nat × State :=
  match mget [] p s.time.txts with
  | [] => (0, (s.set (F.TXTS_TAG_VALID p) 0).set (F.TXTS_TAG_TAG p) 0)
  | e :: r =>
    let s := { s with time := { s.time with txts := mset [] p r s.time.txts } }.set (F.TXTS_STAT_COUNT p) r.length
    (e.ts, (s.set (F.TXTS_TAG_VALID p) 1).set (F.TXTS_TAG_TAG p) e.tag)
def execTxtsRead (m p : Nat) (s : State) : Host.Outcome State Fault Refusal := done s (guardedRead m (A.TXTS_TS p) (txtsRead p) s)

/-! ## Reactions (R242, R256) -/

/-- A start under R242: the counter at 0, everything of TIME as after power-on reset (DEDUCED: log entry 33). -/
def startTime (s : State) : State := { s.resetRegs (inBlock 4) with time := { on := true, start := s.now } }

/-- The CLOCK domain has no power (DEDUCED: log entry 33). -/
def stopTime (s : State) : State := { s.resetRegs (inBlock 4) with time := {} }

/-- HALT disarms every trigger and drives the TTRIG balls low (R256). -/
def haltTime (s : State) : State :=
  let s := (List.range 8).foldl (fun u k => setTrigEn k false u) s
  { s with time := { s.time with ttrig := [] } }

/-- A write of a TIME register (R258). -/
def wrTIME (a v : Nat) (s : State) : State :=
  let o := a % 0x10000
  let k := (o - 0x100) / 0x20
  let q := o % 0x20
  if o == 4 then wrServo v s
  else if o == 8 then wrRate v s
  else if o == 0x14 then wrOffset v s
  else if o == 0x40 then wrSnap v s
  else if 0x100 ≤ o && o < 0x200 then
    if q == 0 then wrTrigCfg k v s
    else if 4 ≤ q && q ≤ 0x10 && s.on (F.TRIG_CFG_EN k) then s.set (F.TRIG_STAT_CFGWR k) 1
    else s.writeRegPlain a v
  else s.writeRegPlain a v

/-- TIME_NOW and TIME_RAW at this instant: integer ns and fraction (R244). -/
def State.timePair (s : State) (raw : Bool) : Nat × Nat := if raw then (s.raw / 256, s.raw % 256) else (s.devNs, s.devFrac)

end Sys2Proof.Machine
end

