-- ==== Sys2Proof/Machine/Pp.lean ====
section
/-!
DEFINITION. The Pitch Pipe: references and their qualification, the loop, selection and switching with build-out, holdover,
phase steps and clock outputs (R224–R241).
-/
namespace Sys2Proof.Machine

/-! ## States and rates (R227, R235) -/

/-- States (PP_STAT.STATE). -/
def ppFREERUN : Nat := 0
def ppACQUIRING : Nat := 1
def ppLOCKED : Nat := 2
def ppSWITCHING : Nat := 3
def ppHOLDOVER : Nat := 4
def State.ppState (s : State) : Nat := s.get F.PP_STAT_STATE
def State.ppActive (s : State) : Nat := s.get F.PP_STAT_ACTIVE
/-- The loop is closed. -/
def State.ppClosed (s : State) : Bool := s.ppState == ppACQUIRING || s.ppState == ppLOCKED
def setPp (x : PpS) (s : State) : State := { s with pp := x }

/-- Enters a state: its event, its NOTE, its capture and the slots' CLOCK event (R235, R255, R368). -/
def ppGo (st : Nat) (s : State) : State :=
  if s.ppState == st then s
  else
    let was := s.ppState
    let s := allEvt evCLOCK ((s.set F.PP_STAT_STATE st).set F.PP_EVT_STATE 1)
    let s := if st == ppLOCKED then setPp { s.pp with holdAt := s.now }  s
      else if was == ppLOCKED then setPp { s.pp with holdAcc := s.pp.holdAcc + (s.now - s.pp.holdAt) } s else s
    let s := if st == ppACQUIRING then setPp { s.pp with below := 0, above := 0 } s
      else if st == ppLOCKED then setPp { s.pp with above := 0 } s else s
    raiseF 83 st (capEvent 1 0 s)

/-- The Pitch Pipe writes TIME_RATE while STEER = 1; in HALT it stops (R227, R239). -/
def steer (v : Int) (s : State) : State := if s.on F.PP_CTRL_STEER && s.fcuState != 2 then putRate v s else s

def State.holdRate (s : State) : Int := sx 32 (s.get F.PP_HOLD_RATE_RATE)
def State.freerunRate (s : State) : Int := sx 32 (s.get F.PP_FREERUN_RATE_RATE)
/-- TIME_RATE = HOLD_RATE, or left as it stands without history (R231, R235). -/
def steerHold (s : State) : State := if s.on F.PP_STAT_HISTVALID then steer s.holdRate s else s

/-- ±200 ppm in units of 2^-40, rounded towards zero (R227) (DESIGN CHOICE: log entry 52). -/
def ppClamp : Int := 219902325

/-- The bandwidth of the loop in mHz (R227, R241). -/
def State.ppBandwidth (s : State) : Nat :=
  match s.get F.PP_CTRL_BW with | 0 => 100 | 1 => 300 | 3 => 3000 | 4 => 10000 | 5 => 30000 | 6 => 100000 | _ => 1000

/-- Gain of the proportional path, in 2^-16 per second. -/
def State.ppKp (s : State) : Int := ((Config.ppGain s.ppBandwidth).toNat + 1 : Nat)

/-- The loop closes: the integral path starts from the rate in force (R231) (DESIGN CHOICE: log entry 52). -/
def closeLoop (s : State) : State := setPp { s.pp with integ := s.rate * 2 ^ 40, updAt := s.now } s

/-- One update of the loop for the input `u` (R227). With damping 0.707 the gain of the integral path is half the square of that of
the proportional one. The output is clamped to ±200 ppm; with STEER = 0 the integral path follows the rate in force (DESIGN CHOICE:
log entry 52). -/
def loopUpdate (u : Int) (s : State) : State :=
  let p := s.pp
  let dt : Int := ((s.now - p.updAt : Nat) : Int)
  let integ := p.integ + s.ppKp * s.ppKp * u * dt * 2 ^ 47 / 256000000000 ^ 2
  let v := integ / 2 ^ 40 + s.ppKp * u * 2 ^ 24 / 256000000000
  let w := max (-ppClamp) (min ppClamp v)
  if !s.on F.PP_CTRL_STEER then closeLoop s
  else
    let s := setPp { p with integ := integ, updAt := s.now } (s.set F.PP_STAT_CLAMP (if v == w then 0 else 1))
    steer w (if s.ppState == ppLOCKED then setPp { s.pp with rateSum := s.pp.rateSum + w, rateN := s.pp.rateN + 1 } s else s)

/-! ## References (R224–R226) -/

def State.ref (s : State) (r : Nat) : RefS := mget {} r s.pp.refs
def setRef (r : Nat) (x : RefS) (s : State) : State := setPp { s.pp with refs := mset {} r x s.pp.refs } s
def State.refValid (s : State) (r : Nat) : Bool := 5 ≤ r || s.bit F.PP_REFSTAT_VALID r
def State.refE (s : State) (r : Nat) : Int := sx 32 (s.get (F.PP_REF_PHASE_E r))
def State.refF (s : State) (r : Nat) : Int := sx 32 (s.get (F.PP_REF_FREQ_F r))
def State.buildout (s : State) (r : Nat) : Int := sx 32 (s.get (F.PP_BUILDOUT_B r))
def setBuildout (r : Nat) (b : Int) (s : State) : State := s.set (F.PP_BUILDOUT_B r) (ux 32 b)
def State.refRank (s : State) (r : Nat) : Nat := s.get (F.PP_RANK_RANK r)

/-- The reference SEL names: 6 and 7 act as 5 (R229). -/
def State.sel (s : State) : Nat := min 5 (s.get F.PP_CTRL_SEL)

/-- Two valid references of equal rank disagree (R233). -/
def State.disagree (s : State) (a b : Nat) : Bool :=
  a != b && a < 5 && b < 5 && s.refValid a && s.refValid b && s.refRank a == s.refRank b
  && decide (max 1 (s.get F.PP_DISAGREE_PPB) * 2 ^ 40 < (s.refF a - s.refF b).natAbs * 1000000000)
def State.disagrees (s : State) (a : Nat) : Bool := s.bit F.PP_REFSTAT_DISAGREE a

/-- Shows DISAGREE; a new one sets its event (R233). -/
def showDisagree (s : State) : State :=
  let v := (List.range 5).foldl (fun w a => withBit w a ((List.range 5).any (fun b => s.disagree a b))) 0
  let new := (List.range 5).any (fun a => bitOf v a && !s.disagrees a)
  let s := s.set F.PP_REFSTAT_DISAGREE v
  if new then s.set F.PP_EVT_DISAGREE 1 else s

/-- The reference that governs under R229 and R233 where the present one does not. -/
def State.chooseRef (s : State) : Nat :=
  let sel := s.sel
  if sel == 5 || (s.refValid sel && !s.disagrees sel) then sel
  else
    let vs := (List.range 5).filter (fun r => s.refValid r)
    match vs with
    | [] => 5
    | v :: _ =>
      let rk := vs.foldl (fun m r => min m (s.refRank r)) (s.refRank v)
      let best := vs.filter (fun r => s.refRank r == rk)
      let r0 := best.headD v
      if best.any (fun r => s.disagrees r) && s.on F.PP_STAT_HISTVALID then
        let far := fun (r : Nat) => (s.refF r - s.holdRate).natAbs
        best.foldl (fun m r => if far r < far m then r else m) r0
      else r0

/-- The references whose hold-off counts or has ended, in the order in which they are returned to: SEL, then the valid candidates of
better rank than the governing reference, the best first (R233, R234). -/
def State.reverts (s : State) : List Nat :=
  let a := s.ppActive
  if !(s.on F.PP_CTRL_REVERT && s.ppClosed) || s.sel == a || s.sel == 5 then []
  else
    let ok := fun (r : Nat) => s.refValid r && !s.disagrees r
    (if ok s.sel then [s.sel] else [])
    ++ (List.range (s.refRank a)).flatMap (fun k => (List.range 5).filter (fun r => r != s.sel && ok r && s.refRank r == k))

/-- The hold-off of a reference has ended (R234). -/
def State.heldOff (s : State) (r : Nat) : Bool := decide ((s.ref r).since + min 3600 (s.get F.PP_HOLDOFF_SECONDS) * uS ≤ s.now)

/-- Shows SELOK and REVPEND (R229, R234). -/
def showPp (s : State) : State :=
  (s.set F.PP_STAT_SELOK (s.refValid s.sel).toNat).set F.PP_STAT_REVPEND (!s.reverts.isEmpty).toNat

/-! ## Slews (R237) -/

/-- Moves B of the governing reference by what a slew in progress has covered; it moves while the loop is closed. -/
def slewTick (s : State) : State :=
  let p := s.pp
  if !p.slewing then s
  else if !s.ppClosed then setPp { p with slewAt := s.dev, slewMoved := 0 } s
  else
    let left := sx 32 (s.get F.PP_PSTEP_REMAIN_REMAIN)
    let rate := max 1 (min 1000 (s.get F.PP_SLEW_NS_PER_S))
    let total := ux 72 ((s.dev : Int) - p.slewAt) * rate / 1000000000
    let n := min (total - p.slewMoved) left.natAbs
    let d : Int := if left < 0 then -(n : Int) else n
    let s := setBuildout s.ppActive (s.buildout s.ppActive - d) s
    setPp { s.pp with slewMoved := p.slewMoved + n } (s.set F.PP_PSTEP_REMAIN_REMAIN (ux 32 (left - d)))

/-- Results of a phase step. -/
def psDONE : Nat := 1
def psNOREF : Nat := 2
def psTIMESTEP : Nat := 3
def psKEYBUSY : Nat := 4
def psResult (r : Nat) (s : State) : State := s.set F.PP_PSTEP_STAT_RESULT r

/-- A phase step is carried out: IMMEDIATE as a step of device time, else as a slew. -/
def phaseStep (imm : Bool) (d : Int) (s : State) : State :=
  if s.ppActive == 5 then psResult psNOREF s
  else if imm then
    if !s.on F.TIME_STAT_ARMED then psResult psTIMESTEP s
    else
      let s := setBuildout s.ppActive (s.buildout s.ppActive - d) s
      (psResult psDONE (takeStep d s)).set F.PP_EVT_PSTEP 1
  else
    let s := slewTick s
    let left := sx 32 (s.get F.PP_PSTEP_REMAIN_REMAIN) + d
    let s := setPp { s.pp with slewing := true, slewAt := s.dev, slewMoved := 0 } s
    (s.set F.PP_PSTEP_REMAIN_REMAIN (ux 32 left)).set F.PP_PSTEP_STAT_BUSY 1

/-! ## Switching (R229–R232, R235) -/

/-- ACTIVE = 5: HOLDOVER, or FREERUN without history; the loop opens (R227, R235). -/
def ppNoRef (s : State) : State :=
  let s := steerHold (((slewTick s).set F.PP_STAT_ACTIVE 5).set F.PP_STAT_CLAMP 0)
  ppGo (if s.on F.PP_STAT_HISTVALID then ppHOLDOVER else ppFREERUN) s

/-- Entry to SWITCHING towards `r` (R231). A switch abandoned for another keeps its u0 (R232). -/
def ppSwitch (r : Nat) (s : State) : State :=
  let on := s.ppState == ppSWITCHING
  let u0 := if on then s.pp.u0 else if s.ppActive == 5 then 0 else s.pp.u
  let was := if on then s.pp.wasLocked else s.ppState == ppLOCKED
  let s := ((slewTick s).set F.PP_STAT_ACTIVE r).set F.PP_STAT_CLAMP 0
  let s := setPp { s.pp with u0 := u0, wasLocked := was, swAt := s.now, avg := [] } s
  steerHold (ppGo ppSWITCHING s)

/-- In FREERUN and HOLDOVER a reference that governs starts a switch (R235). -/
def ppWake (s : State) : State :=
  if (s.ppState == ppFREERUN || s.ppState == ppHOLDOVER) && s.chooseRef != 5 then ppSwitch s.chooseRef s else s

/-- SEL as written is evaluated (R229, R235). -/
def ppSelect (s : State) : State :=
  let r := s.sel
  if r == 5 then (if s.ppClosed then ppNoRef s else s)
  else if s.refValid r && r != s.ppActive then ppSwitch r s else s

/-- What a switch has held up is done (R232) (DEDUCED: log entry 53). -/
def ppAfter (s : State) : State :=
  let s := match s.pp.held with
    | some (imm, d) =>
      let s := setPp { s.pp with held := none } s
      phaseStep imm d (s.set F.PP_PSTEP_STAT_BUSY s.pp.slewing.toNat)
    | none => s
  if s.pp.selPend then ppSelect (setPp { s.pp with selPend := false } s) else s

/-- The governing reference has become invalid; a switch abandoned for want of another has ended (R230, R232, R235). -/
def ppFail (s : State) : State := let r := s.chooseRef; if r == 5 then ppAfter (ppNoRef s) else ppSwitch r s

/-- Reference `r` loses its activity or its window: qualification starts afresh; a valid one becomes invalid (R226). -/
def loseRef (r : Nat) (s : State) : State :=
  let was := s.bit F.PP_REFSTAT_VALID r
  let s := setRef r { s.ref r with act := false, ok := 0 } s
  if !was then s
  else
    let s := s.setBit F.PP_REFSTAT_VALID r false
    let s := showDisagree (raiseF 82 r ((s.setBit F.PP_REFSTAT_LOS r true).set F.PP_EVT_REFLOSS 1))
    showPp (if s.ppActive == r then ppFail s else s)

/-! ## Samples (R224, R227) -/

/-- The activity condition of a reference holds at this instant (R226). -/
def State.refActive (s : State) (r : Nat) : Bool :=
  let x := s.ref r
  s.bit F.PP_REF_EN_EN r && x.act &&
  (if r < 2 then
    s.on (if r = 0 then F.PP_PTP_VALID0 else F.PP_PTP_VALID1) && decide (s.now < x.last + max 1 (s.get F.PP_PTP_TMO_MS) * uMs)
  else if r = 3 then
    let p := s.get F.PP_SAPREF_CFG_PORT
    s.sapState p != saOFF && s.sapState p != saLOCLK && !s.sapMaster p
  else true)

/-- The loop takes a sample: lock timers and update (R227, R235). -/
def ppInput (e : Int) (s : State) : State :=
  let u := e - s.buildout s.ppActive
  let lim := max 1 (s.get F.PP_LOCK_LOCK_NS) * 256
  let p := s.pp
  let below := if u.natAbs < lim then (if p.below = 0 then s.now + 1 else p.below) else 0
  let above := if 4 * lim < u.natAbs then (if p.above = 0 then s.now + 1 else p.above) else 0
  loopUpdate u (setPp { p with u := u, below := below, above := above } s)

/-- Samples a switch averages (R231). -/
def switchSamples (r : Nat) : Nat := if r < 2 then 4 else 16

/-- A phase-error sample of reference `r` (R224–R227, R231) (DEDUCED: log entry 53). -/
def refSample (r : Nat) (e : Int) (s : State) : State :=
  let s := slewTick (s.set (F.PP_REF_PHASE_E r) (ux 32 e))
  let was := s.refActive r
  let x := s.ref r
  let x := { x with act := true, last := s.now, pts := x.pts ++ [(s.raw, e + s.dev - s.raw)] }
  let s := setRef r x s
  let ok := if !s.refActive r then 0 else if was && x.ok != 0 then x.ok else if x.bad = 0 then s.now + 1 else 0
  let s := setRef r { x with ok := ok } s
  if s.ppActive != r then s
  else if s.ppState == ppSWITCHING then
    if s.pp.avg.length < switchSamples r then setPp { s.pp with avg := s.pp.avg ++ [e] } s else s
  else if s.ppClosed then ppInput e s
  else s

/-- A write of PP_PTPn_ERR (R224). -/
def wrPtpErr (n v : Nat) (s : State) : State := refSample n (sx 32 v) s
/-- PTP_SAMPLE (R224). -/
def execPtpSample (m n v : Nat) (s : State) : Host.Outcome State Fault Refusal :=
  done s (guarded m (A.PP_PTP_ERR n) (wrPtpErr (n % 2) v) s)

/-- Nominal frequency of a hardware reference in Hz (R224). -/
def State.refHz (s : State) (r : Nat) : Nat :=
  if r = 2 then (match s.get F.PP_WCLK_CFG_RATE with | 1 => 96000 | 2 => 192000 | _ => 48000)
  else if r = 3 then max 1 (s.sapHz (s.get F.PP_SAPREF_CFG_PORT))
  else 25000

/-- Phase error of an edge at instant `x`: its device time modulo the period, centred and negated, in units of 1/f of
1/256 ns (R224). -/
def State.edgeErr (s : State) (f x : Nat) : Int :=
  let p : Int := 256000000000
  let v := ((s.devThen x : Int) * f) % p
  Int.neg (if 2 * v < p then v else v - p)

/-- REF_SAMPLE (R224): the edges of a hardware reference in one ms, each with its instant and whether it rises, are averaged; of the
word clock, those that PP_WCLK_CFG.EDGE chooses. -/
def hwSample (r : Nat) (edges : List (Nat × Bool)) (s : State) : State :=
  let edges := (edges.filter (fun e => r != 2 || e.2 != s.on F.PP_WCLK_CFG_EDGE)).map (·.1)
  if r < 2 || 5 ≤ r || edges.isEmpty then s
  else
    let f := s.refHz r
    refSample r (roundAway (edges.foldl (fun a x => a + s.edgeErr f x) 0) (f * edges.length)) s
def execRefSample (r : Nat) (edges : List (Nat × Bool)) (t : Nat) (s : State) : Host.Outcome State Fault Refusal :=
  done s (hwSample r edges (s.atTime t))

/-! ## Frequency and qualification (R226, R233) -/

/-- Slopes between neighbouring samples, in units of 2^-40; those of a hardware reference are taken modulo its period. -/
def slopes (f : Nat) : List (Nat × Int) → List Int
  | (r0, x0) :: (r1, x1) :: t =>
    let d := x1 - x0
    let d := if f = 0 then d else d - roundAway (d * f) 256000000000 * 256000000000 / f
    (if r0 < r1 then [d * 2 ^ 40 / ((r1 - r0 : Nat) : Int)] else []) ++ slopes f ((r1, x1) :: t)
  | _ => []

/-- The frequency of reference `r` from the slope of the samples of the second: a value within the slopes between its
neighbouring samples, free within them (R226). -/
def estimate (r : Nat) (s : State) : State :=
  let x := s.ref r
  match slopes (if r < 2 then 0 else s.refHz r) x.pts with
  | [] => setRef r { x with pts := x.pts.drop (x.pts.length - 1) } s
  | d :: ds =>
    let lo := ds.foldl min d
    let hi := ds.foldl max d
    let (f, s) := s.draw
    let v := lo + (f : Int) % (hi - lo + 1)
    let ppm := max 1 (min 1000 (s.get F.PP_QUAL_QUAL_PPM))
    let inside := decide (v.natAbs * 1000000 ≤ ppm * 2 ^ 40)
    let bad := if inside then 0 else if x.bad = 0 then s.now + 1 else x.bad
    let ok := if !inside then 0 else if x.bad != 0 && s.refActive r then s.now + 1 else x.ok
    setRef r { x with pts := x.pts.drop (x.pts.length - 1), bad := bad, ok := ok } (s.set (F.PP_REF_FREQ_F r) (ux 32 (satS 32 v)))

/-- FREQUENCY_ESTIMATE (R226, R233): once a second, for every reference (DESIGN CHOICE: log entry 52). -/
def freqEstimate (s : State) : State :=
  if s.now < s.pp.freqAt + uS then s
  else showPp (showDisagree ((List.range 5).foldl (fun u r => estimate r u) (setPp { s.pp with freqAt := s.now } s)))
def execFrequencyEstimate (t : Nat) (s : State) : Host.Outcome State Fault Refusal := done s (freqEstimate (s.atTime t))

/-- REF_QUALIFIED (R226): the conditions of reference `r` have held for QUAL_MS. -/
def refQualified (r : Nat) (s : State) : State :=
  let x := s.ref r
  if r < 5 && !s.refValid r && s.refActive r && x.bad == 0 && x.ok != 0
      && decide (x.ok - 1 + max 100 (s.get F.PP_QUAL_QUAL_MS) * uMs ≤ s.now) then
    showPp (ppWake (showDisagree (setRef r { x with since := s.now } (s.setBit F.PP_REFSTAT_VALID r true))))
  else s
def execRefQualified (r t : Nat) (s : State) : Host.Outcome State Fault Refusal := done s (refQualified r (s.atTime t))

/-- REF_INVALID (R226): no edge of a hardware reference for two periods (`lost`), no write of a PTP reference within its
timeout, or 100 ms outside the frequency window. -/
def refInvalid (r : Nat) (lost : Bool) (s : State) : State :=
  let x := s.ref r
  if r < 5 && ((lost && 2 ≤ r) || !s.refActive r || (x.bad != 0 && x.bad - 1 + 100 * uMs ≤ s.now)) then loseRef r s else s
def execRefInvalid (r : Nat) (lost : Bool) (t : Nat) (s : State) : Host.Outcome State Fault Refusal :=
  done s (refInvalid r lost (s.atTime t))

/-! ## Lock, reversion, hold (R234–R236) -/

/-- LOCK_ACHIEVED (R235). -/
def lockAchieved (s : State) : State :=
  if s.ppState == ppACQUIRING && s.pp.below != 0 && decide (s.pp.below - 1 + s.get F.PP_LOCK_LOCK_MS * uMs ≤ s.now)
  then showPp (ppGo ppLOCKED s) else s
def execLockAchieved (t : Nat) (s : State) : Host.Outcome State Fault Refusal := done s (lockAchieved (s.atTime t))

/-- LOCK_LOSS (R235). -/
def lockLoss (s : State) : State :=
  if s.ppState == ppLOCKED && s.pp.above != 0 && decide (s.pp.above - 1 + 100 * uMs ≤ s.now)
  then showPp (ppGo ppACQUIRING (s.set F.PP_STAT_LOCKLOSS 1)) else s
def execLockLoss (t : Nat) (s : State) : Host.Outcome State Fault Refusal := done s (lockLoss (s.atTime t))

/-- REVERSION (R234): to SEL where its hold-off has ended, else to the best candidate whose hold-off has. -/
def reversion (s : State) : State :=
  match s.reverts.find? s.heldOff with
  | some r => showPp (ppSwitch r s)
  | none => s
def execReversion (t : Nat) (s : State) : Host.Outcome State Fault Refusal := done s (reversion (s.atTime t))

/-- LOCKED time since the last update of HOLD_RATE (R236). -/
def State.lockedFor (s : State) : Nat := s.pp.holdAcc + (s.now - s.pp.holdAt)

/-- HOLD_RATE_UPDATE (R236): once a second of LOCKED time, HOLD_RATE moves one 300th of the way to the mean of the rates written since
the last update (DESIGN CHOICE: log entry 52). -/
def holdUpdate (s : State) : State :=
  if !(s.ppState == ppLOCKED && uS ≤ s.lockedFor) then s
  else
    let p := s.pp
    let h := s.holdRate
    let v := if p.rateN = 0 then h else h + (p.rateSum - h * p.rateN) / (300 * p.rateN : Nat)
    let s := (setPp { p with holdAt := s.now, holdAcc := s.lockedFor - uS, rateSum := 0, rateN := 0 } s).set F.PP_HOLD_RATE_RATE (ux 32 v)
    let s := s.incSat F.PP_HOLD_AGE_SECONDS
    if 60 ≤ s.get F.PP_HOLD_AGE_SECONDS then s.set F.PP_STAT_HISTVALID 1 else s
def execHoldRateUpdate (t : Nat) (s : State) : Host.Outcome State Fault Refusal := done s (holdUpdate (s.atTime t))

/-! ## Phase steps (R237) -/

/-- A write of PP_PSTEP_CMD (R232, R237). -/
def wrPstep (v : Nat) (s : State) : State :=
  let imm := bitOf v 1
  let d := sx 32 (s.get F.PP_PSTEP_DELTA)
  if v / 65536 != keyA55A || !bitOf v 0 then s
  else if s.ppActive == 5 then psResult psNOREF s
  else if imm && !s.on F.TIME_STAT_ARMED then psResult psTIMESTEP s
  else if s.pp.held.isSome then psResult psKEYBUSY s
  else if s.ppState == ppSWITCHING then (setPp { s.pp with held := some (imm, d) } s).set F.PP_PSTEP_STAT_BUSY 1
  else phaseStep imm d s
def execPhaseStepSlew (m v : Nat) (s : State) : Host.Outcome State Fault Refusal :=
  done s (guarded m A.PP_PSTEP_CMD (wrPstep (withBit v 1 false)) s)
def execPhaseStepImmediate (m v : Nat) (s : State) : Host.Outcome State Fault Refusal :=
  done s (guarded m A.PP_PSTEP_CMD (wrPstep (withBit v 1 true)) s)

/-- SLEW_DONE (R237). -/
def slewDone (s : State) : State :=
  let s := slewTick s
  if s.pp.slewing && s.get F.PP_PSTEP_REMAIN_REMAIN == 0 then
    let s := setPp { s.pp with slewing := false, slewMoved := 0 } s
    (psResult psDONE (s.set F.PP_PSTEP_STAT_BUSY s.pp.held.isSome.toNat)).set F.PP_EVT_PSTEP 1
  else s
def execSlewDone (t : Nat) (s : State) : Host.Outcome State Fault Refusal := done s (slewDone (s.atTime t))

/-- SWITCH_COMPLETE (R231): the build-out is set and the loop closes (DEDUCED: log entry 53). -/
def switchComplete (s : State) : State :=
  let r := s.ppActive
  let n := switchSamples r
  if !(s.ppState == ppSWITCHING && s.pp.avg.length == n) then s
  else
    let p := s.pp
    let e := roundAway (p.avg.foldl (· + ·) 0) n
    let s := (setBuildout r (e - p.u0) s).inc F.PP_SWCOUNT_COUNT
    let since := fun (x : RefS) => if p.swAt ≤ x.since then { x with since := s.now } else x
    let refs := (p.refs.map (fun e => (e.1, since e.2))).filter (fun e => e.2 != {})
    let s := setPp { s.pp with u := p.u0, avg := [], refs := refs, slewAt := s.dev, slewMoved := 0 } s
    let s := capEvent 0 0 (s.set F.PP_EVT_SWITCH 1)
    showPp (ppAfter (closeLoop (ppGo (if p.wasLocked then ppLOCKED else ppACQUIRING) s)))
def execSwitchComplete (t : Nat) (s : State) : Host.Outcome State Fault Refusal := done s (switchComplete (s.atTime t))

/-! ## Register writes (R227, R229, R238) -/

/-- The rate the state calls for when STEER is set (R227). -/
def steerNow (s : State) : State :=
  if s.ppState == ppFREERUN then steer s.freerunRate s
  else if s.ppState == ppHOLDOVER then steer s.holdRate s
  else if s.ppState == ppSWITCHING then steerHold s
  else s

/-- A write of PP_CTRL (R227, R229, R232). -/
def wrPpCtrl (v : Nat) (s : State) : State :=
  let was := s.on F.PP_CTRL_STEER
  let s := s.writeRegPlain A.PP_CTRL v
  let s := if !was && s.on F.PP_CTRL_STEER then steerNow s else s
  showPp (if s.ppState == ppSWITCHING then setPp { s.pp with selPend := true } s else ppSelect s)
def execSelWrite (m v : Nat) (s : State) : Host.Outcome State Fault Refusal := done s (guarded m A.PP_CTRL (wrPpCtrl v) s)
def execSteerEnable (m v : Nat) (s : State) : Host.Outcome State Fault Refusal := done s (guarded m A.PP_CTRL (wrPpCtrl v) s)

/-- A write of PP_FREERUN_RATE (R227). -/
def wrFreerun (v : Nat) (s : State) : State :=
  let s := s.set F.PP_FREERUN_RATE_RATE v
  if s.ppState == ppFREERUN then steer s.freerunRate s else s
def execFreerunRateWrite (m v : Nat) (s : State) : Host.Outcome State Fault Refusal :=
  done s (guarded m A.PP_FREERUN_RATE (wrFreerun v) s)

/-- Enables of the clock outputs: bit 0 MCLK_OUT0, 1 MCLK_OUT1, 2 WCLK_OUT. -/
def State.clkEn (s : State) (k : Nat) : Bool :=
  s.on (match k with | 0 => F.PP_CLKOUT_MC0_EN | 1 => F.PP_CLKOUT_MC1_EN | _ => F.PP_CLKOUT_WC_EN)

/-- Half periods of the audio clock since the anchor: 24.576 MHz of device time, so that a rising edge falls at every breath instant, and
steps do not move it (R228, R247). -/
def State.audioHalves (s : State) : Int := s.sinceAnchor s.dev * 49152000 / 256000000000

/-- Audio-clock periods in a breath (R228). -/
def State.audioPeriods (s : State) : Nat := 24576000 / s.fs

/-- Half periods of the audio clock in half a period of output `k` (R238). -/
def State.clkHalf (s : State) (k : Nat) : Nat :=
  match k with
  | 0 => 2 ^ s.get F.PP_CLKOUT_MC0_DIV
  | 1 => 2 ^ s.get F.PP_CLKOUT_MC1_DIV
  | _ => if s.on F.PP_CLKOUT_WC_48 then 512 else s.audioPeriods

/-- Half periods of output `k` since it started. -/
def State.clkHalves (s : State) (k : Nat) : Int := (s.audioHalves - mget 0 k s.pp.clkFrom) / (s.clkHalf k : Nat)

/-- The level of clock output `k`: its wave while it runs or ends its last high phase (R238), and under HALT the level held (R239). -/
def State.clkLevel (s : State) (k : Nat) : Bool :=
  match s.pp.hold with
  | some v => bitOf v k
  | none => (bitOf s.pp.clkRun k || decide (s.audioHalves < mget 0 k s.pp.clkStop)) && s.clkHalves k % 2 == 0

/-- The levels of the clock, CLKSTAT and REFACT balls (R235, R238). -/
def State.ppLevels (s : State) : Nat :=
  (List.range 3).foldl (fun n k => withBit n k (s.clkLevel k)) 0 + s.ppState % 8 * 8 + s.ppActive % 8 * 64

/-- HALT: the balls hold their levels (R239). -/
def holdPp (s : State) : State := setPp { s.pp with hold := some (s.pp.hold.getD s.ppLevels) } s

/-- A write of PP_CLKOUT: a disabled output stops low after its current high phase (R238). -/
def wrClkout (v : Nat) (s : State) : State :=
  let ends := fun (k : Nat) =>
    if s.clkLevel k then mget 0 k s.pp.clkFrom + (s.clkHalves k + 1) * (s.clkHalf k : Nat) else 0
  let u := s.writeRegPlain A.PP_CLKOUT v
  [0, 1, 2].foldl (fun u k =>
    if u.clkEn k || !bitOf u.pp.clkRun k then u
    else setPp { u.pp with clkRun := withBit u.pp.clkRun k false, clkStop := mset 0 k (ends k) u.pp.clkStop } u) u

/-- CLOCK_OUTPUT_START (R238): in the cycle of a breath instant enabled output `k` starts, with a full first period; in HALT the
outputs hold (R239). -/
def clockStart (k : Nat) (s : State) : State :=
  let d := s.since s.n
  if k < 3 && s.clkEn k && !bitOf s.pp.clkRun k && s.breathing && decide (0 ≤ d && d < 256) && s.fcuState != 2 then
    setPp { s.pp with clkRun := withBit s.pp.clkRun k true, clkStop := mset 0 k 0 s.pp.clkStop,
                      clkFrom := mset 0 k ((s.sinceAnchor (s.dev - d)) * 49152000 / 256000000000) s.pp.clkFrom } s
  else s
def execClockOutputStart (k t : Nat) (s : State) : Host.Outcome State Fault Refusal := done s (clockStart k (s.atTime t))

/-- References that no longer meet R226 after a register write become invalid at once; the qualification time of one that meets it
from then on begins. -/
def recheckRefs (s : State) : State :=
  showPp ((List.range 5).foldl (fun u r =>
    let x := u.ref r
    if x.act && !u.refActive r then (if u.bit F.PP_REFSTAT_VALID r then loseRef r u else setRef r { x with ok := 0 } u)
    else if u.refActive r && x.ok == 0 && x.bad == 0 then setRef r { x with ok := u.now + 1 } u else u) s)

/-- Power-on reset and warm restart (R235). -/
def resetPp (s : State) : State := { s.resetRegs (inBlock 3) with pp := { freqAt := s.now } }

/-- A write of a PP register (R241). -/
def wrPP (a v : Nat) (s : State) : State :=
  let o := a % 0x10000
  if o == 0 then wrPpCtrl v s
  else if o == 0x28 || o == 0x2C then wrPtpErr ((o - 0x28) / 4) v s
  else if o == 0x54 then wrFreerun v s
  else if o == 0x5C then wrPstep v s
  else if o == 0x68 then wrClkout v s
  else if o == 0x20 then
    let s := (slewTick s).writeRegPlain a v
    setPp { s.pp with slewAt := s.dev, slewMoved := 0 } s
  else if o == 0xC || o == 0x24 || o == 0x34 then recheckRefs (s.writeRegPlain a v)
  else showPp (showDisagree (s.writeRegPlain a v))

/-- LOSS_OF_CLOCK (R271): a slave port hears no FS edge for two frame periods, or two malformed frames in a row; Pitch Pipe
reference 3 on the port becomes invalid (R226). -/
def lossOfClock (p : Nat) (s : State) : State :=
  let x := s.sapS p
  let st := s.sapState p
  let silent := decide (x.fsAt + 512000000000 / max 1 (s.sapHz p) < s.now)
  if (st == saALIGNING || st == saRUN || st == saUNALIGNED) && !s.sapMaster p && (silent || 2 ≤ x.bad) then
    let s := setSapState p saLOCLK (s.setSap p { x with good := 0, back := false, txw := [] })
    let s := ((s.set (F.SAPp_STAT_LOCLK_EV p) 1).setBit F.SAP_EVT_LOCLK p true).incSat (F.SAPp_CNT1_LOSSES p)
    let s := raiseF 72 p s
    let s := if s.get F.PP_SAPREF_CFG_PORT == p then loseRef 3 s else s
    if x.closing then sapOff p s else s
  else s
def execLossOfClock (p t : Nat) (s : State) : Host.Outcome State Fault Refusal := done s (lossOfClock p (s.atTime t))

end Sys2Proof.Machine
end

