-- ==== Sys2Proof/Machine/Surv.lean ====
section
/-!
DEFINITION. The surveillance unit: readings, temperature limits, loudspeaker lines and cable lengths (R390–R396, R399).
-/
namespace Sys2Proof.Machine

/-! ## Readings (R390, R391) -/

/-- A 16-bit temperature in 0.1 °C. -/
def tempOf (w : Nat) : Int := sx 16 w

/-- The temperature thresholds in force; a value outside its stated range leaves the threshold open (R399). -/
def State.thermCrit (s : State) : Nat :=
  let c := s.get F.SURV_THERM_CRIT
  if 1000 ≤ c && c ≤ 1700 then c else Config.thermBeyond c
def State.thermWarn (s : State) : Nat :=
  let w := s.get F.SURV_THERM_WARN
  if 800 ≤ w && w ≤ s.thermCrit then w else Config.thermBeyond w

/-- The sensors against their thresholds, in ascending order (R391). -/
def thermCheck (temps : List Int) (s : State) : State :=
  temps.zipIdx.foldl (fun u (e : Int × Nat) =>
    let (x, k) := e
    let cool := decide (x ≤ (u.thermWarn : Int) - 50)
    let u := if cool then { u with surv := { u.surv with hot := u.surv.hot.filter (· != k) } } else u
    let u := if decide ((u.thermWarn : Int) ≤ x) && !u.surv.hot.contains k
      then raiseF 94 k { u with surv := { u.surv with hot := k :: u.surv.hot } } else u
    if decide ((u.thermCrit : Int) ≤ x) then raiseF 95 k u else u) s

/-- The hottest sensor: the lowest-numbered of equal ones (R391). -/
def hottest (temps : List Int) : Nat × Int :=
  temps.zipIdx.foldl (fun (b : Nat × Int) (e : Int × Nat) => if b.2 < e.1 then (e.2, e.1) else b) (0, temps.headD 0)

/-- A reading through a board divider, Q4.12 (R390, R6) (DEDUCED: log entry 27). -/
def divided (mv ratio : Nat) : Nat := (roundAway ((mv * ratio : Nat) : Int) 4096).toNat

/-- ADC_ROUND (R390, R391): the means of 32 rounds: rails in mV, VIN and VHOLD in mV at the balls, die sensors as 16-bit
words in 0.1 °C, and whether the bandgap lies within its limits (DEDUCED: log entry 27). -/
def adcRound (rails : List Nat) (vin vhold : Nat) (temps : List Nat) (bandgap : Bool) (s : State) : State :=
  let ts := (List.range 8).map (fun k => tempOf (temps.getD k 0))
  if s.fencedGroup 21 then thermCheck ts s
  else if s.domains < psREADY then thermCheck ts (if bandgap then s else raiseF 97 0 s)
  else
    let s := (List.range 16).foldl (fun u r => u.set (F.SURV_RAIL_MV r) (rails.getD r 0)) s
    let s := (s.set F.SURV_VIN_VIN (divided vin (s.get F.PMU_DIV_CFG_VIN_DIV))).set F.SURV_VIN_VHOLD
      (divided vhold (s.get F.PMU_DIV_CFG_VHOLD_DIV))
    let s := [0, 1, 2, 3].foldl (fun u k =>
      (u.set (F.SURV_TEMP_T0 k) (temps.getD (2 * k) 0)).set (F.SURV_TEMP_T1 k) (temps.getD (2 * k + 1) 0)) s
    let (k, x) := hottest ts
    let s := (s.set F.SURV_TMAX_SENSOR k).set F.SURV_TMAX_TEMP (ux 16 x)
    let s := s.set F.SURV_STAT_ADC_OK bandgap.toNat
    let s := if bandgap then s else raiseF 97 0 s
    thermCheck ts s

/-! ## Lines (R392, R394) -/

/-- A line may be enabled (R392). -/
def State.lineCfgOk (s : State) (j : Nat) : Bool :=
  let v := s.get (F.SURV_LINE_CFG_VCH j)
  let i := s.get (F.SURV_LINE_CFG_ICH j)
  let sense := fun (c : Nat) => s.on (F.BSIc_CFG_EN c) && s.bsiSense c
  s.get (F.SURV_LINE_CFG_OUTPUT j) < 4608 && sense v && sense i && s.bsiPreset v == s.bsiPreset i && s.bsiFo v == s.fs && s.bsiFo i == s.fs

/-- A write of SURV_LINE_CFG: EN is checked; other writes while EN = 1 are ignored (R392, R399). -/
def wrLineCfg (j v : Nat) (s : State) : State :=
  if s.on (F.SURV_LINE_CFG_EN j) then
    if bitOf v 31 then s
    else
      let s := s.set (F.SURV_LINE_CFG_EN j) 0
      match s.surv.win with
      | some w => { s with surv := { s.surv with win := some { w with lines := w.lines.filter (· != j) } } }
      | none => s
  else
    let s := s.writeRegPlain (A.SURV_LINE_CFG j) (withBit (v % 2 ^ 32) 31 false)
    if !bitOf v 31 then s
    else if s.lineCfgOk j then s.set (F.SURV_LINE_CFG_EN j) 1
    else s.set (F.SURV_LINE_ZSTAT_CFGERR j) 1

/-- LINE_ENABLE: the write of EN = 1 with the other fields of SURV_LINE_CFG. -/
def execLineEnable (m j v : Nat) (s : State) : Host.Outcome State Fault Refusal :=
  done s (guarded m (A.SURV_LINE_CFG j) (wrLineCfg j (withBit (v % 2 ^ 32) 31 true)) s)

/-- Breaths of a window (R394). -/
def State.measLen (s : State) : Nat := max 10 (min 10000 (s.get F.SURV_CTRL_MEAS_MS)) * s.fs / 1000

/-- MEAS_GO written 1: ignored while BUSY and by a stopped unit (R315, R394) (DEDUCED: log entry 26). -/
def measGo (s : State) : State :=
  if s.on F.SURV_STAT_BUSY || s.fencedGroup 21 then s
  else
    let ls := (List.range 32).filter (fun j => s.on (F.SURV_LINE_CFG_EN j))
    { s.set F.SURV_STAT_BUSY 1 with surv := { s.surv with win := some { len := s.measLen, lines := ls } } }

/-- A write of SURV_CTRL: its fields, then MEAS_GO; a stopped unit adds no tone (R315, R399). -/
def wrSurvCtrl (v : Nat) (s : State) : State :=
  let s := s.writeRegPlain A.SURV_CTRL v
  let s := if s.fencedGroup 21 then s.set F.SURV_CTRL_PILOT_EN 0 else s
  if bitOf v 30 then measGo s else s

/-- MEAS_GO, with the fields that the write of SURV_CTRL carries. -/
def execMeasGo (m v : Nat) (s : State) : Host.Outcome State Fault Refusal :=
  done s (guarded m A.SURV_CTRL (wrSurvCtrl (withBit (v % 2 ^ 32) 30 true)) s)

/-- Adds breath `b` of line `j` to its sums (R394). -/
def measLine (b : Nat) (s : State) (q : SMap LineSum) (j : Nat) : SMap LineSum :=
  let v := (s.tap (bsiTap (s.get (F.SURV_LINE_CFG_VCH j)))).val b
  let i := (s.tap (bsiTap (s.get (F.SURV_LINE_CFG_ICH j)))).val b
  let k := s.toneK j b
  let c := sineWord ((k + 1024) % 4096)
  let n := sineWord k
  let x : LineSum := mget {} j q
  mset {} j ⟨x.vc + v * c, x.vs + v * n, x.ic + i * c, x.is_ + i * n⟩ q

/-- The start of breath `n`: a window opens with it, or takes in breath n − 1 (R394) (DEDUCED: log entry 26). -/
def survBreath (n : Nat) (s : State) : State :=
  match s.surv.win with
  | none => s
  | some w =>
    match w.first with
    | none => { s with surv := { s.surv with win := some { w with first := some n } } }
    | some f =>
      if f < n && n ≤ f + w.len then
        { s with surv := { s.surv with win := some { w with sums := w.lines.foldl (measLine (n - 1) s) w.sums } } }
      else s

/-- Integer square root. -/
def sqrtNat (k n : Nat) : Nat := (List.range k).reverse.foldl (fun r i => if (r + 2 ^ i) * (r + 2 ^ i) ≤ n then r + 2 ^ i else r) 0

/-- Loads the result of line `j`: within 0.1 % and 0.01°, and otherwise free (R394); a result that the rule or the fields
do not give is free (DEDUCED: log entry 26). -/
def loadLine (s : State) (e : Nat × LineSum) : State :=
  let (j, x) := e
  let i2 := (x.ic * x.ic + x.is_ * x.is_).toNat
  let v2 := (x.vc * x.vc + x.vs * x.vs).toNat
  if i2 = 0 then s.set (F.SURV_LINE_ZSTAT_VALID j) 0
  else
    let vs := s.get (F.SURV_LINE_VSCALE_MV j)
    let is_ := s.get (F.SURV_LINE_ISCALE_MA j)
    let (d, s) := s.draw
    let (h, s) := s.draw
    let z0 := sqrtNat 64 (1000 * 1000 * vs * vs * v2 / (is_ * is_ * i2))
    let z := if is_ = 0 || 2 ^ 32 ≤ z0 then d % 2 ^ 32 else z0 - z0 / 1000 + d % (2 * (z0 / 1000) + 1)
    let ph : Int := if v2 = 0 then ((h % 36001 : Nat) : Int) - 18000
      else angle (x.vc * x.ic + x.vs * x.is_) (x.vs * x.ic - x.vc * x.is_) + ((h % 2 : Nat) : Int)
    let s := ((s.set (F.SURV_LINE_ZMAG_ZMAG j) z).set (F.SURV_LINE_ZSTAT_ZPH j) (ux 16 ph)).set (F.SURV_LINE_ZSTAT_VALID j) 1
    let base := s.get (F.SURV_LINE_BASE_ZMAG j)
    let zm := s.get (F.SURV_LINE_ZMAG_ZMAG j)
    let dm := ((zm : Int) - base).natAbs * 1000
    let dp := (ph - sx 16 (s.get (F.SURV_LINE_BPH_ZPH j))).natAbs
    if base != 0 && (s.get (F.SURV_LINE_TOL_TOL_MAG j) * base < dm || s.get (F.SURV_LINE_TOL_TOL_PH j) < dp)
    then raiseF 96 j (s.set (F.SURV_LINE_ZSTAT_OUT j) 1) else s

/-- MEASURE_DONE (R394): the last breath of the window has ended. -/
def measureDone (s : State) : State :=
  match s.surv.win with
  | some w =>
    match w.first with
    | some f =>
      if f + w.len ≤ s.n && s.breathing then
        let s := { s.set F.SURV_STAT_BUSY 0 with surv := { s.surv with win := none } }
        (w.lines.map (fun j => (j, mget {} j w.sums))).foldl loadLine s
      else s
    | none => s
  | none => s
def execMeasureDone (t : Nat) (s : State) : Host.Outcome State Fault Refusal := done s (measureDone (s.atTime t))

/-! ## Cable lengths (R396) -/

/-- A length in 0.1 m, where its field holds it. -/
def lenField (x : Int) : Nat := if 0 ≤ x && x < 65536 then x.toNat else (Config.lenBeyond x).toNat

/-- SRC and LEN of port `p`. -/
def State.netLen (s : State) (p : Nat) : Nat × Nat :=
  let b := fun (i : Nat) => s.get (F.SFP_ID_BYTES p (i / 4)) / 256 ^ (i % 4) % 256
  if s.on (F.SFP_STAT_ID_VALID p) && (bitOf (b 8) 2 || bitOf (b 8) 3) then (2, b 18 * 10)
  else
    let d := s.get (F.SURV_NET_PDLY_PDLY p)
    if d = 0 then (0, 0) else (1, lenField (roundAway (d : Int) 128))

/-- VALID and LEN of serial port `p`; only a master port measures. -/
def State.sapLen (s : State) (p : Nat) : Nat × Nat :=
  if !s.on (F.SAPp_CABLE_STAT_VALID p) then (0, 0)
  else
    let d : Int := (s.get (F.SAPp_CABLE_STAT_RTT p) : Int) - s.get (F.SAPp_CABLE_CFG_TURN p)
    (1, lenField (roundAway (d * 10) (2 * max 1 (s.get F.SURV_SAP_NSPM_NSPM))))

/-! ## Registers, baselines, reset -/

/-- Loads each line's latest baseline of the journal (R395). -/
def loadBaselines (s : State) : State :=
  (s.lig.live.filter (fun r => r.type == jBASELINE && jByte r 0 < 32)).foldl (fun u r =>
    let w := fun (i n : Nat) => leNat ((r.body.drop i).take n)
    let j := jByte r 0
    (((u.set (F.SURV_LINE_BASE_ZMAG j) (w 8 4)).set (F.SURV_LINE_BPH_ZPH j) (w 12 2)).set (F.SURV_LINE_TOL_TOL_MAG j) (w 14 2)).set
      (F.SURV_LINE_TOL_TOL_PH j) (w 16 2)) s

/-- Unit reset of SURV: the housekeeper reloads the baselines (R29, R399) (DEDUCED: log entry 30). -/
def resetSurv (s : State) : State :=
  loadBaselines { s.resetRegs (inBlock 19) with surv := { s.surv with win := none } }

/-- A write of a SURV register; a line's registers other than EN are closed while EN = 1 (R399). -/
def wrSURV (a v : Nat) (s : State) : State :=
  let o := a % 0x10000
  let j := a / 2 ^ 32
  if o == 0 then wrSurvCtrl v s
  else if o == 0x84 then wrLineCfg j v s
  else if 0x88 ≤ o && o < 0xA8 && s.on (F.SURV_LINE_CFG_EN j) then s
  else s.writeRegPlain a v

end Sys2Proof.Machine
end

