-- ==== Sys2Proof/Machine/Lig.lean ====
section
/-!
DEFINITION. The Ligature journal on the flash: sectors, records, commits, the scan, checkpoints, reclaim, hours, software
appends and reads (R328, R339–R352). `LigS.live` holds live records with the SEQ under which they were committed.
-/
namespace Sys2Proof.Machine

/-! ## The flash (R328) -/

/-- Bytes of the flash, sectors of the ring, and flash address of a ring sector. -/
def flashBytes : Nat := if Config.flash2Gbit then 0x10000000 else 0x8000000
def ringLen : Nat := if Config.flash2Gbit then 2544 else 496
def ringBase (k : Nat) : Nat := 0x6100000 + k * 0x10000

/-- A byte of the flash array as programmed (DESIGN CHOICE: log entry 1). -/
def State.fbyte (s : State) (a : Nat) : Byte := mget 0xFF a s.flash
def State.fbytes (s : State) (a : Nat) : Nat → List Byte
  | 0 => []
  | k + 1 => s.fbyte a :: s.fbytes (a + 1) k
def State.fword (s : State) (a : Nat) : Nat := leNat (s.fbytes a 4)

/-- Programs bytes: programming clears bits and sets none. -/
def progFlash (a : Nat) : List Byte → State → State
  | [], s => s
  | b :: r, s =>
    progFlash (a + 1) r (if a < flashBytes then { s with flash := mset 0xFF a (s.fbyte a &&& b) s.flash } else s)

/-- Erases the 64 KiB sector at `a`. -/
def eraseFlash (a : Nat) (s : State) : State :=
  { s with flash := mkeep (fun x => !(a ≤ x && x < a + 0x10000)) s.flash }

/-- Changes the journal's state. -/
def setLig (f : LigS → LigS) (s : State) : State := { s with lig := f s.lig }

/-- States of the engine (LIG_STAT.STATE). -/
def lgSCAN : Nat := 0
def lgIDLE : Nat := 1
def lgFLUSH : Nat := 5
def lgSTOPPED : Nat := 6
def State.ligState (s : State) : Nat := s.get F.LIG_STAT_STATE

/-! ## Sectors (R339, R345, R347) -/

def State.retired (s : State) (k : Nat) : Bool := s.lig.retired.contains k
def State.usable (s : State) : List Nat := (List.range ringLen).filter (fun k => !s.retired k)

/-- The usable sectors after `k` in ring order, ending with `k`. -/
def State.ringAfter (s : State) (k : Nat) : List Nat :=
  ((List.range ringLen).map (fun i => (k + 1 + i) % ringLen)).filter (fun j => !s.retired j)
def State.nextUsable (s : State) (k : Nat) : Nat := (s.ringAfter k).headD k

/-- The oldest sector that is not erased: the first after the head, in ring order, that no erase has made ready. -/
def State.ligTail (s : State) : Nat :=
  ((s.ringAfter s.lig.headSec).find? (fun k => !s.lig.ready.contains k)).getD s.lig.headSec

/-- LIG_HEAD, LIG_RING, LIG_WEAR and WORN show the ring (R352). -/
def showRing (s : State) : State :=
  let s := (s.set F.LIG_HEAD_SECTOR s.lig.headSec).set F.LIG_HEAD_OFFSET s.lig.headOfs
  let n := s.usable.length
  let s := ((s.set F.LIG_RING_USABLE n).set F.LIG_RING_TAIL s.ligTail).set F.LIG_STAT_WORN (decide (n < 32)).toNat
  (s.set F.LIG_WEAR_MAXERASE (s.lig.erases.foldl (fun m e => max m e.2) 0)).set F.LIG_WEAR_RETIRED s.lig.retired.length

/-- A sector is retired (R347). -/
def retire (k : Nat) (s : State) : State :=
  let s := progFlash (ringBase k) [0, 0, 0, 0] s
  let s := setLig (fun l => { l with retired := k :: l.retired, ready := l.ready.filter (· != k), newest := mdel k l.newest }) s
  let s := if s.lig.headSec == k then setLig (fun l => { l with headSec := s.nextUsable k, headOfs := 16 }) s else s
  raiseF 115 k (showRing (s.set F.LIG_STAT_RETIRE 1))

/-- A SEQ lies before another in serial order (R418). -/
def seqBefore (a b : Nat) : Bool := serAfter 32 b a

/-- The sector may be erased: it holds no record, or its newest one is older than the latest complete checkpoint (R345). -/
def State.reclaimable (s : State) (k : Nat) : Bool :=
  match mget 0 k s.lig.newest with
  | 0 => true
  | q + 1 => s.lig.ckBegin != 0 && seqBefore q (s.lig.ckBegin - 1)

/-- Erases sector `k` and programs its header, or retires it where that fails or its erase count would exceed 80,000
(R339, R347). -/
def eraseSector (k : Nat) (ok : Bool) (s : State) : State :=
  let e := mget 0 k s.lig.erases + 1
  if !ok || 80000 < e then retire k s
  else
    let h : List Byte := leBytes 4 0x4C494731 ++ leBytes 4 e ++ leBytes 4 (s.get F.LIG_TAI_SECONDS)
    let s := progFlash (ringBase k) (h ++ leBytes 4 (crc32c h)) (eraseFlash (ringBase k) s)
    showRing (setLig (fun l => { l with erases := mset 0 k e l.erases, newest := mdel k l.newest, ready := l.ready ++ [k] }) s)

/-! ## Records (R340) -/

/-- The bytes of a record up to its CRC. -/
def recBytes (r : JRec) : List Byte :=
  let b := leBytes 4 r.seq ++ leBytes 2 r.type ++ leBytes 2 (jLen r) ++ leBytes 4 r.opsec ++ leBytes 4 r.origseq ++ r.body
  b ++ leBytes 4 (crc32c b)

/-- The record at flash address `a` with at most `room` bytes after it in its sector, where it is committed. -/
def State.recAt (s : State) (a room : Nat) : Option JRec :=
  let n := leNat (s.fbytes (a + 6) 2)
  if n < 8 || 4064 < n || room < 13 + n then none
  else if s.fbyte (a + 12 + n) != 0x3C || s.fword (a + 8 + n) != crc32c (s.fbytes a (8 + n)) then none
  else some { type := leNat (s.fbytes (a + 4) 2), opsec := s.fword (a + 8), origseq := s.fword (a + 12),
              body := s.fbytes (a + 16) (n - 8), seq := s.fword a }

/-- The next multiple of 16. -/
def up16 (n : Nat) : Nat := (n + 15) / 16 * 16

/-- The committed records of ring sector `k` from offset `o` on whose SEQ follow each other from `q` on; answers the
offset after the last. -/
def State.walk (s : State) (k : Nat) : Nat → Nat → Nat → List JRec × Nat
  | 0, o, _ => ([], o)
  | f + 1, o, q =>
    match s.recAt (ringBase k + o) (0x10000 - o) with
    | none => ([], o)
    | some r =>
      if r.seq == q then
        let (l, e) := s.walk k f (up16 (o + jTotal r)) ((q + 1) % 2 ^ 32)
        (r :: l, e)
      else ([], o)

/-- SEQ of the first record of sector `k`: its header and that record must be good (R342). -/
def State.firstSeq (s : State) (k : Nat) : Option Nat :=
  let a := ringBase k
  if s.fword a == 0x4C494731 && s.fword (a + 12) == crc32c (s.fbytes a 12) then (s.recAt (a + 16) (0x10000 - 16)).map (·.seq)
  else none

def State.sectorRecs (s : State) (k : Nat) : List JRec × Nat :=
  match s.firstSeq k with | some q => s.walk k 4096 16 q | none => ([], 16)

/-- The head moves on to a sector where a record of `n` bytes fits (R340). -/
def placeHead (n : Nat) (s : State) : State :=
  if 0x10000 < s.lig.headOfs + n then
    setLig (fun l => { l with headSec := s.nextUsable l.headSec, headOfs := 16, filled := l.filled + 1 }) s
  else s

/-- The engine has erased and headed the head's sector (R342, R345). -/
def State.headReady (s : State) : Bool := s.lig.headOfs != 16 || s.lig.ready.contains s.lig.headSec

/-- A live record replaces the one of its type and key (R341). -/
def takeLive (r : JRec) (l : List JRec) : List JRec := if jIsLive r.type then l.filter (fun q => !jSame q r) ++ [r] else l

/-- Commits a record at the head; none where the head's sector is not ready (R340) (DEDUCED: log entry 28). -/
def writeRec (r : JRec) (s : State) : Option State :=
  let s := placeHead (jTotal r) s
  if !s.headReady then none
  else
    let k := s.lig.headSec
    let s := progFlash (ringBase k + s.lig.headOfs) (recBytes r ++ [0x3C]) s
    let s := setLig (fun l => { l with headOfs := up16 (l.headOfs + jTotal r), ready := l.ready.filter (· != k)
                                       newest := mset 0 k (r.seq + 1) l.newest, live := takeLive r l.live }) s
    some (showRing s)

/-! ## Hours (R341) -/

/-- The HOURS bin of a temperature in 0.1 °C. -/
def hourBin (x : Int) : Nat :=
  if x < 0 then 0 else if x < 250 then 1 else if x < 500 then 2 else if x < 750 then 3 else if x < 1000 then 4
  else if x < 1250 then 5 else if x < 1400 then 6 else 7

/-- Adds the whole seconds since the bins last counted to the bin of the hottest sensor (DESIGN CHOICE: log entry 61). -/
def accrue (s : State) : State :=
  let n := s.now / uS - s.lig.hoursAt / uS
  let b := hourBin (tempOf (s.get F.SURV_TMAX_TEMP))
  setLig (fun l => { l with hours := l.hours.modify b (· + n), hoursAt := s.now }) s

/-- Body of an HOURS record. -/
def State.hoursBody (s : State) : List Byte := s.lig.hours.flatMap (leBytes 4)

/-- Admits an HOURS record; at a flush even beyond the budget (R341, R350). -/
def hoursRecord (force : Bool) (s : State) : State :=
  let s := accrue s
  let s := setLig (fun l => { l with lastHours := s.opsec }) s
  if force then
    let r : JRec := { type := jHOURS, opsec := s.opsec, origseq := 0, body := s.hoursBody, seq := s.lig.nextSeq }
    jShow (setLig (fun l => { l with pend := l.pend ++ [r], nextSeq := (l.nextSeq + 1) % 2 ^ 32 }) s)
  else journal jHOURS s.hoursBody s

/-- HOURS_RECORD: every 3,600 s of operation. -/
def execHoursRecord (t : Nat) (s : State) : Host.Outcome State Fault Refusal :=
  let s1 := accrue (s.atTime t)
  done s (if s1.ligState != lgSCAN && s1.lig.lastHours + 3600 ≤ s1.opsec then hoursRecord false s1 else s1)

/-! ## Commits (R340, R348) -/

/-- The engine programs: not while it scans or is stopped by a fence (R351). -/
def State.ligRuns (s : State) : Bool := s.ligState == lgIDLE || s.ligState == lgFLUSH

/-- RECORD_COMMIT: the oldest pending record; `ok` tells whether its programs and read-backs succeed. A failure retires
the sector, and the record takes the next SEQ, with every pending one after it (DEDUCED: log entry 28). -/
def recordCommit (ok : Bool) (s : State) : State :=
  match s.lig.pend with
  | [] => s
  | r :: rest =>
    if !s.ligRuns || s.fcu.stopped || s.sys.pinHeld then s
    else if ok then
      match writeRec r s with
      | none => s
      | some s => jPump (jRetry (jPump (setLig (fun l => { l with pend := rest }) s)))
    else
      let s := placeHead (jTotal r) s
      if !s.headReady then s
      else
        let k := s.lig.headSec
        let bump := fun (q : JRec) => { q with seq := (q.seq + 1) % 2 ^ 32 }
        jShow (retire k (setLig (fun l => { l with pend := (r :: rest).map bump, nextSeq := (l.nextSeq + 1) % 2 ^ 32 }) s))
def execRecordCommit (ok : Bool) (t : Nat) (s : State) : Host.Outcome State Fault Refusal := doneAon s (recordCommit ok (s.atTime t))

/-- RECLAIM (R345): the head's sector where it still needs its erase, else the oldest sector that is not erased; `ok`
tells whether erase and header succeed. -/
def reclaim (ok : Bool) (s : State) : State :=
  let k := if s.headReady then s.ligTail else s.lig.headSec
  if s.ligState == lgIDLE && !s.retired k && s.reclaimable k && !(k == s.lig.headSec && s.headReady) then eraseSector k ok s else s
def execReclaim (ok : Bool) (t : Nat) (s : State) : Host.Outcome State Fault Refusal := done s (reclaim ok (s.atTime t))

/-! ## Checkpoints (R344, R346) -/

/-- A sector whose header TIME lies 5 years or more before LIG_TAI (R346). -/
def State.aged (s : State) (k : Nat) : Bool :=
  let tai := s.get F.LIG_TAI_SECONDS
  tai != 0 && (s.firstSeq k).isSome && decide (s.fword (ringBase k + 8) + 157788000 ≤ tai)

/-- Sectors ahead of the head that are erased or may be erased. -/
def State.ahead (s : State) : Nat :=
  ((s.ringAfter s.lig.headSec).filter (fun k => k != s.lig.headSec && (s.lig.ready.contains k || s.reclaimable k))).length

/-- WEAR records of at most 1,000 sectors each (R341). -/
def State.wearRecs (s : State) : List (List Byte) :=
  (List.range ((ringLen + 999) / 1000)).map (fun i =>
    let n := min 1000 (ringLen - 1000 * i)
    leBytes 2 (1000 * i) ++ leBytes 2 n ++ (List.range n).flatMap (fun j => leBytes 4 (mget 0 (1000 * i + j) s.lig.erases)))

/-- Writes records with the next SEQs, erasing a sector where the head needs one that may be erased; none where it
cannot. -/
def writeAll : List JRec → State → Option State
  | [], s => some s
  | r :: l, s =>
    let r := { r with seq := s.lig.nextSeq }
    let s := placeHead (jTotal r) s
    let s := if !s.headReady && s.reclaimable s.lig.headSec then eraseSector s.lig.headSec true s else s
    match writeRec r s with
    | none => none
    | some s => writeAll l (setLig (fun q => { q with nextSeq := (q.nextSeq + 1) % 2 ^ 32 }) s)

/-- A restatement: the same type, OPSEC and body, ORIGSEQ the SEQ of the original (R344, R346) (DEDUCED: log entry 28). -/
def restate (r : JRec) : JRec := { r with origseq := if r.origseq == 0 then r.seq else r.origseq }

/-- A record the engine makes itself. -/
def State.ownRec (s : State) (t : Nat) (b : List Byte) : JRec := { type := t, opsec := s.opsec, origseq := 0, body := b }

/-- What a checkpoint writes before its BEGIN: HOURS and WEAR, with their SEQ (R341). -/
def State.ckFront (s : State) : List JRec :=
  (s.ownRec jHOURS s.hoursBody :: s.wearRecs.map (s.ownRec jWEAR)).zipIdx.map (fun (e : JRec × Nat) =>
    { e.1 with seq := (s.lig.nextSeq + e.2) % 2 ^ 32 })

/-- What it restates: the live records, and the history of aged sectors unless the ring is WORN (R344, R346, R347). -/
def State.ckBody (s : State) : List JRec :=
  let old := if s.on F.LIG_STAT_WORN then [] else
    ((List.range ringLen).filter s.aged).flatMap (fun k => (s.sectorRecs k).1.filter (fun r => r.type == jFAULT))
  (s.ckFront.foldl (fun l r => takeLive r l) s.lig.live ++ old).map restate

/-- A checkpoint up to its END. -/
def State.ckList (s : State) : List JRec := s.ckFront ++ s.ownRec jCHECKPOINT [0, 0, 0, 0] :: s.ckBody

/-- A checkpoint is to be taken (R344, R346). -/
def State.ckDue (s : State) : Bool :=
  s.ligState == lgIDLE && s.lig.pend.isEmpty && (s.ahead < 8 || 64 ≤ s.lig.filled || (List.range ringLen).any s.aged)

/-- The checkpoint: HOURS and WEAR, BEGIN, the live records, history of aged sectors, END. -/
def checkpoint (s : State) : State :=
  if !s.ckDue then s
  else
    let s0 := accrue s
    let rs := s0.ckBody
    let bseq := (s0.lig.nextSeq + s0.ckFront.length) % 2 ^ 32
    match writeAll s0.ckList s0 with
    | none => s
    | some s2 =>
      let body := (rs.zipIdx.flatMap (fun (e : JRec × Nat) => recBytes { e.1 with seq := (bseq + 1 + e.2) % 2 ^ 32 } ++ [0x3C]))
      match writeAll [s0.ownRec jCHECKPOINT ([1, 0, 0, 0] ++ leBytes 4 rs.length ++ leBytes 4 (crc32c body))] s2 with
      | none => s
      | some s3 =>
        let s3 := setLig (fun l => { l with ckBegin := bseq + 1, filled := 0, lastHours := s0.opsec }) s3
        jPump (showRing (s3.incSat F.LIG_CNT_CHECKPOINTS))
def execCheckpoint (t : Nat) (s : State) : Host.Outcome State Fault Refusal := done s (checkpoint (s.atTime t))

/-- AGE_CHECK (R346): once a day of operation. -/
def ageCheck (s : State) : State :=
  let s := accrue s
  if s.ligState == lgIDLE && s.lig.lastAge + 86400 ≤ s.opsec then
    let s := setLig (fun l => { l with lastAge := s.opsec }) s
    if (List.range ringLen).any s.aged then checkpoint s else s
  else s
def execAgeCheck (t : Nat) (s : State) : Host.Outcome State Fault Refusal := done s (ageCheck (s.atTime t))

/-! ## Loss of power (R343) -/

/-- The first `n` bytes of record `r` and its COMMIT are on the flash at the head. -/
def cutRecord (r : JRec) (n : Nat) (s : State) : State :=
  let s := placeHead (jTotal r) s
  if s.headReady then progFlash (ringBase s.lig.headSec + s.lig.headOfs) ((recBytes r ++ [0x3C]).take n) s else s

/-- `k` whole records of a list, and `n` bytes of the next. -/
def cutList : List JRec → Nat → Nat → State → State
  | [], _, _, s => s
  | r :: _, 0, n, s => cutRecord { r with seq := s.lig.nextSeq } n s
  | r :: l, k + 1, n, s => match writeAll [r] s with | some u => cutList l k n u | none => s

/-- The flash as a loss of power finds it (R343). A cut erase leaves no header, and the other bytes of its sector open. -/
def cutFlash (c : Cut) (s : State) : State :=
  let k := if s.headReady then s.ligTail else s.lig.headSec
  let may := s.ligState == lgIDLE && !s.retired k && s.reclaimable k && !(k == s.lig.headSec && s.headReady)
  match c with
  | .none => s
  | .erase =>
    if !may then s
    else
      let f := s.fresh
      let u := eraseFlash (ringBase k) s
      { u with fresh := f + 1, flash := (List.range 65520).foldl (fun m i =>
          mset 0xFF (ringBase k + 16 + i) (Config.failedByte f (ringBase k + 16 + i)) m) u.flash }
  | .header n =>
    if !may then s
    else
      let h : List Byte := leBytes 4 0x4C494731 ++ leBytes 4 (mget 0 k s.lig.erases + 1) ++ leBytes 4 (s.get F.LIG_TAI_SECONDS)
      progFlash (ringBase k) ((h ++ leBytes 4 (crc32c h)).take n) (eraseFlash (ringBase k) s)
  | .record n =>
    match s.lig.pend with
    | r :: _ => if s.ligRuns && !s.fcu.stopped && !s.sys.pinHeld then cutRecord r n s else s
    | [] => s
  | .checkpoint j n => if s.ckDue then (let u := accrue s; cutList u.ckList j n u) else s

/-! ## The scan (R342) -/

/-- The sector whose first SEQ no other comes after; the lowest-numbered of several. -/
def scanHead (l : List (Nat × Nat)) : Option Nat :=
  match l.find? (fun e => l.all (fun o => !serAfter 32 o.2 e.2)) with
  | some e => some e.1
  | none => l.head?.map (·.1)

/-- A checkpoint END, or BEGIN. -/
def isPart (p : Nat) (r : JRec) : Bool := r.type == jCHECKPOINT && jByte r 0 == p

/-- The sectors from `h` backwards in ring order that hold a record, `h` first. -/
def scanBack (h : Nat) (l : List (Nat × Nat)) : List Nat :=
  ((List.range ringLen).map (fun i => (h + ringLen - i) % ringLen)).filter (fun k => l.any (fun e => e.1 == k))

/-- The sectors to walk, in ring order: from the BEGIN of the latest checkpoint that has its END, else all. -/
def State.scanPath (s : State) (h : Nat) (l : List (Nat × Nat)) : List Nat :=
  let back := scanBack h l
  match back.dropWhile (fun k => !(s.sectorRecs k).1.any (isPart 1)) with
  | [] => back.reverse
  | c :: older =>
    let before := back.takeWhile (fun k => k != c) ++ [c]
    -- the BEGIN lies in the END's sector, before it, or in an older one
    let here := ((s.sectorRecs c).1.takeWhile (fun r => !isPart 1 r)).any (isPart 0)
    let toBegin := if here then [] else older.takeWhile (fun k => !(s.sectorRecs k).1.any (isPart 0))
    let begin_ := if here then [] else (older.drop toBegin.length).take 1
    (before ++ toBegin ++ begin_).reverse

/-- Restores the fences of the live FENCE records (R316). -/
def restoreFences (s : State) : State :=
  (s.lig.live.filter (fun r => r.type == jFENCE)).foldl (fun u r =>
    let src := jByte r 0
    let g := jByte r 1
    let idx := jByte r 2 + 256 * jByte r 3
    if u.fencedInst g idx then u
    else
      let u := { u with fcu := { u.fcu with fences := u.fcu.fences ++ fenceList src g idx } }
      fenceUnit raiseF src g idx (u.setBit F.FCU_FENCED_GROUPS g true)) s

/-- The housekeeper's scan: the head, the live state, TORN; pending records keep their order and follow on (R338, R342). -/
def journalScan (s : State) : State :=
  let ks := List.range ringLen
  let magic := fun (k : Nat) => s.fword (ringBase k)
  let firsts := ks.filterMap (fun k => (s.firstSeq k).map (fun q => (k, q)))
  let s := setLig (fun l => { l with retired := ks.filter (fun k => magic k == 0) }) s
  let heads := fun (k : Nat) => s.fword (ringBase k) == 0x4C494731 && s.fword (ringBase k + 12) == crc32c (s.fbytes (ringBase k) 12)
  let blank := fun (k : Nat) (o : Nat) => s.flash.all (fun e => !(ringBase k + o ≤ e.1 && e.1 < ringBase (k + 1)))
  let ready := ks.filter (fun k => !s.retired k && heads k && blank k 16)
  let recs := match scanHead firsts with
    | none => []
    | some h => (s.scanPath h firsts).flatMap (fun k => (s.sectorRecs k).1)
  let live := recs.foldl (fun l r => takeLive r l) []
  let wear := fun (k : Nat) => ((live.filter (fun r => r.type == jWEAR)).findSome? (fun r =>
    let f := leNat (r.body.take 2)
    if f ≤ k && k < f + leNat ((r.body.drop 2).take 2) then some (leNat ((r.body.drop (4 + 4 * (k - f))).take 4)) else none)).getD 0
  let erases := ks.foldl (fun m k => mset 0 k (if heads k then s.fword (ringBase k + 4) else wear k) m) []
  let newest := firsts.foldl (fun m e => match (s.sectorRecs e.1).1.getLast? with | some r => mset 0 e.1 (r.seq + 1) m | none => m) []
  let hours := match live.find? (fun r => r.type == jHOURS) with
    | some r => (List.range 8).map (fun i => leNat ((r.body.drop (4 * i)).take 4))
    | none => [0, 0, 0, 0, 0, 0, 0, 0]
  -- the BEGIN of the latest complete checkpoint: the last before the latest END
  let ck := ((recs.reverse.dropWhile (fun r => !isPart 1 r)).find? (isPart 0)).map (fun r => r.seq + 1)
  let since := match scanHead firsts with
    | some h => ((scanBack h firsts).takeWhile (fun k => !(s.sectorRecs k).1.any (isPart 1))).length
    | none => 0
  let base := match recs.getLast? with | some r => (r.seq + 1) % 2 ^ 32 | none => 0
  let pend := s.lig.pend.zipIdx.map (fun (e : JRec × Nat) => { e.1 with seq := (base + e.2) % 2 ^ 32 })
  let s := setLig (fun l => { l with
    live := live, erases := erases, newest := newest, ready := ready, hours := hours, pend := pend
    lastHours := hours.foldl (· + ·) 0, lastAge := hours.foldl (· + ·) 0, hoursAt := s.now
    nextSeq := (base + pend.length) % 2 ^ 32, ckBegin := ck.getD 0
    filled := since, flush := false }) s
  let s := match scanHead firsts with
    | none => setLig (fun l => { l with headSec := s.usable.headD 0, headOfs := 16 }) s
    | some h =>
      let o := (s.sectorRecs h).2
      if blank h o then setLig (fun l => { l with headSec := h, headOfs := o }) s
      else setLig (fun l => { l with headSec := s.nextUsable h, headOfs := 16 }) (s.incSat F.LIG_CNT_TORN)
  let s := restoreFences s
  let s := s.set F.LIG_STAT_STATE (if s.fencedGroup 22 then lgSTOPPED else lgIDLE)
  jPump (showRing (loadBaselines s))

/-! ## Software appends and reads (R352) -/

/-- The first `n` bytes of the append buffer. -/
def State.appendBytes (s : State) (n : Nat) : List Byte :=
  ((List.range ((n + 3) / 4)).flatMap (fun j => leBytes 4 (s.get (F.LIG_APBUF j)))).take n

/-- Results of LIG_APPEND_STAT. -/
def apQUEUED : Nat := 1
def apTYPE : Nat := 2
def apLEN : Nat := 3
def apFULL : Nat := 4
def apSTOPPED : Nat := 6

/-- A write of LIG_APPEND: GO, LEN and TYPE; with both STOPPED and FULL in hand, STOPPED is reported (R348, R350, R352) (DESIGN CHOICE: log
entry 28). -/
def wrLigAppend (v : Nat) (s : State) : State :=
  if !bitOf v 31 then s
  else
    let ty := v % 65536
    let n := bits 27 16 v
    let r : JRec := { type := ty, opsec := s.opsec, origseq := 0, body := s.appendBytes n }
    let res := fun (c : Nat) (u : State) => u.set F.LIG_APPEND_STAT_RESULT c
    if !(ty == jBASELINE || ty == jREFHIST || ty == jCAL) then res apTYPE s
    else if n == 0 || 2040 < n then res apLEN s
    else if s.ligState == lgFLUSH || s.lig.flush then res apSTOPPED s
    else if !jFits (jRoom r s.lig).1 r then res apFULL s
    else res apQUEUED (jArrive r s)
def execJournalAppend (m v : Nat) (s : State) : Host.Outcome State Fault Refusal :=
  done s (guarded m A.LIG_APPEND (wrLigAppend v) s)

/-- A write of LIG_RD_CMD. -/
def wrLigRd (v : Nat) (s : State) : State :=
  if bitOf v 0 && !s.on F.LIG_RD_CMD_BUSY then s.set F.LIG_RD_CMD_BUSY 1 else s
def execFlashWindowRead (m v : Nat) (s : State) : Host.Outcome State Fault Refusal :=
  done s (guarded m A.LIG_RD_CMD (wrLigRd v) s)

/-- What a read of the flash returns: beyond its end 0xFF; a retired sector beyond its MAGIC reads a free value. -/
def State.fread (s : State) (a : Nat) : Byte :=
  if flashBytes ≤ a then 0xFF
  else if 0x6100000 ≤ a && s.retired ((a - 0x6100000) / 0x10000) && 4 ≤ a % 0x10000 then Config.retiredByte a
  else s.fbyte a

/-- FLASH_WINDOW_READ_DONE: the 256 bytes at ADDR are in the window. -/
def flashReadDone (s : State) : State :=
  if !s.on F.LIG_RD_CMD_BUSY then s
  else
    let a := s.get F.LIG_RD_ADDR_ADDR
    let s := (List.range 64).foldl (fun u j => u.set (F.LIG_RDWIN j) (leNat ((List.range 4).map (fun i => s.fread (a + 4 * j + i))))) s
    (s.set F.LIG_RD_CMD_BUSY 0).set F.LIG_RD_CMD_ERR (decide (flashBytes < a + 256)).toNat
def execFlashWindowReadDone (t : Nat) (s : State) : Host.Outcome State Fault Refusal := done s (flashReadDone (s.atTime t))

/-- A write of a LIG register. -/
def wrLIG (a v : Nat) (s : State) : State :=
  let o := a % 0x10000
  if o == 0x30 then wrLigAppend v s
  else if o == 0x44 then wrLigRd v s
  else s.writeRegPlain a v

end Sys2Proof.Machine
end

