-- ==== Sys2Proof/Machine/Rvc.lean ====
section
/-!
DEFINITION. Revoicing: the section locks, the check of a voice image, commits and their timeline (R148–R166).
-/
namespace Sys2Proof.Machine

/-- Digest of the image at `b` (R332). -/
def imgDigest (s : State) (b : Nat) : List Byte := sha256 (s.bytes b (imgSize s b - 128))

/-! ## Ownership as it will stand (R148, R155) -/

/-- Number of breaths in 2.0 ms (R156). -/
def State.breaths2ms (s : State) : Nat := s.fs / 500

/-- A started commit of section `q` that has not loaded, or released what the section owns, yet. -/
def State.preLoad (s : State) (q : Nat) : Bool :=
  s.lockState q == lkSTARTED && s.secState q != secWAITING && !((s.sec q).vacate && (s.sec q).own == {} && s.secState q == secDRAIN)

/-- The descriptors an image names: line and its four words (R333). -/
def imgLines (s : State) (l : List ImgRec) : List (Nat × List Nat) :=
  (l.filter (fun r => r.type == 10)).flatMap (fun r =>
    r.span.zipIdx.map (fun (e : Nat × Nat) => (e.1, [0, 1, 2, 3].map (fun j => s.word (r.body + 16 * e.2 + 4 * j)))))

/-- Delay lines section `q` will own, with their descriptors. -/
def State.futureLines (s : State) (q : Nat) : List (Nat × List Nat) :=
  if s.preLoad q then
    (if (s.sec q).vacate then [] else imgLines s ((imgRecords s (s.pendBase q)).getD []))
  else if s.secState q == secEMPTY then []
  else (s.linesV.filter (fun j => s.lineValid j && s.lineSec j == q)).map (fun j => (j, [0, 1, 2, 3].map (fun w => s.lineW w j)))

/-- Outputs whose entries name section `q` (R111, R148). -/
def State.outsOwned (s : State) (q : Nat) : List Nat :=
  s.fld.filterMap (fun e =>
    let a := e.1 / 32
    let o := (a - 0x20064000) / 4
    if 0x20064000 ≤ a && a < 0x20068C00 && bitOf (s.outEntry o) 31 && bits 27 24 (s.outEntry o) == q then some o else none)

def State.busesOwned (s : State) (q : Nat) : List Nat := (List.range 1024).filter (fun b => s.busOwner b == some q)

/-- What section `q` will own once its started commit is done. -/
def State.futureClaim (s : State) (q : Nat) : Claim :=
  let x := s.sec q
  if s.preLoad q then (if x.vacate then {} else x.next)
  else if s.secState q == secEMPTY then {}
  else { x.own with buses := s.busesOwned q, outs := s.outsOwned q }

def State.otherSecs (i : Nat) : List Nat := (List.range 16).filter (fun q => q != i)

/-! ## Limits of delay lines (R126) -/

/-- A stretch of the pool (in words) or of DRAM (in blocks). -/
structure Ring where
  dram : Bool
  lo   : Nat
  hi   : Nat

/-- The descriptor is in use: V = 1, and R126 does not make it act as V = 0. -/
def descUsed (w : List Nat) : Bool := bitOf (w.getD 0 0) 31 && lineOk (w.getD 0 0) (w.getD 1 0) (w.getD 2 0) (w.getD 3 0)

/-- Ring and staging of a descriptor; none where it is not in use. -/
def ringsOf (j : Nat) (w : List Nat) : List Ring :=
  let w0 := w.getD 0 0
  let dmax := bits 23 0 (w.getD 1 0)
  let base := bits 25 0 (w.getD 3 0)
  if !descUsed w then []
  else if bitOf w0 30 then
    [⟨true, base, base + ((dmax + 15) / 16 + 1)⟩, ⟨false, 0x1F00000 / 4 + 64 * j, 0x1F00000 / 4 + 64 * j + 64⟩]
  else [⟨false, base, base + dmax + 1⟩]

def Ring.fits (r : Ring) : Bool := if r.dram then r.hi ≤ 49152000 else r.hi ≤ 8388608
def Ring.meets (a b : Ring) : Bool := a.dram == b.dram && a.lo < b.hi && b.lo < a.hi

/-- The ranges of DELAY and DMAX of a descriptor in use (R126). -/
def descOk (w : List Nat) : Bool :=
  let w0 := w.getD 0 0
  let d := bits 23 0 w0
  let dmax := bits 23 0 (w.getD 1 0)
  !descUsed w || (d ≤ dmax && (if bitOf w0 30 then 32 ≤ d else dmax ≤ 8388607))

/-- No ring of the list meets a later one. -/
def ringsApart : List Ring → Bool
  | [] => true
  | r :: t => t.all (fun q => !r.meets q) && ringsApart t

/-- The lines of an image obey R126 among themselves. -/
def linesFit (ls : List (Nat × List Nat)) : Bool :=
  let mine := ls.flatMap (fun e => ringsOf e.1 e.2)
  ls.all (fun e => descOk e.2) && mine.all Ring.fits && ringsApart mine

/-- The lines of an image are none of those the sections `qs` will own, and meet none of their rings (R126). -/
def linesFree (qs : List Nat) (ls : List (Nat × List Nat)) (s : State) : Bool :=
  let others := qs.flatMap (fun q => s.futureLines q)
  let theirs := others.flatMap (fun e => ringsOf e.1 e.2)
  ls.all (fun e => !others.any (fun o => o.1 == e.1))
  && (ls.flatMap (fun e => ringsOf e.1 e.2)).all (fun r => theirs.all (fun q => !r.meets q))

/-! ## The check of R155 -/

/-- The header and every record obey R332 and R333. -/
def headerOk (s : State) (b : Nat) : Bool :=
  imgMagic s b == 0x96325649 && imgVersion s b == 1 && (s.bytes (b + 20) 40).all (fun x => x == 0)
  && s.word (b + 60) == crc32c (s.bytes b 60) && 192 ≤ imgSize s b && imgSize s b ≤ 0x400000
  && (imgRecords s b).isSome

/-- Checks 6 to 9 against what the sections `qs` will own: whether the image names something of theirs. -/
def claimVerr (qs : List Nat) (l : List ImgRec) (s : State) : Nat :=
  let c := claimOf s l
  let others := qs.map (fun q => s.futureClaim q)
  let clash := fun (mine : List Nat) (f : Claim → List Nat) => mine.any (fun x => others.any (fun o => (f o).contains x))
  if clash c.cores Claim.cores then 6
  else if clash c.taps Claim.taps || clash c.buses Claim.buses then 7
  else if !linesFree qs (imgLines s l) s then 8
  else if clash c.outs Claim.outs then 9
  else 0

/-- Checks 6 to 9: what the image names is there, and free for section `i`. -/
def ownershipVerr (i : Nat) (l : List ImgRec) (s : State) : Nat :=
  let e := claimVerr (State.otherSecs i) l s
  if (claimOf s l).cores.any (fun x => s.activeCores ≤ x || s.coreLost x) then 6
  else if !linesFit (imgLines s l) && (e = 0 || 8 < e) then 8 else e

/-- VERR of the image at `b` for section `i` (R155): 0 for a pass. -/
def imageVerr (i b : Nat) (s : State) : Nat :=
  if !headerOk s b then 1
  else
    let l := (imgRecords s b).getD []
    let fin := b + (imgSize s b - 128)
    if (s.accepts (s.bytes fin 64) (imgDigest s b) (s.bytes (fin + 64) 64)).isNone then 2
    else if imgMode s b != s.get F.SYS_MODE_STAT_CUR then 3
    else if imgSection s b != i then 4
    else if 1572864 < loadVolume l then 5
    else ownershipVerr i l s

/-- Lease length in 1/256 ns (R166). -/
def State.lease (s : State) : Nat := max 100 (min 60000 (s.get F.RVC_LEASE_MS)) * uMs
def loadLease (i : Nat) (s : State) : State := s.setSec i { s.sec i with leaseEnd := s.now + s.lease }

/-- The lease has reached 0 (R153). -/
def State.lapsed (s : State) (i : Nat) : Bool := s.lockLive i && decide ((s.sec i).leaseEnd ≤ s.now)

/-- Lease remaining in ms, rounded up (R153, R166) (DESIGN CHOICE: log entry 61). -/
def State.remainMs (s : State) (i : Nat) : Nat := if s.lockLive i then ((s.sec i).leaseEnd - s.now + uMs - 1) / uMs else 0

/-! ## Commands (R151, R152) -/

/-- Result codes of SECn_RESULT. -/
def rjHELD : Nat := 1
def rjNOTHOLDER : Nat := 2
def rjSTATE : Nat := 3
def rjLATE : Nat := 4
def rjRANGE : Nat := 5
def rjPAIRED : Nat := 6
def rjAPPLY : Nat := 7
def rjCONFLICT : Nat := 8
def rjSTARTED : Nat := 9
def rjDISP : Nat := 10
def rjOP : Nat := 11

/-- ACQUIRE. -/
def cmdAcquire (i m : Nat) (s : State) : Nat × State :=
  if s.lockLive i then (rjHELD, s)
  else if s.lockState i != lkFREE then (rjSTATE, s)
  else
    let t := s.rvc.ticket % 65535 + 1
    let s := { s with rvc := { s.rvc with ticket := t } }
    (0, loadLease i (setLock i lkHELD ((s.set (F.SECn_LOCK_TICKET i) t).set (F.SECn_LOCK_HOLDER i) m)))

/-- RENEW. -/
def cmdRenew (i : Nat) (s : State) : Nat × State := if s.lockLive i then (0, loadLease i s) else (rjSTATE, s)

/-- RELEASE. -/
def cmdRelease (i : Nat) (s : State) : Nat × State :=
  if s.lockLive i then (0, freeLock i leRELEASE false (discardPending i s)) else (rjSTATE, s)

/-- VERIFY. -/
def cmdVerify (i : Nat) (s : State) : Nat × State :=
  if s.lockState i == lkHELD then (0, askAuth i ((setLock i lkVERIFYING s).setSec i { s.sec i with since := [] })) else (rjSTATE, s)

/-- REOPEN. -/
def cmdReopen (i : Nat) (s : State) : Nat × State :=
  if s.lockState i == lkREADY then (0, setLock i lkHELD s) else (rjSTATE, s)

/-- Other started commits, as their R. -/
def State.otherR (s : State) (i : Nat) : List Nat :=
  ((State.otherSecs i).filter (fun q => s.lockState q == lkSTARTED)).map (fun q => (s.sec q).rB)

/-- The windows S + 34 to R of restart breaths `r` and `q` overlap (R156). -/
def windowsMeet (len r q : Nat) : Bool := r ≤ q + len && q ≤ r + len

/-- The smallest R allowed for WHEN = 1 (R156) (DEDUCED: log entry 20). -/
def earliestR (len lo : Nat) (rs : List Nat) : Nat :=
  let ok := fun (r : Nat) => lo ≤ r && rs.all (fun q => !windowsMeet len r q)
  let cs := (lo :: rs.map (fun q => q + len + 1)).filter ok
  cs.foldl min (cs.headD lo)

/-- COMMIT and, with VACATE = 1, the vacate (R156, R163). -/
def cmdCommit (i : Nat) (s : State) : Nat × State :=
  let st := s.lockState i
  let vac := s.on (F.SECn_CFG_VACATE i)
  let when_ := s.on (F.SECn_CFG_WHEN i)
  let len := s.breaths2ms
  let rs := s.otherR i
  let lo := s.n + 36 + len
  let named := s.get (F.SECn_RESTART_HI_R_HI i) * 2 ^ 32 + s.get (F.SECn_RESTART_LO_R_LO i)
  let r := if when_ then earliestR len lo rs else s.unwrap named
  let img := (imgRecords s (s.pendBase i)).getD []
  if !(st == lkREADY || (vac && st == lkHELD)) then (rjSTATE, s)
  else if !when_ && serBefore 48 named (bidx lo) then (rjLATE, s)
  else if serAfter 48 (bidx r) (bidx (s.n + 1048576)) then (rjRANGE, s)
  else if when_ && s.on F.TWIN_CTRL_EN then (rjPAIRED, s)
  else if s.dstate != dRunning then (rjDISP, s)
  else if rs.any (fun q => windowsMeet len r q) || (!vac && claimVerr (s.sec i).since img s != 0) then (rjCONFLICT, s)
  else
    let sb := r - 34 - len
    let nx : Claim := if vac then {} else claimOf s img
    let s := s.setSec i { s.sec i with rB := r, sB := sb, retain := s.on (F.SECn_CFG_RETAIN i), vacate := vac, next := nx }
    let s := (State.otherSecs i).foldl (fun u q => u.setSec q { u.sec q with since := i :: (u.sec q).since.filter (fun j => j != i) }) s
    let s := if vac && st == lkHELD then discardPending i s else s
    let s := if when_ then (s.set (F.SECn_RESTART_LO_R_LO i) r).set (F.SECn_RESTART_HI_R_HI i) (r / 2 ^ 32) else s
    (0, setLock i lkSTARTED ((s.set (F.SECn_STOP_LO_S_LO i) sb).set (F.SECn_STOP_HI_S_HI i) (sb / 2 ^ 32)))

/-- CANCEL (R161). -/
def cmdCancel (i : Nat) (s : State) : Nat × State :=
  if s.lockState i != lkSTARTED then (rjSTATE, s)
  else if (s.sec i).sB ≤ s.n || s.reached (s.sec i).sB 0 then (rjSTARTED, s)
  else (0, loadLease i (setLock i lkREADY s))

/-- A write of SECn_CMD by master `m`: OP and TICKET (R151–R153) (DESIGN CHOICE: log entry 13). -/
def secCommand (i m tk op : Nat) (s : State) : Nat × State :=
  let late := s.lapsed i
  let was := s.get (F.SECn_LOCK_HOLDER i) == m && s.get (F.SECn_LOCK_TICKET i) == tk
  let s := if late then breakLock i leLAPSE s else s
  if op = 0 || 7 < op then (rjOP, s)
  else if (op = 1 || op = 6) && s.on F.SYS_MODE_STAT_APPLYING then (rjAPPLY, s)
  else if op = 1 then cmdAcquire i m s
  else if late && was && (op = 2 || op = 4 || op = 6) then (rjSTATE, s)
  else if s.lockState i == lkFREE || s.get (F.SECn_LOCK_HOLDER i) != m || s.get (F.SECn_LOCK_TICKET i) != tk then (rjNOTHOLDER, s)
  else if op = 2 then cmdRenew i s
  else if op = 3 then cmdRelease i s
  else if op = 4 then cmdVerify i s
  else if op = 5 then cmdReopen i s
  else if op = 6 then cmdCommit i s
  else cmdCancel i s

def wrSecCmd (i m v : Nat) (s : State) : State :=
  let (c, s) := secCommand i m (v / 65536) (v % 16) s
  (s.set (F.SECn_RESULT_LASTOP i) (v % 16)).set (F.SECn_RESULT_CODE i) c

/-- A command of the lock of section `i` with an OP, by master `m` with ticket `tk`. -/
def lockOp (op m i tk : Nat) (s : State) : Host.Outcome State Fault Refusal :=
  done s (guarded m (A.SECn_CMD i) (wrSecCmd i m (tk % 65536 * 65536 + op)) s)

def execAcquire (m i tk : Nat) (s : State) : Host.Outcome State Fault Refusal := lockOp 1 m i tk s
def execRenew (m i tk : Nat) (s : State) : Host.Outcome State Fault Refusal := lockOp 2 m i tk s
def execRelease (m i tk : Nat) (s : State) : Host.Outcome State Fault Refusal := lockOp 3 m i tk s
def execVerify (m i tk : Nat) (s : State) : Host.Outcome State Fault Refusal := lockOp 4 m i tk s
def execReopen (m i tk : Nat) (s : State) : Host.Outcome State Fault Refusal := lockOp 5 m i tk s
/-- COMMIT (R156); with SECn_CFG.VACATE = 1 it is the vacate. -/
def execCommit (m i tk : Nat) (s : State) : Host.Outcome State Fault Refusal := lockOp 6 m i tk s
/-- The COMMIT of a section whose SECn_CFG.VACATE reads 1 (R163). -/
def execVacate (m i tk : Nat) (s : State) : Host.Outcome State Fault Refusal := lockOp 6 m i tk s
def execCancel (m i tk : Nat) (s : State) : Host.Outcome State Fault Refusal := lockOp 7 m i tk s

/-- VERIFY_DONE (R152, R155): the authentication engine has come to this request, and shows the digest of the check (R353). -/
def verifyDone (i : Nat) (s : State) : State :=
  if s.lockState i != lkVERIFYING || !s.authTurn i then s
  else
    let b := s.pendBase i
    let e := imageVerr i b s
    let s := if e == 1 then s else
      (imgDigest s b |> beWords).zipIdx.foldl (fun u (w : Nat × Nat) => u.set (F.SEC_DIGEST_DIGEST w.2) (leNat (beBytes 4 w.1))) s
    setLock i (if e = 0 then lkREADY else lkHELD) (s.set (F.SECn_RESULT_VERR i) e)

def execVerifyDone (i t : Nat) (s : State) : Host.Outcome State Fault Refusal := done s (verifyDone i (s.atTime t))

/-- LEASE_LAPSE (R153). -/
def execLeaseLapse (i t : Nat) (s : State) : Host.Outcome State Fault Refusal :=
  let s1 := s.atTime t
  done s (if s1.lapsed i then breakLock i leLAPSE s1 else s1)

/-- A write of RVC_BREAK (R153, R166). -/
def wrBreak (v : Nat) (s : State) : State :=
  if v / 65536 == keyA55A && bitOf v 0 then breakLock (bits 11 8 v) leFORCED s else s
def execForcedBreak (m v : Nat) (s : State) : Host.Outcome State Fault Refusal := done s (guarded m A.RVC_BREAK (wrBreak v) s)

/-! ## The commit timeline (R157–R163) -/

def setSecState (i st : Nat) (s : State) : State := s.set (F.SECn_STAT_STATE i) st

/-- COMMIT_RAMPOUT (R57, R157, R158, R162): breath S. From here on the section is committing, and meets a rotation step on one of
its cores. A section that does not run keeps its state (DEDUCED: log entry 20). -/
def commitRampout (i : Nat) (s : State) : State :=
  let x := s.sec i
  if !(s.breathing && s.commits i) then s
  else
    let s := meetRotation (fun l => s.coreOwner l == some i) s
    if s.secState i == secRUNNING then setSecState i secRAMPOUT (s.setSec i { x with rampOut := some x.sB }) else s
def execCommitRampout (i t : Nat) (s : State) : Host.Outcome State Fault Refusal := done s (commitRampout i (s.atTime t))

/-- Clears the transit-bound entries of the outputs of a section (R49). -/
def clearBounds (i : Nat) (s : State) : State :=
  (s.outsOwned i).foldl (fun u o => (u.set (F.DISP_TBT_DATA0_WORD0 o) 0).set (F.DISP_TBT_DATA1_WORD1 o) 0) s

/-- COMMIT_DRAIN (R157): breath S + 32 (DEDUCED: log entry 20). -/
def commitDrain (i : Nat) (s : State) : State :=
  let x := s.sec i
  let st := s.secState i
  if s.breathing && s.lockState i == lkSTARTED && x.sB + 32 ≤ s.n && (st ≤ secRAMPOUT || st == secMISMATCH) then
    setSecState i secDRAIN (clearBounds i s)
  else s
def execCommitDrain (i t : Nat) (s : State) : Host.Outcome State Fault Refusal := done s (commitDrain i (s.atTime t))

/-- Registers what a section owns, in place of what it owned (R148). -/
def claim (i : Nat) (c : Claim) (s : State) : State :=
  let r := s.rvc
  let drop := fun (m : SMap Nat) => m.filter (fun e => e.2 != i + 1)
  let add := fun (m : SMap Nat) (l : List Nat) => l.foldl (fun q k => mset 0 k (i + 1) q) m
  let s := { s with rvc := { r with coreSec := add (drop r.coreSec) c.cores, tapSec := add (drop r.tapSec) c.taps } }
  (s.setSec i { s.sec i with own := c }).set (F.SECn_STAT_CORES i) c.cores.length

/-- Releases what a section owns beyond the claim `c`: cores idle, buses, outputs, lines and groups are free. -/
def releaseBeyond (i : Nat) (c : Claim) (s : State) : State :=
  let own := (s.sec i).own
  let gone := fun (mine next : List Nat) => mine.filter (fun x => !next.contains x)
  let s := (gone own.cores c.cores).foldl (fun u l => let p := u.physOf l; if p < 136 then idleCore p u else u) s
  let s := (gone (s.busesOwned i) c.buses).foldl (fun u b => setBusOwner b none u) s
  let s := (gone (s.outsOwned i) c.outs).foldl (fun u o => u.set (F.MTX_OUTMAP o) 0) s
  let s := (gone ((s.linesV.filter (fun j => s.lineSec j == i))) c.lines).foldl (fun u j =>
    ([0, 1, 2, 3].foldl (fun v w => v.set (F.DLY_LINE_DATA_WORD w j) 0) u).setLine j {}) s
  (gone own.groups c.groups).foldl (fun u g =>
    ((u.set (F.DISP_GRP_AVTP_LO_STREAMS g) 0).set (F.DISP_GRP_AVTP_HI_STREAMS g) 0).set (F.DISP_GRP_SAP_PORTS g) 0) s

/-- COMMIT_LOADING (R57, R132, R157, R163): the start of breath S + 34. -/
def commitLoading (i : Nat) (s : State) : State :=
  let x := s.sec i
  if !(s.breathing && s.lockState i == lkSTARTED && s.secState i == secDRAIN && x.sB + 34 ≤ s.n) then s
  else
    let s := dropChanges (fun j => x.next.lines.contains j) s
    let s := meetRotation (fun l => s.coreOwner l == some i || x.next.cores.contains l) s
    let s := claim i x.next (releaseBeyond i x.next s)
    if x.vacate then discardBuf (s.liveBase i) (discardPending i s)
    else
      let s := { s with dly := { s.dly with loaded := 0 } }
      (setSecState i secLOADING s).setSec i { s.sec i with loadAt := s.now, old := x.own.cores }
def execCommitLoading (i t : Nat) (s : State) : Host.Outcome State Fault Refusal := done s (commitLoading i (s.atTime t))

/-- Loads the image at `b` into the cores and tables of section `i`; with `keep`, recursive state of the cores in
`old` and the seed stay (R159). -/
def loadImage (i b : Nat) (keep : Bool) (old : List Nat) (s : State) : State :=
  let l := (imgRecords s b).getD []
  let c := claimOf s l
  let s := (c.cores.foldl (fun u lc => restoreLost lc u) s)
  let s := c.cores.foldl (fun u lc => let p := u.loadCoreOf lc; if p < 136 then loadCore l lc p (keep && old.contains lc) u else u) s
  let same := fun (u : State) (j : Nat) (w : List Nat) =>
    keep && bitOf (u.lineW 0 j) 31 && bitOf (u.lineW 0 j) 30 == bitOf (w.getD 0 0) 30 && u.lineBase j == bits 25 0 (w.getD 3 0)
    && u.lineDmax j == bits 23 0 (w.getD 1 0) && u.lineSrc j == bits 28 16 (w.getD 2 0)
  let s := (imgLines s l).foldl (fun u e =>
    let x := u.lineS e.1
    if same u e.1 e.2 then
      if u.lineDelay e.1 == bits 23 0 (e.2.getD 0 0) && x.xf.isNone then u.setLine e.1 { x with delay := none }
      else dropJobs (fun q => q.line == e.1 && !q.flush) (u.setLine e.1 { x with delay := none, xf := none, rd := [] })
    else dropJobs (fun q => q.line == e.1) (u.setLine e.1 {})) s
  let s := clearBounds i s
  let s := (l.filter (fun r => 7 ≤ r.type && r.type ≤ 12)).foldl (fun u r => loadTableRec i keep r u) s
  s.setSec i { s.sec i with digest := imgDigest s b }

/-- COMMIT_LOAD_DONE (R157, R160): the image is loaded, and LIVEBUF toggles. -/
def commitLoadDone (i : Nat) (s : State) : State :=
  if s.secState i != secLOADING then s
  else
    let x := s.sec i
    let s := loadImage i (s.pendBase i) x.retain x.old s
    let us := min ((s.now - x.loadAt) / uUs) 65535
    let s := if s.get F.RVC_LOADMAX_US < us then s.set F.RVC_LOADMAX_US us else s
    let s := s.setSec i { s.sec i with loadedB := s.n }
    setSecState i secWAITING (s.set (F.SECn_STAT_LIVEBUF i) (1 - s.get (F.SECn_STAT_LIVEBUF i)))
def execCommitLoadDone (i t : Nat) (s : State) : Host.Outcome State Fault Refusal := done s (commitLoadDone i (s.atTime t))

/-- A CONFIG_GEN record (R164, R341). -/
def configGen (i : Nat) (s : State) : State :=
  let x := s.sec i
  journal jCONFIGGEN ([BitVec.ofNat 8 i, BitVec.ofNat 8 (x.retain.toNat + 2 * x.vacate.toNat), 0, 0]
    ++ leBytes 4 (s.get (F.SECn_GEN_GEN i)) ++ (x.digest ++ List.replicate (32 - x.digest.length) 0)) s

/-- Section `i` starts in breath `n` from what is loaded (R37, R129, R157–R159, R255). -/
def startSection (i n : Nat) (retain : Bool) (s : State) : State :=
  let cores := s.coresOf i
  let s := cores.foldl (fun u l =>
    let p := u.loadCoreOf l
    let u := if p < 136 then loadTasks l p u else if u.coreLost l then dropTasks l u else u
    let d := u.disp
    let mine := fun (k : Nat) => k / 128 == l
    { u with disp := { d with misses := mkeep (fun k => !mine k) d.misses, tramp := mkeep (fun k => !mine k) d.tramp } }) s
  let s := if retain then s else
    let s := restartHistory (fun j => s.lineValid j && s.lineSec j == i) s
    settleBuses (fun b => s.busOwner b == some i) s
  let s := s.setSec i { s.sec i with rampIn := some n, rampOut := none, ready := false }
  let s := ((s.set (F.SECn_STAT_RAMPIN i) 1).set (F.SECn_STAT_RETAINED i) retain.toNat).inc (F.SECn_GEN_GEN i)
  armSection n i (capEvent 5 i (setSecState i secRUNNING s))

/-- COMMIT_RESTART (R157, R160, R163): breath R, or the first breath that starts after the load. -/
def commitRestart (i : Nat) (s : State) : State :=
  let x := s.sec i
  let fin := fun (u : State) =>
    configGen i ((freeLock i leDONE true u).setBit F.RVC_EVT_DONE i true)
  if !(s.breathing && s.lockState i == lkSTARTED && x.rB ≤ s.n && !s.reached s.n 100) then s
  else if x.vacate then
    if s.secState i != secDRAIN then s
    else
      let s := s.setSec i { s.sec i with rampIn := none, rampOut := none, digest := [] }
      let s := ((s.set (F.SECn_STAT_RAMPIN i) 0).set (F.SECn_STAT_RETAINED i) 0).inc (F.SECn_GEN_GEN i)
      fin (setSecState i secEMPTY s)
  else if s.secState i == secWAITING && x.loadedB < s.n then
    let s := if x.rB < s.n then raiseF 30 i (s.set (F.SECn_STAT_LATE i) 1) else s
    fin (startSection i s.n x.retain s)
  else s
def execCommitRestart (i t : Nat) (s : State) : Host.Outcome State Fault Refusal := done s (commitRestart i (s.atTime t))

/-- RAMPIN_END (R157): the breath R + 31. -/
def rampinEnd (i : Nat) (s : State) : State :=
  match (s.sec i).rampIn with
  | some r => if r + 31 ≤ s.n then s.set (F.SECn_STAT_RAMPIN i) 0 else s
  | none => s
def execRampinEnd (i t : Nat) (s : State) : Host.Outcome State Fault Refusal := done s (rampinEnd i (s.atTime t))

def clrLoadmax (s : State) : State := s.set F.RVC_LOADMAX_US 0
def execClrLoadmax (m : Nat) (s : State) : Host.Outcome State Fault Refusal := done s (guarded m A.RVC_CLR clrLoadmax s)

/-- A write of an RVC register by master `m` (R166). -/
def wrRVC (a m v : Nat) (s : State) : State :=
  let o := a % 0x10000
  let i := (o - 0x100) / 0x40
  let q := o % 0x40
  if o == 8 then wrBreak v s
  else if o == 0x14 then (if bitOf v 0 then clrLoadmax s else s)
  else if 0x100 ≤ o && o < 0x500 then
    if q == 0 then wrSecCmd i m v s
    else if q == 0x18 || q == 0x1C || q == 0x20 then
      let st := s.lockState i
      if s.get (F.SECn_LOCK_HOLDER i) == m && (st == lkHELD || st == lkREADY) then s.writeRegPlain a v else s
    else s.writeRegPlain a v
  else s.writeRegPlain a v

end Sys2Proof.Machine
end

