-- ==== Sys2Proof/Machine/Reed.lean ====
section
/-!
DEFINITION. The reed instruction set as data: its instructions, their decoding from a 32-bit word with every ILLEGAL
case of R73–R76, and their encoding.
-/
namespace Sys2Proof.Machine

/-- A reed instruction (R74). -/
inductive ReedOp where
  | nop
  | tend
  | b (tgt : Nat)
  | bc (ds cond tgt : Nat)
  | call (tgt : Nat)
  | jr (ds : Nat)
  | loop (lvl count fin : Nat)
  | loopr (lvl ds fin : Nat)
  | trap (code : Nat)
  | rti
  | mvs (sreg ds : Nat)
  | mfs (dd sreg : Nat)
  | mvi (sreg imm : Nat)
  | alu (fn dd ds dt : Nat)
  | addi (dd ds imm : Nat)
  | ldi (dd : Nat) (h : Nat) (imm : Nat)
  | shi (sh dd ds amt : Nat)
  | ld (y : Bool) (dd p am w abs addr : Nat)
  | st (y : Bool) (ds p am w abs addr : Nat)
  | sta (y : Bool) (an p am abs addr : Nat)
  | mul (fn an ds dt : Nat)
  | dmul (fn ap ds dt : Nat)
  | mulm (fn an xp yp xu yu : Nat)
  | dmulm (fn ap xp yp xu yu : Nat)
  | ftap (an xp yp : Nat)
  | ftap2 (ap xp yp : Nat)
  | acc (fn ad as dn shamt : Nat)
  | trd (dd tap : Nat)
  | twr (ds tap : Nat)
  deriving DecidableEq, Repr

/-- Every field lies within its width, and the instruction is none of the ILLEGAL encodings (R73–R76). -/
def ReedOp.wf : ReedOp → Bool
  | .nop => true
  | .tend => true
  | .b t => t < 8192
  | .bc d c t => d < 16 && c < 6 && t < 8192
  | .call t => t < 8192
  | .jr d => d < 16
  | .loop l c e => l < 2 && c < 4096 && e < 8192
  | .loopr l d e => l < 2 && d < 16 && e < 8192
  | .trap c => c < 256
  | .rti => true
  | .mvs k d => k < 64 && d < 16 && !sregReserved k && !sregReadOnly k
  | .mfs d k => d < 16 && k < 64 && !sregReserved k
  | .mvi k i => k ≤ 0x29 && i < 65536
  | .alu f d a q => f < 14 && d < 16 && a < 16 && q < 16 && (f != 9 || q == 0)
  | .addi d a i => d < 16 && a < 16 && i < 65536
  | .ldi d h i => d < 16 && h < 2 && i < 65536
  | .shi h d a n => h < 4 && d < 16 && a < 16 && n < 32
  | .ld _ d p am w ab ad => d < 16 && p < 4 && am < 4 && w < 2 && ab < 2 && ad < 8192 && (w == 0 || d % 2 == 0)
      && (if ab == 1 then p == 0 && am == 0 else ad == 0)
  | .st _ d p am w ab ad => d < 16 && p < 4 && am < 4 && w < 2 && ab < 2 && ad < 8192 && (w == 0 || d % 2 == 0)
      && (if ab == 1 then p == 0 && am == 0 else ad == 0)
  | .sta _ a p am ab ad => a < 4 && p < 4 && am < 4 && ab < 2 && ad < 8192
      && (if ab == 1 then p == 0 && am == 0 else ad == 0)
  | .mul f a s t => f < 3 && a < 4 && s < 16 && t < 16
  | .dmul f a s t => f < 3 && a < 2 && s < 16 && t < 16 && s % 2 == 0 && t % 2 == 0
  | .mulm f a x y u v => f < 3 && a < 4 && x < 4 && y < 4 && u < 2 && v < 2
  | .dmulm f a x y u v => f < 3 && a < 2 && x < 4 && y < 4 && u < 2 && v < 2
  | .ftap a x y => a < 4 && x < 4 && y < 4
  | .ftap2 a x y => a < 2 && x < 4 && y < 4
  | .acc f ad as dn sh => f < 7 && ad < 4 && as < 4 && dn < 16 && sh < 64
      && (f != 5 || ad == 0) && ((f != 0 && f != 6) || as == 0) && (f == 5 || f == 6 || dn == 0) && (f == 4 || sh == 0)
  | .trd d t => d < 16 && t < 8192
  | .twr d t => d < 16 && t < 8192

/-- The opcode of a word. -/
def opOf (w : Nat) : Nat := bits 31 26 w

/-- The fields of a word as an instruction, before the checks; none for a reserved OP. -/
def reedFields (w : Nat) : Option ReedOp :=
  match opOf w with
  | 0x00 => some .nop
  | 0x01 => some .tend
  | 0x02 => some (.b (bits 12 0 w))
  | 0x03 => some (.bc (bits 25 22 w) (bits 21 19 w) (bits 12 0 w))
  | 0x04 => some (.call (bits 12 0 w))
  | 0x05 => some (.jr (bits 21 18 w))
  | 0x06 => some (.loop (bits 25 25 w) (bits 24 13 w) (bits 12 0 w))
  | 0x07 => some (.loopr (bits 25 25 w) (bits 21 18 w) (bits 12 0 w))
  | 0x08 => some (.trap (bits 7 0 w))
  | 0x09 => some .rti
  | 0x0A => some (.mvs (bits 25 20 w) (bits 19 16 w))
  | 0x0B => some (.mfs (bits 25 22 w) (bits 21 16 w))
  | 0x0C => some (.mvi (bits 25 20 w) (bits 15 0 w))
  | 0x10 => some (.alu (bits 3 0 w) (bits 25 22 w) (bits 21 18 w) (bits 17 14 w))
  | 0x11 => some (.addi (bits 25 22 w) (bits 21 18 w) (bits 15 0 w))
  | 0x12 => some (.ldi (bits 25 22 w) (bits 21 21 w) (bits 15 0 w))
  | 0x13 => some (.shi (bits 17 16 w) (bits 25 22 w) (bits 21 18 w) (bits 4 0 w))
  | 0x18 => some (.ld false (bits 25 22 w) (bits 21 20 w) (bits 19 18 w) (bits 17 17 w) (bits 16 16 w) (bits 12 0 w))
  | 0x19 => some (.ld true (bits 25 22 w) (bits 21 20 w) (bits 19 18 w) (bits 17 17 w) (bits 16 16 w) (bits 12 0 w))
  | 0x1A => some (.st false (bits 25 22 w) (bits 21 20 w) (bits 19 18 w) (bits 17 17 w) (bits 16 16 w) (bits 12 0 w))
  | 0x1B => some (.st true (bits 25 22 w) (bits 21 20 w) (bits 19 18 w) (bits 17 17 w) (bits 16 16 w) (bits 12 0 w))
  | 0x1C => some (.sta false (bits 25 24 w) (bits 21 20 w) (bits 19 18 w) (bits 16 16 w) (bits 12 0 w))
  | 0x1D => some (.sta true (bits 25 24 w) (bits 21 20 w) (bits 19 18 w) (bits 16 16 w) (bits 12 0 w))
  | 0x20 => some (.mul (bits 23 22 w) (bits 25 24 w) (bits 21 18 w) (bits 17 14 w))
  | 0x21 => some (.dmul (bits 23 22 w) (bits 25 25 w) (bits 21 18 w) (bits 17 14 w))
  | 0x22 => some (.mulm (bits 23 22 w) (bits 25 24 w) (bits 21 20 w) (bits 19 18 w) (bits 17 17 w) (bits 16 16 w))
  | 0x23 => some (.dmulm (bits 23 22 w) (bits 25 25 w) (bits 21 20 w) (bits 19 18 w) (bits 17 17 w) (bits 16 16 w))
  | 0x24 => some (.ftap (bits 25 24 w) (bits 21 20 w) (bits 19 18 w))
  | 0x25 => some (.ftap2 (bits 25 25 w) (bits 21 20 w) (bits 19 18 w))
  | 0x26 => some (.acc (bits 3 0 w) (bits 25 24 w) (bits 23 22 w) (bits 21 18 w) (bits 17 12 w))
  | 0x28 => some (.trd (bits 25 22 w) (bits 12 0 w))
  | 0x29 => some (.twr (bits 25 22 w) (bits 12 0 w))
  | _ => none

/-- The word of an instruction (R74). -/
def ReedOp.encode : ReedOp → Nat
  | .nop => 0
  | .tend => 0x01 * 2 ^ 26
  | .b t => 0x02 * 2 ^ 26 + t
  | .bc d c t => 0x03 * 2 ^ 26 + d * 2 ^ 22 + c * 2 ^ 19 + t
  | .call t => 0x04 * 2 ^ 26 + t
  | .jr d => 0x05 * 2 ^ 26 + d * 2 ^ 18
  | .loop l c e => 0x06 * 2 ^ 26 + l * 2 ^ 25 + c * 2 ^ 13 + e
  | .loopr l d e => 0x07 * 2 ^ 26 + l * 2 ^ 25 + d * 2 ^ 18 + e
  | .trap c => 0x08 * 2 ^ 26 + c
  | .rti => 0x09 * 2 ^ 26
  | .mvs k d => 0x0A * 2 ^ 26 + k * 2 ^ 20 + d * 2 ^ 16
  | .mfs d k => 0x0B * 2 ^ 26 + d * 2 ^ 22 + k * 2 ^ 16
  | .mvi k i => 0x0C * 2 ^ 26 + k * 2 ^ 20 + i
  | .alu f d a q => 0x10 * 2 ^ 26 + d * 2 ^ 22 + a * 2 ^ 18 + q * 2 ^ 14 + f
  | .addi d a i => 0x11 * 2 ^ 26 + d * 2 ^ 22 + a * 2 ^ 18 + i
  | .ldi d h i => 0x12 * 2 ^ 26 + d * 2 ^ 22 + h * 2 ^ 21 + i
  | .shi h d a n => 0x13 * 2 ^ 26 + d * 2 ^ 22 + a * 2 ^ 18 + h * 2 ^ 16 + n
  | .ld y d p am w ab ad => (if y then 0x19 else 0x18) * 2 ^ 26 + d * 2 ^ 22 + p * 2 ^ 20 + am * 2 ^ 18 + w * 2 ^ 17 + ab * 2 ^ 16 + ad
  | .st y d p am w ab ad => (if y then 0x1B else 0x1A) * 2 ^ 26 + d * 2 ^ 22 + p * 2 ^ 20 + am * 2 ^ 18 + w * 2 ^ 17 + ab * 2 ^ 16 + ad
  | .sta y a p am ab ad => (if y then 0x1D else 0x1C) * 2 ^ 26 + a * 2 ^ 24 + p * 2 ^ 20 + am * 2 ^ 18 + ab * 2 ^ 16 + ad
  | .mul f a s t => 0x20 * 2 ^ 26 + a * 2 ^ 24 + f * 2 ^ 22 + s * 2 ^ 18 + t * 2 ^ 14
  | .dmul f a s t => 0x21 * 2 ^ 26 + a * 2 ^ 25 + f * 2 ^ 22 + s * 2 ^ 18 + t * 2 ^ 14
  | .mulm f a x y u v => 0x22 * 2 ^ 26 + a * 2 ^ 24 + f * 2 ^ 22 + x * 2 ^ 20 + y * 2 ^ 18 + u * 2 ^ 17 + v * 2 ^ 16
  | .dmulm f a x y u v => 0x23 * 2 ^ 26 + a * 2 ^ 25 + f * 2 ^ 22 + x * 2 ^ 20 + y * 2 ^ 18 + u * 2 ^ 17 + v * 2 ^ 16
  | .ftap a x y => 0x24 * 2 ^ 26 + a * 2 ^ 24 + x * 2 ^ 20 + y * 2 ^ 18
  | .ftap2 a x y => 0x25 * 2 ^ 26 + a * 2 ^ 25 + x * 2 ^ 20 + y * 2 ^ 18
  | .acc f ad as dn sh => 0x26 * 2 ^ 26 + ad * 2 ^ 24 + as * 2 ^ 22 + dn * 2 ^ 18 + sh * 2 ^ 12 + f
  | .trd d t => 0x28 * 2 ^ 26 + d * 2 ^ 22 + t
  | .twr d t => 0x29 * 2 ^ 26 + d * 2 ^ 22 + t

/-- Decoding: the instruction a word stands for, none where the word is ILLEGAL (R73). A word whose reserved bits are
not zero is not the encoding of its fields. -/
def reedDecode (w : Nat) : Option ReedOp :=
  match reedFields w with
  | none => none
  | some o => if o.wf && o.encode == w then some o else none

/-- The function code of a word, where its OP has one; it tells the rows of the table apart. -/
def fnOf (w : Nat) : Nat :=
  match opOf w with
  | 0x10 => bits 3 0 w
  | 0x13 => bits 17 16 w
  | 0x20 => bits 23 22 w
  | 0x21 => bits 23 22 w
  | 0x22 => bits 23 22 w
  | 0x23 => bits 23 22 w
  | 0x26 => bits 3 0 w
  | _ => 0

/-- OP or function code reserved (R74, R75). -/
def reservedCode (w : Nat) : Bool :=
  let o := opOf w
  let f := fnOf w
  (reedFields w).isNone || (o == 0x10 && 14 ≤ f) || (0x20 ≤ o && o ≤ 0x23 && f == 3) || (o == 0x26 && 7 ≤ f)

/-- The word is fetched by the row of OP `o` and function `f`; the NOP row also takes the words whose OP or function is
reserved. -/
def rowIs (o f w : Nat) : Bool := if o == 0 then opOf w == 0 || reservedCode w else !reservedCode w && opOf w == o && fnOf w == f

/-- Control instructions: those R82 and R84 forbid in delay slots and at an active loop end. -/
def ReedOp.control : ReedOp → Bool
  | .tend | .b _ | .bc _ _ _ | .call _ | .jr _ | .loop _ _ _ | .loopr _ _ _ | .trap _ | .rti => true
  | _ => false

end Sys2Proof.Machine
end

