-- ==== Sys2Proof/Machine/ReedStep.lean ====
section
/-!
DEFINITION. The reed pipeline: registers with writes in flight, fetch with delay slots and loop ends, ILLEGAL, TRAP and
double fault, and one fetch as an operation over an instruction's effect (R64–R66, R79–R94).
-/
namespace Sys2Proof.Machine

/-! ## Registers with writes in flight (R79–R81) -/

/-- A write lands no earlier than the one found before it in program order (DEDUCED: log entry 7). -/
def landsOver (b : Option PW) (w : PW) : Bool :=
  match b with | some v => decide (v.at_ ≤ w.at_) | none => true

/-- The write of `f` that a read accepting `ok` sees: the latest to land, the later in program order among equals (R80). -/
def latest (ok : PW → Bool) (loc : Nat) (f : List PW) : Option PW :=
  f.foldl (fun b w => if w.loc == loc && ok w && landsOver b w then some w else b) none

/-- A register as a stage in cycle `r` reads it: writes that landed by the end of the cycle before. -/
def CoreS.rd (x : CoreS) (loc r : Nat) : Int :=
  match latest (fun w => decide (w.at_ < r)) loc x.fly with | some w => w.val | none => mget 0 loc x.base

/-- A register as FETCH reads it in cycle `r`: writes of LOOP and LOOPR are passed straight to it (R81) (DEDUCED: log
entry 58). -/
def CoreS.rdFetch (x : CoreS) (loc r : Nat) : Nat :=
  (match latest (fun w => decide (w.at_ < r) || (w.fwd && decide (w.at_ ≤ r))) loc x.fly with
   | some w => w.val | none => mget 0 loc x.base).toNat

/-- Gives the TRDs that land by the end of cycle `r` their tap's committed value (R77). -/
def resolveTrd (s : State) (r : Nat) (x : CoreS) : CoreS :=
  { x with fly := x.fly.map (fun w => match w.tap with
      | some t => if w.at_ ≤ r then { w with val := ux 32 (s.tap t).cur, tap := none } else w
      | none => w) }

/-- Lands the writes of cycles before `r`, in the order in which they land. -/
def landTo (r : Nat) (x : CoreS) : CoreS :=
  let locs := (x.fly.map (fun w => w.loc)).eraseDups
  { x with base := locs.foldl (fun b l => match latest (fun w => decide (w.at_ < r)) l x.fly with
                                | some w => mset 0 l w.val b | none => b) x.base
           fly := x.fly.filter (fun w => r ≤ w.at_) }

/-- The end of the last write in flight. -/
def CoreS.maxEnd (x : CoreS) : Nat := x.fly.foldl (fun m w => max m w.at_) 0

/-- The first cycle after a drain: every instruction fetched has left MAC2/WB and every TRD has returned (R87)
(DEDUCED: log entry 7). -/
def CoreS.drained (x : CoreS) : Nat := max (x.cyc + 5) (x.maxEnd + 1)

/-- Lets everything in flight land. -/
def drain (s : State) (x : CoreS) : CoreS := landTo (x.maxEnd + 1) (resolveTrd s x.maxEnd x)

/-- CSTAT once everything has landed. -/
def CoreS.cstat (x : CoreS) : Nat := cstatOf (fun l => mget 0 l x.base)

/-! ## One instruction in the pipeline -/

/-- A fetched instruction at work: the node, the core's registers, the core, the fetch cycle, its index, and whether a
double fault came of it. -/
structure Rx where
  s   : State
  x   : CoreS
  p   : Nat
  c   : Nat
  idx : Nat
  dbl : Bool := false

/-- Reads a place in stage cycle c + `k`. -/
def Rx.rd (r : Rx) (loc k : Nat) : Int := r.x.rd loc (r.c + k)
def Rx.rdN (r : Rx) (loc k : Nat) : Nat := (r.rd loc k).toNat
/-- Writes a place at the end of cycle c + `k`. -/
def Rx.wr (r : Rx) (loc k : Nat) (v : Int) : Rx := { r with x := { r.x with fly := r.x.fly ++ [⟨loc, r.c + k, v, none, false⟩] } }
def Rx.wrFwd (r : Rx) (loc k : Nat) (v : Int) : Rx := { r with x := { r.x with fly := r.x.fly ++ [⟨loc, r.c + k, v, none, true⟩] } }

/-- Words of X and Y of the core (R63). -/
def Rx.memA (r : Rx) (y : Bool) (w : Nat) : Nat := (if y then yBase r.p else xBase r.p) + 4 * (w % 8192)
def Rx.ldw (r : Rx) (y : Bool) (w : Nat) : Nat := r.s.word (r.memA y w)
def Rx.stw (r : Rx) (y : Bool) (w v : Nat) : Rx :=
  { r with s := coreWrite r.p (r.memA y w) (leBytes 4 v) r.s
           x := { r.x with lastW := r.x.lastW ++ [(r.memA y w, r.ldw y w)], lastY := r.x.lastY || y } }

/-- A starting write of accumulator `n` (R70). -/
def Rx.accStart (r : Rx) (n : Nat) (v : Int) : Rx :=
  let (a, o) := accSat v
  let r := (r.wr (locA n) 5 a).wr (locACT n) 5 (if o then 1 else 0)
  if o then r.wr (locASAT n) 5 1 else r

/-- An accumulating operation on accumulator `n` (R70). -/
def Rx.accAdd (r : Rx) (n : Nat) (v : Int) : Rx :=
  if r.rd (locACT n) 5 != 0 then r
  else
    let (a, o) := accSat (r.rd (locA n) 5 + v)
    let r := r.wr (locA n) 5 a
    if o then (r.wr (locACT n) 5 1).wr (locASAT n) 5 1 else r

/-- The product of two words as Q1.31 (R69). -/
def prod (a b : Nat) : Int := sx 32 a * sx 32 b

/-- Sets SAT where a result saturated (R72). -/
def Rx.setSat (r : Rx) (b : Bool) : Rx := if b then r.wr locSAT 5 1 else r

/-- The address of an access of set `p` and the pointer's post-modification (R68). -/
def Rx.addr (r : Rx) (y : Bool) (p am abs ad : Nat) (pair : Bool) : Nat × Rx :=
  if abs == 1 then (ad, r)
  else
    let o := if y then 0x10 else 0
    let (a, np) := amode am (r.rdN (locS (o + p)) 2) (sx 16 (r.rdN (locS (o + 4 + p)) 2))
      (r.rdN (locS (o + 8 + p)) 2) (r.rdN (locS (o + 12 + p)) 2) pair
    match np with
    | some v => (a, r.wr (locS (o + p)) 2 v)
    | none => (a, r)

/-- Post-modifies pointer `p` of the X or Y sets by its offset (R67). -/
def Rx.postMod (r : Rx) (y : Bool) (p : Nat) : Rx := (r.addr y p 1 0 0 false).2

/-- Opens the delay slots of a branch, TEND or RTI (R82). -/
def Rx.slots (r : Rx) (k : SlotKind) (tgt : Option Nat) : Rx := { r with x := { r.x with slot := some ⟨2, k, tgt⟩ } }

/-! ## Interrupt causes (R85–R89) -/

/-- Records the index of an ILLEGAL or a double fault (R95). -/
def Rx.noteErr (r : Rx) : Rx :=
  let e := match r.x.inst with | some i => i.entry | none => 0
  { r with s := (r.s.set (F.RC_ERR_TASKIDX r.p) e).set (F.RC_ERR_ERRIDX r.p) r.idx }

/-- Raises ILLEGAL (cause 1) or TRAP (cause 2) with its CODE; `k` tells the delay slot the instruction stands in. -/
def Rx.raise (r : Rx) (cause code : Nat) (k : Option SlotKind) : Rx :=
  let ill := fun (q : Rx) => if cause == 1 then { q with s := q.s.set (F.RC_FLAGS_ILL q.p) 1 } else q
  if k == some .tend then ill r.noteErr
  else if r.rd locIE 1 == 0 then { r.noteErr with dbl := true }
  else if r.x.pend.isSome then ill r
  else
    let q := ill (if cause == 1 then r.noteErr else r)
    let ipc := match k with | some _ => none | none => some (if cause == 1 then r.idx else (r.idx + 1) % 8192)
    { q with x := { q.x with pend := some ⟨cause, code, ipc, k.isSome && k != some .rti, k == some .rti⟩ } }

/-! ## Fetch (R79, R82–R84) -/

/-- A DEBUG request that IE lets in, or a cause, is to be taken at the next boundary (R85, R87). -/
def CoreS.entryDue (x : CoreS) : Bool := x.pend.isSome || (x.dbgReq && x.rd locIE x.cyc != 0)

/-- The core fetches: it runs an instance, is not halted or draining, and no cause is to be taken at the boundary. -/
def CoreS.fetches (x : CoreS) : Bool :=
  x.inst.isSome && !x.halted && !x.ending && !x.returning && (x.slot.isSome || !x.entryDue)

/-- The core stands at a boundary at which an interrupt can be taken (R87). -/
def CoreS.boundary (x : CoreS) : Bool := x.slot.isNone && !x.ending && !x.returning

/-- Loop end of level `l` at the fetch of `idx` in cycle `c` (R83): the level is active, its count and its start. -/
def CoreS.loopAt (x : CoreS) (l idx c : Nat) : Bool × Nat × Nat :=
  let lc := x.rdFetch (locS (srLC l)) c
  (x.rdFetch (locS (srLE l)) c == idx && lc != 0, lc, x.rdFetch (locS (srLS l)) c)

/-- The fetch after `idx` and the loop counts it changes (R83). -/
def CoreS.nextFetch (x : CoreS) (idx c : Nat) : Nat × List PW :=
  let (a1, n1, s1) := x.loopAt 1 idx c
  let (a0, n0, s0) := x.loopAt 0 idx c
  let dec := fun (l n : Nat) => PW.mk (locS (srLC l)) c ((n : Int) - 1) none false
  if a1 && 1 < n1 then (s1, [dec 1 n1])
  else
    let w1 := if a1 then [dec 1 n1] else []
    if a0 && 1 < n0 then (s0, w1 ++ [dec 0 n0])
    else ((idx + 1) % 8192, w1 ++ (if a0 then [dec 0 n0] else []))

/-- A core abandons its instance: it is idle, and its queue and its registers are gone. -/
def abandon (p : Nat) (e : IEnd) (s : State) : State :=
  let s := leaveMem p (countCore p s)
  let x := s.coreS p
  let s := match x.inst with
    | some i =>
      let s := mapInsts (fun j => j.is i.lcore i.task i.breath && j.ended.isNone) (fun j => { j with ended := some e }) s
      { s with disp := { s.disp with freeAt := mset 0 i.lcore s.now s.disp.freeAt } }
    | none => s
  let s := s.setCore p { dbgReq := x.dbgReq, halted := x.halted }
  (if s.get (F.RC_STAT_STATE p) == rcRUNNING then s.set (F.RC_STAT_STATE p) rcIDLE else s).set (F.RC_TASK_RUNNING p) 0

/-- The effects of a double fault (R89). -/
def doubleFault (p : Nat) (s : State) : State :=
  let x := s.coreS p
  let s := abandon p .aborted (s.set (F.RC_FLAGS_DOUBLE p) 1)
  let s := match x.inst with
    | some i => if s.disp.insts.any (fun j => j.is i.lcore i.task i.breath && j.late) then s else lateMiss i.lcore i.task i.breath s
    | none => s
  raiseF 4 p s

/-- What error correction does to a core read (R94); the truth value says that the core goes on. -/
def coreEcc (p : Nat) (e : Ecc) (s : State) : State × Bool :=
  match e with
  | .clean => (s, true)
  | .ce => (raiseF 0 p (s.incSat (F.RC_ECC_CE p)), true)
  | .ces n => (raiseF 0 p (s.addSat (F.RC_ECC_CE p) n), true)
  | .ue => (raiseF 1 p (abandon p .fenced (s.set (F.RC_ECC_UE p) 1)), false)

/-- Core `p` as the fetch at its fetch index finds it: writes of earlier cycles have landed (R79, R80). -/
def State.fetchCore (s : State) (p : Nat) : CoreS :=
  landTo (s.coreS p).cyc (resolveTrd s ((s.coreS p).cyc + 3) (s.coreS p))

/-- The instruction at the fetch index stands at the end of an active loop (R83). -/
def CoreS.loopEnd (x : CoreS) : Bool := (x.loopAt 1 x.pc x.cyc).1 || (x.loopAt 0 x.pc x.cyc).1

/-- The core after the fetch at its fetch index: the next index, the delay slots left, and the drain that the second slot of
TEND or RTI begins (R79, R82, R83, R88, R90). -/
def CoreS.afterFetch (x : CoreS) : CoreS :=
  let (nx, ws) := x.nextFetch x.pc x.cyc
  match x.slot with
  | none => { x with pc := nx, cyc := x.cyc + 1, fly := x.fly ++ ws, ending := false, returning := false }
  | some q =>
    let last := decide (q.left ≤ 1)
    let taken := last && q.kind == .branch && q.tgt.isSome
    { x with pc := if taken then q.tgt.getD nx else nx
             cyc := x.cyc + 1
             fly := if taken then x.fly else x.fly ++ ws
             slot := if last then none else some { q with left := q.left - 1 }
             ending := last && q.kind == .tend
             returning := last && q.kind == .rti }

/-- A halt request stops the fetches of core `p` at the boundary at which it stands (R92). -/
def State.haltAt (s : State) (p : Nat) : Bool :=
  s.on (F.RC_DBGCTL_HALT p) && !s.on (F.RC_DBGCTL_DBGINT_EN p) && (s.coreS p).slot.isNone

/-- Fetches and runs the instruction at the fetch index of core `p`, if `row` accepts its word: `eff` is its effect. The external
writes that wait for the Y write slot land unless it takes the slot too (R64) (DEDUCED: log entry 7). -/
def fetchStep (p : Nat) (e : Ecc) (row : Nat → Bool) (eff : ReedOp → Rx → Rx) (s : State) : State :=
  let w := s.word (iBase p + 4 * (s.coreS p).pc)
  if !(s.coreS p).fetches || !row w then s
  else
    let (s, ok) := coreEcc p e s
    if !ok then s
    else
      let x := s.fetchCore p
      let kind := x.slot.map (fun q => q.kind)
      let r : Rx := ⟨s, { x.afterFetch with lastW := [], lastY := false }, p, x.cyc, x.pc, false⟩
      let r := match reedDecode w with
        | none => r.raise 1 0 kind
        | some o => if o.control && (kind.isSome || x.loopEnd) then r.raise 1 0 kind else eff o r
      let s := r.s.setCore p r.x
      let s := if r.x.lastY || r.x.yext.isEmpty then s else landY p s
      if r.dbl then doubleFault p s else s

/-- One fetch of core `p`, unless a halt request holds it (R92). -/
def fetchOne (p : Nat) (e : Ecc) (row : Nat → Bool) (eff : ReedOp → Rx → Rx) (s : State) : State :=
  if s.haltAt p then s else fetchStep p e row eff s

end Sys2Proof.Machine
end

