-- ==== Sys2Proof/Machine/ReedOps.lean ====
section
/-!
DEFINITION. What each reed instruction does in the pipeline, one effect per instruction (R68–R78, R82–R84, R88, R90).
An effect is given only the instructions its row accepts; any other it leaves alone.
-/
namespace Sys2Proof.Machine

/-! ## Shared forms -/

/-- An ALU result into `dd`: read and written in MAC1 (R79). -/
def aluForm (f : Nat → Nat → AluR) (dd ds dt : Nat) (r : Rx) : Rx :=
  let v := f (r.rdN (locD ds) 4) (r.rdN (locD dt) 4)
  (r.wr (locD dd) 4 v.val).setSat v.sat

def aluEff (f : Nat → Nat → AluR) (o : ReedOp) (r : Rx) : Rx :=
  match o with | .alu _ dd ds dt => aluForm f dd ds dt r | _ => r

/-- A shift by an immediate amount (R75). -/
def shiEff (f : Nat → Nat → AluR) (o : ReedOp) (r : Rx) : Rx :=
  match o with
  | .shi _ dd ds amt =>
    let v := f (r.rdN (locD ds) 4) amt
    (r.wr (locD dd) 4 v.val).setSat v.sat
  | _ => r

/-- A load (R68, R76). -/
def loadEff (o : ReedOp) (r : Rx) : Rx :=
  match o with
  | .ld y dd p am w abs ad =>
    let (a, r) := r.addr y p am abs ad (w == 1)
    if w == 1 then
      (r.wr (locD dd) 3 (r.ldw y (pairLow a))).wr (locD (dd + 1)) 3 (r.ldw y (pairLow a + 1))
    else r.wr (locD dd) 3 (r.ldw y a)
  | _ => r

/-- A store: data read in MEM (R68, R76, R79). -/
def storeEff (o : ReedOp) (r : Rx) : Rx :=
  match o with
  | .st y ds p am w abs ad =>
    let (a, r) := r.addr y p am abs ad (w == 1)
    if w == 1 then
      (r.stw y (pairLow a) (r.rdN (locD ds) 3)).stw y (pairLow a + 1) (r.rdN (locD (ds + 1)) 3)
    else r.stw y a (r.rdN (locD ds) 3)
  | _ => r

/-- A store of a rounded accumulator (R71, R76). -/
def storeAccEff (o : ReedOp) (r : Rx) : Rx :=
  match o with
  | .sta y an p am abs ad =>
    let (a, r) := r.addr y p am abs ad false
    let v := accRound (r.rd (locA an) 3)
    (r.stw y a v.val).setSat v.sat
  | _ => r

/-- How a product meets an accumulator (R75). -/
inductive MacFn where
  | mpy | mac | msu
  deriving DecidableEq, Repr

/-- The product `v` into accumulator `n`. -/
def Rx.mac (r : Rx) (f : MacFn) (n : Nat) (v : Int) : Rx :=
  match f with | .mpy => r.accStart n v | .mac => r.accAdd n v | .msu => r.accAdd n (-v)

/-- Lane 0 and lane 1 accumulators of AP (R74). -/
def lanes (ap : Nat) : Nat × Nat := (2 * ap, 2 * ap + 1)

def mulEff (f : MacFn) (o : ReedOp) (r : Rx) : Rx :=
  match o with | .mul _ an ds dt => r.mac f an (prod (r.rdN (locD ds) 4) (r.rdN (locD dt) 4)) | _ => r

def dmulEff (f : MacFn) (o : ReedOp) (r : Rx) : Rx :=
  match o with
  | .dmul _ ap ds dt =>
    let r1 := r.mac f (lanes ap).1 (prod (r.rdN (locD ds) 4) (r.rdN (locD dt) 4))
    r1.mac f (lanes ap).2 (prod (r.rdN (locD (ds + 1)) 4) (r.rdN (locD (dt + 1)) 4))
  | _ => r

/-- Pointer updates of MULM and DMULM (R76). -/
def Rx.upd (r : Rx) (xp yp xu yu : Nat) : Rx :=
  let r := if xu == 1 then r.postMod false xp else r
  if yu == 1 then r.postMod true yp else r

def mulmEff (f : MacFn) (o : ReedOp) (r : Rx) : Rx :=
  match o with
  | .mulm _ an xp yp xu yu =>
    let v := prod (r.ldw false (r.rdN (locS xp) 2)) (r.ldw true (r.rdN (locS (0x10 + yp)) 2))
    (r.mac f an v).upd xp yp xu yu
  | _ => r

def dmulmEff (f : MacFn) (o : ReedOp) (r : Rx) : Rx :=
  match o with
  | .dmulm _ ap xp yp xu yu =>
    let a := pairLow (r.rdN (locS xp) 2)
    let b := pairLow (r.rdN (locS (0x10 + yp)) 2)
    let r1 := r.mac f (lanes ap).1 (prod (r.ldw false a) (r.ldw true b))
    (r1.mac f (lanes ap).2 (prod (r.ldw false (a + 1)) (r.ldw true (b + 1)))).upd xp yp xu yu
  | _ => r

/-! ## Control -/

def effNop (_ : ReedOp) (r : Rx) : Rx := r
def effTend (_ : ReedOp) (r : Rx) : Rx := r.slots .tend none
def effB (o : ReedOp) (r : Rx) : Rx := match o with | .b t => r.slots .branch (some t) | _ => r
def effBc (o : ReedOp) (r : Rx) : Rx :=
  match o with
  | .bc ds c t => r.slots .branch (if condHolds c (r.rdN (locD ds) 2) then some t else none)
  | _ => r
def effCall (o : ReedOp) (r : Rx) : Rx :=
  match o with | .call t => (r.wr (locD 15) 4 ((r.idx + 3) % 8192 : Nat)).slots .branch (some t) | _ => r
def effJr (o : ReedOp) (r : Rx) : Rx :=
  match o with | .jr ds => r.slots .branch (some (r.rdN (locD ds) 2 % 8192)) | _ => r

/-- LOOP and LOOPR with count `n` (R76, R84) (DEDUCED: log entry 58). -/
def Rx.loopTo (r : Rx) (l n fin : Nat) : Rx :=
  if fin ≤ r.idx then r.raise 1 0 none
  else
    let r := ((r.wrFwd (locS (srLS l)) 1 ((r.idx + 1) % 8192 : Nat)).wrFwd (locS (srLE l)) 1 fin).wrFwd (locS (srLC l)) 1 n
    if n == 0 then { r with x := { r.x with pc := (fin + 1) % 8192, cyc := r.x.cyc + 1 } } else r

def effLoop (o : ReedOp) (r : Rx) : Rx := match o with | .loop l n e => r.loopTo l n e | _ => r
def effLoopr (o : ReedOp) (r : Rx) : Rx :=
  match o with | .loopr l ds e => r.loopTo l (r.rdN (locD ds) 1 % 65536) e | _ => r
def effTrap (o : ReedOp) (r : Rx) : Rx := match o with | .trap c => r.raise 2 c none | _ => r
def effRti (_ : ReedOp) (r : Rx) : Rx := r.slots .rti none

/-! ## Special registers -/

/-- Writes special register `k` (R76, R79): accumulator parts and CSTAT in MAC2/WB, the others in ADDR. -/
def Rx.wrSreg (r : Rx) (k v : Nat) : Rx :=
  if sregAcc k then
    let n := (k - 0x30) / 3
    let a := ux 72 (r.rd (locA n) 5)
    let a' := match (k - 0x30) % 3 with
      | 0 => a / 2 ^ 32 * 2 ^ 32 + v % 2 ^ 32
      | 1 => a / 2 ^ 64 * 2 ^ 64 + v % 2 ^ 32 * 2 ^ 32 + a % 2 ^ 32
      | _ => v % 256 * 2 ^ 64 + a % 2 ^ 64
    r.accStart n (sx 72 a')
  else if k == srCSTAT then (cstatPlaces v).foldl (fun q e => q.wr e.1 5 e.2) r
  else r.wr (locS k) 2 (sregStore k v : Nat)

/-- Reads special register `k` in MEM, extended to 32 bits (R76) (DEDUCED: log entry 58). -/
def Rx.rdSreg (r : Rx) (k : Nat) : Nat :=
  if sregAcc k then
    let a := r.rd (locA ((k - 0x30) / 3)) 3
    match (k - 0x30) % 3 with
    | 0 => ux 32 a
    | 1 => ux 32 (a / ((2 ^ 32 : Nat) : Int))
    | _ => ux 32 (a / ((2 ^ 64 : Nat) : Int))
  else if k == srCSTAT then cstatOf (fun l => r.rd l 3)
  else if sregOffset k then ux 32 (sx 16 (r.rdN (locS k) 3))
  else r.rdN (locS k) 3

def effMvs (o : ReedOp) (r : Rx) : Rx := match o with | .mvs k ds => r.wrSreg k (r.rdN (locD ds) 2) | _ => r
def effMfs (o : ReedOp) (r : Rx) : Rx := match o with | .mfs dd k => r.wr (locD dd) 3 (r.rdSreg k) | _ => r
def effMvi (o : ReedOp) (r : Rx) : Rx :=
  match o with
  | .mvi k i => r.wrSreg k (if sregOffset k || k == srXCAR then ux 32 (sx 16 i) else i)
  | _ => r

/-! ## ALU -/

def effAdd : ReedOp → Rx → Rx := aluEff aluAdd
def effSub : ReedOp → Rx → Rx := aluEff aluSub
def effAdds : ReedOp → Rx → Rx := aluEff aluAdds
def effSubs : ReedOp → Rx → Rx := aluEff aluSubs
def effAnd : ReedOp → Rx → Rx := aluEff aluAnd
def effOr : ReedOp → Rx → Rx := aluEff aluOr
def effXor : ReedOp → Rx → Rx := aluEff aluXor
def effMin : ReedOp → Rx → Rx := aluEff aluMin
def effMax : ReedOp → Rx → Rx := aluEff aluMax
def effAbss : ReedOp → Rx → Rx := aluEff aluAbss
def effShl : ReedOp → Rx → Rx := aluEff aluShl
def effShr : ReedOp → Rx → Rx := aluEff aluShr
def effShra : ReedOp → Rx → Rx := aluEff aluShra
def effSlt : ReedOp → Rx → Rx := aluEff aluSlt
def effAddi (o : ReedOp) (r : Rx) : Rx :=
  match o with
  | .addi dd ds i => r.wr (locD dd) 4 (aluAdd (r.rdN (locD ds) 4) (ux 32 (sx 16 i))).val
  | _ => r
def effLdi (o : ReedOp) (r : Rx) : Rx :=
  match o with
  | .ldi dd h i => r.wr (locD dd) 4 (if h == 0 then ux 32 (sx 16 i) else i * 65536 + r.rdN (locD dd) 4 % 65536)
  | _ => r
def effShiShl : ReedOp → Rx → Rx := shiEff aluShl
def effShiShr : ReedOp → Rx → Rx := shiEff aluShr
def effShiShra : ReedOp → Rx → Rx := shiEff aluShra
def effShls : ReedOp → Rx → Rx := shiEff aluShls

/-! ## Loads, stores, products -/

def effLdx : ReedOp → Rx → Rx := loadEff
def effLdy : ReedOp → Rx → Rx := loadEff
def effStx : ReedOp → Rx → Rx := storeEff
def effSty : ReedOp → Rx → Rx := storeEff
def effStxa : ReedOp → Rx → Rx := storeAccEff
def effStya : ReedOp → Rx → Rx := storeAccEff
def effMulMpy : ReedOp → Rx → Rx := mulEff .mpy
def effMulMac : ReedOp → Rx → Rx := mulEff .mac
def effMulMsu : ReedOp → Rx → Rx := mulEff .msu
def effDmulMpy : ReedOp → Rx → Rx := dmulEff .mpy
def effDmulMac : ReedOp → Rx → Rx := dmulEff .mac
def effDmulMsu : ReedOp → Rx → Rx := dmulEff .msu
def effMulmMpy : ReedOp → Rx → Rx := mulmEff .mpy
def effMulmMac : ReedOp → Rx → Rx := mulmEff .mac
def effMulmMsu : ReedOp → Rx → Rx := mulmEff .msu
def effDmulmMpy : ReedOp → Rx → Rx := dmulmEff .mpy
def effDmulmMac : ReedOp → Rx → Rx := dmulmEff .mac
def effDmulmMsu : ReedOp → Rx → Rx := dmulmEff .msu

/-- FTAP (R76). -/
def effFtap (o : ReedOp) (r : Rx) : Rx :=
  match o with
  | .ftap an xp yp =>
    let xa := r.rdN (locS xp) 2
    let ya := r.rdN (locS (0x10 + yp)) 2
    let x := r.ldw false xa
    let car := r.rdN (locS srXCAR) 3
    let r := r.accAdd an (prod car (r.ldw true ya))
    let r := (r.stw false xa car).wr (locS srXCAR) 3 x
    (r.postMod false xp).postMod true yp
  | _ => r

/-- FTAP2 (R76). -/
def effFtap2 (o : ReedOp) (r : Rx) : Rx :=
  match o with
  | .ftap2 ap xp yp =>
    let xa := pairLow (r.rdN (locS xp) 2)
    let ya := pairLow (r.rdN (locS (0x10 + yp)) 2)
    let x0 := r.ldw false xa
    let x1 := r.ldw false (xa + 1)
    let car := r.rdN (locS srXCAR) 3
    let r := (r.accAdd (lanes ap).1 (prod car (r.ldw true ya))).accAdd (lanes ap).2 (prod x0 (r.ldw true (ya + 1)))
    let r := ((r.stw false xa car).stw false (xa + 1) x0).wr (locS srXCAR) 3 x1
    (r.postMod false xp).postMod true yp
  | _ => r

/-! ## Accumulators (R75): As is read in MAC1 -/

def effClra (o : ReedOp) (r : Rx) : Rx := match o with | .acc _ ad _ _ _ => r.accStart ad 0 | _ => r
def effMova (o : ReedOp) (r : Rx) : Rx := match o with | .acc _ ad as _ _ => r.accStart ad (r.rd (locA as) 4) | _ => r
def effAdda (o : ReedOp) (r : Rx) : Rx := match o with | .acc _ ad as _ _ => r.accAdd ad (r.rd (locA as) 4) | _ => r
def effSuba (o : ReedOp) (r : Rx) : Rx := match o with | .acc _ ad as _ _ => r.accAdd ad (-(r.rd (locA as) 4)) | _ => r
def effAccsh (o : ReedOp) (r : Rx) : Rx :=
  match o with | .acc _ ad as _ sh => r.accStart ad (accShift (r.rd (locA as) 4) (sx 6 sh)) | _ => r
def effRnd (o : ReedOp) (r : Rx) : Rx :=
  match o with
  | .acc _ _ as dn _ =>
    let v := accRound (r.rd (locA as) 4)
    (r.wr (locD dn) 5 v.val).setSat v.sat
  | _ => r
def effLda (o : ReedOp) (r : Rx) : Rx :=
  match o with | .acc _ ad _ dn _ => r.accStart ad (sx 32 (r.rdN (locD dn) 4) * ((2 ^ 31 : Nat) : Int)) | _ => r

/-! ## Taps (R77, R78) -/

def effTrd (o : ReedOp) (r : Rx) : Rx :=
  match o with
  | .trd dd t =>
    if isTap t then { r with x := { r.x with fly := r.x.fly ++ [⟨locD dd, r.c + 11, 0, some t, false⟩] } }
    else (r.wr (locD dd) 11 0).wr locTAPE 5 1
  | _ => r

def effTwr (o : ReedOp) (r : Rx) : Rx :=
  match o with
  | .twr ds t =>
    match r.x.inst with
    | none => r
    | some i =>
      if reedTap0 + i.outBase ≤ t && t < reedTap0 + i.outBase + i.outCount then
        { r with x := { r.x with twr := r.x.twr.filter (fun q => q.1 != t) ++ [(t, sx 32 (r.rdN (locD ds) 3))] } }
      else r.wr locTAPE 5 1
  | _ => r

/-- The effect of any instruction: what a debug step runs (R92). -/
def effAny (o : ReedOp) (r : Rx) : Rx :=
  match o with
  | .nop => effNop o r | .tend => effTend o r | .b _ => effB o r | .bc _ _ _ => effBc o r | .call _ => effCall o r
  | .jr _ => effJr o r | .loop _ _ _ => effLoop o r | .loopr _ _ _ => effLoopr o r | .trap _ => effTrap o r
  | .rti => effRti o r | .mvs _ _ => effMvs o r | .mfs _ _ => effMfs o r | .mvi _ _ => effMvi o r
  | .alu f _ _ _ =>
    match f with
    | 0 => effAdd o r | 1 => effSub o r | 2 => effAdds o r | 3 => effSubs o r | 4 => effAnd o r | 5 => effOr o r
    | 6 => effXor o r | 7 => effMin o r | 8 => effMax o r | 9 => effAbss o r | 10 => effShl o r | 11 => effShr o r
    | 12 => effShra o r | _ => effSlt o r
  | .addi _ _ _ => effAddi o r | .ldi _ _ _ => effLdi o r
  | .shi h _ _ _ => match h with | 0 => effShiShl o r | 1 => effShiShr o r | 2 => effShiShra o r | _ => effShls o r
  | .ld _ _ _ _ _ _ _ => loadEff o r | .st _ _ _ _ _ _ _ => storeEff o r | .sta _ _ _ _ _ _ => storeAccEff o r
  | .mul f _ _ _ => match f with | 0 => effMulMpy o r | 1 => effMulMac o r | _ => effMulMsu o r
  | .dmul f _ _ _ => match f with | 0 => effDmulMpy o r | 1 => effDmulMac o r | _ => effDmulMsu o r
  | .mulm f _ _ _ _ _ => match f with | 0 => effMulmMpy o r | 1 => effMulmMac o r | _ => effMulmMsu o r
  | .dmulm f _ _ _ _ _ => match f with | 0 => effDmulmMpy o r | 1 => effDmulmMac o r | _ => effDmulmMsu o r
  | .ftap _ _ _ => effFtap o r | .ftap2 _ _ _ => effFtap2 o r
  | .acc f _ _ _ _ =>
    match f with
    | 0 => effClra o r | 1 => effMova o r | 2 => effAdda o r | 3 => effSuba o r | 4 => effAccsh o r | 5 => effRnd o r
    | _ => effLda o r
  | .trd _ _ => effTrd o r | .twr _ _ => effTwr o r

end Sys2Proof.Machine
end

