-- ==== Sys2Proof/Machine/Instance.lean ====
section
/-!
DEFINITION. Instances on their cores: start, interrupt entry and return, debug halt and step, completion and abort
(R42, R66, R85–R92, R95).
-/
namespace Sys2Proof.Machine

/-! ## Start (R42, R66) -/

/-- The registers of a core at the start of an instance (R66). -/
def startBase (l b : Nat) : SMap Int :=
  mset 0 (locS srLCORE) (l : Int) (mset 0 (locS srBIDX) ((b % 2 ^ 32 : Nat) : Int) (mset 0 locIE 1 []))

/-- Instant from which the core of `l` is awake; none while it is gated (R43). -/
def State.awakeAt (s : State) (l : Nat) : Option Nat :=
  match s.sleepOf l with | .gated => none | .waking a => some a | .awake => some 0

/-- The instant at which DISP aborts instance `i`, a breath period after its deadline, has come (R91). -/
def State.overdue (s : State) (i : Inst) : Bool :=
  match s.task i.lcore i.task with
  | some e => decide (((e.deadline * 256 + s.period : Nat) : Int) ≤ s.since i.breath)
  | none => false

/-- Instance `i` may start now (R42, R45, R91, R116, R128). -/
def State.mayStart (s : State) (i : Inst) : Bool :=
  let p := s.physOf i.lcore
  let x := s.coreS p
  if s.overdue i then false
  else match i.fired, s.awakeAt i.lcore with
  | some f, some a =>
    i.ready && p < 136 && x.inst.isNone && !x.halted
    && !s.disp.insts.any (fun j => j.lcore == i.lcore && j.running)
    && s.disp.insts.all (fun j => !(j.lcore == i.lcore && j.ready) || j.is i.lcore i.task i.breath
        || (match j.fired with | some g => decide (f < g) || (f == g && decide (i.task ≤ j.task)) | none => true))
    && s.disp.heldWords.all (fun h => h.lcore != i.lcore || decide (i.breath < h.b))
    && (decide (i.breath < s.n) || (List.range 8).all (fun k => !(s.mboxDue k && s.mboxNames k i.lcore)))
    && !s.deliveryOut i.lcore i.breath
    && decide (max (max f a) (mget 0 i.lcore s.disp.freeAt) + s.reedUnits 5 ≤ s.now)
    && decide (((100 * 256 + s.reedUnits 5 : Nat) : Int) ≤ s.since i.breath)
  | _, _ => false

/-- INSTANCE_START (R42, R66) of task `k` of core `l` in breath `b`. -/
def execInstanceStart (l k b t : Nat) (s : State) : Host.Outcome State Fault Refusal :=
  let s1 := s.atTime t
  match s1.disp.insts.find? (fun i => i.is l k b), s1.task l k with
  | some i, some e =>
    if s1.mayStart i then
      let p := s1.physOf l
      let x := s1.coreS p
      let s2 := (mapInsts (fun j => j.is l k b) (fun j => { j with started := some s1.now }) s1).setSleep l .awake
      let s3 := s2.setCore p { pc := e.entry, base := startBase l b, inst := some ⟨l, k, b, e.entry, e.outBase, e.outCount⟩
                               dbgReq := x.dbgReq }
      done s ((((s3.set (F.RC_STAT_STATE p) rcRUNNING).set (F.RC_TASK_RUNNING p) 1).set (F.RC_TASK_TASK p) k).set
        (F.RC_TASK_LCORE p) l)
    else done s s1
  | _, _ => done s s1

/-! ## Interrupts (R86–R88) -/

/-- Takes the waiting cause, or a DEBUG request, at the boundary at which the core stands (R85–R87). A DEBUG request that arrived
in a delay slot is saved with DSLOT = 1 whenever it is taken, though it waited for IE past that slot (DESIGN CHOICE: log entry
66). -/
def takeInterrupt (p : Nat) (s : State) : State :=
  let s := leaveMem p s
  let x := s.coreS p
  let go := fun (q : PendI) (dbg : Bool) =>
    let y := drain s x
    let ist : Nat := y.cstat + q.dslot.toNat * 2 ^ 13 + q.cause * 2 ^ 16 + q.code * 2 ^ 24
    let base := mset 0 (locS srIPC) ((q.ipc.getD x.pc : Nat) : Int)
      (mset 0 (locS srISTAT) (ist : Int) (mset 0 locIE 0 y.base))
    let s := s.setCore p { y with base := base, pc := 8 * q.cause, cyc := x.drained, pend := none
                                  dbgReq := x.dbgReq && !dbg, dbgSlot := x.dbgSlot && !dbg }
    s.set (F.RC_STAT_LASTCAUSE p) q.cause
  if x.inst.isNone || x.halted || !x.boundary || s.haltAt p && x.pend.isNone then s
  else match x.pend with
    | some q => go q false
    | none =>
      if x.dbgReq && x.rd locIE x.cyc != 0 then go ⟨3, 0, some x.pc, x.dbgSlot, false⟩ true else s

def execInterruptEntry (p : Nat) (s : State) : Host.Outcome State Fault Refusal := done s (takeInterrupt p s)

/-- The return of RTI after its drain (R88). -/
def returnInterrupt (p : Nat) (s : State) : State :=
  let s := leaveMem p s
  let x := s.coreS p
  if !x.returning || x.halted then s
  else
    let y := drain s x
    let ist := (mget 0 (locS srISTAT) y.base).toNat
    let b := fun (loc i : Nat) (m : SMap Int) => mset 0 loc (if bitOf ist i then 1 else 0) m
    let o := fun (loc i : Nat) (m : SMap Int) => if bitOf ist i then mset 0 loc 1 m else m
    let base := b locIE 12 (b (locACT 3) 7 (b (locACT 2) 6 (b (locACT 1) 5 (b (locACT 0) 4
      (o locTAPE 9 (o locSAT 8 (o (locASAT 3) 3 (o (locASAT 2) 2 (o (locASAT 1) 1 (o (locASAT 0) 0 y.base))))))))))
    s.setCore p { y with base := base, pc := (mget 0 (locS srIPC) y.base).toNat % 8192, cyc := x.drained
                         returning := false }

def execInterruptReturn (p : Nat) (s : State) : Host.Outcome State Fault Refusal := done s (returnInterrupt p s)

/-! ## Debug (R85, R92, R95) -/

/-- Halts core `p` at the boundary at which it stands. -/
def haltCore (p : Nat) (s : State) : State :=
  let s := leaveMem p s
  let x := s.coreS p
  let y := drain s x
  let s := s.setCore p { y with cyc := if x.inst.isSome then x.drained else x.cyc, halted := true }
  (s.set (F.RC_STAT_STATE p) rcHALTED).set (F.RC_DBGPC_PC p) x.pc

/-- One fetch while halted, with its delay slots, and the entry or the return that it leads to (R87, R88, R92); `e` is what error
correction meets on the first of its fetches (R94). An instance that ends, or a core that is fenced, is left as it is. -/
def stepCore (p : Nat) (e : Ecc) (s : State) : State :=
  let x := s.coreS p
  if !x.halted || x.inst.isNone then s
  else
    let one := fun (o : Ecc) => fetchStep p o (fun _ => true) effAny
    let s := one e (s.setCore p { x with halted := false, dbgReq := false })
    let s := if (s.coreS p).slot.isSome then one .clean s else s
    let s := if (s.coreS p).slot.isSome then one .clean s else s
    let s := if (s.coreS p).pend.isSome then takeInterrupt p s else s
    let s := if (s.coreS p).returning then returnInterrupt p s else s
    if s.get (F.RC_STAT_STATE p) == rcISOLATED then s
    else haltCore p (s.setCore p { s.coreS p with dbgReq := x.dbgReq })

/-- What RC_STAT.STATE shows of core `p` when it is neither halted nor at work outside the dispatcher: a core that runs no instance
is gated where its logical core is, or where it holds none (R43, R95). -/
def State.restState (s : State) (p : Nat) : Nat :=
  if (s.coreS p).inst.isSome then rcRUNNING
  else match s.logOf p with
    | some l => if s.sleepOf l == .gated then rcGATED else rcIDLE
    | none => rcGATED

/-- A write of RC_DBGCTL (R92, R95). With DBGINT_EN = 1 nothing halts: a halted core goes on. Each write of HALT = 1 with
DBGINT_EN = 1 requests DEBUG, and no later write withdraws a request that waits for IE (DESIGN CHOICE: log entry 66). -/
def wrDbgctl (p v : Nat) (e : Ecc) (s : State) : State :=
  let s := (s.set (F.RC_DBGCTL_DBGINT_EN p) (bits 2 2 v)).set (F.RC_DBGCTL_HALT p) (bits 0 0 v)
  let s := if (s.coreS p).halted && !(bitOf v 0 && !bitOf v 2) then
      let s := s.setCore p { s.coreS p with halted := false }
      (s.set (F.RC_STAT_STATE p) (s.restState p)).set (F.RC_DBGPC_PC p) 0
    else s
  let x := s.coreS p
  let s := if bitOf v 0 && bitOf v 2 then
      s.setCore p { x with dbgReq := true, dbgSlot := x.slot.any (fun q => q.kind == .branch) }
    else s
  if bitOf v 1 then stepCore p e s else s

def execDebugHalt (m p v : Nat) (s : State) : Host.Outcome State Fault Refusal :=
  done s (guarded m (A.RC_DBGCTL p) (wrDbgctl p v .clean) s)
def execDebugStep (m p : Nat) (v : EccWord) (s : State) : Host.Outcome State Fault Refusal :=
  done s (guarded m (A.RC_DBGCTL p) (wrDbgctl p v.v v.e) s)

/-- CORE_HALTED (R92): the core stands at a boundary that R87 allows. -/
def execCoreHalted (p t : Nat) (s : State) : Host.Outcome State Fault Refusal :=
  let s1 := s.atTime t
  let x := s1.coreS p
  done s (if s1.on (F.RC_DBGCTL_HALT p) && !s1.on (F.RC_DBGCTL_DBGINT_EN p) && x.boundary && x.pend.isNone && !x.halted
    && s1.get (F.RC_STAT_STATE p) != rcISOLATED && s1.get (F.RC_STAT_STATE p) != rcBIST then haltCore p s1 else s1)

/-- CLR_ECC_CE (R95): a write of RC_ECC. -/
def wrRcEcc (p v : Nat) (s : State) : State :=
  let s := s.writeField v (F.RC_ECC_UE p)
  if bitOf v 30 then s.set (F.RC_ECC_CE p) 0 else s
def execClrEccCe (m p : Nat) (s : State) : Host.Outcome State Fault Refusal :=
  done s (guarded m (A.RC_ECC p) (fun u => u.set (F.RC_ECC_CE p) 0) s)

/-! ## End (R46, R48, R90, R91) -/

/-- ORs the sticky bits of CSTAT into RC_FLAGS (R72, R90). -/
def gatherFlags (p c : Nat) (s : State) : State :=
  let s := s.set (F.RC_FLAGS_ASAT p) (s.get (F.RC_FLAGS_ASAT p) ||| c % 16)
  let s := if bitOf c 8 then s.set (F.RC_FLAGS_SAT p) 1 else s
  if bitOf c 9 then s.set (F.RC_FLAGS_TAPE p) 1 else s

/-- Cycle and slack statistics of a completion (R48, R95). The slack in ns is rounded up: of a completion inside a ns the whole ns
elapsed are taken from DEADLINE (DESIGN CHOICE: log entry 67). -/
def noteCycles (p l cyc : Nat) (slack : Int) (s : State) : State :=
  let s := (countCycles p l cyc s).set (F.RC_CYCLES_CYCLES p) (min cyc 65535)
  s.set (F.DISP_CORE_STAT_SLACK_MIN l) (min (s.get (F.DISP_CORE_STAT_SLACK_MIN l)) slack.toNat)

/-- The instance on core `p` completes (R90): its tap writes commit unless it has been declared LATE, or its DEADLINE has passed
and it is a LATE miss now (R46). -/
def complete (p : Nat) (s : State) : State :=
  let x := s.coreS p
  match x.inst with
  | none => s
  | some i =>
    if !x.ending then s
    else
      let s := gatherFlags p (drain s x).cstat s
      let dl := match s.task i.lcore i.task with | some e => e.deadline | none => 0
      let s := if ((dl * 256 : Nat) : Int) < s.since i.breath && !s.disp.insts.any (fun j => j.is i.lcore i.task i.breath && j.late)
        then lateMiss i.lcore i.task i.breath s else s
      let late := s.disp.insts.any (fun j => j.is i.lcore i.task i.breath && j.late)
      let s := noteCycles p i.lcore x.drained (if late then 0 else (dl : Int) - s.since i.breath / 256) s
      let s := abandon p .completed s
      let s := if late then s else match s.task i.lcore i.task with
        | some e => completeTaps i.lcore i.task e i.breath x.twr s
        | none => s
      gateCheck i.lcore (fireSuccessors s)

def execInstanceComplete (p t : Nat) (s : State) : Host.Outcome State Fault Refusal := done s (complete p (s.atTime t))

/-- The effects of an abort of instance (l, k, b) on core `p`, which has ended (R46, R91). -/
def abortEnd (p l k b : Nat) (s : State) : State :=
  let late := s.disp.insts.any (fun j => j.is l k b && j.late)
  let s := s.set (F.RC_FLAGS_RUNAWAY p) 1
  let s := if late then s else lateMiss l k b s
  gateCheck l (raiseF 5 p (fireSuccessors s))

/-- The instance that core `p` runs is aborted a breath period after its deadline (R91). -/
def abortRunning (p : Nat) (s : State) : State :=
  match (s.coreS p).inst with
  | none => s
  | some i =>
    let dl := match s.task i.lcore i.task with | some e => e.deadline | none => 0
    if s.since i.breath < ((dl * 256 + s.period : Nat) : Int) then s
    else abortEnd p i.lcore i.task i.breath (abandon p .aborted s)

/-- Instances of the logical core on `p` that have fired and still wait for it a breath period after their deadline end too
(R91). -/
def abortWaiting (p : Nat) (s : State) : State :=
  (s.disp.insts.filter (fun i => i.ready && s.physOf i.lcore == p && s.overdue i)).foldl (fun u i =>
    abortEnd p i.lcore i.task i.breath
      (mapInsts (fun j => j.is i.lcore i.task i.breath && j.ended.isNone) (fun j => { j with ended := some .aborted }) u)) s

/-- INSTANCE_ABORT on core `p` (R91). -/
def abort (p : Nat) (s : State) : State := abortWaiting p (abortRunning p s)

def execInstanceAbort (p t : Nat) (s : State) : Host.Outcome State Fault Refusal := done s (abort p (s.atTime t))

end Sys2Proof.Machine
end

