-- ==== Sys2Proof/Machine/Twin.lean ====
section
/-!
DEFINITION. Double-reed pairing: HELLO and BREATH frames, roles, agreement digests, quiet, yields, commit notes and
re-seats (R286–R310).
-/
namespace Sys2Proof.Machine

/-! ## Received frames (R178, R288) -/

/-- First byte after the EtherType of a frame. -/
def twH (f : RxFrame) : Nat := frEt f.bytes + 2
def twByte (f : RxFrame) (i : Nat) : Nat := byteAt f.bytes (twH f + i)
def twAt (f : RxFrame) (i k : Nat) : Nat := beAt f.bytes (twH f + i) k

/-- A claimed TWIN frame reaches the unit: a reserved subtype or an unknown version is discarded and counted; while
pairing is disabled nothing takes it (R288, R290). -/
def twinClaim (f : RxFrame) (s : State) : State :=
  if twByte f 1 != 1 || 0x29 ≤ twByte f 0 then
    let s := s.incSat F.TWIN_CNT1_BADFRAME
    if twByte f 0 == 0x20 && s.tlink != tlOFF then
      { s.set F.TWIN_STAT_INCOMPAT 4 with twin := { s.twin with hellos := 0 } }
    else s
  else if s.tlink == tlOFF then s
  else { s with net := { s.net with twinq := s.net.twinq ++ [f] } }

/-- Takes the frame at the head of the queue if its subtype is `sub`. -/
def popTwin (sub : Nat) (s : State) : Option (RxFrame × State) :=
  match s.net.twinq with
  | f :: r => if twByte f 0 == sub then some (f, { s with net := { s.net with twinq := r } }) else none
  | [] => none

/-- The frame comes from the partner of the pair. -/
def State.fromPartner (s : State) (f : RxFrame) : Bool :=
  s.twinPaired && twAt f 4 8 == s.get F.TWIN_PSERIAL_HI_SERIAL * 2 ^ 32 + s.get F.TWIN_PSERIAL_LO_SERIAL

def State.partnerSerial (s : State) : Nat := s.get F.TWIN_PSERIAL_HI_SERIAL * 2 ^ 32 + s.get F.TWIN_PSERIAL_LO_SERIAL

/-! ## HELLO (R289) -/

/-- The next breath to start, and its instant in device time; 0 while no breath runs. -/
def State.nextB (s : State) : Nat :=
  if !s.breathing then s.startIndex else if s.disp.started then s.n + 1 else s.disp.first
def State.nextStart (s : State) : Nat := if s.breathing then s.breathAt s.nextB else 0

def State.dispRunning (s : State) : Bool := s.dstate == dRunning

/-- Seconds since DISP last left ARMED, saturating (R289). -/
def State.seniority (s : State) : Nat := if s.twin.left = 0 then 0 else min (2 ^ 32 - 1) ((s.now - (s.twin.left - 1)) / uS)

/-- Digest of section `i` for a HELLO: zeros unless it runs. -/
def State.helloDigest (s : State) (i : Nat) : List Byte :=
  let d := if s.secState i == secRUNNING then (s.sec i).digest else []
  d ++ List.replicate (32 - d.length) 0

/-- Bytes H + 12 to H + 575 of a HELLO (R289) (DESIGN CHOICE: log entry 23). -/
def State.helloBody (s : State) : List Byte :=
  let tx := match s.twin.egress with | (_, e, _) :: _ => e | [] => 0
  let (rs, rt) := match s.twin.rx with | some (q, i, _, _) => (q, i) | none => (0, 0)
  beBytes 2 0x9632 ++ [BitVec.ofNat 8 (s.get F.SYS_ID_STEP), BitVec.ofNat 8 (s.get F.SYS_MODE_STAT_CUR), BitVec.ofNat 8 s.trole,
    BitVec.ofNat 8 s.dispRunning.toNat, 0, 0] ++ beBytes 4 s.seniority ++ beBytes 6 (bidx s.nextB) ++ [0, 0]
  ++ beBytes 9 s.nextStart ++ beBytes 9 tx ++ beBytes 2 rs ++ beBytes 9 rt ++ [0, 0, 0]
  ++ (List.range 16).flatMap s.helloDigest

/-- Interval between HELLOs: 1 ms in SEEK and while the breath does not run, else 100 ms (R289, R298). -/
def State.helloEvery (s : State) : Nat := if s.twinPaired && s.dispRunning then 100 * uMs else uMs

def helloSend (s : State) : State :=
  let due := match s.twin.helloAt with | some a => decide (a + s.helloEvery ≤ s.now) | none => true
  if s.tlink == tlOFF || !due then s
  else sendTwin 0x20 s.helloBody { s with twin := { s.twin with helloAt := some s.now } }
def execHelloSend (t : Nat) (s : State) : Host.Outcome State Fault Refusal := done s (helloSend (s.atTime t))

/-- The egress stamp of an own HELLO as TWINMAC starts it (R248, R289). -/
def noteHello (p : Nat) (f : TxFrame) (s : State) : State :=
  if p == 4 && f.q == 7 && be16At f.bytes 12 == 0x88B5 && byteAt f.bytes 14 == 0x20 then
    let sfd := s.now + 64 * 256 / s.lineRate 4
    { s with twin := { s.twin with egress := (be16At f.bytes 16, s.devAt sfd, sfd) :: s.twin.egress.take 15 } }
  else s

/-! ## Losing the partner (R290, R294) -/

/-- What becomes of a re-seat when the role turns to LEAD, or the partner is gone (R307). -/
def rsLost (s : State) : State :=
  let p := s.rsPhase
  if p == rsLOADING || p == rsCATCHUP then s else rsIdle s

/-- The partner is lost: LEAD from the next breath start, quiet lifted, NOTE 65, back to SEEK (R290, R294). -/
def partnerLost (s : State) : State :=
  if !s.twinPaired then s
  else
    let s := rsLost (liftAll (s.incSat F.TWIN_CNT1_LOSTS))
    let w := s.twin
    let s := { s with twin := { w with hellos := 0, missed := 0, pRun := false, rx := none, offset := none, skew := none,
                                       role := some (s.n, trLEAD), part := [], notes := [], echo := false, agree := [] } }
    raiseF 65 0 (setTlink tlSEEK ((s.set F.TWIN_STAT_ALIGNED 0).set F.TWIN_QUIET_PARTNER 0))

/-- PAIRING_DISABLE's and PAIRING_ENABLE's write of TWIN_CTRL (R290). -/
def wrTwinCtrl (v : Nat) (s : State) : State :=
  let was := s.on F.TWIN_CTRL_EN
  let s := s.writeRegPlain A.TWIN_CTRL v
  let s := if s.fencedGroup 14 then s.set F.TWIN_CTRL_EN 0 else s
  if !was && s.on F.TWIN_CTRL_EN then
    setTrole (if s.breathing then trLEAD else trNONE) (setTlink tlSEEK { s with twin := { s.twin with helloAt := none } })
  else if was && !s.on F.TWIN_CTRL_EN then pairingOff s else s

def execPairingEnable (m v : Nat) (s : State) : Host.Outcome State Fault Refusal := done s (guarded m A.TWIN_CTRL (wrTwinCtrl v) s)
def execPairingDisable (m v : Nat) (s : State) : Host.Outcome State Fault Refusal := done s (guarded m A.TWIN_CTRL (wrTwinCtrl v) s)

/-! ## Quiet sets (R299) -/

def bitSet (l : List Nat) : Nat := l.eraseDups.foldl (fun a i => a + 2 ^ i) 0
def secsOf (m : Nat) : List Nat := (List.range 16).filter (fun i => bitOf m i)

/-- Section that owns a tap. -/
def State.ownerOfTap (s : State) (t : Nat) : Option Nat := if busTap0 ≤ t then s.busOwner (t - busTap0) else s.tapOwner t

/-- Taps in the read list of the live image of section `i` (R333). -/
def State.readList (s : State) (i : Nat) : List Nat :=
  ((s.liveImage i).filter (fun r => r.type == 13)).flatMap (fun r => (r.words s).map (fun w => w % 8192))

/-- One step of the closure of R299 over the running sections. -/
def State.quietStep (s : State) (l : List Nat) : List Nat :=
  (List.range 16).filter (fun i => l.contains i || (s.secState i == secRUNNING && (s.readList i).any (fun t =>
    match s.ownerOfTap t with | some q => l.contains q | none => false)))

/-- The quiet set of section `i` (R299). -/
def State.quietSet (s : State) (i : Nat) : List Nat := (List.range 16).foldl (fun l _ => s.quietStep l) [i]

def quietFor (r : Nat) (i : Nat) (s : State) : State := (s.quietSet i).foldl (fun u q => addQuiet r q u) s

/-! ## Roles at pairing (R291, R292) -/

/-- The pair is aligned: N names the same breath in both twins and the skew is within its limit (R291). -/
def State.alignedNow (s : State) : Bool :=
  match s.twin.skew with
  | some k => s.breathing && s.twin.pRun && decide (2 * k.natAbs ≤ s.period)
      && decide (k.natAbs ≤ 256 * max 1 (s.get F.TWIN_SKEW_MAX_NS))
  | none => false

/-- The role of this twin by R291. -/
def State.roleNow (s : State) : Nat :=
  let lower := if ownSerial < s.partnerSerial then trLEAD else trFOLLOW
  let me := s.dispRunning
  let a := s.seniority
  let b := s.twin.pSenior
  if me != s.twin.pRun then (if me then trLEAD else trFOLLOW)
  else if !me || s.alignedNow then lower
  else if a < b + 2 && b < a + 2 then lower
  else if b < a then trLEAD else trFOLLOW

/-- Both twins run the section and their images differ (R300). -/
def State.imageDiffers (s : State) (i : Nat) : Bool :=
  let p := (s.twin.pImages.drop (32 * i)).take 32
  let own := s.helloDigest i
  own != List.replicate 32 0 && p != List.replicate 32 0 && own != p

/-- The pair forms: roles, TWIN_IDENT record, JOIN and IMAGE quiet (R290, R291, R300). -/
def pairUp (s : State) : State :=
  let s := setTlink tlPAIRED (setTrole s.roleNow s)
  let w := s.twin
  let s := { s with twin := { w with missed := 0, role := none, cmpB := 0, part := [] } }
  let s := s.set F.TWIN_STAT_ALIGNED s.alignedNow.toNat
  let s := journal jTWINIDENT (leBytes 8 s.partnerSerial ++ [BitVec.ofNat 8 s.trole, 0, 0, 0]) s
  if s.trole != trFOLLOW then s
  else
    let rule2 := s.dispRunning == w.pRun && (!w.pRun || s.alignedNow)
    let s := if rule2 then s else
      let s := (s.set F.TWIN_STAT_JOINREQ 1).set F.TWIN_EVT_JOIN 1
      ((List.range 16).filter (fun i => s.secState i == secRUNNING)).foldl (fun u i => addQuiet qrJOIN i u) s
    ((List.range 16).filter s.imageDiffers).foldl (fun u i => quietFor qrIMAGE i u) s

/-- First failing item of R290: 0 for a compatible HELLO. -/
def State.incompat (s : State) (f : RxFrame) : Nat :=
  if twAt f 12 2 != 0x9632 then 1
  else if twByte f 14 != s.get F.SYS_ID_STEP then 5
  else if twByte f 15 != s.get F.SYS_MODE_STAT_CUR then 2
  else if twAt f 4 8 == ownSerial then 3 else 0

/-- Link delay and offset from the HELLO before this one and the stamps of the own HELLO it named (R289). -/
def twinOffset (f : RxFrame) (s : State) : State :=
  let d := fun (a b : Nat) => sx 72 (ux 72 ((a : Int) - b))
  match s.twin.rx with
  | none => s
  | some (_, t4, q, t2) =>
    match s.twin.egress.find? (fun e => e.1 == q) with
    | none => s
    | some (_, t1, _) =>
      let t3 := twAt f 41 9
      let dly := (d t4 t1 - d t3 t2) / 2
      let o := (d t2 t1 - d t4 t3) / 2
      let s := (s.set F.TWIN_LINKDLY_DELAY (ux 32 dly)).set F.TWIN_OFFSET_LO_OFFSET (ux 32 o)
      let s := s.set F.TWIN_OFFSET_HI_OFFSET (ux 64 o / 2 ^ 32)
      { s with twin := { s.twin with offset := some o } }

/-- TWIN_PNEXT, TWIN_PSTART and TWIN_SKEW (R289, R292). -/
def twinSkew (f : RxFrame) (s : State) : State :=
  let n := twAt f 24 6
  let s := (s.set F.TWIN_PNEXT_LO_N_LO n).set F.TWIN_PNEXT_HI_N_HI (n / 2 ^ 32)
  match s.twin.offset with
  | none => s
  | some o =>
    let ps := ux 72 ((twAt f 32 9 : Int) - o)
    let s := (s.set F.TWIN_PSTART_LO_NS (ps / 256)).set F.TWIN_PSTART_HI_NS (ps / 256 / 2 ^ 32)
    if !s.breathing || !s.twin.pRun then { s with twin := { s.twin with skew := none } }
    else
      let k := sx 72 (ux 72 ((ps : Int) - s.breathAt (s.unwrap n)))
      { s.set F.TWIN_SKEW_SKEW (ux 32 (k / 256)) with twin := { s.twin with skew := some k } }

/-- A compatible HELLO: what it tells of the partner (R289). -/
def takeHello (f : RxFrame) (s : State) : State :=
  let s := twinOffset f s
  let run := bitOf (twByte f 17) 0
  let w := s.twin
  let s := { s with twin := { w with rx := some (twAt f 2 2, f.sfd, twAt f 50 2, twAt f 52 9), helloRx := s.now, pRun := run
                                     pSenior := twAt f 20 4, pImages := (f.bytes.drop (twH f + 64)).take 512
                                     pFrom := if run && !w.pRun then s.unwrap (twAt f 24 6) else w.pFrom
                                     missed := if run == w.pRun then (if run then w.missed else 0) else 0
                                     hellos := w.hellos + 1 } }
  twinSkew f ((s.set F.TWIN_PSERIAL_LO_SERIAL (twAt f 8 4)).set F.TWIN_PSERIAL_HI_SERIAL (twAt f 4 4))

/-- A received HELLO (R289–R292) (DESIGN CHOICE: log entry 23). -/
def hello (f : RxFrame) (s : State) : State :=
  let bad := s.incompat f
  if bad != 0 then { s.set F.TWIN_STAT_INCOMPAT bad with twin := { s.twin with hellos := 0 } }
  else
    let s := if s.twinPaired && (twByte f 16 == trNONE || twAt f 4 8 != s.partnerSerial) then partnerLost s else s
    let s := takeHello f s
    if s.twinPaired then
      let skewed := match s.twin.skew with | some k => decide (256 * max 1 (s.get F.TWIN_SKEW_MAX_NS) < k.natAbs) | none => false
      let s := s.set F.TWIN_STAT_ALIGNED s.alignedNow.toNat
      if skewed then raiseF 64 0 s else s
    else if 4 ≤ s.twin.hellos && s.twin.offset.isSome then pairUp s else s

def execHello (t : Nat) (s : State) : Host.Outcome State Fault Refusal :=
  let s1 := s.atTime t
  done s (match popTwin 0x20 s1 with | some (f, u) => hello f u | none => s1)

/-! ## BREATH frames (R296, R297, R302) -/

/-- CRC-64 by ECMA-182, not reflected (R296). -/
def crc64Bits : Nat → Nat → Nat
  | 0, c => c
  | k + 1, c => crc64Bits k (if 2 ^ 63 ≤ c then (c * 2 % 2 ^ 64) ^^^ 0x42F0E1EBA9EA3693 else c * 2)
def crc64 (l : List Byte) : Nat := l.foldl (fun c b => crc64Bits 8 (c ^^^ (b.toNat * 2 ^ 56))) 0

/-- Outputs of a section: its reed-output taps and the taps of its buses, ascending (R148). -/
def State.outputsOf (s : State) (i : Nat) : List Nat :=
  (s.rvc.tapSec.filterMap (fun e => if e.2 == i + 1 then some e.1 else none)) ++ (s.busesOwned i).map (fun b => busTap0 + b)

/-- The agreement digest of section `i` for breath `b` (R296). -/
def State.digestOf (s : State) (i b : Nat) : Nat :=
  crc64 (beBytes 6 (bidx b) ++ (s.outputsOf i).flatMap (fun t => beBytes 4 (ux 32 ((s.tap t).val b))))

/-- The digest of a section is valid in RUNNING and RAMPOUT (R296); a section a re-seat has stopped has none. -/
def State.digValid (s : State) (i : Nat) : Bool :=
  (s.secState i == secRUNNING || s.secState i == secRAMPOUT) && !s.suspended i

/-- The sections whose digest for breath `b` is valid: as noted at the end of that breath (R296). -/
def State.digMask (s : State) (b : Nat) : Nat :=
  match s.twin.valid.find? (fun e => e.1 == b) with
  | some e => e.2
  | none => bitSet ((List.range 16).filter s.digValid)

/-- Breath `n` starts: the sections whose digest is valid for the breath before are those that ran it (R296). -/
def noteValid (n : Nat) (s : State) : State :=
  { s with twin := { s.twin with valid := (n - 1, bitSet ((List.range 16).filter s.digValid)) :: s.twin.valid.take 3 } }

/-- Own frame for breath `b`. -/
def State.ownFrame (s : State) (b : Nat) : BFrame :=
  ⟨b, s.digMask b, s.get F.TWIN_QUIET_OWN, s.trole, (List.range 16).map (fun i => if bitOf (s.digMask b) i then s.digestOf i b else 0)⟩

/-- The 14 bytes of ratio entry `j` for breath `b`: the word queued for channel (b mod 8) + 8j, or zeros (R302). -/
def State.ratioEntry (s : State) (b j : Nat) : List Byte :=
  match (s.asrcCh (b % 8 + 8 * j)).words.find? (fun w => w.1 == b + 8) with
  | some (_, r, ph) => beBytes 6 r ++ beBytes 8 ph
  | none => List.replicate 14 0

/-- BREATH_FRAME_SEND (R297): at the start of breath b + 2 + 100 ns the frame for b is queued (DESIGN CHOICE: log
entry 23). -/
def breathFrameSend (s : State) : State :=
  let b := s.n - 2
  if s.tlink == tlOFF || !s.breathing || !s.disp.started || s.n < s.disp.first + 2 || b < s.twin.sentB || !s.reached s.n 100 then s
  else
    let f := s.ownFrame b
    let ratio := s.ratioWords && s.trole == trLEAD
    let s := { s with twin := { s.twin with sentB := b + 1, own := f :: s.twin.own.take 15 } }
    sendTwin 0x21 (beBytes 6 (bidx b) ++ beBytes 2 f.dvalid ++ beBytes 2 f.quiet ++ beBytes 4 (s.get F.TWIN_QREASON_REASON)
      ++ [BitVec.ofNat 8 f.role, BitVec.ofNat 8 ratio.toNat, 0, 0, 0, 0] ++ f.digs.flatMap (fun d => beBytes 8 d)
      ++ (List.range 32).flatMap (fun j => if ratio then s.ratioEntry b j else List.replicate 14 0)) s
def execBreathFrameSend (t : Nat) (s : State) : Host.Outcome State Fault Refusal := done s (breathFrameSend (s.atTime t))

/-- Takes the ratio words of a frame for breath `b` (R302). -/
def takeRatios (f : RxFrame) (b : Nat) (s : State) : State :=
  if !s.ratioWords || s.trole != trFOLLOW || !bitOf (twByte f 27) 0 then s
  else (List.range 32).foldl (fun u j =>
    let r := twAt f (160 + 14 * j) 6
    let ph := twAt f (166 + 14 * j) 8
    if r = 0 && ph = 0 then u else queueWord (b % 8 + 8 * j) (b + 8) r ph u) s

/-- HEARTBEAT (R293, R297, R300): a BREATH frame of the partner. -/
def heartbeat (f : RxFrame) (s : State) : State :=
  if !s.fromPartner f then s
  else
    let b := s.unwrap (twAt f 12 6)
    let q := twAt f 20 2
    let fr : BFrame := ⟨b, twAt f 18 2, q, twByte f 26, (List.range 16).map (fun i => twAt f (32 + 8 * i) 8)⟩
    let s := { s with twin := { s.twin with part := fr :: s.twin.part.take 4095 } }
    let s := s.set F.TWIN_QUIET_PARTNER q
    let s := (secsOf q).foldl (fun u i => if u.quietReason i == qrDIVERGED then putReason i 0 u else u) s
    let mine := match s.twin.own.find? (fun e => e.b == b) with | some e => e.role | none => s.trole
    let s := if mine == fr.role && mine == s.trole && s.twin.role.isNone then
        if mine == trLEAD && s.partnerSerial < ownSerial then { s with twin := { s.twin with role := some (s.n, trFOLLOW) } }
        else if mine == trFOLLOW && ownSerial < s.partnerSerial then { s with twin := { s.twin with role := some (s.n, trLEAD) } }
        else s
      else s
    takeRatios f b s
def execHeartbeat (t : Nat) (s : State) : Host.Outcome State Fault Refusal :=
  let s1 := s.atTime t
  done s (match popTwin 0x21 s1 with | some (f, u) => heartbeat f u | none => s1)

/-- One missed heartbeat (R290, R297, R298). -/
def missBeat (s : State) : State :=
  let s := { s.incSat F.TWIN_CNT1_HBMISS with twin := { s.twin with missed := s.twin.missed + 1 } }
  if max 1 (s.get F.TWIN_CTRL_HB_MISS) ≤ s.twin.missed then partnerLost s else s

/-- HEARTBEAT_MISS (R298): 1 ms without a HELLO of a partner whose breath does not run. -/
def heartbeatMiss (s : State) : State :=
  if s.twinPaired && !s.twin.pRun && s.twin.helloRx + uMs ≤ s.now then
    missBeat { s with twin := { s.twin with helloRx := s.twin.helloRx + uMs } }
  else s
def execHeartbeatMiss (t : Nat) (s : State) : Host.Outcome State Fault Refusal := done s (heartbeatMiss (s.atTime t))

/-! ## Re-seats: requests and failures (R303, R307) -/

/-- Sends RESEAT_REQ for the set and enters REQUESTED, logging from the breath in progress (R303, R307). -/
def rsRequest (set : Nat) (s : State) : State :=
  let s := (s.set F.TWIN_RS_STAT_SET set).set F.TWIN_RS_STAT_PHASE rsREQUESTED
  let s := setRs (fun r => { reqAt := s.now, tries := r.tries, log := [{ b := s.n }] }) s
  sendTwin 0x25 (beBytes 2 set ++ beBytes 6 (bidx s.n)) s

/-- A re-seat fails: counted, and requested again, or after RETRY_MAX failures a NOTE and a wait of 1 s (R307). -/
def rsFail (err : Nat) (s : State) : State :=
  let s := ((s.incSat F.TWIN_RS_STAT_FAILS).incSat F.TWIN_CNT1_RSFAIL).set F.TWIN_RS_STAT_LASTERR err
  let s := s.set F.TWIN_EVT_RESEAT_FAIL 1
  let k := s.twin.rs.tries + 1
  if s.trole != trFOLLOW || !s.twinPaired then rsIdle s
  else if max 1 (s.get F.TWIN_CTRL_RETRY_MAX) ≤ k then
    raiseF 67 0 (setRs (fun _ => { waitAt := some s.now }) (s.set F.TWIN_RS_STAT_PHASE rsREQUESTED))
  else rsRequest s.rsSet (setRs (fun r => { r with tries := k }) s)

/-- RESEAT_TIMEOUT (R307). -/
def rsTimeout (s : State) : State :=
  let r := s.twin.rs
  if (s.rsPhase == rsREQUESTED || s.rsPhase == rsRECEIVING) && r.waitAt.isNone && !r.ended && r.reqAt + 100 * uMs ≤ s.now then
    rsFail 6 s
  else s
def execReseatTimeout (t : Nat) (s : State) : Host.Outcome State Fault Refusal := done s (rsTimeout (s.atTime t))

/-- RESEAT_RETRY_WAIT_END (R307). -/
def rsRetry (s : State) : State :=
  match s.twin.rs.waitAt with
  | some a => if a + uS ≤ s.now then (if s.rsSet = 0 then rsIdle s else rsRequest s.rsSet s) else s
  | none => s
def execReseatRetryWaitEnd (t : Nat) (s : State) : Host.Outcome State Fault Refusal := done s (rsRetry (s.atTime t))

/-- Every delay line of the section reads FILLED (R308). -/
def State.linesFilled (s : State) (i : Nat) : Bool :=
  s.linesV.all (fun j => s.lineSec j != i || !s.lineValid j || bitOf (s.lineStat j) 29)

/-- Requests what is due while no re-seat runs: the sections quiet with DIVERGED and the quiet sets of `uneven`, else
those with JOIN that are ready (R303, R308). -/
def rsSeek (uneven : List Nat) (s : State) : State :=
  let own := (List.range 16).filter (fun i => s.secState i == secRUNNING)
  let more := uneven.flatMap s.quietSet
  let div := own.filter (fun i => s.quietReason i == qrDIVERGED || more.contains i)
  let join := own.filter (fun i => s.quietReason i == qrJOIN && s.linesFilled i)
  let l := if div.isEmpty then join else div
  if s.trole != trFOLLOW || s.rsPhase != rsIDLE || l.isEmpty then s else rsRequest (bitSet l) s

/-! ## Comparing digests (R297, R299, R300) -/

/-- Compares the digests of section `i` in the two frames (R297, R299). -/
def compareSec (o p : BFrame) (i : Nat) (s : State) : State :=
  if !(bitOf o.dvalid i && bitOf p.dvalid i) then { s with twin := { s.twin with agree := mset 0 i 0 s.twin.agree } }
  else
    let x := o.digs.getD i 0
    let y := p.digs.getD i 0
    let s := ((s.set (F.TWIN_DIG_OWN_LO_DIGEST i) x).set (F.TWIN_DIG_OWN_HI_DIGEST i) (x / 2 ^ 32)).set (F.TWIN_DIG_BREATH_BREATH i) o.b
    let s := (s.set (F.TWIN_DIG_PART_LO_DIGEST i) y).set (F.TWIN_DIG_PART_HI_DIGEST i) (y / 2 ^ 32)
    if x == y then
      let k := mget 0 i s.twin.agree + 1
      let s := { s with twin := { s.twin with agree := mset 0 i k s.twin.agree } }
      if s.quietReason i == qrIMAGE && max 1 (s.get F.TWIN_CTRL_AGREE) ≤ k then putReason i 0 s else s
    else
      let s := (s.incSat F.TWIN_CNT0_MISMATCH).set F.TWIN_EVT_MISMATCH 1
      let s := { s with twin := { s.twin with agree := mset 0 i 0 s.twin.agree } }
      if s.trole == trFOLLOW && s.quietReason i == 0 && !bitOf p.quiet i then
        ((s.quietSet i).filter (fun q => !bitOf p.quiet q)).foldl (fun u q => addQuiet qrDIVERGED q u) s
      else s

/-- CHECKING: one more live breath compared; an unequal digest of the set fails the re-seat (R307). -/
def rsCheck (o p : BFrame) (s : State) : State :=
  if s.rsPhase != rsCHECKING || o.b < s.twin.rs.liveB then s
  else
    let l := secsOf s.rsSet
    let both := fun (i : Nat) => bitOf o.dvalid i && bitOf p.dvalid i
    if l.any (fun i => both i && o.digs.getD i 0 != p.digs.getD i 0) then rsFail 8 s
    else setRs (fun r => { r with agree := if l.all both then r.agree + 1 else 0 }) s

/-- Both twins quiet for one section in one breath (R300). -/
def checkUncovered (o p : BFrame) (s : State) : State :=
  let m := o.quiet &&& p.quiet
  if m = 0 then s.set F.TWIN_STAT_UNCOVERED 0
  else
    let was := s.on F.TWIN_STAT_UNCOVERED
    let s := s.set F.TWIN_STAT_UNCOVERED 1
    if was then s else raiseF 66 ((secsOf m).headD 0) s

/-- Section `i` is quiet with reason IMAGE and unequal, which calls for a re-seat too (R299, R301, R303) (DEDUCED: log
entry 64). -/
def State.stale (s : State) (o p : BFrame) (i : Nat) : Bool :=
  s.quietReason i == qrIMAGE && bitOf o.dvalid i && bitOf p.dvalid i && !bitOf p.quiet i && o.digs.getD i 0 != p.digs.getD i 0

/-- DIGEST_COMPARE (R297–R300): the frame for breath n − 3 is due. -/
def digestCompare (s : State) : State :=
  let b := s.n - 3
  if !s.twinPaired || !s.breathing || s.n < s.disp.first + 3 || b < s.twin.cmpB then s
  else
    let s := { s with twin := { s.twin with cmpB := b + 1 } }
    let p := s.twin.part.find? (fun e => e.b == b)
    let s := if !s.twin.pRun || b < s.twin.pFrom then s
      else if p.isSome then { s with twin := { s.twin with missed := 0 } } else missBeat s
    match s.twin.own.find? (fun e => e.b == b), p with
    | some o, some p =>
      if !s.twinPaired then s
      else
        let s := (List.range 16).foldl (fun u i => compareSec o p i u) s
        rsSeek ((List.range 16).filter (s.stale o p)) (checkUncovered o p (rsCheck o p s))
    | _, _ => s
def execDigestCompare (t : Nat) (s : State) : Host.Outcome State Fault Refusal := done s (digestCompare (s.atTime t))

/-- FLATLINE (R309): the partner is lost at once. -/
def execFlatline (t : Nat) (s : State) : Host.Outcome State Fault Refusal :=
  let s1 := s.atTime t
  done s (match popTwin 0x22 s1 with | some (f, u) => if u.fromPartner f then partnerLost u else u | none => s1)

/-- ROLE_RESOLVE (R293, R294): the role decided before takes effect at the next breath start. -/
def roleResolve (s : State) : State :=
  match s.twin.role with
  | some (b, r) =>
    if s.breathing && s.n ≤ b then s
    else
      let s := setTrole r { s with twin := { s.twin with role := none } }
      if r == trLEAD then rsLost s else s
  | none => s
def execRoleResolve (t : Nat) (s : State) : Host.Outcome State Fault Refusal := done s (roleResolve (s.atTime t))

/-! ## YIELD (R295) -/

/-- Results of TWIN_CMD_STAT. -/
def wrTwinCmd (v : Nat) (s : State) : State :=
  if v / 65536 != keyA55A || v % 16 != 1 then s
  else
    let y := s.get F.TWIN_CMD_BREATH_HI_Y_HI * 2 ^ 32 + s.get F.TWIN_CMD_BREATH_LO_Y_LO
    if s.trole == trFOLLOW then s.set F.TWIN_CMD_STAT_RESULT 2
    else if !s.twinPaired then s.set F.TWIN_CMD_STAT_RESULT 3
    else if s.on F.TWIN_CMD_STAT_BUSY then s.set F.TWIN_CMD_STAT_RESULT 5
    else if serBefore 48 y (bidx (s.n + 16)) then s.set F.TWIN_CMD_STAT_RESULT 4
    else { s.set F.TWIN_CMD_STAT_BUSY 1 with twin := { s.twin with yieldY := some (unwrapFrom (s.n + 16) y), echo := false } }
def execYield (m v : Nat) (s : State) : Host.Outcome State Fault Refusal := done s (guarded m A.TWIN_CMD (wrTwinCmd v) s)

/-- YIELD_RECEIVE (R295): the FOLLOW echoes, the LEAD notes the echo. -/
def yieldReceive (f : RxFrame) (s : State) : State :=
  let y := s.unwrap (twAt f 12 6)
  if !s.fromPartner f then s
  else if s.trole == trFOLLOW then
    let ok := decide (s.n + 4 < y)
    let s := if ok || s.twin.yieldY == some y then { s with twin := { s.twin with yieldY := some y, echo := true } } else s
    sendTwin 0x24 (beBytes 6 (bidx y)) s
  else if s.twin.yieldY.any (fun z => bidx z == bidx y && decide (s.n + 4 < z)) then { s with twin := { s.twin with echo := true } } else s
def execYieldReceive (t : Nat) (s : State) : Host.Outcome State Fault Refusal :=
  let s1 := s.atTime t
  done s (match popTwin 0x24 s1 with | some (f, u) => yieldReceive f u | none => s1)

/-- A twin that becomes LEAD by a swap sounds its own images: quiet with reason IMAGE is lifted (R301) (DEDUCED: log
entry 64). -/
def liftImage (s : State) : State :=
  (List.range 16).foldl (fun u i => if u.quietReason i == qrIMAGE then putReason i 0 u else u) s

/-- ROLE_SWAP (R295): the start of breath Y. -/
def roleSwap (s : State) : State :=
  match s.twin.yieldY with
  | none => s
  | some y =>
    if s.breathing && s.n < y then s
    else
      let go := s.twin.echo && s.twinPaired
      let lead := s.on F.TWIN_CMD_STAT_BUSY
      let s := { s with twin := { s.twin with yieldY := none, echo := false } }
      if lead then
        let s := (s.set F.TWIN_CMD_STAT_BUSY 0).set F.TWIN_CMD_STAT_RESULT (if go then 1 else 4)
        if go then setTrole trFOLLOW (if s.rsPhase == rsCAPTURE || s.rsPhase == rsSENDING then rsIdle s else s) else s
      else if go then rsLost (setTrole trLEAD (liftImage s)) else s
def execRoleSwap (t : Nat) (s : State) : Host.Outcome State Fault Refusal := done s (roleSwap (s.atTime t))

/-! ## Commit notes (R301) -/

/-- The note of the started commit of section `i`. -/
def State.ownNote (s : State) (i : Nat) : NoteS :=
  let x := s.sec i
  let d := if x.vacate then [] else imgDigest s (s.pendBase i)
  ⟨i, x.retain.toNat + 2 * x.vacate.toNat, bidx x.rB, d ++ List.replicate (32 - d.length) 0⟩

def execCommitNote (t : Nat) (s : State) : Host.Outcome State Fault Refusal :=
  let s1 := s.atTime t
  done s (match popTwin 0x23 s1 with
    | some (f, u) =>
      if !u.fromPartner f then u
      else
        let n : NoteS := ⟨twByte f 12 % 16, twByte f 13, twAt f 14 6, (f.bytes.drop (twH f + 20)).take 32⟩
        { u with twin := { u.twin with notes := u.twin.notes.filter (fun o => o.sec != n.sec) ++ [n] } }
    | none => s1)

/-- At each breath start: notes go out until S, and at S the commit is judged (R301). -/
def breathNotes (n : Nat) (s : State) : State :=
  if !s.twinPaired then s
  else ((List.range 16).filter (fun i => s.lockState i == lkSTARTED)).foldl (fun u i =>
    let x := u.sec i
    let note := u.ownNote i
    if n < x.sB then
      sendTwin 0x23 ([BitVec.ofNat 8 i, BitVec.ofNat 8 note.flags] ++ beBytes 6 note.r ++ note.digest) u
    else if n == x.sB then
      let same := u.twin.notes.contains note
      let u := { u with twin := { u.twin with notes := u.twin.notes.filter (fun o => o.sec != i) } }
      if same then u else quietFor qrIMAGE i u
    else u) s

/-! ## The seat (R303–R306) -/

def seatBase : Nat := 0x1C8000000
def seatMax : Nat := 33554432

/-- A record of the seat: TYPE, LEN, ARG, body and padding (R304). -/
def seatRec (ty arg : Nat) (body : List Byte) : List Byte :=
  leBytes 4 (ty * 2 ^ 24 + body.length) ++ leBytes 4 arg ++ body ++ List.replicate ((8 - body.length % 8) % 8) 0

/-- The ramp of R47 as a number: 0 none, 1 to 32 out, 32 at zero, 64 on in. -/
def rampCode : TaskRamp → Nat
  | .none => 0 | .down k => k | .zero => 32 | .up k => 64 + k
def codeRamp (c : Nat) : TaskRamp := if c = 0 then .none else if c < 32 then .down c else if c < 64 then .zero else .up (c - 64)

/-- A section of the set owns bus `n`. -/
def State.setBus (s : State) (set n : Nat) : Bool := match s.busOwner n with | some i => bitOf set i | none => false

/-- Keys and gain states of the crosspoints into the buses of the set: the active ones and the retiring ones (R108). -/
def State.setGains (s : State) (set : Nat) : List (Nat × GainS) :=
  (s.active.filter (fun x => s.setBus set x.bus)).map (fun x => (x.key, s.gainOf x.key))
  ++ s.mtx.retiring.filter (fun x => s.setBus set (x.1 % 1024))

/-- Logical cores of the set. -/
def State.setCores (s : State) (set : Nat) : List Nat := (secsOf set).flatMap s.coresOf

/-- The records of a seat of the set as it stands (R304), with their number. -/
def State.seatRecs (s : State) (set : Nat) : List (List Byte) :=
  (secsOf set).flatMap (fun i =>
    let l := s.liveImage i
    [seatRec 1 i (s.sec i).digest]
    ++ (l.filter (fun r => r.state && 2 ≤ r.type && r.type ≤ 5)).map (fun r =>
      let p := s.physOf r.lcore
      let y := r.type == 3 || r.type == 5
      let base := if y then yBase p else xBase p
      seatRec (if y then 3 else 2) (r.lcore * 2 ^ 24 + r.first)
        ((List.range r.count).flatMap (fun k => s.bytes (base + 4 * ((r.first + k) % 8192)) 4)))
    ++ [seatRec 6 i (leBytes 8 (s.seed i))])
  ++ (let xs := s.setGains set
      [seatRec 4 xs.length (xs.flatMap (fun x => leBytes 4 x.1 ++ x.2.words.flatMap (leBytes 4))),
       (let ts := (xs.map (fun x => x.1 / 1024)).eraseDups
        seatRec 5 ts.length (ts.flatMap (fun t => leBytes 4 t ++ leBytes 4 (ux 32 (s.tap t).cur)))),
       (let ks := (s.setCores set).flatMap (fun l => ((List.range 128).filter (fun k => (s.task l k).isSome)).map (fun k => (l, k)))
        seatRec 7 ks.length (ks.flatMap (fun e =>
          leBytes 4 (e.1 * 2 ^ 24 + e.2 * 2 ^ 16 + min 65535 (s.missRun e.1 e.2)) ++ leBytes 4 (rampCode (s.tramp e.1 e.2)))))])

/-- The whole seat for seat breath `b` (R304). -/
def State.seat (s : State) (set b : Nat) : List Byte :=
  let rs := s.seatRecs set
  let body := rs.flatten
  leBytes 4 (65536 + set) ++ leBytes 4 (bidx b) ++ leBytes 4 (bidx b / 2 ^ 32) ++ leBytes 4 rs.length
  ++ leBytes 4 (64 + body.length) ++ leBytes 4 (crc32c body) ++ List.replicate 40 0 ++ body

/-- RESEAT_ACK with its result (R306). -/
def sendAck (r : Nat) (s : State) : State := sendTwin 0x28 [BitVec.ofNat 8 r] s

/-- RESEAT_REQ (R303): the LEAD begins to capture, or refuses. -/
def reseatReq (f : RxFrame) (s : State) : State :=
  let set := twAt f 12 2
  let l := secsOf set
  if !s.fromPartner f || s.trole != trLEAD then s
  else if l.any (fun i => s.secState i != secRUNNING) then sendAck 7 s
  else if l.any (fun i => bitOf (s.get F.TWIN_QUIET_OWN) i) then sendAck 2 s
  else if seatMax < (s.seat set 0).length then sendAck 3 s
  else
    let s := (s.set F.TWIN_RS_STAT_SET set).set F.TWIN_RS_STAT_PHASE rsCAPTURE
    setRs (fun r => { tries := r.tries, reqB := s.n }) s
def execReseatReq (t : Nat) (s : State) : Host.Outcome State Fault Refusal :=
  let s1 := s.atTime t
  done s (match popTwin 0x25 s1 with | some (f, u) => reseatReq f u | none => s1)

/-- Shows S and the size of the seat. -/
def showSeat (b bytes : Nat) (s : State) : State :=
  ((s.set F.TWIN_RS_SEAT_LO_S_LO (bidx b)).set F.TWIN_RS_SEAT_HI_S_HI (bidx b / 2 ^ 32)).set F.TWIN_RS_BYTES_BYTES bytes

/-- The LEAD at a breath start in CAPTURE: S is the first breath start at which every core of the set has fewer than 16
dirty granules, which is a free value here, within 300 breaths at 96 kHz (R303) (DESIGN CHOICE: log entry 57). -/
def seatStart (n : Nat) (s : State) : State :=
  let r := s.twin.rs
  if s.rsPhase != rsCAPTURE || r.ended then s
  else
    let (d, s) := s.draw
    if d % 2 = 1 && n < r.reqB + s.fs / 320 then s
    else
      let bs := s.seat s.rsSet n
      showSeat n bs.length (setRs (fun q => { q with ended := true, seatB := n }) (s.setBytes seatBase bs))

/-- SEAT_CAPTURED (R303): the seat is complete in twin staging. -/
def seatCaptured (s : State) : State :=
  if s.rsPhase == rsCAPTURE && s.twin.rs.ended then setRs (fun r => { r with sendAt := s.now }) (s.set F.TWIN_RS_STAT_PHASE rsSENDING)
  else s
def execSeatCaptured (t : Nat) (s : State) : Host.Outcome State Fault Refusal := done s (seatCaptured (s.atTime t))

/-- Time one frame of `n` wire bytes takes at TWIN_RESEAT_RATE, in 1/256 ns (R306). -/
def State.seatPace (s : State) (n : Nat) : Nat := n * 8 * 256 * 1000 / max 100 (min 20000 (s.get F.TWIN_RESEAT_RATE_MBPS))

/-- RESEAT_DATA_SEND (R306): the next RESEAT_DATA frame, and after the last one a RESEAT_END. -/
def reseatDataSend (s : State) : State :=
  let r := s.twin.rs
  let total := s.get F.TWIN_RS_BYTES_BYTES
  if s.rsPhase != rsSENDING || s.now < r.sendAt || total < r.sent then s
  else if r.sent < total then
    let k := min 1024 (total - r.sent)
    let s := sendTwin 0x26 (beBytes 4 r.sent ++ beBytes 2 k ++ [0, 0] ++ s.bytes (seatBase + r.sent) k) s
    setRs (fun q => { q with sent := r.sent + k, sendAt := r.sendAt + s.seatPace (max 84 (k + 58)) }) s
  else
    let s := sendTwin 0x27 (beBytes 6 (bidx r.seatB) ++ beBytes 4 total ++ beBytes 4 (s.word (seatBase + 20))) s
    setRs (fun q => { q with sent := total + 1 }) s
def execReseatDataSend (t : Nat) (s : State) : Host.Outcome State Fault Refusal := done s (reseatDataSend (s.atTime t))

/-- RESEAT_DATA (R306, R307): the FOLLOW stores seat bytes at their offset. -/
def reseatData (f : RxFrame) (s : State) : State :=
  let o := twAt f 12 4
  let k := twAt f 16 2
  if !s.fromPartner f || s.trole != trFOLLOW || !(s.rsPhase == rsREQUESTED || s.rsPhase == rsRECEIVING) || s.twin.rs.ended
      || s.twin.rs.waitAt.isSome || k = 0 || 1024 < k || seatMax < o + k then s
  else
    let s := s.setBytes (seatBase + o) ((f.bytes.drop (twH f + 20)).take k)
    setRs (fun r => { r with got := r.got ++ [(o, k)] }) (s.set F.TWIN_RS_STAT_PHASE rsRECEIVING)
def execReseatData (t : Nat) (s : State) : Host.Outcome State Fault Refusal :=
  let s1 := s.atTime t
  done s (match popTwin 0x26 s1 with | some (f, u) => reseatData f u | none => s1)

/-- Bytes from 0 on that the ranges cover. -/
def covered (l : List (Nat × Nat)) : Nat → Nat → Nat
  | 0, c => c
  | k + 1, c =>
    match l.find? (fun e => decide (e.1 ≤ c) && decide (c < e.1 + e.2)) with
    | some e => covered l k (e.1 + e.2)
    | none => c

/-- The records of the seat in twin staging: type, argument, address of the body, length. -/
def seatRecords (s : State) : Nat → Nat → List (Nat × Nat × Nat × Nat)
  | 0, _ => []
  | k + 1, a =>
    let w := s.word a
    let len := w % 2 ^ 24
    (w / 2 ^ 24, s.word (a + 4), a + 8, len) :: seatRecords s k (a + 8 + (len + 7) / 8 * 8)
def State.seatList (s : State) : List (Nat × Nat × Nat × Nat) := seatRecords s (min 65536 (s.word (seatBase + 12))) (seatBase + 64)

/-- Result of a received seat: 0 for a valid one (R306). -/
def State.seatResult (s : State) (bytes crc : Nat) : Nat :=
  let r := s.twin.rs
  if covered r.got r.got.length 0 < bytes || bytes < 64 || crc32c (s.bytes (seatBase + 64) (bytes - 64)) != crc
      || s.word (seatBase + 20) != crc then 1
  else if s.word seatBase % 65536 != s.rsSet then 7
  else if (s.seatList.filter (fun e => e.1 == 1)).any (fun e => s.bytes e.2.2.1 32 != (s.sec e.2.1).digest) then 2
  else 0

/-- RESEAT_END (R306, R307). An END that no re-seat waits for is answered with STATE (DESIGN CHOICE: log entry 23). -/
def reseatEnd (f : RxFrame) (s : State) : State :=
  if !s.fromPartner f || s.trole != trFOLLOW then s
  else if !(s.rsPhase == rsREQUESTED || s.rsPhase == rsRECEIVING) || s.twin.rs.ended || s.twin.rs.waitAt.isSome then sendAck 7 s
  else
    let b := s.unwrap (twAt f 12 6)
    let bytes := twAt f 18 4
    let e := s.seatResult bytes (twAt f 22 4)
    let s := sendAck e s
    if e != 0 then rsFail e s
    else showSeat b bytes (setRs (fun r => { r with ended := true, seatB := b }) (s.set F.TWIN_RS_STAT_PHASE rsRECEIVING))
def execReseatEnd (t : Nat) (s : State) : Host.Outcome State Fault Refusal :=
  let s1 := s.atTime t
  done s (match popTwin 0x27 s1 with | some (f, u) => reseatEnd f u | none => s1)

/-- RESEAT_ACK (R303, R306): at the LEAD the seat region is free again; at the FOLLOW it refuses the request. -/
def reseatAck (f : RxFrame) (s : State) : State :=
  let e := twByte f 12
  if !s.fromPartner f then s
  else if s.rsPhase == rsSENDING then rsIdle s
  else if s.trole == trFOLLOW && (s.rsPhase == rsREQUESTED || s.rsPhase == rsRECEIVING) && !s.twin.rs.ended
      && s.twin.rs.waitAt.isNone && e != 0 then rsFail e s
  else s
def execReseatAck (t : Nat) (s : State) : Host.Outcome State Fault Refusal :=
  let s1 := s.atTime t
  done s (match popTwin 0x28 s1 with | some (f, u) => reseatAck f u | none => s1)

/-! ## Loading and replay (R305, R307) -/

/-- The gain state of four words (R108); they hold neither the target nor zc_timeout, which are the FOLLOW's own (DESIGN CHOICE: log
entry 57). -/
def gainOfWords (target : Int) (zct a b c d : Nat) : GainS :=
  { cur := sx 32 a, start := sx 32 b
    phase := match c / 2 ^ 30 with | 0 => .idle | 1 => .wait | _ => .ramp
    retire := bitOf c 29, mode := bits 18 16 c, count := c % 65536, len := d % 65536, target := target, zct := zct }

/-- Loads one record of the seat (R304, R307). -/
def loadSeatRec (e : Nat × Nat × Nat × Nat) (s : State) : State :=
  let (ty, arg, a, len) := e
  match ty with
  | 2 => let p := s.physOf (bits 30 24 arg); if p < 136 then
      putWords p (xBase p) (bits 12 0 arg) ((List.range (len / 4)).map (fun k => s.word (a + 4 * k))) s else s
  | 3 => let p := s.physOf (bits 30 24 arg); if p < 136 then
      putWords p (yBase p) (bits 12 0 arg) ((List.range (len / 4)).map (fun k => s.word (a + 4 * k))) s else s
  | 4 =>
    let u := { s with mtx := { s.mtx with retiring := s.mtx.retiring.filter (fun x => !s.setBus s.rsSet (x.1 % 1024)) } }
    showRetiring ((List.range (len / 20)).foldl (fun u k =>
      let b := a + 20 * k
      let key := s.word b
      let g := fun (target : Int) =>
        gainOfWords target (s.get F.MTX_ZC_TIMEOUT_BREATHS) (s.word (b + 4)) (s.word (b + 8)) (s.word (b + 12)) (s.word (b + 16))
      if (g 0).retire then { u with mtx := { u.mtx with retiring := u.mtx.retiring ++ [(key, g 0)] } }
      else match u.active.find? (fun x => x.key == key) with
        | some x => u.setGain key (g x.target)
        | none => u) u)
  | 5 => (List.range (len / 8)).foldl (fun u k =>
      let t := s.word (a + 8 * k) % 8192
      setRs (fun r => { r with taps := mset {} t { cur := sx 32 (s.word (a + 8 * k + 4)), at_ := s.twin.rs.seatB } r.taps }) u) s
  | 6 => if arg < 16 then (s.set (F.MTX_SEED_LO_SEED_LO arg) (s.word a)).set (F.MTX_SEED_HI_SEED_HI arg) (s.word (a + 4)) else s
  | 7 => (List.range (len / 8)).foldl (fun u k =>
      let w := s.word (a + 8 * k)
      (u.setMissRun (bits 30 24 w) (bits 22 16 w) (w % 65536)).setTramp (bits 30 24 w) (bits 22 16 w)
        (codeRamp (s.word (a + 8 * k + 4)))) s
  | _ => s

/-- SEAT_LOADED (R307): the seat is in the cores and MTX, and CATCHUP begins. -/
def seatLoaded (s : State) : State :=
  if s.rsPhase != rsLOADING then s
  else
    let s := s.seatList.foldl (fun u e => loadSeatRec e u) s
    let r := s.twin.rs
    let s := setRs (fun q => { q with next := r.seatB, liveB := s.n + 1 }) (s.set F.TWIN_RS_STAT_PHASE rsCATCHUP)
    s.set F.TWIN_RS_GAP_BREATHS (min 65535 (s.n + 1 - r.seatB))
def execSeatLoaded (t : Nat) (s : State) : Host.Outcome State Fault Refusal := done s (seatLoaded (s.atTime t))

/-- Runs core `p` to the end of the instance it has begun: fetches, interrupt entries and returns; a replay is no live instance, and no
halt request holds it. -/
def runCore (p : Nat) : Nat → State → State
  | 0, s => s
  | k + 1, s =>
    let x := s.coreS p
    if x.inst.isNone || x.ending then s
    else
      let s := if x.boundary && x.pend.isSome then takeInterrupt p s else s
      let s := if (s.coreS p).returning then returnInterrupt p s else s
      runCore p k (fetchStep p .clean (fun _ => true) effAny s)

/-- Runs task `k` of core `l` for the replayed breath `b` and commits its taps. -/
def replayTask (l k b : Nat) (s : State) : State :=
  match s.task l k with
  | none => s
  | some e =>
    let p := s.physOf l
    if 136 ≤ p then s
    else
      let old := s.coreS p
      let s := s.setCore p { pc := e.entry, base := startBase l b, inst := some ⟨l, k, b, e.entry, e.outBase, e.outCount⟩ }
      let s := runCore p 1048576 s
      let twr := (s.coreS p).twr
      completeTaps l k e b twr (s.setCore p old)

/-- The replay's work: tasks still to run, buses still to add. -/
structure Replay where
  tasks : List (Nat × Nat)
  buses : List Nat

/-- A task may run: its predecessors in the set are done (R307). -/
def State.replayReady (s : State) (w : Replay) (q : Nat × Nat) : Bool :=
  match s.task q.1 q.2 with
  | none => true
  | some e => match e.kind with
    | .completion => (preds e.arg).all (fun z => !w.tasks.contains z)
    | .bus => !w.buses.contains (e.arg % 1024)
    | _ => true

/-- A bus of the set may be added: its sources in the set are done. -/
def State.busReplayReady (s : State) (w : Replay) (n : Nat) : Bool :=
  (s.busSrcs n).all (fun t =>
    if busTap0 ≤ t then busTap0 + n ≤ t || !w.buses.contains (t - busTap0)
    else !w.tasks.any (fun q => match s.task q.1 q.2 with | some e => e.taps.contains t | none => false))

/-- Order of the tasks: EXPECT, core, task (R307). -/
def State.replayKey (s : State) (q : Nat × Nat) : Nat :=
  (match s.task q.1 q.2 with | some e => e.expect | none => 0) * 16384 + 128 * q.1 + q.2

/-- Runs tasks and adds buses of the set for breath `b` until all are done. -/
def replayLoop (b : Nat) : Nat → Replay → State → State
  | 0, _, s => s
  | k + 1, w, s =>
    match w.buses.find? (fun n => s.busReplayReady w n) with
    | some n =>
      let (acc, u) := sumBus n b s
      let v := sx 32 (accRound acc).val
      let v := match u.busOwner n with | some i => u.secRamp i b v | none => v
      replayLoop b k { w with buses := w.buses.erase n } (commitTap (busTap0 + n) v b u)
    | none =>
      let cs := w.tasks.filter (fun q => s.replayReady w q)
      match cs with
      | [] =>
        match w.tasks, w.buses with
        | q :: _, _ => replayLoop b k { w with tasks := w.tasks.erase q } (replayTask q.1 q.2 b s)
        | [], n :: _ => replayLoop b k { w with buses := w.buses.erase n } s
        | [], [] => s
      | c :: r =>
        let q := r.foldl (fun m x => if s.replayKey x < s.replayKey m then x else m) c
        replayLoop b k { w with tasks := w.tasks.erase q } (replayTask q.1 q.2 b s)

/-- Brings a delivery to its core, as read in breath `b`. -/
def putDelivery (j b : Nat) (v : Int) (s : State) : State :=
  let p := s.physOf (bits 31 25 (s.lineW 1 j))
  if p < 136 then coreWrite p (xBase p + 4 * (bits 12 0 (s.lineW 2 j) + b % 2)) (leBytes 4 (ux 32 v)) s else s

/-- Puts a tap's record without a commit. -/
def State.setTap (s : State) (t : Nat) (x : TapS) : State := { s with mtx := { s.mtx with taps := mset {} t x s.mtx.taps } }

/-- Replays breath `b` of the set (R307): the taps and words of the log go in, the tasks run once, and what they change in
cores, gain states, lines and ramps stays; the committed taps of the live breath and the formatted outputs do not
change. -/
def replay (b : Nat) (s : State) : State :=
  let set := s.rsSet
  let r := s.twin.rs
  let lg := (r.log.find? (fun e => e.b == b)).getD { b := b }
  let mine := fun (t : Nat) => match s.ownerOfTap t with | some i => bitOf set i | none => false
  let u := r.taps.foldl (fun v e => v.setTap e.1 e.2) s
  let u := lg.taps.foldl (fun v e => v.setTap e.1 ⟨e.2, (v.tap e.1).cur, (v.tap e.1).prev, b + 1⟩) u
  let u := lg.dels.foldl (fun v e =>
    putDelivery e.1 b (if mine (v.lineSrc e.1) then (v.lineRead e.1 (v.lineDelay e.1) false b).getD e.2 else e.2) v) u
  let u := lg.words.foldl (fun v h =>
    let p := v.physOf h.lcore
    if p < 136 then coreWrite p ((if h.y then yBase p else xBase p) + 4 * h.word) (leBytes 4 h.value) v else v) u
  let cores := u.setCores set
  let tasks := cores.flatMap (fun l => ((List.range 128).filter (fun k => (u.task l k).isSome && u.taskValid 16384 l k)).map (fun k => (l, k)))
  let buses := (secsOf set).flatMap u.busesOwned
  let u := replayLoop b (2 * (tasks.length + buses.length) + 2) ⟨tasks, buses⟩ u
  let bad := match s.twin.part.find? (fun e => e.b == b) with
    | some p => (secsOf set).any (fun i => bitOf p.dvalid i && u.digestOf i b != p.digs.getD i 0)
    | none => false
  let keep := (secsOf set).flatMap u.outputsOf
  let srcs := (r.taps.map (fun e => e.1)) ++ keep
  let s := { s with mem := u.mem
                    mtx := { s.mtx with gain := u.mtx.gain, retiring := u.mtx.retiring, tapRamp := u.mtx.tapRamp }
                    dly := u.dly
                    disp := { s.disp with misses := u.disp.misses, tramp := u.disp.tramp, rot := u.disp.rot } }
  let s := setRs (fun q => { q with next := b + 1, taps := srcs.foldl (fun m t => mset {} t (u.tap t) m) [] }) s
  if bad then rsFail 8 s else s

/-- The quiet of a re-seat's set is lifted, except where the images differ (R300, R307). -/
def liftSet (s : State) : State :=
  (secsOf s.rsSet).foldl (fun u i => if u.quietReason i == qrIMAGE then u else putReason i 0 u) s

/-- Live instances of the set resume with the taps the replay reached; in a twin that has become LEAD the set transmits from then on
(R307). -/
def rsResume (n : Nat) (s : State) : State :=
  let set := s.rsSet
  let mine := (secsOf set).flatMap s.outputsOf
  let s := mine.foldl (fun u t => u.setTap t (mget {} t s.twin.rs.taps)) s
  if s.trole != trFOLLOW then rsIdle (liftSet s)
  else setRs (fun q => { q with agree := 0, liveB := n, log := [] }) (s.set F.TWIN_RS_STAT_PHASE rsCHECKING)

/-- Bytes of the input log's region (R305). -/
def logMax : Nat := 100663296

/-- Logs the outside taps of breath `b`, and of the two breaths before, whose commits may have come late (R305). -/
def logTaps (b : Nat) (s : State) : State :=
  let set := s.rsSet
  let ts := ((secsOf set).flatMap s.readList).eraseDups.filter (fun t =>
    match s.ownerOfTap t with | some i => !bitOf set i | none => true)
  let at_ := fun (u : State) (q : Nat) => mapLog q (fun e => { e with taps := ts.map (fun t => (t, (s.tap t).val q)) }) u
  let has := fun (q : Nat) => s.twin.rs.log.any (fun e => e.b == q)
  let s1 := if has (b - 2) then at_ s (b - 2) else s
  let s2 := if has (b - 1) then at_ s1 (b - 1) else s1
  let s3 := at_ s2 b
  let lg := (s3.twin.rs.log.find? (fun e => e.b == b)).getD { b := b }
  setRs (fun r => { r with logBytes := r.logBytes + 4 * (ts.length + lg.dels.length + lg.words.length) }) s3

/-- What a swap, a delay change of a line of the set or a commit of a member changes (R307). -/
def State.rsToken (s : State) : List Nat :=
  let l := secsOf s.rsSet
  s.activeBank :: l.map s.secState ++ (s.linesV.filter (fun j => l.contains (s.lineSec j))).map s.lineDelay

/-- Up to two breaths of the set are replayed for live breath n − 1; fewer where no matrix cycles were left, which is a free
value (R307) (DESIGN CHOICE: log entry 57). -/
def rsReplay (n : Nat) (s : State) : State :=
  if s.rsPhase != rsCATCHUP || n ≤ s.twin.rs.liveB then s
  else
    let (d, s) := s.draw
    let one := fun (u : State) => if u.rsPhase == rsCATCHUP && u.twin.rs.next < n then replay u.twin.rs.next u else u
    let s := one s
    let s := if d % 2 = 0 then one s else s
    let s := setRs (fun r => { r with log := r.log.filter (fun e => r.next ≤ e.b) }) s
    let s := s.set F.TWIN_RS_GAP_BREATHS (min 65535 (n - s.twin.rs.next))
    if s.rsPhase == rsCATCHUP && n ≤ s.twin.rs.next then rsResume n s else s

/-- A re-seat at the start of breath `n`, as FOLLOW: the log, what ends it, loading, replay (R305, R307) (DESIGN
CHOICE: log entry 57). -/
def rsBreath (n : Nat) (s : State) : State :=
  let p := s.rsPhase
  if !(1 ≤ p && p ≤ 4) || s.twin.rs.waitAt.isSome then s
  else
    let s := logTaps (n - 1) s
    let tk := s.rsToken
    let r := s.twin.rs
    let s := setRs (fun q => { q with token := tk, changed := if r.token.isEmpty || r.token == tk then r.changed else n }) s
    if logMax < s.twin.rs.logBytes then rsFail 4 s
    else if s.twin.rs.ended && s.twin.rs.seatB < s.twin.rs.changed then rsFail 5 s
    else if p == rsRECEIVING && s.twin.rs.ended then s.set F.TWIN_RS_STAT_PHASE rsLOADING
    else rsReplay n s

/-- RESEAT_COMPLETE (R307): AGREE consecutive live breaths have agreed. -/
def reseatComplete (s : State) : State :=
  if s.rsPhase != rsCHECKING || s.twin.rs.agree < max 1 (s.get F.TWIN_CTRL_AGREE) then s
  else
    let s := liftSet s
    let s := ((s.incSat F.TWIN_CNT0_RESEATS).set F.TWIN_EVT_RESEAT_DONE 1).set F.TWIN_RS_STAT_FAILS 0
    setRs (fun _ => {}) (rsIdle s)
def execReseatComplete (t : Nat) (s : State) : Host.Outcome State Fault Refusal := done s (reseatComplete (s.atTime t))

/-! ## Breath starts and registers -/

/-- What the TWIN unit does at the start of breath `n`: ratio words, re-seat, capture, notes, YIELD frames (R295, R301, R302,
R307). -/
def twinBreath (n : Nat) (s : State) : State :=
  let s := breathNotes n (seatStart n (rsBreath n (noteValid n s)))
  match s.twin.yieldY with
  | some y => if s.on F.TWIN_CMD_STAT_BUSY && s.twinPaired && n < y then sendTwin 0x24 (beBytes 6 (bidx y)) s else s
  | none => s

/-- A write of a TWIN register. -/
def wrTWIN (a v : Nat) (s : State) : State :=
  if a == A.TWIN_CTRL then wrTwinCtrl v s else if a == A.TWIN_CMD then wrTwinCmd v s else s.writeRegPlain a v

end Sys2Proof.Machine
end

