-- ==== Sys2Proof/Machine/Sys.lean ====
section
/-!
DEFINITION. System control: cold reset, warm restart, unit resets and the change of engine mode (R19–R21, R29–R32, R382,
R414).
-/
namespace Sys2Proof.Machine

/-! ## What a reset keeps -/

/-- Fields the fuses hold (R334). -/
def fuseKey (k : Nat) : Bool :=
  k == Fd.key F.SEC_FUSE_KEY1_VALID || k == Fd.key F.SEC_FUSE_KEY0_REVOKED || k == Fd.key F.SEC_FUSE_FLOOR

/-- Fields a warm restart keeps: those of AON, of keep RAM and of the fuses, and the SYS registers that only a power-on
reset resets (R31, R32, R321, R352, R374, R398). -/
def warmKey (k : Nat) : Bool :=
  let a := k / 32
  fuseKey k
  || (inBlock 1 a && k != Fd.key F.PMU_STAT_RESULT && k != Fd.key F.PMU_STAT_BUSY)
  || a == A.SYS_RESET_CAUSE || a == A.SYS_ERRADDR_LO || a == A.SYS_ERRADDR_HI || a == A.SYS_ERRINFO
  || (0x20000060 ≤ a && a < 0x20000070)
  || k == Fd.key F.FCU_STAT_AUTOSUP || k == Fd.key F.FCU_STAT_QRESTARTS
  || a == A.LIG_BUDGET || a == A.LIG_HOLDUP || a == A.HOST_SUMGEN_LO || a == A.HOST_SUMGEN_HI

/-- The level of the module balls of a port stays what it is (R171). -/
def pinKey (k : Nat) : Bool :=
  [0, 1, 2, 3, 4].any (fun p => k == Fd.key (F.SFP_STAT_PRESENT p) || k == Fd.key (F.SFP_STAT_LOS p) || k == Fd.key (F.SFP_STAT_TX_FAULT p))

/-- Modules that are present count from now on as inserted (R171). -/
def seatModules (s : State) : State :=
  [0, 1, 2, 3, 4].foldl (fun u p => if u.on (F.SFP_STAT_PRESENT p) then u.setPort p { insert := u.now } else u) s

/-- The state after an AON power-on reset (R378, R414): only fuses, the flash, ball levels and what waits to be sent to the
node are left. -/
def coldState (s : State) : State :=
  let z : State := {}
  seatModules { z with now := s.now, fresh := s.fresh, flash := s.flash, pending := s.pending
                       fld := mkeep (fun k => fuseKey k || pinKey k) s.fld, pmu := { aonAt := s.now } }

/-- POWER_ON_RESET (R414); `test` is TEST_MODE as it reads then (R402). -/
def execPowerOnReset (e : PowerRise) (s : State) : Host.Outcome State Fault Refusal :=
  let s1 := s.atTime e.t
  .next (if s1.sys.off then let z := coldState s1; { z with sys := { z.sys with testMode := e.test } } else s1)

/-- AON_LOSS (R379): the device is OFF; what the journal engine was writing stays cut off on the flash (R343). -/
def execAonLoss (e : PowerLoss) (s : State) : Host.Outcome State Fault Refusal :=
  let s1 := s.atTime e.t
  .next (if s1.sys.off then s1 else let z := coldState (cutFlash e.cut s1); { z with sys := { z.sys with off := true } })

/-! ## Rails (R384–R386) -/

/-- The rails that are on before the sequence starts (R385). -/
def aonRails : List Nat := [14, 5, 6, 7]

/-- OK of rail `r`, in both places. -/
def setRailOk (b : Bool) (s : State) (r : Nat) : State := (s.set (F.PMU_RAIL_OK r) b.toNat).setBit F.PMU_RAILOK_OK r b

/-- The comparator of rail `r` has it below 94 % of its target, or no longer (R385). -/
def setBelow (b : Bool) (r : Nat) (s : State) : State :=
  let l := s.pmu.below.filter (· != r)
  { s with pmu := { s.pmu with below := if b then r :: l else l } }

/-- The target of VDD_ENG (R386, R398). -/
def setVnow (v : Nat) (s : State) : State := (s.set F.PMU_AVS_STAT_VNOW v).set (F.PMU_RAIL_TARGET 0) v

/-- The start voltage of the mode in force (R386). -/
def State.startV (s : State) : Nat := if s.get F.SYS_MODE_STAT_CUR == 3 then 680 else 800

/-- The rail sequence starts: origin P (R385). -/
def startRails (s : State) : State :=
  let s := aonRails.foldl (setRailOk true) (s.set F.PMU_STAT_BUSY 1)
  { s with pmu := { s.pmu with origin := s.now, seqStop := false, started := aonRails.map (fun r => (r, s.now)), below := [] } }

/-! ## Warm restart (R31, R338, R382) -/

/-- What a warm restart leaves of the state: AON, keep RAM, the flash, the fuses (R31). -/
def warmBase (s : State) : State :=
  let z : State := {}
  let g := (s.get F.HOST_SUMGEN_HI_GEN / 65536 + 1) % 65536 * 65536
  let t : State := { z with
    now := s.now, fresh := s.fresh, flash := s.flash, pending := s.pending
    fld := mkeep (fun k => warmKey k || pinKey k) s.fld
    mem := mkeep (fun a => keepBase ≤ a && a < keepBase + 0x10000) s.mem
    fcu := { z.fcu with restarts := s.fcu.restarts }
    lig := { z.lig with queued := s.lig.queued, pend := s.lig.pend, hkWait := s.lig.hkWait, nextSeq := s.lig.nextSeq }
    pmu := { s.pmu with target := none, woken := none }
    pp := { z.pp with freqAt := s.now } }
  seatModules ((t.set F.HOST_SUMGEN_HI_GEN g).set F.HOST_SUMGEN_LO_GEN 0)

/-- A warm restart with its cause bit (R31). HALT holds the state (R322). A shutdown after an input fall goes on through it (R350,
R379). From STANDBY the rails come first (R382) (DEDUCED: log entry 30). -/
def warmRestart (cause : Fd) (s : State) : State :=
  if s.fcuState == 2 || s.sys.off || s.sys.testMode then s
  else
    let t := (warmBase s).set cause 1
    if s.pstate == psSTANDBY then
      let t := startRails t
      { t with sys := { t.sys with boot := .rails, warmBoot := true, safeN := false } }
    else
      let t := if s.pstate == psNAP then setVnow t.startV (setRailOk true t 0) else t
      let t := startTime (t.set F.PMU_STAT_PSTATE psREADY)
      { t with sys := { t.sys with boot := .scan, warmBoot := true, safeN := false } }

/-- A write of SYS_WARM. -/
def wrWarm (v : Nat) (s : State) : State := if bits 31 16 v == keyA55A && bitOf v 0 then warmRestart F.SYS_RESET_CAUSE_SW s else s
def execWarmRestart (m v : Nat) (s : State) : Host.Outcome State Fault Refusal := done s (guarded m A.SYS_WARM (wrWarm v) s)

/-- RESET_N (R414): accepted after 1.1 µs low; ignored in STANDBY and HALT. -/
def resetPin (s : State) : State :=
  if s.pstate == psSTANDBY || s.fcuState == 2 || s.sys.off then s
  else let t := warmRestart F.SYS_RESET_CAUSE_PIN s; { t with sys := { t.sys with pinHeld := true } }
def execResetN (t : Nat) (s : State) : Host.Outcome State Fault Refusal := doneAon s (resetPin (s.atTime t))

/-- RESET_N_RELEASE (R414). -/
def execResetNRelease (t : Nat) (s : State) : Host.Outcome State Fault Refusal :=
  let s1 := s.atTime t
  doneAon s { s1 with sys := { s1.sys with pinHeld := false } }

/-- WATCHDOG_EXPIRY (R31, R323): the watchdog is disabled in HALT. -/
def execWatchdogExpiry (t : Nat) (s : State) : Host.Outcome State Fault Refusal :=
  doneAon s (warmRestart F.SYS_RESET_CAUSE_WDOG (s.atTime t))

/-! ## Unit resets (R29, R30) -/

/-- Results of SYS_URST_STAT. -/
def urDONE : Nat := 1
def urUNIT : Nat := 2
def urBUSY : Nat := 3
def urFENCED : Nat := 4

/-- The unit group of a unit that accepts a reset (R29, R319). -/
def unitGroup (u : Nat) : Option Nat :=
  if 11 ≤ u && u ≤ 15 then some (u - 2) else if u = 17 then some 15 else if u = 18 then some 16
  else if u = 19 then some 21 else if u = 23 then some 3 else none

/-- What the reset does to the unit at once (R29) (DEDUCED: log entry 30). -/
def resetUnit (u : Nat) (s : State) : State :=
  if 11 ≤ u && u ≤ 15 then resetNet (u - 11) s
  else if u = 17 then resetSap s
  else if u = 18 then resetBsi s
  else if u = 19 then resetSurv s
  else if u = 23 then resetAsrc s
  else s

/-- An instant no shadow reaches, for one whose end is not yet known. -/
def farOff : Nat := 2 ^ 96

/-- A write of SYS_URST (R29): REJ_UNIT, REJ_FENCED, REJ_BUSY in this order. -/
def wrUrst (v : Nat) (s : State) : State :=
  let u := bits 12 8 v
  let res := fun (c : Nat) => s.set F.SYS_URST_STAT_RESULT c
  if !(bits 31 16 v == keyA55A && bitOf v 0) then s
  else match unitGroup u with
    | none => res urUNIT
    | some g =>
      if s.fencedGroup g then res urFENCED
      else if s.sys.urst.isSome then res urBUSY
      else
        let s := resetUnit u (openShadow g farOff ((s.set F.SYS_URST_STAT_LAST_UNIT u).set F.SYS_URST_STAT_BUSY 1))
        { s with sys := { s.sys with urst := some (u, s.now) } }
def execUnitReset (m v : Nat) (s : State) : Host.Outcome State Fault Refusal := done s (guarded m A.SYS_URST (wrUrst v) s)

/-- UNIT_RESET_RELEASE (R30): 2 µs or more after the write. The shadow ends SHADOW_US later, and the unit's lines are
ignored for a further 1 µs (R313, R319). -/
def unitRelease (s : State) : State :=
  match s.sys.urst with
  | some (u, a) =>
    if s.now < a + 2 * uUs then s
    else
      let s := { s with sys := { s.sys with urst := none } }
      let s := ((s.set F.SYS_URST_STAT_BUSY 0).set F.SYS_URST_STAT_RESULT urDONE).inc F.SYS_URST_STAT_COUNT
      match unitGroup u with
      | some g => deafen g { s with fcu := { s.fcu with shEnd := mset 0 g (s.now + s.shadowLen) s.fcu.shEnd } }
      | none => s
  | none => s
def execUnitResetRelease (t : Nat) (s : State) : Host.Outcome State Fault Refusal := done s (unitRelease (s.atTime t))

/-! ## Changing the engine mode (R19, R20) -/

/-- Results of SYS_MODE_STAT. -/
def maDONE : Nat := 1
def maPAIRED : Nat := 2
def maBUSY : Nat := 3
def maSTATE : Nat := 4
def maMISMATCH : Nat := 5

/-- The apply ends: APPLYING, RESULT and the MODE event of every slot (R19, R368). -/
def applyEnd (s : State) : State :=
  let r := if s.get F.SYS_MODE_STAT_MISMATCH == 0 then maDONE else maMISMATCH
  let s := (s.set F.SYS_MODE_STAT_APPLYING 0).set F.SYS_MODE_STAT_RESULT r
  allEvt evMODE { s with sys := { s.sys with apply := .idle } }

/-- The apply is accepted (R19): REQ is latched, locks that are not STARTED break, and what waits in the mix matrix, the delay
lines and the gate lists is cancelled; a rotation step ends as R57 says. -/
def acceptApply (ph : ApplyPh) (s : State) : State :=
  let s := s.set F.SYS_MODE_STAT_APPLYING 1
  let s := { s with sys := { s.sys with apply := ph, applyMode := s.get F.SYS_MODE_REQ, applyAt := s.now } }
  let s := (List.range 16).foldl (fun u i => breakLock i leAPPLY u) s
  let s := if s.on F.MTX_SWAP_STAT_BUSY && !(s.mtx.swapped && s.mtx.swapB + 1 ≤ s.n) then endSwap swSTATE s else s
  meetRotation (fun _ => true) (cancelGcl (dropChanges (fun _ => true) (cancelMailboxes s)))

/-- A write of SYS_MODE_APPLY (R19, R20). It is accepted at once in READY; else at the start of breath B, which the breath
start finds. An apply is in progress from the write on, so a second write before breath B is REJ_BUSY (DEDUCED: log entry 10). -/
def wrModeApply (v : Nat) (s : State) : State :=
  let res := fun (c : Nat) => s.set F.SYS_MODE_STAT_RESULT c
  if !(bits 31 16 v == keyA55A && bitOf v 0) then s
  else if s.sys.apply != .idle then res maBUSY
  else if s.paired then res maPAIRED
  else if s.pstate != psREADY && s.pstate != psSHOW then res maSTATE
  else if s.dstate == dStopped then acceptApply .clocks s
  else { s with sys := { s.sys with apply := .wait, applyAt := s.now } }
def execModeApply (m v : Nat) (s : State) : Host.Outcome State Fault Refusal := done s (guarded m A.SYS_MODE_APPLY (wrModeApply v) s)

/-- The first breath that starts with no commit in progress is breath B: the apply is accepted, and every running section ramps
out (R19, R158). -/
def applyBreath (n : Nat) (s : State) : State :=
  if s.sys.apply == .wait && s.get F.RVC_STAT_STARTED == 0 && s.dstate == dRunning then
    let s := acceptApply .ramp s
    let s := { s with sys := { s.sys with applyB := n } }
    (List.range 16).foldl (fun u i =>
      if u.secState i == secRUNNING then u.setSec i { u.sec i with rampOut := some n } else u) s
  else s

/-- MODE_LAST_BREATH (R19): B + 32. -/
def modeLastBreath (s : State) : State :=
  if s.sys.apply == .ramp && s.sys.applyB + 32 ≤ s.n then
    let s := (zeroSerial (stopAudio s)).set F.DISP_STAT_STATE dStopping
    { s with sys := { s.sys with apply := .clocks, applyAt := s.now } }
  else s
def execModeLastBreath (t : Nat) (s : State) : Host.Outcome State Fault Refusal := done s (modeLastBreath (s.atTime t))

/-- Instances that are still under way when the clocks stop are abandoned. -/
def dropInsts (s : State) : State :=
  let s := (List.range 136).foldl (fun u p => if (u.coreS p).inst.isSome then idleCore p u else u) s
  { s with disp := { s.disp with insts := [] } }

/-- Section `i` is judged against mode `c` (R19): brought to reset state to restart, or left in MISMATCH. -/
def judge (c : Nat) (s : State) (i : Nat) : State :=
  if s.secState i == secEMPTY then s
  else if imgMode s (s.liveBase i) == c then
    let s := loadImage i (s.liveBase i) false [] s
    (setSecState i secWAITING s).setSec i { s.sec i with rampIn := none, rampOut := none, ready := true }
  else clearBounds i ((setSecState i secMISMATCH s).setSec i { s.sec i with ready := false })

/-- Mode `c` is in force: clocks, voltage, active cores (R17, R18, R386). -/
def putMode (c : Nat) (s : State) : State :=
  let s := s.set F.SYS_MODE_STAT_CUR c
  applyActive (if s.on F.PMU_AVS_EN then setVnow s.startV s else s)

/-- CLOCKS_RECONFIGURED (R19): after the last breath, or in READY; a spare load in progress completes first. A stop that was
under way when the apply was written leaves no breath B: the apply goes on as in READY (DEDUCED: log entry 10). -/
def clocksDone (s : State) : State :=
  let stopped := s.dstate == dStopped
  let loads := (List.range 128).any (fun l => match s.fenceTl l with | some f => f.spare.isSome && f.restart.isNone | none => false)
  if !(s.sys.apply == .clocks || (s.sys.apply == .wait && stopped)) || loads then s
  else
    let s := if s.sys.apply == .wait then acceptApply .clocks s else s
    let s := { s with sys := { s.sys with oldFs := some (s.sys.oldFs.getD s.fs) } }
    let s := putMode s.sys.applyMode (dropInsts (tickCredits s))
    let s := (List.range 16).foldl (judge s.sys.applyMode) s
    let s := s.set F.SYS_MODE_STAT_MISMATCH (bitSet ((List.range 16).filter (fun i => s.secState i == secMISMATCH)))
    let s := (s.set F.DISP_START_INDEX_LO_START_LO 0).set F.DISP_START_INDEX_HI_START_HI 0
    if stopped then applyEnd s
    else { s.set F.DISP_STAT_STATE dArmed with sys := { s.sys with apply := .anchor, applyAt := s.now } }
def execClocksReconfigured (t : Nat) (s : State) : Host.Outcome State Fault Refusal := done s (clocksDone (s.atTime t))

/-- APPLY_ANCHOR_TIMEOUT (R19). -/
def anchorTimeout (s : State) : State :=
  if s.sys.apply == .anchor && s.dstate == dArmed && s.sys.applyAt + uMs ≤ s.now then dispAnchor s.dev s else s
def execApplyAnchorTimeout (t : Nat) (s : State) : Host.Outcome State Fault Refusal := done s (anchorTimeout (s.atTime t))

/-- APPLY_DONE (R19): breath 32 of the new mode. -/
def applyDone (s : State) : State :=
  if s.sys.apply == .rampIn && s.sys.applyB + 32 ≤ s.n then applyEnd s else s
def execApplyDone (t : Nat) (s : State) : Host.Outcome State Fault Refusal := done s (applyDone (s.atTime t))

/-- A write of a SYS register. -/
def wrSYS (a v : Nat) (s : State) : State :=
  let o := a % 0x10000
  if o == 0x18 then wrModeApply v s
  else if o == 0x20 then wrUrst v s
  else if o == 0x34 then wrWarm v s
  else s.writeRegPlain a v

end Sys2Proof.Machine
end

