-- ==== Sys2Proof/Machine/HostSlot.lean ====
section
/-!
DEFINITION. Host slots: reset, bells, enable and kick (R367, R369), PCIe link events (R370) and the JTAG reset (R154).
-/
namespace Sys2Proof.Machine

def State.slotS (s : State) (n : Nat) : HSlotS := mget {} n s.host.slot
def State.setSlot (s : State) (n : Nat) (x : HSlotS) : State := { s with host := { s.host with slot := mset {} n x s.host.slot } }

/-- The register of slot `n` resets at a slot reset: all but CTRL, the counters and RESETS (R367, R376); the summary buffer
does too. -/
def slotReg (n a : Nat) : Bool :=
  let o := a - 0x20150400 - 0x400 * n
  (0x20150404 + 0x400 * n ≤ a && a < 0x20150800 + 0x400 * n && o != 0x18 && o != 0x1C)
  || (0x20152000 + 0x1000 * n ≤ a && a < 0x20153000 + 0x1000 * n)

/-- A slot reset (R367). -/
def slotReset (n : Nat) (s : State) : State :=
  let k := s.get (F.SLOTn_STAT_RESETS n)
  let s := breakLocksOf (slotMaster n) leRESET s
  let s := (s.resetRegs (slotReg n)).setSlot n {}
  let s := if n = 5 then { s with host := { s.host with tuned := false } } else s
  s.set (F.SLOTn_STAT_RESETS n) (min 255 (k + 1))

/-- A write of SLOTn_CTRL: KICK, or EN written 0, resets the slot (R367) (DEDUCED: log entry 41). -/
def wrSlotCtrl (n v : Nat) (s : State) : State :=
  let s := s.writeRegPlain (A.SLOTn_CTRL n) v
  if bitOf v 30 || !bitOf v 31 then slotReset n s else s

/-- KICK: the write of SLOTn_CTRL with KICK = 1. -/
def execKick (m n v : Nat) (s : State) : Host.Outcome State Fault Refusal :=
  done s (guardedV m (A.SLOTn_CTRL n) (withBit (v % 2 ^ 32) 30 true) (wrSlotCtrl n (withBit (v % 2 ^ 32) 30 true)) s)

/-- A write of SLOTn_BELL (R369). -/
def wrBell (n v : Nat) (s : State) : State :=
  let s := if bitOf v 0 then s.setBit F.HOST_CC_IRQ_BELL n true else s
  if bitOf v 1 then slotEvt n evMBOX s else s
def execBellIn (m n : Nat) (s : State) : Host.Outcome State Fault Refusal :=
  done s (guardedV m (A.SLOTn_BELL n) 1 (wrBell n 1) s)
def execBellOut (m n : Nat) (s : State) : Host.Outcome State Fault Refusal :=
  done s (guardedV m (A.SLOTn_BELL n) 2 (wrBell n 2) s)

/-! ## PCIe and JTAG -/

/-- What the PCIe endpoint's function and the JTAG port answer to a host that asks who they are (R370, R371). -/
def pcieVendorId : Nat := 0x1FC7
def pcieDeviceId : Nat := 0x9632
def pcieRevisionId : Nat := 0x11
def pcieClassCode : Nat := 0x040100
def jtagIdcode : Nat := 0x1963256B

/-- The link of slot 4 is down: HOST_STAT shows none, MSI-X is off. -/
def pcieDown (s : State) : State :=
  (((s.set F.HOST_STAT_PCIE_UP 0).set F.HOST_STAT_PCIE_WIDTH 0).set F.HOST_STAT_PCIE_SPEED 0).set F.HOST_STAT_MSIX_EN 0

/-- PCIE_RESET (R154, R314, R367): link down, hot reset or function-level reset; only the first takes the link down, which
raises HOST_LINK. -/
def execPcieReset (down : Bool) (t : Nat) (s : State) : Host.Outcome State Fault Refusal :=
  let s1 := s.atTime t
  let s2 := if down && s1.on F.HOST_STAT_PCIE_UP then raiseF 114 0 s1 else s1
  let s3 := slotReset 4 s2
  let s4 := { s3 with host := { s3.host with vector := [0, 0, 0, 1], pba := false } }
  done s (if down then pcieDown s4 else s4.set F.HOST_STAT_MSIX_EN 0)

/-- PCIE_LINK_UP (R370): width and speed by their codes in HOST_STAT, and whether the host has MSI-X enabled; the link is down
in NAP (R381). -/
def execPcieLinkUp (width speed : Nat) (msix : Bool) (t : Nat) (s : State) : Host.Outcome State Fault Refusal :=
  let s1 := s.atTime t
  done s (if s1.domains < psREADY then s1
    else (((s1.set F.HOST_STAT_PCIE_UP 1).set F.HOST_STAT_PCIE_WIDTH width).set F.HOST_STAT_PCIE_SPEED speed).set
      F.HOST_STAT_MSIX_EN msix.toNat)

/-- TEST_LOGIC_RESET (R154). -/
def execTestLogicReset (t : Nat) (s : State) : Host.Outcome State Fault Refusal :=
  done s (breakLocksOf mDBG leRESET (s.atTime t))

end Sys2Proof.Machine
end

