-- ==== Sys2Proof/Machine/Power.lean ====
section
/-!
DEFINITION. Entering and leaving power states (R27, R378–R382, R385): what loses power, and what comes back.
-/
namespace Sys2Proof.Machine

/-- Stops what a fence in force stops, again, in units that start from reset values (R316). -/
def refence (s : State) : State :=
  s.fcu.fences.foldl (fun u f => if f.group == 16 then bsiOff f.index u else fenceUnit raiseF f.src f.group f.index u) s

/-- SWMODE in force: SPREAD while the CLOCK domain is off (R388). -/
def showSwmode (on : Bool) (s : State) : State := s.set F.PMU_STAT_SWMODE (if on then s.get F.PMU_REG_CTRL_SWMODE else 1)

/-- Registers of the ENGINE, CLOCK and LOCAL domains and of the core windows (R27). -/
def engineReg (a : Nat) : Bool :=
  [3, 4, 5, 6, 7, 8, 9, 10, 16, 17, 18, 19, 23].any (fun b => inBlock b a)
  || (0x40000000 ≤ a % 0x100000000 && a % 0x100000000 < 0x42200000)

/-- Memories of the ENGINE domain: core windows, matrix banks, delay pool (DESIGN CHOICE: log entry 29). -/
def engineMem (a : Nat) : Bool := 0x40000000 ≤ a && a < 0x72000000

/-- Every unit of ENGINE, CLOCK and LOCAL at its reset values (R382); the fences in force hold. -/
def resetEngine (s : State) : State :=
  let z : State := {}
  let s := (s.resetRegs engineReg).clearMem engineMem
  let s := { s with time := {}, disp := {}, core := [], mtx := {}, asrc := {}, dly := {}, arb := [], rvc := {}, strm := {}
                    sap := [], bsi := [], pp := { z.pp with freqAt := s.now }, twin := {}, surv := {}
                    net := { s.net with twinq := [] }, sys := { s.sys with apply := .idle } }
  let s := refence (s.set F.SYS_MODE_STAT_APPLYING 0)
  let s := applyActive (resetMap { s with disp := { s.disp with fenceTl := [] } })
  loadBaselines s

/-- Ports that do not stay powered in NAP pass through their unit reset (R381). -/
def resetIdlePorts (s : State) : State :=
  [0, 1, 2, 3, 4].foldl (fun u p => if bitOf (u.get F.PMU_WAKE_EN_WAKE_PORTS) p && p < 4 then u else resetNet p u) s

/-- The node is in NAP: VDD_ENG off (R379, R381) (DESIGN CHOICE: log entry 29). -/
def enterNap (s : State) : State :=
  let s := resetIdlePorts s
  let s := slotReset 4 (pcieDown (resetEngine s))
  showSwmode false ((setRailOk false s 0).set F.PMU_STAT_PSTATE psNAP)

/-- The node is in READY again (R379, R382, R386) (DESIGN CHOICE: log entry 29). -/
def leaveNap (s : State) : State :=
  let s := startTime (s.set F.PMU_STAT_PSTATE psREADY)
  showSwmode true (setVnow s.startV (setBelow false 0 (setRailOk true s 0)))

/-- Every rail except those of AON is off: STANDBY. What AON, keep RAM, the flash and the fuses hold is left (R379). -/
def enterStandby (s : State) : State :=
  let g := (s.get F.HOST_SUMGEN_HI_GEN, s.get F.HOST_SUMGEN_LO_GEN)
  let t := warmBase s
  let t := (t.set F.HOST_SUMGEN_HI_GEN g.1).set F.HOST_SUMGEN_LO_GEN g.2
  let t := ((List.range 16).filter (fun r => !aonRails.contains r)).foldl (setRailOk false) t
  showSwmode false (t.set F.PMU_STAT_PSTATE psSTANDBY)

/-- Under HALT the same rails go off, and the state is held until a power cycle; the counter stops with the CLOCK domain (R242, R322,
R323). -/
def haltRailsOff (s : State) : State :=
  let t := ((List.range 16).filter (fun r => !aonRails.contains r)).foldl (setRailOk false) s
  showSwmode false ((stopTime t).set F.PMU_STAT_PSTATE psSTANDBY)

end Sys2Proof.Machine
end

