-- ==== Sys2Proof/Machine/Fcu.lean ====
section
/-!
DEFINITION. The fault collector's events and registers: configuration and lock, injection, records, the timelines of QUIET
and HALT (R311–R327).
-/
namespace Sys2Proof.Machine

/-! ## Events (R311, R312) -/

/-- FAULT_EVENT: a source drives its pair with INDEX; a failing parity bit makes it 0xFFFF (R311). SW0–SW3 are raised only by
force, and FCU_WIRE takes the class and group of the source that INDEX names (R312, R314) (DEDUCED: log entry 31). -/
def faultEvent (src idx : Nat) (parityOk : Bool) (s : State) : State :=
  let i := (if parityOk then idx else 0xFFFF) % 65536
  if 124 ≤ src then s
  else collect (raiseDeep 6) src i (if src == 121 && (srcGroup i).isSome then i else src) false s
def execFaultEvent (src idx : Nat) (parityOk : Bool) (t : Nat) (s : State) : Host.Outcome State Fault Refusal :=
  doneAon s (faultEvent src idx parityOk (s.atTime t))

/-- BROKEN_WIRE: the pair of a source has stood at 0, 0 or 1, 1 for `cycles` collector cycles (R312). -/
def execBrokenWire (src cycles t : Nat) (s : State) : Host.Outcome State Fault Refusal :=
  doneAon s (breakWire src cycles false (s.atTime t))

/-- SHADOW_END (R319). -/
def shadowEnd (g : Nat) (s : State) : State :=
  if mget 0 g s.fcu.shEnd ≤ s.now then
    { s with fcu := { s.fcu with shOpen := mdel g s.fcu.shOpen, shEnd := mdel g s.fcu.shEnd } }
  else s
def execShadowEnd (g t : Nat) (s : State) : Host.Outcome State Fault Refusal := doneAon s (shadowEnd g (s.atTime t))

/-! ## Configuration (R324, R325, R327) -/

/-- Number of a configuration word, in register order; none for another register (R324). -/
def cfgWord (o : Nat) : Option Nat :=
  if o = 4 then some 0 else if o = 8 then some 1
  else if 0x20 ≤ o && o < 0x40 then some (2 + (o - 0x20) / 4)
  else if 0x80 ≤ o && o < 0x100 then some (10 + (o - 0x80) / 4) else none

/-- Writes the classes of one FCU_CLASS register: reserved sources, 120 and 121 keep what they read (R327). -/
def wrClass (k v : Nat) (s : State) : State :=
  (List.range 16).foldl (fun u j =>
    let src := 16 * k + j
    if (srcGroup src).isNone || src == 120 || src == 121 then u else u.set (F.FCU_CLASS_CLASS k j) (v / 4 ^ j)) s

/-- An accepted configuration write: both copies and their parity (R324). -/
def putCfg (a v : Nat) (s : State) : State :=
  let o := a % 0x10000
  match cfgWord o with
  | none => s
  | some w =>
    let s := if 0x20 ≤ o && o < 0x40 then wrClass ((o - 0x20) / 4) v s else s.writeRegPlain a v
    { s with fcu := { s.fcu with copyDiff := mdel w s.fcu.copyDiff, parityBad := mdel w s.fcu.parityBad } }

/-- A configuration write by software (R325). -/
def wrCfg (a v : Nat) (s : State) : State := if s.on F.FCU_STAT_LOCKED then s.set F.FCU_STAT_CFGWR 1 else putCfg a v s

/-- A write of FCU_LOCK (R325). -/
def wrFcuLock (v : Nat) (s : State) : State :=
  if bits 31 16 v == keyA55A && bitOf v 0 then
    if s.on F.FCU_STAT_LOCKED then s.set F.FCU_STAT_LOCKWR 1 else s.set F.FCU_STAT_LOCKED 1
  else s
def execConfigLock (m v : Nat) (s : State) : Host.Outcome State Fault Refusal := done s (guarded m A.FCU_LOCK (wrFcuLock v) s)

/-- CONFIG_CHECK_FAIL (R324): the copies of word `w` differ in the bits of `diff`, or a parity bit fails. -/
def configFail (w diff : Nat) (parity : Bool) (s : State) : State :=
  if 42 ≤ w || (diff % 2 ^ 32 == 0 && !parity) then s
  else
    let s := { s with fcu := { s.fcu with copyDiff := mset 0 w (diff % 2 ^ 32) s.fcu.copyDiff
                                          parityBad := mset false w parity s.fcu.parityBad } }
    raiseF 120 w s
def execConfigCheckFail (w diff : Nat) (parity : Bool) (t : Nat) (s : State) : Host.Outcome State Fault Refusal :=
  doneAon s (configFail w diff parity (s.atTime t))

/-! ## Injection (R326) -/

/-- Injects on source `src`. A forced FCU_WIRE takes the class and group of the source that INDEX names (R312)
(DEDUCED: log entry 31). -/
def forceOne (s : State) (src : Nat) : State :=
  if s.on F.FCU_STAT_LOCKED && 2 ≤ s.classOf src then s
  else if s.on F.FCU_FORCE_CFG_WIRE then breakWire src 8 true s
  else
    let i := s.get F.FCU_FORCE_CFG_INDEX
    collect (raiseDeep 6) src i (if src == 121 && (srcGroup i).isSome then i else src) true s

/-- A write of FCU_FORCEk: each bit reads 1 only until its injection, which is made in this step. -/
def wrForce (k v : Nat) (s : State) : State :=
  if !s.on F.FCU_FORCE_CFG_EN then s
  else ((List.range 32).filter (fun j => bitOf v j)).foldl (fun u j => forceOne u (32 * k + j)) s
def execFaultForce (m k v : Nat) (s : State) : Host.Outcome State Fault Refusal :=
  done s (guarded m (A.FCU_FORCE k) (wrForce k v) s)

/-! ## Records (R318, R327) -/

/-- RECORD_READ: the read of FCU_REC0. -/
def recordRead (s : State) : Nat × State :=
  match s.fcu.recs with
  | [] => (0, s)
  | r :: l =>
    let w := recWords r
    let s := { s with fcu := { s.fcu with recs := l } }.set F.FCU_REC_STAT_COUNT l.length
    (w.getD 0 0 + 32768, [0, 1, 2].foldl (fun u j => u.set (F.FCU_REC1_WORD j) (w.getD (j + 1) 0)) s)
def execRecordRead (m : Nat) (s : State) : Host.Outcome State Fault Refusal := doneRead m A.FCU_REC0 s (guardedRead m A.FCU_REC0 recordRead s)

/-! ## The end of audio transmission (R320, R322, R350) -/

/-- The FLATLINE has left TWINMAC queue 7 (DEDUCED: log entry 24). -/
def State.flatlineGone (s : State) : Bool := s.tlink != tlOFF && s.portUp 4 && (s.portS 4).txq.all (fun f => f.q != 7)

/-- AUDIO_STOP: at the egress of the FLATLINE, or 1 µs after the latch. In HALT the clock outputs and serial balls hold, triggers
disarm, TTRIG goes low and SAFE_N is asserted; the flush that follows begins with an HOURS record (R341) (DEDUCED: log entry 55). -/
def audioStop (s : State) : State :=
  let due := fun (o : Option Nat) => match o with | some x => decide (x + uUs ≤ s.now) || s.flatlineGone | none => false
  let s := if !s.fcu.audioStopped && (due s.fcu.quietAt || due s.fcu.haltAt || due s.pmu.fallAt) then
      zeroSerial (stopAudio { s with fcu := { s.fcu with audioStopped := true } })
    else s
  if due s.fcu.haltAt && !s.fcu.pinsHold then
    let s := if s.ligRuns then hoursRecord false s else s
    haltTime (holdPp { s with fcu := { s.fcu with pinsHold := true }, sys := { s.sys with safeN := true } })
  else s
def execAudioStop (t : Nat) (s : State) : Host.Outcome State Fault Refusal := doneAon s (audioStop (s.atTime t))

/-! ## Recovery from QUIET (R321) -/

/-- The always-on seconds counter (R398). -/
def State.aonSec (s : State) : Nat := (s.now - s.pmu.aonAt) / uS

/-- Automatic restarts within the last 600 s (DEDUCED: log entry 56). -/
def State.recentRestarts (s : State) : List Nat := s.fcu.restarts.filter (fun r => s.aonSec ≤ r + 600)
def showRestarts (s : State) : State :=
  let l := s.recentRestarts
  { s with fcu := { s.fcu with restarts := l } }.set F.FCU_STAT_QRESTARTS (min 15 l.length)

/-- QRESTART_AGE. -/
def execQrestartAge (t : Nat) (s : State) : Host.Outcome State Fault Refusal := doneAon s (showRestarts (s.atTime t))

/-- A FAULT record of a QUIET waits to be committed. -/
def State.quietRecordOpen (s : State) : Bool :=
  (s.lig.queued ++ s.lig.pend ++ s.lig.waiting).any (fun r => r.type == jFAULT && jByte r 1 / 4 % 4 == 2)

/-- DELAY_MS within its limits. -/
def State.quietDelay (s : State) : Nat := max 10 (min 60000 (s.get F.FCU_QUIET_CFG_DELAY_MS)) * uMs

/-- QUIET_AUTO_RESTART (DEDUCED: log entry 56). -/
def quietRestart (s : State) : State :=
  match s.fcu.quietAt with
  | none => s
  | some q =>
    if s.fcuState != 1 || !s.fcu.autoDue || !s.on F.FCU_QUIET_CFG_AUTO || s.now < q + s.quietDelay || s.quietRecordOpen then s
    else
      let s := showRestarts s
      if max 1 (s.get F.FCU_QUIET_CFG_QUIET_MAX) ≤ s.fcu.restarts.length then
        { s.set F.FCU_STAT_AUTOSUP 1 with fcu := { s.fcu with autoDue := false } }
      else
        let s := { s with fcu := { s.fcu with restarts := s.fcu.restarts ++ [s.aonSec] } }
        warmRestart F.SYS_RESET_CAUSE_QUIET_EXIT (showRestarts s)
def execQuietAutoRestart (t : Nat) (s : State) : Host.Outcome State Fault Refusal := doneAon s (quietRestart (s.atTime t))

/-! ## The end of HALT's flush (R322) -/

/-- HALT_FLUSH_DONE: the domain clocks stop; for PMU_OV, PMU_SEQ and THERM_CRIT the rails go off. -/
def haltFlushDone (s : State) : State :=
  match s.fcu.haltAt with
  | none => s
  | some h =>
    let empty := s.lig.pend.isEmpty && s.lig.queued.isEmpty && s.lig.waiting.isEmpty && s.lig.hkWait.isEmpty
    if s.fcu.stopped || !(empty || h + 100 * uMs ≤ s.now) then s
    else
      let s := { s with fcu := { s.fcu with stopped := true } }
      if s.fcu.haltSrc == 89 || s.fcu.haltSrc == 91 || s.fcu.haltSrc == 95 then haltRailsOff s else s
def execHaltFlushDone (t : Nat) (s : State) : Host.Outcome State Fault Refusal := doneAon s (haltFlushDone (s.atTime t))

/-- A write of an FCU register (R327). -/
def wrFCU (a v : Nat) (s : State) : State :=
  let o := a % 0x10000
  if (cfgWord o).isSome then wrCfg a v s
  else if o == 0xC then wrFcuLock v s
  else if 0x50 ≤ o && o < 0x60 then wrForce ((o - 0x50) / 4) v s
  else s.writeRegPlain a v

end Sys2Proof.Machine
end

