-- ==== Sys2Proof/Machine/Pmu.lean ====
section
/-!
DEFINITION. Power states, wakes, rails, adaptive voltage, the monitor round and the registers of the PMU (R350, R378–R391,
R398, R403–R405).
-/
namespace Sys2Proof.Machine

/-! ## Requests (R380) -/

/-- Results of PMU_STAT. -/
def pqDONE : Nat := 1
def pqREJSTATE : Nat := 2
def pqREJBUSY : Nat := 3
def pqREJPAIRED : Nat := 4
def pqREJTARGET : Nat := 5

/-- Latches the source of a wake (R381). -/
def latchWake (b : Nat) (s : State) : State := (s.set F.PMU_WAKE_VALID 1).set F.PMU_WAKE_SRC (2 ^ b)

/-- A transition to `k` begins (R379). -/
def startTransition (k : Nat) (s : State) : State :=
  { s.set F.PMU_STAT_BUSY 1 with pmu := { s.pmu with target := some (k, s.now) } }

/-- What a request for state `k` ends in: a result, or acceptance (DESIGN CHOICE: log entry 13). -/
def State.requestResult (s : State) (k : Nat) : Option Nat :=
  let halt := s.fcuState == 2
  let from_ := s.pstate
  if k == from_ && !halt then some pqDONE
  else if !(k == psSTANDBY || k == psNAP || k == psREADY) then some pqREJTARGET
  else if from_ == psSHOW || halt || (k == psNAP && from_ == psSTANDBY) then some pqREJSTATE
  else if s.on F.PMU_STAT_BUSY || s.sys.apply != .idle || s.on F.RVC_STAT_STARTED then some pqREJBUSY
  else if (k == psSTANDBY || k == psNAP) && s.paired then some pqREJPAIRED
  else none

/-- A write of PMU_PSTATE_REQ. A request READY that acts in NAP is wake source 4 (DEDUCED: log entry 34). -/
def wrPstateReq (v : Nat) (s : State) : State :=
  if !(bits 31 16 v == keyA55A && bitOf v 0) then s
  else
    let k := bits 3 1 v
    match s.requestResult k with
    | some r => s.set F.PMU_STAT_RESULT r
    | none => startTransition k (if k == psREADY then latchWake 4 s else s)

/-- The word of a request with TARGET `k`. -/
def withTarget (k v : Nat) : Nat := v - 2 * bits 3 1 v + 2 * k
def execRequestStandby (m v : Nat) (s : State) : Host.Outcome State Fault Refusal :=
  done s (guarded m A.PMU_PSTATE_REQ (wrPstateReq (withTarget psSTANDBY v)) s)
def execRequestNap (m v : Nat) (s : State) : Host.Outcome State Fault Refusal :=
  done s (guarded m A.PMU_PSTATE_REQ (wrPstateReq (withTarget psNAP v)) s)
def execRequestReady (m v : Nat) (s : State) : Host.Outcome State Fault Refusal :=
  done s (guarded m A.PMU_PSTATE_REQ (wrPstateReq (withTarget psREADY v)) s)

/-! ## Wakes (R381) -/

/-- Wake source `b` acts from power state `p`. -/
def actsFrom (b p : Nat) : Bool :=
  if p == psSTANDBY then b ≤ 2 else p == psNAP && (b ≤ 1 || b == 3 || b == 4)

/-- The device wakes from the state it is in (R379, R382). -/
def wakeNow (b : Nat) (s : State) : State :=
  let s := latchWake b s
  if s.pstate == psSTANDBY then warmRestart (if b == 0 then F.SYS_RESET_CAUSE_PIN else F.SYS_RESET_CAUSE_SW) s
  else startTransition psREADY s

/-- A wake source becomes active. One that arrives during an entry to NAP or STANDBY, also that of an input fall, waits for its end
(R379) (DEDUCED: log entry 34). -/
def wakeSource (b : Nat) (s : State) : State :=
  if !s.bit F.PMU_WAKE_EN_EN b || s.fcuState == 2 || s.sys.off || s.sys.testMode then s
  else match s.pmu.fallAt.map (fun _ => (psSTANDBY, 0)) |>.or s.pmu.target with
    | some (k, _) => if actsFrom b k && s.pmu.woken.isNone then { s with pmu := { s.pmu with woken := some b } } else s
    | none => if actsFrom b s.pstate && !s.booting then wakeNow b s else s

/-- WAKE_N: a falling edge held for 1 ms. -/
def execWakeN (t : Nat) (s : State) : Host.Outcome State Fault Refusal := doneAon s (wakeSource 0 (s.atTime t))

/-- ALARM: PMU_AON_SEC reaches PMU_ALARM, once for each value written. -/
def alarm (s : State) : State :=
  if !s.pmu.alarmed && s.get F.PMU_ALARM_SEC ≤ s.aonSec then
    wakeSource 1 { s with pmu := { s.pmu with alarmed := true } }
  else s
def execAlarm (t : Nat) (s : State) : Host.Outcome State Fault Refusal := doneAon s (alarm (s.atTime t))

/-- SPI_WAKE: HS_CS_N low for 10 µs. -/
def execSpiWake (t : Nat) (s : State) : Host.Outcome State Fault Refusal := doneAon s (wakeSource 2 (s.atTime t))

/-- LINK_WAKE: wake port `p` has reached UP. -/
def linkWake (p : Nat) (s : State) : State :=
  if p < 4 && s.bit F.PMU_WAKE_EN_WAKE_PORTS p && s.portUp p then wakeSource 3 s else s
def execLinkWake (p t : Nat) (s : State) : Host.Outcome State Fault Refusal := doneAon s (linkWake p (s.atTime t))

/-! ## The end of a transition (R379, R382) -/

/-- No pending record is left to commit; a stopped engine commits none (R351). -/
def State.journalSettled (s : State) : Bool := s.lig.pend.isEmpty || s.ligState == lgSTOPPED

/-- A transition is over: DONE, and the exit for a wake that came meanwhile (DEDUCED: log entry 34). -/
def transitionEnd (woken : Option Nat) (s : State) : State :=
  let s := { (s.set F.PMU_STAT_BUSY 0).set F.PMU_STAT_RESULT pqDONE with pmu := { s.pmu with target := none, woken := none } }
  match woken with
  | some b => wakeNow b s
  | none => s

/-- PSTATE_TRANSITION_DONE, also of the shutdown after an input fall. -/
def pstateDone (s : State) : State :=
  if s.fcuState == 2 || s.sys.pinHeld then s
  else if s.pmu.fallAt.isSome then
    if s.journalSettled then
      let w := s.pmu.woken
      let s := enterStandby { s with pmu := { s.pmu with fallAt := none } }
      match w with | some b => wakeNow b s | none => s
    else s
  else match s.pmu.target with
    | none => s
    | some (k, _) =>
      if k == psSTANDBY then (if s.journalSettled then transitionEnd s.pmu.woken (enterStandby s) else s)
      else if k == psNAP then transitionEnd s.pmu.woken (enterNap s)
      else transitionEnd none (leaveNap s)
def execPstateTransitionDone (t : Nat) (s : State) : Host.Outcome State Fault Refusal := doneAon s (pstateDone (s.atTime t))

/-! ## Rails (R384, R385) -/

/-- The supply switches rail `r` on in the state in force; VFUSE stays off outside a burn. -/
def State.railOn (s : State) (r : Nat) : Bool :=
  if r == 13 || 16 ≤ r || s.sys.off then false
  else if aonRails.contains r then true
  else s.pmu.started.any (fun e => e.1 == r) && (if r == 0 then psREADY ≤ s.domains else psNAP ≤ s.domains)

/-- Every rail of the sequence is in regulation (R385). -/
def State.railsUp (s : State) : Bool := s.get F.PMU_RAILOK_OK == 0xDFFF

/-- With every rail up the housekeeper goes on: on-die memories are clear, the PLLs start on the XO and TIME with them, and the hold-up
measurement is due after a power-on reset (R242, R337, R349, R388) (DEDUCED: log entry 33). -/
def bootRails (s : State) : State :=
  if s.sys.boot == .rails && s.railsUp then
    let s := { s with sys := { s.sys with boot := .scan, holdDue := s.sys.holdDue || !s.sys.warmBoot } }
    showSwmode true (if s.time.on then s else startTime s)
  else s

/-- RAIL_UNDERVOLTAGE: the comparator of a rail that had passed 94 % has seen it below for 1 µs. -/
def railUnder (r : Nat) (s : State) : State :=
  if s.railOn r && !s.pmu.below.contains r then raiseF 88 r (setBelow true r ((setRailOk false s r).set (F.PMU_RAIL_UV r) 1)) else s
def execRailUndervoltage (r t : Nat) (s : State) : Host.Outcome State Fault Refusal := doneAon s (railUnder r (s.atTime t))

/-- RAIL_OVERVOLTAGE: above 110 %. -/
def railOver (r : Nat) (s : State) : State :=
  if s.railOn r then raiseF 89 r (setBelow false r ((setRailOk false s r).set (F.PMU_RAIL_OV r) 1)) else s
def execRailOvervoltage (r t : Nat) (s : State) : Host.Outcome State Fault Refusal := doneAon s (railOver r (s.atTime t))

/-! ## Adaptive voltage (R386) -/

/-- VMIN and VMAX as they act (R398). -/
def State.vmin (s : State) : Nat := max 600 (min 850 (s.get F.PMU_AVS_VMIN))
def State.vmax (s : State) : Nat := max s.vmin (min 850 (s.get F.PMU_AVS_VMAX))

/-- The loop runs: EN = 1, and VDD_ENG is on. -/
def State.avsRuns (s : State) : Bool := s.on F.PMU_AVS_EN && s.railOn 0 && !s.fcu.stopped

/-- Moves the target of VDD_ENG, within its limits. -/
def avsTo (v : Nat) (s : State) : State := setVnow (max s.vmin (min s.vmax v)) s

/-- AVS_STEP: 5 mV up, or down, towards the margin that the monitors report (DEDUCED: log entry 32). -/
def avsStep (up : Bool) (s : State) : State :=
  let v := s.get F.PMU_AVS_STAT_VNOW
  if s.avsRuns then avsTo (if up then v + 5 else v - 5) s else s
def execAvsStep (up : Bool) (t : Nat) (s : State) : Host.Outcome State Fault Refusal := doneAon s (avsStep up (s.atTime t))

/-- AVS_EMERGENCY: 25 mV up at once (DEDUCED: log entry 32). -/
def avsEmergency (s : State) : State :=
  if s.avsRuns then (avsTo (s.get F.PMU_AVS_STAT_VNOW + 25) s).incSat F.PMU_AVS_STAT_EMERG else s
def execAvsEmergency (t : Nat) (s : State) : Host.Outcome State Fault Refusal := doneAon s (avsEmergency (s.atTime t))

/-! ## The monitor round (R390) -/

/-- A rail that reads within its window again is in regulation. -/
def railsAgain (rails : List Nat) (s : State) : State :=
  (List.range 16).foldl (fun u r =>
    let x := rails.getD r 0
    let g := u.get (F.PMU_RAIL_TARGET r)
    if u.railOn r && !u.on (F.PMU_RAIL_OK r) && 94 * g ≤ 100 * x && 100 * x ≤ 110 * g then setBelow false r (setRailOk true u r) else u) s

/-- ADC_ROUND (R390, R391, R341) (DEDUCED: log entry 4). -/
def execAdcRound (rails : List Nat) (vin vhold : Nat) (temps : List Nat) (bandgap : Bool) (t : Nat) (s : State) :
    Host.Outcome State Fault Refusal :=
  doneAon s (bootRails (railsAgain rails (adcRound rails vin vhold temps bandgap (accrue (s.atTime t)))))

/-! ## The 12 V input (R350) -/

/-- INPUT_FALL: VIN below FALL for 10 µs. A HALT holds its state (R379) (DEDUCED: log entry 34). -/
def inputFall (s : State) : State :=
  if s.fcuState == 2 || s.pmu.fallAt.isSome || s.sys.off || (s.pstate == psSTANDBY && !s.booting) then s
  else
    let s := raiseF 92 0 s
    let s := { s.set F.PMU_STAT_BUSY 0 with pmu := { s.pmu with fallAt := some s.now, target := none, woken := none } }
    let s := queueFlatline 2 92 s
    let s := if s.ligState == lgSTOPPED then s else s.set F.LIG_STAT_STATE lgFLUSH
    let s := setLig (fun l => { l with queued := [], waiting := [], flush := true }) s
    hoursRecord true s
def execInputFall (t : Nat) (s : State) : Host.Outcome State Fault Refusal := doneAon s (inputFall (s.atTime t))

/-- INPUT_RECOVER: above RISE for 100 ms before the rails collapse, a power-on reset (R350). -/
def inputRecover (s : State) : State :=
  match s.pmu.fallAt with
  | some f => if f + 100 * uMs ≤ s.now then coldState s else s
  | none => s
def execInputRecover (t : Nat) (s : State) : Host.Outcome State Fault Refusal :=
  .next (inputRecover (s.atTime t))

/-! ## Registers (R398, R403) -/

/-- A write of PMU_PAD_CFG of pad `i`: fields that R404 fixes ignore it, and so does FILT the value 7 (DESIGN CHOICE:
log entry 38). -/
def wrPad (i v : Nat) (s : State) : State :=
  if 215 ≤ i then s
  else
    let inFixed := i == 198 || i == 200 || i == 214
    let s := if i == 199 then s else s.set (F.PMU_PAD_CFG_DRIVE i) (bits 1 0 v)
    let s := s.set (F.PMU_PAD_CFG_SLEW i) (bits 3 2 v)
    let s := if i == 199 || inFixed then s else s.set (F.PMU_PAD_CFG_PULL i) (bits 7 6 v)
    if inFixed || bits 11 9 v == 7 then s else s.set (F.PMU_PAD_CFG_FILT i) (bits 11 9 v)

/-- A write of a PMU register. -/
def wrPMU (a v : Nat) (s : State) : State :=
  let o := a % 0x10000
  if o == 4 then wrPstateReq v s
  else if o == 0x18 then
    { s.writeRegPlain a v with pmu := { s.pmu with alarmed := decide (v % 2 ^ 32 ≤ s.aonSec) } }
  else if o == 0x20 then showSwmode (psREADY ≤ s.domains) (s.writeRegPlain a v)
  else if o == 0x2C then s.writeRegPlain a (withBit (withBit (withBit v 0 true) 3 true) 5 true)
  else if o == 0x34 then (if bits 31 16 v < bits 15 0 v then s.writeRegPlain a v else s)
  else if o == 0x404 then wrPad (a / 2 ^ 32) v s
  else s.writeRegPlain a v

end Sys2Proof.Machine
end

