-- ==== Sys2Proof/Machine/Boot.lean ====
section
/-!
DEFINITION. The boot: power-good, the rail sequence, the manifest, the slot, the configuration, the hold-up measurement and the
voice images (R21, R328–R338, R349).
-/
namespace Sys2Proof.Machine

/-- The boot stands at step `p` and goes on. -/
def State.bootAt (s : State) (p : BootPh) : Bool :=
  s.sys.boot == p && !s.sys.pinHeld && !s.sys.off && s.fcuState != 2 && s.pmu.fallAt.isNone
def setBoot (p : BootPh) (s : State) : State := { s with sys := { s.sys with boot := p } }

/-! ## Power-good, the XO and the rails (R337, R385) -/

/-- POWER_GOOD: the origin P. -/
def powerGood (s : State) : State :=
  if s.pstate == psSTANDBY && s.bootAt .none && s.pmu.started.isEmpty && !s.sys.testMode then
    let s := startRails s
    { s with sys := { s.sys with boot := .xo, warmBoot := false } }
  else s
def execPowerGood (t : Nat) (s : State) : Host.Outcome State Fault Refusal := doneAon s (powerGood (s.atTime t))

/-- XO_CHECK: `ok` when the XO lies within 1,000 ppm. -/
def xoCheck (ok : Bool) (s : State) : State :=
  if !s.bootAt .xo then s
  else if ok then { s with sys := { s.sys with boot := .rails, safeN := false } }
  else raiseF 80 0 s
def execXoCheck (ok : Bool) (t : Nat) (s : State) : Host.Outcome State Fault Refusal := doneAon s (xoCheck ok (s.atTime t))

/-- The steps of the sequence: instant after P in ms, and rails. -/
def railSteps : List (Nat × List Nat) :=
  [(5, [1]), (10, [4, 15]), (15, [2]), (20, [3]), (25, [0]), (30, [8, 9, 10, 11, 12])]

/-- Rail `r` may start: its instant has come, the rails of every earlier step have started, and the sequence goes on. -/
def State.railDue (s : State) (r : Nat) : Bool :=
  let has := fun (k : Nat) => s.pmu.started.any (fun e => e.1 == k)
  match railSteps.find? (fun e => e.2.contains r) with
  | some (ms, _) =>
    !s.pmu.seqStop && !has r && s.pmu.origin + ms * uMs ≤ s.now
    && railSteps.all (fun e => ms ≤ e.1 || e.2.all has)
  | none => false

/-- RAIL_START: `passes` tells whether the rail passes 94 % of its target within 5 ms. -/
def railStart (r : Nat) (passes : Bool) (s : State) : State :=
  if (s.bootAt .xo || s.bootAt .rails) && s.railDue r then
    let s := { s with pmu := { s.pmu with started := s.pmu.started ++ [(r, s.now)] } }
    let s := if r == 0 then setVnow s.startV s else s
    bootRails (if passes then setRailOk true s r else setBelow true r s)
  else s
def execRailStart (r : Nat) (passes : Bool) (t : Nat) (s : State) : Host.Outcome State Fault Refusal :=
  doneAon s (railStart r passes (s.atTime t))

/-- RAIL_SEQ_TIMEOUT. -/
def railTimeout (r : Nat) (s : State) : State :=
  if (s.bootAt .xo || s.bootAt .rails) && !s.pmu.seqStop && !s.on (F.PMU_RAIL_OK r)
      && s.pmu.started.any (fun e => e.1 == r && e.2 + 5 * uMs ≤ s.now) then
    raiseF 91 r { s with pmu := { s.pmu with seqStop := true } }
  else s
def execRailSeqTimeout (r t : Nat) (s : State) : Host.Outcome State Fault Refusal := doneAon s (railTimeout r (s.atTime t))

/-! ## DRAM and the journal (R337, R342) -/

/-- The boot is past the rails and not over. -/
def State.bootPastRails (s : State) : Bool :=
  !(s.bootAt .none || s.bootAt .xo || s.bootAt .rails) && s.bootAt s.sys.boot

/-- DRAM_TRAINING_DONE. -/
def dramDone (s : State) : State :=
  if s.bootPastRails && !s.sys.dramReady then
    let s := s.clearMem (fun a => dramBase ≤ a)
    { s with sys := { s.sys with dramReady := true } }
  else s
def execDramTrainingDone (t : Nat) (s : State) : Host.Outcome State Fault Refusal := doneAon s (dramDone (s.atTime t))

/-- JOURNAL_SCAN: the live state, and the fences it restores before any core is loaded. -/
def bootScan (s : State) : State :=
  if s.bootAt .scan then
    let s := journalScan s
    setBoot .choose (resetMap { s with disp := { s.disp with fenceTl := [] } })
  else s
def execJournalScan (t : Nat) (s : State) : Host.Outcome State Fault Refusal := doneAon s (bootScan (s.atTime t))

/-! ## The manifest (R329, R330) -/

/-- A field of `n` bytes at offset `o` of a structure read as bytes. -/
def fieldL (l : List Byte) (o n : Nat) : Nat := leNat ((l.drop o).take n)

/-- Manifest copy `c`. -/
def State.manifest (s : State) (c : Nat) : List Byte := s.fbytes (0x10000 * c) 4096

/-- The key under which a 4,096-byte structure is accepted (R329, R334). -/
def State.signedBy (s : State) (l : List Byte) : Option Nat :=
  s.accepts ((l.drop 3968).take 64) (sha256 (l.take 4032)) ((l.drop 4032).take 64)

def State.manifestOk (s : State) (c : Nat) : Bool :=
  let l := s.manifest c
  fieldL l 0 4 == 0x96324D46 && fieldL l 4 2 == 1 && fieldL l 6 2 == 4096 && (s.signedBy l).isSome

/-- The copy the housekeeper takes (R330). -/
def State.manifestCopy (s : State) : Option Nat :=
  match s.manifestOk 0, s.manifestOk 1 with
  | true, true => some (if serAfter 32 (fieldL (s.manifest 1) 8 4) (fieldL (s.manifest 0) 8 4) then 1 else 0)
  | true, false => some 0
  | false, true => some 1
  | false, false => none

/-! ## The slot directory (R331) -/

def slotFlash (k : Nat) : Nat := if k == 0 then 0x100000 else 0x3100000
def State.directory (s : State) (k : Nat) : List Byte := s.fbytes (slotFlash k) 4096

/-- An entry of a directory: TYPE, ARG, OFFSET, LENGTH and DIGEST. -/
structure DirEntry where
  type   : Nat
  arg    : Nat
  offset : Nat
  length : Nat
  digest : List Byte

/-- Entry types. -/
def dtCCFW : Nat := 1
def dtVOICE : Nat := 2
def dtHOSTKEYS : Nat := 3
def dtCAL : Nat := 4

def dirEntries (l : List Byte) : List DirEntry :=
  (List.range (fieldL l 6 2)).map (fun e =>
    ⟨fieldL l (16 + 48 * e) 1, fieldL l (17 + 48 * e) 1, fieldL l (20 + 48 * e) 4, fieldL l (24 + 48 * e) 4,
     (l.drop (32 + 48 * e)).take 32⟩)

/-- The form of a directory: magic, version, entry count, size, types, extents, one CCFW, no section twice. -/
def dirForm (l : List Byte) : Bool :=
  fieldL l 0 4 == 0x9632534C && fieldL l 4 2 == 1 && 1 ≤ fieldL l 6 2 && fieldL l 6 2 ≤ 64 && fieldL l 12 4 ≤ 0x3000000
  && (let es := dirEntries l
      es.all (fun e => 1 ≤ e.type && e.type ≤ 4 && e.offset + e.length ≤ fieldL l 12 4)
      && es.countP (fun e => e.type == dtCCFW) == 1
      && (List.range 256).all (fun a => es.countP (fun e => e.type == dtVOICE && e.arg == a) ≤ 1))

/-- Causes of a rollback (SEC_STAT.RBCAUSE). -/
def rbAUTH : Nat := 1
def rbFLOOR : Nat := 2
def rbTRIES : Nat := 3
def rbDIRECTORY : Nat := 4

/-- GEN the manifest `m` names for slot `k`. -/
def manGen (m : List Byte) (k : Nat) : Nat := fieldL m (16 + 4 * k) 4

/-- Why the directory of slot `k` is refused, 0 for accepted (R331, R334, R335) (DEDUCED: log entry 35). -/
def State.dirCause (s : State) (m : List Byte) (k : Nat) : Nat :=
  let l := s.directory k
  let g := fieldL l 8 4
  if (s.signedBy l).isNone then rbAUTH
  else if g / 2 ^ 24 < s.get F.SEC_FUSE_FLOOR then rbFLOOR
  else if !dirForm l || g != manGen m k then rbDIRECTORY else 0

/-! ## BOOT records (R336, R341) -/

/-- The body of a BOOT record. -/
def State.bootBody (s : State) (slot flags trials gen : Nat) : List Byte :=
  let (rs, rg) := s.boot.refused.getD (0xFF, 0)
  leBytes 1 slot ++ leBytes 1 flags ++ leBytes 1 trials ++ leBytes 1 (s.get F.SEC_STAT_RBCAUSE) ++ leBytes 4 gen
    ++ leBytes 1 rs ++ [0, 0, 0] ++ leBytes 4 rg ++ leBytes 4 (s.wordOf (fieldsAt A.SYS_RESET_CAUSE))
    ++ leBytes 2 (s.get F.SEC_STAT_FAILSEC) ++ leBytes 2 (s.get F.LIG_BUDGET_BYTES)

/-- The latest BOOT record. -/
def State.lastBoot (s : State) : Option (List Byte) := (s.lig.live.find? (fun r => r.type == jBOOT)).map (·.body)

/-- TRIALS of this boot (R336). -/
def State.trialsFor (s : State) (slot gen : Nat) : Nat :=
  match s.lastBoot with
  | some b => if fieldL b 0 1 == slot && fieldL b 4 4 == gen && fieldL b 1 1 % 2 == 0 then min 255 (fieldL b 2 1 + 1) else 1
  | none => 1

/-! ## Choosing the slot (R335) -/

/-- Entry to RECOVERY: SAFE_N, and the BOOT record of a boot of no slot. -/
def enterRecovery (s : State) : State :=
  let s := ((s.set F.SEC_STAT_RECOVERY 1).set F.PMU_STAT_PSTATE psREADY).set F.PMU_STAT_BUSY 0
  let s := setBoot .recovery { s with sys := { s.sys with safeN := true } }
  let (a, s) := s.draw
  let (g, s) := s.draw
  journal jBOOT (s.bootBody (a % 256) 4 (s.trialsFor (a % 256) (g % 2 ^ 32)) (g % 2 ^ 32)) s

/-- Slot `k` is the one to boot; `act` is the manifest's. -/
def takeSlot (m : List Byte) (act k cause : Nat) (s : State) : State :=
  let l := s.directory k
  let g := fieldL l 8 4
  let s := ((s.set F.SEC_STAT_SLOT k).set F.SEC_STAT_ROLLBACK (decide (k ≠ act)).toNat).set F.SEC_STAT_RBCAUSE cause
  let s := (s.set F.SEC_STAT_TRIAL (k == act && bitOf (fieldL m 12 1) 1).toNat).set F.SEC_STAT_KEY ((s.signedBy l).getD 0)
  let r := if k == act then none else some (act, manGen m act)
  setBoot .directory
    { s.set F.SEC_BOOT_GEN_GEN g with boot := { s.boot with slot := k, refused := r, trials := s.trialsFor k g } }

/-- A slot whose directory fails gives way to the other; a second failure enters RECOVERY. -/
def trySlots (m : List Byte) (act k cause : Nat) (s : State) : State :=
  let c := s.dirCause m k
  if c == 0 then takeSlot m act k cause s
  else if k != act then enterRecovery (s.set F.SEC_STAT_RBCAUSE cause)
  else if s.dirCause m (1 - act) == 0 then takeSlot m act (1 - act) c s
  else enterRecovery (s.set F.SEC_STAT_RBCAUSE c)

/-- SLOT_CHOOSE (R330, R335). -/
def slotChoose (s : State) : State :=
  if !s.bootAt .choose then s
  else match s.manifestCopy with
    | none => enterRecovery s
    | some c =>
      let s := { s with boot := { s.boot with copy := c + 1 } }
      let m := s.manifest c
      let act := fieldL m 12 1 % 2
      let gen := manGen m act
      let b := s.lastBoot.getD []
      let has := s.lastBoot.isSome
      if has && fieldL b 8 1 == act && fieldL b 12 4 == gen then trySlots m act (1 - act) (fieldL b 3 1) s
      else if has && bitOf (fieldL m 12 1) 1 && fieldL b 0 1 == act && fieldL b 4 4 == gen && fieldL b 1 1 % 2 == 0
          && fieldL m 13 1 ≤ fieldL b 2 1 then trySlots m act (1 - act) rbTRIES s
      else trySlots m act act 0 s
def execSlotChoose (t : Nat) (s : State) : Host.Outcome State Fault Refusal := doneAon s (slotChoose (s.atTime t))

/-! ## The entries (R331) -/

/-- The manifest of this boot. -/
def State.bootManifest (s : State) : List Byte := s.manifest (s.boot.copy - 1)

/-- The bytes of an entry of the slot booted. -/
def State.entryBytes (s : State) (e : DirEntry) : List Byte := s.fbytes (slotFlash s.boot.slot + e.offset) e.length

/-- The entries of the slot booted with one type. -/
def State.entriesOf (s : State) (t : Nat) : List DirEntry := (dirEntries (s.directory s.boot.slot)).filter (fun e => e.type == t)

def State.entryOk (s : State) (e : DirEntry) : Bool := sha256 (s.entryBytes e) == e.digest

/-- HOSTKEYS: the four Host Channel keys, or KEYERR (DEDUCED: log entry 35). -/
def loadHostKeys (s : State) (e : DirEntry) : State :=
  let b := s.entryBytes e
  let gen := leBytes 4 (s.get F.SEC_BOOT_GEN_GEN)
  let plain := if e.length == 156 then Config.unwrapKeys (b.take 12) gen ((b.drop 12).take 128) (b.drop 140) else none
  match plain with
  | some p =>
    let keys := [0, 1, 2, 3].map (fun n => (p.drop (32 * n)).take 32)
    { (s.set F.HOST_STAT_CHAN_OPEN 1).set F.SEC_STAT_KEYERR 0 with boot := { s.boot with keys := keys } }
  | none => { (s.set F.HOST_STAT_CHAN_OPEN 0).set F.SEC_STAT_KEYERR 1 with boot := { s.boot with keys := [] } }

/-- DIRECTORY_CHECK: the entries that are loaded here must have their digests; a slot whose entries do not fails like its
directory (R335) (DEDUCED: log entry 35). -/
def directoryCheck (s : State) : State :=
  if !(s.bootAt .directory && s.sys.dramReady) then s
  else
    let es := [dtCCFW, dtCAL, dtHOSTKEYS].flatMap s.entriesOf
    let m := s.bootManifest
    let act := fieldL m 12 1 % 2
    if !es.all s.entryOk then
      if s.boot.slot != act then enterRecovery s
      else if s.dirCause m (1 - act) == 0 then takeSlot m act (1 - act) rbDIRECTORY s
      else enterRecovery (s.set F.SEC_STAT_RBCAUSE rbDIRECTORY)
    else
      let body := ([dtCCFW, dtCAL].flatMap s.entriesOf).flatMap s.entryBytes
      let s := s.setBytes 0x1D0000000 body
      setBoot .config ((s.entriesOf dtHOSTKEYS).foldl loadHostKeys s)
def execDirectoryCheck (t : Nat) (s : State) : Host.Outcome State Fault Refusal := doneAon s (directoryCheck (s.atTime t))

/-! ## Configuration (R21, R337) -/

/-- The register of FCU configuration word `j` (R329). -/
def cfgAddr (j : Nat) : Nat :=
  if j == 0 then A.FCU_CTRL else if j == 1 then A.FCU_QUIET_CFG else if j < 10 then A.FCU_CLASS (j - 2) else A.FCU_DEP (j - 10)

/-- FLAGS of this boot's BOOT records. -/
def State.bootFlags (s : State) : Nat :=
  s.get F.SEC_STAT_CONFIRMED + 2 * s.get F.SEC_STAT_ROLLBACK + 4 * s.get F.SEC_STAT_RECOVERY

/-- BOOT_CONFIGURATION. -/
def bootConfig (s : State) : State :=
  if !s.bootAt .config then s
  else
    let m := s.bootManifest
    let s := (List.range 42).foldl (fun u j => putCfg (cfgAddr j) (fieldL m (32 + 4 * j) 4) u) s
    let s := s.set F.FCU_STAT_LOCKED 1
    let s := s.set F.SYS_MODE_REQ (fieldL m 14 1)
    let s := putMode (s.get F.SYS_MODE_REQ) s
    let s := journal jBOOT (s.bootBody s.boot.slot s.bootFlags s.boot.trials (s.get F.SEC_BOOT_GEN_GEN)) s
    setBoot .images s
def execBootConfiguration (t : Nat) (s : State) : Host.Outcome State Fault Refusal := doneAon s (bootConfig (s.atTime t))

/-! ## The hold-up measurement (R349) -/

/-- FLUSH_BUDGET for V0 in mV and a fall of `t` µs: with PFLUSH or TPP zero the rule gives none (DEDUCED: log entry 36). -/
def holdupBytes (m : List Byte) (v0 t : Nat) : Option Nat :=
  let p := fieldL m 28 2
  let tpp := fieldL m 26 2
  let dv : Int := (v0 * v0 : Nat) - ((fieldL m 24 2 * fieldL m 24 2 : Nat) : Int)
  if p * tpp = 0 then none
  else
    let pages : Int := ((t : Int) * dv - (10 ^ 8 * p : Nat)) / ((10 ^ 4 * p * tpp : Nat) : Int)
    some (if pages ≤ 0 then 0 else min 32768 (128 * pages.toNat))

/-- HOLDUP_MEASURE_DONE: V0 in mV, and the time of the fall by 0.5 V in µs (DEDUCED: log entry 36). -/
def holdupDone (v0 us : Nat) (s : State) : State :=
  if !(s.sys.holdDue && s.boot.copy != 0 && s.bootAt s.sys.boot) then s
  else
    let t := min 200000 us
    let (d, s) := s.draw
    let bytes := (holdupBytes s.bootManifest v0 t).getD (d % 32769)
    let cap := t / 50 + (if t % 50 = 0 then 0 else d % 2)
    let s := ((s.set F.LIG_BUDGET_VALID 1).set F.LIG_BUDGET_BYTES bytes).set F.LIG_HOLDUP_CAP cap
    let s : State := { s.set F.LIG_HOLDUP_V0 v0 with sys := { s.sys with holdDue := false } }
    jPump (if s.get F.LIG_BUDGET_BYTES < 256 then raiseF 93 0 s else s)
def execHoldupMeasureDone (v0 us t : Nat) (s : State) : Host.Outcome State Fault Refusal := doneAon s (holdupDone v0 us (s.atTime t))

/-! ## The voice images and breath 0 (R337) -/

/-- The digest of the last check (R353). -/
def showDigest (d : List Byte) (s : State) : State :=
  (List.range 8).foldl (fun u j => u.set (F.SEC_DIGEST_DIGEST j) (fieldL d (4 * j) 4)) s

/-- Loads one VOICE entry into its section; a failing image leaves the section EMPTY. -/
def loadVoice (s : State) (e : DirEntry) : State :=
  let i := e.arg
  if 16 ≤ i then s
  else
    let b := stagingBase i 0
    let fail := fun (u : State) => u.setBit F.SEC_STAT_FAILSEC i true
    if 0x400000 < e.length then fail s
    else
      let s := s.setBytes b (s.entryBytes e)
      if !s.entryOk e || imageVerr i b s != 0 then fail s
      else
        let c := claimOf s ((imgRecords s b).getD [])
        let s := loadImage i b false [] (claim i c (showDigest (imgDigest s b) s))
        (setSecState i secWAITING s).setSec i { s.sec i with ready := true }

/-- VOICE_IMAGE_BOOT_LOAD, and the start of the dispatcher by a ONCE ANCHOR trigger 1 ms ahead. Which of the eight the
housekeeper takes is free. -/
def voiceLoad (s : State) : State :=
  if !s.bootAt .images then s
  else
    let s := (s.entriesOf dtVOICE).foldl loadVoice s
    let s := (s.set F.PMU_STAT_PSTATE psREADY).set F.PMU_STAT_BUSY 0
    let s := { setBoot .none s with sys := { s.sys with boot := .none, bootZero := true } }
    let s := dispRun ((s.set F.DISP_START_INDEX_LO_START_LO 0).set F.DISP_START_INDEX_HI_START_HI 0)
    let (d, s) := s.draw
    let k := d % 8
    let at0 := s.devNs + 1000000
    let s := ((s.set (F.TRIG_AT_LO_AT_LO k) at0).set (F.TRIG_AT_HI_AT_HI k) (at0 / 2 ^ 32)).set (F.TRIG_CFG_MODE k) tmONCE
    trigEnable k (s.set (F.TRIG_CFG_ACTION k) 1)
def execVoiceImageBootLoad (t : Nat) (s : State) : Host.Outcome State Fault Refusal := doneAon s (voiceLoad (s.atTime t))

/-- BOOT_BREATH_ZERO: within the first 100 ns of breath 0. -/
def breathZero (s : State) : State :=
  if s.sys.bootZero && s.breathing && s.disp.started && !s.reached s.n 100 then
    let s := (List.range 16).foldl (fun u i => if (u.sec i).ready then configGen i (startSection i u.n false u) else u) s
    let g := s.get F.HOST_SUMGEN_HI_GEN / 65536 * 65536
    { (s.set F.HOST_SUMGEN_HI_GEN g).set F.HOST_SUMGEN_LO_GEN 1 with sys := { s.sys with bootZero := false } }
  else s
def execBootBreathZero (t : Nat) (s : State) : Host.Outcome State Fault Refusal := done s (breathZero (s.atTime t))

end Sys2Proof.Machine
end

