-- ==== Sys2Proof/Machine/Sec.lean ====
section
/-!
DEFINITION. The SEC block: boot confirmation, fuses and the authentication engine (R334, R336, R353).
-/
namespace Sys2Proof.Machine

/-- A write of SEC_BOOT_CONFIRM (R336). -/
def wrBootConfirm (v : Nat) (s : State) : State :=
  if !(bits 31 16 v == keyA55A && bitOf v 0) then s
  else if s.on F.SEC_BOOT_CONFIRM_GO then s.set F.SEC_STAT_CONFWR 1
  else
    let s := (s.set F.SEC_BOOT_CONFIRM_GO 1).set F.SEC_STAT_CONFIRMED 1
    journal jBOOT (s.bootBody s.boot.slot s.bootFlags 0 (s.get F.SEC_BOOT_GEN_GEN)) s
def execBootConfirm (m v : Nat) (s : State) : Host.Outcome State Fault Refusal := done s (guarded m A.SEC_BOOT_CONFIRM (wrBootConfirm v) s)

/-- Results of a burn or a revoke (SEC_FUSE.FUSERES). -/
def fuDONE : Nat := 1
def fuRANGE : Nat := 2
def fuTRIAL : Nat := 3
def fuKEY : Nat := 4

/-- The key that authenticated the slot is valid now (R334). -/
def State.bootKeyValid (s : State) : Bool :=
  if s.on F.SEC_STAT_KEY then s.on F.SEC_FUSE_KEY1_VALID else !s.on F.SEC_FUSE_KEY0_REVOKED

/-- A write of SEC_FLOOR_BURN (DEDUCED: log entry 37). -/
def wrFloorBurn (v : Nat) (s : State) : State :=
  let f := v % 256
  let res := fun (c : Nat) (u : State) => u.set F.SEC_FUSE_FUSERES c
  if bits 31 16 v != keyA55A then s
  else if f ≤ s.get F.SEC_FUSE_FLOOR || s.get F.SEC_BOOT_GEN_GEN / 2 ^ 24 < f then res fuRANGE s
  else if !s.on F.SEC_STAT_CONFIRMED then res fuTRIAL s
  else if !s.bootKeyValid then res fuKEY s
  else res fuDONE (s.set F.SEC_FUSE_FLOOR f)
def execFloorBurn (m v : Nat) (s : State) : Host.Outcome State Fault Refusal := done s (guarded m A.SEC_FLOOR_BURN (wrFloorBurn v) s)

/-- A write of SEC_REVOKE. -/
def wrRevoke (v : Nat) (s : State) : State :=
  if !(bits 31 16 v == keyA55A && bitOf v 0) then s
  else if s.on F.SEC_STAT_KEY && s.on F.SEC_STAT_CONFIRMED then (s.set F.SEC_FUSE_KEY0_REVOKED 1).set F.SEC_FUSE_FUSERES fuDONE
  else s.set F.SEC_FUSE_FUSERES fuKEY
def execKeyRevoke (m v : Nat) (s : State) : Host.Outcome State Fault Refusal := done s (guarded m A.SEC_REVOKE (wrRevoke v) s)

/-- Results of SEC_AUTH_STAT. -/
def auPASS : Nat := 1
def auBADHDR : Nat := 2
def auAUTH : Nat := 3
def auBUSY : Nat := 4
def auDECODE : Nat := 5

/-- A write of SEC_AUTH_CMD: the address and the kind are taken with GO (DEDUCED: log entry 37). -/
def wrAuthCmd (v : Nat) (s : State) : State :=
  if !bitOf v 31 then s
  else if s.on F.SEC_AUTH_STAT_BUSY then s.set F.SEC_AUTH_STAT_RESULT auBUSY
  else
    let a := (s.get F.SEC_AUTH_ADDR_HI_ADDR_HI * 2 ^ 32 + s.get F.SEC_AUTH_ADDR_LO_ADDR_LO) / 8 * 8
    askAuth 16 { s.set F.SEC_AUTH_STAT_BUSY 1 with boot := { s.boot with auth := s.boot.auth ++ [(a, bitOf v 0)] } }
def execAuthCheck (m v : Nat) (s : State) : Host.Outcome State Fault Refusal :=
  done s (guarded m A.SEC_AUTH_CMD (wrAuthCmd (withBit (v % 2 ^ 32) 31 true)) s)

/-- The bytes from `a` to `a + n − 1` lie in memory. -/
def mapped (a n : Nat) : Bool :=
  match targetOf a, targetOf (a + n - 1) with
  | some (.mem i), some (.mem j) => i == j
  | _, _ => false

/-- The check of the structure at `a`: its result, and the digest where one is computed. -/
def State.authResult (s : State) (a : Nat) (dir : Bool) : Nat × Option (List Byte) :=
  if dir then
    let l := s.bytes a 4096
    if !mapped a 4096 then (auDECODE, none)
    else if !dirForm l then (auBADHDR, none)
    else (if (s.signedBy l).isSome then auPASS else auAUTH, some (sha256 (l.take 4032)))
  else if !mapped a 64 then (auDECODE, none)
  else if !headerOk s a then (auBADHDR, none)
  else if !mapped a (imgSize s a) then (auDECODE, none)
  else
    let d := imgDigest s a
    let fin := a + (imgSize s a - 128)
    (if (s.accepts (s.bytes fin 64) d (s.bytes (fin + 64) 64)).isSome then auPASS else auAUTH, some d)

/-- AUTH_DONE, once the engine has come to this request (R353) (DEDUCED: log entry 37). -/
def authDone (s : State) : State :=
  match s.boot.auth with
  | [] => s
  | (a, dir) :: l =>
    if !s.authTurn 16 then s else
    let (r, d) := s.authResult a dir
    let s := { s with boot := { s.boot with auth := l } }
    let s := match d with | some x => showDigest x s | none => s
    (s.set F.SEC_AUTH_STAT_BUSY (!l.isEmpty).toNat).set F.SEC_AUTH_STAT_RESULT r
def execAuthDone (t : Nat) (s : State) : Host.Outcome State Fault Refusal := done s (authDone (s.atTime t))

/-- A write of a SEC register. -/
def wrSEC (a v : Nat) (s : State) : State :=
  let o := a % 0x10000
  if o == 8 then wrBootConfirm v s
  else if o == 0x10 then wrFloorBurn v s
  else if o == 0x14 then wrRevoke v s
  else if o == 0x28 then wrAuthCmd v s
  else s.writeRegPlain a v

end Sys2Proof.Machine
end

