-- ==== Sys2Proof/Machine/FrameIo.lean ====
section
/-!
DEFINITION. Frames on the line: the receive stages and their claimants, and the start of a transmission (R173, R175–R178,
R216, R248).
-/
namespace Sys2Proof.Machine

/-- A port's MAC has power and its link is up. -/
def State.macRuns (s : State) (p : Nat) : Bool := p < 5 && s.portUp p && s.blockOn (11 + p)

/-- The receive stream that claims an AVTP frame, and the path (R205). -/
def State.avtpStream (s : State) (p : Nat) (bs : List Byte) : Option (Nat × Bool) :=
  (List.range 64).findSome? (fun i => (s.avtpClaims p bs i).map (fun b => (sidRx i, b)))

/-- The AES67 receive stream that claims a packet, and the path (R220). -/
def State.rtpStream (s : State) (p : Nat) (bs : List Byte) : Option (Nat × Bool) :=
  (List.range 32).findSome? (fun i => (s.rtpClaims p bs (sidRx67 i)).map (fun b => (sidRx67 i, b)))

/-- Who claims a frame that passes stages 1 to 5 (R178). -/
inductive Claimant where
  | avtp (i : Nat) (b : Bool)
  | rtp (i : Nat) (b : Bool)
  | host
  | twin
  deriving DecidableEq, Repr

def State.claimant (s : State) (p : Nat) (bs : List Byte) : Option Claimant :=
  let sub := byteAt bs (frEt bs + 2)
  match s.avtpStream p bs with
  | some (i, b) => some (.avtp i b)
  | none =>
    match s.rtpStream p bs with
    | some (i, b) => some (.rtp i b)
    | none =>
      if be16At bs (frEt bs) != 0x88B5 then none
      else if p < 4 && sub / 16 == 1 then some .host
      else if p == 4 && sub / 16 == 2 then some .twin else none

/-- A claimed frame reaches its claimant. -/
def takeClaim (c : Claimant) (f : RxFrame) (s : State) : State :=
  match c with
  | .avtp i b => avtpReceive i b f.bytes f.eof s
  | .rtp i b => rtpReceive i b f.bytes s
  | .host => { s with net := { s.net with hostq := s.net.hostq ++ [f] } }
  | .twin => twinClaim f s

/-- FEC codewords corrected and uncorrectable since the frame before (R170, R194). -/
def countFec (p corr unc : Nat) (s : State) : State :=
  if s.get (F.NET_STAT_FEC p) == 0 then s
  else (s.set (F.NCNT_FEC_CORR p) (s.get (F.NCNT_FEC_CORR p) + corr)).set (F.NCNT_FEC_UNCORR p) (s.get (F.NCNT_FEC_UNCORR p) + unc)

/-- FRAME_RECEIVE: a frame from DA to FCS has ended on port `p`; `code` tells of a code error or an uncorrectable codeword within
it, `corr` and `unc` count the FEC codewords since the frame before, `sfd` is the instant
of its first bit after the start delimiter, `held` what ring-bound frames hold of the buffer (R175) (DEDUCED: log
entry 46). -/
def frameReceive (p : Nat) (bs : List Byte) (code : Bool) (corr unc sfd held : Nat) (ue : Option Nat) (s : State) : State :=
  let n := bs.length
  let at_ := s.filtersAt p sfd
  let body := bs.take (n - 4)
  if !s.macRuns p then s else
  let s := addLoad p (n * 8) 0 (countFec p corr unc s)
  if code then s.inc (F.NCNT_RX_CODE p)
  else if n < 64 then s.inc (F.NCNT_RX_RUNT p)
  else if at_.maxLen p + (if frTagged bs then 4 else 0) < n then s.inc (F.NCNT_RX_OVERSIZE p)
  else if leNat (bs.drop (n - 4)) != crc32 body then s.inc (F.NCNT_RX_FCS p)
  else if be16At bs 12 == 0x8808 then s.inc (F.NCNT_RX_PAUSE p)
  else
    let ts := s.devThen sfd
    match s.claimant p body with
    | some c => takeClaim c ⟨p, body, ts, s.dev⟩ (countRx p n s)
    | none => rxUnclaimed p bs at_ (ts / 256) held ue s
def execFrameReceive (p : Nat) (bs : List Byte) (code : FrameCode) (sfd held : Nat) (ue : Option Nat) (t : Nat) (s : State) :
    Host.Outcome State Fault Refusal := done s (frameReceive p bs code.code code.corr code.unc sfd held ue (s.atTime t))

/-- FRAME_TRANSMIT: the MAC of port `p` is at a frame boundary and starts the highest open queue's frame (R173, R216)
(DEDUCED: log entry 48). -/
def frameTransmit (p : Nat) (s : State) : State :=
  if !s.macRuns p then s
  else
    let s := creditTick p s
    match s.nextTx p with
    | none => s
    | some f => noteHello p f (startTx p f (measureFrame f s))
def execFrameTransmit (p t : Nat) (s : State) : Host.Outcome State Fault Refusal := done s (frameTransmit p (s.atTime t))

end Sys2Proof.Machine
end

