-- ==== Sys2Proof/Machine/Reads.lean ====
section
/-!
DEFINITION. The registers as masters reach them: selectors (R61, R123, R144, R146, R222, R241, R310, R327, R377, R399,
R403) and reads with what they latch (R10).
-/
namespace Sys2Proof.Machine

/-! ## Selectors -/

/-- The instance that a selector register picks for the register at `p`; none where the selector names nothing. -/
def State.bankSel (s : State) (p : Nat) : Option Nat :=
  let o := p % 0x10000
  let upTo := fun (n k : Nat) => if k < n then some k else none
  match p / 0x10000 with
  | 0x2001 => if o = 0x404 then upTo 215 (s.get F.PMU_PADSEL_INDEX) else some 0
  | 0x2002 => if o = 0x1C then some (s.get F.FCU_SRCSEL_SRC) else some 0
  | 0x2003 => if 0x40 ≤ o && o < 0x4C then upTo 5 (s.get F.PP_REFSEL_REF) else some 0
  | 0x2005 =>
    if o = 0x84 || o = 0x88 then some (s.get F.DISP_CORESEL_LCORE)
    else if o = 0x94 || o = 0x98 then upTo 4864 (s.get F.DISP_TBT_INDEX_INDEX)
    else if 0xA4 ≤ o && o < 0xB0 then some (s.get F.DISP_GRP_INDEX_GROUP) else some 0
  | 0x2007 => if 0x14 ≤ o && o < 0x28 then some (s.get F.DLY_LINE_INDEX_LINE) else some 0
  | 0x2008 =>
    if 0x14 ≤ o && o < 0x20 then upTo 9 (s.get F.ARB_SEL_REQ)
    else if o = 0x34 then upTo 153 (s.get F.ARB_TSEL_TARGET) else some 0
  | 0x200A =>
    if 0x20 ≤ o && o < 0x8C then (if 128 ≤ s.selStream && 32 ≤ s.get F.STRM_SEL_INDEX then none else some s.selStream)
    else if (0x104 ≤ o && o < 0x11C) || (0x400 ≤ o && o < 0x600) then some (s.get F.STRM_GCL_PORT_PORT) else some 0
  | 0x2010 => if 0x84 ≤ o && o < 0x98 then some (s.get F.TWIN_DIGSEL_SECTION) else some 0
  | 0x2013 => if 0x84 ≤ o && o < 0xAC then some (s.get F.SURV_LINESEL_LINE) else some 0
  | 0x2016 => if 8 ≤ o && o < 0x14 then some (s.get F.MMU_WINSEL_WIN) else some 0
  | 0x2017 => if 0x14 ≤ o && o < 0x30 then some (s.get F.ASRC_SEL_CH) else some 0
  | _ => some 0

/-! ## Reads -/

/-- Word `j` of the device-time pair: low, high, fraction. -/
def timeWord (x : Nat × Nat) (j : Nat) : Nat :=
  match j with | 0 => x.1 % 2 ^ 32 | 1 => x.1 / 2 ^ 32 % 2 ^ 32 | _ => x.2

/-- What the register at `a` shows to master `m` at this instant, latches aside. -/
def State.regWord (s : State) (m a : Nat) : Nat :=
  let p := a % 2 ^ 32
  let i := a / 2 ^ 32
  let o := p % 0x10000
  let plain := s.wordOf (fieldsAt a)
  match p / 0x10000 with
  | 0x2002 => (showRestarts s).wordOf (fieldsAt a)
  | 0x2003 => (slewTick s).wordOf (fieldsAt a)
  | 0x2001 =>
    if o = 0x10 then s.aonSec % 2 ^ 32 else if o = 0x14 then (s.now - s.pmu.aonAt) % uS * 32768 / uS else plain
  | 0x2004 =>
    if 0x20 ≤ o && o < 0x2C then timeWord (s.timePair false) ((o - 0x20) / 4)
    else if 0x30 ≤ o && o < 0x3C then timeWord (s.timePair true) ((o - 0x30) / 4) else plain
  | 0x2005 =>
    if o = 0x20 then bidx s.n % 2 ^ 32 else if o = 0x24 then bidx s.n / 2 ^ 32 else if o = 0x28 then s.period else plain
  | 0x2006 => if 0x44 ≤ o && o < 0x54 then s.stateData ((o - 0x44) / 4) else plain
  | 0x2007 =>
    if o = 4 then s.dlyUsed.1 else if o = 8 then s.dlyUsed.2 else if o = 0x24 then s.lineStat i
    else if 0x100 ≤ o && o < 0x300 && o % 0x20 = 0x18 then (showDriven s).wordOf (fieldsAt a) else plain
  | 0x2008 =>
    if o = 0x18 then (match s.hint i with | some h => 2 ^ 31 + h | none => 0)
    else if o = 0x34 then (match (mget ({} : ArbT) i s.arb).owner with | some q => 2 ^ 31 + q | none => 0) else plain
  | 0x2009 =>
    let n := (o - 0x100) / 0x40
    if 0x100 ≤ o && o < 0x500 && o % 0x40 = 4 then
      (if s.get (F.SECn_LOCK_HOLDER n) == m then plain else plain % 2 ^ 16)
    else if 0x100 ≤ o && o < 0x500 && o % 0x40 = 8 then s.remainMs n else plain
  | 0x2012 =>
    if 0x1000 ≤ o && o < 0x107C then (Config.bsiComp ((o - 0x1000) / 4)).toNat
    else if 0x1080 ≤ o && o < 0x113C then (Config.bsiHalf ((o - 0x1080) / 4)).toNat
    else if 0x100 ≤ o && o < 0x900 && 0x20 ≤ o % 0x40 && o % 0x40 < 0x38 && s.bsiSense ((o - 0x100) / 0x40) != (0x30 ≤ o % 0x40 : Bool)
    then 0 else plain
  | 0x2013 =>
    if 0xC0 ≤ o && o < 0xD4 then (let x := s.netLen ((o - 0xC0) / 4); x.1 * 2 ^ 30 + x.2)
    else if 0x100 ≤ o && o < 0x140 then (let x := s.sapLen ((o - 0x100) / 4); x.1 * 2 ^ 31 + x.2)
    else if 0x1000 ≤ o && o < 0x5000 then ux 32 (sineWord ((o - 0x1000) / 4)) else plain
  | q =>
    if 0x4000 ≤ q && q < 0x4220 && 0x800 ≤ o % 0x40000 && 0x30800 ≤ (p - 0x40000000) % 0x40000 then s.word p else plain

/-- The registers whose values the read of the register at `p` latches (R10 and the register tables) (DEDUCED: log
entry 39). -/
def latchedBy (p : Nat) : List Nat :=
  let o := p % 0x10000
  let pair := [p + 4]
  match p / 0x10000 with
  | 0x2000 => if o = 8 || o = 0x40 then pair else []
  | 0x2001 => if o = 0x10 then pair else []
  | 0x2003 => if o = 0x40 then [p + 4, p + 8] else []
  | 0x2004 =>
    if o = 0x20 || o = 0x30 then [p + 4, p + 8]
    else if o = 0x10 || o = 0x44 || o = 0x4C then pair
    else if 0x100 ≤ o && o < 0x200 && (o % 0x20 = 4 || o % 0x20 = 0x18) then pair else []
  | 0x2005 => if o = 0x10 then [p + 4, p + 8] else if o = 8 || o = 0x20 || o = 0x94 then pair else []
  | 0x2006 =>
    if o = 0x44 then [p + 4, p + 8, p + 12]
    else if o = 0x14 || (0x100 ≤ o && o < 0x180 && o % 0x10 = 4) || (0x400 ≤ o && o < 0x480 && o % 8 = 0) then pair else []
  | 0x2007 =>
    if o = 0x14 then [p + 4, p + 8, p + 12]
    else if o = 0x38 || (0x100 ≤ o && o < 0x300 && (o % 0x20 = 4 || o % 0x20 = 0xC)) then pair else []
  | 0x2009 => if 0x100 ≤ o && o < 0x500 && (o % 0x40 = 0x1C || o % 0x40 = 0x24) then pair else []
  | 0x200A => if o = 0x108 then pair else []
  | 0x2010 =>
    if o = 0x84 then [p + 4, p + 8, p + 12, p + 16]
    else if o = 0x18 || o = 0x30 || o = 0x48 || o = 0x50 || o = 0x6C || o = 0x74 then pair else []
  | 0x2011 => if 0x100 ≤ o && o < 0x500 && o % 0x40 = 0x24 then [p + 4, p + 8] else []
  | 0x2012 => if 0x100 ≤ o && o < 0x900 && o % 0x40 = 0x20 then [p + 4, p + 8, p + 12, p + 16, p + 20] else []
  | 0x2015 => if o = 8 then pair else []
  | 0x2016 => if o = 0xC || o = 0x30 then pair else []
  | 0x2017 => if o = 0x20 || o = 0x28 then pair else []
  | 0x2018 => if o = 0x20 then pair else []
  | q =>
    if 0x200B ≤ q && q < 0x2010 then
      (if (0x600 ≤ o && o < 0x680 && o % 0x20 = 4) || (0x700 ≤ o && o < 0x7C0 && o % 0x20 = 4) || o = 0x804 || o = 0x834
       then pair else [])
    else []

/-- Latches the value the register at `a` shows to master `m`: one latch for all masters, so a low word that one reads sets the
high word that another reads next (DESIGN CHOICE: log entry 39). -/
def latchReg (m a : Nat) (s : State) : State := { s with latch := mset 0 a (s.regWord m a + 1) s.latch }

/-- What a read of the register at `p` by master `m` returns and does (DEDUCED: log entry 39). -/
def regRead (m p : Nat) (s : State) : Nat × State :=
  match s.bankSel p with
  | none => (0, if p == A.DISP_TBT_DATA1 0 then tbtAutoinc s else s)
  | some i =>
    if p == A.FCU_REC0 then recordRead s
    else if 0x20040200 ≤ p && p < 0x20040280 && p % 0x10 == 8 then capRead ((p - 0x20040200) / 0x10) s
    else if 0x20040300 ≤ p && p < 0x20040350 && p % 0x10 == 0 then txtsRead ((p - 0x20040300) / 0x10) s
    else
      let a := p + 2 ^ 32 * i
      let d := match mget 0 a s.latch with | 0 => s.regWord m a | v + 1 => v
      let s := (latchedBy p).foldl (fun u q => latchReg m (q + 2 ^ 32 * i) u) s
      (d, if p == A.DISP_TBT_DATA1 0 then tbtAutoinc s else s)

/-- PAIR_LOW_READ: master `m` reads the register at `a`. -/
def execPairLowRead (m a : Nat) (s : State) : Host.Outcome State Fault Refusal := doneRead m (a % 2 ^ 32) s (guardedRead m a (regRead m (a % 2 ^ 32)) s)

/-- TBT_DATA_READ: the read of DISP_TBT_DATA1 (R61). -/
def execTbtDataRead (m : Nat) (s : State) : Host.Outcome State Fault Refusal :=
  done s (guardedRead m (A.DISP_TBT_DATA1 0) (regRead m (A.DISP_TBT_DATA1 0)) s)

end Sys2Proof.Machine
end

