-- ==== Sys2Proof/Machine/Summary.lean ====
section
/-!
DEFINITION. The Tuning Summary: its 4,096 bytes, and the TUNE that takes it (R373, R375).
-/
namespace Sys2Proof.Machine

/-- Zero bytes up to length `k`. -/
def padTo (k : Nat) (l : List Byte) : List Byte := l ++ List.replicate (k - l.length) 0

/-- The registers from `a` on, `k` of them, as the asker of slot `n` reads them. -/
def State.regBytes (s : State) (n a : Nat) : Nat → List Byte
  | 0 => []
  | k + 1 => leBytes 4 (s.regWord (slotMaster n) a) ++ s.regBytes n (a + 4) k

/-- Registers of a list of addresses. -/
def State.regList (s : State) (n : Nat) (as : List Nat) : List Byte := as.flatMap (fun a => leBytes 4 (s.regWord (slotMaster n) a))

/-- The byte of a receive stream (R375). -/
def State.rxByte (s : State) (i : Nat) : Byte :=
  BitVec.ofNat 8 (s.strmState i + 8 * s.get (F.STRM_DSTAT_PATH_A i) + 16 * s.get (F.STRM_DSTAT_PATH_B i))

/-- The byte of a transmit stream (R375). -/
def State.txByte (s : State) (i : Nat) : Byte :=
  let up := fun (b : Bool) => match s.pathPort i b with | some p => (s.portUp p).toNat | none => 0
  BitVec.ofNat 8 ((s.strmS i).live.toNat + 2 * up false + 4 * up true)

/-- Bit `i` of the result tells whether section `i`'s lock is held by slot `n`. -/
def State.slotLocks (s : State) (n : Nat) : Nat :=
  (List.range 16).foldl (fun w i =>
    if s.lockState i != lkFREE && s.get (F.SECn_LOCK_HOLDER i) == slotMaster n then w + 2 ^ i else w) 0

/-- Region rights of slot `n` in target `t` (R375). -/
def State.regionRights (s : State) (n t : Nat) : Nat :=
  (List.range 16).foldl (fun w e =>
    w + (bitOf (s.get (F.RGN_RMASK t e)) (slotMaster n)).toNat * 2 ^ e
      + (bitOf (s.get (F.RGN_WMASK t e)) (slotMaster n)).toNat * 2 ^ (16 + e)) 0

/-- The summary up to its CRC, piece by piece, each piece padded to the offset of the next (R375). -/
def State.summaryBody (s : State) (n : Nat) : List Byte :=
  let r := s.regBytes n
  let l := leBytes 4 0x96325453 ++ leBytes 2 1 ++ leBytes 2 4096 ++ r A.HOST_SUMGEN_LO 2
    ++ leBytes 8 s.devNs ++ leBytes 8 (bidx s.n) ++ [BitVec.ofNat 8 n]
  let l := padTo 0x040 l ++ r A.SYS_ID 4 ++ s.regList n [A.SEC_STAT, A.SEC_BOOT_GEN, A.SEC_FUSE, A.SYS_RESET_CAUSE]
  let l := padTo 0x080 l ++ s.regList n [A.SYS_MODE_STAT, A.DISP_STAT, A.DISP_ANCHOR_LO, A.DISP_ANCHOR_HI, A.DISP_ANCHOR_FRAC,
    A.DISP_MISS_COUNT, A.DISP_EVT_COUNT, A.MTX_STAT, A.MTX_RETIRING, A.RVC_STAT]
  let l := padTo 0x0C0 l ++ (List.range 16).flatMap (fun i => s.regList n [A.SECn_STAT i, A.SECn_LOCK i, A.SECn_REMAIN i,
    A.SECn_GEN i, A.SECn_STOP_LO i, A.SECn_STOP_HI i, A.SECn_RESTART_LO i, A.SECn_RESTART_HI i])
  let l := padTo 0x2C0 l ++ s.regList n [A.PP_STAT, A.PP_REFSTAT, A.PP_SWCOUNT, A.PP_HOLD_AGE, A.PP_PTP, A.TIME_STAT, A.TIME_RATE]
  let l := padTo 0x300 l ++ (List.range 5).flatMap (fun p => s.regList n [A.NET_CTRL p, A.NET_STAT p, A.SFP_STAT p,
    A.NCNT_LINK_DOWNS p, A.NCNT_RX_NOBUF p] ++ List.replicate 12 0)
  let l := padTo 0x3A0 l ++ (kindSids 0).map s.rxByte ++ (kindSids 1).map s.txByte ++ (kindSids 2).map s.rxByte
    ++ (kindSids 3).map s.txByte ++ r A.STRM_STAT 1
  let l := padTo 0x480 l ++ s.regList n [A.TWIN_STAT, A.TWIN_QUIET, A.TWIN_QREASON, A.TWIN_RS_STAT, A.TWIN_PSERIAL_LO,
    A.TWIN_PSERIAL_HI, A.TWIN_SKEW, A.TWIN_CNT0, A.TWIN_CNT1]
  let l := padTo 0x4C0 l ++ s.regList n [A.FCU_STAT, A.FCU_LAST, A.FCU_FENCED, A.FCU_CONSEQ] ++ r (A.DISP_FENCED 0) 5
    ++ r (A.DISP_LOST 0) 4 ++ r (A.FCU_PEND 0) 4
  let l := padTo 0x540 l ++ [BitVec.ofNat 8 s.pstate, 0, 0, 0]
    ++ leBytes 2 (s.get F.SURV_VIN_VIN) ++ leBytes 2 (s.get F.SURV_VIN_VHOLD)
    ++ (List.range 4).flatMap (fun k => leBytes 2 (s.get (F.SURV_TEMP_T0 k)) ++ leBytes 2 (s.get (F.SURV_TEMP_T1 k)))
    ++ (List.range 16).flatMap (fun k => leBytes 2 (s.get (F.SURV_RAIL_MV k))) ++ r A.PMU_RAILOK 1
  let l := padTo 0x5C0 l ++ s.regList n [A.LIG_STAT, A.LIG_HEAD, A.LIG_SEQ, A.LIG_KEEP, A.LIG_BUDGET, A.LIG_WEAR]
  let l := padTo 0x5E0 l ++ s.regList n [A.SLOTn_EVT n, A.SLOTn_EVT_EN n] ++ leBytes 2 (s.slotLocks n) ++ [0, 0]
    ++ s.regList n [A.SLOTn_CNT1 n, A.SLOTn_STAT n]
  let l := padTo 0x600 l ++ (List.range 16).flatMap (fun i => leBytes 2 (s.regWord (slotMaster n) (A.SECn_LOCK i) / 2 ^ 16))
    ++ (List.range 25).flatMap (fun b => [0, 1, 2, 3].flatMap (fun w => leBytes 4 (s.aclWord b (slotMaster n) w)))
    ++ (List.range 7).flatMap (fun t => leBytes 4 (s.regionRights n t))
  padTo 0xFFC l

/-- The 4,096 bytes of the Tuning Summary for slot `n` (R375). -/
def State.summary (s : State) (n : Nat) : List Byte := let l := s.summaryBody n; l ++ leBytes 4 (crc32c l)

/-! ## TUNE (R373) -/

def tuDONE : Nat := 1
def tuBUSY : Nat := 2

/-- A slot's assembly runs. -/
def State.tuning (s : State) (n : Nat) : Bool := s.on (F.SLOTn_TUNE_STAT_BUSY n)

/-- TUNE for slot `n`: the snapshot is taken; `asker` is the port, SA and SEQ of a Host Channel request (R364). -/
def tune (n : Nat) (ack : Bool) (asker : Option (Nat × List Byte × Nat)) (s : State) : State :=
  if s.tuning n then s.set (F.SLOTn_TUNE_STAT_RESULT n) tuBUSY
  else
    let x := s.slotS n
    let t := (s.set (F.SLOTn_TUNE_STAT_BUSY n) 1).setSlot n { x with snap := s.summary n, snapAt := s.now, asker := asker }
    if ack then t.set (F.SLOTn_EVT_EVT n) 0 else t

end Sys2Proof.Machine
end

