-- ==== Sys2Proof/Machine/Bus.lean ====
section
/-!
DEFINITION. Writes of registers (R7, R8) and accesses to memory (R24, R94, R103, R135, R358, R370, R420) as masters make
them.
-/
namespace Sys2Proof.Machine

/-! ## Writes -/

/-- A write of a DISP register (R33, R58, R61). -/
def wrDISP (a v : Nat) (s : State) : State :=
  let o := a % 0x10000
  if o = 0 then wrDispCtrl v s
  else if o = 0x3C then wrDispClr v s
  else if o = 0x48 then wrBistReq v s
  else s.writeRegPlain a v

/-- A write in the access-table range of a block (R354, R355, R359): entries of reserved masters take none. -/
def wrACC (a v : Nat) (s : State) : State :=
  let m := (a % 0x10000 - 0xF000) / 16
  if a % 0x10000 < 0xF200 && ((12 ≤ m && m ≤ 15) || 23 ≤ m) then s else s.writeRegPlain a v

/-- A write of a register of a core window: `c` the core, `o` the offset from 0x3_0000 (R91–R95). -/
def wrCore (c o p v : Nat) (s : State) : State :=
  if 0x800 ≤ o then coreWrite c p (leBytes 4 v) s
  else if p == A.RC_DBGCTL c then wrDbgctl c v .clean s
  else if p == A.RC_ECC c then wrRcEcc c v s
  else s.writeRegPlain p v

/-- The register has a field that a write stores, so the write drops its latched value. -/
def writable (a : Nat) : Bool := (fieldsAt a).any (fun f => f.acc == .rw)


/-- Forgets when the last EVENT went, once no enabled event is pending (R366). -/
def State.evtPending (s : State) (n : Nat) : Bool := (s.get (F.SLOTn_EVT_EVT n) &&& s.get (F.SLOTn_EVT_EN_EN n)) != 0
def evtSettle (n : Nat) (s : State) : State := if s.evtPending n then s else s.setSlot n { s.slotS n with evtAt := none }

/-- A write of a HOST register (R372, R376). -/
def wrHOST (a v : Nat) (s : State) : State :=
  let o := a % 0x10000
  let n := o / 0x400 - 1
  let q := o % 0x400
  if 0x400 ≤ o && o < 0x1C00 then
    if q = 0 then wrSlotCtrl n v s
    else if q = 0x20 then wrBell n v s
    else if q = 0x24 then (if bitOf v 0 then evtSettle n (tune n (bitOf v 1) none s) else s)
    else if q = 8 || q = 0xC then evtSettle n (s.writeRegPlain a v)
    else s.writeRegPlain a v
  else s.writeRegPlain a v

/-- What a write of `v` to the register at `p` by master `m` does. -/
def regWrite (m p v : Nat) (s : State) : State :=
  if 0x40000000 ≤ p then wrCore ((p - 0x40000000) / 0x40000) ((p - 0x40000000) % 0x40000 - 0x30000) p v s
  else match s.bankSel p with
  | none => s
  | some i =>
    let a := p + 2 ^ 32 * i
    let s := if writable a then { s with latch := mset 0 a 0 s.latch } else s
    if 0xF000 ≤ p % 0x10000 then wrACC a v s
    else match p / 0x10000 with
    | 0x2000 => wrSYS a v s
    | 0x2001 => wrPMU a v s
    | 0x2002 => wrFCU a v s
    | 0x2003 => wrPP a v s
    | 0x2004 => wrTIME a v s
    | 0x2005 => wrDISP a v s
    | 0x2006 => wrMTX a v s
    | 0x2007 => wrDLY a m v s
    | 0x2008 => wrARB a v s
    | 0x2009 => wrRVC a m v s
    | 0x200A => wrSTRM a v s
    | 0x2010 => wrTWIN a v s
    | 0x2011 => wrSAP a v s
    | 0x2012 => wrBSI a v s
    | 0x2013 => wrSURV a v s
    | 0x2014 => wrLIG a v s
    | 0x2015 => wrHOST a v s
    | 0x2016 => wrMMU a v s
    | 0x2017 => wrASRC a v s
    | 0x2018 => wrSEC a v s
    | _ => wrNET a v s

/-- REGISTER_WRITE: master `m` writes word `v` to the register at `a` (R7, R8, R356). -/
def execRegisterWrite (m a v : Nat) (s : State) : Host.Outcome State Fault Refusal :=
  done s (guardedV m a (v % 2 ^ 32) (regWrite m (a % 2 ^ 32) (v % 2 ^ 32)) s)

/-! ## Memory -/

/-- The domain of memory target `t` is on (R27) (DESIGN CHOICE: log entry 6). -/
def State.memOn (s : State) (t : Nat) : Bool := t ≤ 1 || (if t = 2 then psNAP else psREADY) ≤ s.domains

/-- The bank that holds the address is written only while it is the shadow and no swap waits (R103, R105). -/
def State.bankOpen (s : State) (a : Nat) : Bool :=
  (a - 0x60000000) / 0x300000 != s.activeBank && !s.on F.MTX_SWAP_STAT_BUSY

/-- A write of bytes to memory target `t`; one to a core goes through its external port (R64). -/
def memWrite (t a : Nat) (bs : List Byte) (s : State) : State :=
  if t = 3 then extWrite ((a - 0x40000000) / 0x40000) a bs s
  else if t = 4 && !s.bankOpen a then s.set F.MTX_STAT_BANKWR 1
  else s.setBytes a bs

/-- The `w` bytes of memory target `t` at `a` as a read finds them: of a core through its external port (R64). -/
def State.memRead (s : State) (t a w : Nat) : Nat :=
  if t = 3 then
    let c := (a - 0x40000000) / 0x40000
    s.extWord c a + (if w = 8 then s.extWord c (a + 4) * 2 ^ 32 else 0)
  else leNat (s.bytes a w)

/-- An access of a master to any physical address, a word `v` being written; `e` is what error correction meets on a read
of memory (R356, R358, R420) (PRESUMED: log entry 40). -/
def access1 (x : Acc1) (v : Nat) (e : Ecc) (s : State) : State :=
  if !s.served x.m then s.respond x.m 0 true false
  else match s.check x with
  | .decode => (captureDecode x s).respond x.m 0 true true
  | .refused c => (violation x c s).respond x.m 0 true false
  | .ok =>
    match targetOf x.a with
    | some (.mem t) =>
      if !s.memOn t then s.respond x.m 0 false false
      else if x.wr then (memWrite t x.a (leBytes x.w v) s).respond x.m 0 false false
      else (memEcc t x.a e s).respond x.m (s.memRead t x.a x.w) (e == .ue) false
    | some (.coreReg _ _) =>
      if !s.memOn 3 then s.respond x.m 0 false false
      else if x.wr then (regWrite x.m x.a v s).respond x.m 0 false false
      else let (d, u) := regRead x.m x.a s; u.respond x.m d false false
    | _ =>
      if s.regClosed x.a then s.respond x.m 0 false false
      else if x.wr then (regWrite x.m x.a v s).respond x.m 0 false false
      else let (d, u) := regRead x.m x.a s; u.respond x.m d false false

/-! ## Bursts of the general DMA channels (R135–R140) -/

/-- Error codes of DMAk_STAT.ERR (R146). -/
def deXLATESRC : Nat := 1
def deXLATEDST : Nat := 2
def deACCESSSRC : Nat := 3
def deACCESSDST : Nat := 4
def deDECODE : Nat := 5
def deECC : Nat := 6

/-- What error correction meets on the word of 64 bits at `a`; `bad` lists the words it does not find clean. -/
def metBy (bad : List (Nat × Bool)) (a : Nat) : Ecc :=
  if bad.contains (a / 8 * 8, true) then .ue else if bad.contains (a / 8 * 8, false) && a % 8 == 0 then .ce else .clean

/-- The physical address of channel `k`'s address `a` (R139). -/
def dmaAddr (k a : Nat) (wr : Bool) (bad : List (Nat × Bool)) (s : State) : Option Nat × State :=
  if s.on (F.DMA_CTRL_XLATE k) then translate mDLYDMA (s.get (F.DMA_CTRL_WINDOW k)) a wr (metBy bad) s else (some a, s)

/-- One access of channel `k` to its address `a`: the word read, or the error that stops it (R139). -/
def dmaTouch (k a : Nat) (wr : Bool) (v : Nat) (bad : List (Nat × Bool)) (s : State) : Except Nat Nat × State :=
  match dmaAddr k a wr bad s with
  | (none, u) => (.error (if wr then deXLATEDST else deXLATESRC), u)
  | (some p, u) =>
    let x : Acc1 := { m := mDLYDMA, a := p % 2 ^ 40, w := 4, wr := wr, dmaHi := true, starter := mget 0 k u.dly.starter, val := v }
    let c := u.check x
    let ec := if wr then .clean else metBy bad p
    let t := access1 x v ec u
    match c with
    | .decode => (.error deDECODE, t)
    | .refused _ => (.error (if wr then deACCESSDST else deACCESSSRC), t)
    | .ok => if ec == .ue then (.error deECC, t) else (.ok t.bus.data, t)

/-- Reads `n` words of channel `k` from `a` on, as far as they can be read (DEDUCED: log entry 45). -/
def dmaFill (k : Nat) (bad : List (Nat × Bool)) : Nat → Nat → State → List Nat × Option Nat × State
  | 0, _, s => ([], none, s)
  | n + 1, a, s =>
    match dmaTouch k a false 0 bad s with
    | (.error e, t) => ([], some e, t)
    | (.ok v, t) => let (l, e, u) := dmaFill k bad n (a + 4) t; (v :: l, e, u)

/-- Writes the words of the engine's buffer from `a` on: how many, and the error that stopped it (DEDUCED: log entry 45). -/
def dmaDrain (k : Nat) (bad : List (Nat × Bool)) : List Nat → Nat → State → Nat × Option Nat × State
  | [], _, s => (0, none, s)
  | v :: l, a, s =>
    match dmaTouch k a true v bad s with
    | (.error e, t) => (0, some e, t)
    | (.ok _, t) => let (n, e, u) := dmaDrain k bad l (a + 4) t; (n + 1, e, u)

/-- Words in the burst that a general channel moves next: at most 256 bytes, to a source address that is a multiple of 256 (R137). -/
def State.burstWords (s : State) (k : Nat) : Nat := min (256 - s.dmaSrc k % 256) (s.get (F.DMA_COUNT_BYTES k)) / 4

/-- Moves `n` words of a general channel, as far as it can, and the registers with them (R137, R139) (PRESUMED: log entry 40). -/
def dmaMove (k n : Nat) (bad : List (Nat × Bool)) (s : State) : Option Nat × State :=
  let src := s.dmaSrc k
  let dst := s.dmaDst k
  let cnt := s.get (F.DMA_COUNT_BYTES k)
  let (l, e1, s) := dmaFill k bad n src s
  let (n, e2, s) := dmaDrain k bad l dst s
  (e2.orElse (fun _ => e1), s.setDmaPos k (src + 4 * n) (dst + 4 * n) (cnt - 4 * n))

/-- A burst of a general channel (R137, R139). -/
def dmaBurst (k : Nat) (bad : List (Nat × Bool)) (s : State) : State :=
  let (e, s) := dmaMove k (s.burstWords k) bad s
  match e with
  | some e => dmaFault k e s
  | none => if s.get (F.DMA_COUNT_BYTES k) = 0 then dmaLeave k dmCOMPLETED s else s

/-- Channel `k` has been aborted while it ran: the beats of the burst under way that the destination had accepted count as written.
How many those are the spec leaves to the instant, a free value (R140) (DESIGN CHOICE: log entry 45). -/
def abortBeats (k : Nat) (s : State) : State :=
  let (f, s) := s.draw
  (dmaMove k (f % (s.burstWords k + 1)) [] s).2

/-- The abort of a general channel that was running stops inside its burst (R140). -/
def afterAbort (before : State) (s : State) : State :=
  match before.dly.running with
  | some k => if 4 ≤ k && s.dly.running.isNone && s.dmaState k == dmABORTED then { abortBeats k s with bus := s.bus } else s
  | none => s

/-- An access as masters make it, with what an abort of a DMA channel leaves written (R140, R356, R358, R420). -/
def access (x : Acc1) (v : Nat) (e : Ecc) (s : State) : State := afterAbort s (access1 x v e s)

def execDmaAbort (m k v : Nat) (s : State) : Host.Outcome State Fault Refusal :=
  done s (guarded m (A.DMA_CTRL k) (fun u => afterAbort u (wrDmaCtrl k m v u)) s)

/-- Raises the single MSI-X vector of slot 4, unless it is masked (R368, R370) (DEDUCED: log entry 43). -/
def raiseMsix (s : State) : State :=
  if !s.on F.HOST_STAT_MSIX_EN then s
  else if bitOf (s.host.vector.getD 3 0) 0 then { s with host := { s.host with pba := true } }
  else { s with host := { s.host with msix := s.host.msix + 1, pba := false } }

/-- An access by the PCIe host to offset `o` of BAR0 (R370): register blocks, the MSI-X table and its pending bit. -/
def bar0 (o w : Nat) (wr : Bool) (v : Nat) (s : State) : State :=
  if o < 0x190000 then access { m := mHP, a := 0x20000000 + o, w := w, wr := wr, val := v } v .clean s
  else if 0x1F0000 ≤ o && o < 0x1F0010 && w = 4 && o % 4 = 0 then
    if wr then
      let s := { s with host := { s.host with vector := s.host.vector.set ((o - 0x1F0000) / 4) v } }
      (if s.host.pba then raiseMsix s else s).respond mHP 0 false false
    else s.respond mHP (s.host.vector.getD ((o - 0x1F0000) / 4) 0) false false
  else if o = 0x1F0800 && w = 4 && !wr then s.respond mHP s.host.pba.toNat false false
  else s.respond mHP 0 (!wr) false

/-- An access by the PCIe host to offset `o` of BAR2: a window address of the window in MMU_HPWIN; `pte` is what error correction
meets on its page-table entry (R360, R370). -/
def bar2 (pte : Ecc) (o w : Nat) (wr : Bool) (v : Nat) (e : Ecc) (s : State) : State :=
  if !s.on F.MMU_HPWIN_EN then s.respond mHP 0 (!wr) false
  else match translate mHP (s.get F.MMU_HPWIN_WIN) o wr (fun _ => pte) s with
  | (none, u) => u.respond mHP 0 (!wr) false
  | (some a, u) => access { m := mHP, a := a, w := w, wr := wr, val := v } v e u

/-- A control core's access to virtual address `va`: its exception stays in the core; a physical address is accessed as master CC
(R361). -/
def svAccess (c : SvCtx) (va w : Nat) (wr : Bool) (v : Nat) (e : Ecc) (s : State) : State :=
  match s.svTranslate c va wr with
  | .error x => { s with mmu := { s.mmu with trap := some x } }.respond mCC 0 true false
  | .ok a => access { m := mCC, a := a, w := w, wr := wr, val := v } v e { s with mmu := { s.mmu with trap := none } }

/-- A write through a BAR is posted: whatever became of it, the PCIe host gets no response (R370). -/
def posted (wr : Bool) (s : State) : State := if wr then s.respond mHP 0 false false else s

/-- MEMORY_ACCESS: a master's access of `w` bytes at `a`; through a BAR the master is HP and `a` an offset, and under Sv39 it is CC and
`a` a virtual address. -/
def memAccess (via : Via) (m a w : Nat) (wr : Bool) (v : Nat) (e : Ecc) (s : State) : State :=
  let v := v % 2 ^ (8 * w)
  match via with
  | .fabric => access { m := m, a := a % 2 ^ 40, w := w, wr := wr, val := v } v e s
  | .sv39 c => if s.served mCC then svAccess c (a % 2 ^ 40) w wr v e s else s.respond mCC 0 true false
  | .bar0 => if s.on F.HOST_STAT_PCIE_UP then posted wr (bar0 (a % 0x200000) w wr v s) else s
  | .bar2 pte => if s.on F.HOST_STAT_PCIE_UP then posted wr (bar2 pte (a % 2 ^ 30) w wr v e s) else s

def execMemoryAccess (via : Via) (m a w : Nat) (wr : Bool) (v : Nat) (e : Ecc) (s : State) : Host.Outcome State Fault Refusal :=
  if via == .fabric && !wr then doneRead m (a % 2 ^ 40) s (memAccess via m a w wr v e s) else done s (memAccess via m a w wr v e s)

end Sys2Proof.Machine
end

