-- ==== Sys2Proof/Machine/Dma.lean ====
section
/-!
DEFINITION. The bursts of the DMA engine's driven channels, and the choice of the next channel (R130, R135–R139).
-/
namespace Sys2Proof.Machine

/-- What error correction meets on the words of 64 bits at the addresses `as` (R134, R135). -/
def metAt (bad : List (Nat × Bool)) (ue : Bool) (as : List Nat) : List Nat :=
  (bad.filter (fun e => e.2 == ue && as.contains e.1)).map (fun e => e.1)

/-- Counts the corrected errors at the addresses `as`. -/
def countCes (bad : List (Nat × Bool)) (as : List Nat) (s : State) : State :=
  match (metAt bad false as).length with | 0 => s | 1 => dlyEcc .ce 0 s | n => dlyEcc (.ces n) 0 s

/-- The eight words of 64 bits of a block. -/
def blockWords (a : Nat) : List Nat := (List.range 8).map (fun i => a + 8 * i)

/-- A burst of the fetch channel: its ring blocks, in one burst where they lie together and no multiple of 256 parts them (R130,
R135, R137) (DEDUCED: log entry 45). -/
def fetchBurst (bad : List (Nat × Bool)) (s : State) : State :=
  match s.nextJob 0 with
  | none => s
  | some q =>
    let bs := s.fetchBlocks q
    let first := bs.headD 0
    let parts := !q.half && bs.length == 2 && (bs.getD 1 0 != first + 64 || (first + 64) % 256 == 0)
    let read := if q.half then bs.drop 1 else if parts then [first] else bs
    let words := read.flatMap blockWords
    let s := countCes bad words s
    let ues := metAt bad true words
    let q' := { q with half := true, ue := q.ue ++ ues }
    let s := { s with dly := { s.dly with jobs := s.dly.jobs.map (fun r => if r == q then q' else r) } }
    let s := ues.foldl (fun u _ => lineUe q.line u) s
    if parts then showPos 0 s
    else
      let s := endFetch q' { s with dly := { s.dly with jobs := s.dly.jobs.erase q' } }
      s.setDmaPos 0 (read.getLastD first + 64) (lineStage q.line + 128 + 64 * (q.block % 2) + 64) 0

/-- A burst of the flush channel: one block, as far as it can be read (R130, R135, R139). The job of a faulted one remains (DEDUCED:
log entry 45). -/
def flushBurst (bad : List (Nat × Bool)) (s : State) : State :=
  match s.nextJob 1 with
  | none => s
  | some q =>
    let a := wrStage q.line q.block
    let d := s.dramAt q.line (16 * q.block)
    let s := countCes bad (blockWords a) s
    match (List.range 8).find? (fun i => (metAt bad true (blockWords a)).contains (a + 8 * i)) with
    | some i =>
      let s := (s.setBytes d (q.data.take (8 * i))).setDmaPos 1 (a + 8 * i) (d + 8 * i) (64 - 8 * i)
      dmaFault 1 deECC (dlyEcc .ue q.line s)
    | none => (endFlush q { s with dly := { s.dly with jobs := s.dly.jobs.erase q } }).setDmaPos 1 (a + 64) (d + 64) 0

/-- Moves `n` bytes from `a` to `b` for channel `k`, as far as error correction lets it: how many, and whether it stopped (R135,
R139). -/
def moveBytes (bad : List (Nat × Bool)) (a b n : Nat) (s : State) : Nat × State :=
  let words := (List.range ((n + 7) / 8)).map (fun i => (a / 8 + i) * 8)
  let good := match words.find? (fun w => (metAt bad true words).contains w) with | some w => w - a | none => n
  (good, (List.range (good / 4)).foldl (fun u i => coreWrite ((b - 0x40000000) / 0x40000) (b + 4 * i) (u.bytes (a + 4 * i) 4) u) s)

/-- A burst of channel 2, which copies a core's memories, or channel 3, which loads those of an image (R54, R136, R137, R139)
(DEDUCED: log entry 45). -/
def drivenBurst (k : Nat) (bad : List (Nat × Bool)) (s : State) : State :=
  match s.drivenPos k with
  | none => s
  | some (a, b, n) =>
    let len := min n (256 - a % 256)
    let (m, s) := moveBytes bad a b len s
    let ces := (metAt bad false ((List.range 33).map (fun i => (a / 8 + i) * 8))).filter (fun w => w < a + m)
    let s := ces.foldl (fun u _ => if a < 0x60000000 then raiseF 0 ((a - 0x40000000) / 0x40000) (u.incSat (F.RC_ECC_CE ((a - 0x40000000) / 0x40000)))
      else dlyEcc .ce 0 u) s
    let s := if k = 3 then { s with dly := { s.dly with loaded := s.dly.loaded + m } }
      else if m < len then s
      else match s.disp.rot with
        | some r => { s with disp := { s.disp with rot := some (if r.hand == some .bulk then { r with copied := r.copied + 1 }
                                                                else { r with dirty := r.dirty.drop 1 }) } }
        | none => s
    let s := s.setDmaPos k (a + m) (b + m) (n - m)
    if m < len then
      dmaFault k deECC (if a < 0x60000000 then s else dlyEcc .ue 0xFFFF s)
    else s

/-- DMA_BURST_END (R137): the burst of the running channel ends, and the engine chooses the next channel. `bad` lists the words of
64 bits whose reads meet an error, and whether it is uncorrectable. -/
def dmaBurstEnd (bad : List (Nat × Bool)) (s : State) : State :=
  if !s.memOn 6 then s
  else
    dmaPick (match s.dly.running with
      | none => s
      | some k => match k with
        | 0 => fetchBurst bad s
        | 1 => flushBurst bad s
        | 2 => drivenBurst 2 bad s
        | 3 => drivenBurst 3 bad s
        | _ => dmaBurst k bad s)
def execDmaBurstEnd (bad : List (Nat × Bool)) (t : Nat) (s : State) : Host.Outcome State Fault Refusal :=
  done s (dmaBurstEnd bad (s.atTime t))

end Sys2Proof.Machine
end

