-- ==== Sys2Proof/Machine/HostChan.lean ====
section
/-!
DEFINITION. The Host Channel: frames, requests, SYNC, events and TUNE (R362–R366, R368, R373).
-/
namespace Sys2Proof.Machine

/-! ## Frames (R362, R363) -/

def htREQUEST : Nat := 0x10
def htRESPONSE : Nat := 0x11
def htEVENT : Nat := 0x12
def htSYNC : Nat := 0x13
def htSYNCACK : Nat := 0x14

/-- Byte `i` from H on, the first byte after the EtherType, and `k` bytes from there. -/
def hcByte (f : RxFrame) (i : Nat) : Nat := byteAt f.bytes (frEt f.bytes + 2 + i)
def hcAt (f : RxFrame) (i k : Nat) : Nat := beAt f.bytes (frEt f.bytes + 2 + i) k
def hcSlot (f : RxFrame) : Nat := hcByte f 2
def hcLen (f : RxFrame) : Nat := hcAt f 8 2
def hcBody (f : RxFrame) : List Byte := (f.bytes.drop (frEt f.bytes + 14)).take (hcLen f)
def hcSa (f : RxFrame) : List Byte := (f.bytes.drop 6).take 6

/-- The tag over the addresses and the bytes from H on (R362). -/
def hostTag (key addrs h : List Byte) : List Byte := (hmac key (addrs ++ h)).take 16

/-- The frame's tag is right under the key of its slot. -/
def State.tagOk (s : State) (f : RxFrame) : Bool :=
  let h := f.bytes.drop (frEt f.bytes + 2)
  hostTag (s.boot.keys.getD (hcSlot f) []) (f.bytes.take 12) (h.take (12 + hcLen f)) == (h.drop (12 + hcLen f)).take 16

/-- The frame passes the checks before its tag: known version and subtype, slot, length, an open channel, and a slot that
accepts frames from the port (R362, R363) (DEDUCED: log entry 42). -/
def State.hcForm (s : State) (f : RxFrame) : Bool :=
  let n := hcSlot f
  (hcByte f 0 == htREQUEST || hcByte f 0 == htSYNC) && hcByte f 1 == 1 && n ≤ 3 && hcLen f ≤ 1440
  && frEt f.bytes + 2 + 28 + hcLen f ≤ f.bytes.length
  && s.on F.HOST_STAT_CHAN_OPEN && !s.hostClosed (slotMaster n) && s.served (slotMaster n)
  && s.bit (F.SLOTn_CTRL_PORTS n) f.port && f.port < 4

/-- A tag failure (R363, R314). -/
def authFail (f : RxFrame) (s : State) : State := raiseF 112 (hcSlot f) (s.incSat (F.SLOTn_CNT0_AUTHFAIL (hcSlot f)))

/-- Drops the frames at the head of the queue that are dropped unserved, counting tag failures. -/
def hostDrop : List RxFrame → State → State
  | [], s => s
  | f :: l, s =>
    if s.hcForm f && s.tagOk f then s
    else
      let s := { s with net := { s.net with hostq := l } }
      hostDrop l (if s.hcForm f then authFail f s else s)

/-- The frame to serve next, if its subtype is `sub`: requests of all slots are served in order of arrival (R363). -/
def hostPop (sub : Nat) (s : State) : Option RxFrame × State :=
  let s := hostDrop s.net.hostq s
  match s.net.hostq with
  | f :: l => if hcByte f 0 == sub then (some f, { s with net := { s.net with hostq := l } }) else (none, s)
  | [] => (none, s)

/-- Sends a frame of slot `n` to address `da` on port `p` through queue 5, and counts TXSEQ (R363) (DEDUCED: log
entry 41). -/
def hostSend (n p : Nat) (da : List Byte) (sub flags seq : Nat) (body : List Byte) (s : State) : State :=
  if !s.portUp p then s
  else
    let addrs := da ++ beBytes 6 (Config.hostSa p).toNat
    let h := beBytes 1 sub ++ [1, BitVec.ofNat 8 n, BitVec.ofNat 8 flags] ++ beBytes 4 seq ++ beBytes 2 body.length ++ [0, 0] ++ body
    let tag := hostTag (s.boot.keys.getD n []) addrs h
    enqueue p { q := 5, bytes := addrs ++ [0x88, 0xB5] ++ h ++ tag } (s.inc (F.SLOTn_TXSEQ_SEQ n))

/-- FLAGS of a frame that is no part of a TUNE response (DEDUCED: log entry 41). -/
def hostFlags (sub : Nat) : Nat := (Config.hostLast sub).toNat * 4

/-! ## Operations (R364) -/

def opREAD : Nat := 1
def opWRITE : Nat := 2
def opTUNE : Nat := 3
def hsOK : Nat := 0
def hsDENIED : Nat := 1
def hsDECODE : Nat := 2
def hsBADOP : Nat := 3
def hsTOOBIG : Nat := 4

/-- One operation: OP, COUNT, OPT, ADDR and the words of a WRITE. -/
structure HostOp where
  op    : Nat
  count : Nat
  opt   : Nat
  addr  : Nat
  data  : List Nat
  deriving DecidableEq, Repr

/-- Big-endian words of a byte list. -/
def wordsBe : List Byte → List Nat
  | a :: b :: c :: d :: l => beNat [a, b, c, d] :: wordsBe l
  | _ => []

/-- Cuts a body into operations, at most `k`; the second part is the OP of one that is cut short or reserved
(DEDUCED: log entry 42). -/
def hostOps : Nat → List Byte → List HostOp × Option Nat
  | 0, _ => ([], none)
  | _, [] => ([], none)
  | k + 1, l =>
    let op := byteAt l 0
    let c := byteAt l 1
    let need := if op = opWRITE then 4 * c else 0
    if l.length < 8 + need || op = 0 || opTUNE < op then ([], some op)
    else
      let o : HostOp := ⟨op, c, byteAt l 2, beAt l 3 5, wordsBe ((l.drop 8).take need)⟩
      let (r, e) := hostOps k (l.drop (8 + need))
      (o :: r, e)

/-- The OP for which the request is BADOP (R364) (DEDUCED: log entry 42). -/
def badOp (ops : List HostOp) (cut : Option Nat) : Option Nat :=
  let tunes := fun (o : HostOp) => o.op == opTUNE
  match ops.find? (fun o => if tunes o then o.count != 0 || o.addr != 0 || ops.length != 1 else o.count = 0 || 64 < o.count) with
  | some o => some o.op
  | none => if ops.any tunes && cut.isSome then some opTUNE else cut

/-- Bytes of the record of an operation, its read data included. -/
def recLen (o : HostOp) : Nat := if o.op = opREAD then 4 + 4 * o.count else 4

/-- The OP at which the response grows beyond 1,440 bytes. -/
def tooBig : Nat → List HostOp → Option Nat
  | _, [] => none
  | n, o :: l => if 1440 < n + recLen o then some o.op else tooBig (n + recLen o) l

/-- Words of an operation, one access each, until the first refused one: words done, read data, STATUS. `es` tells what error
correction met on each word read (R94). -/
def hostWords (m : Nat) (wr : Bool) : Nat → Nat → List Nat → List Ecc → State → Nat × List Nat × Nat × State
  | 0, _, _, _, s => (0, [], hsOK, s)
  | k + 1, a, ws, es, s =>
    let v := ws.headD 0
    let t := access { m := m, a := a % 2 ^ 40, w := 4, wr := wr, val := v } v (if wr then .clean else es.headD .clean) s
    if t.bus.err then (0, [], if t.bus.decode then hsDECODE else hsDENIED, t)
    else
      let (n, d, st, u) := hostWords m wr k (a + 4) (ws.drop 1) (es.drop 1) t
      (n + 1, t.bus.data :: d, st, u)

/-- Runs the operations in order; the records and read data of the response. -/
def hostRun (m : Nat) : List HostOp → List Ecc → State → List Byte × State
  | [], _, s => ([], s)
  | o :: l, es, s =>
    let (n, d, st, t) := hostWords m (o.op == opWRITE) o.count o.addr o.data es s
    let data := if o.op == opREAD then (d.take n).flatMap (beBytes 4) else []
    let (r, u) := hostRun m l (if o.op == opREAD then es.drop o.count else es) t
    ([BitVec.ofNat 8 o.op, BitVec.ofNat 8 st, BitVec.ofNat 8 n, 0] ++ data ++ r, u)

/-- Runs the body of a request of slot `n`; the body of the response, or none where a TUNE answers later (R364, R373). -/
def hostExec (n : Nat) (asker : Nat × List Byte × Nat) (body : List Byte) (es : List Ecc) (s : State) : Option (List Byte) × State :=
  let (ops, cut) := hostOps 180 body
  let one := fun (op st : Nat) => [BitVec.ofNat 8 op, BitVec.ofNat 8 st, (0 : Byte), (0 : Byte)]
  match badOp ops cut with
  | some op => (some (one op hsBADOP), s)
  | none =>
    match ops with
    | [o] =>
      if o.op == opTUNE then
        if s.tuning n then
          let (v, s) := s.draw
          (some (one opTUNE v), tune n false none s)
        else (none, evtSettle n (tune n (bitOf o.opt 0) (some asker) s))
      else if 1440 < recLen o then (some (one o.op hsTOOBIG), s)
      else let (r, t) := hostRun (slotMaster n) ops es s; (some r, t)
    | _ =>
      match tooBig 0 ops with
      | some op => (some (one op hsTOOBIG), s)
      | none => let (r, t) := hostRun (slotMaster n) ops es s; (some r, t)

/-! ## REQUEST and SYNC -/

/-- REQUEST (R363, R364): a request whose tag is right is accepted by its sequence number, run and answered. -/
def hostRequest (f : RxFrame) (es : List Ecc) (s : State) : State :=
  let n := hcSlot f
  let seq := hcAt f 4 4
  if (seq + 2 ^ 32 - s.get (F.SLOTn_RXNEXT_SEQ n)) % 2 ^ 32 < 2 ^ 31 then
    let s := ((s.set (F.SLOTn_RXNEXT_SEQ n) (seq + 1)).set (F.SLOTn_STAT_SYNCED n) 1).set (F.SLOTn_STAT_LASTPORT n) f.port
    let s := s.setSlot n { s.slotS n with sa := hcSa f }
    match hostExec n (f.port, hcSa f, seq) (hcBody f) es s with
    | (some body, t) => hostSend n f.port (hcSa f) htRESPONSE (hostFlags htRESPONSE) seq body t
    | (none, t) => t
  else s.incSat (F.SLOTn_CNT0_REPLAY n)
def execRequest (e : EccAt) (s : State) : Host.Outcome State Fault Refusal :=
  let s1 := s.atTime e.t
  done s (match hostPop htREQUEST s1 with | (some f, u) => hostRequest f e.es u | (none, u) => u)

/-- SYNC (R365): a nonce of 16 bytes. -/
def hostSync (f : RxFrame) (s : State) : State :=
  if hcLen f != 16 then s
  else
    let n := hcSlot f
    let (r, s) := s.draw
    let s := (slotReset n s).set (F.SLOTn_RXNEXT_SEQ n) r
    hostSend n f.port (hcSa f) htSYNCACK (hostFlags htSYNCACK) (s.get (F.SLOTn_TXSEQ_SEQ n)) (hcBody f ++ beBytes 4 r) s
def execSync (t : Nat) (s : State) : Host.Outcome State Fault Refusal :=
  let s1 := s.atTime t
  done s (match hostPop htSYNC s1 with | (some f, u) => hostSync f u | (none, u) => u)

/-! ## Events (R366, R368) -/

/-- EVT_REPEAT in force, in ms (R376). -/
def State.evtRepeat (s : State) : Nat := min 10000 (max 10 (s.get F.HOST_CFG_EVT_REPEAT))

/-- The HS_IRQ_N ball is low (R368) (DEDUCED: log entry 43). -/
def State.hsIrqLow (s : State) : Bool := s.evtPending 5

/-- EVENT (R366, R368) of slot `n`: a frame on slots 0 to 3, the MSI-X vector on slot 4; slot 5 has its ball
(DEDUCED: log entry 43). -/
def hostEvent (n : Nat) (s : State) : State :=
  let x := s.slotS n
  let due := match x.evtAt with | none => true | some t => decide (t + s.evtRepeat * uMs ≤ s.now)
  let knows := 4 ≤ n || s.on (F.SLOTn_STAT_SYNCED n)
  if !s.evtPending n || !due || !knows || 5 < n || s.hostClosed (slotMaster n) then s
  else
    let s := s.setSlot n { x with evtAt := some s.now }
    if n = 4 then raiseMsix s
    else if n = 5 then s
    else
      let gen := s.get F.HOST_SUMGEN_HI_GEN * 2 ^ 32 + s.get F.HOST_SUMGEN_LO_GEN
      hostSend n (s.get (F.SLOTn_STAT_LASTPORT n)) x.sa htEVENT (hostFlags htEVENT) (s.get (F.SLOTn_TXSEQ_SEQ n))
        (beBytes 4 (s.get (F.SLOTn_EVT_EVT n) &&& s.get (F.SLOTn_EVT_EN_EN n)) ++ beBytes 8 gen) s
def execEvent (n t : Nat) (s : State) : Host.Outcome State Fault Refusal := done s (hostEvent n (s.atTime t))

/-! ## TUNE (R364, R373) -/

/-- SLOT_TUNE: the write of SLOTn_TUNE with GO = 1. -/
def execSlotTune (m n : Nat) (ack : Bool) (s : State) : Host.Outcome State Fault Refusal :=
  let v := 1 + 2 * ack.toNat
  done s (guardedV m (A.SLOTn_TUNE n) v (wrHOST (A.SLOTn_TUNE n) v) s)

/-- TUNE_DONE (R373): assembly ends; a Host Channel TUNE is answered in four parts (R364). -/
def tuneDone (n : Nat) (s : State) : State :=
  if !s.tuning n then s
  else
    let x := s.slotS n
    let ws := (List.range 1024).map (fun j => leNat ((x.snap.drop (4 * j)).take 4))
    let s := ws.zipIdx.foldl (fun u e => u.set (F.SLOTn_SUMMARY n e.2) e.1) s
    let s := ((s.set (F.SLOTn_TUNE_STAT_BUSY n) 0).set (F.SLOTn_TUNE_STAT_VALID n) 1).set (F.SLOTn_TUNE_STAT_RESULT n) tuDONE
    let s := (s.incSat (F.SLOTn_CNT1_TUNES n)).setSlot n { x with snap := [], asker := none }
    let s := if n = 5 then { s with host := { s.host with tuned := true } } else s
    match x.asker with
    | none => s
    | some (p, sa, seq) =>
      [0, 1, 2, 3].foldl (fun u k => hostSend n p sa htRESPONSE (k + (if k = 3 then 4 else 0)) seq
        ([3, 0, 0, 0] ++ (x.snap.drop (1024 * k)).take 1024) u) s
def execTuneDone (n t : Nat) (s : State) : Host.Outcome State Fault Refusal := done s (tuneDone n (s.atTime t))

end Sys2Proof.Machine
end

