-- ==== Sys2Proof/Machine/Spi.lean ====
section
/-!
DEFINITION. The SPI target: one command for each low period of its chip select (R371).
-/
namespace Sys2Proof.Machine

/-- What the command shifts out. -/
def spiOut (l : List Byte) (s : State) : State := { s with host := { s.host with out := l } }

def State.recovery (s : State) : Bool := s.sys.boot == .recovery

/-- The end of a command whose answer has `n` bytes: before the target serves commands the bits shift out as 0 (R413). -/
def doneSpi (n : Nat) (s t : State) : Host.Outcome State Fault Refusal :=
  if s.booting && !s.alive && !s.sys.off && !s.fcu.stopped then .next (spiOut (List.replicate n 0) { s with now := max s.now t.now })
  else done s t

/-- A flash operation of RECOVERY is running (R371). -/
def State.flBusy (s : State) : Bool := s.now < s.host.flEnd

/-- The status byte (R371) (DEDUCED: log entry 44). -/
def State.spiStatus (s : State) : Nat :=
  (s.tuning 5).toNat + 2 * s.host.err.toNat + 4 * (s.evtPending 5).toNat + 8 * s.host.tuned.toNat + 16 * s.recovery.toNat
    + 32 * s.host.late.toNat

/-- STATUS: the byte goes out, and ERR and LATE clear. -/
def spiStatusCmd (s : State) : State :=
  let s := spiOut [BitVec.ofNat 8 s.spiStatus] s
  { s with host := { s.host with err := false, late := false } }
def execStatus (t : Nat) (s : State) : Host.Outcome State Fault Refusal := doneSpi 1 s (spiStatusCmd (s.atTime t))

/-- Reads `n` words from `a` on as master HS; the words whose places stand in `late` have not returned in time (R371), and `es` tells
what error correction met on each (R94). -/
def spiWords (late : List Nat) (es : List Ecc) : Nat → Nat → Nat → State → List Byte × State
  | 0, _, _, s => ([], s)
  | n + 1, k, a, s =>
    let t := access { m := mHS, a := a % 2 ^ 40, w := 4, wr := false } 0 (es.getD k .clean) s
    let slow := late.contains k
    let u := { t with host := { t.host with err := t.host.err || t.bus.err, late := t.host.late || slow } }
    let (l, v) := spiWords late es n (k + 1) (a + 4) u
    (beBytes 4 (if slow then 0 else t.bus.data) ++ l, v)

def spiRead (a n : Nat) (late : List Nat) (es : List Ecc) (s : State) : State := let (l, t) := spiWords late es n 0 a s; spiOut l t
def execSpiRead (a n : Nat) (late : LateWords) (t : Nat) (s : State) : Host.Outcome State Fault Refusal :=
  doneSpi (4 * n) s (spiRead a n late.late late.es (s.atTime t))
def execQread (a n : Nat) (late : LateWords) (t : Nat) (s : State) : Host.Outcome State Fault Refusal :=
  doneSpi (4 * n) s (spiRead a n late.late late.es (s.atTime t))

/-- Writes whole words from `a` on as master HS; a refused one sets ERR (R371) (DEDUCED: log entry 44). -/
def spiWrite : Nat → List Nat → State → State
  | _, [], s => s
  | a, v :: l, s =>
    let v := v % 2 ^ 32
    let t := access { m := mHS, a := a % 2 ^ 40, w := 4, wr := true, val := v } v .clean s
    spiWrite (a + 4) l { t with host := { t.host with err := t.host.err || t.bus.err } }
def execSpiWrite (a : Nat) (ws : List Nat) (t : Nat) (s : State) : Host.Outcome State Fault Refusal :=
  done s (spiOut [] (spiWrite a ws (s.atTime t)))
def execQwrite (a : Nat) (ws : List Nat) (t : Nat) (s : State) : Host.Outcome State Fault Refusal :=
  done s (spiOut [] (spiWrite a ws (s.atTime t)))

/-- SPI_TUNE: a TUNE for slot 5; TUNED falls until its summary is complete (R371, R373) (DEDUCED: log entry 44). -/
def spiTune (ack : Bool) (s : State) : State :=
  if s.hostClosed mHS then s
  else
    let s := if s.tuning 5 then s else { s with host := { s.host with tuned := false } }
    evtSettle 5 (tune 5 ack none s)
def execSpiTune (ack : Bool) (t : Nat) (s : State) : Host.Outcome State Fault Refusal := done s (spiOut [] (spiTune ack (s.atTime t)))

/-- RESET_SLOT: the two bytes must be 0xA5 and 0x5A (R367, R371). -/
def execResetSlot (b0 b1 t : Nat) (s : State) : Host.Outcome State Fault Refusal :=
  let s1 := spiOut [] (s.atTime t)
  done s (if b0 == 0xA5 && b1 == 0x5A then slotReset 5 s1 else s1)

/-! ## Flash commands, in RECOVERY only -/

/-- Runs a flash command, which RECOVERY alone serves and a running operation holds off. -/
def flashCmd (f : State → State) (s : State) : State := if s.recovery && !s.flBusy then f s else s

/-- An operation ends at `e`; where it fails, FAIL is set and the bytes from `a` on, `n` of them, are open. -/
def flashOp (ok : Bool) (e a n : Nat) (f : State → State) (s : State) : State :=
  let s := { s with host := { s.host with flEnd := e, flFail := !ok } }
  if ok then f s
  else
    let k := s.fresh
    let new := (List.range n).foldl (fun m i => mset 0xFF (a + i) (Config.failedByte k (a + i)) m) s.flash
    { s with fresh := k + 1, flash := new }

/-- FLASH_READ of `n` bytes at flash address `a`. -/
def execFlashRead (a n t : Nat) (s : State) : Host.Outcome State Fault Refusal :=
  doneSpi n s (flashCmd (fun u => spiOut ((List.range n).map (fun i => u.fread (a + i))) u) (s.atTime t))

/-- FLASH_PROGRAM of 1 to 256 bytes within one page; the operation ends at `e`. -/
def execFlashProgram (a : Nat) (bs : List Byte) (ok : Bool) (e t : Nat) (s : State) : Host.Outcome State Fault Refusal :=
  done s (flashCmd (fun u =>
    if bs.isEmpty || 256 < a % 256 + bs.length || flashBytes ≤ a then u else flashOp ok e a bs.length (progFlash a bs) u) (s.atTime t))

/-- FLASH_ERASE of the 64 KiB sector that holds `a`. -/
def execFlashErase (a : Nat) (ok : Bool) (e t : Nat) (s : State) : Host.Outcome State Fault Refusal :=
  let b := a / 0x10000 * 0x10000
  done s (flashCmd (fun u => if flashBytes ≤ a then u else flashOp ok e b 0x10000 (eraseFlash b) u) (s.atTime t))

/-- FLASH_STATUS: BUSY and FAIL. -/
def flashStatus (s : State) : State :=
  if s.recovery then spiOut [BitVec.ofNat 8 (s.flBusy.toNat + 2 * s.host.flFail.toNat)] s else s
def execFlashStatus (t : Nat) (s : State) : Host.Outcome State Fault Refusal := doneSpi 1 s (flashStatus (s.atTime t))

end Sys2Proof.Machine
end

