-- ==== Sys2Proof/Machine/Breath.lean ====
section
/-!
DEFINITION. The start of a breath, and what commits at breath start + 100 ns (R12, R19, R33, R36, R40, R43, R59, R61, R97, R119,
R157, R200, R252).
-/
namespace Sys2Proof.Machine

/-! ## BREATH_START -/

/-- Its instant has come, and the dispatcher starts it: RUNNING, and not past the last breath of a mode apply (R19,
R33) (DEDUCED: log entry 3). -/
def State.breathDue (s : State) : Bool :=
  let n := s.nextBreath
  s.dstate == dRunning && psREADY ≤ s.domains && decide (0 ≤ s.since n)
  && !(s.sys.apply == .ramp && s.sys.applyB + 32 < n)

/-- DISP_CORE_SLEEP of the breath that ends, and a new count; the cycles executed in it are counted (R48, R61) (DESIGN CHOICE: log
entry 61). -/
def sleepStats (s : State) : State :=
  let live := s.disp.started
  let s := (List.range 136).foldl (fun u p => countCore p u) s
  let s := (List.range s.activeCores).foldl (fun u l =>
    if u.sleepOf l == .gated then
      let ns := mget 0 l u.disp.gatedNs + (u.now - mget 0 l u.disp.gatedAt) / 256
      { u with disp := { u.disp with gatedNs := mset 0 l ns u.disp.gatedNs, gatedAt := mset 0 l u.now u.disp.gatedAt } }
    else u) s
  let s := if live then
      (List.range s.activeCores).foldl (fun u l =>
        (u.set (F.DISP_CORE_SLEEP_WAKES l) (min 65535 (mget 0 l u.disp.wakes))).set
          (F.DISP_CORE_SLEEP_GATED l) (min 65535 (mget 0 l u.disp.gatedNs))) s
    else s
  { s with disp := { s.disp with wakes := [], gatedNs := [], cycles := [] } }

/-- Breath `n` is in progress (R36). What no later rule asks for is dropped: ended instances, arrivals of past
breaths (DEDUCED: log entry 9). -/
def enterBreath (n : Nat) (s : State) : State :=
  let d := s.disp
  let s := if d.started then s else { s with twin := { s.twin with left := s.now + 1 } }
  { s with disp := { s.disp with
      n := n, started := true, ran := true
      insts := d.insts.filter (fun i => i.ended.isNone || n ≤ i.breath + 2)
      arrivals := mkeep (fun k => n ≤ k / 65536 + 8) d.arrivals
      posted := mkeep (fun k => n ≤ k / 65536 + 8) d.posted
      excB := d.excB.filter (fun b => n ≤ b + 256)
      early := mkeep (fun k => n ≤ k / 65536 + 8) d.early } }

/-- Breath 0 of a new mode (R19, R106, R200, R275, R283) (DEDUCED: log entry 10). -/
def newMode (n : Nat) (s : State) : State :=
  let s := match s.sys.oldFs with
    | none => s
    | some f =>
      let s := { s with sys := { s.sys with oldFs := none } }
      bsiNewMode (sapNewMode (strmNewMode (f != s.fs) (mtxNewMode s)))
  if s.sys.apply == .anchor then { s with sys := { s.sys with apply := .rampIn, applyB := n, applyAt := s.now } } else s

/-- RUN = 0 that commits held back is acted on once none is started (R157). -/
def sampleRun (s : State) : State :=
  if s.disp.stopHeld && s.get F.RVC_STAT_STARTED == 0 then
    let s := { s with disp := { s.disp with stopHeld := false } }
    if s.on F.DISP_CTRL_RUN then s else s.set F.DISP_STAT_STATE dStopping
  else s

/-- Logical cores whose spare is ready restart (R59). -/
def restartDue (n : Nat) (s : State) : State :=
  s.disp.fenceTl.foldl (fun u e =>
    match e.2 with
    | some f => (match f.restart with | some r => if r ≤ n then restartFenced e.1 u else u | none => u)
    | none => u) s

/-- Every section that runs has its tasks armed; one that is ready starts with reset state (R19, R33, R40). The sections of a
boot start with BOOT_BREATH_ZERO (DEDUCED: log entry 10). -/
def armAll (n : Nat) (s : State) : State :=
  let run := (List.range 16).filter (fun i => s.secArms i n && !s.suspended i)
  let s := if s.sys.bootZero then s else
    (List.range 16).foldl (fun u i => if (u.sec i).ready && u.secState i == secWAITING then startSection i n false u else u) s
  run.foldl (fun u i => armSection n i u) s

/-- BREATH_START (R36, R40) (DEDUCED: log entry 10). -/
def breathStart (s : State) : State :=
  if !s.breathDue then s
  else
    let n := s.nextBreath
    let fresh := !s.disp.started
    let s := newMode n (enterBreath n (sleepStats s))
    let s := if fresh then strmResume n s else s
    let s := applyBreath n (sampleRun (twinBreath n (roleResolve s)))
    let s := armAll n (restartDue n (swapBreath n s))
    let s := survBreath n (strmBreath n (asrcStart n s))
    let s := (List.range 8).foldl (fun u k => trigBreath k u) s
    (List.range s.activeCores).foldl (fun u l => gateCheck l u) s
def execBreathStart (t : Nat) (s : State) : Host.Outcome State Fault Refusal := done s (breathStart (s.atTime t))

/-! ## TAP_DEFAULT_COMMIT -/

/-- Reed-output taps that instances of breath `n` commit. -/
def State.instTaps (s : State) (n : Nat) : List Nat :=
  (s.instsOf (fun i _ => i.breath == n && i.ended != some .fenced)).flatMap (fun x => x.2.taps)

/-- Commits `f t` for breath `n` to the taps of a list. -/
def commitEach (ts : List Nat) (n : Nat) (f : State → Nat → Int) (s : State) : State :=
  ts.foldl (fun u t => commitTap t (f u t) n u) s

/-- Taps of fenced cores follow R59, those of a stopped set repeat (R307) (DEDUCED: log entry 11). -/
def commitIdle (n : Nat) (s : State) : State :=
  let s := s.disp.fenceTl.foldl (fun u e =>
    match e.2 with
    | some f => if u.awaitsSpare e.1 n then commitEach (u.coreTaps e.1) n (fun v t => v.fencedTap f n t) u else u
    | none => u) s
  ((List.range 16).filter s.suspended).foldl (fun u i => commitEach (u.sec i).own.taps n (fun v t => (v.tap t).cur) u) s

/-- Zeroes for breath `n`, from tap `t` on, the next `k` taps that satisfy `p`. -/
def zeroTaps (p : Nat → Bool) (n : Nat) : Nat → Nat → SMap TapS → SMap TapS
  | _, 0, m => m
  | t, k + 1, [] => if p t then (t, ⟨0, 0, 0, n + 1⟩) :: zeroTaps p n (t + 1) k [] else zeroTaps p n (t + 1) k []
  | t, k + 1, (j, x) :: r =>
    if j = t then (t, if p t then ⟨0, x.cur, x.prev, n + 1⟩ else x) :: zeroTaps p n (t + 1) k r
    else if p t then (t, ⟨0, 0, 0, n + 1⟩) :: zeroTaps p n (t + 1) k ((j, x) :: r)
    else zeroTaps p n (t + 1) k ((j, x) :: r)

/-- Every tap that satisfies `p` commits 0 for breath `n`; outputs and lines that take one of them take 0 (R97, R112,
R127) (DEDUCED: log entry 11). -/
def commitZero (p : Nat → Bool) (n : Nat) (s : State) : State :=
  let outs := s.fld.filterMap (fun e =>
    let a := e.1 / 32
    let o := (a - 0x20064000) / 4
    if 0x20064000 ≤ a && a < 0x20068C00 && e.1 % 32 == 0 && outMapped (s.outEntry o) && p (bits 12 0 (s.outEntry o)) then some o else none)
  let lines := s.linesV.filter (fun j => p (s.lineSrc j))
  let s := { s with mtx := { s.mtx with taps := zeroTaps p n 0 busTap0 s.mtx.taps } }
  lines.foldl (recordLine 0 n) (outs.foldl (fun u o => formatStep o 0 n u) s)

/-- The converters' taps (R117, R119). -/
def commitAsrc (n : Nat) (s : State) : State :=
  (List.range 256).foldl (fun u k => let (v, w) := asrcBreath k u; commitTap (0x0E00 + k) v n w) s

/-- TAP_DEFAULT_COMMIT (R41, R97): 100 ns into the breath, the converters' taps commit, and every tap that nothing owns
commits 0 (DEDUCED: log entry 11). -/
def tapDefaults (s : State) : State :=
  let n := s.n
  if !s.breathing || !s.disp.started || n < s.disp.defaultB || !s.reached n 100 then s
  else
    let s := { s with disp := { s.disp with defaultB := n + 1 } }
    let s := bsiDefaults n (sapDefaults n (commitIdle n (commitAsrc n s)))
    let mine := s.instTaps n
    let streams := s.strm.st.filter (fun e => e.1 < 64 && e.2.live)
    let owned := fun (t : Nat) => streams.any (fun e => s.tapBase e.1 ≤ t && t < s.tapBase e.1 + s.strmCh e.1)
    let p := fun (t : Nat) =>
      !s.committed t n && (if t < 0x0C00 then !owned t else if reedTap0 ≤ t && t < busTap0 then !mine.contains t else false)
    commitZero p n s
def execTapDefaultCommit (t : Nat) (s : State) : Host.Outcome State Fault Refusal := done s (tapDefaults (s.atTime t))

end Sys2Proof.Machine
end

