-- ==== Sys2Proof/Machine/ReedRows.lean ====
section
/-!
DEFINITION. The rows of the reed instructions: core `p` fetches its next instruction, which is of this row. `e` tells
what error correction met on the reads of the fetch (R94). Where the word fetched is of another row, nothing happens.
-/
namespace Sys2Proof.Machine

/-- NOP (R74–R76): OP 0x00. -/
def execNop (p : Nat) (e : Ecc) (s : State) : Host.Outcome State Fault Refusal := done s (fetchOne p e (rowIs 0x00 0) effNop s)
/-- TEND (R74–R76): OP 0x01. -/
def execTend (p : Nat) (e : Ecc) (s : State) : Host.Outcome State Fault Refusal := done s (fetchOne p e (rowIs 0x01 0) effTend s)
/-- B (R74–R76): OP 0x02. -/
def execB (p : Nat) (e : Ecc) (s : State) : Host.Outcome State Fault Refusal := done s (fetchOne p e (rowIs 0x02 0) effB s)
/-- BC (R74–R76): OP 0x03. -/
def execBc (p : Nat) (e : Ecc) (s : State) : Host.Outcome State Fault Refusal := done s (fetchOne p e (rowIs 0x03 0) effBc s)
/-- CALL (R74–R76): OP 0x04. -/
def execCall (p : Nat) (e : Ecc) (s : State) : Host.Outcome State Fault Refusal := done s (fetchOne p e (rowIs 0x04 0) effCall s)
/-- JR (R74–R76): OP 0x05. -/
def execJr (p : Nat) (e : Ecc) (s : State) : Host.Outcome State Fault Refusal := done s (fetchOne p e (rowIs 0x05 0) effJr s)
/-- LOOP (R74–R76): OP 0x06. -/
def execLoop (p : Nat) (e : Ecc) (s : State) : Host.Outcome State Fault Refusal := done s (fetchOne p e (rowIs 0x06 0) effLoop s)
/-- LOOPR (R74–R76): OP 0x07. -/
def execLoopr (p : Nat) (e : Ecc) (s : State) : Host.Outcome State Fault Refusal := done s (fetchOne p e (rowIs 0x07 0) effLoopr s)
/-- TRAP (R74–R76): OP 0x08. -/
def execTrap (p : Nat) (e : Ecc) (s : State) : Host.Outcome State Fault Refusal := done s (fetchOne p e (rowIs 0x08 0) effTrap s)
/-- RTI (R74–R76): OP 0x09. -/
def execRti (p : Nat) (e : Ecc) (s : State) : Host.Outcome State Fault Refusal := done s (fetchOne p e (rowIs 0x09 0) effRti s)
/-- MVS (R74–R76): OP 0x0a. -/
def execMvs (p : Nat) (e : Ecc) (s : State) : Host.Outcome State Fault Refusal := done s (fetchOne p e (rowIs 0x0a 0) effMvs s)
/-- MFS (R74–R76): OP 0x0b. -/
def execMfs (p : Nat) (e : Ecc) (s : State) : Host.Outcome State Fault Refusal := done s (fetchOne p e (rowIs 0x0b 0) effMfs s)
/-- MVI (R74–R76): OP 0x0c. -/
def execMvi (p : Nat) (e : Ecc) (s : State) : Host.Outcome State Fault Refusal := done s (fetchOne p e (rowIs 0x0c 0) effMvi s)
/-- ADD (R74–R76): OP 0x10, function 0. -/
def execAdd (p : Nat) (e : Ecc) (s : State) : Host.Outcome State Fault Refusal := done s (fetchOne p e (rowIs 0x10 0) effAdd s)
/-- SUB (R74–R76): OP 0x10, function 1. -/
def execSub (p : Nat) (e : Ecc) (s : State) : Host.Outcome State Fault Refusal := done s (fetchOne p e (rowIs 0x10 1) effSub s)
/-- ADDS (R74–R76): OP 0x10, function 2. -/
def execAdds (p : Nat) (e : Ecc) (s : State) : Host.Outcome State Fault Refusal := done s (fetchOne p e (rowIs 0x10 2) effAdds s)
/-- SUBS (R74–R76): OP 0x10, function 3. -/
def execSubs (p : Nat) (e : Ecc) (s : State) : Host.Outcome State Fault Refusal := done s (fetchOne p e (rowIs 0x10 3) effSubs s)
/-- AND (R74–R76): OP 0x10, function 4. -/
def execAnd (p : Nat) (e : Ecc) (s : State) : Host.Outcome State Fault Refusal := done s (fetchOne p e (rowIs 0x10 4) effAnd s)
/-- OR (R74–R76): OP 0x10, function 5. -/
def execOr (p : Nat) (e : Ecc) (s : State) : Host.Outcome State Fault Refusal := done s (fetchOne p e (rowIs 0x10 5) effOr s)
/-- XOR (R74–R76): OP 0x10, function 6. -/
def execXor (p : Nat) (e : Ecc) (s : State) : Host.Outcome State Fault Refusal := done s (fetchOne p e (rowIs 0x10 6) effXor s)
/-- MIN (R74–R76): OP 0x10, function 7. -/
def execMin (p : Nat) (e : Ecc) (s : State) : Host.Outcome State Fault Refusal := done s (fetchOne p e (rowIs 0x10 7) effMin s)
/-- MAX (R74–R76): OP 0x10, function 8. -/
def execMax (p : Nat) (e : Ecc) (s : State) : Host.Outcome State Fault Refusal := done s (fetchOne p e (rowIs 0x10 8) effMax s)
/-- ABSS (R74–R76): OP 0x10, function 9. -/
def execAbss (p : Nat) (e : Ecc) (s : State) : Host.Outcome State Fault Refusal := done s (fetchOne p e (rowIs 0x10 9) effAbss s)
/-- SHL (R74–R76): OP 0x10, function 10. -/
def execShl (p : Nat) (e : Ecc) (s : State) : Host.Outcome State Fault Refusal := done s (fetchOne p e (rowIs 0x10 10) effShl s)
/-- SHR (R74–R76): OP 0x10, function 11. -/
def execShr (p : Nat) (e : Ecc) (s : State) : Host.Outcome State Fault Refusal := done s (fetchOne p e (rowIs 0x10 11) effShr s)
/-- SHRA (R74–R76): OP 0x10, function 12. -/
def execShra (p : Nat) (e : Ecc) (s : State) : Host.Outcome State Fault Refusal := done s (fetchOne p e (rowIs 0x10 12) effShra s)
/-- SLT (R74–R76): OP 0x10, function 13. -/
def execSlt (p : Nat) (e : Ecc) (s : State) : Host.Outcome State Fault Refusal := done s (fetchOne p e (rowIs 0x10 13) effSlt s)
/-- ADDI (R74–R76): OP 0x11. -/
def execAddi (p : Nat) (e : Ecc) (s : State) : Host.Outcome State Fault Refusal := done s (fetchOne p e (rowIs 0x11 0) effAddi s)
/-- LDI (R74–R76): OP 0x12. -/
def execLdi (p : Nat) (e : Ecc) (s : State) : Host.Outcome State Fault Refusal := done s (fetchOne p e (rowIs 0x12 0) effLdi s)
/-- SHI_SHL (R74–R76): OP 0x13, function 0. -/
def execShiShl (p : Nat) (e : Ecc) (s : State) : Host.Outcome State Fault Refusal := done s (fetchOne p e (rowIs 0x13 0) effShiShl s)
/-- SHI_SHR (R74–R76): OP 0x13, function 1. -/
def execShiShr (p : Nat) (e : Ecc) (s : State) : Host.Outcome State Fault Refusal := done s (fetchOne p e (rowIs 0x13 1) effShiShr s)
/-- SHI_SHRA (R74–R76): OP 0x13, function 2. -/
def execShiShra (p : Nat) (e : Ecc) (s : State) : Host.Outcome State Fault Refusal := done s (fetchOne p e (rowIs 0x13 2) effShiShra s)
/-- SHLS (R74–R76): OP 0x13, function 3. -/
def execShls (p : Nat) (e : Ecc) (s : State) : Host.Outcome State Fault Refusal := done s (fetchOne p e (rowIs 0x13 3) effShls s)
/-- LDX (R74–R76): OP 0x18. -/
def execLdx (p : Nat) (e : Ecc) (s : State) : Host.Outcome State Fault Refusal := done s (fetchOne p e (rowIs 0x18 0) effLdx s)
/-- LDY (R74–R76): OP 0x19. -/
def execLdy (p : Nat) (e : Ecc) (s : State) : Host.Outcome State Fault Refusal := done s (fetchOne p e (rowIs 0x19 0) effLdy s)
/-- STX (R74–R76): OP 0x1a. -/
def execStx (p : Nat) (e : Ecc) (s : State) : Host.Outcome State Fault Refusal := done s (fetchOne p e (rowIs 0x1a 0) effStx s)
/-- STY (R74–R76): OP 0x1b. -/
def execSty (p : Nat) (e : Ecc) (s : State) : Host.Outcome State Fault Refusal := done s (fetchOne p e (rowIs 0x1b 0) effSty s)
/-- STXA (R74–R76): OP 0x1c. -/
def execStxa (p : Nat) (e : Ecc) (s : State) : Host.Outcome State Fault Refusal := done s (fetchOne p e (rowIs 0x1c 0) effStxa s)
/-- STYA (R74–R76): OP 0x1d. -/
def execStya (p : Nat) (e : Ecc) (s : State) : Host.Outcome State Fault Refusal := done s (fetchOne p e (rowIs 0x1d 0) effStya s)
/-- MUL_MPY (R74–R76): OP 0x20, function 0. -/
def execMulMpy (p : Nat) (e : Ecc) (s : State) : Host.Outcome State Fault Refusal := done s (fetchOne p e (rowIs 0x20 0) effMulMpy s)
/-- MUL_MAC (R74–R76): OP 0x20, function 1. -/
def execMulMac (p : Nat) (e : Ecc) (s : State) : Host.Outcome State Fault Refusal := done s (fetchOne p e (rowIs 0x20 1) effMulMac s)
/-- MUL_MSU (R74–R76): OP 0x20, function 2. -/
def execMulMsu (p : Nat) (e : Ecc) (s : State) : Host.Outcome State Fault Refusal := done s (fetchOne p e (rowIs 0x20 2) effMulMsu s)
/-- DMUL_MPY (R74–R76): OP 0x21, function 0. -/
def execDmulMpy (p : Nat) (e : Ecc) (s : State) : Host.Outcome State Fault Refusal := done s (fetchOne p e (rowIs 0x21 0) effDmulMpy s)
/-- DMUL_MAC (R74–R76): OP 0x21, function 1. -/
def execDmulMac (p : Nat) (e : Ecc) (s : State) : Host.Outcome State Fault Refusal := done s (fetchOne p e (rowIs 0x21 1) effDmulMac s)
/-- DMUL_MSU (R74–R76): OP 0x21, function 2. -/
def execDmulMsu (p : Nat) (e : Ecc) (s : State) : Host.Outcome State Fault Refusal := done s (fetchOne p e (rowIs 0x21 2) effDmulMsu s)
/-- MULM_MPY (R74–R76): OP 0x22, function 0. -/
def execMulmMpy (p : Nat) (e : Ecc) (s : State) : Host.Outcome State Fault Refusal := done s (fetchOne p e (rowIs 0x22 0) effMulmMpy s)
/-- MULM_MAC (R74–R76): OP 0x22, function 1. -/
def execMulmMac (p : Nat) (e : Ecc) (s : State) : Host.Outcome State Fault Refusal := done s (fetchOne p e (rowIs 0x22 1) effMulmMac s)
/-- MULM_MSU (R74–R76): OP 0x22, function 2. -/
def execMulmMsu (p : Nat) (e : Ecc) (s : State) : Host.Outcome State Fault Refusal := done s (fetchOne p e (rowIs 0x22 2) effMulmMsu s)
/-- DMULM_MPY (R74–R76): OP 0x23, function 0. -/
def execDmulmMpy (p : Nat) (e : Ecc) (s : State) : Host.Outcome State Fault Refusal := done s (fetchOne p e (rowIs 0x23 0) effDmulmMpy s)
/-- DMULM_MAC (R74–R76): OP 0x23, function 1. -/
def execDmulmMac (p : Nat) (e : Ecc) (s : State) : Host.Outcome State Fault Refusal := done s (fetchOne p e (rowIs 0x23 1) effDmulmMac s)
/-- DMULM_MSU (R74–R76): OP 0x23, function 2. -/
def execDmulmMsu (p : Nat) (e : Ecc) (s : State) : Host.Outcome State Fault Refusal := done s (fetchOne p e (rowIs 0x23 2) effDmulmMsu s)
/-- FTAP (R74–R76): OP 0x24. -/
def execFtap (p : Nat) (e : Ecc) (s : State) : Host.Outcome State Fault Refusal := done s (fetchOne p e (rowIs 0x24 0) effFtap s)
/-- FTAP2 (R74–R76): OP 0x25. -/
def execFtap2 (p : Nat) (e : Ecc) (s : State) : Host.Outcome State Fault Refusal := done s (fetchOne p e (rowIs 0x25 0) effFtap2 s)
/-- CLRA (R74–R76): OP 0x26, function 0. -/
def execClra (p : Nat) (e : Ecc) (s : State) : Host.Outcome State Fault Refusal := done s (fetchOne p e (rowIs 0x26 0) effClra s)
/-- MOVA (R74–R76): OP 0x26, function 1. -/
def execMova (p : Nat) (e : Ecc) (s : State) : Host.Outcome State Fault Refusal := done s (fetchOne p e (rowIs 0x26 1) effMova s)
/-- ADDA (R74–R76): OP 0x26, function 2. -/
def execAdda (p : Nat) (e : Ecc) (s : State) : Host.Outcome State Fault Refusal := done s (fetchOne p e (rowIs 0x26 2) effAdda s)
/-- SUBA (R74–R76): OP 0x26, function 3. -/
def execSuba (p : Nat) (e : Ecc) (s : State) : Host.Outcome State Fault Refusal := done s (fetchOne p e (rowIs 0x26 3) effSuba s)
/-- ACCSH (R74–R76): OP 0x26, function 4. -/
def execAccsh (p : Nat) (e : Ecc) (s : State) : Host.Outcome State Fault Refusal := done s (fetchOne p e (rowIs 0x26 4) effAccsh s)
/-- RND (R74–R76): OP 0x26, function 5. -/
def execRnd (p : Nat) (e : Ecc) (s : State) : Host.Outcome State Fault Refusal := done s (fetchOne p e (rowIs 0x26 5) effRnd s)
/-- LDA (R74–R76): OP 0x26, function 6. -/
def execLda (p : Nat) (e : Ecc) (s : State) : Host.Outcome State Fault Refusal := done s (fetchOne p e (rowIs 0x26 6) effLda s)
/-- TRD (R74–R76): OP 0x28. -/
def execTrd (p : Nat) (e : Ecc) (s : State) : Host.Outcome State Fault Refusal := done s (fetchOne p e (rowIs 0x28 0) effTrd s)
/-- TWR (R74–R76): OP 0x29. -/
def execTwr (p : Nat) (e : Ecc) (s : State) : Host.Outcome State Fault Refusal := done s (fetchOne p e (rowIs 0x29 0) effTwr s)

end Sys2Proof.Machine
end

