-- ==== Sys2Proof/Machine/Dispatch.lean ====
section
/-!
DEFINITION. The meaning of each command, arm by arm.
-/
namespace Sys2Proof.Machine

/-- The effect of a command on everything but the queue. -/
def exec (i : Instr) (s : State) : Host.Outcome State Fault Refusal :=
  match i with
  | .registerWrite m a v => Sys2Proof.Machine.execRegisterWrite m a v s
  | .pairLowRead m a => Sys2Proof.Machine.execPairLowRead m a s
  | .memoryAccess via m a w wr v e => Sys2Proof.Machine.execMemoryAccess via m a w wr v e s
  | .powerOnReset e => Sys2Proof.Machine.execPowerOnReset e s
  | .aonLoss e => Sys2Proof.Machine.execAonLoss e s
  | .xoCheck ok t => Sys2Proof.Machine.execXoCheck ok t s
  | .railStart r passes t => Sys2Proof.Machine.execRailStart r passes t s
  | .railSeqTimeout r t => Sys2Proof.Machine.execRailSeqTimeout r t s
  | .dramTrainingDone t => Sys2Proof.Machine.execDramTrainingDone t s
  | .journalScan t => Sys2Proof.Machine.execJournalScan t s
  | .slotChoose t => Sys2Proof.Machine.execSlotChoose t s
  | .directoryCheck t => Sys2Proof.Machine.execDirectoryCheck t s
  | .bootConfiguration t => Sys2Proof.Machine.execBootConfiguration t s
  | .holdupMeasureDone v0 us t => Sys2Proof.Machine.execHoldupMeasureDone v0 us t s
  | .voiceImageBootLoad t => Sys2Proof.Machine.execVoiceImageBootLoad t s
  | .bootBreathZero t => Sys2Proof.Machine.execBootBreathZero t s
  | .modeApply m v => Sys2Proof.Machine.execModeApply m v s
  | .modeLastBreath t => Sys2Proof.Machine.execModeLastBreath t s
  | .clocksReconfigured t => Sys2Proof.Machine.execClocksReconfigured t s
  | .applyAnchorTimeout t => Sys2Proof.Machine.execApplyAnchorTimeout t s
  | .applyDone t => Sys2Proof.Machine.execApplyDone t s
  | .unitReset m v => Sys2Proof.Machine.execUnitReset m v s
  | .unitResetRelease t => Sys2Proof.Machine.execUnitResetRelease t s
  | .warmRestart m v => Sys2Proof.Machine.execWarmRestart m v s
  | .resetN t => Sys2Proof.Machine.execResetN t s
  | .watchdogExpiry t => Sys2Proof.Machine.execWatchdogExpiry t s
  | .dispRun m v => Sys2Proof.Machine.execDispRun m v s
  | .dispStop m v => Sys2Proof.Machine.execDispStop m v s
  | .breathStart t => Sys2Proof.Machine.execBreathStart t s
  | .dispStopped t => Sys2Proof.Machine.execDispStopped t s
  | .taskTimeTrigger l k b t => Sys2Proof.Machine.execTaskTimeTrigger l k b t s
  | .coreWake l t => Sys2Proof.Machine.execCoreWake l t s
  | .instanceStart l k b t => Sys2Proof.Machine.execInstanceStart l k b t s
  | .deadlineMiss l k b t => Sys2Proof.Machine.execDeadlineMiss l k b t s
  | .instanceAbort p t => Sys2Proof.Machine.execInstanceAbort p t s
  | .instanceComplete p t => Sys2Proof.Machine.execInstanceComplete p t s
  | .clrCore m => Sys2Proof.Machine.execClrCore m s
  | .clrTbt m => Sys2Proof.Machine.execClrTbt m s
  | .clrEvt m => Sys2Proof.Machine.execClrEvt m s
  | .clrMiss m => Sys2Proof.Machine.execClrMiss m s
  | .tbtDataRead m => Sys2Proof.Machine.execTbtDataRead m s
  | .rotationStepStart t => Sys2Proof.Machine.execRotationStepStart t s
  | .handoverBulkDone t => Sys2Proof.Machine.execHandoverBulkDone t s
  | .handoverCatchupDone t => Sys2Proof.Machine.execHandoverCatchupDone t s
  | .handoverSwitch t => Sys2Proof.Machine.execHandoverSwitch t s
  | .bistStart t => Sys2Proof.Machine.execBistStart t s
  | .bistEnd ok t => Sys2Proof.Machine.execBistEnd ok t s
  | .bistRequest m v => Sys2Proof.Machine.execBistRequest m v s
  | .spareSelect l t => Sys2Proof.Machine.execSpareSelect l t s
  | .fenceRampOut l t => Sys2Proof.Machine.execFenceRampOut l t s
  | .spareLoadDone l t => Sys2Proof.Machine.execSpareLoadDone l t s
  | .nop p e => Sys2Proof.Machine.execNop p e s
  | .tend p e => Sys2Proof.Machine.execTend p e s
  | .b p e => Sys2Proof.Machine.execB p e s
  | .bc p e => Sys2Proof.Machine.execBc p e s
  | .call p e => Sys2Proof.Machine.execCall p e s
  | .jr p e => Sys2Proof.Machine.execJr p e s
  | .loop p e => Sys2Proof.Machine.execLoop p e s
  | .loopr p e => Sys2Proof.Machine.execLoopr p e s
  | .trap p e => Sys2Proof.Machine.execTrap p e s
  | .rti p e => Sys2Proof.Machine.execRti p e s
  | .mvs p e => Sys2Proof.Machine.execMvs p e s
  | .mfs p e => Sys2Proof.Machine.execMfs p e s
  | .mvi p e => Sys2Proof.Machine.execMvi p e s
  | .add p e => Sys2Proof.Machine.execAdd p e s
  | .sub p e => Sys2Proof.Machine.execSub p e s
  | .adds p e => Sys2Proof.Machine.execAdds p e s
  | .subs p e => Sys2Proof.Machine.execSubs p e s
  | .iAnd p e => Sys2Proof.Machine.execAnd p e s
  | .iOr p e => Sys2Proof.Machine.execOr p e s
  | .xor p e => Sys2Proof.Machine.execXor p e s
  | .min p e => Sys2Proof.Machine.execMin p e s
  | .max p e => Sys2Proof.Machine.execMax p e s
  | .abss p e => Sys2Proof.Machine.execAbss p e s
  | .shl p e => Sys2Proof.Machine.execShl p e s
  | .shr p e => Sys2Proof.Machine.execShr p e s
  | .shra p e => Sys2Proof.Machine.execShra p e s
  | .slt p e => Sys2Proof.Machine.execSlt p e s
  | .addi p e => Sys2Proof.Machine.execAddi p e s
  | .ldi p e => Sys2Proof.Machine.execLdi p e s
  | .shiShl p e => Sys2Proof.Machine.execShiShl p e s
  | .shiShr p e => Sys2Proof.Machine.execShiShr p e s
  | .shiShra p e => Sys2Proof.Machine.execShiShra p e s
  | .shls p e => Sys2Proof.Machine.execShls p e s
  | .ldx p e => Sys2Proof.Machine.execLdx p e s
  | .ldy p e => Sys2Proof.Machine.execLdy p e s
  | .stx p e => Sys2Proof.Machine.execStx p e s
  | .sty p e => Sys2Proof.Machine.execSty p e s
  | .stxa p e => Sys2Proof.Machine.execStxa p e s
  | .stya p e => Sys2Proof.Machine.execStya p e s
  | .mulMpy p e => Sys2Proof.Machine.execMulMpy p e s
  | .mulMac p e => Sys2Proof.Machine.execMulMac p e s
  | .mulMsu p e => Sys2Proof.Machine.execMulMsu p e s
  | .dmulMpy p e => Sys2Proof.Machine.execDmulMpy p e s
  | .dmulMac p e => Sys2Proof.Machine.execDmulMac p e s
  | .dmulMsu p e => Sys2Proof.Machine.execDmulMsu p e s
  | .mulmMpy p e => Sys2Proof.Machine.execMulmMpy p e s
  | .mulmMac p e => Sys2Proof.Machine.execMulmMac p e s
  | .mulmMsu p e => Sys2Proof.Machine.execMulmMsu p e s
  | .dmulmMpy p e => Sys2Proof.Machine.execDmulmMpy p e s
  | .dmulmMac p e => Sys2Proof.Machine.execDmulmMac p e s
  | .dmulmMsu p e => Sys2Proof.Machine.execDmulmMsu p e s
  | .ftap p e => Sys2Proof.Machine.execFtap p e s
  | .ftap2 p e => Sys2Proof.Machine.execFtap2 p e s
  | .clra p e => Sys2Proof.Machine.execClra p e s
  | .mova p e => Sys2Proof.Machine.execMova p e s
  | .adda p e => Sys2Proof.Machine.execAdda p e s
  | .suba p e => Sys2Proof.Machine.execSuba p e s
  | .accsh p e => Sys2Proof.Machine.execAccsh p e s
  | .rnd p e => Sys2Proof.Machine.execRnd p e s
  | .lda p e => Sys2Proof.Machine.execLda p e s
  | .trd p e => Sys2Proof.Machine.execTrd p e s
  | .twr p e => Sys2Proof.Machine.execTwr p e s
  | .interruptEntry p => Sys2Proof.Machine.execInterruptEntry p s
  | .interruptReturn p => Sys2Proof.Machine.execInterruptReturn p s
  | .debugHalt m p v => Sys2Proof.Machine.execDebugHalt m p v s
  | .coreHalted p t => Sys2Proof.Machine.execCoreHalted p t s
  | .debugStep m p v => Sys2Proof.Machine.execDebugStep m p v s
  | .clrEccCe m p => Sys2Proof.Machine.execClrEccCe m p s
  | .tapDefaultCommit t => Sys2Proof.Machine.execTapDefaultCommit t s
  | .busComplete n b t => Sys2Proof.Machine.execBusComplete n b t s
  | .zcTimeout src bus b t => Sys2Proof.Machine.execZcTimeout src bus b t s
  | .gainRampEnd src bus t => Sys2Proof.Machine.execGainRampEnd src bus t s
  | .matrixSwapRequest m v => Sys2Proof.Machine.execMatrixSwapRequest m v s
  | .swapValidationDone t => Sys2Proof.Machine.execSwapValidationDone t s
  | .matrixSwap t => Sys2Proof.Machine.execMatrixSwap t s
  | .swapDone t => Sys2Proof.Machine.execSwapDone t s
  | .clrFmtsat m => Sys2Proof.Machine.execClrFmtsat m s
  | .clrBussat m => Sys2Proof.Machine.execClrBussat m s
  | .mailboxPost m k v => Sys2Proof.Machine.execMailboxPost m k v s
  | .mailboxApply k t => Sys2Proof.Machine.execMailboxApply k t s
  | .mailboxWordLand l t => Sys2Proof.Machine.execMailboxWordLand l t s
  | .asrcLock k t => Sys2Proof.Machine.execAsrcLock k t s
  | .asrcUnlock k range t => Sys2Proof.Machine.execAsrcUnlock k range t s
  | .delayDelivery j t => Sys2Proof.Machine.execDelayDelivery j t s
  | .delayFetchIssue j t => Sys2Proof.Machine.execDelayFetchIssue j t s
  | .delayLate j flush k t => Sys2Proof.Machine.execDelayLate j flush k t s
  | .delayChangePost m v => Sys2Proof.Machine.execDelayChangePost m v s
  | .delayChangeApply j t => Sys2Proof.Machine.execDelayChangeApply j t s
  | .delayXfadeEnd j t => Sys2Proof.Machine.execDelayXfadeEnd j t s
  | .scrubRead e t => Sys2Proof.Machine.execScrubRead e t s
  | .dmaGo m k v => Sys2Proof.Machine.execDmaGo m k v s
  | .dmaAbort m k v => Sys2Proof.Machine.execDmaAbort m k v s
  | .dmaBurstEnd bad t => Sys2Proof.Machine.execDmaBurstEnd bad t s
  | .arbitrate tg reqs t => Sys2Proof.Machine.execArbitrate tg reqs t s
  | .clrArbStats m => Sys2Proof.Machine.execClrArbStats m s
  | .acquire m j tk => Sys2Proof.Machine.execAcquire m j tk s
  | .renew m j tk => Sys2Proof.Machine.execRenew m j tk s
  | .release m j tk => Sys2Proof.Machine.execRelease m j tk s
  | .verify m j tk => Sys2Proof.Machine.execVerify m j tk s
  | .verifyDone j t => Sys2Proof.Machine.execVerifyDone j t s
  | .reopen m j tk => Sys2Proof.Machine.execReopen m j tk s
  | .commit m j tk => Sys2Proof.Machine.execCommit m j tk s
  | .vacate m j tk => Sys2Proof.Machine.execVacate m j tk s
  | .cancel m j tk => Sys2Proof.Machine.execCancel m j tk s
  | .leaseLapse j t => Sys2Proof.Machine.execLeaseLapse j t s
  | .forcedBreak m v => Sys2Proof.Machine.execForcedBreak m v s
  | .commitRampout j t => Sys2Proof.Machine.execCommitRampout j t s
  | .commitDrain j t => Sys2Proof.Machine.execCommitDrain j t s
  | .commitLoading j t => Sys2Proof.Machine.execCommitLoading j t s
  | .commitLoadDone j t => Sys2Proof.Machine.execCommitLoadDone j t s
  | .commitRestart j t => Sys2Proof.Machine.execCommitRestart j t s
  | .rampinEnd j t => Sys2Proof.Machine.execRampinEnd j t s
  | .clrLoadmax m => Sys2Proof.Machine.execClrLoadmax m s
  | .portEnable m p v => Sys2Proof.Machine.execPortEnable m p v s
  | .portDisable m p v => Sys2Proof.Machine.execPortDisable m p v s
  | .anPageExchange p ab t => Sys2Proof.Machine.execAnPageExchange p ab t s
  | .anBreakLinkTimer p t => Sys2Proof.Machine.execAnBreakLinkTimer p t s
  | .trainingComplete p t => Sys2Proof.Machine.execTrainingComplete p t s
  | .trainingTimeout p t => Sys2Proof.Machine.execTrainingTimeout p t s
  | .linkUp p e => Sys2Proof.Machine.execLinkUp p e s
  | .alignTimeout p t => Sys2Proof.Machine.execAlignTimeout p t s
  | .linkDown p rfault pins t => Sys2Proof.Machine.execLinkDown p rfault pins t s
  | .speedStep p pins t => Sys2Proof.Machine.execSpeedStep p pins t s
  | .lpiEnter p t => Sys2Proof.Machine.execLpiEnter p t s
  | .moduleInsert p los txf t => Sys2Proof.Machine.execModuleInsert p los txf t s
  | .moduleIdRead p bs t => Sys2Proof.Machine.execModuleIdRead p bs t s
  | .moduleRemove p t => Sys2Proof.Machine.execModuleRemove p t s
  | .ddmPoll p bs t => Sys2Proof.Machine.execDdmPoll p bs t s
  | .sfpRead m p dev ofs len => Sys2Proof.Machine.execSfpRead m p dev ofs len s
  | .sfpWrite m p dev ofs len => Sys2Proof.Machine.execSfpWrite m p dev ofs len s
  | .sfpTransferDone p ack data t => Sys2Proof.Machine.execSfpTransferDone p ack data t s
  | .frameReceive p bs code sfd held ue t => Sys2Proof.Machine.execFrameReceive p bs code sfd held ue t s
  | .ringTailWrite m p r v => Sys2Proof.Machine.execRingTailWrite m p r v s
  | .ringEnable m p r => Sys2Proof.Machine.execRingEnable m p r s
  | .ringDisable m p r => Sys2Proof.Machine.execRingDisable m p r s
  | .txFrameQueue p k ue t => Sys2Proof.Machine.execTxFrameQueue p k ue t s
  | .frameTransmit p t => Sys2Proof.Machine.execFrameTransmit p t s
  | .txFrameDone p t => Sys2Proof.Machine.execTxFrameDone p t s
  | .clrNetCounters m p => Sys2Proof.Machine.execClrNetCounters m p s
  | .streamEnable m v => Sys2Proof.Machine.execStreamEnable m v s
  | .streamDisable m v => Sys2Proof.Machine.execStreamDisable m v s
  | .jitterSampleRelease j t => Sys2Proof.Machine.execJitterSampleRelease j t s
  | .sampleMissing j t => Sys2Proof.Machine.execSampleMissing j t s
  | .takeAnyReset j t => Sys2Proof.Machine.execTakeAnyReset j t s
  | .pathTimeout j b t => Sys2Proof.Machine.execPathTimeout j b t s
  | .frameClose j t => Sys2Proof.Machine.execFrameClose j t s
  | .aes67PacketSend j t => Sys2Proof.Machine.execAes67PacketSend j t s
  | .gclCommit m v => Sys2Proof.Machine.execGclCommit m v s
  | .gclOperative t => Sys2Proof.Machine.execGclOperative t s
  | .gateEntry p k t => Sys2Proof.Machine.execGateEntry p k t s
  | .clrStreamCounters m => Sys2Proof.Machine.execClrStreamCounters m s
  | .ptpSample m n v => Sys2Proof.Machine.execPtpSample m n v s
  | .refSample r edges t => Sys2Proof.Machine.execRefSample r edges t s
  | .frequencyEstimate t => Sys2Proof.Machine.execFrequencyEstimate t s
  | .refQualified r t => Sys2Proof.Machine.execRefQualified r t s
  | .refInvalid r lost t => Sys2Proof.Machine.execRefInvalid r lost t s
  | .selWrite m v => Sys2Proof.Machine.execSelWrite m v s
  | .steerEnable m v => Sys2Proof.Machine.execSteerEnable m v s
  | .freerunRateWrite m v => Sys2Proof.Machine.execFreerunRateWrite m v s
  | .switchComplete t => Sys2Proof.Machine.execSwitchComplete t s
  | .lockAchieved t => Sys2Proof.Machine.execLockAchieved t s
  | .lockLoss t => Sys2Proof.Machine.execLockLoss t s
  | .reversion t => Sys2Proof.Machine.execReversion t s
  | .holdRateUpdate t => Sys2Proof.Machine.execHoldRateUpdate t s
  | .phaseStepSlew m v => Sys2Proof.Machine.execPhaseStepSlew m v s
  | .phaseStepImmediate m v => Sys2Proof.Machine.execPhaseStepImmediate m v s
  | .slewDone t => Sys2Proof.Machine.execSlewDone t s
  | .clockOutputStart k t => Sys2Proof.Machine.execClockOutputStart k t s
  | .rateWrite m v => Sys2Proof.Machine.execRateWrite m v s
  | .rateFold t => Sys2Proof.Machine.execRateFold t s
  | .offsetStep m v => Sys2Proof.Machine.execOffsetStep m v s
  | .servoReset m v => Sys2Proof.Machine.execServoReset m v s
  | .snapshot m v => Sys2Proof.Machine.execSnapshot m v s
  | .triggerEnable m k v => Sys2Proof.Machine.execTriggerEnable m k v s
  | .triggerFire k t => Sys2Proof.Machine.execTriggerFire k t s
  | .pulseEnd o t => Sys2Proof.Machine.execPulseEnd o t s
  | .capture c rising t => Sys2Proof.Machine.execCapture c rising t s
  | .captureRead m c => Sys2Proof.Machine.execCaptureRead m c s
  | .txtsRead m p => Sys2Proof.Machine.execTxtsRead m p s
  | .sapEnable m p v => Sys2Proof.Machine.execSapEnable m p v s
  | .sapDisable m p v => Sys2Proof.Machine.execSapDisable m p v s
  | .sapFrameStart p ok t => Sys2Proof.Machine.execSapFrameStart p ok t s
  | .slotReceive p sl w t => Sys2Proof.Machine.execSlotReceive p sl w t s
  | .slotMissing p sl b t => Sys2Proof.Machine.execSlotMissing p sl b t s
  | .outputUnderrun p sl t => Sys2Proof.Machine.execOutputUnderrun p sl t s
  | .blockStamp p rateOk t => Sys2Proof.Machine.execBlockStamp p rateOk t s
  | .lossOfClock p t => Sys2Proof.Machine.execLossOfClock p t s
  | .clockRecovered p t => Sys2Proof.Machine.execClockRecovered p t s
  | .maskWrite m p tx v => Sys2Proof.Machine.execMaskWrite m p tx v s
  | .maskEpoch p t => Sys2Proof.Machine.execMaskEpoch p t s
  | .cableMeasure p rtt t => Sys2Proof.Machine.execCableMeasure p rtt t s
  | .bsiEnable m c v => Sys2Proof.Machine.execBsiEnable m c v s
  | .bsiDisable m c v => Sys2Proof.Machine.execBsiDisable m c v s
  | .bsiFillDone c t => Sys2Proof.Machine.execBsiFillDone c t s
  | .bsiRampinEnd c t => Sys2Proof.Machine.execBsiRampinEnd c t s
  | .bsiCommit c ones t => Sys2Proof.Machine.execBsiCommit c ones t s
  | .bsiOverload c ones total t => Sys2Proof.Machine.execBsiOverload c ones total t s
  | .freezeWrite m c v => Sys2Proof.Machine.execFreezeWrite m c v s
  | .pairingEnable m v => Sys2Proof.Machine.execPairingEnable m v s
  | .pairingDisable m v => Sys2Proof.Machine.execPairingDisable m v s
  | .helloSend t => Sys2Proof.Machine.execHelloSend t s
  | .hello t => Sys2Proof.Machine.execHello t s
  | .breathFrameSend t => Sys2Proof.Machine.execBreathFrameSend t s
  | .heartbeat t => Sys2Proof.Machine.execHeartbeat t s
  | .digestCompare t => Sys2Proof.Machine.execDigestCompare t s
  | .flatline t => Sys2Proof.Machine.execFlatline t s
  | .roleResolve t => Sys2Proof.Machine.execRoleResolve t s
  | .yield m v => Sys2Proof.Machine.execYield m v s
  | .yieldReceive t => Sys2Proof.Machine.execYieldReceive t s
  | .roleSwap t => Sys2Proof.Machine.execRoleSwap t s
  | .commitNote t => Sys2Proof.Machine.execCommitNote t s
  | .reseatReq t => Sys2Proof.Machine.execReseatReq t s
  | .seatCaptured t => Sys2Proof.Machine.execSeatCaptured t s
  | .reseatData t => Sys2Proof.Machine.execReseatData t s
  | .reseatEnd t => Sys2Proof.Machine.execReseatEnd t s
  | .reseatAck t => Sys2Proof.Machine.execReseatAck t s
  | .seatLoaded t => Sys2Proof.Machine.execSeatLoaded t s
  | .reseatComplete t => Sys2Proof.Machine.execReseatComplete t s
  | .reseatTimeout t => Sys2Proof.Machine.execReseatTimeout t s
  | .reseatRetryWaitEnd t => Sys2Proof.Machine.execReseatRetryWaitEnd t s
  | .faultEvent src idx parityOk t => Sys2Proof.Machine.execFaultEvent src idx parityOk t s
  | .brokenWire src cycles t => Sys2Proof.Machine.execBrokenWire src cycles t s
  | .audioStop t => Sys2Proof.Machine.execAudioStop t s
  | .shadowEnd g t => Sys2Proof.Machine.execShadowEnd g t s
  | .quietAutoRestart t => Sys2Proof.Machine.execQuietAutoRestart t s
  | .qrestartAge t => Sys2Proof.Machine.execQrestartAge t s
  | .haltFlushDone t => Sys2Proof.Machine.execHaltFlushDone t s
  | .configCheckFail w diff parity t => Sys2Proof.Machine.execConfigCheckFail w diff parity t s
  | .configLock m v => Sys2Proof.Machine.execConfigLock m v s
  | .faultForce m k v => Sys2Proof.Machine.execFaultForce m k v s
  | .recordRead m => Sys2Proof.Machine.execRecordRead m s
  | .recordCommit ok t => Sys2Proof.Machine.execRecordCommit ok t s
  | .checkpoint t => Sys2Proof.Machine.execCheckpoint t s
  | .reclaim ok t => Sys2Proof.Machine.execReclaim ok t s
  | .ageCheck t => Sys2Proof.Machine.execAgeCheck t s
  | .hoursRecord t => Sys2Proof.Machine.execHoursRecord t s
  | .journalAppend m v => Sys2Proof.Machine.execJournalAppend m v s
  | .flashWindowRead m v => Sys2Proof.Machine.execFlashWindowRead m v s
  | .flashWindowReadDone t => Sys2Proof.Machine.execFlashWindowReadDone t s
  | .inputFall t => Sys2Proof.Machine.execInputFall t s
  | .inputRecover t => Sys2Proof.Machine.execInputRecover t s
  | .bootConfirm m v => Sys2Proof.Machine.execBootConfirm m v s
  | .floorBurn m v => Sys2Proof.Machine.execFloorBurn m v s
  | .keyRevoke m v => Sys2Proof.Machine.execKeyRevoke m v s
  | .authCheck m v => Sys2Proof.Machine.execAuthCheck m v s
  | .authDone t => Sys2Proof.Machine.execAuthDone t s
  | .request e => Sys2Proof.Machine.execRequest e s
  | .sync t => Sys2Proof.Machine.execSync t s
  | .event n t => Sys2Proof.Machine.execEvent n t s
  | .slotTune m n ack => Sys2Proof.Machine.execSlotTune m n ack s
  | .tuneDone n t => Sys2Proof.Machine.execTuneDone n t s
  | .kick m n v => Sys2Proof.Machine.execKick m n v s
  | .bellIn m n => Sys2Proof.Machine.execBellIn m n s
  | .bellOut m n => Sys2Proof.Machine.execBellOut m n s
  | .pcieReset down t => Sys2Proof.Machine.execPcieReset down t s
  | .status t => Sys2Proof.Machine.execStatus t s
  | .spiRead a n late t => Sys2Proof.Machine.execSpiRead a n late t s
  | .qread a n late t => Sys2Proof.Machine.execQread a n late t s
  | .spiWrite a ws t => Sys2Proof.Machine.execSpiWrite a ws t s
  | .qwrite a ws t => Sys2Proof.Machine.execQwrite a ws t s
  | .spiTune ack t => Sys2Proof.Machine.execSpiTune ack t s
  | .resetSlot b0 b1 t => Sys2Proof.Machine.execResetSlot b0 b1 t s
  | .flashRead a n t => Sys2Proof.Machine.execFlashRead a n t s
  | .flashProgram a bs ok e t => Sys2Proof.Machine.execFlashProgram a bs ok e t s
  | .flashErase a ok e t => Sys2Proof.Machine.execFlashErase a ok e t s
  | .flashStatus t => Sys2Proof.Machine.execFlashStatus t s
  | .mmuFlush m v => Sys2Proof.Machine.execMmuFlush m v s
  | .mmuFlushDone t => Sys2Proof.Machine.execMmuFlushDone t s
  | .requestStandby m v => Sys2Proof.Machine.execRequestStandby m v s
  | .requestNap m v => Sys2Proof.Machine.execRequestNap m v s
  | .requestReady m v => Sys2Proof.Machine.execRequestReady m v s
  | .pstateTransitionDone t => Sys2Proof.Machine.execPstateTransitionDone t s
  | .wakeN t => Sys2Proof.Machine.execWakeN t s
  | .alarm t => Sys2Proof.Machine.execAlarm t s
  | .spiWake t => Sys2Proof.Machine.execSpiWake t s
  | .linkWake p t => Sys2Proof.Machine.execLinkWake p t s
  | .railUndervoltage r t => Sys2Proof.Machine.execRailUndervoltage r t s
  | .railOvervoltage r t => Sys2Proof.Machine.execRailOvervoltage r t s
  | .avsStep up t => Sys2Proof.Machine.execAvsStep up t s
  | .avsEmergency t => Sys2Proof.Machine.execAvsEmergency t s
  | .adcRound rails vin vhold temps bandgap t => Sys2Proof.Machine.execAdcRound rails vin vhold temps bandgap t s
  | .lineEnable m j v => Sys2Proof.Machine.execLineEnable m j v s
  | .measGo m v => Sys2Proof.Machine.execMeasGo m v s
  | .measureDone t => Sys2Proof.Machine.execMeasureDone t s
  | .powerGood t => Sys2Proof.Machine.execPowerGood t s
  | .resetNRelease t => Sys2Proof.Machine.execResetNRelease t s
  | .testLogicReset t => Sys2Proof.Machine.execTestLogicReset t s
  | .heartbeatMiss t => Sys2Proof.Machine.execHeartbeatMiss t s
  | .reseatDataSend t => Sys2Proof.Machine.execReseatDataSend t s
  | .pcieLinkUp width speed msix t => Sys2Proof.Machine.execPcieLinkUp width speed msix t s
  | .receiveLpi p on t => Sys2Proof.Machine.execReceiveLpi p on t s

end Sys2Proof.Machine
end

