-- ==== Sys2Proof/Machine/Step.lean ====
section
/-!
DEFINITION. One step of the node: the command at the front of the queue has its effect.
-/
namespace Sys2Proof.Machine

/-- The command at the front of the queue acts on the state with the queue's rest; with nothing waiting, 1 ns passes
(DESIGN CHOICE: log entry 2). -/
def step (s : State) : Host.Outcome State Fault Refusal :=
  match s.pending with
  | [] => .next (idle s)
  | c :: rest => exec c { s with pending := rest }

/-- The command a word of the table spells, put at the front of the queue; the table spells none (DESIGN CHOICE: log
entry 2). -/
def State.withFetchWord (s : State) (nbits w : Nat) : State :=
  match decodeTableWord nbits w with
  | some c => { s with pending := c :: s.pending }
  | none => s

end Sys2Proof.Machine
end

