-- ==== Sys2Proof/Safety.lean ====
section
/-!
DEFINITION. The terms in which the statements speak of a run: the canonical form of a state's sparse data, an access that is
admitted, a core that fetches, and what the summary's generation touches.
-/
namespace Sys2Proof.Machine

/-- The sparse data of a state stands in canonical form: memory and flash hold no byte an unlisted address reads as, and the
keys of the register fields rise. -/
def State.canonical (s : State) : Bool := Memory.wf s.mem && mwf 0xFF s.flash && mrising 0 s.fld

/-- A register access that the checks of R356 let through while the node takes commands: the master may reach the register at
`a`, and its block is neither in reset nor without power. -/
structure Admitted (x : Acc1) (s : State) : Prop where
  alive  : s.alive = true
  served : s.served x.m = true
  passes : s.check x = .ok
  closed : s.regClosed x.a = false

/-- The write of a register by master `m`, whose word no fixed rule looks at. -/
def regWr (m a : Nat) : Acc1 := { m := m, a := a % 2 ^ 32, w := 4, wr := true }

/-- The same for a register whose word a fixed rule looks at. -/
def regWrV (m a v : Nat) : Acc1 := { m := m, a := a % 2 ^ 32, w := 4, wr := true, val := v }

/-- The read of a register by master `m`. -/
def regRd (m a : Nat) : Acc1 := { m := m, a := a % 2 ^ 32, w := 4, wr := false }

/-- The fields that counting a change of the summary may write (R374): the generation and the events of the slots. -/
def sumFields : List Fd :=
  [F.HOST_SUMGEN_HI_GEN, F.HOST_SUMGEN_LO_GEN, F.SLOTn_EVT_EVT 0, F.SLOTn_EVT_EVT 1, F.SLOTn_EVT_EVT 2, F.SLOTn_EVT_EVT 3,
   F.SLOTn_EVT_EVT 4, F.SLOTn_EVT_EVT 5]

/-- The field is none of those that the summary's generation touches. -/
def Fd.quiet (f : Fd) : Bool := sumFields.all (fun g => decide (Fd.key f ≠ Fd.key g))

/-- Core `p` fetches instruction `o` in the open: the node takes commands, the core runs an instance and is not in a delay slot,
the word at the fetch index decodes to `o`, and it does not stand at the end of an active loop (R73, R79, R82, R83). -/
structure Ready (p : Nat) (o : ReedOp) (s : State) : Prop where
  alive   : s.alive = true
  runs    : (s.coreS p).fetches = true
  unheld  : s.haltAt p = false
  noWait  : (s.coreS p).yext = []
  open_   : (s.coreS p).slot = none
  decodes : reedDecode (s.word (iBase p + 4 * (s.coreS p).pc)) = some o
  inner   : (s.fetchCore p).loopEnd = false

/-- What a stage reads at place `loc`, `k` cycles after the fetch at hand (R79, R80). -/
def State.regAt (s : State) (p loc k : Nat) : Int := (s.fetchCore p).rd loc ((s.coreS p).cyc + k)

/-- Data register `n` as such a stage reads it, as an unsigned word. -/
def State.dAt (s : State) (p n k : Nat) : Nat := (s.regAt p (locD n) k).toNat

/-- Special register `n` as such a stage reads it. -/
def State.sAt (s : State) (p n k : Nat) : Nat := (s.regAt p (locS n) k).toNat

/-- What a later stage reads at place `loc` in the cycle `k` cycles after the fetch of `s`, in the state `u` after it. -/
def State.regNext (u s : State) (p loc k : Nat) : Int := (u.coreS p).rd loc ((s.coreS p).cyc + k)

/-- The core goes on to the next instruction word, in the next cycle, with no delay slot open (R79). -/
def Advances (p : Nat) (s u : State) : Prop :=
  (u.coreS p).pc = ((s.coreS p).pc + 1) % 8192 ∧ (u.coreS p).cyc = (s.coreS p).cyc + 1 ∧ (u.coreS p).slot = none

/-- Every place outside `locs` reads, in every cycle, what it would have read. -/
def KeepsRegs (p : Nat) (locs : List Nat) (s u : State) : Prop :=
  ∀ loc r, loc ∉ locs → (u.coreS p).rd loc r = (s.fetchCore p).rd loc r

/-- Every field but those of `fs` and those of the summary's generation reads as before. -/
def KeepsFields (fs : List Fd) (s u : State) : Prop :=
  ∀ f, Fd.quiet f = true → (∀ g ∈ fs, Fd.key f ≠ Fd.key g) → u.get f = s.get f

/-- Memory, flash and the waiting commands are as before. -/
def KeepsStore (s u : State) : Prop := u.mem = s.mem ∧ u.flash = s.flash ∧ u.pending = s.pending

/-- The state `u` is `w` but for its register fields, and those are `w`'s but for the ones that the summary's generation touches. -/
structure Leaves (w u : State) : Prop where
  rest   : ∃ l, u = { w with fld := l }
  fields : ∀ f, Fd.quiet f = true → u.get f = w.get f

/-- The master `m` of a write had the response of an access without error. -/
def Answers (m : Nat) (u : State) : Prop := u.bus = ⟨m, 0, false, false⟩

/-- A keyed action word: key 0xA55A in the high half and GO in bit 0. -/
def Keyed (v : Nat) : Prop := v / 65536 = 0xA55A ∧ bitOf v 0 = true

/-- Power is on, no pin holds the node and no HALT or input fall stands, so the boot goes on (R337, R414). -/
def BootAt (p : BootPh) (s : State) : Prop :=
  s.sys.boot = p ∧ s.sys.pinHeld = false ∧ s.sys.off = false ∧ s.get F.FCU_STAT_STATE ≠ 2 ∧ s.pmu.fallAt = none

/-- A wake of source `b` that is enabled and looked at: no HALT, no test mode, no input fall, no boot and no transition is under way
(R381, R402). -/
def WakeHeard (b : Nat) (s : State) : Prop :=
  s.bit F.PMU_WAKE_EN_EN b = true ∧ s.get F.FCU_STAT_STATE ≠ 2 ∧ s.sys.off = false ∧ s.sys.testMode = false
    ∧ s.pmu.fallAt = none ∧ s.booting = false ∧ s.pmu.target = none

/-- A wake from NAP: the source is latched and the transition to READY begins at `n` (R379, R381). -/
def Wakes (b n : Nat) (u : State) : Prop :=
  u.get F.PMU_WAKE_VALID = 1 ∧ u.get F.PMU_WAKE_SRC = 2 ^ b ∧ u.pmu.target = some (psREADY, n) ∧ u.get F.PMU_STAT_BUSY = 1

/-- A wake from STANDBY: the rails start and the boot is a warm one (R382, R385). -/
def Boots (n : Nat) (u : State) : Prop :=
  u.sys.boot = .rails ∧ u.sys.warmBoot = true ∧ u.pmu.origin = n ∧ u.get F.PMU_STAT_BUSY = 1

/-- The command left registers, memory and flash alone but for what the summary's generation touches. -/
def KeepsAll (s u : State) : Prop := KeepsFields [] s u ∧ KeepsStore s u

/-- Master `m` commands the lock of section `i` with the ticket it holds, and the lease stands (R151–R153). -/
def Holds (m i tk : Nat) (s : State) : Prop :=
  i < 16 ∧ tk < 65536 ∧ Admitted (regWr m (A.SECn_CMD i)) s ∧ s.get (F.SECn_LOCK_HOLDER i) = m ∧ s.get (F.SECn_LOCK_TICKET i) = tk
    ∧ s.lapsed i = false

/-- How long a self-test that began at device time `a` has run (R55). -/
def testRan (s : State) (a : Nat) : Int := sx 72 (ux 72 ((s.dev : Int) - a))

/-- The command of a lock was accepted: the result register shows it with code 0. -/
def LockDone (m i op : Nat) (u : State) : Prop :=
  Answers m u ∧ u.get (F.SECn_RESULT_LASTOP i) = op ∧ u.get (F.SECn_RESULT_CODE i) = 0

/-- The frame `f` of subtype `sub` stands at the head of the frames the TWIN unit has claimed, `q` behind it (R288). -/
def Hears (sub : Nat) (f : RxFrame) (q : List RxFrame) (s : State) : Prop :=
  s.alive = true ∧ s.net.twinq = f :: q ∧ twByte f 0 = sub

/-- The state at instant `t` without that frame. -/
def heard (q : List RxFrame) (t : Nat) (s : State) : State := { s.atTime t with net := { s.net with twinq := q } }

/-- The frame `f` of subtype `sub` stands at the head of the Host Channel's queue and is served (R362, R363). -/
def Serves (sub : Nat) (f : RxFrame) (q : List RxFrame) (s : State) : Prop :=
  s.alive = true ∧ s.net.hostq = f :: q ∧ s.hcForm f = true ∧ s.tagOk f = true ∧ hcByte f 0 = sub

/-- The word at `a` of a memory other than the cores' and the matrix banks' may be reached by master `m` in this direction. -/
def WordOpen (m a : Nat) (wr : Bool) (v : Nat) (s : State) : Prop :=
  a < 2 ^ 40 ∧ (∃ t, targetOf a = some (.mem t) ∧ t ≠ 3 ∧ t ≠ 4 ∧ s.memOn t = true)
    ∧ Admitted { m := m, a := a, w := 4, wr := wr, val := v } s

/-- Master `m` may write `v` to the register at `a`, and the write is answered without error. -/
def AcceptsWrite (m a v : Nat) (s : State) : Prop :=
  s.check (regWrV m a v) = .ok ∧ ∃ u, exec (.registerWrite m a v) s = .next u ∧ Answers m u

/-- The write of `v` to the register at `a` is refused with cause FIXED, and master `m` has an error response. -/
def RefusesWrite (m a v : Nat) (s : State) : Prop :=
  s.check (regWrV m a v) = .refused caFIXED ∧ ∃ u, exec (.registerWrite m a v) s = .next u ∧ u.bus = ⟨m, 0, true, false⟩

/-- Commands that act on a node that takes no others: supplies, boot, pins, wakes, what the AON domain and the fault
collector do by themselves, and the reads of DBG that HALT leaves (R323). -/
def rousing : Instr → Bool
  | .powerOnReset _ | .aonLoss _ | .inputFall _ | .inputRecover _ | .powerGood _ | .resetN _ | .resetNRelease _ => true
  | .xoCheck .. | .railStart .. | .railSeqTimeout .. | .dramTrainingDone _ | .journalScan _ | .slotChoose _ => true
  | .directoryCheck .. | .bootConfiguration _ | .holdupMeasureDone .. | .voiceImageBootLoad .. | .watchdogExpiry .. => true
  | .faultEvent .. | .brokenWire .. | .audioStop .. | .shadowEnd .. | .quietAutoRestart .. | .qrestartAge .. => true
  | .haltFlushDone .. | .configCheckFail .. | .recordCommit .. | .pstateTransitionDone .. | .wakeN .. | .alarm .. => true
  | .memoryAccess .fabric m _ _ wr _ _ => m == mDBG && !wr
  | .pairLowRead m _ | .recordRead m => m == mDBG
  | .spiWake .. | .linkWake .. | .railUndervoltage .. | .railOvervoltage .. | .avsStep .. | .avsEmergency .. | .adcRound .. => true
  | _ => false

/-- Nothing that waits can rouse the node: the AON domain has no supply and no POWER_ON_RESET waits, or the node takes no commands
and none that acts on such a node waits. -/
def Dormant (s : State) : Prop :=
  (s.sys.off = true ∧ s.pmu.fallAt = none ∧ ∀ e, Instr.powerOnReset e ∉ s.pending)
    ∨ (s.alive = false ∧ ∀ c ∈ s.pending, rousing c = false)

/-- What the end of a frame of `n` bytes on port `p` counts before the frame is looked at: its load and FEC codewords (R170, R191). -/
def arrived (p corr unc n : Nat) (s : State) : State := addLoad p (n * 8) 0 (countFec p corr unc s)

/-- A frame `bs` from DA to FCS that ends at `t` passes length, FCS and pause checks under the filters of its start (R175, R176). -/
def Sound (p : Nat) (bs : List Byte) (sfd t : Nat) (s : State) : Prop :=
  p < 5 ∧ s.alive = true ∧ (s.atTime t).macRuns p = true ∧ 64 ≤ bs.length
    ∧ bs.length ≤ ((s.atTime t).filtersAt p sfd).maxLen p + (if frTagged bs then 4 else 0)
    ∧ leNat (bs.drop (bs.length - 4)) = crc32 (bs.take (bs.length - 4)) ∧ be16At bs 12 ≠ 0x8808

/-- The ALU rows with their function codes and results (R75). -/
def aluRows : List (Nat × (Nat → Ecc → Instr) × (Nat → Nat → AluR)) :=
  [(0, .add, aluAdd), (1, .sub, aluSub), (2, .adds, aluAdds), (3, .subs, aluSubs), (4, .iAnd, aluAnd), (5, .iOr, aluOr),
   (6, .xor, aluXor), (7, .min, aluMin), (8, .max, aluMax), (9, .abss, aluAbss), (10, .shl, aluShl), (11, .shr, aluShr),
   (12, .shra, aluShra), (13, .slt, aluSlt)]

/-- The rows of the shift-immediate OP with their results (R75). -/
def shiRows : List (Nat × (Nat → Ecc → Instr) × (Nat → Nat → AluR)) :=
  [(0, .shiShl, aluShl), (1, .shiShr, aluShr), (2, .shiShra, aluShra), (3, .shls, aluShls)]

/-- Two delay slots are open for a transfer of this kind (R82). -/
def Opens (p : Nat) (k : SlotKind) (tgt : Option Nat) (s u : State) : Prop :=
  (u.coreS p).pc = ((s.coreS p).pc + 1) % 8192 ∧ (u.coreS p).cyc = (s.coreS p).cyc + 1 ∧ (u.coreS p).slot = some ⟨2, k, tgt⟩

/-- What LOOP and LOOPR with count `n` leave: the start, the end and the count of the level, which a fetch sees at once, and the
fetch index, which skips the body and costs one cycle more where the count is 0 (R76, R81, R84). -/
def Loops (p l n fin : Nat) (s u : State) : Prop :=
  u.regNext s p (locS (srLS l)) 2 = (((s.coreS p).pc + 1) % 8192 : Nat)
  ∧ u.regNext s p (locS (srLE l)) 2 = fin ∧ u.regNext s p (locS (srLC l)) 2 = n
  ∧ (u.coreS p).pc = (if n = 0 then (fin + 1) % 8192 else ((s.coreS p).pc + 1) % 8192)
  ∧ (u.coreS p).cyc = (s.coreS p).cyc + (if n = 0 then 2 else 1) ∧ (u.coreS p).slot = none
  ∧ KeepsRegs p [locS (srLS l), locS (srLE l), locS (srLC l)] s u ∧ KeepsFields [] s u ∧ KeepsStore s u

/-- An ILLEGAL instruction fetched in the open at index `i`: with interrupts enabled and no cause waiting, cause 1 waits with the
index to come back to, RC_FLAGS.ILL is set and the index recorded (R73, R85, R95). -/
def Illegal (p i : Nat) (s u : State) : Prop :=
  (u.coreS p).pend = some ⟨1, 0, some i, false, false⟩ ∧ u.get (F.RC_FLAGS_ILL p) = 1 ∧ u.get (F.RC_ERR_ERRIDX p) = i % 8192
  ∧ KeepsRegs p [] s u
  ∧ KeepsFields [F.RC_FLAGS_ILL p, F.RC_ERR_ERRIDX p, F.RC_ERR_TASKIDX p] s u ∧ KeepsStore s u

/-- What a special-register write of `v` leaves: what the register keeps of it; for CSTAT its eleven flags; for a part of an
accumulator the accumulator with that part replaced, taken as a start (R65, R70, R72, R76). -/
def WritesSreg (p k v : Nat) (s u : State) : Prop :=
  (sregAcc k = false → k ≠ srCSTAT →
    u.regNext s p (locS k) 3 = (sregStore k v : Nat) ∧ KeepsRegs p [locS k] s u)
  ∧ (k = srCSTAT → (∀ e ∈ cstatPlaces v, u.regNext s p e.1 6 = e.2) ∧ KeepsRegs p ((cstatPlaces v).map (fun e => e.1)) s u)
  ∧ (sregAcc k = true →
      ux 72 (u.regNext s p (locA ((k - 0x30) / 3)) 6)
        = (let a := ux 72 (s.regAt p (locA ((k - 0x30) / 3)) 5)
           match (k - 0x30) % 3 with
           | 0 => a / 2 ^ 32 * 2 ^ 32 + v % 2 ^ 32
           | 1 => a / 2 ^ 64 * 2 ^ 64 + v % 2 ^ 32 * 2 ^ 32 + a % 2 ^ 32
           | _ => v % 256 * 2 ^ 64 + a % 2 ^ 64)
      ∧ u.regNext s p (locACT ((k - 0x30) / 3)) 6 = 0
      ∧ KeepsRegs p [locA ((k - 0x30) / 3), locACT ((k - 0x30) / 3)] s u)

/-- The value MFS reads from special register `k`: a part of an accumulator, CSTAT, an offset with its sign, or the register. -/
def sregValue (p k : Nat) (s : State) : Nat :=
  if sregAcc k then
    let a := s.regAt p (locA ((k - 0x30) / 3)) 3
    match (k - 0x30) % 3 with
    | 0 => ux 32 a | 1 => ux 32 (a / ((2 ^ 32 : Nat) : Int)) | _ => ux 32 (a / ((2 ^ 64 : Nat) : Int))
  else if k = srCSTAT then cstatOf (fun l => s.regAt p l 3)
  else if sregOffset k then ux 32 (sx 16 (s.sAt p k 3)) else s.sAt p k 3

/-- The word address an access of core `p` uses and the pointer's value after it (R67, R68). -/
def accessOf (y : Bool) (p q am abs ad : Nat) (pair : Bool) (s : State) : Nat × Option Nat :=
  if abs = 1 then (ad, none)
  else
    let o := if y then 0x10 else 0
    amode am (s.sAt p (o + q) 2) (sx 16 (s.sAt p (o + 4 + q) 2)) (s.sAt p (o + 8 + q) 2) (s.sAt p (o + 12 + q) 2) pair

/-- The place of the pointer of set `q`. -/
def ptrLoc (y : Bool) (q : Nat) : Nat := locS ((if y then 0x10 else 0) + q)

/-- Byte address of word `w` of X or Y of core `p` (R63). -/
def dataAddr (y : Bool) (p w : Nat) : Nat := (if y then yBase p else xBase p) + 4 * (w % 8192)

/-- The pointer has its new value, if the access changes it. -/
def MovesPtr (y : Bool) (p q : Nat) (np : Option Nat) (s u : State) : Prop :=
  match np with | some v => u.regNext s p (ptrLoc y q) 3 = v | none => True

/-- What a product row does with accumulator `n` and product `v`: a start sets it, an accumulation adds to it unless the
accumulator has already gone beyond its range; a result beyond the range saturates and sets ACT and ASAT (R69, R70). -/
def AccAfter (p : Nat) (f : MacFn) (n : Nat) (v : Int) (s u : State) : Prop :=
  let old := s.regAt p (locA n) 5
  let x := match f with | .mpy => v | .mac => old + v | .msu => old - v
  if f ≠ .mpy ∧ s.regAt p (locACT n) 5 ≠ 0 then u.regNext s p (locA n) 6 = s.regAt p (locA n) 6
  else u.regNext s p (locA n) 6 = (accSat x).1
    ∧ ((accSat x).2 = true → u.regNext s p (locACT n) 6 = 1 ∧ u.regNext s p (locASAT n) 6 = 1)
    ∧ (f = .mpy → (accSat x).2 = false → u.regNext s p (locACT n) 6 = 0)

/-- The places of accumulator `n`. -/
def accLocs (n : Nat) : List Nat := [locA n, locACT n, locASAT n]

/-- The rows of the product OPs with their function codes, and how the product meets the accumulator (R75). -/
def mulRows : List (Nat × MacFn × (Nat → Ecc → Instr) × (Nat → Ecc → Instr) × (Nat → Ecc → Instr) × (Nat → Ecc → Instr)) :=
  [(0, .mpy, .mulMpy, .dmulMpy, .mulmMpy, .dmulmMpy), (1, .mac, .mulMac, .dmulMac, .mulmMac, .dmulmMac),
   (2, .msu, .mulMsu, .dmulMsu, .mulmMsu, .dmulmMsu)]

/-- The post-modified pointer of set `q` (R67). -/
def steps (y : Bool) (p q : Nat) (s : State) : Nat :=
  let o := if y then 0x10 else 0
  circ (s.sAt p (o + q) 2) (sx 16 (s.sAt p (o + 4 + q) 2)) (s.sAt p (o + 8 + q) 2) (s.sAt p (o + 12 + q) 2)

/-- The word at pointer `q` and the one `k` above it. -/
def ptrWord (y : Bool) (p q : Nat) (pair : Bool) (k : Nat) (s : State) : Nat :=
  let a := s.sAt p ((if y then 0x10 else 0) + q) 2
  s.word (dataAddr y p (if pair then pairLow a + k else a))

end Sys2Proof.Machine
end

