-- ==== Sys2Proof/Certificates/Slice0/Obligations.lean ====
section
/-!
DEFINITION. The statements for the provers: where each command completes and what it then does, what an instruction keeps, and the
properties of a step.
-/
open Sys2Proof Sys2Proof.Machine

/-- ADD, SUB, ADDS, SUBS, AND, OR, XOR, MIN, MAX, ABSS, SHL, SHR, SHRA and SLT run wherever a core stands before one in the
open: Dd takes the row's result of Ds and Dt as MAC1 reads them, in the cycle after MAC1 (R75, R79); a saturated result sets SAT
(R72); every other register and all memory is as before. -/
def Obligations.AluRowsComplete : Prop :=
  ∀ (f : Nat) (row : Nat → Ecc → Instr) (g : Nat → Nat → AluR), (f, row, g) ∈ aluRows →
  ∀ (p dd ds dt : Nat) (s : State), Ready p (.alu f dd ds dt) s →
    ∃ u, exec (row p .clean) s = .next u
      ∧ u.regNext s p (locD dd) 5 = (g (s.dAt p ds 4) (s.dAt p dt 4)).val
      ∧ ((g (s.dAt p ds 4) (s.dAt p dt 4)).sat = true → u.regNext s p locSAT 6 = 1)
      ∧ KeepsRegs p (if (g (s.dAt p ds 4) (s.dAt p dt 4)).sat then [locD dd, locSAT] else [locD dd]) s u
      ∧ Advances p s u ∧ KeepsFields [] s u ∧ KeepsStore s u

/-- ADDI adds the sign-extended immediate; LDI loads it, or replaces the upper half word; SHI_SHL, SHI_SHR, SHI_SHRA and SHLS
shift by the immediate amount (R75, R76). Each writes only Dd, and SHLS SAT where it saturates. -/
def Obligations.ImmediateRowsComplete : Prop :=
  (∀ (p dd ds i : Nat) (s : State), Ready p (.addi dd ds i) s →
    ∃ u, exec (.addi p .clean) s = .next u
      ∧ u.regNext s p (locD dd) 5 = (ux 32 ((s.dAt p ds 4 : Int) + ux 32 (sx 16 i)) : Nat)
      ∧ KeepsRegs p [locD dd] s u ∧ Advances p s u ∧ KeepsFields [] s u ∧ KeepsStore s u)
  ∧ (∀ (p dd h i : Nat) (s : State), Ready p (.ldi dd h i) s →
    ∃ u, exec (.ldi p .clean) s = .next u
      ∧ u.regNext s p (locD dd) 5 = (if h = 0 then ux 32 (sx 16 i) else i * 65536 + s.dAt p dd 4 % 65536 : Nat)
      ∧ KeepsRegs p [locD dd] s u ∧ Advances p s u ∧ KeepsFields [] s u ∧ KeepsStore s u)
  ∧ (∀ (f : Nat) (row : Nat → Ecc → Instr) (g : Nat → Nat → AluR), (f, row, g) ∈ shiRows →
    ∀ (p dd ds n : Nat) (s : State), Ready p (.shi f dd ds n) s →
    ∃ u, exec (row p .clean) s = .next u
      ∧ u.regNext s p (locD dd) 5 = (g (s.dAt p ds 4) n).val
      ∧ ((g (s.dAt p ds 4) n).sat = true → u.regNext s p locSAT 6 = 1)
      ∧ KeepsRegs p (if (g (s.dAt p ds 4) n).sat then [locD dd, locSAT] else [locD dd]) s u
      ∧ Advances p s u ∧ KeepsFields [] s u ∧ KeepsStore s u)

/-- NOP changes nothing but the fetch index. B, BC, CALL and JR open two delay slots towards their target, BC none where its
condition fails, CALL leaving the address behind the slots in D15; TEND and RTI open two slots before the drain (R76, R82,
R88, R90). -/
def Obligations.ControlRowsComplete : Prop :=
  (∀ (p : Nat) (s : State), Ready p .nop s →
    ∃ u, exec (.nop p .clean) s = .next u ∧ KeepsRegs p [] s u ∧ Advances p s u ∧ KeepsFields [] s u ∧ KeepsStore s u)
  ∧ (∀ (p t : Nat) (s : State), Ready p (.b t) s →
    ∃ u, exec (.b p .clean) s = .next u ∧ Opens p .branch (some t) s u ∧ KeepsRegs p [] s u ∧ KeepsFields [] s u ∧ KeepsStore s u)
  ∧ (∀ (p ds c t : Nat) (s : State), Ready p (.bc ds c t) s →
    ∃ u, exec (.bc p .clean) s = .next u ∧ Opens p .branch (if condHolds c (s.dAt p ds 2) then some t else none) s u
      ∧ KeepsRegs p [] s u ∧ KeepsFields [] s u ∧ KeepsStore s u)
  ∧ (∀ (p t : Nat) (s : State), Ready p (.call t) s →
    ∃ u, exec (.call p .clean) s = .next u ∧ Opens p .branch (some t) s u
      ∧ u.regNext s p (locD 15) 5 = (((s.coreS p).pc + 3) % 8192 : Nat)
      ∧ KeepsRegs p [locD 15] s u ∧ KeepsFields [] s u ∧ KeepsStore s u)
  ∧ (∀ (p ds : Nat) (s : State), Ready p (.jr ds) s →
    ∃ u, exec (.jr p .clean) s = .next u ∧ Opens p .branch (some (s.dAt p ds 2 % 8192)) s u
      ∧ KeepsRegs p [] s u ∧ KeepsFields [] s u ∧ KeepsStore s u)
  ∧ (∀ (p : Nat) (s : State), Ready p .tend s →
    ∃ u, exec (.tend p .clean) s = .next u ∧ Opens p .tend none s u ∧ KeepsRegs p [] s u ∧ KeepsFields [] s u ∧ KeepsStore s u)
  ∧ (∀ (p : Nat) (s : State), Ready p .rti s →
    ∃ u, exec (.rti p .clean) s = .next u ∧ Opens p .rti none s u ∧ KeepsRegs p [] s u ∧ KeepsFields [] s u ∧ KeepsStore s u)

/-- LOOP and LOOPR set up their level where the end lies behind the instruction, and are ILLEGAL where it does not; TRAP makes
cause 2 wait with its code, and the index behind it to come back to (R83–R86). -/
def Obligations.LoopRowsComplete : Prop :=
  (∀ (p l n e : Nat) (s : State), Ready p (.loop l n e) s →
    ((s.coreS p).pc < e → ∃ u, exec (.loop p .clean) s = .next u ∧ Loops p l n e s u)
    ∧ (e ≤ (s.coreS p).pc → s.regAt p locIE 1 ≠ 0 →
        ∃ u, exec (.loop p .clean) s = .next u ∧ Illegal p (s.coreS p).pc s u))
  ∧ (∀ (p l ds e : Nat) (s : State), Ready p (.loopr l ds e) s →
    ((s.coreS p).pc < e → ∃ u, exec (.loopr p .clean) s = .next u ∧ Loops p l (s.dAt p ds 1 % 65536) e s u)
    ∧ (e ≤ (s.coreS p).pc → s.regAt p locIE 1 ≠ 0 →
        ∃ u, exec (.loopr p .clean) s = .next u ∧ Illegal p (s.coreS p).pc s u))
  ∧ (∀ (p c : Nat) (s : State), Ready p (.trap c) s → s.regAt p locIE 1 ≠ 0 →
    ∃ u, exec (.trap p .clean) s = .next u ∧ (u.coreS p).pend = some ⟨2, c, some (((s.coreS p).pc + 1) % 8192), false, false⟩
      ∧ KeepsRegs p [] s u ∧ Advances p s u ∧ KeepsFields [] s u ∧ KeepsStore s u)

/-- MVS and MVI write, and MFS reads, every special register that R65 lets them name. -/
def Obligations.SpecialRegisterRowsComplete : Prop :=
  (∀ (p k ds : Nat) (s : State), Ready p (.mvs k ds) s →
    ∃ u, exec (.mvs p .clean) s = .next u ∧ WritesSreg p k (s.dAt p ds 2) s u ∧ Advances p s u ∧ KeepsFields [] s u ∧ KeepsStore s u)
  ∧ (∀ (p k i : Nat) (s : State), Ready p (.mvi k i) s →
    ∃ u, exec (.mvi p .clean) s = .next u
      ∧ WritesSreg p k (if sregOffset k || k == srXCAR then ux 32 (sx 16 i) else i) s u
      ∧ Advances p s u ∧ KeepsFields [] s u ∧ KeepsStore s u)
  ∧ (∀ (p dd k : Nat) (s : State), Ready p (.mfs dd k) s →
    ∃ u, exec (.mfs p .clean) s = .next u ∧ u.regNext s p (locD dd) 4 = sregValue p k s
      ∧ KeepsRegs p [locD dd] s u ∧ Advances p s u ∧ KeepsFields [] s u ∧ KeepsStore s u)

/-- LDX and LDY load a word, or the pair its address lies in, into Dd (and the register above); STX and STY store one, or a pair,
as MEM reads the data; both post-modify their pointer. Memory changes in the bytes stored alone (R63, R67, R68, R76). -/
def Obligations.LoadStoreRowsComplete : Prop :=
  (∀ (y : Bool) (p dd q am w abs ad : Nat) (s : State), Ready p (.ld y dd q am w abs ad) s →
    ∃ u, exec (if y then .ldy p .clean else .ldx p .clean) s = .next u
      ∧ (let (a, np) := accessOf y p q am abs ad (w == 1) s
         (w = 0 → u.regNext s p (locD dd) 4 = s.word (dataAddr y p a) ∧ KeepsRegs p (locD dd :: if np.isSome then [ptrLoc y q] else []) s u)
         ∧ (w = 1 → u.regNext s p (locD dd) 4 = s.word (dataAddr y p (pairLow a))
            ∧ u.regNext s p (locD (dd + 1)) 4 = s.word (dataAddr y p (pairLow a + 1))
            ∧ KeepsRegs p (locD dd :: locD (dd + 1) :: if np.isSome then [ptrLoc y q] else []) s u)
         ∧ MovesPtr y p q np s u)
      ∧ Advances p s u ∧ KeepsFields [] s u ∧ KeepsStore s u)
  ∧ (∀ (y : Bool) (p ds q am w abs ad : Nat) (s : State), Ready p (.st y ds q am w abs ad) s →
    ∃ u, exec (if y then .sty p .clean else .stx p .clean) s = .next u
      ∧ (let (a, np) := accessOf y p q am abs ad (w == 1) s
         (w = 0 → ∀ x, u.byte x = (s.setBytes (dataAddr y p a) (leBytes 4 (s.dAt p ds 3))).byte x)
         ∧ (w = 1 → ∀ x, u.byte x = ((s.setBytes (dataAddr y p (pairLow a)) (leBytes 4 (s.dAt p ds 3))).setBytes
              (dataAddr y p (pairLow a + 1)) (leBytes 4 (s.dAt p (ds + 1) 3))).byte x)
         ∧ KeepsRegs p (if np.isSome then [ptrLoc y q] else []) s u ∧ MovesPtr y p q np s u)
      ∧ Advances p s u ∧ KeepsFields [] s u ∧ u.flash = s.flash ∧ u.pending = s.pending)
  ∧ (∀ (y : Bool) (p an q am abs ad : Nat) (s : State), Ready p (.sta y an q am abs ad) s →
    ∃ u, exec (if y then .stya p .clean else .stxa p .clean) s = .next u
      ∧ (let (a, np) := accessOf y p q am abs ad false s
         let v := accRound (s.regAt p (locA an) 3)
         (∀ x, u.byte x = (s.setBytes (dataAddr y p a) (leBytes 4 v.val)).byte x)
         ∧ (v.sat = true → u.regNext s p locSAT 6 = 1)
         ∧ KeepsRegs p ((if v.sat then [locSAT] else []) ++ if np.isSome then [ptrLoc y q] else []) s u ∧ MovesPtr y p q np s u)
      ∧ Advances p s u ∧ KeepsFields [] s u ∧ u.flash = s.flash ∧ u.pending = s.pending)

/-- A store of X, Y or a rounded accumulator leaves every byte outside the words it stores to as it was (R63, R68). -/
def Obligations.StoresKeepOtherBytes : Prop :=
  (∀ (y : Bool) (p ds q am w abs ad : Nat) (s u : State), Ready p (.st y ds q am w abs ad) s →
    exec (if y then .sty p .clean else .stx p .clean) s = .next u →
    ∀ x, (x < dataAddr y p (if w = 1 then pairLow (accessOf y p q am abs ad (w == 1) s).1 else (accessOf y p q am abs ad (w == 1) s).1)
        ∨ dataAddr y p (if w = 1 then pairLow (accessOf y p q am abs ad (w == 1) s).1
            else (accessOf y p q am abs ad (w == 1) s).1) + (if w = 1 then 8 else 4) ≤ x) → u.byte x = s.byte x)
  ∧ (∀ (y : Bool) (p an q am abs ad : Nat) (s u : State), Ready p (.sta y an q am abs ad) s →
    exec (if y then .stya p .clean else .stxa p .clean) s = .next u →
    ∀ x, (x < dataAddr y p (accessOf y p q am abs ad false s).1 ∨ dataAddr y p (accessOf y p q am abs ad false s).1 + 4 ≤ x) →
      u.byte x = s.byte x)

/-- MUL, DMUL, MULM and DMULM in their forms MPY, MAC and MSU: the product of two registers, of two pairs, of the words at an X and
a Y pointer, or of two such pairs, meets its accumulator or the two of a pair, and MULM and DMULM post-modify the pointers they
are told to (R69, R70, R75, R76). -/
def Obligations.ProductRowsComplete : Prop :=
  ∀ (f : Nat) (k : MacFn) (mul dmul mulm dmulm : Nat → Ecc → Instr), (f, k, mul, dmul, mulm, dmulm) ∈ mulRows →
  (∀ (p an ds dt : Nat) (s : State), Ready p (.mul f an ds dt) s →
    ∃ u, exec (mul p .clean) s = .next u ∧ AccAfter p k an (prod (s.dAt p ds 4) (s.dAt p dt 4)) s u
      ∧ KeepsRegs p (accLocs an) s u ∧ Advances p s u ∧ KeepsFields [] s u ∧ KeepsStore s u)
  ∧ (∀ (p ap ds dt : Nat) (s : State), Ready p (.dmul f ap ds dt) s →
    ∃ u, exec (dmul p .clean) s = .next u ∧ AccAfter p k (2 * ap) (prod (s.dAt p ds 4) (s.dAt p dt 4)) s u
      ∧ AccAfter p k (2 * ap + 1) (prod (s.dAt p (ds + 1) 4) (s.dAt p (dt + 1) 4)) s u
      ∧ KeepsRegs p (accLocs (2 * ap) ++ accLocs (2 * ap + 1)) s u ∧ Advances p s u ∧ KeepsFields [] s u ∧ KeepsStore s u)
  ∧ (∀ (p an xp yp xu yu : Nat) (s : State), Ready p (.mulm f an xp yp xu yu) s →
    ∃ u, exec (mulm p .clean) s = .next u
      ∧ AccAfter p k an (prod (ptrWord false p xp false 0 s) (ptrWord true p yp false 0 s)) s u
      ∧ (xu = 1 → u.regNext s p (ptrLoc false xp) 3 = steps false p xp s)
      ∧ (yu = 1 → u.regNext s p (ptrLoc true yp) 3 = steps true p yp s)
      ∧ KeepsRegs p (accLocs an ++ (if xu = 1 then [ptrLoc false xp] else []) ++ if yu = 1 then [ptrLoc true yp] else []) s u
      ∧ Advances p s u ∧ KeepsFields [] s u ∧ KeepsStore s u)
  ∧ (∀ (p ap xp yp xu yu : Nat) (s : State), Ready p (.dmulm f ap xp yp xu yu) s →
    ∃ u, exec (dmulm p .clean) s = .next u
      ∧ AccAfter p k (2 * ap) (prod (ptrWord false p xp true 0 s) (ptrWord true p yp true 0 s)) s u
      ∧ AccAfter p k (2 * ap + 1) (prod (ptrWord false p xp true 1 s) (ptrWord true p yp true 1 s)) s u
      ∧ (xu = 1 → u.regNext s p (ptrLoc false xp) 3 = steps false p xp s)
      ∧ (yu = 1 → u.regNext s p (ptrLoc true yp) 3 = steps true p yp s)
      ∧ KeepsRegs p (accLocs (2 * ap) ++ accLocs (2 * ap + 1) ++ (if xu = 1 then [ptrLoc false xp] else [])
          ++ if yu = 1 then [ptrLoc true yp] else []) s u
      ∧ Advances p s u ∧ KeepsFields [] s u ∧ KeepsStore s u)

/-- FTAP multiplies XCAR by the coefficient at the Y pointer into its accumulator, stores XCAR at the X pointer and takes the word
that stood there into XCAR; FTAP2 does two such taps on a pair; both post-modify both pointers (R76). -/
def Obligations.FilterTapRowsComplete : Prop :=
  (∀ (p an xp yp : Nat) (s : State), Ready p (.ftap an xp yp) s →
    ∃ u, exec (.ftap p .clean) s = .next u
      ∧ AccAfter p .mac an (prod (s.sAt p srXCAR 3) (ptrWord true p yp false 0 s)) s u
      ∧ u.regNext s p (locS srXCAR) 4 = ptrWord false p xp false 0 s
      ∧ (∀ x, u.byte x = (s.setBytes (dataAddr false p (s.sAt p xp 2)) (leBytes 4 (s.sAt p srXCAR 3))).byte x)
      ∧ u.regNext s p (ptrLoc false xp) 3 = steps false p xp s ∧ u.regNext s p (ptrLoc true yp) 3 = steps true p yp s
      ∧ KeepsRegs p (accLocs an ++ [locS srXCAR, ptrLoc false xp, ptrLoc true yp]) s u
      ∧ Advances p s u ∧ KeepsFields [] s u ∧ u.flash = s.flash ∧ u.pending = s.pending)
  ∧ (∀ (p ap xp yp : Nat) (s : State), Ready p (.ftap2 ap xp yp) s →
    ∃ u, exec (.ftap2 p .clean) s = .next u
      ∧ AccAfter p .mac (2 * ap) (prod (s.sAt p srXCAR 3) (ptrWord true p yp true 0 s)) s u
      ∧ AccAfter p .mac (2 * ap + 1) (prod (ptrWord false p xp true 0 s) (ptrWord true p yp true 1 s)) s u
      ∧ u.regNext s p (locS srXCAR) 4 = ptrWord false p xp true 1 s
      ∧ (∀ x, u.byte x = ((s.setBytes (dataAddr false p (pairLow (s.sAt p xp 2))) (leBytes 4 (s.sAt p srXCAR 3))).setBytes
          (dataAddr false p (pairLow (s.sAt p xp 2) + 1)) (leBytes 4 (ptrWord false p xp true 0 s))).byte x)
      ∧ u.regNext s p (ptrLoc false xp) 3 = steps false p xp s ∧ u.regNext s p (ptrLoc true yp) 3 = steps true p yp s
      ∧ KeepsRegs p (accLocs (2 * ap) ++ accLocs (2 * ap + 1) ++ [locS srXCAR, ptrLoc false xp, ptrLoc true yp]) s u
      ∧ Advances p s u ∧ KeepsFields [] s u ∧ u.flash = s.flash ∧ u.pending = s.pending)

/-- CLRA, MOVA, ACCSH and LDA start an accumulator, ADDA and SUBA accumulate into it, RND rounds one into a data register
(R70, R71, R75). -/
def Obligations.AccumulatorRowsComplete : Prop :=
  (∀ (p ad : Nat) (s : State), Ready p (.acc 0 ad 0 0 0) s →
    ∃ u, exec (.clra p .clean) s = .next u ∧ AccAfter p .mpy ad 0 s u
      ∧ KeepsRegs p (accLocs ad) s u ∧ Advances p s u ∧ KeepsFields [] s u ∧ KeepsStore s u)
  ∧ (∀ (p ad as : Nat) (s : State), Ready p (.acc 1 ad as 0 0) s →
    ∃ u, exec (.mova p .clean) s = .next u ∧ AccAfter p .mpy ad (s.regAt p (locA as) 4) s u
      ∧ KeepsRegs p (accLocs ad) s u ∧ Advances p s u ∧ KeepsFields [] s u ∧ KeepsStore s u)
  ∧ (∀ (p ad as : Nat) (s : State), Ready p (.acc 2 ad as 0 0) s →
    ∃ u, exec (.adda p .clean) s = .next u ∧ AccAfter p .mac ad (s.regAt p (locA as) 4) s u
      ∧ KeepsRegs p (accLocs ad) s u ∧ Advances p s u ∧ KeepsFields [] s u ∧ KeepsStore s u)
  ∧ (∀ (p ad as : Nat) (s : State), Ready p (.acc 3 ad as 0 0) s →
    ∃ u, exec (.suba p .clean) s = .next u ∧ AccAfter p .msu ad (s.regAt p (locA as) 4) s u
      ∧ KeepsRegs p (accLocs ad) s u ∧ Advances p s u ∧ KeepsFields [] s u ∧ KeepsStore s u)
  ∧ (∀ (p ad as sh : Nat) (s : State), Ready p (.acc 4 ad as 0 sh) s →
    ∃ u, exec (.accsh p .clean) s = .next u
      ∧ AccAfter p .mpy ad (if sx 6 sh < 0 then s.regAt p (locA as) 4 / ((2 ^ (-(sx 6 sh)).toNat : Nat) : Int)
          else s.regAt p (locA as) 4 * ((2 ^ (sx 6 sh).toNat : Nat) : Int)) s u
      ∧ KeepsRegs p (accLocs ad) s u ∧ Advances p s u ∧ KeepsFields [] s u ∧ KeepsStore s u)
  ∧ (∀ (p as dn : Nat) (s : State), Ready p (.acc 5 0 as dn 0) s →
    ∃ u, exec (.rnd p .clean) s = .next u ∧ u.regNext s p (locD dn) 6 = (accRound (s.regAt p (locA as) 4)).val
      ∧ ((accRound (s.regAt p (locA as) 4)).sat = true → u.regNext s p locSAT 6 = 1)
      ∧ KeepsRegs p [locD dn, locSAT] s u ∧ Advances p s u ∧ KeepsFields [] s u ∧ KeepsStore s u)
  ∧ (∀ (p ad dn : Nat) (s : State), Ready p (.acc 6 ad 0 dn 0) s →
    ∃ u, exec (.lda p .clean) s = .next u ∧ AccAfter p .mpy ad (sx 32 (s.dAt p dn 4) * ((2 ^ 31 : Nat) : Int)) s u
      ∧ KeepsRegs p (accLocs ad) s u ∧ Advances p s u ∧ KeepsFields [] s u ∧ KeepsStore s u)

/-- TRD asks for a tap, whose committed value lands in Dd eleven cycles after the fetch; a reserved tap gives 0 and sets TAPE. TWR of
a tap the instance's task owns notes the value for the commit; any other sets TAPE (R77, R78). -/
def Obligations.TapRowsComplete : Prop :=
  (∀ (p dd t : Nat) (s : State), Ready p (.trd dd t) s →
    ∃ u, exec (.trd p .clean) s = .next u ∧ Advances p s u ∧ KeepsFields [] s u ∧ KeepsStore s u
      ∧ (if isTap t then ⟨locD dd, (s.coreS p).cyc + 11, 0, some t, false⟩ ∈ (u.coreS p).fly
         else u.regNext s p (locD dd) 12 = 0 ∧ u.regNext s p locTAPE 6 = 1)
      ∧ KeepsRegs p [locD dd, locTAPE] s u)
  ∧ (∀ (p ds t : Nat) (i : InstRef) (s : State), Ready p (.twr ds t) s → (s.coreS p).inst = some i →
    ∃ u, exec (.twr p .clean) s = .next u ∧ Advances p s u ∧ KeepsFields [] s u ∧ KeepsStore s u
      ∧ (if reedTap0 + i.outBase ≤ t ∧ t < reedTap0 + i.outBase + i.outCount
         then (t, sx 32 (s.dAt p ds 3)) ∈ (u.coreS p).twr ∧ KeepsRegs p [] s u
         else u.regNext s p locTAPE 6 = 1 ∧ (u.coreS p).twr = (s.coreS p).twr ∧ KeepsRegs p [locTAPE] s u))

/-- A write of a scratch register stores the word and answers the master; nothing else changes (R7, R356). -/
def Obligations.RegisterWriteCompletes : Prop :=
  ∀ (m j v : Nat) (s : State), j < 4 → Admitted (regWrV m (A.SYS_SCRATCH j) (v % 2 ^ 32)) s →
    ∃ u, exec (.registerWrite m (A.SYS_SCRATCH j) v) s = .next u
      ∧ u.get (F.SYS_SCRATCH_DATA j) = v % 2 ^ 32 ∧ u.bus = ⟨m, 0, false, false⟩
      ∧ KeepsFields [F.SYS_SCRATCH_DATA j] s u ∧ KeepsStore s u

/-- The read of the low word of any 64-bit register, or of the first word of any longer group, answers it and latches every further word
of the register; the read of a further word answers what was latched, whatever the register has come to hold, and changes nothing. A
register that a selector picks is the one selected (R10). -/
def Obligations.PairReadCompletes : Prop :=
  (∀ (m p i : Nat) (s : State), p < 2 ^ 32 → latchedBy p ≠ [] → Admitted (regRd m p) s → s.bankSel p = some i →
      mget 0 (p + 2 ^ 32 * i) s.latch = 0 →
    ∃ u, exec (.pairLowRead m p) s = .next u
      ∧ u.bus = ⟨m, s.regWord m (p + 2 ^ 32 * i) % 2 ^ 32, false, false⟩
      ∧ (∀ q ∈ latchedBy p, mget 0 (q + 2 ^ 32 * i) u.latch = s.regWord m (q + 2 ^ 32 * i) + 1)
      ∧ (∀ a, (∀ q ∈ latchedBy p, a ≠ q + 2 ^ 32 * i) → mget 0 a u.latch = mget 0 a s.latch)
      ∧ KeepsFields [] s u ∧ KeepsStore s u)
  ∧ (∀ (m p q i h : Nat) (s : State), q < 2 ^ 32 → q ∈ latchedBy p → latchedBy q = [] → Admitted (regRd m q) s →
      s.bankSel q = some i → mget 0 (q + 2 ^ 32 * i) s.latch = h + 1 →
    ∃ u, exec (.pairLowRead m q) s = .next u ∧ u.bus = ⟨m, h % 2 ^ 32, false, false⟩
      ∧ u.latch = s.latch ∧ KeepsFields [] s u ∧ KeepsStore s u)

/-- An admitted access to a memory other than the cores' and the matrix banks' stores, or answers, the bytes at its address, lowest
byte first, and leaves every other byte alone (R4, R24, R358). -/
def Obligations.MemoryAccessCompletes : Prop :=
  ∀ (m a w v t : Nat) (s : State), a < 2 ^ 40 → targetOf a = some (.mem t) → t ≠ 3 → t ≠ 4 → s.memOn t = true →
    (Admitted { m := m, a := a, w := w, wr := true, val := v % 2 ^ (8 * w) } s →
      ∃ u, exec (.memoryAccess .fabric m a w true v .clean) s = .next u
        ∧ (∀ x, u.byte x = (s.setBytes a (leBytes w (v % 2 ^ (8 * w)))).byte x)
        ∧ (∀ x, x < a ∨ a + w ≤ x → u.byte x = s.byte x) ∧ KeepsFields [] s u)
    ∧ (Admitted { m := m, a := a, w := w, wr := false, val := v % 2 ^ (8 * w) } s →
      ∃ u, exec (.memoryAccess .fabric m a w false v .clean) s = .next u
        ∧ u.bus = ⟨m, leNat (s.bytes a w), false, false⟩ ∧ KeepsFields [] s u ∧ KeepsStore s u)

/-- An access of a master to an address outside every region answers a decode error, and the first such access is captured with its
address, direction and master; a later one only sets OVF (R24, R32). -/
def Obligations.DecodeErrorIsCaptured : Prop :=
  ∀ (m a w v : Nat) (wr : Bool) (s : State), a < 2 ^ 40 → s.alive = true → s.served m = true → targetOf a = none →
    ∃ u, exec (.memoryAccess .fabric m a w wr v .clean) s = .next u
      ∧ u.bus = ⟨m, 0, true, true⟩ ∧ u.mem = s.mem
      ∧ (if s.get F.SYS_ERRINFO_VALID = 0 then
          u.get F.SYS_ERRINFO_VALID = 1 ∧ u.get F.SYS_ERRADDR_LO_ADDR_LO = a % 2 ^ 32 ∧ u.get F.SYS_ERRADDR_HI_ADDR_HI = a / 2 ^ 32
          ∧ u.get F.SYS_ERRINFO_MASTER = m % 32 ∧ u.get F.SYS_ERRINFO_WRITE = wr.toNat
         else u.get F.SYS_ERRINFO_OVF = 1 ∧ KeepsFields [F.SYS_ERRINFO_OVF] s u)

/-- AON power rising takes a node that is OFF to STANDBY with every register at its reset value, the fuses and module balls
excepted, memory empty and the flash as it was; loss of AON power takes any node to OFF, and the flash keeps its bytes unless the
journal engine was writing (R343, R378, R379, R402, R414). -/
def Obligations.PowerRowsComplete : Prop :=
  (∀ (test : Bool) (t : Nat) (s : State), s.sys.off = true →
    ∃ u, exec (.powerOnReset ⟨test, t⟩) s = .next u ∧ u.sys.testMode = test ∧ u.sys.off = false ∧ u.sys.boot = .none ∧ u.get F.PMU_STAT_PSTATE = psSTANDBY
      ∧ (∀ f, fuseKey (Fd.key f) = false → pinKey (Fd.key f) = false → u.get f = f.rst)
      ∧ u.mem = [] ∧ u.flash = s.flash ∧ u.pending = s.pending ∧ u.now = max s.now t)
  ∧ (∀ (c : Cut) (t : Nat) (s : State), s.sys.off = false →
    ∃ u, exec (.aonLoss ⟨c, t⟩) s = .next u ∧ u.sys.off = true ∧ u.alive = false ∧ u.mem = [] ∧ u.pending = s.pending
      ∧ (c = .none → u.flash = s.flash))

/-- The boot goes from power-good over the oscillator check, the rails, DRAM, the journal scan, the choice of a slot and the
directory to the configuration, each step where it is due (R330, R331, R335, R337, R342, R385). -/
def Obligations.BootRowsComplete : Prop :=
  (∀ (t : Nat) (s : State), BootAt .none s → s.get F.PMU_STAT_PSTATE = psSTANDBY → s.pmu.started = [] → s.sys.testMode = false →
    ∃ u, exec (.powerGood t) s = .next u ∧ u.sys.boot = .xo ∧ u.pmu.origin = max s.now t ∧ u.get F.PMU_STAT_BUSY = 1
      ∧ (∀ r ∈ [14, 5, 6, 7], u.get (F.PMU_RAIL_OK r) = 1))
  ∧ (∀ (ok : Bool) (t : Nat) (s : State), BootAt .xo s →
    ∃ u, exec (.xoCheck ok t) s = .next u
      ∧ (if ok then u.sys.boot = .rails ∧ u.sys.safeN = false ∧ KeepsAll s u
         else Leaves (raiseF 80 0 (s.atTime t)) u))
  ∧ (∀ (r t : Nat) (pass : Bool) (s : State), BootAt .xo s ∨ BootAt .rails s → (s.atTime t).railDue r = true →
    ∃ u, exec (.railStart r pass t) s = .next u ∧ u.pmu.started = s.pmu.started ++ [(r, max s.now t)]
      ∧ (if pass then u.get (F.PMU_RAIL_OK r) = 1 else u.pmu.below.contains r = true)
      ∧ (BootAt .rails s → u.get F.PMU_RAILOK_OK = 0xDFFF → u.sys.boot = .scan))
  ∧ (∀ (r t : Nat) (s : State), BootAt .xo s ∨ BootAt .rails s → s.pmu.seqStop = false → s.get (F.PMU_RAIL_OK r) = 0 →
      (∃ x, (r, x) ∈ s.pmu.started ∧ x + 5 * uMs ≤ max s.now t) →
    ∃ u, exec (.railSeqTimeout r t) s = .next u
      ∧ Leaves (raiseF 91 r { s.atTime t with pmu := { s.pmu with seqStop := true } }) u)
  ∧ (∀ (t : Nat) (s : State), BootAt .scan s → s.sys.dramReady = false →
    ∃ u, exec (.dramTrainingDone t) s = .next u ∧ u.sys.dramReady = true ∧ (∀ a, dramBase ≤ a → u.byte a = 0)
      ∧ (∀ a, a < dramBase → u.byte a = s.byte a))
  ∧ (∀ (t : Nat) (s : State), BootAt .scan s →
    ∃ u, exec (.journalScan t) s = .next u ∧ u.sys.boot = .choose ∧ u.disp.fenceTl = [])
  ∧ (∀ (t : Nat) (s : State), BootAt .choose s →
    ∃ u, exec (.slotChoose t) s = .next u ∧ (u.sys.boot = .directory ∨ u.sys.boot = .recovery)
      ∧ (s.manifestCopy = none → u.sys.boot = .recovery ∧ u.sys.safeN = true ∧ u.get F.SEC_STAT_RECOVERY = 1
          ∧ u.get F.PMU_STAT_PSTATE = psREADY))
  ∧ (∀ (t : Nat) (s : State), BootAt .directory s → s.sys.dramReady = true →
    ∃ u, exec (.directoryCheck t) s = .next u
      ∧ (if ([dtCCFW, dtCAL, dtHOSTKEYS].flatMap s.entriesOf).all s.entryOk then u.sys.boot = .config
         else u.sys.boot = .directory ∨ u.sys.boot = .recovery))
  ∧ (∀ (t : Nat) (s : State), BootAt .config s →
    ∃ u, exec (.bootConfiguration t) s = .next u ∧ u.sys.boot = .images)
  ∧ (∀ (v0 us t : Nat) (s : State), BootAt s.sys.boot s → s.sys.holdDue = true → s.boot.copy ≠ 0 →
    ∃ u, exec (.holdupMeasureDone v0 us t) s = .next u ∧ u.sys.holdDue = false)
  ∧ (∀ (t : Nat) (s : State), BootAt .images s →
    ∃ u, exec (.voiceImageBootLoad t) s = .next u ∧ u.sys.boot = .none ∧ u.sys.bootZero = true
      ∧ (s.entriesOf dtVOICE = [] → s.get F.DISP_STAT_STATE = dStopped → u.get F.PMU_STAT_PSTATE = psSHOW))
  ∧ (∀ (t : Nat) (s : State), s.alive = true → s.sys.bootZero = true → s.breathing = true → s.disp.started = true →
      (s.atTime t).reached s.n 100 = false →
    ∃ u, exec (.bootBreathZero t) s = .next u ∧ u.sys.bootZero = false)

/-- Where each command of a change of the engine mode completes, and what it does: the keyed request, the last breath, the clocks,
the anchor and the end (R19). -/
def Obligations.ModeRowsComplete : Prop :=
  (∀ (m v : Nat) (s : State), Admitted (regWr m A.SYS_MODE_APPLY) s → Keyed v → s.sys.apply = .idle →
      s.paired = false → (s.get F.PMU_STAT_PSTATE = psREADY ∨ s.get F.PMU_STAT_PSTATE = psSHOW) →
    ∃ u, exec (.modeApply m v) s = .next u ∧ Answers m u
      ∧ (if s.get F.DISP_STAT_STATE = dStopped then
           u.sys.apply = .clocks ∧ u.get F.SYS_MODE_STAT_APPLYING = 1 ∧ u.sys.applyMode = s.get F.SYS_MODE_REQ
         else u.sys.apply = .wait ∧ KeepsFields [] s u ∧ KeepsStore s u))
  ∧ (∀ (t : Nat) (s : State), s.alive = true → s.sys.apply = .ramp → s.sys.applyB + 32 ≤ s.n →
    ∃ u, exec (.modeLastBreath t) s = .next u ∧ u.sys.apply = .clocks ∧ u.get F.DISP_STAT_STATE = dStopping)
  ∧ (∀ (t : Nat) (s : State), s.alive = true → s.sys.apply = .clocks →
      (∀ l < 128, ∀ f, s.fenceTl l = some f → f.spare.isSome = true → f.restart.isSome = true) →
    ∃ u, exec (.clocksReconfigured t) s = .next u ∧ u.get F.SYS_MODE_STAT_CUR = s.sys.applyMode % 4
      ∧ (if s.get F.DISP_STAT_STATE = dStopped then u.sys.apply = .idle ∧ u.get F.SYS_MODE_STAT_APPLYING = 0
         else u.sys.apply = .anchor ∧ u.get F.DISP_STAT_STATE = dArmed))
  ∧ (∀ (t : Nat) (s : State), s.alive = true → s.sys.apply = .anchor → s.get F.DISP_STAT_STATE = dArmed →
      s.sys.applyAt + uMs ≤ max s.now t →
    ∃ u, exec (.applyAnchorTimeout t) s = .next u ∧ Leaves (dispAnchor (s.atTime t).dev (s.atTime t)) u
      ∧ u.get F.DISP_STAT_STATE = dRunning)
  ∧ (∀ (t : Nat) (s : State), s.alive = true → s.sys.apply = .rampIn → s.sys.applyB + 32 ≤ s.n →
    ∃ u, exec (.applyDone t) s = .next u ∧ u.sys.apply = .idle ∧ u.get F.SYS_MODE_STAT_APPLYING = 0
      ∧ u.get F.SYS_MODE_STAT_RESULT = (if s.get F.SYS_MODE_STAT_MISMATCH = 0 then maDONE else maMISMATCH))

/-- A unit reset puts its unit into reset and releases it 2 µs later; a warm restart by register, pin or watchdog sets its cause and
boots again from the journal scan, the clock restarted (R29, R30, R31, R414). -/
def Obligations.ResetRowsComplete : Prop :=
  (∀ (m v g : Nat) (s : State), Admitted (regWr m A.SYS_URST) s → Keyed v → unitGroup (bits 12 8 v) = some g →
      s.fencedGroup g = false → s.sys.urst = none →
    ∃ u, exec (.unitReset m v) s = .next u ∧ Answers m u ∧ u.sys.urst = some (bits 12 8 v, s.now))
  ∧ (∀ (t k a : Nat) (s : State), s.alive = true → s.sys.urst = some (k, a) → a + 2 * uUs ≤ max s.now t →
    ∃ u, exec (.unitResetRelease t) s = .next u ∧ u.sys.urst = none ∧ u.get F.SYS_URST_STAT_BUSY = 0
      ∧ u.get F.SYS_URST_STAT_RESULT = urDONE ∧ u.get F.SYS_URST_STAT_COUNT = (s.get F.SYS_URST_STAT_COUNT + 1) % 2 ^ 8
      ∧ u.mem = s.mem)
  ∧ (∀ (m v : Nat) (s : State), Admitted (regWr m A.SYS_WARM) s → Keyed v → s.get F.FCU_STAT_STATE ≠ 2 → s.sys.testMode = false →
      s.get F.PMU_STAT_PSTATE ≠ psSTANDBY →
    ∃ u, exec (.warmRestart m v) s = .next u ∧ u.sys.boot = .scan ∧ u.get F.SYS_RESET_CAUSE_SW = 1
      ∧ u.get F.PMU_STAT_PSTATE = psREADY ∧ u.time.start = s.now ∧ u.flash = s.flash ∧ u.pending = s.pending
      ∧ (∀ a, keepBase ≤ a → a < keepBase + 0x10000 → u.byte a = s.byte a)
      ∧ (∀ a, 0x40000 ≤ a → (a < keepBase ∨ keepBase + 0x10000 ≤ a) → u.byte a = 0))
  ∧ (∀ (t : Nat) (s : State), s.get F.PMU_STAT_PSTATE ≠ psSTANDBY → s.get F.FCU_STAT_STATE ≠ 2 → s.sys.off = false →
      s.sys.testMode = false →
    ∃ u, exec (.resetN t) s = .next u ∧ u.sys.pinHeld = true ∧ u.alive = false ∧ u.get F.SYS_RESET_CAUSE_PIN = 1)
  ∧ (∀ (t : Nat) (s : State), s.sys.off = false → s.sys.pinHeld = true →
    ∃ u, exec (.resetNRelease t) s = .next u ∧ Leaves { s.atTime t with sys := { s.sys with pinHeld := false } } u)
  ∧ (∀ (t : Nat) (s : State), s.get F.PMU_STAT_PSTATE ≠ psSTANDBY → s.get F.FCU_STAT_STATE ≠ 2 → s.sys.off = false →
      s.sys.testMode = false →
    ∃ u, exec (.watchdogExpiry t) s = .next u ∧ u.sys.boot = .scan ∧ u.get F.SYS_RESET_CAUSE_WDOG = 1)

/-- A keyed request for a power state that nothing rejects begins its transition and sets BUSY; a request for the state in force is
DONE (R379, R380). -/
def Obligations.PowerStateRequestsComplete : Prop :=
  (∀ (m v : Nat) (s : State), Admitted (regWr m A.PMU_PSTATE_REQ) s → Keyed v → s.requestResult psSTANDBY = none →
    ∃ u, exec (.requestStandby m v) s = .next u ∧ Answers m u ∧ u.pmu.target = some (psSTANDBY, s.now)
      ∧ u.get F.PMU_STAT_BUSY = 1 ∧ KeepsFields [F.PMU_STAT_BUSY] s u ∧ KeepsStore s u)
  ∧ (∀ (m v : Nat) (s : State), Admitted (regWr m A.PMU_PSTATE_REQ) s → Keyed v → s.requestResult psNAP = none →
    ∃ u, exec (.requestNap m v) s = .next u ∧ Answers m u ∧ u.pmu.target = some (psNAP, s.now)
      ∧ u.get F.PMU_STAT_BUSY = 1 ∧ KeepsFields [F.PMU_STAT_BUSY] s u ∧ KeepsStore s u)
  ∧ (∀ (m v : Nat) (s : State), Admitted (regWr m A.PMU_PSTATE_REQ) s → Keyed v → s.requestResult psREADY = none →
    ∃ u, exec (.requestReady m v) s = .next u ∧ Answers m u ∧ Wakes 4 s.now u
      ∧ KeepsFields [F.PMU_STAT_BUSY, F.PMU_WAKE_VALID, F.PMU_WAKE_SRC] s u ∧ KeepsStore s u)
  ∧ (∀ (m v k r : Nat) (s : State), Admitted (regWr m A.PMU_PSTATE_REQ) s → Keyed v → k < 8 → s.requestResult k = some r →
    ∃ u, exec (.registerWrite m A.PMU_PSTATE_REQ (withTarget k v % 2 ^ 32)) s = .next u ∧ Answers m u
      ∧ u.get F.PMU_STAT_RESULT = r ∧ KeepsFields [F.PMU_STAT_RESULT] s u)
  ∧ (∀ (t x : Nat) (s : State), s.sys.off = false → s.get F.FCU_STAT_STATE ≠ 2 → s.sys.pinHeld = false → s.pmu.fallAt = none →
      s.pmu.target = some (psREADY, x) →
    ∃ u, exec (.pstateTransitionDone t) s = .next u ∧ u.get F.PMU_STAT_PSTATE = psREADY ∧ u.get F.PMU_STAT_BUSY = 0
      ∧ u.get F.PMU_STAT_RESULT = pqDONE ∧ u.pmu.target = none ∧ u.time.start = max s.now t)

/-- A wake source that is enabled and acts from the state in force wakes the node, from NAP or from STANDBY (R381). -/
def Obligations.WakeRowsComplete : Prop :=
  (∀ (t : Nat) (s : State), WakeHeard 0 s → s.get F.PMU_STAT_PSTATE = psNAP →
    ∃ u, exec (.wakeN t) s = .next u ∧ Wakes 0 (max s.now t) u)
  ∧ (∀ (t k x : Nat) (s : State), s.bit F.PMU_WAKE_EN_EN 0 = true → s.get F.FCU_STAT_STATE ≠ 2 → s.sys.off = false →
      s.sys.testMode = false → s.pmu.fallAt = none → s.pmu.target = some (k, x) → k = psNAP ∨ k = psSTANDBY → s.pmu.woken = none →
    ∃ u, exec (.wakeN t) s = .next u ∧ u.pmu.woken = some 0 ∧ u.pmu.target = s.pmu.target ∧ KeepsAll s u)
  ∧ (∀ (t : Nat) (s : State), WakeHeard 0 s → s.get F.PMU_STAT_PSTATE = psSTANDBY →
    ∃ u, exec (.wakeN t) s = .next u ∧ Boots (max s.now t) u ∧ u.get F.SYS_RESET_CAUSE_PIN = 1)
  ∧ (∀ (t : Nat) (s : State), WakeHeard 1 s → s.get F.PMU_STAT_PSTATE = psNAP → s.pmu.alarmed = false →
      s.get F.PMU_ALARM_SEC ≤ (s.atTime t).aonSec →
    ∃ u, exec (.alarm t) s = .next u ∧ Wakes 1 (max s.now t) u ∧ u.pmu.alarmed = true)
  ∧ (∀ (t : Nat) (s : State), WakeHeard 2 s → s.get F.PMU_STAT_PSTATE = psSTANDBY →
    ∃ u, exec (.spiWake t) s = .next u ∧ Boots (max s.now t) u ∧ u.get F.SYS_RESET_CAUSE_SW = 1)
  ∧ (∀ (p t : Nat) (s : State), WakeHeard 3 s → s.get F.PMU_STAT_PSTATE = psNAP → p < 4 →
      s.bit F.PMU_WAKE_EN_WAKE_PORTS p = true → s.portUp p = true →
    ∃ u, exec (.linkWake p t) s = .next u ∧ Wakes 3 (max s.now t) u)

/-- Where each command of the rails, the adaptive voltage, the monitor and the input completes, and what it does to the registers
and the hidden state named here (R385, R386, R390, R350). -/
def Obligations.SupplyRowsComplete : Prop :=
  (∀ (r t : Nat) (s : State), r < 16 → s.sys.off = false → (s.atTime t).railOn r = true → s.pmu.below.contains r = false →
    ∃ u, exec (.railUndervoltage r t) s = .next u
      ∧ Leaves (raiseF 88 r (setBelow true r ((setRailOk false (s.atTime t) r).set (F.PMU_RAIL_UV r) 1))) u)
  ∧ (∀ (r t : Nat) (s : State), r < 16 → s.sys.off = false → (s.atTime t).railOn r = true →
    ∃ u, exec (.railOvervoltage r t) s = .next u
      ∧ Leaves (raiseF 89 r (setBelow false r ((setRailOk false (s.atTime t) r).set (F.PMU_RAIL_OV r) 1))) u)
  ∧ (∀ (up : Bool) (t : Nat) (s : State), s.sys.off = false → (s.atTime t).avsRuns = true → s.get F.PMU_AVS_STAT_VNOW ≤ 850 →
    ∃ u, exec (.avsStep up t) s = .next u
      ∧ u.get F.PMU_AVS_STAT_VNOW = max s.vmin (min s.vmax (if up then s.get F.PMU_AVS_STAT_VNOW + 5 else s.get F.PMU_AVS_STAT_VNOW - 5))
      ∧ u.get (F.PMU_RAIL_TARGET 0) = u.get F.PMU_AVS_STAT_VNOW
      ∧ KeepsFields [F.PMU_AVS_STAT_VNOW, F.PMU_RAIL_TARGET 0] s u ∧ KeepsStore s u)
  ∧ (∀ (t : Nat) (s : State), s.sys.off = false → (s.atTime t).avsRuns = true →
    ∃ u, exec (.avsEmergency t) s = .next u
      ∧ u.get F.PMU_AVS_STAT_VNOW = max s.vmin (min s.vmax (s.get F.PMU_AVS_STAT_VNOW + 25))
      ∧ u.get F.PMU_AVS_STAT_EMERG = min (s.get F.PMU_AVS_STAT_EMERG + 1) (2 ^ Fd.width F.PMU_AVS_STAT_EMERG - 1)
      ∧ KeepsFields [F.PMU_AVS_STAT_VNOW, F.PMU_RAIL_TARGET 0, F.PMU_AVS_STAT_EMERG] s u ∧ KeepsStore s u)
  ∧ (∀ (rails temps : List Nat) (vin vhold : Nat) (bandgap : Bool) (t : Nat) (s : State), s.sys.off = false →
    ∃ u, exec (.adcRound rails vin vhold temps bandgap t) s = .next u
      ∧ Leaves (bootRails (railsAgain rails (adcRound rails vin vhold temps bandgap (accrue (s.atTime t))))) u)
  ∧ (∀ (t : Nat) (s : State), s.get F.FCU_STAT_STATE ≠ 2 → s.pmu.fallAt = none → s.sys.off = false →
      (s.get F.PMU_STAT_PSTATE ≠ psSTANDBY ∨ s.booting = true) →
    ∃ u, exec (.inputFall t) s = .next u ∧ u.pmu.fallAt = some (max s.now t) ∧ u.pmu.target = none ∧ u.get F.PMU_STAT_BUSY = 0
      ∧ u.lig.queued = [] ∧ u.lig.flush = true)
  ∧ (∀ (t f : Nat) (s : State), s.pmu.fallAt = some f → f + 100 * uMs ≤ max s.now t →
    ∃ u, exec (.inputRecover t) s = .next u ∧ u = coldState (s.atTime t))

/-- An event whose class is NOTE latches its pending bit, counts its source and leaves the reaction state alone; the record it makes
carries the source and the index, 0xFFFF where the parity fails; a second one within 1 ms makes no record, and a full record buffer
drops it (R311, R313, R314, R317, R318). -/
def Obligations.FaultEventIsCollected : Prop :=
  ∀ (src idx g t : Nat) (ok : Bool) (s : State), s.sys.off = false → s.sys.pinHeld = false → s.sys.boot = .none →
    psREADY ≤ s.get F.PMU_STAT_PSTATE → s.pmu.fallAt = none → s.get F.FCU_STAT_STATE ≠ 2 → src < 124 → src ≠ 121 → idx < 65536 →
    srcGroup src = some g → (s.atTime t).lineIgnored src g (if ok then idx else 65535) = false →
    (s.atTime t).shadowed g = false → (s.atTime t).sameEvent src false = false → s.classOf src = 0 →
    ∃ u, exec (.faultEvent src idx ok t) s = .next u
      ∧ bitOf (u.get (F.FCU_PEND_PEND (src / 32))) (src % 32) = true
      ∧ u.get (F.FCU_SRCCNT_COUNT src) = min (s.get (F.FCU_SRCCNT_COUNT src) + 1) (2 ^ Fd.width (F.FCU_SRCCNT_COUNT src) - 1)
      ∧ u.get F.FCU_STAT_STATE = s.get F.FCU_STAT_STATE
      ∧ (if mget 0 src s.fcu.lastRec ≠ 0 ∧ max s.now t < mget 0 src s.fcu.lastRec - 1 + uMs then u.fcu.recs = s.fcu.recs
         else if 32 ≤ s.fcu.recs.length then u.fcu.recs = s.fcu.recs ∧ u.get F.FCU_REC_STAT_OVF = 1
         else u.fcu.recs = s.fcu.recs ++ [⟨src, if ok then idx else 65535, false, false, false, 0, (s.atTime t).devNs, bidx s.n⟩]
          ∧ u.get F.FCU_REC_STAT_COUNT = s.fcu.recs.length + 1)

/-- The first event of class QUIET and the first of class HALT latch their state at their instant (R320, R322). -/
def Obligations.ReactionsLatch : Prop :=
  ∀ (src idx g t : Nat) (s : State), s.sys.off = false → s.sys.pinHeld = false → s.sys.boot = .none →
    psREADY ≤ s.get F.PMU_STAT_PSTATE → s.pmu.fallAt = none → s.get F.FCU_STAT_STATE = 0 → src < 124 → src ≠ 121 → idx < 65536 →
    srcGroup src = some g → (s.atTime t).lineIgnored src g idx = false → (s.atTime t).shadowed g = false →
    (s.atTime t).sameEvent src false = false →
    (s.classOf src = 2 →
      ∃ u, exec (.faultEvent src idx true t) s = .next u ∧ u.get F.FCU_STAT_STATE = 1 ∧ u.fcu.quietAt = some (max s.now t)
        ∧ u.get F.FCU_LAST_VALID = 1 ∧ u.get F.FCU_LAST_CLASS = 2 ∧ u.get F.FCU_LAST_SOURCE = src ∧ u.get F.FCU_LAST_INDEX = idx)
    ∧ (s.classOf src = 3 →
      ∃ u, exec (.faultEvent src idx true t) s = .next u ∧ u.get F.FCU_STAT_STATE = 2 ∧ u.fcu.haltAt = some (max s.now t)
        ∧ u.get F.FCU_LAST_VALID = 1 ∧ u.get F.FCU_LAST_CLASS = 3 ∧ u.get F.FCU_LAST_SOURCE = src ∧ u.get F.FCU_LAST_INDEX = idx)

/-- Where the other events and commands of the fault collector complete, and what they do: broken wires, shadows, the
configuration check and lock, injection, records, and the timelines of QUIET and HALT (R312, R318–R326). -/
def Obligations.FaultRowsComplete : Prop :=
  (∀ (src cycles g t : Nat) (s : State), s.sys.off = false → 4 ≤ cycles → src < 128 → srcGroup src = some g →
      (s.atTime t).fcuDeaf = false → (s.atTime t).lineIgnored src g 0xFFFF = false →
    ∃ u, exec (.brokenWire src cycles t) s = .next u ∧ mget 0 src u.fcu.wireUntil = max s.now t + (cycles + 1000) * uNs)
  ∧ (∀ (g t : Nat) (s : State), s.sys.off = false → mget 0 g s.fcu.shEnd ≤ max s.now t →
    ∃ u, exec (.shadowEnd g t) s = .next u ∧ mget 0 g u.fcu.shOpen = 0 ∧ mget 0 g u.fcu.shEnd = 0
      ∧ KeepsFields [] s u ∧ KeepsStore s u)
  ∧ (∀ (w diff t : Nat) (parity : Bool) (s : State), s.sys.off = false → w < 42 → (diff % 2 ^ 32 ≠ 0 ∨ parity = true) →
      (s.atTime t).fcuDeaf = false → (s.atTime t).lineIgnored 120 26 w = false →
      (s.atTime t).sameEvent 120 false = false →
    ∃ u, exec (.configCheckFail w diff parity t) s = .next u ∧ u.get F.FCU_STAT_STATE = 2)
  ∧ (∀ (m v : Nat) (s : State), Admitted (regWr m A.FCU_LOCK) s → Keyed v →
    ∃ u, exec (.configLock m v) s = .next u ∧ Answers m u ∧ u.get F.FCU_STAT_LOCKED = 1
      ∧ (if s.get F.FCU_STAT_LOCKED = 0 then KeepsFields [F.FCU_STAT_LOCKED] s u
         else u.get F.FCU_STAT_LOCKWR = 1 ∧ KeepsFields [F.FCU_STAT_LOCKWR] s u) ∧ KeepsStore s u)
  ∧ (∀ (m k v : Nat) (s : State), k < 4 → Admitted (regWr m (A.FCU_FORCE k)) s →
    ∃ u, exec (.faultForce m k v) s = .next u ∧ Answers m u
      ∧ (if s.get F.FCU_FORCE_CFG_EN = 1 then
          Leaves ((((List.range 32).filter (fun j => bitOf v j)).foldl (fun w j => forceOne w (32 * k + j)) s).respond m 0 false false) u
         else KeepsAll s u))
  ∧ (∀ (m : Nat) (r : FaultRec) (l : List FaultRec) (s : State), Admitted (regRd m A.FCU_REC0) s → s.fcu.recs = r :: l →
    ∃ u, exec (.recordRead m) s = .next u ∧ u.fcu.recs = l ∧ u.get F.FCU_REC_STAT_COUNT = l.length % 2 ^ Fd.width F.FCU_REC_STAT_COUNT
      ∧ u.get (F.FCU_REC1_WORD 0) = r.time % 2 ^ 32 ∧ u.get (F.FCU_REC1_WORD 1) = r.time / 2 ^ 32 % 2 ^ 32
      ∧ u.get (F.FCU_REC1_WORD 2) = r.breath % 2 ^ 32)
  ∧ (∀ (t q : Nat) (s : State), s.sys.off = false → s.fcu.audioStopped = false →
      s.fcu.quietAt = some q ∨ s.fcu.haltAt = some q ∨ s.pmu.fallAt = some q → q + uUs ≤ max s.now t →
    ∃ u, exec (.audioStop t) s = .next u ∧ u.fcu.audioStopped = true)
  ∧ (∀ (t q : Nat) (s : State), s.sys.off = false → s.get F.FCU_STAT_STATE = 1 → s.fcu.quietAt = some q → s.fcu.autoDue = true →
      s.get F.FCU_QUIET_CFG_AUTO = 1 → q + s.quietDelay ≤ max s.now t → s.quietRecordOpen = false → s.sys.testMode = false →
      s.get F.PMU_STAT_PSTATE ≠ psSTANDBY →
    ∃ u, exec (.quietAutoRestart t) s = .next u
      ∧ (if max 1 (s.get F.FCU_QUIET_CFG_QUIET_MAX) ≤ (s.atTime t).recentRestarts.length then
          u.get F.FCU_STAT_AUTOSUP = 1 ∧ u.fcu.autoDue = false
         else u.sys.boot = .scan ∧ u.get F.SYS_RESET_CAUSE_QUIET_EXIT = 1))
  ∧ (∀ (t : Nat) (s : State), s.sys.off = false →
    ∃ u, exec (.qrestartAge t) s = .next u ∧ u.fcu.restarts = (s.atTime t).recentRestarts
      ∧ u.get F.FCU_STAT_QRESTARTS = min 15 (s.atTime t).recentRestarts.length)
  ∧ (∀ (t h : Nat) (s : State), s.sys.off = false → s.fcu.haltAt = some h → s.fcu.stopped = false →
      (h + 100 * uMs ≤ max s.now t ∨ (s.lig.pend = [] ∧ s.lig.queued = [] ∧ s.lig.waiting = [] ∧ s.lig.hkWait = [])) →
    ∃ u, exec (.haltFlushDone t) s = .next u ∧ u.fcu.stopped = true ∧ u.alive = false)

/-- The boot is confirmed once, by a keyed write, with the BOOT record of a confirmed boot; a later write only sets CONFWR; the floor
and the key fuses burn where the rule allows it; an authentication check is queued and its result shown (R336, R353). -/
def Obligations.SecurityRowsComplete : Prop :=
  (∀ (m v : Nat) (s : State), Admitted (regWr m A.SEC_BOOT_CONFIRM) s → Keyed v →
    ∃ u, exec (.bootConfirm m v) s = .next u ∧ Answers m u
      ∧ (if s.get F.SEC_BOOT_CONFIRM_GO = 0 then u.get F.SEC_BOOT_CONFIRM_GO = 1 ∧ u.get F.SEC_STAT_CONFIRMED = 1
         else u.get F.SEC_STAT_CONFWR = 1 ∧ KeepsFields [F.SEC_STAT_CONFWR] s u ∧ KeepsStore s u))
  ∧ (∀ (m v : Nat) (s : State), Admitted (regWr m A.SEC_FLOOR_BURN) s → bits 31 16 v = 0xA55A →
    ∃ u, exec (.floorBurn m v) s = .next u ∧ Answers m u
      ∧ (if s.get F.SEC_FUSE_FLOOR < v % 256 ∧ v % 256 ≤ s.get F.SEC_BOOT_GEN_GEN / 2 ^ 24 then
          (if s.get F.SEC_STAT_CONFIRMED = 0 then
            u.get F.SEC_FUSE_FUSERES = fuTRIAL ∧ u.get F.SEC_FUSE_FLOOR = s.get F.SEC_FUSE_FLOOR
           else if s.bootKeyValid then u.get F.SEC_FUSE_FUSERES = fuDONE ∧ u.get F.SEC_FUSE_FLOOR = v % 256
           else u.get F.SEC_FUSE_FUSERES = fuKEY ∧ u.get F.SEC_FUSE_FLOOR = s.get F.SEC_FUSE_FLOOR)
         else u.get F.SEC_FUSE_FUSERES = fuRANGE ∧ u.get F.SEC_FUSE_FLOOR = s.get F.SEC_FUSE_FLOOR)
      ∧ KeepsFields [F.SEC_FUSE_FUSERES, F.SEC_FUSE_FLOOR] s u ∧ KeepsStore s u)
  ∧ (∀ (m v : Nat) (s : State), Admitted (regWr m A.SEC_REVOKE) s → Keyed v →
    ∃ u, exec (.keyRevoke m v) s = .next u ∧ Answers m u
      ∧ (if s.get F.SEC_STAT_KEY ≠ 0 ∧ s.get F.SEC_STAT_CONFIRMED ≠ 0 then
          u.get F.SEC_FUSE_KEY0_REVOKED = 1 ∧ u.get F.SEC_FUSE_FUSERES = fuDONE
         else u.get F.SEC_FUSE_KEY0_REVOKED = s.get F.SEC_FUSE_KEY0_REVOKED ∧ u.get F.SEC_FUSE_FUSERES = fuKEY)
      ∧ KeepsFields [F.SEC_FUSE_FUSERES, F.SEC_FUSE_KEY0_REVOKED] s u ∧ KeepsStore s u)
  ∧ (∀ (m v : Nat) (s : State), Admitted (regWr m A.SEC_AUTH_CMD) s → s.get F.SEC_AUTH_STAT_BUSY = 0 →
    ∃ u, exec (.authCheck m v) s = .next u ∧ Answers m u ∧ u.get F.SEC_AUTH_STAT_BUSY = 1
      ∧ u.boot.auth = s.boot.auth ++
          [((s.get F.SEC_AUTH_ADDR_HI_ADDR_HI * 2 ^ 32 + s.get F.SEC_AUTH_ADDR_LO_ADDR_LO) / 8 * 8, bitOf v 0)]
      ∧ KeepsFields [F.SEC_AUTH_STAT_BUSY] s u ∧ KeepsStore s u)
  ∧ (∀ (a t : Nat) (dir : Bool) (l : List (Nat × Bool)) (s : State), s.alive = true → s.boot.auth = (a, dir) :: l → s.authTurn 16 = true →
    ∃ u, exec (.authDone t) s = .next u ∧ u.boot.auth = l
      ∧ u.get F.SEC_AUTH_STAT_RESULT = (s.authResult a dir).1 ∧ u.get F.SEC_AUTH_STAT_BUSY = (!l.isEmpty).toNat ∧ KeepsStore s u)

/-- Where each command of the journal completes, and what it does: commits, reclaims, checkpoints, hours, software appends and
reads of the flash through the window (R340–R352). -/
def Obligations.JournalRowsComplete : Prop :=
  (∀ (t : Nat) (r : JRec) (rest : List JRec) (w : State) (s : State), s.sys.off = false → s.sys.pinHeld = false →
      s.fcu.stopped = false → s.ligRuns = true → s.lig.pend = r :: rest → writeRec r (s.atTime t) = some w →
    ∃ u, exec (.recordCommit true t) s = .next u ∧ u.flash = w.flash ∧ u.lig.headOfs = w.lig.headOfs ∧ u.lig.live = w.lig.live)
  ∧ (∀ (t : Nat) (s : State), s.alive = true → s.ligState = lgIDLE → s.headReady = false → s.retired s.lig.headSec = false →
      s.reclaimable s.lig.headSec = true → mget 0 s.lig.headSec s.lig.erases < 80000 →
    ∃ u, exec (.reclaim true t) s = .next u ∧ mget 0 s.lig.headSec u.lig.erases = mget 0 s.lig.headSec s.lig.erases + 1
      ∧ u.lig.ready = s.lig.ready ++ [s.lig.headSec]
      ∧ (∀ a, a < ringBase s.lig.headSec ∨ ringBase s.lig.headSec + 0x10000 ≤ a → u.fbyte a = s.fbyte a))
  ∧ (∀ (t : Nat) (s : State), s.alive = true →
    ∃ u, exec (.checkpoint t) s = .next u ∧ Leaves (checkpoint (s.atTime t)) u)
  ∧ (∀ (t : Nat) (s : State), s.alive = true → s.ligState = lgIDLE → s.lig.lastAge + 86400 ≤ (accrue (s.atTime t)).opsec →
      (List.range ringLen).any s.aged = false →
    ∃ u, exec (.ageCheck t) s = .next u ∧ u.lig.lastAge = (accrue (s.atTime t)).opsec ∧ KeepsFields [] s u ∧ KeepsStore s u)
  ∧ (∀ (t : Nat) (s : State), s.alive = true → s.ligState ≠ lgSCAN → s.lig.lastHours + 3600 ≤ (accrue (s.atTime t)).opsec →
    ∃ u, exec (.hoursRecord t) s = .next u ∧ u.lig.lastHours = (accrue (s.atTime t)).opsec ∧ KeepsStore s u)
  ∧ (∀ (m v n : Nat) (s : State), Admitted (regWr m A.LIG_APPEND) s → bitOf v 31 = true → s.ligState ≠ lgFLUSH → s.lig.flush = false →
      (v % 65536 = jBASELINE ∨ v % 65536 = jREFHIST ∨ v % 65536 = jCAL) → bits 27 16 v = n → n ≠ 0 → n ≤ 2040 →
      (let r : JRec := { type := v % 65536, opsec := s.opsec, origseq := 0, body := s.appendBytes n }; jFits (jRoom r s.lig).1 r = true) →
    ∃ u, exec (.journalAppend m v) s = .next u ∧ Answers m u ∧ u.get F.LIG_APPEND_STAT_RESULT = apQUEUED ∧ KeepsStore s u)
  ∧ (∀ (m v : Nat) (s : State), Admitted (regWr m A.LIG_RD_CMD) s → bitOf v 0 = true →
    ∃ u, exec (.flashWindowRead m v) s = .next u ∧ Answers m u ∧ u.get F.LIG_RD_CMD_BUSY = 1
      ∧ KeepsFields [F.LIG_RD_CMD_BUSY] s u ∧ KeepsStore s u)
  ∧ (∀ (j t : Nat) (s : State), s.alive = true → s.get F.LIG_RD_CMD_BUSY = 1 → j < 64 →
    ∃ u, exec (.flashWindowReadDone t) s = .next u ∧ u.get F.LIG_RD_CMD_BUSY = 0
      ∧ u.get (F.LIG_RDWIN j) = leNat ((List.range 4).map (fun i => s.fread (s.get F.LIG_RD_ADDR_ADDR + 4 * j + i)))
      ∧ u.get F.LIG_RD_CMD_ERR = (decide (flashBytes < s.get F.LIG_RD_ADDR_ADDR + 256)).toNat ∧ KeepsStore s u)

/-- RUN moves the dispatcher from STOPPED to ARMED and out of READY; a stop in ARMED, in RUNNING and during a commit act as the rule
says; STOPPED is reached when every instance has ended (R33, R157, R379). -/
def Obligations.DispatcherRunRowsComplete : Prop :=
  (∀ (m v : Nat) (s : State), Admitted (regWr m A.DISP_CTRL) s → bitOf v 0 = true → s.get F.SYS_MODE_STAT_APPLYING = 0 →
    ∃ u, exec (.dispRun m v) s = .next u ∧ Answers m u ∧ u.get F.DISP_CTRL_RUN = 1 ∧ u.get F.DISP_CTRL_ROT_EN = bits 1 1 v
      ∧ u.get F.DISP_STAT_STATE = (if s.get F.DISP_STAT_STATE = dStopped then dArmed else s.get F.DISP_STAT_STATE)
      ∧ u.get F.PMU_STAT_PSTATE
        = (if s.get F.DISP_STAT_STATE = dStopped ∧ s.get F.PMU_STAT_PSTATE = psREADY then psSHOW else s.get F.PMU_STAT_PSTATE)
      ∧ u.disp.stopHeld = false
      ∧ KeepsFields [F.DISP_CTRL_RUN, F.DISP_CTRL_ROT_EN, F.DISP_STAT_STATE, F.PMU_STAT_PSTATE] s u ∧ KeepsStore s u)
  ∧ (∀ (m v : Nat) (s : State), Admitted (regWr m A.DISP_CTRL) s → bitOf v 0 = false → s.get F.SYS_MODE_STAT_APPLYING = 0 →
    ∃ u, exec (.dispStop m v) s = .next u ∧ Answers m u ∧ u.get F.DISP_CTRL_RUN = 0
      ∧ (s.get F.DISP_STAT_STATE = dArmed → u.get F.DISP_STAT_STATE = dStopped)
      ∧ (s.get F.DISP_STAT_STATE = dRunning → s.get F.RVC_STAT_STARTED = 0 → u.get F.DISP_STAT_STATE = dStopping)
      ∧ (s.get F.DISP_STAT_STATE = dRunning → s.get F.RVC_STAT_STARTED ≠ 0 →
          u.get F.DISP_STAT_STATE = dRunning ∧ u.disp.stopHeld = true)
      ∧ KeepsFields [F.DISP_CTRL_RUN, F.DISP_CTRL_ROT_EN, F.DISP_STAT_STATE, F.PMU_STAT_PSTATE] s u ∧ KeepsStore s u)
  ∧ (∀ (t : Nat) (s : State), s.alive = true → s.get F.DISP_STAT_STATE = dStopping → s.disp.insts.all (fun i => i.ended.isSome) = true →
      s.get F.SYS_MODE_STAT_APPLYING = 0 →
    ∃ u, exec (.dispStopped t) s = .next u ∧ u.get F.DISP_STAT_STATE = dStopped ∧ u.get F.DISP_CTRL_RUN = s.get F.DISP_CTRL_RUN
      ∧ u.get F.PMU_STAT_PSTATE = (if s.get F.PMU_STAT_PSTATE = psSHOW then psREADY else s.get F.PMU_STAT_PSTATE) ∧ KeepsStore s u)
  ∧ (∀ (t : Nat) (s : State), s.alive = true → (s.atTime t).breathDue = true →
    ∃ u, exec (.breathStart t) s = .next u ∧ u.disp.n = s.nextBreath ∧ u.disp.started = true)

/-- The clear commands take their counters back to reset values and touch nothing else; a read of the second table word moves the
index on where AUTOINC is set (R61). -/
def Obligations.DispatcherStatisticsRowsComplete : Prop :=
  (∀ (m l : Nat) (s : State), Admitted (regWr m A.DISP_CLR) s → l < 128 →
    ∃ u, exec (.clrCore m) s = .next u ∧ Answers m u
      ∧ u.get (F.DISP_CORE_STAT_BUSY_MAX l) = (F.DISP_CORE_STAT_BUSY_MAX l).rst
      ∧ u.get (F.DISP_CORE_STAT_SLACK_MIN l) = (F.DISP_CORE_STAT_SLACK_MIN l).rst ∧ KeepsStore s u
      ∧ (∀ f, Fd.quiet f = true → Fd.key f / 32 % 0x100000000 ≠ A.DISP_CORE_STAT 0 → u.get f = s.get f))
  ∧ (∀ (m k : Nat) (s : State), Admitted (regWr m A.DISP_CLR) s → k < 4864 →
    ∃ u, exec (.clrTbt m) s = .next u ∧ Answers m u
      ∧ u.get (F.DISP_TBT_DATA1_WORD1 k) = 0 ∧ KeepsStore s u
      ∧ (∀ f, Fd.quiet f = true → Fd.key f / 32 % 0x100000000 ≠ A.DISP_TBT_DATA1 0 → u.get f = s.get f))
  ∧ (∀ (m : Nat) (s : State), Admitted (regWr m A.DISP_CLR) s →
    ∃ u, exec (.clrEvt m) s = .next u ∧ Answers m u ∧ u.get F.DISP_EVT_COUNT_EARLY = F.DISP_EVT_COUNT_EARLY.rst ∧ KeepsStore s u
      ∧ (∀ f, Fd.quiet f = true → Fd.key f / 32 ≠ A.DISP_EVT_COUNT → u.get f = s.get f))
  ∧ (∀ (m : Nat) (s : State), Admitted (regWr m A.DISP_CLR) s →
    ∃ u, exec (.clrMiss m) s = .next u ∧ Answers m u ∧ u.get F.DISP_MISS_COUNT_COUNT = F.DISP_MISS_COUNT_COUNT.rst
      ∧ u.get F.DISP_MISS_LAST_VALID = F.DISP_MISS_LAST_VALID.rst ∧ u.get F.DISP_MISS_BREATH_BREATH = F.DISP_MISS_BREATH_BREATH.rst
      ∧ KeepsStore s u
      ∧ (∀ f, Fd.quiet f = true → Fd.key f / 32 ≠ A.DISP_MISS_COUNT → Fd.key f / 32 ≠ A.DISP_MISS_LAST →
          Fd.key f / 32 ≠ A.DISP_MISS_BREATH → u.get f = s.get f))
  ∧ (∀ (m : Nat) (s : State), Admitted (regRd m (A.DISP_TBT_DATA1 0)) s → s.get F.DISP_TBT_INDEX_INDEX < 4864 →
      s.get F.DISP_TBT_INDEX_AUTOINC = 1 → mget 0 (A.DISP_TBT_DATA1 (s.get F.DISP_TBT_INDEX_INDEX)) s.latch = 0 →
    ∃ u, exec (.tbtDataRead m) s = .next u
      ∧ u.bus = ⟨m, s.get (F.DISP_TBT_DATA1_WORD1 (s.get F.DISP_TBT_INDEX_INDEX)) % 2 ^ 32, false, false⟩
      ∧ u.get F.DISP_TBT_INDEX_INDEX = s.get F.DISP_TBT_INDEX_INDEX + 1 ∧ KeepsFields [F.DISP_TBT_INDEX_INDEX] s u ∧ KeepsStore s u)

/-- Where each event of a task instance completes, and what it does: firing, start, miss, completion and abort (R40–R48, R66, R90,
R91). -/
def Obligations.InstanceRowsComplete : Prop :=
  (∀ (l k b t : Nat) (e : TaskE) (i : Inst) (s : State), s.alive = true → s.task l k = some e → e.kind = .time →
      i ∈ s.disp.insts → i.is l k b = true → i.waits = true → (s.atTime t).reached b (e.arg % 65536) = true →
    ∃ u, exec (.taskTimeTrigger l k b t) s = .next u
      ∧ u.disp.insts = s.disp.insts.map (fun j => if j.is l k b then { j with fired := some (max s.now t) } else j)
      ∧ u.sleepOf l = (if s.sleepOf l = .gated then .waking (max s.now t + 40 * uNs) else s.sleepOf l)
      ∧ (∀ c, c ≠ l → u.sleepOf c = s.sleepOf c) ∧ KeepsFields [F.RC_STAT_STATE (s.physOf l)] s u ∧ KeepsStore s u)
  ∧ (∀ (l t : Nat) (e : TaskE) (i : Inst) (s : State), s.alive = true → i ∈ s.disp.insts → i.lcore = l → i.waits = true →
      s.task l i.task = some e → (s.atTime t).toWake e i.breath ≤ 0 → s.sleepOf l = .gated →
    ∃ u, exec (.coreWake l t) s = .next u ∧ u.sleepOf l = .waking (max s.now t + 40 * uNs)
      ∧ mget 0 l u.disp.wakes = mget 0 l s.disp.wakes + 1 ∧ u.disp.insts = s.disp.insts
      ∧ KeepsFields [F.RC_STAT_STATE (s.physOf l)] s u ∧ KeepsStore s u)
  ∧ (∀ (l k b t : Nat) (e : TaskE) (i : Inst) (s : State), s.alive = true → s.task l k = some e →
      s.disp.insts.find? (fun j => j.is l k b) = some i → (s.atTime t).mayStart i = true →
    ∃ u, exec (.instanceStart l k b t) s = .next u ∧ (u.coreS (s.physOf l)).pc = e.entry
      ∧ (u.coreS (s.physOf l)).inst = some ⟨l, k, b, e.entry, e.outBase, e.outCount⟩
      ∧ (∀ loc r, (u.coreS (s.physOf l)).rd loc r
          = if loc = locIE then 1 else if loc = locS srBIDX then ((b % 2 ^ 32 : Nat) : Int) else if loc = locS srLCORE then (l : Int) else 0)
      ∧ u.get (F.RC_STAT_STATE (s.physOf l)) = rcRUNNING ∧ u.get (F.RC_TASK_RUNNING (s.physOf l)) = 1
      ∧ u.disp.insts = s.disp.insts.map (fun j => if j.is l k b then { j with started := some (max s.now t) } else j)
      ∧ KeepsFields [F.RC_STAT_STATE (s.physOf l), F.RC_TASK_RUNNING (s.physOf l), F.RC_TASK_TASK (s.physOf l),
          F.RC_TASK_LCORE (s.physOf l)] s u ∧ KeepsStore s u)
  ∧ (∀ (l k b t : Nat) (e : TaskE) (i : Inst) (s : State), s.alive = true → s.task l k = some e →
      (s.atTime t).reached b e.deadline = true → s.disp.insts.find? (fun j => j.is l k b) = some i → i.late = false →
      i.ended = none → i.fired.isSome = true →
    ∃ u, exec (.deadlineMiss l k b t) s = .next u ∧ Leaves (lateMiss l k b (s.atTime t)) u
      ∧ (s.classOf 8 = 0 →
          (∀ j ∈ u.disp.insts, j.is l k b = true → j.late = true) ∧ u.missRun l k = s.missRun l k + 1
          ∧ u.get F.DISP_MISS_COUNT_COUNT
            = min (s.get F.DISP_MISS_COUNT_COUNT + 1) (2 ^ Fd.width F.DISP_MISS_COUNT_COUNT - 1)
          ∧ u.get F.DISP_MISS_LAST_VALID = 1 ∧ u.get F.DISP_MISS_LAST_KIND = 0
          ∧ u.get F.DISP_MISS_BREATH_BREATH = b % 2 ^ Fd.width F.DISP_MISS_BREATH_BREATH
          ∧ (s.missRun l k < 8 → s.tramp l k = .none → ∀ x ∈ e.taps, isTap x = true → (s.tap x).at_ ≤ b →
              u.committed x b = true ∧ (u.tap x).cur = (s.tap x).cur)))
  ∧ (∀ (l k b t : Nat) (e : TaskE) (i : Inst) (s : State), s.alive = true → s.task l k = some e →
      (s.atTime t).reached b e.deadline = true → s.disp.insts.find? (fun j => j.is l k b) = some i → i.late = false →
      i.ended = none → i.fired = none → s.classOf 8 = 0 →
    ∃ u, exec (.deadlineMiss l k b t) s = .next u
      ∧ (∀ j ∈ u.disp.insts, j.is l k b = true → j.ended = some .untriggered) ∧ u.missRun l k = s.missRun l k + 1
      ∧ u.get F.DISP_MISS_LAST_VALID = 1 ∧ u.get F.DISP_MISS_LAST_KIND = 1
      ∧ u.get F.DISP_MISS_BREATH_BREATH = b % 2 ^ Fd.width F.DISP_MISS_BREATH_BREATH)
  ∧ (∀ (l k b t : Nat) (e : TaskE) (i : Inst) (s : State), s.alive = true → s.task l k = some e →
      (s.atTime t).reached b e.deadline = true → s.disp.insts.find? (fun j => j.is l k b) = some i → i.late = false →
      i.ended = some .fenced →
    ∃ u, exec (.deadlineMiss l k b t) s = .next u ∧ (∀ j ∈ u.disp.insts, j.is l k b = true → j.late = true)
      ∧ u.disp.misses = s.disp.misses ∧ u.fcu = s.fcu ∧ u.get F.DISP_MISS_COUNT_COUNT = s.get F.DISP_MISS_COUNT_COUNT
      ∧ KeepsStore s u)
  ∧ (∀ (p t : Nat) (i : InstRef) (s : State), s.alive = true → (s.coreS p).inst = some i → (s.coreS p).ending = true →
    ∃ u, exec (.instanceComplete p t) s = .next u ∧ Leaves (complete p (s.atTime t)) u ∧ (u.coreS p).inst = none
      ∧ (∀ e, s.task i.lcore i.task = some e → (s.atTime t).since i.breath ≤ ((e.deadline * 256 : Nat) : Int) →
          s.disp.insts.any (fun j => j.is i.lcore i.task i.breath && j.late) = false →
          u.get (F.RC_TASK_RUNNING p) = 0 ∧ u.missRun i.lcore i.task = 0
          ∧ (∀ j ∈ u.disp.insts, j.is i.lcore i.task i.breath = true → j.ended.isSome = true)
          ∧ (∀ x ∈ e.taps, isTap x = true → (s.tap x).at_ ≤ i.breath → u.committed x i.breath = true)
          ∧ (∀ x v, x ∈ e.taps → isTap x = true → (s.tap x).at_ ≤ i.breath → s.tramp i.lcore i.task = .none → s.tapOwner x = none →
              (s.coreS p).twr.find? (fun q => q.1 == x) = some (x, v) → (u.tap x).cur = v)))
  ∧ (∀ (p t : Nat) (i : InstRef) (e : TaskE) (s : State), s.alive = true → p < 136 → (s.coreS p).inst = some i →
      s.task i.lcore i.task = some e → ((e.deadline * 256 + s.period : Nat) : Int) ≤ (s.atTime t).since i.breath →
    ∃ u, exec (.instanceAbort p t) s = .next u ∧ Leaves (abort p (s.atTime t)) u
      ∧ (s.classOf 5 = 0 → s.classOf 8 = 0 → (u.coreS p).inst = none ∧ u.get (F.RC_FLAGS_RUNAWAY p) = 1
          ∧ (∀ j ∈ u.disp.insts, j.is i.lcore i.task i.breath = true → j.ended.isSome = true)))
  ∧ (∀ (p t : Nat) (i : Inst) (s : State), s.alive = true → p < 136 → (s.coreS p).inst = none → i ∈ s.disp.insts → i.ready = true →
      s.physOf i.lcore = p → (s.atTime t).overdue i = true → s.classOf 5 = 0 → s.classOf 8 = 0 →
    ∃ u, exec (.instanceAbort p t) s = .next u ∧ u.get (F.RC_FLAGS_RUNAWAY p) = 1
      ∧ (∀ j ∈ u.disp.insts, j.is i.lcore i.task i.breath = true → j.ended.isSome = true))

/-- An interrupt saves the flags, the cause and the address and enters its vector with interrupts off, for a waiting cause as for a
DEBUG request; the return takes them back; a debug halt stops the core at a boundary, or requests DEBUG; a step runs one instruction and
leaves the core halted or fenced; the error count clears (R85–R88, R92, R95). -/
def Obligations.CoreEventRowsComplete : Prop :=
  (∀ (p : Nat) (q : PendI) (s : State), s.alive = true → (s.coreS p).inst.isSome = true → (s.coreS p).halted = false →
      (s.coreS p).boundary = true → (s.coreS p).pend = some q → q.cause < 4 → (s.coreS p).yext = [] →
    ∃ u, exec (.interruptEntry p) s = .next u ∧ (u.coreS p).pc = 8 * q.cause ∧ (u.coreS p).pend = none
      ∧ (u.coreS p).cyc = (s.coreS p).drained ∧ mget 0 locIE (u.coreS p).base = 0
      ∧ mget 0 (locS srIPC) (u.coreS p).base = ((q.ipc.getD (s.coreS p).pc : Nat) : Int)
      ∧ mget 0 (locS srISTAT) (u.coreS p).base
        = (((drain s (s.coreS p)).cstat + q.dslot.toNat * 2 ^ 13 + q.cause * 2 ^ 16 + q.code * 2 ^ 24 : Nat) : Int)
      ∧ u.get (F.RC_STAT_LASTCAUSE p) = q.cause ∧ KeepsFields [F.RC_STAT_LASTCAUSE p] s u ∧ KeepsStore s u)
  ∧ (∀ (p : Nat) (s : State), s.alive = true → (s.coreS p).inst.isSome = true → (s.coreS p).halted = false →
      (s.coreS p).boundary = true → (s.coreS p).pend = none → (s.coreS p).dbgReq = true →
      (s.coreS p).rd locIE (s.coreS p).cyc ≠ 0 → s.haltAt p = false → (s.coreS p).yext = [] →
    ∃ u, exec (.interruptEntry p) s = .next u ∧ (u.coreS p).pc = 24 ∧ (u.coreS p).dbgReq = false
      ∧ mget 0 locIE (u.coreS p).base = 0 ∧ mget 0 (locS srIPC) (u.coreS p).base = (((s.coreS p).pc : Nat) : Int)
      ∧ u.get (F.RC_STAT_LASTCAUSE p) = 3 ∧ KeepsFields [F.RC_STAT_LASTCAUSE p] s u ∧ KeepsStore s u)
  ∧ (∀ (p : Nat) (s : State), s.alive = true → (s.coreS p).returning = true → (s.coreS p).halted = false → (s.coreS p).yext = [] →
    ∃ u, exec (.interruptReturn p) s = .next u ∧ (u.coreS p).returning = false ∧ (u.coreS p).cyc = (s.coreS p).drained
      ∧ (u.coreS p).pc = (mget 0 (locS srIPC) (drain s (s.coreS p)).base).toNat % 8192
      ∧ mget 0 locIE (u.coreS p).base = (bitOf (mget 0 (locS srISTAT) (drain s (s.coreS p)).base).toNat 12).toNat
      ∧ KeepsAll s u)
  ∧ (∀ (m p v : Nat) (s : State), Admitted (regWr m (A.RC_DBGCTL p)) s → p < 136 → bitOf v 0 = true → bitOf v 1 = false →
    ∃ u, exec (.debugHalt m p v) s = .next u ∧ Answers m u ∧ u.get (F.RC_DBGCTL_HALT p) = 1
      ∧ u.get (F.RC_DBGCTL_DBGINT_EN p) = bits 2 2 v ∧ (bitOf v 2 = true → (u.coreS p).dbgReq = true ∧ (u.coreS p).halted = false)
      ∧ ((s.coreS p).halted = false ∨ bitOf v 2 = false →
          (u.coreS p).halted = (s.coreS p).halted ∧ KeepsFields [F.RC_DBGCTL_HALT p, F.RC_DBGCTL_DBGINT_EN p] s u)
      ∧ KeepsFields [F.RC_DBGCTL_HALT p, F.RC_DBGCTL_DBGINT_EN p, F.RC_STAT_STATE p, F.RC_DBGPC_PC p] s u ∧ KeepsStore s u)
  ∧ (∀ (p t : Nat) (s : State), s.alive = true → p < 136 → s.get (F.RC_DBGCTL_HALT p) = 1 → s.get (F.RC_DBGCTL_DBGINT_EN p) = 0 →
      (s.coreS p).boundary = true → (s.coreS p).pend = none → (s.coreS p).halted = false →
      s.get (F.RC_STAT_STATE p) ≠ rcISOLATED → s.get (F.RC_STAT_STATE p) ≠ rcBIST →
    ∃ u, exec (.coreHalted p t) s = .next u ∧ (u.coreS p).halted = true ∧ u.get (F.RC_STAT_STATE p) = rcHALTED
      ∧ u.get (F.RC_DBGPC_PC p) = (s.coreS p).pc % 2 ^ Fd.width (F.RC_DBGPC_PC p)
      ∧ KeepsFields [F.RC_STAT_STATE p, F.RC_DBGPC_PC p] s u ∧ ((s.coreS p).yext = [] → KeepsStore s u))
  ∧ (∀ (m p v : Nat) (e : Ecc) (s : State), Admitted (regWr m (A.RC_DBGCTL p)) s → p < 136 → bitOf v 0 = true → bitOf v 1 = true →
      bitOf v 2 = false → (s.coreS p).halted = true → (s.coreS p).inst.isSome = true →
    ∃ u, exec (.debugStep m p ⟨v, e⟩) s = .next u ∧ Answers m u
      ∧ (u.get (F.RC_STAT_STATE p) = rcISOLATED ∨ ((u.coreS p).halted = true ∧ u.get (F.RC_STAT_STATE p) = rcHALTED))
      ∧ (e = .clean → (s.coreS p).slot = none → (s.coreS p).pend = none → (s.coreS p).ending = false → (s.coreS p).returning = false →
          (s.coreS p).yext = [] → reedDecode (s.word (iBase p + 4 * (s.coreS p).pc)) = some .nop → (s.fetchCore p).loopEnd = false →
          s.get (F.RC_STAT_STATE p) ≠ rcISOLATED →
          (u.coreS p).pc = ((s.coreS p).pc + 1) % 8192 ∧ u.get (F.RC_DBGPC_PC p) = ((s.coreS p).pc + 1) % 8192 ∧ KeepsStore s u))
  ∧ (∀ (m p : Nat) (s : State), Admitted (regWr m (A.RC_ECC p)) s → p < 136 →
    ∃ u, exec (.clrEccCe m p) s = .next u ∧ Answers m u ∧ u.get (F.RC_ECC_CE p) = 0 ∧ KeepsFields [F.RC_ECC_CE p] s u ∧ KeepsStore s u)

/-- A rotation step hands a logical core to a spare, tests the core it leaves and hands it back; a requested self-test runs on a spare;
a fenced core's taps ramp out and its spare takes over (R53–R61). -/
def Obligations.RotationRowsComplete : Prop :=
  (∀ (t l q : Nat) (s : State), s.alive = true → s.breathing = true → s.disp.rot = none → s.disp.rotFree ≤ s.n →
      s.get F.SYS_MODE_STAT_APPLYING = 0 →
      s.disp.bistReq = none → s.get F.DISP_CTRL_ROT_EN = 1 → s.disp.rotDue ≤ s.n → s.rotCandidate = some l → s.lowestSpare = some q →
    ∃ u, exec (.rotationStepStart t) s = .next u ∧ (∃ r, u.disp.rot = some r ∧ r.lcore = l ∧ r.p = s.physOf l ∧ r.q = q
        ∧ r.hand = some .bulk ∧ r.back = false ∧ r.startB = s.n) ∧ u.disp.rotDue = s.n + max 600 (s.get F.DISP_ROT_CTRL_STEP)
      ∧ u.get F.DISP_ROT_STAT_PHASE = rpHANDOVER ∧ u.get F.DISP_ROT_STAT_LCORE = l
      ∧ KeepsFields [F.DISP_ROT_STAT_PHASE, F.DISP_ROT_STAT_LCORE] s u ∧ KeepsStore s u)
  ∧ (∀ (t l : Nat) (s : State), s.alive = true → s.breathing = true → s.disp.rot = none → s.disp.rotFree ≤ s.n →
      s.get F.SYS_MODE_STAT_APPLYING = 0 →
      s.disp.bistReq = none → s.get F.DISP_CTRL_ROT_EN = 1 → s.disp.rotDue ≤ s.n → s.rotCandidate = some l → s.lowestSpare = none →
    ∃ u, exec (.rotationStepStart t) s = .next u ∧ u.disp = s.disp ∧ u.get F.DISP_ROT_STAT_PHASE = rpSUSPENDED
      ∧ KeepsFields [F.DISP_ROT_STAT_PHASE, F.DISP_ROT_STAT_LCORE] s u ∧ KeepsStore s u)
  ∧ (∀ (t : Nat) (r : RotS) (s : State), s.alive = true → s.disp.rot = some r → r.hand = some .bulk → s.handQuiet r = true →
      (s.atTime t).spareUp r = true →
    ∃ u, exec (.handoverBulkDone t) s = .next u ∧ u.disp.rot = some { r with hand := some .catchup, dirty := [] }
      ∧ u.mem = (copyHand r s).mem ∧ KeepsFields [] s u)
  ∧ (∀ (t : Nat) (r : RotS) (s : State), s.alive = true → s.disp.rot = some r → r.hand = some .catchup → s.handQuiet r = true →
    ∃ u, exec (.handoverCatchupDone t) s = .next u ∧ u.disp.rot = some { r with hand := some .switchWait, dirty := [] }
      ∧ u.mem = (copyDirty r s).mem ∧ KeepsFields [] s u)
  ∧ (∀ (t : Nat) (r : RotS) (s : State), s.alive = true → s.disp.rot = some r → r.hand = some .switchWait →
      r.lcore < 128 → r.p < 136 → r.q < 136 → r.p ≠ r.q →
      (s.coreS r.holder).inst = none → s.breathing = true → (s.atTime t).since s.n < 100 * 256 →
    ∃ u, exec (.handoverSwitch t) s = .next u ∧ u.physOf r.lcore = r.receiver
      ∧ (if r.back then u.disp.rot = none ∧ u.get F.DISP_ROT_STAT_PHASE = rpIDLE ∧ u.get (F.RC_STAT_STATE r.q) = rcGATED
         else u.get (F.RC_STAT_STATE r.p) = rcISOLATED ∧ ∃ x, u.disp.rot = some x ∧ x.hand = none ∧ x.lcore = r.lcore))
  ∧ (∀ (t : Nat) (r : RotS) (s : State), s.alive = true → s.disp.rot = some r → r.hand = none → r.back = false → r.bistAt = none →
      r.startB < s.n → r.p < 136 →
    ∃ u, exec (.bistStart t) s = .next u ∧ u.disp.rot = some { r with bistAt := some (s.atTime t).dev }
      ∧ u.get F.DISP_ROT_STAT_PHASE = rpBIST ∧ u.get (F.RC_STAT_STATE r.p) = rcBIST ∧ KeepsStore s u)
  ∧ (∀ (t p : Nat) (s : State), s.alive = true → s.disp.rot = none → s.disp.bistSpare = some (p, none) → p < 136 →
      s.breathing = true → s.disp.started = true → s.disp.bistB ≤ s.n →
    ∃ u, exec (.bistStart t) s = .next u ∧ u.disp.bistSpare = some (p, some (s.atTime t).dev) ∧ u.get (F.RC_STAT_STATE p) = rcBIST
      ∧ KeepsFields [F.RC_STAT_STATE p] s u ∧ KeepsStore s u)
  ∧ (∀ (t a : Nat) (r : RotS) (s : State), s.alive = true → s.disp.rot = some r → r.hand = none → r.bistAt = some a →
      r.requested = false → r.swap = false → r.p < 136 → testRan (s.atTime t) a ≥ ((2 * uMs : Nat) : Int) →
      (∀ b, s.spareTestAt = some b → testRan (s.atTime t) b ≤ testRan (s.atTime t) a) →
    ∃ u, exec (.bistEnd true t) s = .next u ∧ u.get F.DISP_ROT_STAT_PHASE = rpHANDBACK ∧ u.get (F.RC_STAT_STATE r.p) = rcISOLATED
      ∧ u.disp.rot = some { r with back := true, hand := some .bulk, bistAt := none, dirty := [], copied := 0 }
      ∧ KeepsFields [F.DISP_ROT_STAT_PHASE, F.RC_STAT_STATE r.p] s u ∧ KeepsStore s u)
  ∧ (∀ (t a p : Nat) (s : State), s.alive = true → s.disp.rot = none → s.disp.bistSpare = some (p, some a) → p < 136 →
      testRan (s.atTime t) a ≥ ((2 * uMs : Nat) : Int) →
    (∃ u, exec (.bistEnd true t) s = .next u ∧ u.disp.bistSpare = none ∧ u.get F.DISP_BIST_STAT_BUSY = 0
      ∧ u.get F.DISP_BIST_STAT_RESULT = 1 ∧ u.get (F.RC_STAT_STATE p) = rcGATED)
    ∧ ∃ u, exec (.bistEnd false t) s = .next u
      ∧ Leaves (bistFail p (bistResult false { s.atTime t with disp := { s.disp with bistSpare := none } })) u)
  ∧ (∀ (m v : Nat) (s : State), Admitted (regWr m A.DISP_BIST_REQ) s → v / 65536 = 0xA55A → bitOf v 0 = true →
      s.coreFenced (bits 15 8 v) = false → bits 15 8 v < 136 → s.disp.pgated.contains (bits 15 8 v) = false →
      s.get F.DISP_BIST_STAT_BUSY = 0 → s.idleSpare (bits 15 8 v) = true →
    ∃ u, exec (.bistRequest m v) s = .next u ∧ Answers m u ∧ u.disp.bistSpare = some (bits 15 8 v, none)
      ∧ u.disp.bistB = s.nextBreath ∧ u.get F.DISP_BIST_STAT_BUSY = 1 ∧ u.get F.DISP_BIST_STAT_RESULT = 0 ∧ u.get F.DISP_BIST_STAT_PCORE = bits 15 8 v
      ∧ KeepsStore s u)
  ∧ (∀ (l t q : Nat) (f : FenceTl) (s : State), s.alive = true → s.fenceTl l = some f → f.spare = none → s.coreLost l = false →
      (s.breathing = true → f.f + 1 ≤ s.n) → s.lowestSpare = some q →
    ∃ u, exec (.spareSelect l t) s = .next u ∧ u.fenceTl l = some { f with spare := some q } ∧ KeepsAll s u)
  ∧ (∀ (l t : Nat) (f : FenceTl) (s : State), s.alive = true → s.breathing = true → s.fenceTl l = some f → f.ramp = none →
      f.restart = none → f.f + 8 ≤ s.n →
    ∃ u, exec (.fenceRampOut l t) s = .next u ∧ u.fenceTl l = some { f with ramp := some s.n }
      ∧ (∀ x ∈ s.coreTaps l, u.rampA x = (s.tap x).cur) ∧ KeepsAll s u)
  ∧ (∀ (l t q : Nat) (f : FenceTl) (s : State), s.alive = true → l < 128 → q < 136 → s.fenceTl l = some f → f.spare = some q →
      (s.coreOwner l = none →
        ∃ u, exec (.spareLoadDone l t) s = .next u ∧ u.fenceTl l = none ∧ u.physOf l = q ∧ KeepsStore s u)
      ∧ (s.coreOwner l ≠ none → f.restart = none →
        ∃ u, exec (.spareLoadDone l t) s = .next u ∧ u.physOf l = (if s.breathing then s.physOf l else q)
          ∧ u.fenceTl l = (if s.breathing then some { f with restart := some (s.n + 1) } else none)))

/-- Where each command of the mix matrix completes, and what it does: buses, waits, ramps, swaps, mailboxes and counters
(R97–R116, R122). -/
def Obligations.MatrixRowsComplete : Prop :=
  (∀ (n b t : Nat) (s : State), s.alive = true → n < 1024 → b ≤ s.n → s.breathing = true → (s.tap (busTap0 + n)).at_ ≤ b →
      100 * 256 ≤ (s.atTime t).since b → (s.busSrcs n).all (fun q => s.srcReady q n b) = true →
      (b = s.n → s.mtxWaits 8 = false) → s.suspendedO (s.busOwner n) = false →
    ∃ u, exec (.busComplete n b t) s = .next u
      ∧ (u.tap (busTap0 + n)).cur = (let v := sx 32 (accRound (sumBus n b (s.atTime t)).1).val
          match s.busOwner n with | some i => if 3 ≤ s.secState i then 0 else s.secRamp i b v | none => v)
      ∧ (u.tap (busTap0 + n)).at_ = b + 1 ∧ (u.tap (busTap0 + n)).prev = (s.tap (busTap0 + n)).cur)
  ∧ (∀ (n b t : Nat) (s : State), s.alive = true → n < 1024 → b ≤ s.n → s.breathing = true → (s.tap (busTap0 + n)).at_ ≤ b →
      100 * 256 ≤ (s.atTime t).since b → (s.busSrcs n).all (fun q => s.srcReady q n b) = true →
      (b = s.n → s.mtxWaits 8 = false) → s.suspendedO (s.busOwner n) = true →
    ∃ u, exec (.busComplete n b t) s = .next u ∧ (u.tap (busTap0 + n)).cur = (s.tap (busTap0 + n)).cur
      ∧ (u.tap (busTap0 + n)).at_ = b + 1 ∧ u.mtx.gain = s.mtx.gain ∧ u.mtx.retiring = s.mtx.retiring)
  ∧ (∀ (src bus b t : Nat) (s : State), s.alive = true → bus < 1024 → (s.tap (busTap0 + bus)).at_ ≤ b → b ≤ s.n →
      s.srcReady src bus b = true → crosses (s.srcVals src bus b).1 (s.srcVals src bus b).2 = false →
    ∃ u, exec (.zcTimeout src bus b t) s = .next u ∧ KeepsAll s u
      ∧ ((s.active.any (fun x => x.key == src * 1024 + bus)) = true → ((s.gainOf (src * 1024 + bus)).take b).phase = .wait →
          ((s.gainOf (src * 1024 + bus)).take b).zct ≤ ((s.gainOf (src * 1024 + bus)).take b).count →
          (let g := u.gainOf (src * 1024 + bus)
           g.phase = .ramp ∧ g.start = ((s.gainOf (src * 1024 + bus)).take b).cur ∧ g.len = 64 ∧ g.count = 0
             ∧ g.target = ((s.gainOf (src * 1024 + bus)).take b).target))
      ∧ (∀ g, (src * 1024 + bus, g) ∈ s.mtx.retiring → (g.take b).phase = .wait → (g.take b).zct ≤ (g.take b).count →
          (src * 1024 + bus, { g.take b with start := (g.take b).cur, len := 64, count := 0, phase := .ramp }) ∈ u.mtx.retiring))
  ∧ (∀ (src bus t : Nat) (s : State), s.alive = true → bus < 1024 →
    ∃ u, exec (.gainRampEnd src bus t) s = .next u
      ∧ ((s.active.any (fun x => x.key == src * 1024 + bus)) = true → (s.gainOf (src * 1024 + bus)).phase = .ramp →
          (s.gainOf (src * 1024 + bus)).count = (s.gainOf (src * 1024 + bus)).len → (u.gainOf (src * 1024 + bus)).phase = .idle)
      ∧ (∀ x ∈ u.mtx.retiring, x.1 = src * 1024 + bus → x.2.dead = false)
      ∧ (∀ x ∈ s.mtx.retiring, x.1 ≠ src * 1024 + bus → x ∈ u.mtx.retiring)
      ∧ KeepsFields [F.MTX_RETIRING_COUNT] s u ∧ KeepsStore s u)
  ∧ (∀ (m v : Nat) (s : State), Admitted (regWr m A.MTX_SWAP) s → v / 65536 = 0xA55A → bitOf v 0 = true →
      s.get F.MTX_SWAP_STAT_BUSY = 0 → s.get F.SYS_MODE_STAT_APPLYING = 0 → (bitOf v 1 = true → s.paired = false) →
      (bitOf v 1 = false → serAfter 48 (s.get F.MTX_SWAP_BREATH_HI_B_HI * 2 ^ 32 + s.get F.MTX_SWAP_BREATH_LO_B_LO) (bidx s.n) = true) →
    ∃ u, exec (.matrixSwapRequest m v) s = .next u ∧ Answers m u ∧ u.get F.MTX_SWAP_STAT_BUSY = 1 ∧ u.mtx.swapWhen = bitOf v 1
      ∧ u.mtx.swapOk = false ∧ u.mtx.swapped = false
      ∧ u.mtx.swapB = s.unwrap (s.get F.MTX_SWAP_BREATH_HI_B_HI * 2 ^ 32 + s.get F.MTX_SWAP_BREATH_LO_B_LO) ∧ KeepsFields [F.MTX_SWAP_STAT_BUSY] s u ∧ KeepsStore s u)
  ∧ (∀ (t : Nat) (s : State), s.alive = true → s.get F.MTX_SWAP_STAT_BUSY = 1 → s.mtx.swapOk = false → s.mtx.swapped = false →
    ∃ u, exec (.swapValidationDone t) s = .next u
      ∧ (if s.mode.xpLimit < s.bankCount s.shadowBank then
          u.get F.MTX_SWAP_STAT_RESULT = swCAPACITY ∧ u.get F.MTX_SWAP_STAT_BUSY = 0
         else match scanBank (s.bank s.shadowBank) 0 none with
          | some (r, i) => u.get F.MTX_SWAP_STAT_RESULT = r ∧ u.get F.MTX_SWAP_STAT_BUSY = 0
              ∧ u.get F.MTX_SWAP_STAT_ERRIDX = i % 2 ^ Fd.width F.MTX_SWAP_STAT_ERRIDX
          | none =>
            if s.mode.xpLimit < s.bankCount s.shadowBank + s.mtx.retiring.length
                + (s.active.filter (fun x => !((s.bank s.shadowBank).map Xp.key).contains x.key)).length then
              u.get F.MTX_SWAP_STAT_RESULT = swCAPACITY ∧ u.get F.MTX_SWAP_STAT_BUSY = 0
            else u.mtx.swapOk = true ∧ KeepsFields [] s u)
      ∧ KeepsStore s u)
  ∧ (∀ (t : Nat) (s : State), s.alive = true → s.get F.MTX_SWAP_STAT_BUSY = 1 → s.mtx.swapOk = true → s.mtx.swapped = false →
      s.mtx.swapWhen = false → s.breathing = true → s.mtx.swapB ≤ s.n →
    ∃ u, exec (.matrixSwap t) s = .next u ∧ u.get F.MTX_STAT_ACTIVE = 1 - s.get F.MTX_STAT_ACTIVE ∧ u.mtx.swapped = true
      ∧ u.mtx.swapB = s.n
      ∧ (∀ y ∈ s.active, (∀ x ∈ s.bank s.shadowBank, x.key ≠ y.key) → ∃ g, (y.key, g) ∈ u.mtx.retiring ∧ g.retire = true)
      ∧ KeepsFields [F.MTX_STAT_ACTIVE, F.MTX_RETIRING_COUNT] s u ∧ KeepsStore s u)
  ∧ (∀ (t : Nat) (s : State), s.alive = true → s.mtx.swapped = true → s.mtx.swapB + 1 ≤ s.n →
    ∃ u, exec (.swapDone t) s = .next u ∧ u.get F.MTX_SWAP_STAT_BUSY = 0 ∧ u.get F.MTX_SWAP_STAT_RESULT = swDONE
      ∧ u.get F.MTX_STAT_OVERLIMIT = 0
      ∧ KeepsFields [F.MTX_SWAP_STAT_BUSY, F.MTX_SWAP_STAT_RESULT, F.MTX_STAT_OVERLIMIT] s u ∧ KeepsStore s u)
  ∧ (∀ (m k v : Nat) (s : State), k < 8 → Admitted (regWr m (A.MTX_MBOX_POST k)) s → bitOf v 31 = true →
      1 ≤ bits 6 0 v → bits 6 0 v ≤ 64 → s.mbState k ≠ mbPOSTED → (bitOf v 30 = true → s.paired = false) →
      (bitOf v 30 = false → serBefore 48 (s.get (F.MTX_MBOX_BREATH_HI_B_HI k) * 2 ^ 32 + s.get (F.MTX_MBOX_BREATH_LO_B_LO k))
        (bidx (s.n + 2)) = false) →
    ∃ u, exec (.mailboxPost m k v) s = .next u ∧ Answers m u ∧ u.mbState k = mbPOSTED
      ∧ mget 0 k u.mtx.mboxB = (if bitOf v 30 then bidx (s.n + 2)
          else s.get (F.MTX_MBOX_BREATH_HI_B_HI k) * 2 ^ 32 + s.get (F.MTX_MBOX_BREATH_LO_B_LO k)) ∧ mget 0 k u.mtx.mboxN = bits 6 0 v
      ∧ KeepsFields [F.MTX_MBOX_BREATH_LO_B_LO k, F.MTX_MBOX_BREATH_HI_B_HI k, F.MTX_MBOX_STAT_STATE k] s u ∧ KeepsStore s u)
  ∧ (∀ (k t : Nat) (s : State), k < 8 → s.alive = true → s.mboxDue k = true → s.mtxWaits k = false →
    ∃ u, exec (.mailboxApply k t) s = .next u ∧ mget 0 k u.mtx.mboxN = 0
      ∧ (u.mbState k = (if u.disp.heldWords.any (fun h => h.mbox == k) then mbPOSTED else mbAPPLIED))
      ∧ (∀ w v i, mget 0 k s.mtx.mboxN = 1 → s.get (F.MTX_MBREC (128 * k)) = w → s.get (F.MTX_MBREC (128 * k + 1)) = v →
          w / 2 ^ 28 = 0 → bits 27 25 w < 4 → bits 11 10 w = 0 → s.xpIndex (bits 24 12 w * 1024 + w % 1024) = some i →
          u.word (bankBase s.activeBank + 12 * i) = v
          ∧ u.gainOf (bits 24 12 w * 1024 + w % 1024)
            = (s.gainOf (bits 24 12 w * 1024 + w % 1024)).change (s.gchg s.n (sx 32 v) (bits 27 25 w) false))
      ∧ (∀ w v l i, mget 0 k s.mtx.mboxN = 1 → s.get (F.MTX_MBREC (128 * k)) = w → s.get (F.MTX_MBREC (128 * k + 1)) = v →
          w / 2 ^ 28 = 1 → bits 26 20 w = l → bitOf w 27 = false → bits 19 13 w = 0 → l < s.activeCores → s.coreLost l = false →
          s.coreOwner l = some i → s.secState i = secRUNNING → s.suspendedCore l = false → s.awaitsSpare l s.n = false →
          s.earlierInst l s.n = false → s.physOf l < 136 → s.disp.heldWords.all (fun g => g.lcore != l) = true →
          u.word (xBase (s.physOf l) + 4 * (w % 8192)) = v ∧ u.disp.heldWords = s.disp.heldWords))
  ∧ (∀ (l t : Nat) (s : State), s.alive = true → s.awaitsSpare l s.n = false → s.physOf l < 136 →
    ∃ u, exec (.mailboxWordLand l t) s = .next u
      ∧ u.disp.heldWords = s.disp.heldWords.filter (fun h => h.lcore != l || s.earlierInst l h.b)
      ∧ (∀ h ∈ s.disp.heldWords, h.lcore = l → s.earlierInst l h.b = false → h.mbox < 8 →
          u.disp.heldWords.all (fun g => g.mbox != h.mbox) = true → u.mbState h.mbox = mbAPPLIED)
      ∧ (∀ h q, s.disp.heldWords.filter (fun h => h.lcore == l && !s.earlierInst l h.b) = q ++ [h] → h.y = false → h.word < 8192 →
          u.word (xBase (s.physOf l) + 4 * h.word) = h.value % 2 ^ 32))
  ∧ (∀ (m : Nat) (s : State), Admitted (regWr m A.MTX_CLR) s →
      (∃ u, exec (.clrFmtsat m) s = .next u ∧ Answers m u ∧ u.get F.MTX_FMTSAT_COUNT = 0 ∧ KeepsFields [F.MTX_FMTSAT_COUNT] s u
        ∧ KeepsStore s u)
      ∧ ∃ u, exec (.clrBussat m) s = .next u ∧ Answers m u ∧ u.get F.MTX_BUSSAT_COUNT = 0 ∧ KeepsFields [F.MTX_BUSSAT_COUNT] s u
        ∧ KeepsStore s u)

/-- A converter channel locks and unlocks, and 100 ns into a breath the taps that nothing owns commit 0 (R97, R117–R120). -/
def Obligations.ConverterAndTapRowsComplete : Prop :=
  (∀ (k t : Nat) (s : State), s.alive = true → k < 256 → (s.asrcCh k).on = true → s.get (F.ASRC_CH_STAT_LOCKED k) = 0 →
      ratioOk (s.asrcRatio k) = true → (s.asrcCh k).stableAt + uS ≤ max s.now t →
    ∃ u, exec (.asrcLock k t) s = .next u ∧ u.get (F.ASRC_CH_STAT_LOCKED k) = 1 ∧ (u.asrcCh k).lostFor = 0
      ∧ (u.asrcCh k).rampIn = (if s.asrcSounds k then (s.asrcCh k).rampIn else 0)
      ∧ KeepsFields [F.ASRC_CH_STAT_LOCKED k, F.ASRC_STAT_ENABLED, F.ASRC_STAT_LOCKED] s u ∧ KeepsStore s u)
  ∧ (∀ (k t : Nat) (range : Bool) (s : State), s.alive = true → k < 256 → (s.asrcCh k).on = true →
      s.get (F.ASRC_CH_STAT_LOCKED k) = 0 →
    ∃ u, exec (.asrcUnlock k range t) s = .next u
      ∧ u.get (if range then F.ASRC_CH_STAT_RANGE k else F.ASRC_CH_STAT_LOST k) = 1
      ∧ (u.asrcCh k).lostFor = (if s.asrcSounds k then 1 else (s.asrcCh k).lostFor)
      ∧ KeepsFields [if range then F.ASRC_CH_STAT_RANGE k else F.ASRC_CH_STAT_LOST k] s u ∧ KeepsStore s u)
  ∧ (∀ (k t : Nat) (range : Bool) (s : State), s.alive = true → k < 256 → (s.asrcCh k).on = true →
      s.get (F.ASRC_CH_STAT_LOCKED k) = 1 →
    ∃ u, exec (.asrcUnlock k range t) s = .next u
      ∧ Leaves (raiseF 18 k (asrcFade k ((s.atTime t).set (if range then F.ASRC_CH_STAT_RANGE k else F.ASRC_CH_STAT_LOST k) 1)).2) u
      ∧ (s.classOf 18 = 0 → u.get (F.ASRC_CH_STAT_LOCKED k) = 0
          ∧ u.get (F.ASRC_CH_STAT_UNLOCKS k) = min (s.get (F.ASRC_CH_STAT_UNLOCKS k) + 1) (2 ^ Fd.width (F.ASRC_CH_STAT_UNLOCKS k) - 1)
          ∧ u.get (if range then F.ASRC_CH_STAT_RANGE k else F.ASRC_CH_STAT_LOST k) = 1))
  ∧ (∀ (t x : Nat) (s : State), s.alive = true → s.breathing = true → s.disp.started = true → s.disp.defaultB ≤ s.n →
      (s.atTime t).reached s.n 100 = true → reedTap0 ≤ x → x < busTap0 → s.committed x s.n = false →
      x ∉ s.instTaps s.n → (∀ e ∈ s.disp.fenceTl, s.awaitsSpare e.1 s.n = false ∨ x ∉ s.coreTaps e.1) →
      (∀ i < 16, s.suspended i = true → x ∉ (s.sec i).own.taps) →
    ∃ u, exec (.tapDefaultCommit t) s = .next u ∧ u.disp.defaultB = s.n + 1 ∧ (u.tap x).cur = 0 ∧ u.committed x s.n = true)

/-- Where each command of the delay lines completes, and what it does: deliveries, fetches, changes, crossfades, the scrub and
errors (R124–R135). -/
def Obligations.DelayRowsComplete : Prop :=
  (∀ (j b t : Nat) (e : Ecc) (s : State), s.alive = true → s.breathing = true → s.lineRuns j = true → s.deliveryB j = some b →
      (e = .clean ∨ (s.classOf 25 = 0 ∧ s.classOf 26 = 0)) →
    ∃ u, exec (.delayDelivery ⟨j, e⟩ t) s = .next u ∧ (u.lineS j).delivered = b + 1
      ∧ (e = .ue → (u.lineS j).last = (s.lineS j).last)
      ∧ (e ≠ .ue → (s.lineS j).xf = none → (u.lineS j).last = (s.lineRead j (s.lineDelay j) false b).getD (s.lineS j).last)
      ∧ (e ≠ .ue → ∀ o b0, (s.lineS j).xf = some (o, b0) → b0 ≤ b → b < b0 + 64 → (u.lineS j).last
          = rampVal ((s.lineRead j o true b).getD (s.lineS j).last) ((s.lineRead j (s.lineDelay j) false b).getD (s.lineS j).last)
              (b - b0 + 1) 64)
      ∧ (s.physOf (bits 31 25 (s.lineW 1 j)) < 136 → s.suspendedCore (bits 31 25 (s.lineW 1 j)) = false →
          ∀ i < 4, u.byte (xBase (s.physOf (bits 31 25 (s.lineW 1 j))) + 4 * (bits 12 0 (s.lineW 2 j) + b % 2) + i)
            = (leBytes 4 (ux 32 (u.lineS j).last)).getD i 0)
      ∧ (e = .clean → KeepsFields [] s u))
  ∧ (∀ (j t : Nat) (s : State), s.alive = true → s.breathing = true → s.lineHeld j = true → s.lineDram j = true → s.n % 16 = 8 →
    ∃ u, exec (.delayFetchIssue j t) s = .next u
      ∧ ((∃ q ∈ u.dly.jobs, q.line = j ∧ q.flush = false ∧ q.block = (s.n + 8) / 16 ∧ q.old = false)
        ∨ ∃ r ∈ (s.lineS j).rd, r.1 = (s.n + 8) / 16 ∧ r.2.1 = false) ∧ KeepsAll s u)
  ∧ (∀ (j k t : Nat) (q : DlyJob) (flush : Bool) (s : State), s.alive = true → q ∈ s.dly.jobs → q.line = j → q.flush = flush →
      q.block = k → q.late = false → (if flush then 16 * k + 24 else 16 * k) ≤ s.n →
    ∃ u, exec (.delayLate j flush k t) s = .next u
      ∧ Leaves (raiseF 24 j ({ s.atTime t with dly := { s.dly with jobs := s.dly.jobs.map (fun (q : DlyJob) =>
          if q.line == j && q.flush == flush && q.block == k && !q.late then { q with late := true } else q) } }.incSat
            (if flush then F.DLY_LATE_FLUSH else F.DLY_LATE_FETCH))) u)
  ∧ (∀ (m v l b : Nat) (s : State), Admitted (regWr m A.DLY_CHG_POST) s → v / 65536 = 0xA55A → bitOf v 0 = true →
      l = s.get F.DLY_CHG_LINE_LINE → b = s.get F.DLY_CHG_BREATH_HI_B_HI * 2 ^ 32 + s.get F.DLY_CHG_BREATH_LO_B_LO →
      s.dly.chg.length < 64 → s.lineValid l = true →
      (∀ c ∈ s.dly.chg, c.line = l → c.xfade = true → serAtOrAfter 48 b c.b = true → serAfter 48 (c.b + 64) b = false) →
      (s.lineS l).xf.all (fun x => !(serAtOrAfter 48 b (bidx x.2) && serAfter 48 (bidx x.2 + 64) b)) = true →
      s.get F.DLY_CHG_DELAY_DELAY ≤ s.lineDmax l → (s.lineDram l = true → 32 ≤ s.get F.DLY_CHG_DELAY_DELAY ∧ b % 16 = 0) →
      serBefore 48 b (bidx (s.n + if s.lineDram l then 32 else 2)) = false →
      s.secState (s.lineSec l) = secRUNNING → s.lockState (s.lineSec l) ≠ lkSTARTED → s.get F.SYS_MODE_STAT_APPLYING = 0 →
    ∃ u, exec (.delayChangePost m v) s = .next u ∧ Answers m u ∧ u.get F.DLY_CHG_STAT_RESULT = 0
      ∧ u.get F.DLY_CHG_STAT_PENDING = s.dly.chg.length + 1
      ∧ u.dly.chg = s.dly.chg ++ [⟨l, s.on F.DLY_CHG_LINE_MODE, s.get F.DLY_CHG_DELAY_DELAY, b⟩] ∧ KeepsStore s u)
  ∧ (∀ (j t : Nat) (s : State), s.alive = true → s.breathing = true → (s.lineDram j = true → s.n % 16 = 0) →
    ∃ u, exec (.delayChangeApply j t) s = .next u
      ∧ u.dly.chg = s.dly.chg.filter (fun c => !(s.changesBy j s.n).contains c)
      ∧ u.get F.DLY_CHG_STAT_PENDING = u.dly.chg.length % 2 ^ 7
      ∧ (∀ cs c, s.changesBy j s.n = cs ++ [c] → (u.lineS j).delay = some c.delay
          ∧ (cs = [] → (u.lineS j).xf = (if c.xfade then some (s.lineDelay j, s.n) else none)))
      ∧ (s.changesBy j s.n = [] → u.lineS j = s.lineS j) ∧ KeepsStore s u)
  ∧ (∀ (j t o b : Nat) (s : State), s.alive = true → (s.lineS j).xf = some (o, b) → b + 63 ≤ s.n →
    ∃ u, exec (.delayXfadeEnd j t) s = .next u ∧ (u.lineS j).xf = none ∧ KeepsAll s u)
  ∧ (∀ (e : Ecc) (t : Nat) (s : State), s.alive = true → (s.atTime t).scrubDue = true →
    ∃ u, exec (.scrubRead e t) s = .next u
      ∧ Leaves (dlyEcc e 0xFFFF { s.atTime t with dly := { s.dly with
          scrub := if s.dly.scrub + 1 = scrubBlocks then 0 else s.dly.scrub + 1
          scrubAt := if s.dly.scrub + 1 = scrubBlocks then s.dly.scrubAt + max 60 (s.get F.DLY_SCRUB_PERIOD) * uS
            else s.dly.scrubAt } }) u
      ∧ (e = .clean → KeepsAll s u))

/-- Where each command of the DMA engine and of the arbiter completes, and what it does (R136–R147). -/
def Obligations.DmaAndArbiterRowsComplete : Prop :=
  (∀ (m k v : Nat) (s : State), 4 ≤ k → k < 16 → Admitted (regWr m (A.DMA_CTRL k)) s → m ≤ 1 → bitOf v 0 = true → bitOf v 1 = false →
      s.dmaBusy k = false → s.dmaSrc k % 4 = 0 → s.dmaDst k % 4 = 0 → s.get (F.DMA_COUNT_BYTES k) % 4 = 0 →
      4 ≤ s.get (F.DMA_COUNT_BYTES k) →
    ∃ u, exec (.dmaGo m k v) s = .next u ∧ Answers m u ∧ u.dmaState k = dmREADY ∧ mget 0 k u.dly.starter = m
      ∧ u.get (F.DMA_STAT_ERR k) = 0 ∧ u.get (F.DMA_STAT_PREEMPTS k) = 0 ∧ KeepsStore s u)
  ∧ (∀ (m k v : Nat) (s : State), 4 ≤ k → k < 16 → Admitted (regWr m (A.DMA_CTRL k)) s → bitOf v 0 = false → bitOf v 1 = true →
      s.dmaBusy k = true →
    ∃ u, exec (.dmaAbort m k v) s = .next u ∧ Answers m u ∧ u.dmaState k = dmABORTED ∧ u.dly.running ≠ some k
      ∧ (s.dly.running ≠ some k → KeepsStore s u))
  ∧ (∀ (bad : List (Nat × Bool)) (t : Nat) (s : State), s.alive = true → (s.atTime t).memOn 6 = true → s.dly.running = none →
    ∃ u, exec (.dmaBurstEnd bad t) s = .next u
      ∧ (∀ k, u.dly.running = some k → (s.atTime t).dmaReady k = true ∧ u.dmaState k = dmRUNNING
          ∧ ∀ j < 16, (s.atTime t).dmaReady j = true → s.get (F.DMA_CTRL_RANK k) ≤ s.get (F.DMA_CTRL_RANK j))
      ∧ (u.dly.running = none → ∀ j < 16, (s.atTime t).dmaReady j = false) ∧ KeepsStore s u)
  ∧ (∀ (bad : List (Nat × Bool)) (t k : Nat) (s : State), s.alive = true → (s.atTime t).memOn 6 = true → s.dly.running = some k →
    ∃ u, exec (.dmaBurstEnd bad t) s = .next u
      ∧ Leaves (dmaPick (if k = 0 then fetchBurst bad (s.atTime t) else if k = 1 then flushBurst bad (s.atTime t)
          else if k < 4 then drivenBurst k bad (s.atTime t) else dmaBurst k bad (s.atTime t))) u)
  ∧ (∀ (tg q n t : Nat) (drop : Bool) (s : State), s.alive = true → q < 9 → reaches q tg = true → s.holds q = false →
      (mget {} tg s.arb).wait = [] → drop = true ∨ (mget {} tg s.arb).owner = none →
    ∃ u, exec (.arbitrate tg ⟨drop, [(q, n)]⟩ t) s = .next u ∧ (mget {} tg u.arb).owner = some q ∧ (mget {} tg u.arb).len = n
      ∧ (mget {} tg u.arb).at_ = max s.now t ∧ (mget {} tg u.arb).wait = []
      ∧ u.get (F.ARB_GRANTS_COUNT q)
        = min (s.get (F.ARB_GRANTS_COUNT q) + 1) (2 ^ Fd.width (F.ARB_GRANTS_COUNT q) - 1) ∧ KeepsStore s u)
  ∧ (∀ (tg q n t o : Nat) (s : State), s.alive = true → q < 9 → reaches q tg = true → s.holds q = false →
      (mget {} tg s.arb).wait.any (fun w => w.q == q) = false → (mget {} tg s.arb).owner = some o →
    ∃ u, exec (.arbitrate tg ⟨false, [(q, n)]⟩ t) s = .next u ∧ (mget {} tg u.arb).owner = some o
      ∧ (mget {} tg u.arb).wait = (mget {} tg s.arb).wait ++ [⟨q, n, max s.now t⟩] ∧ KeepsAll s u)
  ∧ (∀ (tg t o : Nat) (s : State), s.alive = true →
    ∃ u, exec (.arbitrate tg ⟨true, []⟩ t) s = .next u
      ∧ ((mget {} tg u.arb).owner = some o → (∃ w ∈ (mget {} tg s.arb).wait, w.q = o)
          ∧ ∀ v ∈ (mget {} tg s.arb).wait, s.holds v.q = false → s.rankOf o ≤ s.rankOf v.q) ∧ KeepsStore s u)
  ∧ (∀ (m q : Nat) (s : State), Admitted (regWr m A.ARB_CLR) s → q < 9 →
    ∃ u, exec (.clrArbStats m) s = .next u ∧ Answers m u ∧ u.get (F.ARB_GRANTS_COUNT q) = 0 ∧ u.get (F.ARB_WAITMAX_CYCLES q) = 0
      ∧ KeepsStore s u)

/-- Where each command of the translation windows and of the surveillance unit completes, and what it does (R360, R392, R394). -/
def Obligations.WindowAndSurveyRowsComplete : Prop :=
  (∀ (m v : Nat) (s : State), Admitted (regWr m A.MMU_FLUSH) s → bitOf v 6 = true →
    ∃ u, exec (.mmuFlush m v) s = .next u ∧ Answers m u ∧ u.get F.MMU_STAT_BUSY = 1
      ∧ (∀ w, w ∈ u.mmu.flush ↔ w ∈ s.mmu.flush ∨ (if bitOf v 5 then w < 32 else w = v % 32)) ∧ KeepsFields [F.MMU_STAT_BUSY] s u ∧ KeepsStore s u)
  ∧ (∀ (t : Nat) (s : State), s.alive = true →
    ∃ u, exec (.mmuFlushDone t) s = .next u ∧ u.get F.MMU_STAT_BUSY = 0 ∧ u.mmu.flush = []
      ∧ u.mmu.cache = s.mmu.cache.filter (fun e => !s.mmu.flush.contains e.1) ∧ KeepsFields [F.MMU_STAT_BUSY] s u ∧ KeepsStore s u)
  ∧ (∀ (m j v : Nat) (s : State), j < 32 → Admitted (regWr m (A.SURV_LINE_CFG j)) s →
    ∃ u, exec (.lineEnable m j v) s = .next u ∧ Answers m u
      ∧ (s.get (F.SURV_LINE_CFG_EN j) ≠ 0 → KeepsAll s u)
      ∧ (s.get (F.SURV_LINE_CFG_EN j) = 0 → let w := s.writeRegPlain (A.SURV_LINE_CFG j) (withBit (v % 2 ^ 32) 31 false)
         if w.lineCfgOk j then u.get (F.SURV_LINE_CFG_EN j) = 1 else u.get (F.SURV_LINE_ZSTAT_CFGERR j) = 1) ∧ KeepsStore s u)
  ∧ (∀ (m v : Nat) (s : State), Admitted (regWr m A.SURV_CTRL) s → s.get F.SURV_STAT_BUSY = 0 → s.fencedGroup 21 = false →
    ∃ u, exec (.measGo m v) s = .next u ∧ Answers m u ∧ u.get F.SURV_STAT_BUSY = 1
      ∧ (∃ w, u.surv.win = some w ∧ w.first = none ∧ w.lines = (List.range 32).filter (fun j => s.on (F.SURV_LINE_CFG_EN j)))
      ∧ KeepsStore s u)
  ∧ (∀ (t f : Nat) (w : MeasS) (s : State), s.alive = true → s.breathing = true → s.surv.win = some w → w.first = some f →
      f + w.len ≤ s.n →
    ∃ u, exec (.measureDone t) s = .next u
      ∧ Leaves ((w.lines.map (fun j => (j, mget {} j w.sums))).foldl loadLine
          { (s.atTime t).set F.SURV_STAT_BUSY 0 with surv := { s.surv with win := none } }) u)

/-- A command of a section's lock, sent by its holder where these clauses allow it, is accepted and moves the lock (R151, R152,
R156, R161, R163). -/
def Obligations.LockRowsComplete : Prop :=
  (∀ (m i tk : Nat) (s : State), i < 16 → m < 32 → Admitted (regWr m (A.SECn_CMD i)) s → s.lockState i = lkFREE →
      s.get F.SYS_MODE_STAT_APPLYING = 0 →
    ∃ u, exec (.acquire m i tk) s = .next u ∧ LockDone m i 1 u ∧ u.lockState i = lkHELD ∧ u.get (F.SECn_LOCK_HOLDER i) = m
      ∧ u.get (F.SECn_LOCK_TICKET i) = s.rvc.ticket % 65535 + 1 ∧ (u.sec i).leaseEnd = s.now + s.lease ∧ KeepsStore s u)
  ∧ (∀ (m i tk : Nat) (s : State), Holds m i tk s → s.lockLive i = true →
    ∃ u, exec (.renew m i tk) s = .next u ∧ LockDone m i 2 u ∧ u.lockState i = s.lockState i
      ∧ (u.sec i).leaseEnd = s.now + s.lease ∧ KeepsStore s u)
  ∧ (∀ (m i tk : Nat) (s : State), Holds m i tk s → s.lockLive i = true →
    ∃ u, exec (.release m i tk) s = .next u ∧ LockDone m i 3 u ∧ u.lockState i = lkFREE ∧ u.get (F.SECn_LOCK_LASTEND i) = leRELEASE
      ∧ (∀ a, a < s.pendBase i ∨ s.pendBase i + 0x400000 ≤ a → u.byte a = s.byte a))
  ∧ (∀ (m i tk : Nat) (s : State), Holds m i tk s → s.lockState i = lkHELD →
    ∃ u, exec (.verify m i tk) s = .next u ∧ LockDone m i 4 u ∧ u.lockState i = lkVERIFYING ∧ KeepsStore s u)
  ∧ (∀ (m i tk : Nat) (s : State), Holds m i tk s → s.lockState i = lkREADY →
    ∃ u, exec (.reopen m i tk) s = .next u ∧ LockDone m i 5 u ∧ u.lockState i = lkHELD ∧ KeepsStore s u)
  ∧ (∀ (m i tk c : Nat) (w : State) (s : State), Holds m i tk s → s.get F.SYS_MODE_STAT_APPLYING = 0 → cmdCommit i s = (c, w) →
    ∃ u, exec (.commit m i tk) s = .next u ∧ Answers m u ∧ u.get (F.SECn_RESULT_LASTOP i) = 6 ∧ u.get (F.SECn_RESULT_CODE i) = c
      ∧ (s.lockState i ≠ lkREADY → s.get (F.SECn_CFG_VACATE i) = 0 → c = rjSTATE)
      ∧ (c ≠ 0 → KeepsFields [F.SECn_RESULT_LASTOP i, F.SECn_RESULT_CODE i] s u ∧ KeepsStore s u))
  ∧ (∀ (m i tk r named : Nat) (s : State), Holds m i tk s → s.get F.SYS_MODE_STAT_APPLYING = 0 → s.get (F.SECn_CFG_VACATE i) = 0 →
      s.lockState i = lkREADY → s.get F.DISP_STAT_STATE = dRunning →
      named = s.get (F.SECn_RESTART_HI_R_HI i) * 2 ^ 32 + s.get (F.SECn_RESTART_LO_R_LO i) →
      (if s.get (F.SECn_CFG_WHEN i) = 1 then s.get F.TWIN_CTRL_EN = 0 ∧ r = earliestR s.breaths2ms (s.n + 36 + s.breaths2ms) (s.otherR i)
       else r = s.unwrap named ∧ serBefore 48 named (bidx (s.n + 36 + s.breaths2ms)) = false) →
      serAfter 48 (bidx r) (bidx (s.n + 1048576)) = false → (∀ q ∈ s.otherR i, windowsMeet s.breaths2ms r q = false) →
      claimVerr (s.sec i).since ((imgRecords s (s.pendBase i)).getD []) s = 0 →
    ∃ u, exec (.commit m i tk) s = .next u ∧ LockDone m i 6 u ∧ u.lockState i = lkSTARTED ∧ (u.sec i).vacate = false
      ∧ (u.sec i).rB = r ∧ (u.sec i).sB = r - 34 - s.breaths2ms
      ∧ u.get (F.SECn_STOP_LO_S_LO i) = (r - 34 - s.breaths2ms) % 2 ^ 32
      ∧ (u.sec i).next = claimOf s ((imgRecords s (s.pendBase i)).getD []) ∧ KeepsStore s u)
  ∧ (∀ (m i tk r named : Nat) (s : State), Holds m i tk s → s.get F.SYS_MODE_STAT_APPLYING = 0 → s.get (F.SECn_CFG_VACATE i) = 1 →
      (s.lockState i = lkHELD ∨ s.lockState i = lkREADY) → s.get F.DISP_STAT_STATE = dRunning →
      named = s.get (F.SECn_RESTART_HI_R_HI i) * 2 ^ 32 + s.get (F.SECn_RESTART_LO_R_LO i) →
      (if s.get (F.SECn_CFG_WHEN i) = 1 then s.get F.TWIN_CTRL_EN = 0 ∧ r = earliestR s.breaths2ms (s.n + 36 + s.breaths2ms) (s.otherR i)
       else r = s.unwrap named ∧ serBefore 48 named (bidx (s.n + 36 + s.breaths2ms)) = false) →
      serAfter 48 (bidx r) (bidx (s.n + 1048576)) = false → (∀ q ∈ s.otherR i, windowsMeet s.breaths2ms r q = false) →
    ∃ u, exec (.vacate m i tk) s = .next u ∧ LockDone m i 6 u ∧ u.lockState i = lkSTARTED ∧ (u.sec i).vacate = true
      ∧ (u.sec i).rB = r ∧ (u.sec i).sB = r - 34 - s.breaths2ms
      ∧ u.get (F.SECn_STOP_LO_S_LO i) = (r - 34 - s.breaths2ms) % 2 ^ 32
      ∧ (s.lockState i = lkREADY → KeepsStore s u))
  ∧ (∀ (m i tk : Nat) (s : State), Holds m i tk s → s.lockState i = lkSTARTED → s.n < (s.sec i).sB → s.reached (s.sec i).sB 0 = false →
    ∃ u, exec (.cancel m i tk) s = .next u ∧ LockDone m i 7 u ∧ u.lockState i = lkREADY ∧ (u.sec i).leaseEnd = s.now + s.lease
      ∧ KeepsStore s u)

/-- A master that is not the holder, or sends another ticket, changes nothing but the result register (R151). -/
def Obligations.ForeignLockCommandIsRejected : Prop :=
  ∀ (m i tk op : Nat) (s : State), i < 16 → tk < 65536 → 2 ≤ op → op ≤ 7 → Admitted (regWr m (A.SECn_CMD i)) s → s.lapsed i = false →
    s.get F.SYS_MODE_STAT_APPLYING = 0 →
    (s.lockState i = lkFREE ∨ s.get (F.SECn_LOCK_HOLDER i) ≠ m ∨ s.get (F.SECn_LOCK_TICKET i) ≠ tk) →
    ∃ u, lockOp op m i tk s = .next u ∧ Answers m u ∧ u.get (F.SECn_RESULT_LASTOP i) = op ∧ u.get (F.SECn_RESULT_CODE i) = rjNOTHOLDER
      ∧ KeepsFields [F.SECn_RESULT_LASTOP i, F.SECn_RESULT_CODE i] s u ∧ KeepsStore s u ∧ u.rvc = s.rvc

/-- Where each event of a verification, a broken lock and a commit completes, and what it does (R152–R163). -/
def Obligations.CommitTimelineRowsComplete : Prop :=
  (∀ (i t : Nat) (s : State), s.alive = true → i < 16 → s.lockState i = lkVERIFYING → s.authTurn i = true →
    ∃ u, exec (.verifyDone i t) s = .next u ∧ u.get (F.SECn_RESULT_VERR i) = imageVerr i (s.pendBase i) s
      ∧ u.lockState i = (if imageVerr i (s.pendBase i) s = 0 then lkREADY else lkHELD) ∧ KeepsStore s u)
  ∧ (∀ (i t : Nat) (s : State), s.alive = true → i < 16 → s.lockLive i = true → (s.sec i).leaseEnd ≤ max s.now t →
    ∃ u, exec (.leaseLapse i t) s = .next u ∧ u.lockState i = lkFREE ∧ u.get (F.SECn_LOCK_LASTEND i) = leLAPSE
      ∧ bitOf (u.get F.RVC_EVT_BROKEN) i = true)
  ∧ (∀ (m v : Nat) (s : State), Admitted (regWr m A.RVC_BREAK) s → v / 65536 = 0xA55A → bitOf v 0 = true →
      s.lockLive (bits 11 8 v) = true →
    ∃ u, exec (.forcedBreak m v) s = .next u ∧ Answers m u ∧ u.lockState (bits 11 8 v) = lkFREE
      ∧ u.get (F.SECn_LOCK_LASTEND (bits 11 8 v)) = leFORCED ∧ bitOf (u.get F.RVC_EVT_BROKEN) (bits 11 8 v) = true)
  ∧ (∀ (i t : Nat) (s : State), s.alive = true → i < 16 → s.breathing = true → s.commits i = true → s.secState i = secRUNNING →
    ∃ u, exec (.commitRampout i t) s = .next u ∧ u.secState i = secRAMPOUT ∧ (u.sec i).rampOut = some (s.sec i).sB
      ∧ (s.disp.rot = none → KeepsFields [F.SECn_STAT_STATE i] s u) ∧ KeepsStore s u)
  ∧ (∀ (i t : Nat) (s : State), s.alive = true → i < 16 → s.breathing = true → s.lockState i = lkSTARTED →
      (s.sec i).sB + 32 ≤ s.n → (s.secState i ≤ secRAMPOUT ∨ s.secState i = secMISMATCH) →
    ∃ u, exec (.commitDrain i t) s = .next u ∧ u.secState i = secDRAIN ∧ KeepsStore s u)
  ∧ (∀ (i t : Nat) (s : State), s.alive = true → i < 16 → s.breathing = true → s.lockState i = lkSTARTED → s.secState i = secDRAIN →
      (s.sec i).sB + 34 ≤ s.n →
    ∃ u, exec (.commitLoading i t) s = .next u ∧ (u.sec i).own = (s.sec i).next
      ∧ u.secState i = (if (s.sec i).vacate then secDRAIN else secLOADING)
      ∧ ((s.sec i).vacate = false → (u.sec i).loadAt = max s.now t))
  ∧ (∀ (i t : Nat) (s : State), s.alive = true → i < 16 → s.secState i = secLOADING →
    ∃ u, exec (.commitLoadDone i t) s = .next u ∧ u.secState i = secWAITING
      ∧ u.get (F.SECn_STAT_LIVEBUF i) = 1 - s.get (F.SECn_STAT_LIVEBUF i))
  ∧ (∀ (i t : Nat) (s : State), s.alive = true → i < 16 → s.breathing = true → s.lockState i = lkSTARTED →
      (s.sec i).rB ≤ s.n → (s.atTime t).reached s.n 100 = false → (s.sec i).vacate = true → s.secState i = secDRAIN →
    ∃ u, exec (.commitRestart i t) s = .next u ∧ u.secState i = secEMPTY ∧ u.lockState i = lkFREE
      ∧ u.get (F.SECn_LOCK_LASTEND i) = leDONE ∧ bitOf (u.get F.RVC_EVT_DONE) i = true
      ∧ u.get (F.SECn_GEN_GEN i) = (s.get (F.SECn_GEN_GEN i) + 1) % 2 ^ 32 ∧ KeepsStore s u)
  ∧ (∀ (i t : Nat) (s : State), s.alive = true → i < 16 → s.breathing = true → s.lockState i = lkSTARTED →
      (s.sec i).rB = s.n ∨ ((s.sec i).rB < s.n ∧ s.classOf 30 = 0) → (s.atTime t).reached s.n 100 = false →
      (s.sec i).vacate = false → s.secState i = secWAITING → (s.sec i).loadedB < s.n →
    ∃ u, exec (.commitRestart i t) s = .next u ∧ u.secState i = secRUNNING ∧ u.lockState i = lkFREE
      ∧ u.get (F.SECn_LOCK_LASTEND i) = leDONE ∧ bitOf (u.get F.RVC_EVT_DONE) i = true
      ∧ u.get (F.SECn_GEN_GEN i) = (s.get (F.SECn_GEN_GEN i) + 1) % 2 ^ 32 ∧ u.get (F.SECn_STAT_RAMPIN i) = 1
      ∧ u.get (F.SECn_STAT_RETAINED i) = (s.sec i).retain.toNat
      ∧ ((s.sec i).rB < s.n → u.get (F.SECn_STAT_LATE i) = 1))
  ∧ (∀ (i t r : Nat) (s : State), s.alive = true → i < 16 → (s.sec i).rampIn = some r → r + 31 ≤ s.n →
    ∃ u, exec (.rampinEnd i t) s = .next u ∧ u.get (F.SECn_STAT_RAMPIN i) = 0 ∧ KeepsFields [F.SECn_STAT_RAMPIN i] s u ∧ KeepsStore s u)
  ∧ (∀ (m : Nat) (s : State), Admitted (regWr m A.RVC_CLR) s →
    ∃ u, exec (.clrLoadmax m) s = .next u ∧ Answers m u ∧ u.get F.RVC_LOADMAX_US = 0 ∧ KeepsFields [F.RVC_LOADMAX_US] s u
      ∧ KeepsStore s u)
  ∧ (∀ (i t : Nat) (s : State), s.alive = true → i < 16 → s.lockLive i = true → s.get (F.SECn_LOCK_HOLDER i) = mDBG →
    ∃ u, exec (.testLogicReset t) s = .next u ∧ u.lockState i = lkFREE ∧ u.get (F.SECn_LOCK_LASTEND i) = leRESET)

/-- Where each event of a port's link completes, and the state of the link it leaves (R168, R169, R190–R192). -/
def Obligations.LinkRowsComplete : Prop :=
  (∀ (m p v : Nat) (s : State), p < 5 → Admitted (regWr m (A.NET_CTRL p)) s → s.get (F.NET_CTRL_EN p) = 0 → bitOf v 31 = true →
    ∃ u, exec (.portEnable m p v) s = .next u ∧ Answers m u ∧ u.get (F.NET_CTRL_EN p) = 1
      ∧ (let w := s.writeRegPlain (A.NET_CTRL p) v
         u.lstate p = (if w.get (F.NET_CTRL_PHY p) = 1 then (if w.get (F.NET_CTRL_AN_EN p) = 1 then lsAN else lsTRAINING) else lsALIGN))
      ∧ (u.portS p).since = s.now ∧ KeepsStore s u)
  ∧ (∀ (m p v : Nat) (s : State), p < 5 → Admitted (regWr m (A.NET_CTRL p)) s → s.get (F.NET_CTRL_EN p) = 1 → bitOf v 31 = false →
    ∃ u, exec (.portDisable m p v) s = .next u ∧ Answers m u ∧ u.get (F.NET_STAT_LSTATE p) = lsDISABLED)
  ∧ (∀ (p ab t : Nat) (s : State), s.alive = true → p < 5 → s.lstate p = lsAN → (s.portS p).anWait = false →
    ∃ u, exec (.anPageExchange p ab t) s = .next u ∧ u.get (F.NET_AN_LP_VALID p) = 1
      ∧ (let a := s.anAdv p
         if bitOf a 4 && bitOf ab 4 || bitOf a 3 && bitOf ab 3 then u.lstate p = lsTRAINING ∧ u.get (F.NET_STAT_SPEED p) = 0
         else if bitOf a 2 && bitOf ab 2 then u.lstate p = lsTRAINING ∧ u.get (F.NET_STAT_SPEED p) = 1
         else u.lstate p = lsAN ∧ (u.portS p).anWait = true) ∧ KeepsStore s u)
  ∧ (∀ (p t : Nat) (s : State), s.alive = true → p < 5 → s.lstate p = lsAN → (s.portS p).anWait = true →
    ∃ u, exec (.anBreakLinkTimer p t) s = .next u ∧ (u.portS p).anWait = false ∧ (u.portS p).step = none ∧ (u.portS p).since = max s.now t ∧ KeepsAll s u)
  ∧ (∀ (p t : Nat) (s : State), s.alive = true → p < 5 → s.lstate p = lsTRAINING →
    ∃ u, exec (.trainingComplete p t) s = .next u ∧ u.lstate p = lsALIGN ∧ KeepsFields [F.NET_STAT_LSTATE p] s u ∧ KeepsStore s u)
  ∧ (∀ (p t : Nat) (s : State), s.alive = true → p < 5 → s.lstate p = lsTRAINING → (s.portS p).since + 500 * uMs ≤ max s.now t →
    ∃ u, exec (.trainingTimeout p t) s = .next u ∧ u.lstate p = (if (s.portS p).an then lsAN else lsTRAINING)
      ∧ (u.portS p).since = max s.now t ∧ KeepsStore s u)
  ∧ (∀ (p t : Nat) (txf : Bool) (s : State), s.alive = true → p < 5 → s.lstate p = lsALIGN →
      (s.portS p).since + 10 * uMs ≤ max s.now t →
    ∃ u, exec (.linkUp p ⟨txf, t⟩) s = .next u ∧ u.lstate p = lsUP ∧ u.get (F.NET_STAT_LINKCHG p) = 1 ∧ u.get (F.NET_STAT_RFAULT p) = 0
      ∧ u.get (F.SFP_STAT_LOS p) = 0 ∧ u.get (F.SFP_STAT_TX_FAULT p) = txf.toNat
      ∧ KeepsStore s u)
  ∧ (∀ (p t : Nat) (s : State), s.alive = true → p < 5 → s.lstate p = lsALIGN → (s.portS p).since + 500 * uMs ≤ max s.now t →
    ∃ u, exec (.alignTimeout p t) s = .next u ∧ u.lstate p = (if (s.portS p).an then lsAN else lsALIGN)
      ∧ (u.portS p).since = max s.now t ∧ KeepsStore s u)
  ∧ (∀ (p t : Nat) (rfault los txf : Bool) (s : State), s.alive = true → p < 5 → s.lstate p = lsUP →
    ∃ u, exec (.linkDown p rfault ⟨los, txf⟩ t) s = .next u
      ∧ Leaves (enterL p (if (s.portS p).an then lsAN else lsALIGN) (leaveUp p true
          (let w := samplePins p los txf (s.atTime t)
           if rfault then w.set (F.NET_STAT_RFAULT p) 1 else w))) u
      ∧ (s.classOf (40 + 4 * p) ≠ 1 → u.lstate p = (if (s.portS p).an then lsAN else lsALIGN)))
  ∧ (∀ (p t : Nat) (s : State), s.alive = true → p < 4 → s.lstate p = lsUP → s.get (F.NET_CTRL_LOWPWR p) = 2 → (s.portS p).kr = true → (s.portS p).an = true →
      bitOf (s.portS p).adv 5 = true → bitOf (s.get (F.NET_AN_LP_ABIL p)) 5 = true → s.portMapped p = false → (s.portS p).txq = [] →
      max (s.portS p).idle (s.portS p).lineEnd + s.get (F.NET_LP_CFG_LPI_IDLE p) * uUs ≤ max s.now t →
    ∃ u, exec (.lpiEnter p t) s = .next u ∧ u.get (F.NET_STAT_LPI_TX p) = 1 ∧ KeepsFields [F.NET_STAT_LPI_TX p] s u ∧ KeepsStore s u)
  ∧ (∀ (p t : Nat) (on : Bool) (s : State), s.alive = true → p < 5 → s.lstate p = lsUP →
    ∃ u, exec (.receiveLpi p on t) s = .next u ∧ u.get (F.NET_STAT_LPI_RX p) = on.toNat ∧ KeepsFields [F.NET_STAT_LPI_RX p] s u
      ∧ KeepsStore s u)
  ∧ (∀ (p t : Nat) (txf : Bool) (s : State), s.alive = true → p < 4 → s.lstate p = lsUP → s.get (F.NET_CTRL_LOWPWR p) = 1 →
      (s.portS p).kr = true → (s.portS p).an = true → s.portMapped p = false → (s.portS p).noStep ≤ max s.now t →
      bitOf (s.portS p).adv 2 = true → bitOf (s.get (F.NET_AN_LP_ABIL p)) 2 = true →
      ((bitOf (s.portS p).adv 4 = true ∧ bitOf (s.get (F.NET_AN_LP_ABIL p)) 4 = true)
        ∨ (bitOf (s.portS p).adv 3 = true ∧ bitOf (s.get (F.NET_AN_LP_ABIL p)) 3 = true)) → (s.atTime t).stepDue p = true →
    ∃ u, exec (.speedStep p ⟨false, txf⟩ t) s = .next u ∧ u.lstate p = lsAN ∧ u.get (F.NET_STAT_STEPPED p) = 1
      ∧ (u.portS p).step = some (if s.get (F.NET_STAT_SPEED p) = 0 then 1 else 0) ∧ (u.portS p).noStep = max s.now t + 10 * uS)
  ∧ (∀ (p t : Nat) (txf : Bool) (s : State), exec (.speedStep p ⟨true, txf⟩ t) s = exec (.linkDown p false ⟨true, txf⟩ t) s)

/-- Where each event of an optical module and each transfer to one completes, and what it does (R171, R172). -/
def Obligations.ModuleRowsComplete : Prop :=
  (∀ (p t : Nat) (los txf : Bool) (s : State), s.alive = true → p < 5 → s.get (F.SFP_STAT_PRESENT p) = 0 →
    ∃ u, exec (.moduleInsert p los txf t) s = .next u ∧ u.get (F.SFP_STAT_PRESENT p) = 1 ∧ u.get (F.SFP_STAT_LOS p) = los.toNat
      ∧ u.get (F.SFP_STAT_TX_FAULT p) = txf.toNat ∧ (u.portS p).insert = max s.now t
      ∧ KeepsFields [F.SFP_STAT_PRESENT p, F.SFP_STAT_LOS p, F.SFP_STAT_TX_FAULT p] s u ∧ KeepsStore s u)
  ∧ (∀ (p t w : Nat) (bs : List Byte) (s : State), s.alive = true → p < 5 → w < 24 → s.get (F.SFP_STAT_PRESENT p) = 1 →
      s.get (F.SFP_STAT_ID_VALID p) = 0 → (s.portS p).insert + 300 * uMs ≤ max s.now t → s.i2cOwn p = false →
    ∃ u, exec (.moduleIdRead p bs t) s = .next u ∧ u.get (F.SFP_STAT_ID_VALID p) = 1 ∧ u.get (F.SFP_STAT_INSERT p) = 1
      ∧ u.get (F.SFP_ID_BYTES p w) = leNat ((bs.drop (4 * w)).take 4) ∧ KeepsStore s u)
  ∧ (∀ (p t : Nat) (s : State), s.alive = true → p < 5 → s.get (F.SFP_STAT_PRESENT p) = 1 →
    ∃ u, exec (.moduleRemove p t) s = .next u ∧ Leaves (moduleRemove p (s.atTime t)) u
      ∧ (s.lstate p ≠ lsUP → u.get (F.SFP_STAT_PRESENT p) = 0 ∧ u.get (F.SFP_STAT_ID_VALID p) = 0
          ∧ u.get (F.SFP_STAT_DDM_VALID p) = 0 ∧ u.get (F.SFP_STAT_REMOVE p) = 1 ∧ u.get (F.SFP_ID_BYTES p 0) = 0 ∧ KeepsStore s u))
  ∧ (∀ (p t : Nat) (bs : List Byte) (los txf : Bool) (s : State), s.alive = true → p < 5 → s.get (F.SFP_CTRL_POLL_EN p) = 1 →
      s.get (F.SFP_STAT_ID_VALID p) = 1 → bitOf (s.get (F.SFP_ID_BYTES p 23)) 6 = true → (s.portS p).poll ≤ max s.now t →
      s.i2cOwn p = false → los = false ∨ s.portUp p = false →
    ∃ u, exec (.ddmPoll p ⟨bs, los, txf⟩ t) s = .next u ∧ u.get (F.SFP_STAT_LOS p) = los.toNat ∧ u.get (F.SFP_STAT_TX_FAULT p) = txf.toNat ∧ u.get (F.SFP_STAT_DDM_VALID p) = 1 ∧ u.get (F.SFP_DDM0_TEMP p) = beNat (bs.take 2)
      ∧ u.get (F.SFP_DDM2_RXPWR p) = beNat ((bs.drop 8).take 2) ∧ KeepsStore s u)
  ∧ (∀ (m p dev ofs len : Nat) (s : State), p < 5 → Admitted (regWr m (A.SFP_CMD p)) s → s.get (F.SFP_CMD_BUSY p) = 0 →
      (∃ u, exec (.sfpRead m p dev ofs len) s = .next u ∧ Answers m u ∧ u.get (F.SFP_CMD_BUSY p) = 1
        ∧ bitOf (u.portS p).i2c 30 = false ∧ bits 23 17 (u.portS p).i2c = dev % 128 ∧ bits 7 0 (u.portS p).i2c = ofs % 256
        ∧ KeepsFields [F.SFP_CMD_BUSY p] s u ∧ KeepsStore s u)
      ∧ ∃ u, exec (.sfpWrite m p dev ofs len) s = .next u ∧ Answers m u ∧ u.get (F.SFP_CMD_BUSY p) = 1
        ∧ bitOf (u.portS p).i2c 30 = true ∧ bits 23 17 (u.portS p).i2c = dev % 128 ∧ bits 7 0 (u.portS p).i2c = ofs % 256
        ∧ KeepsFields [F.SFP_CMD_BUSY p] s u ∧ KeepsStore s u)
  ∧ (∀ (p data t : Nat) (ack : Bool) (s : State), s.alive = true → p < 5 → s.get (F.SFP_CMD_BUSY p) = 1 →
      (s.portS p).i2cRun = true ∨ ((s.atTime t).idDue p = false ∧ (s.atTime t).pollDue p = false) →
    ∃ u, exec (.sfpTransferDone p ack data t) s = .next u ∧ u.get (F.SFP_CMD_BUSY p) = 0
      ∧ (ack = false ∨ s.get (F.SFP_STAT_PRESENT p) = 0 → u.get (F.SFP_STAT_NACK p) = 1)
      ∧ (ack = true → s.get (F.SFP_STAT_PRESENT p) = 1 → bitOf (s.portS p).i2c 30 = false → bits 25 24 (s.portS p).i2c = 3 →
          u.get (F.SFP_DATA_DATA p) = data % 2 ^ 32) ∧ KeepsStore s u)

/-- Where each event of reception, transmission and the descriptor rings completes, and what it does (R173–R194). -/
def Obligations.FrameRowsComplete : Prop :=
  (∀ (p corr unc sfd held t : Nat) (bs : List Byte) (code : Bool) (ue : Option Nat) (s : State), p < 5 → s.alive = true →
      (s.atTime t).macRuns p = true → code = true ∨ bs.length < 64 →
    ∃ u, exec (.frameReceive p bs ⟨code, corr, unc⟩ sfd held ue t) s = .next u
      ∧ (if code then u.get (F.NCNT_RX_CODE p) = (s.get (F.NCNT_RX_CODE p) + 1) % 2 ^ 32
         else u.get (F.NCNT_RX_RUNT p) = (s.get (F.NCNT_RX_RUNT p) + 1) % 2 ^ 32)
      ∧ KeepsFields [F.NCNT_RX_CODE p, F.NCNT_RX_RUNT p, F.NCNT_FEC_CORR p, F.NCNT_FEC_UNCORR p] s u ∧ KeepsStore s u)
  ∧ (∀ (p corr unc sfd held t lim : Nat) (bs : List Byte) (ue : Option Nat) (s : State), p < 5 → s.alive = true →
      (s.atTime t).macRuns p = true → 64 ≤ bs.length →
      lim = ((s.atTime t).filtersAt p sfd).maxLen p + (if frTagged bs then 4 else 0) →
      lim < bs.length ∨ leNat (bs.drop (bs.length - 4)) ≠ crc32 (bs.take (bs.length - 4)) →
    ∃ u, exec (.frameReceive p bs ⟨false, corr, unc⟩ sfd held ue t) s = .next u
      ∧ (if lim < bs.length then u.get (F.NCNT_RX_OVERSIZE p) = (s.get (F.NCNT_RX_OVERSIZE p) + 1) % 2 ^ 32
         else u.get (F.NCNT_RX_FCS p) = (s.get (F.NCNT_RX_FCS p) + 1) % 2 ^ 32)
      ∧ KeepsFields [F.NCNT_RX_OVERSIZE p, F.NCNT_RX_FCS p, F.NCNT_FEC_CORR p, F.NCNT_FEC_UNCORR p] s u ∧ KeepsStore s u)
  ∧ (∀ (p corr unc sfd held t : Nat) (bs : List Byte) (c : Claimant) (ue : Option Nat) (s : State), Sound p bs sfd t s →
      (arrived p corr unc bs.length (s.atTime t)).claimant p (bs.take (bs.length - 4)) = some c →
    ∃ u, exec (.frameReceive p bs ⟨false, corr, unc⟩ sfd held ue t) s = .next u
      ∧ Leaves (takeClaim c ⟨p, bs.take (bs.length - 4), (s.atTime t).devThen sfd, (s.atTime t).dev⟩
          (countRx p bs.length (arrived p corr unc bs.length (s.atTime t)))) u)
  ∧ (∀ (p corr unc sfd held t : Nat) (bs : List Byte) (ue : Option Nat) (s : State), Sound p bs sfd t s →
      (arrived p corr unc bs.length (s.atTime t)).claimant p (bs.take (bs.length - 4)) = none →
    ∃ u, exec (.frameReceive p bs ⟨false, corr, unc⟩ sfd held ue t) s = .next u
      ∧ Leaves (rxUnclaimed p bs ((s.atTime t).filtersAt p sfd) ((s.atTime t).devThen sfd / 256) held ue
          (arrived p corr unc bs.length (s.atTime t))) u)
  ∧ (∀ (m p r v : Nat) (s : State), p < 5 → r < 10 → Admitted (regWr m (ringReg p r 0x14)) s →
    ∃ u, exec (.ringTailWrite m p r v) s = .next u ∧ Answers m u
      ∧ (if s.get (ringF p r).en = 1 ∧ v % 4096 < s.get (ringF p r).len then
          u.get (ringF p r).tail = v % 4096 ∧ KeepsFields [(ringF p r).tail] s u
         else u.get (F.NET_STAT_TAILERR p) = 1 ∧ KeepsFields [F.NET_STAT_TAILERR p] s u) ∧ KeepsStore s u)
  ∧ (∀ (m p r : Nat) (s : State), p < 5 → r < 10 → Admitted (regWr m (ringReg p r 0)) s →
      (8 ≤ s.get (ringF p r).len → s.get (ringF p r).len ≤ 4096 →
        ∃ u, exec (.ringEnable m p r) s = .next u ∧ Answers m u ∧ u.get (ringF p r).en = 1 ∧ u.get (ringF p r).head = 0
          ∧ u.get (ringF p r).tail = 0 ∧ KeepsFields [(ringF p r).en, (ringF p r).head, (ringF p r).tail] s u ∧ KeepsStore s u)
      ∧ ∃ u, exec (.ringDisable m p r) s = .next u ∧ Answers m u ∧ u.get (ringF p r).en = 0 ∧ u.get (ringF p r).halt = 0
          ∧ u.get (ringF p r).err = 0 ∧ KeepsFields [(ringF p r).en, (ringF p r).halt, (ringF p r).err] s u ∧ KeepsStore s u)
  ∧ (∀ (p k t : Nat) (ue : Option Nat) (s : State), s.alive = true → p < 5 → k < 6 → s.ringLive p (4 + k) = true →
    ∃ u, exec (.txFrameQueue p k ue t) s = .next u ∧ Leaves (txQueue p (4 + k) ue (s.atTime t)) u)
  ∧ (∀ (p t : Nat) (f : TxFrame) (s : State), s.alive = true → (s.atTime t).macRuns p = true →
      (creditTick p (s.atTime t)).nextTx p = some f →
    ∃ u, exec (.frameTransmit p t) s = .next u
      ∧ Leaves (noteHello p f (startTx p f (measureFrame f (creditTick p (s.atTime t))))) u)
  ∧ (∀ (p t e r i n : Nat) (f : TxFrame) (l : List (TxFrame × Nat)) (s : State), s.alive = true → p < 5 → (s.portS p).sent = (f, e) :: l →
      e ≤ max s.now t → f.ring = some (r, i, n) →
    ∃ u, exec (.txFrameDone p t) s = .next u
      ∧ (let w := (s.atTime t).setPort p { s.portS p with sent := l }
         Leaves (if s.get (ringF p r).halt = 1 then w else txReturn p r i n 0 0 w) u)
      ∧ (s.classOf (41 + 4 * p) = 0 → (u.portS p).sent = l))
  ∧ (∀ (m p : Nat) (s : State), p < 5 → Admitted (regWr m (A.NET_CTRL p + 0x850)) s →
    ∃ u, exec (.clrNetCounters m p) s = .next u ∧ Answers m u ∧ u.get (F.NCNT_RX_OK p) = 0 ∧ u.get (F.NCNT_TX_OK p) = 0
      ∧ u.get (F.NCNT_LINK_DOWNS p) = 0 ∧ u.get (F.NCNT_RX_FCS p) = 0 ∧ KeepsStore s u
      ∧ (∀ f, Fd.quiet f = true → (Fd.key f / 32 < A.NET_CTRL p + 0x800 ∨ A.NET_CTRL p + 0x850 ≤ Fd.key f / 32) → u.get f = s.get f))
  ∧ (∀ (p k t : Nat) (s : State), s.alive = true → p < 4 → s.breathing = true → k < s.get (F.STRM_GCL_STAT_OPER_LEN p) →
      s.gateOfs p k < s.period → ((s.gateOfs p k : Nat) : Int) ≤ (s.atTime t).since s.n →
    ∃ u, exec (.gateEntry p k t) s = .next u ∧ (u.portS p).gates = s.get (F.STRM_GCL_OPER_GATES k p) ∧ (u.portS p).gateK = k
      ∧ KeepsAll s u)

/-- Where each command of the audio streams completes, and what it does: descriptors, receive states, recovery, transmit frames
and gate lists (R198–R222). -/
def Obligations.StreamRowsComplete : Prop :=
  (∀ (m v i : Nat) (s : State), Admitted (regWr m 0x200A0020) s → s.selStream = i → (i < 128 ∨ i % 64 < 32) → s.strmHeld i = false →
    ∃ u, exec (.streamEnable m v) s = .next u ∧ Answers m u
      ∧ (let w := s.set (F.STRM_DESC_WORD 0 i) (withBit (v % 2 ^ 32) 31 true &&& descMask 0 i)
         if w.descErr i = 0 then u.get (F.STRM_DSTAT_DERR i) = s.get (F.STRM_DSTAT_DERR i) ∧ bitOf (u.sw 0 i) 31 = true ∧ (u.strmS i).pend = true
         else u.get (F.STRM_DSTAT_DERR i) = w.descErr i ∧ u.get F.STRM_STAT_BADDESC = 1 ∧ bitOf (u.sw 0 i) 31 = false)
      ∧ KeepsStore s u)
  ∧ (∀ (m v i : Nat) (s : State), Admitted (regWr m 0x200A0020) s → s.selStream = i → (i < 128 ∨ i % 64 < 32) → bitOf (s.sw 0 i) 31 = true →
    ∃ u, exec (.streamDisable m v) s = .next u ∧ Answers m u ∧ bitOf (u.sw 0 i) 31 = false ∧ (u.strmS i).pend = (s.strmS i).live
      ∧ KeepsStore s u)
  ∧ (∀ (i t eof : Nat) (vs : List Int) (s : State), s.alive = true → i < 64 → (s.strmS i).live = true → (s.strmS i).stopB = none →
      s.breathing = true → s.modeGap = false → (s.strmS i).held.find? (fun e => e.1 == s.n) = some (s.n, eof, vs) → (s.strmS i).doneB ≤ s.n →
      (s.atTime t).reached s.n (s.dueOfs i) = false →
    ∃ u, exec (.jitterSampleRelease i t) s = .next u ∧ (u.strmS i).doneB = s.n + 1
      ∧ (u.strmS i).held = (s.strmS i).held.filter (fun e => s.n < e.1)
      ∧ (s.strmState i = ssSILENT → u.strmState i = ssRAMPIN ∧ u.get (F.STRM_DSTAT_RAMP_K i) = 1)
      ∧ (s.strmState i = ssRUN → u.strmState i = ssRUN))
  ∧ (∀ (i t : Nat) (s : State), s.alive = true → i < 64 → (s.strmS i).live = true → (s.strmS i).from_ ≤ s.n →
      s.breathing = true → (s.strmS i).doneB ≤ s.n → (s.atTime t).reached s.n (s.dueOfs i) = true →
    ∃ u, exec (.sampleMissing i t) s = .next u ∧ (u.strmS i).doneB = s.n + 1
      ∧ u.get (F.STRM_SCNT_COUNT 8 i) = (s.get (F.STRM_SCNT_COUNT 8 i) + 1) % 2 ^ 32
      ∧ (s.strmState i = ssRUN ∨ s.strmState i = ssRAMPIN → u.strmState i = ssREPEAT)
      ∧ (s.strmState i = ssREPEAT → max 1 (s.get F.STRM_CFG_REPEAT_MAX) ≤ (s.strmS i).repeats →
          u.strmState i = ssFADE ∧ u.get (F.STRM_DSTAT_RAMP_K i) = 1)
      ∧ (s.strmState i = ssFADE → s.get (F.STRM_DSTAT_RAMP_K i) = 31 → u.strmState i = ssSILENT))
  ∧ (∀ (i t : Nat) (s : State), s.alive = true → (s.strmS i).live = true → (s.strmS i).takeAny = false → s.breathing = true →
      (s.strmS i).passB + max 1 (s.get F.STRM_CFG_RESET_BREATHS) < s.n →
    ∃ u, exec (.takeAnyReset i t) s = .next u ∧ u.strmS i = { s.strmS i with takeAny := true }
      ∧ u.get (F.STRM_SCNT_COUNT 5 i) = (s.get (F.STRM_SCNT_COUNT 5 i) + 1) % 2 ^ 32
      ∧ KeepsFields [F.STRM_SCNT_COUNT 5 i] s u ∧ KeepsStore s u)
  ∧ (∀ (i t : Nat) (b : Bool) (s : State), s.alive = true →
      (if b then (s.strmS i).lastB else (s.strmS i).lastA) + max 1 (s.get F.STRM_CFG_PATH_TMO) < s.n →
    ∃ u, exec (.pathTimeout i b t) s = .next u ∧ Leaves (pathDown i b (s.atTime t)) u)
  ∧ (∀ (j t : Nat) (s : State), s.alive = true → j < 64 → (s.strmS (64 + j)).live = true → (s.strmS (64 + j)).stopB = none →
      s.breathing = true → s.audioOff = false → (s.strmS (64 + j)).next + s.spf (64 + j) ≤ s.n + 1 →
      (((List.range (s.strmCh (64 + j))).all
        (fun c => (s.outWord (64 * j + c) ((s.strmS (64 + j)).next + s.spf (64 + j) - 1)).2)) = true
        ∨ (if s.sw 6 (64 + j) / 65536 = 0 then (s.atTime t).reached ((s.strmS (64 + j)).next + s.spf (64 + j)) 0
            else (s.atTime t).reached ((s.strmS (64 + j)).next + s.spf (64 + j) - 1) (s.sw 6 (64 + j) / 65536)) = true) →
    ∃ u, exec (.frameClose j t) s = .next u ∧ (u.strmS (64 + j)).next = (s.strmS (64 + j)).next + s.spf (64 + j))
  ∧ (∀ (j t : Nat) (s : State), s.alive = true → j < 32 → (s.strmS (192 + j)).live = true → s.audioOff = false →
      (((s.strmS (192 + j)).next + s.spp (192 + j) : Nat) : Int) - 1 ≤ mediaAt (s.mediaRate (192 + j)) ((s.atTime t).devNs : Nat) →
    ∃ u, exec (.aes67PacketSend j t) s = .next u ∧ (u.strmS (192 + j)).next = (s.strmS (192 + j)).next + s.spp (192 + j))
  ∧ (∀ (m v p : Nat) (s : State), Admitted (regWr m 0x200A0110) s → Keyed v → s.get F.STRM_GCL_PORT_PORT = p →
    ∃ u, exec (.gclCommit m v) s = .next u ∧ Answers m u
      ∧ (let b := s.get (F.STRM_GCL_BREATH_HI_B_HI p) * 2 ^ 32 + s.get (F.STRM_GCL_BREATH_LO_B_LO p)
         let len := s.get (F.STRM_GCL_LEN_LEN p)
         if s.strm.gcl.isSome then u.get (F.STRM_GCL_STAT_RESULT p) = 2 ∧ u.strm = s.strm
         else if serBefore 48 b (bidx (s.n + 2)) = true then u.get (F.STRM_GCL_STAT_RESULT p) = 3 ∧ u.strm = s.strm
         else if len = 0 ∨ 64 < len then u.get (F.STRM_GCL_STAT_RESULT p) = 4 ∧ u.strm = s.strm
         else u.get (F.STRM_GCL_STAT_RESULT p) = 0 ∧ u.get (F.STRM_GCL_STAT_BUSY p) = 1 ∧ u.strm.gcl = some (p, b))
      ∧ KeepsFields [F.STRM_GCL_STAT_RESULT p, F.STRM_GCL_STAT_BUSY p] s u ∧ KeepsStore s u)
  ∧ (∀ (t p b : Nat) (s : State), s.alive = true → s.breathing = true → s.disp.started = true → s.strm.gcl = some (p, b) →
      serAtOrAfter 48 (bidx s.n) b = true → p < 4 →
    ∃ u, exec (.gclOperative t) s = .next u ∧ u.strm.gcl = none ∧ u.get (F.STRM_GCL_STAT_BUSY p) = 0
      ∧ u.get (F.STRM_GCL_STAT_RESULT p) = 1 ∧ u.get (F.STRM_GCL_STAT_OPER_LEN p) = s.get (F.STRM_GCL_LEN_LEN p)
      ∧ (∀ k < 64, u.get (F.STRM_GCL_OPER_GATES k p) = s.get (F.STRM_GCL_ADMIN_GATES k p)
          ∧ u.get (F.STRM_GCL_OPER_INTERVAL k p) = s.get (F.STRM_GCL_ADMIN_INTERVAL k p)))
  ∧ (∀ (m : Nat) (s : State), Admitted (regWr m A.STRM_CLR) s →
    ∃ u, exec (.clrStreamCounters m) s = .next u ∧ Answers m u ∧ (∀ j < 10, ∀ i < 256, u.get (F.STRM_SCNT_COUNT j i) = 0)
      ∧ (∀ f, Fd.quiet f = true → (f.addr % 2 ^ 32 < 0x200A0060 ∨ 0x200A0088 ≤ f.addr % 2 ^ 32) → f.lsb < 32 → u.get f = s.get f)
      ∧ KeepsStore s u)

/-- Where each command of the serial ports completes, and what it does: enable, frames, slots, block stamps, loss of clock, masks
and the cable loop (R264–R274). -/
def Obligations.SerialRowsComplete : Prop :=
  (∀ (m p v : Nat) (s : State), p < 16 → Admitted (regWr m (A.SAPp_CFG p)) s → s.get (F.SAPp_CFG_EN p) = 0 →
    ∃ u, exec (.sapEnable m p v) s = .next u ∧ Answers m u
      ∧ (let w := s.writeRegPlain (A.SAPp_CFG p) (withBit (v % 2 ^ 32) 31 false)
         if w.fencedInst 15 p then u.get (F.SAPp_CFG_EN p) = 0
         else if w.sapErr p ≠ 0 then u.get (F.SAPp_STAT_DERR p) = w.sapErr p ∧ u.get (F.SAPp_CFG_EN p) = 0
         else u.get (F.SAPp_CFG_EN p) = 1 ∧ u.sapState p = saARMED ∧ u.get (F.SAPp_STAT_DERR p) = s.get (F.SAPp_STAT_DERR p)
           ∧ u.get (F.SAPp_CNT0_UNDERRUN p) = 0 ∧ u.get (F.SAPp_SLIP_REPAIRS p) = 0)
      ∧ KeepsStore s u)
  ∧ (∀ (m p v : Nat) (s : State), p < 16 → Admitted (regWr m (A.SAPp_CFG p)) s → s.get (F.SAPp_CFG_EN p) = 1 →
    ∃ u, exec (.sapDisable m p v) s = .next u ∧ Answers m u ∧ u.get (F.SAPp_CFG_EN p) = 0 ∧ KeepsStore s u
      ∧ (if (s.sapS p).frame = none ∨ s.sapState p = saLOCLK then u.sapState p = saOFF ∧ u.sapS p = {}
         else u.sapState p = s.sapState p ∧ u.sapS p = { s.sapS p with closing := true, txw := [], under := [] }))
  ∧ (∀ (p t d : Nat) (ok : Bool) (s : State), p < 16 → s.alive = true → s.sapState p ≠ saOFF → s.fcu.pinsHold = false →
      (s.sapForeign p = false → s.modeGap = false) → (s.sapForeign p = true → s.sapMaster p = false) →
      (s.sapS p).frame = none → (s.sapS p).req = some d →
      (s.sapMaster p = true → s.breathing = true ∧ (s.sapFixedOfs p : Int) ≤ (s.atTime t).since s.n
        ∧ 0 ≤ sx 72 (ux 72 ((s.breathAt s.n : Int) + s.sapFixedOfs p - d))) →
    ∃ u, exec (.sapFrameStart p ok t) s = .next u ∧ (u.sapS p).frame = some 0 ∧ u.get (F.SAPp_FRAME_FRAME p) = 0
      ∧ (u.sapS p).rx = s.get (F.SAPp_RXMASK_MASK p) ∧ (u.sapS p).tx = s.get (F.SAPp_TXMASK_MASK p)
      ∧ u.sapState p = (if s.sapMaster p then saRUN else saALIGNING)
      ∧ ((s.sapS p).rxNext.isSome = true ∨ (s.sapS p).txNext.isSome = true → u.get (F.SAPp_EPOCH_FRAME_FRAME p) = 0)
      ∧ KeepsFields [F.SAPp_FRAME_FRAME p, F.SAPp_STAT_STATE p, F.SAPp_EPOCH_FRAME_FRAME p, F.SAPp_EPOCH_BREATH_BREATH p] s u
      ∧ KeepsStore s u)
  ∧ (∀ (p t f : Nat) (ok : Bool) (s : State), p < 16 → s.alive = true → s.sapState p ≠ saOFF → s.fcu.pinsHold = false →
      (s.sapForeign p = false → s.modeGap = false) →
      (s.sapS p).frame = some f →
      (s.sapMaster p = true → ∀ m, (s.sapS p).map = some m → (s.sapS p).ofs ≤ (s.atTime t).since (m + (f + 1 : Nat)).toNat) →
    ∃ u, exec (.sapFrameStart p ok t) s = .next u
      ∧ (if (s.sapS p).closing then u.get (F.SAPp_CFG_EN p) = 0 ∧ u.sapState p = saOFF ∧ u.sapS p = {}
         else (u.sapS p).frame = some (f + 1) ∧ (u.sapS p).fsAt = max s.now t
           ∧ u.get (F.SAPp_FRAME_FRAME p) = (s.get (F.SAPp_FRAME_FRAME p) + 1) % 2 ^ 32
           ∧ (u.sapS p).good = (if ok then (s.sapS p).good + 1 else 0)))
  ∧ (∀ (p sl w t f : Nat) (m : Int) (ok : Bool) (s : State), p < 16 → s.alive = true → s.sapState p = saRUN → sl < s.sapSlots p →
      s.sapForeign p = false → s.slotFrame p sl = some f → (s.sapS p).map = some m →
    ∃ u, exec (.slotReceive p sl ⟨w, ok⟩ t) s = .next u
      ∧ (let b := (m + f).toNat
         let e := mget {} sl (s.sapS p).slots
         if ok = false then KeepsAll s u
           ∧ u.sapS p = { s.sapS p with lone := if (s.sapS p).lone.contains b then (s.sapS p).lone else b :: (s.sapS p).lone }
         else if s.n + 2 < b ∨ (b < e.doneB ∧ ¬ (e.doneB = b + 1 ∧ ssMissing e.st = true)) then
           u.sapState p = saUNALIGNED ∧ u.get (F.SAPp_CNT0_OVERRUN p) = min (s.get (F.SAPp_CNT0_OVERRUN p) + 1) 65535 % 2 ^ 16
             ∧ KeepsFields [F.SAPp_STAT_STATE p, F.SAPp_CNT0_OVERRUN p] s u ∧ KeepsStore s u
         else if e.doneB = b + 1 ∧ ssMissing e.st = true then KeepsAll s u ∧ u.sapS p = s.sapS p
         else (mget {} sl (u.sapS p).slots).doneB = b + 1 ∧ u.sapState p = saRUN))
  ∧ (∀ (p sl w t : Nat) (ok : Bool) (s : State), p < 16 → s.alive = true → s.sapState p = saRUN → sl < s.sapSlots p → s.sapForeign p = true →
    ∃ u, exec (.slotReceive p sl ⟨w, ok⟩ t) s = .next u
      ∧ Leaves (if ok ∧ bitOf (s.sapS p).rx sl then asrcFeed (sapEnd p sl) none (s.slotValue p w) (s.atTime t) else s.atTime t) u)
  ∧ (∀ (p sl b t : Nat) (s : State), p < 16 → s.alive = true → saRUN ≤ s.sapState p → s.sapForeign p = false → (s.sapS p).map.isSome = true →
      s.breathing = true → sl < s.sapSlots p → b ≤ s.n → (mget {} sl (s.sapS p).slots).doneB ≤ b → (s.atTime t).slotDue p sl b = true →
    ∃ u, exec (.slotMissing p sl b t) s = .next u ∧ (mget {} sl (u.sapS p).slots).doneB = b + 1
      ∧ (if s.sapState p = saRUN ∧ bitOf (s.sapS p).rx sl = true ∧ (s.sapS p).lone.contains b = false then
          u.sapState p = saUNALIGNED ∧ u.get (F.SAPp_CNT0_UNDERRUN p) = min (s.get (F.SAPp_CNT0_UNDERRUN p) + 1) 65535 % 2 ^ 16
         else u.sapState p = s.sapState p ∧ u.get (F.SAPp_CNT0_UNDERRUN p) = s.get (F.SAPp_CNT0_UNDERRUN p)))
  ∧ (∀ (p sl t f : Nat) (m : Int) (s : State), p < 16 → s.alive = true → (s.sapState p = saRUN ∨ s.sapState p = saUNALIGNED) →
      s.sapMute = false → sl < s.sapSlots p → bitOf (s.sapS p).tx sl = true → (s.sapS p).under.contains sl = false →
      (s.sapS p).map = some m → (s.sapS p).frame = some f →
      (s.sapS p).ofs + s.slotMsb p sl - 40 * 256 ≤ (s.atTime t).since (m + f).toNat →
      (s.outWord (sapOut p sl) ((m + f).toNat - s.get (F.SAPp_MAP_TXLAG p))).2 = false →
    ∃ u, exec (.outputUnderrun p sl t) s = .next u ∧ (u.sapS p).under = sl :: (s.sapS p).under
      ∧ u.get (F.SAPp_CNT1_TXUNDER p) = min (s.get (F.SAPp_CNT1_TXUNDER p) + 1) 65535 % 2 ^ 16
      ∧ KeepsFields [F.SAPp_CNT1_TXUNDER p] s u ∧ KeepsStore s u)
  ∧ (∀ (p t f : Nat) (ok : Bool) (s : State), p < 16 → s.alive = true → (s.sapS p).frame = some f → f % s.sapBlock p = 0 →
      (s.sapS p).stamped = false →
    ∃ u, exec (.blockStamp p ok t) s = .next u ∧ KeepsStore s u
      ∧ u.get (F.SAPp_BLK_TS_LO_NS p) = (s.sapS p).stamp / 256 % 2 ^ 32
      ∧ (s.sapState p = saLOCLK → (s.sapS p).back = false →
          u.sapState p = saLOCLK ∧ KeepsFields [F.SAPp_BLK_TS_LO_NS p, F.SAPp_BLK_TS_HI_NS p] s u)
      ∧ (s.sapMaster p = true → s.sapState p ≠ saLOCLK → u.sapState p = s.sapState p
          ∧ KeepsFields [F.SAPp_BLK_TS_LO_NS p, F.SAPp_BLK_TS_HI_NS p, F.SAPp_PHASE_PHASE p] s u)
      ∧ (s.sapMaster p = false → s.sapForeign p = true → s.sapState p ≠ saLOCLK ∨ (s.sapS p).back = true →
          u.sapState p = saRUN ∧ KeepsFields [F.SAPp_STAT_STATE p, F.SAPp_BLK_TS_LO_NS p, F.SAPp_BLK_TS_HI_NS p] s u)
      ∧ (s.sapMaster p = false → s.sapForeign p = false → s.sapState p = saALIGNING → ok = true →
          u.sapState p = saRUN ∧ (u.sapS p).map.isSome = true)
      ∧ (s.sapMaster p = false → s.sapForeign p = false → s.sapState p = saALIGNING → ok = false →
          u.sapState p = saALIGNING ∧ u.get (F.SAPp_CNT1_BADFRAME p) = min (s.get (F.SAPp_CNT1_BADFRAME p) + 1) 255 % 2 ^ 8)
      ∧ (s.sapMaster p = false → s.sapForeign p = false →
          s.sapState p = saUNALIGNED ∨ (s.sapState p = saLOCLK ∧ (s.sapS p).back = true) →
          u.sapState p = saRUN ∧ (u.sapS p).map.isSome = true ∧ u.get (F.SAPp_STAT_REPAIRED p) = 1
            ∧ u.get (F.SAPp_SLIP_REPAIRS p) = min (s.get (F.SAPp_SLIP_REPAIRS p) + 1) 65535 % 2 ^ 16)
      ∧ (∀ m, s.sapMaster p = false → s.sapForeign p = false → s.sapState p = saRUN → (s.sapS p).map = some m →
          let b := s.unwrap (ux 48 (s.nearestBreath ((s.sapS p).stamp - (s.sapS p).ofs)))
          u.sapState p = (if s.period < 4 * (s.sapPhase p b).natAbs ∨ (b : Int) ≠ m + f then saUNALIGNED else saRUN)))
  ∧ (∀ (p t : Nat) (s : State), p < 16 → s.alive = true → s.sapState p = saLOCLK → 16 ≤ (s.sapS p).good →
    ∃ u, exec (.clockRecovered p t) s = .next u ∧ u.sapState p = saLOCLK ∧ u.sapS p = { s.sapS p with back := true } ∧ KeepsAll s u)
  ∧ (∀ (p t : Nat) (s w : State), p < 16 → s.alive = true →
      (s.sapState p = saALIGNING ∨ s.sapState p = saRUN ∨ s.sapState p = saUNALIGNED) → s.sapMaster p = false →
      ((s.sapS p).fsAt + 512000000000 / max 1 (s.sapHz p) < max s.now t ∨ 2 ≤ (s.sapS p).bad) →
      w = ((((setSapState p saLOCLK ((s.atTime t).setSap p { s.sapS p with good := 0, back := false, txw := [] })).set
        (F.SAPp_STAT_LOCLK_EV p) 1).setBit F.SAP_EVT_LOCLK p true).incSat (F.SAPp_CNT1_LOSSES p)) →
    ∃ u, exec (.lossOfClock p t) s = .next u
      ∧ Leaves (let v := if s.get F.PP_SAPREF_CFG_PORT = p then loseRef 3 (raiseF 72 p w) else raiseF 72 p w
                if (s.sapS p).closing then sapOff p v else v) u
      ∧ w.sapState p = saLOCLK ∧ w.get (F.SAPp_STAT_LOCLK_EV p) = 1
      ∧ w.get (F.SAPp_CNT1_LOSSES p) = min (s.get (F.SAPp_CNT1_LOSSES p) + 1) 255 % 2 ^ 8)
  ∧ (∀ (m p v : Nat) (tx : Bool) (s : State), p < 16 → Admitted (regWr m (if tx then A.SAPp_TXMASK p else A.SAPp_RXMASK p)) s →
      (if s.get (F.SAPp_CFG_EN p) ≠ 0 ∧ s.mode.serCh < s.slotsUsed tx p + s.maskCount p (v % 2 ^ 32) then
        ∃ u, exec (.maskWrite m p tx v) s = .next u ∧ Answers m u ∧ u.get (F.SAPp_STAT_MASKREJ p) = 1
          ∧ KeepsFields [F.SAPp_STAT_MASKREJ p] s u ∧ KeepsStore s u
       else ∃ u, exec (.maskWrite m p tx v) s = .next u ∧ Answers m u
          ∧ u.get (if tx then F.SAPp_TXMASK_MASK p else F.SAPp_RXMASK_MASK p) = v % 2 ^ 32
          ∧ KeepsFields [if tx then F.SAPp_TXMASK_MASK p else F.SAPp_RXMASK_MASK p, F.SAP_STAT_RX_SLOTS, F.SAP_STAT_TX_SLOTS] s u
          ∧ KeepsStore s u))
  ∧ (∀ (p t f v at_ : Nat) (tx : Bool) (s : State), s.alive = true → p < 16 → (s.sapState p ≠ saLOCLK ∨ (s.sapS p).back = true) →
      (s.sapS p).frame = some f → (if tx then (s.sapS p).txNext else (s.sapS p).rxNext) = some (v, at_) → at_ < (s.sapS p).fsAt →
    ∃ u, exec (.maskEpoch p t) s = .next u
      ∧ (if tx then (u.sapS p).tx = v ∧ (u.sapS p).txNext = none else (u.sapS p).rx = v ∧ (u.sapS p).rxNext = none)
      ∧ u.get (F.SAPp_EPOCH_FRAME_FRAME p) = f % 2 ^ 32
      ∧ KeepsFields [F.SAPp_EPOCH_FRAME_FRAME p, F.SAPp_EPOCH_BREATH_BREATH p] s u ∧ KeepsStore s u)
  ∧ (∀ (p rtt t : Nat) (s : State), p < 16 → s.alive = true → s.get (F.SAPp_CABLE_CFG_MEAS_EN p) = 1 → s.get (F.SAPp_CFG_EN p) = 1 →
      s.sapMaster p = true → ((s.sapS p).cableAt = 0 ∨ (s.sapS p).cableAt - 1 + 100 * uMs ≤ max s.now t) →
    ∃ u, exec (.cableMeasure p rtt t) s = .next u ∧ u.get (F.SAPp_CABLE_STAT_RTT p) = rtt % 2 ^ 24
      ∧ u.get (F.SAPp_CABLE_STAT_VALID p) = 1
      ∧ KeepsFields [F.SAPp_CABLE_STAT_RTT p, F.SAPp_CABLE_STAT_VALID p] s u ∧ KeepsStore s u)

/-- Where each command of the bitstream inputs completes, and what it does (R276–R282). -/
def Obligations.BitstreamRowsComplete : Prop :=
  (∀ (m c v : Nat) (s : State), c < 32 → Admitted (regWr m (A.BSIc_CFG c)) s → s.get (F.BSIc_CFG_EN c) = 0 →
    ∃ u, exec (.bsiEnable m c v) s = .next u ∧ Answers m u
      ∧ (let w := s.writeRegPlain (A.BSIc_CFG c) (withBit (v % 2 ^ 32) 31 false)
         if w.fencedInst 16 c then u.get (F.BSIc_CFG_EN c) = 0
         else if w.bsiRateOk c = false then u.get (F.BSIc_STAT_CFGERR c) = 1 ∧ u.get (F.BSIc_CFG_EN c) = 0
         else u.get (F.BSIc_CFG_EN c) = 1 ∧ u.bsiState c = bsARMED ∧ u.get (F.BSIc_STAT_CFGERR c) = 0)
      ∧ KeepsStore s u)
  ∧ (∀ (m c v : Nat) (s : State), c < 32 → Admitted (regWr m (A.BSIc_CFG c)) s → s.get (F.BSIc_CFG_EN c) = 1 →
    ∃ u, exec (.bsiDisable m c v) s = .next u ∧ Answers m u ∧ u.get (F.BSIc_CFG_EN c) = 0 ∧ u.bsiState c = bsOFF ∧ u.bsiS c = {}
      ∧ KeepsStore s u)
  ∧ (∀ (m c v : Nat) (s : State), c < 32 → Admitted (regWr m (A.BSIc_CFG c)) s → s.get (F.BSIc_CFG_EN c) = 1 → bitOf v 31 = true →
    ∃ u, exec (.freezeWrite m c v) s = .next u ∧ Answers m u ∧ u.get (F.BSIc_CFG_FREEZE c) = (bitOf v 26).toNat
      ∧ KeepsFields [F.BSIc_CFG_FREEZE c, F.BSIc_STAT_CFGWR c] s u ∧ KeepsStore s u)
  ∧ (∀ (c t : Nat) (s : State), c < 32 → s.alive = true → s.bsiState c = bsFILL → bsiFill (s.bsiPreset c) ≤ (s.bsiS c).made →
    ∃ u, exec (.bsiFillDone c t) s = .next u ∧ u.bsiState c = bsRAMPIN ∧ u.bsiS c = { s.bsiS c with rampK := 0 }
      ∧ KeepsFields [F.BSIc_STAT_STATE c, F.BSI_STAT_RUNNING] s u ∧ KeepsStore s u)
  ∧ (∀ (c t : Nat) (s : State), c < 32 → s.alive = true → s.bsiState c = bsRAMPIN → 32 ≤ (s.bsiS c).rampK →
    ∃ u, exec (.bsiRampinEnd c t) s = .next u ∧ u.bsiState c = bsRUN
      ∧ KeepsFields [F.BSIc_STAT_STATE c, F.BSI_STAT_RUNNING] s u ∧ KeepsStore s u)
  ∧ (∀ (c t d : Nat) (ones : List Bool) (s : State), s.alive = true → c < 32 → bsFILL ≤ s.bsiState c → s.breathing = true →
      (s.bsiS c).start = some d → 0 ≤ sx 72 (ux 72 ((s.breathAt s.n : Int) - d)) → (s.atTime t).reached s.n 120 = true →
      (s.tap (bsiTap c)).at_ ≤ s.n →
    ∃ u, exec (.bsiCommit c ones t) s = .next u ∧ (u.tap (bsiTap c)).at_ = s.n + 1
      ∧ (u.tap (bsiTap c)).prev = (s.tap (bsiTap c)).cur ∧ u.bsiState c = s.bsiState c
      ∧ (s.bsiState c = bsFILL → (u.tap (bsiTap c)).cur = 0)
      ∧ (s.bsiState c = bsRAMPIN → (u.bsiS c).rampK = (s.bsiS c).rampK + 1)
      ∧ (s.bsiState c = bsRUN → (u.tap (bsiTap c)).cur = (u.bsiS c).out))
  ∧ (∀ (c ones total t : Nat) (s w : State), c < 32 → s.alive = true → bsFILL ≤ s.bsiState c → total * 1000 = s.bsiHz c →
      ones * 100 < 5 * total ∨ 95 * total < ones * 100 → w = ((s.atTime t).set (F.BSIc_STAT_OVLD c) 1).setBit F.BSI_EVT_OVLD c true →
    ∃ u, exec (.bsiOverload c ones total t) s = .next u ∧ Leaves (raiseF 74 c w) u ∧ w.get (F.BSIc_STAT_OVLD c) = 1
      ∧ w.bit F.BSI_EVT_OVLD c = true ∧ KeepsFields [F.BSIc_STAT_OVLD c, F.BSI_EVT_OVLD] s w)

/-- Where each command of device time completes, and what it does: rate, steps, epochs, snapshots, triggers, pulses, captures and
stamp queues (R243–R256). -/
def Obligations.TimeRowsComplete : Prop :=
  (∀ (m v : Nat) (s : State), Admitted (regWr m A.TIME_RATE) s →
    ∃ u, exec (.rateWrite m v) s = .next u ∧ Answers m u ∧ u.dev = s.dev
      ∧ (if s.get F.PP_CTRL_STEER = 0 then u.get F.TIME_RATE_RATE = v % 2 ^ 32 ∧ KeepsFields [F.TIME_RATE_RATE] s u
         else u.get F.TIME_STAT_RATEREJ = 1 ∧ KeepsFields [F.TIME_STAT_RATEREJ] s u) ∧ KeepsStore s u)
  ∧ (∀ (t : Nat) (s : State), s.alive = true → s.time.e / 2 ^ 40 < (s.atTime t).raw / 2 ^ 40 →
    ∃ u, exec (.rateFold t) s = .next u ∧ u.dev = (s.atTime t).dev ∧ u.time.e = (s.atTime t).raw
      ∧ u.get F.TIME_RATE_RATE = s.get F.TIME_RATE_RATE % 2 ^ 32 ∧ KeepsFields [F.TIME_RATE_RATE] s u ∧ KeepsStore s u)
  ∧ (∀ (m v : Nat) (s : State), Admitted (regWr m A.TIME_OFFSET_HI) s →
      (s.get F.TIME_STAT_ARMED = 0 →
        ∃ u, exec (.offsetStep m v) s = .next u ∧ Answers m u ∧ u.get F.TIME_STAT_STEPREJ = 1 ∧ u.time = s.time
          ∧ KeepsFields [F.TIME_STAT_STEPREJ] s u ∧ KeepsStore s u)
      ∧ (∀ d, s.get F.TIME_STAT_ARMED = 1 → d = sx 64 (v % 2 ^ 32 * 2 ^ 32 + s.get F.TIME_OFFSET_LO_DELTA_LO) →
        ∃ u, exec (.offsetStep m v) s = .next u ∧ Answers m u ∧ u.get F.TIME_STAT_ARMED = 0 ∧ u.get F.TIME_STAT_STEPPED = 1
          ∧ u.time.c = s.time.c + d * 2 ^ 40
          ∧ (s.breathing = true → u.anchor = ux 72 (s.anchor + d) ∧ u.get F.DISP_STAT_STEPPED = 1)))
  ∧ (∀ (m v : Nat) (s : State), Admitted (regWr m A.TIME_SERVO) s → Keyed v →
    ∃ u, exec (.servoReset m v) s = .next u ∧ Answers m u ∧ u.get F.TIME_STAT_ARMED = 1
      ∧ u.get F.TIME_STAT_EPOCH = (s.get F.TIME_STAT_EPOCH + 1) % 2 ^ 8
      ∧ KeepsFields [F.TIME_STAT_ARMED, F.TIME_STAT_EPOCH] s u ∧ KeepsStore s u)
  ∧ (∀ (m v : Nat) (s : State), Admitted (regWr m A.TIME_SNAP) s → bitOf v 0 = true →
    ∃ u, exec (.snapshot m v) s = .next u ∧ Answers m u
      ∧ u.get F.TIME_SNAP_NS_HI_NS * 2 ^ 32 + u.get F.TIME_SNAP_NS_LO_NS = s.devNs % 2 ^ 64
      ∧ u.get F.TIME_SNAP_SEC_HI_SEC_HI * 2 ^ 32 + u.get F.TIME_SNAP_SEC_LO_SEC_LO = s.devNs % 2 ^ 64 / 1000000000
      ∧ KeepsFields [F.TIME_SNAP_NS_HI_NS, F.TIME_SNAP_NS_LO_NS, F.TIME_SNAP_SEC_HI_SEC_HI, F.TIME_SNAP_SEC_LO_SEC_LO] s u
      ∧ KeepsStore s u)
  ∧ (∀ (m k v : Nat) (s w : State), k < 8 → Admitted (regWr m (A.TRIG_CFG k)) s → s.get (F.TRIG_CFG_EN k) = 0 →
      w = s.writeRegPlain (A.TRIG_CFG k) (withBit (v % 2 ^ 32) 31 false) →
    ∃ u, exec (.triggerEnable m k v) s = .next u ∧ Answers m u
      ∧ (w.trigBad k = true → u.get (F.TRIG_STAT_BADCFG k) = 1 ∧ u.get (F.TRIG_CFG_EN k) = 0)
      ∧ (w.trigBad k = false → s.fcuState ≠ 2 →
          (w.get (F.TRIG_CFG_MODE k) = 0 → s.trigAt k * 256 < s.dev →
            u.get (F.TRIG_STAT_LATE k) = 1 ∧ u.get (F.TRIG_CFG_EN k) = 0
            ∧ u.get (F.TRIG_STAT_FIRES k) = (s.get (F.TRIG_STAT_FIRES k) + 1) % 2 ^ 16)
          ∧ (w.get (F.TRIG_CFG_MODE k) = 0 → s.dev ≤ s.trigAt k * 256 → (u.trigS k).next = s.trigAt k)
          ∧ (¬ (w.get (F.TRIG_CFG_MODE k) = 0 ∧ s.trigAt k * 256 < s.dev) →
              u.get (F.TRIG_CFG_EN k) = 1 ∧ u.get (F.TRIG_STAT_ARMED k) = 1 ∧ KeepsStore s u)))
  ∧ (∀ (k t : Nat) (s : State), s.alive = true → k < 8 → s.get (F.TRIG_CFG_EN k) = 1 →
      (s.get (F.TRIG_CFG_MODE k) < 2 ∧ (s.trigS k).next * 256 ≤ (s.atTime t).dev
        ∨ s.get (F.TRIG_CFG_MODE k) = 2 ∧ s.breathing = true ∧ (s.trigS k).judged ≤ s.n ∧ bidx s.n = (s.trigS k).next) →
    ∃ u, exec (.triggerFire k t) s = .next u ∧ u.get (F.TRIG_FIRED_LO_NS k) = (s.atTime t).devNs % 2 ^ 32
      ∧ u.get (F.TRIG_STAT_FIRES k) = (s.get (F.TRIG_STAT_FIRES k) + 1) % 2 ^ 16
      ∧ (s.get (F.TRIG_CFG_MODE k) = 0 → u.get (F.TRIG_CFG_EN k) = 0 ∧ u.get (F.TRIG_STAT_ARMED k) = 0)
      ∧ (s.get (F.TRIG_CFG_MODE k) = 1 → u.get (F.TRIG_CFG_EN k) = 1 ∧ (u.trigS k).next = (s.trigS k).next + s.trigPeriod k)
      ∧ (s.get (F.TRIG_CFG_MODE k) = 2 → s.get (F.TRIG_PERIOD_PERIOD k) = 0 → u.get (F.TRIG_CFG_EN k) = 0))
  ∧ (∀ (o t e : Nat) (s : State), s.alive = true → (mget {} o s.time.ttrig).until_ = some e →
      sx 72 (ux 72 ((e : Int) - (s.atTime t).dev)) ≤ 0 →
    ∃ u, exec (.pulseEnd o t) s = .next u ∧ mget {} o u.time.ttrig = {} ∧ KeepsAll s u)
  ∧ (∀ (c t : Nat) (rising : Bool) (s : State), s.alive = true → c < 4 → s.get (F.CAP_CFG_EN c) = 1 →
      (s.get (F.CAP_CFG_SRC c) = 2 ∨ s.get (F.CAP_CFG_SRC c) = (if rising then 0 else 1)) →
    ∃ u, exec (.capture c rising t) s = .next u
      ∧ (let q := mget [] c s.time.caps
         if 4 ≤ q.length then u.get (F.CAP_STAT_OVF c) = 1 ∧ u.time = s.time ∧ KeepsFields [F.CAP_STAT_OVF c] s u
         else mget [] c u.time.caps = q ++ [⟨(s.atTime t).devNs, (s.atTime t).devFrac⟩] ∧ u.get (F.CAP_STAT_COUNT c) = q.length + 1
           ∧ KeepsFields [F.CAP_STAT_COUNT c, F.TIME_EVT_CAP] s u) ∧ KeepsStore s u)
  ∧ (∀ (m c : Nat) (s : State), c < 8 → Admitted (regRd m (A.CAP_TS_LO c)) s →
    ∃ u, exec (.captureRead m c) s = .next u
      ∧ (match mget [] c s.time.caps with
         | [] => u.bus = ⟨m, 0, false, false⟩ ∧ u.get (F.CAP_STAT_VALID c) = 0
         | st :: r => u.bus = ⟨m, st.ns % 2 ^ 32, false, false⟩ ∧ u.get (F.CAP_STAT_VALID c) = 1
             ∧ u.get (F.CAP_TS_HI_NS_HI c) = st.ns / 2 ^ 32 % 2 ^ 32 ∧ u.get (F.CAP_STAT_FRAC c) = st.frac % 2 ^ 8
             ∧ mget [] c u.time.caps = r)
      ∧ KeepsFields [F.CAP_STAT_COUNT c, F.CAP_STAT_VALID c, F.CAP_STAT_FRAC c, F.CAP_TS_HI_NS_HI c] s u ∧ KeepsStore s u)
  ∧ (∀ (m p : Nat) (s : State), p < 5 → Admitted (regRd m (A.TXTS_TS p)) s →
    ∃ u, exec (.txtsRead m p) s = .next u
      ∧ (match mget [] p s.time.txts with
         | [] => u.bus = ⟨m, 0, false, false⟩ ∧ u.get (F.TXTS_TAG_VALID p) = 0
         | e :: r => u.bus = ⟨m, e.ts % 2 ^ 32, false, false⟩ ∧ u.get (F.TXTS_TAG_VALID p) = 1
             ∧ u.get (F.TXTS_TAG_TAG p) = e.tag % 2 ^ 16 ∧ mget [] p u.time.txts = r)
      ∧ KeepsFields [F.TXTS_STAT_COUNT p, F.TXTS_TAG_VALID p, F.TXTS_TAG_TAG p] s u ∧ KeepsStore s u)

/-- Where each command of the Pitch Pipe completes, and what it does: samples, qualification, selection, switching, states,
holdover, phase steps and clock outputs (R224–R238). -/
def Obligations.PitchPipeRowsComplete : Prop :=
  (∀ (m n v : Nat) (s : State), n < 2 → Admitted (regWr m (A.PP_PTP_ERR n)) s →
    ∃ u, exec (.ptpSample m n v) s = .next u ∧ Answers m u ∧ u.get (F.PP_REF_PHASE_E n) = v % 2 ^ 32
      ∧ (u.ref n).act = true ∧ (u.ref n).last = s.now
      ∧ (s.ppActive ≠ n → s.pp.slewing = false → KeepsFields [F.PP_REF_PHASE_E n] s u) ∧ KeepsStore s u)
  ∧ (∀ (r t : Nat) (edges : List (Nat × Bool)) (xs : List Nat) (s : State), s.alive = true → 2 ≤ r → r < 5 →
      xs = (edges.filter (fun e => r != 2 || e.2 != s.on F.PP_WCLK_CFG_EDGE)).map (·.1) → xs ≠ [] →
    ∃ u, exec (.refSample r edges t) s = .next u
      ∧ u.get (F.PP_REF_PHASE_E r) = ux 32 (roundAway (xs.foldl (fun a x => a + (s.atTime t).edgeErr (s.refHz r) x) 0)
          (s.refHz r * xs.length))
      ∧ (u.ref r).act = true ∧ (u.ref r).last = max s.now t
      ∧ (s.ppActive ≠ r → s.pp.slewing = false → KeepsFields [F.PP_REF_PHASE_E r] s u) ∧ KeepsStore s u)
  ∧ (∀ (t : Nat) (s : State), s.alive = true → s.pp.freqAt + uS ≤ max s.now t →
    ∃ u, exec (.frequencyEstimate t) s = .next u ∧ u.pp.freqAt = max s.now t
      ∧ (∀ r < 5, match slopes (if r < 2 then 0 else s.refHz r) (s.ref r).pts with
          | [] => u.get (F.PP_REF_FREQ_F r) = s.get (F.PP_REF_FREQ_F r)
          | d :: ds => ∃ x, ds.foldl min d ≤ x ∧ x ≤ ds.foldl max d ∧ u.get (F.PP_REF_FREQ_F r) = ux 32 (satS 32 x))
      ∧ KeepsStore s u)
  ∧ (∀ (r t : Nat) (s : State), s.alive = true → r < 5 → s.refValid r = false → (s.atTime t).refActive r = true →
      (s.ref r).bad = 0 → (s.ref r).ok ≠ 0 → (s.ref r).ok - 1 + max 100 (s.get F.PP_QUAL_QUAL_MS) * uMs ≤ max s.now t →
    ∃ u, exec (.refQualified r t) s = .next u ∧ u.refValid r = true ∧ (u.ref r).since = max s.now t)
  ∧ (∀ (r t : Nat) (lost : Bool) (s : State), s.alive = true → r < 5 →
      ((lost = true ∧ 2 ≤ r) ∨ (s.atTime t).refActive r = false ∨ ((s.ref r).bad ≠ 0 ∧ (s.ref r).bad - 1 + 100 * uMs ≤ max s.now t)) →
    ∃ u, exec (.refInvalid r lost t) s = .next u ∧ u.refValid r = false ∧ (u.ref r).act = false ∧ (u.ref r).ok = 0
      ∧ (s.refValid r = true → u.bit F.PP_REFSTAT_LOS r = true ∧ u.get F.PP_EVT_REFLOSS = 1 ∧ (s.ppActive = r → u.ppActive ≠ r)))
  ∧ (∀ (m v : Nat) (s : State), Admitted (regWr m A.PP_CTRL) s →
      (∃ u, exec (.selWrite m v) s = .next u ∧ Answers m u ∧ u.get F.PP_CTRL_SEL = v % 8 ∧ u.get F.PP_CTRL_STEER = (bitOf v 10).toNat
        ∧ (s.ppState = ppSWITCHING → u.ppState = ppSWITCHING ∧ u.pp.selPend = true)
        ∧ (s.ppState ≠ ppSWITCHING → v % 8 < 5 → s.refValid (v % 8) = true → v % 8 ≠ s.ppActive →
            u.ppState = ppSWITCHING ∧ u.ppActive = v % 8))
      ∧ ∃ u, exec (.steerEnable m v) s = .next u ∧ Answers m u ∧ u.get F.PP_CTRL_STEER = (bitOf v 10).toNat
        ∧ (s.get F.PP_CTRL_STEER = 0 → bitOf v 10 = true → s.ppState = ppFREERUN → s.fcuState ≠ 2 →
            (5 ≤ v % 8 ∨ s.refValid (v % 8) = false) →
            u.get F.TIME_RATE_RATE = s.get F.PP_FREERUN_RATE_RATE % 2 ^ 32))
  ∧ (∀ (m v : Nat) (s : State), Admitted (regWr m A.PP_FREERUN_RATE) s →
    ∃ u, exec (.freerunRateWrite m v) s = .next u ∧ Answers m u ∧ u.get F.PP_FREERUN_RATE_RATE = v % 2 ^ 32 ∧ u.dev = s.dev
      ∧ (if s.ppState = ppFREERUN ∧ s.get F.PP_CTRL_STEER = 1 ∧ s.fcuState ≠ 2 then u.get F.TIME_RATE_RATE = v % 2 ^ 32
         else s.get F.PP_CTRL_STEER ≤ 1 → u.get F.TIME_RATE_RATE = s.get F.TIME_RATE_RATE)
      ∧ KeepsFields [F.PP_FREERUN_RATE_RATE, F.TIME_RATE_RATE] s u ∧ KeepsStore s u)
  ∧ (∀ (t : Nat) (s : State), s.alive = true → s.ppState = ppSWITCHING → s.ppActive < 5 →
      s.pp.avg.length = switchSamples s.ppActive →
    ∃ u, exec (.switchComplete t) s = .next u ∧ u.get F.PP_SWCOUNT_COUNT = (s.get F.PP_SWCOUNT_COUNT + 1) % 2 ^ 32
      ∧ u.get F.PP_EVT_SWITCH = 1
      ∧ (s.pp.held = none → s.pp.selPend = false →
          u.ppState = (if s.pp.wasLocked then ppLOCKED else ppACQUIRING) ∧ u.ppActive = s.ppActive
          ∧ u.get (F.PP_BUILDOUT_B s.ppActive) = ux 32 (roundAway (s.pp.avg.foldl (· + ·) 0) (switchSamples s.ppActive) - s.pp.u0)))
  ∧ (∀ (t : Nat) (s : State), s.alive = true → s.ppState = ppACQUIRING → s.pp.below ≠ 0 →
      s.pp.below - 1 + s.get F.PP_LOCK_LOCK_MS * uMs ≤ max s.now t →
    ∃ u, exec (.lockAchieved t) s = .next u ∧ u.ppState = ppLOCKED ∧ u.get F.PP_EVT_STATE = 1)
  ∧ (∀ (t : Nat) (s : State), s.alive = true → s.ppState = ppLOCKED → s.pp.above ≠ 0 → s.pp.above - 1 + 100 * uMs ≤ max s.now t →
    ∃ u, exec (.lockLoss t) s = .next u ∧ u.ppState = ppACQUIRING ∧ u.get F.PP_STAT_LOCKLOSS = 1 ∧ u.get F.PP_EVT_STATE = 1)
  ∧ (∀ (r t : Nat) (s : State), s.alive = true → s.reverts.find? (s.atTime t).heldOff = some r →
    ∃ u, exec (.reversion t) s = .next u ∧ u.ppState = ppSWITCHING ∧ u.ppActive = r ∧ u.get F.PP_EVT_STATE = 1)
  ∧ (∀ (t : Nat) (s : State), s.alive = true → s.ppState = ppLOCKED → uS ≤ (s.atTime t).lockedFor →
    ∃ u, exec (.holdRateUpdate t) s = .next u
      ∧ u.get F.PP_HOLD_RATE_RATE = (if s.pp.rateN = 0 then s.get F.PP_HOLD_RATE_RATE % 2 ^ 32
          else ux 32 (s.holdRate + (s.pp.rateSum - s.holdRate * s.pp.rateN) / (300 * s.pp.rateN : Nat)))
      ∧ u.get F.PP_HOLD_AGE_SECONDS = min (s.get F.PP_HOLD_AGE_SECONDS + 1) (2 ^ 32 - 1)
      ∧ (59 ≤ s.get F.PP_HOLD_AGE_SECONDS → u.get F.PP_STAT_HISTVALID = 1)
      ∧ KeepsFields [F.PP_HOLD_RATE_RATE, F.PP_HOLD_AGE_SECONDS, F.PP_STAT_HISTVALID] s u ∧ KeepsStore s u)
  ∧ (∀ (m v : Nat) (s : State), Admitted (regWr m A.PP_PSTEP_CMD) s → Keyed v →
      (s.ppActive = 5 →
        (∃ u, exec (.phaseStepSlew m v) s = .next u ∧ Answers m u ∧ u.get F.PP_PSTEP_STAT_RESULT = 2
          ∧ KeepsFields [F.PP_PSTEP_STAT_RESULT] s u ∧ KeepsStore s u)
        ∧ ∃ u, exec (.phaseStepImmediate m v) s = .next u ∧ Answers m u ∧ u.get F.PP_PSTEP_STAT_RESULT = 2
          ∧ KeepsFields [F.PP_PSTEP_STAT_RESULT] s u ∧ KeepsStore s u)
      ∧ (s.ppActive < 5 → s.pp.held = none → s.ppState ≠ ppSWITCHING →
        (∃ u, exec (.phaseStepSlew m v) s = .next u ∧ Answers m u ∧ u.get F.PP_PSTEP_STAT_BUSY = 1 ∧ u.pp.slewing = true
          ∧ u.get F.PP_PSTEP_REMAIN_REMAIN
            = ux 32 (sx 32 ((slewTick s).get F.PP_PSTEP_REMAIN_REMAIN) + sx 32 (s.get F.PP_PSTEP_DELTA)) ∧ KeepsStore s u)
        ∧ (s.get F.TIME_STAT_ARMED = 0 →
          ∃ u, exec (.phaseStepImmediate m v) s = .next u ∧ Answers m u ∧ u.get F.PP_PSTEP_STAT_RESULT = 3
            ∧ KeepsFields [F.PP_PSTEP_STAT_RESULT] s u ∧ KeepsStore s u)
        ∧ (s.get F.TIME_STAT_ARMED = 1 →
          ∃ u, exec (.phaseStepImmediate m v) s = .next u ∧ Answers m u ∧ u.get F.PP_PSTEP_STAT_RESULT = 1
            ∧ u.get F.PP_EVT_PSTEP = 1 ∧ u.get F.TIME_STAT_ARMED = 0
            ∧ u.time.c = s.time.c + sx 32 (s.get F.PP_PSTEP_DELTA) * 2 ^ 40
            ∧ u.get (F.PP_BUILDOUT_B s.ppActive) = ux 32 (s.buildout s.ppActive - sx 32 (s.get F.PP_PSTEP_DELTA)))))
  ∧ (∀ (t : Nat) (s : State), s.alive = true → s.pp.slewing = true → (slewTick (s.atTime t)).get F.PP_PSTEP_REMAIN_REMAIN = 0 →
    ∃ u, exec (.slewDone t) s = .next u ∧ u.pp.slewing = false ∧ u.get F.PP_PSTEP_STAT_RESULT = 1 ∧ u.get F.PP_EVT_PSTEP = 1
      ∧ u.get F.PP_PSTEP_STAT_BUSY = s.pp.held.isSome.toNat ∧ KeepsStore s u)
  ∧ (∀ (k t : Nat) (s w : State), s.alive = true → k < 3 → s.clkEn k = true → bitOf s.pp.clkRun k = false → s.breathing = true →
      s.fcuState ≠ 2 → w = s.atTime t → 0 ≤ w.since s.n → w.since s.n < 256 →
    ∃ u, exec (.clockOutputStart k t) s = .next u ∧ bitOf u.pp.clkRun k = true
      ∧ mget 0 k u.pp.clkFrom = w.sinceAnchor (w.dev - w.since s.n) * 49152000 / 256000000000 ∧ KeepsAll s u)

/-- Where each command of a pair completes, and what it does: HELLOs, BREATH frames, digests, roles, yields and commit notes
(R288–R301, R309). -/
def Obligations.TwinRowsComplete : Prop :=
  (∀ (m v : Nat) (s : State), Admitted (regWr m A.TWIN_CTRL) s →
      (s.get F.TWIN_CTRL_EN = 0 → bitOf v 31 = true →
        ∃ u, exec (.pairingEnable m v) s = .next u ∧ Answers m u
          ∧ (if s.fencedGroup 14 then u.get F.TWIN_CTRL_EN = 0 ∧ u.tlink = s.tlink
             else u.get F.TWIN_CTRL_EN = 1 ∧ u.tlink = tlSEEK ∧ u.trole = (if s.breathing then trLEAD else trNONE)) ∧ KeepsStore s u)
      ∧ (s.get F.TWIN_CTRL_EN = 1 → bitOf v 31 = false →
        ∃ u, exec (.pairingDisable m v) s = .next u ∧ Answers m u ∧ u.get F.TWIN_CTRL_EN = 0 ∧ u.tlink = tlOFF
          ∧ (s.tlink ≠ tlOFF → u.trole = trNONE ∧ u.get F.TWIN_QUIET_OWN = 0 ∧ u.rsPhase = rsIDLE) ∧ KeepsStore s u))
  ∧ (∀ (t : Nat) (s : State), s.alive = true → s.tlink ≠ tlOFF → (∀ a, s.twin.helloAt = some a → a + s.helloEvery ≤ max s.now t) →
    ∃ u, exec (.helloSend t) s = .next u ∧ u.twin.helloAt = some (max s.now t) ∧ KeepsAll s u)
  ∧ (∀ (f : RxFrame) (q : List RxFrame) (t : Nat) (s : State), Hears 0x20 f q s →
      (s.incompat f ≠ 0 →
        ∃ u, exec (.hello t) s = .next u ∧ u.get F.TWIN_STAT_INCOMPAT = s.incompat f ∧ u.twin.hellos = 0 ∧ u.net.twinq = q
          ∧ KeepsFields [F.TWIN_STAT_INCOMPAT] s u ∧ KeepsStore s u)
      ∧ (s.incompat f = 0 → s.twinPaired = false → s.twin.hellos < 3 →
        ∃ u, exec (.hello t) s = .next u ∧ u.twin.hellos = s.twin.hellos + 1 ∧ u.twin.helloRx = max s.now t ∧ u.net.twinq = q
          ∧ u.get F.TWIN_PSERIAL_HI_SERIAL = twAt f 4 4 % 2 ^ 32 ∧ u.get F.TWIN_PSERIAL_LO_SERIAL = twAt f 8 4 % 2 ^ 32
          ∧ u.tlink = s.tlink ∧ KeepsStore s u)
      ∧ (s.incompat f = 0 → s.twinPaired = true → twByte f 16 ≠ trNONE → twAt f 4 8 = s.partnerSerial →
          (∀ k, (takeHello f (heard q t s)).twin.skew = some k → k.natAbs ≤ 256 * max 1 (s.get F.TWIN_SKEW_MAX_NS)) →
        ∃ u, exec (.hello t) s = .next u ∧ u.twin.helloRx = max s.now t ∧ u.twin.hellos = s.twin.hellos + 1 ∧ u.tlink = tlPAIRED
          ∧ u.get F.TWIN_STAT_ALIGNED = (takeHello f (heard q t s)).alignedNow.toNat ∧ KeepsStore s u)
      ∧ (s.incompat f = 0 → s.twinPaired = false → 3 ≤ s.twin.hellos → (takeHello f (heard q t s)).twin.offset.isSome = true →
        ∃ u, exec (.hello t) s = .next u ∧ u.tlink = tlPAIRED ∧ u.trole = (takeHello f (heard q t s)).roleNow))
  ∧ (∀ (t : Nat) (s : State), s.alive = true → s.tlink ≠ tlOFF → s.breathing = true → s.disp.started = true →
      s.disp.first + 2 ≤ s.n → s.twin.sentB ≤ s.n - 2 → (s.atTime t).reached s.n 100 = true →
    ∃ u, exec (.breathFrameSend t) s = .next u ∧ u.twin.sentB = s.n - 2 + 1
      ∧ u.twin.own = s.ownFrame (s.n - 2) :: s.twin.own.take 15 ∧ KeepsAll s u)
  ∧ (∀ (f : RxFrame) (q : List RxFrame) (t : Nat) (s : State), Hears 0x21 f q s →
    ∃ u, exec (.heartbeat t) s = .next u ∧ u.net.twinq = q
      ∧ (if s.fromPartner f then (u.twin.part.head?.map BFrame.b) = some (s.unwrap (twAt f 12 6))
          ∧ u.get F.TWIN_QUIET_PARTNER = twAt f 20 2 % 2 ^ 16
         else u.twin = s.twin ∧ KeepsFields [] s u) ∧ KeepsStore s u)
  ∧ (∀ (t : Nat) (s : State), s.alive = true → s.twinPaired = true → s.twin.pRun = false → s.twin.helloRx + uMs ≤ max s.now t →
      s.twin.missed + 1 < max 1 (s.get F.TWIN_CTRL_HB_MISS) →
    ∃ u, exec (.heartbeatMiss t) s = .next u ∧ u.twin.missed = s.twin.missed + 1
      ∧ u.get F.TWIN_CNT1_HBMISS = min (s.get F.TWIN_CNT1_HBMISS + 1) 65535
      ∧ KeepsFields [F.TWIN_CNT1_HBMISS] s u ∧ KeepsStore s u)
  ∧ (∀ (t b : Nat) (o p : BFrame) (s : State), s.alive = true → s.twinPaired = true → s.breathing = true → s.disp.first + 3 ≤ s.n →
      b = s.n - 3 → s.twin.cmpB ≤ b → s.twin.own.find? (fun e => e.b == b) = some o → s.twin.part.find? (fun e => e.b == b) = some p →
      s.rsPhase ≠ rsCHECKING → o.quiet &&& p.quiet = 0 →
    ∃ u, exec (.digestCompare t) s = .next u ∧ u.twin.cmpB = b + 1 ∧ u.get F.TWIN_STAT_UNCOVERED = 0
      ∧ (∀ i < 16, bitOf o.dvalid i = true → bitOf p.dvalid i = true →
          u.get (F.TWIN_DIG_OWN_LO_DIGEST i) = o.digs.getD i 0 % 2 ^ 32 ∧ u.get (F.TWIN_DIG_PART_LO_DIGEST i) = p.digs.getD i 0 % 2 ^ 32
          ∧ u.get (F.TWIN_DIG_BREATH_BREATH i) = o.b % 2 ^ 32)
      ∧ KeepsStore s u)
  ∧ (∀ (f : RxFrame) (q : List RxFrame) (t : Nat) (s : State), Hears 0x22 f q s →
    ∃ u, exec (.flatline t) s = .next u ∧ Leaves (if s.fromPartner f then partnerLost (heard q t s) else heard q t s) u)
  ∧ (∀ (t b r : Nat) (s : State), s.alive = true → s.twin.role = some (b, r) → r < 3 → (s.breathing = true → b < s.n) →
    ∃ u, exec (.roleResolve t) s = .next u ∧ u.trole = r ∧ u.twin.role = none ∧ KeepsStore s u)
  ∧ (∀ (m v y : Nat) (s : State), Admitted (regWr m A.TWIN_CMD) s → v / 65536 = 0xA55A → v % 16 = 1 →
      y = s.get F.TWIN_CMD_BREATH_HI_Y_HI * 2 ^ 32 + s.get F.TWIN_CMD_BREATH_LO_Y_LO →
    ∃ u, exec (.yield m v) s = .next u ∧ Answers m u
      ∧ (if s.trole = trFOLLOW then u.get F.TWIN_CMD_STAT_RESULT = 2 ∧ u.twin = s.twin
         else if s.twinPaired = false then u.get F.TWIN_CMD_STAT_RESULT = 3 ∧ u.twin = s.twin
         else if s.get F.TWIN_CMD_STAT_BUSY ≠ 0 then u.get F.TWIN_CMD_STAT_RESULT = 5 ∧ u.twin = s.twin
         else if serBefore 48 y (bidx (s.n + 16)) = true then u.get F.TWIN_CMD_STAT_RESULT = 4 ∧ u.twin = s.twin
         else u.get F.TWIN_CMD_STAT_BUSY = 1 ∧ u.twin.yieldY = some (unwrapFrom (s.n + 16) y) ∧ u.twin.echo = false)
      ∧ KeepsFields [F.TWIN_CMD_STAT_RESULT, F.TWIN_CMD_STAT_BUSY] s u ∧ KeepsStore s u)
  ∧ (∀ (f : RxFrame) (q : List RxFrame) (t : Nat) (s : State), Hears 0x24 f q s → s.fromPartner f = true →
      s.n + 4 < s.unwrap (twAt f 12 6) → (s.trole ≠ trFOLLOW → s.twin.yieldY = some (s.unwrap (twAt f 12 6))) →
    ∃ u, exec (.yieldReceive t) s = .next u ∧ u.twin.yieldY = some (s.unwrap (twAt f 12 6)) ∧ u.twin.echo = true ∧ u.net.twinq = q
      ∧ KeepsAll s u)
  ∧ (∀ (t y : Nat) (s : State), s.alive = true → s.twin.yieldY = some y → (s.breathing = true → y ≤ s.n) →
    ∃ u, exec (.roleSwap t) s = .next u ∧ u.twin.yieldY = none
      ∧ (s.get F.TWIN_CMD_STAT_BUSY = 1 → u.get F.TWIN_CMD_STAT_BUSY = 0
          ∧ (if s.twin.echo && s.twinPaired then u.get F.TWIN_CMD_STAT_RESULT = 1 ∧ u.trole = trFOLLOW
             else u.get F.TWIN_CMD_STAT_RESULT = 4 ∧ u.trole = s.trole))
      ∧ (s.get F.TWIN_CMD_STAT_BUSY = 0 → s.twin.echo = true → s.twinPaired = true → u.trole = trLEAD) ∧ KeepsStore s u)
  ∧ (∀ (f : RxFrame) (q : List RxFrame) (t : Nat) (s : State), Hears 0x23 f q s → s.fromPartner f = true →
    ∃ u, exec (.commitNote t) s = .next u ∧ u.net.twinq = q
      ∧ (⟨twByte f 12 % 16, twByte f 13, twAt f 14 6, (f.bytes.drop (twH f + 20)).take 32⟩ : NoteS) ∈ u.twin.notes
      ∧ KeepsAll s u)

/-- Where each command of a re-seat completes, and what it does (R303–R307). -/
def Obligations.ReseatRowsComplete : Prop :=
  (∀ (f : RxFrame) (q : List RxFrame) (t : Nat) (s : State), Hears 0x25 f q s → s.fromPartner f = true → s.trole = trLEAD →
      (∀ i ∈ secsOf (twAt f 12 2), s.secState i = secRUNNING ∧ bitOf (s.get F.TWIN_QUIET_OWN) i = false) →
      (s.seat (twAt f 12 2) 0).length ≤ seatMax →
    ∃ u, exec (.reseatReq t) s = .next u ∧ u.rsPhase = rsCAPTURE ∧ u.rsSet = twAt f 12 2 % 2 ^ 16 ∧ u.twin.rs.reqB = s.n
      ∧ KeepsFields [F.TWIN_RS_STAT_SET, F.TWIN_RS_STAT_PHASE] s u ∧ KeepsStore s u)
  ∧ (∀ (t : Nat) (s : State), s.alive = true → s.rsPhase = rsCAPTURE → s.twin.rs.ended = true →
    ∃ u, exec (.seatCaptured t) s = .next u ∧ u.rsPhase = rsSENDING ∧ u.twin.rs.sendAt = max s.now t
      ∧ KeepsFields [F.TWIN_RS_STAT_PHASE] s u ∧ KeepsStore s u)
  ∧ (∀ (t : Nat) (s : State), s.alive = true → s.rsPhase = rsSENDING → s.twin.rs.sendAt ≤ max s.now t →
      s.twin.rs.sent ≤ s.get F.TWIN_RS_BYTES_BYTES →
    ∃ u, exec (.reseatDataSend t) s = .next u
      ∧ u.twin.rs.sent = (if s.twin.rs.sent < s.get F.TWIN_RS_BYTES_BYTES
          then s.twin.rs.sent + min 1024 (s.get F.TWIN_RS_BYTES_BYTES - s.twin.rs.sent) else s.get F.TWIN_RS_BYTES_BYTES + 1)
      ∧ KeepsAll s u)
  ∧ (∀ (f : RxFrame) (q : List RxFrame) (t o k : Nat) (s : State), Hears 0x26 f q s → s.fromPartner f = true → s.trole = trFOLLOW →
      (s.rsPhase = rsREQUESTED ∨ s.rsPhase = rsRECEIVING) → s.twin.rs.ended = false → s.twin.rs.waitAt = none →
      o = twAt f 12 4 → k = twAt f 16 2 → 0 < k → k ≤ 1024 → o + k ≤ seatMax →
    ∃ u, exec (.reseatData t) s = .next u ∧ u.rsPhase = rsRECEIVING ∧ u.twin.rs.got = s.twin.rs.got ++ [(o, k)]
      ∧ (∀ x, u.byte x = (s.setBytes (seatBase + o) ((f.bytes.drop (twH f + 20)).take k)).byte x)
      ∧ (∀ x, x < seatBase + o ∨ seatBase + o + k ≤ x → u.byte x = s.byte x)
      ∧ KeepsFields [F.TWIN_RS_STAT_PHASE] s u ∧ u.flash = s.flash ∧ u.pending = s.pending)
  ∧ (∀ (f : RxFrame) (q : List RxFrame) (t : Nat) (s : State), Hears 0x27 f q s → s.fromPartner f = true → s.trole = trFOLLOW →
      (s.rsPhase = rsREQUESTED ∨ s.rsPhase = rsRECEIVING) → s.twin.rs.ended = false → s.twin.rs.waitAt = none →
      (s.seatResult (twAt f 18 4) (twAt f 22 4) = 0 →
        ∃ u, exec (.reseatEnd t) s = .next u ∧ u.rsPhase = rsRECEIVING ∧ u.twin.rs.ended = true
          ∧ u.twin.rs.seatB = s.unwrap (twAt f 12 6) ∧ u.get F.TWIN_RS_BYTES_BYTES = twAt f 18 4 % 2 ^ 32 ∧ KeepsStore s u)
      ∧ (s.seatResult (twAt f 18 4) (twAt f 22 4) ≠ 0 → s.twinPaired = true →
          s.twin.rs.tries + 1 < max 1 (s.get F.TWIN_CTRL_RETRY_MAX) →
        ∃ u, exec (.reseatEnd t) s = .next u ∧ u.rsPhase = rsREQUESTED ∧ u.twin.rs.tries = s.twin.rs.tries + 1
          ∧ u.get F.TWIN_RS_STAT_LASTERR = s.seatResult (twAt f 18 4) (twAt f 22 4) ∧ u.get F.TWIN_EVT_RESEAT_FAIL = 1 ∧ KeepsStore s u))
  ∧ (∀ (f : RxFrame) (q : List RxFrame) (t : Nat) (s : State), Hears 0x28 f q s → s.fromPartner f = true → s.rsPhase = rsSENDING →
    ∃ u, exec (.reseatAck t) s = .next u ∧ u.rsPhase = rsIDLE ∧ KeepsFields [F.TWIN_RS_STAT_PHASE] s u ∧ KeepsStore s u)
  ∧ (∀ (t : Nat) (s : State), s.alive = true → s.rsPhase = rsLOADING →
    ∃ u, exec (.seatLoaded t) s = .next u ∧ u.rsPhase = rsCATCHUP ∧ u.twin.rs.liveB = s.n + 1 ∧ u.twin.rs.next = s.twin.rs.seatB
      ∧ u.get F.TWIN_RS_GAP_BREATHS = min 65535 (s.n + 1 - s.twin.rs.seatB))
  ∧ (∀ (t : Nat) (s : State), s.alive = true → s.rsPhase = rsCHECKING → max 1 (s.get F.TWIN_CTRL_AGREE) ≤ s.twin.rs.agree →
    ∃ u, exec (.reseatComplete t) s = .next u ∧ u.rsPhase = rsIDLE ∧ u.get F.TWIN_EVT_RESEAT_DONE = 1
      ∧ u.get F.TWIN_CNT0_RESEATS = min (s.get F.TWIN_CNT0_RESEATS + 1) 65535 ∧ u.get F.TWIN_RS_STAT_FAILS = 0 ∧ KeepsStore s u)
  ∧ (∀ (t : Nat) (s : State), s.alive = true → (s.rsPhase = rsREQUESTED ∨ s.rsPhase = rsRECEIVING) → s.twin.rs.waitAt = none →
      s.twin.rs.ended = false → s.twin.rs.reqAt + 100 * uMs ≤ max s.now t → s.trole = trFOLLOW → s.twinPaired = true →
      s.twin.rs.tries + 1 < max 1 (s.get F.TWIN_CTRL_RETRY_MAX) →
    ∃ u, exec (.reseatTimeout t) s = .next u ∧ u.rsPhase = rsREQUESTED ∧ u.get F.TWIN_RS_STAT_LASTERR = 6
      ∧ u.get F.TWIN_RS_STAT_FAILS = min (s.get F.TWIN_RS_STAT_FAILS + 1) 15 ∧ u.twin.rs.tries = s.twin.rs.tries + 1
      ∧ u.twin.rs.reqAt = max s.now t ∧ KeepsStore s u)
  ∧ (∀ (t a : Nat) (s : State), s.alive = true → s.twin.rs.waitAt = some a → a + uS ≤ max s.now t →
    ∃ u, exec (.reseatRetryWaitEnd t) s = .next u ∧ u.twin.rs.waitAt = none
      ∧ (if s.rsSet = 0 then u.rsPhase = rsIDLE else u.rsPhase = rsREQUESTED ∧ u.twin.rs.reqAt = max s.now t) ∧ KeepsStore s u)

/-- Where each command of the Host Channel, the slots and the PCIe link completes, and what it does (R362–R373). -/
def Obligations.HostRowsComplete : Prop :=
  (∀ (f : RxFrame) (q : List RxFrame) (es : List Ecc) (t n : Nat) (s w : State), Serves htREQUEST f q s → n = hcSlot f →
      w = ((({ s.atTime t with net := { s.net with hostq := q } }.set (F.SLOTn_RXNEXT_SEQ n) (hcAt f 4 4 + 1)).set
        (F.SLOTn_STAT_SYNCED n) 1).set (F.SLOTn_STAT_LASTPORT n) f.port).setSlot n { s.slotS n with sa := hcSa f } →
      (if (hcAt f 4 4 + 2 ^ 32 - s.get (F.SLOTn_RXNEXT_SEQ n)) % 2 ^ 32 < 2 ^ 31 then
        ∃ u, exec (.request ⟨es, t⟩) s = .next u ∧ w.get (F.SLOTn_RXNEXT_SEQ n) = (hcAt f 4 4 + 1) % 2 ^ 32
          ∧ Leaves (match hostExec n (f.port, hcSa f, hcAt f 4 4) (hcBody f) es w with
              | (some b, x) => hostSend n f.port (hcSa f) htRESPONSE (hostFlags htRESPONSE) (hcAt f 4 4) b x
              | (none, x) => x) u
       else ∃ u, exec (.request ⟨es, t⟩) s = .next u ∧ u.net.hostq = q
          ∧ u.get (F.SLOTn_CNT0_REPLAY n) = min (s.get (F.SLOTn_CNT0_REPLAY n) + 1) 65535
          ∧ KeepsFields [F.SLOTn_CNT0_REPLAY n] s u ∧ KeepsStore s u))
  ∧ (∀ (f : RxFrame) (q : List RxFrame) (t : Nat) (s : State), Serves htSYNC f q s → hcLen f = 16 →
    ∃ u, exec (.sync t) s = .next u ∧ u.get (F.SLOTn_RXNEXT_SEQ (hcSlot f)) = Config.free s.fresh % 2 ^ 32
      ∧ u.get (F.SLOTn_STAT_SYNCED (hcSlot f)) = 0
      ∧ u.get (F.SLOTn_STAT_RESETS (hcSlot f)) = min 255 (s.get (F.SLOTn_STAT_RESETS (hcSlot f)) + 1))
  ∧ (∀ (n t : Nat) (s : State), s.alive = true → n ≤ 5 → s.evtPending n = true → (n < 4 → s.get (F.SLOTn_STAT_SYNCED n) = 1) →
      (∀ x, (s.slotS n).evtAt = some x → x + s.evtRepeat * uMs ≤ max s.now t) → s.hostClosed (slotMaster n) = false →
    ∃ u, exec (.event n t) s = .next u ∧ (u.slotS n).evtAt = some (max s.now t)
      ∧ (n = 4 → s.get F.HOST_STAT_MSIX_EN = 1 → bitOf (s.host.vector.getD 3 0) 0 = false → u.host.msix = s.host.msix + 1)
      ∧ KeepsStore s u)
  ∧ (∀ (m n : Nat) (ack : Bool) (s : State), n < 6 → Admitted (regWrV m (A.SLOTn_TUNE n) (1 + 2 * ack.toNat)) s →
    ∃ u, exec (.slotTune m n ack) s = .next u ∧ Answers m u ∧ u.get (F.SLOTn_TUNE_STAT_BUSY n) = (if s.tuning n then s.get (F.SLOTn_TUNE_STAT_BUSY n) else 1)
      ∧ (if s.tuning n then u.get (F.SLOTn_TUNE_STAT_RESULT n) = 2 else (u.slotS n).snap = s.summary n ∧ (u.slotS n).snapAt = s.now)
      ∧ KeepsStore s u)
  ∧ (∀ (n t : Nat) (s : State), s.alive = true → n < 6 → s.tuning n = true →
    ∃ u, exec (.tuneDone n t) s = .next u ∧ u.get (F.SLOTn_TUNE_STAT_BUSY n) = 0 ∧ u.get (F.SLOTn_TUNE_STAT_VALID n) = 1
      ∧ u.get (F.SLOTn_TUNE_STAT_RESULT n) = 1
      ∧ u.get (F.SLOTn_CNT1_TUNES n) = min (s.get (F.SLOTn_CNT1_TUNES n) + 1) 65535
      ∧ (∀ j < 1024, u.get (F.SLOTn_SUMMARY n j) = leNat (((s.slotS n).snap.drop (4 * j)).take 4) % 2 ^ 32) ∧ KeepsStore s u)
  ∧ (∀ (m n v : Nat) (s : State), n < 6 → Admitted (regWrV m (A.SLOTn_CTRL n) (withBit (v % 2 ^ 32) 30 true)) s →
    ∃ u, exec (.kick m n v) s = .next u ∧ Answers m u ∧ u.get (F.SLOTn_CTRL_EN n) = (bitOf v 31).toNat
      ∧ u.get (F.SLOTn_STAT_RESETS n) = min 255 (s.get (F.SLOTn_STAT_RESETS n) + 1)
      ∧ u.get (F.SLOTn_EVT_EN_EN n) = 0 ∧ u.get (F.SLOTn_TUNE_STAT_BUSY n) = 0 ∧ u.slotS n = {})
  ∧ (∀ (m n : Nat) (s : State), n < 6 →
      (Admitted (regWrV m (A.SLOTn_BELL n) 1) s →
        ∃ u, exec (.bellIn m n) s = .next u ∧ Answers m u ∧ u.bit F.HOST_CC_IRQ_BELL n = true ∧ KeepsFields [F.HOST_CC_IRQ_BELL] s u
          ∧ KeepsStore s u)
      ∧ (Admitted (regWrV m (A.SLOTn_BELL n) 2) s →
        ∃ u, exec (.bellOut m n) s = .next u ∧ Answers m u ∧ u.bit (F.SLOTn_EVT_EVT n) evMBOX = true ∧ KeepsAll s u))
  ∧ (∀ (t : Nat) (down : Bool) (s : State), s.alive = true →
    ∃ u, exec (.pcieReset down t) s = .next u ∧ u.get F.HOST_STAT_MSIX_EN = 0 ∧ u.host.vector = [0, 0, 0, 1] ∧ u.host.pba = false
      ∧ (down = true → u.get F.HOST_STAT_PCIE_UP = 0)
      ∧ (down = false → u.get (F.SLOTn_STAT_RESETS 4) = min 255 (s.get (F.SLOTn_STAT_RESETS 4) + 1)))
  ∧ (∀ (w sp t : Nat) (x : Bool) (s : State), s.alive = true → psREADY ≤ (s.atTime t).domains →
    ∃ u, exec (.pcieLinkUp w sp x t) s = .next u ∧ u.get F.HOST_STAT_PCIE_UP = 1 ∧ u.get F.HOST_STAT_PCIE_WIDTH = w % 4
      ∧ u.get F.HOST_STAT_PCIE_SPEED = sp % 4 ∧ u.get F.HOST_STAT_MSIX_EN = x.toNat
      ∧ KeepsFields [F.HOST_STAT_PCIE_UP, F.HOST_STAT_PCIE_WIDTH, F.HOST_STAT_PCIE_SPEED, F.HOST_STAT_MSIX_EN] s u ∧ KeepsStore s u)

/-- Where each command of the SPI target and of its flash completes, and what it does (R371). -/
def Obligations.SpiRowsComplete : Prop :=
  (∀ (t : Nat) (s : State), s.alive = true →
    ∃ u, exec (.status t) s = .next u ∧ u.host.err = false ∧ u.host.late = false
      ∧ u.host.out = [BitVec.ofNat 8 ((s.tuning 5).toNat + 2 * s.host.err.toNat + 4 * (s.evtPending 5).toNat + 8 * s.host.tuned.toNat
          + 16 * s.recovery.toNat + 32 * s.host.late.toNat)] ∧ KeepsAll s u)
  ∧ (∀ (a n t : Nat) (late : List Nat) (es : List Ecc) (s : State), s.alive = true →
      (∃ u, exec (.spiRead a n ⟨late, es⟩ t) s = .next u ∧ u.host.out.length = 4 * n
        ∧ (n = 1 → late = [] → WordOpen mHS a false 0 (s.atTime t) → u.host.out = (s.bytes a 4).reverse ∧ u.host.err = s.host.err ∧ KeepsAll s u)
        ∧ (n = 1 → late = [0] → u.host.out = [0, 0, 0, 0] ∧ u.host.late = true))
      ∧ ∃ u, exec (.qread a n ⟨late, es⟩ t) s = .next u ∧ u.host.out.length = 4 * n
        ∧ (n = 1 → late = [] → WordOpen mHS a false 0 (s.atTime t) → u.host.out = (s.bytes a 4).reverse ∧ u.host.err = s.host.err ∧ KeepsAll s u)
        ∧ (n = 1 → late = [0] → u.host.out = [0, 0, 0, 0] ∧ u.host.late = true))
  ∧ (∀ (a t : Nat) (ws : List Nat) (s : State), s.alive = true →
      (∃ u, exec (.spiWrite a ws t) s = .next u ∧ u.host.out = []
        ∧ (∀ v, ws = [v] → WordOpen mHS a true (v % 2 ^ 32) (s.atTime t) →
            u.host.err = s.host.err ∧ ∀ x, u.byte x = (s.setBytes a (leBytes 4 (v % 2 ^ 32))).byte x))
      ∧ ∃ u, exec (.qwrite a ws t) s = .next u ∧ u.host.out = []
        ∧ (∀ v, ws = [v] → WordOpen mHS a true (v % 2 ^ 32) (s.atTime t) →
            u.host.err = s.host.err ∧ ∀ x, u.byte x = (s.setBytes a (leBytes 4 (v % 2 ^ 32))).byte x))
  ∧ (∀ (t : Nat) (ack : Bool) (s : State), s.alive = true → s.hostClosed mHS = false →
    ∃ u, exec (.spiTune ack t) s = .next u ∧ u.host.out = []
      ∧ (if s.tuning 5 then u.get (F.SLOTn_TUNE_STAT_RESULT 5) = 2
         else u.get (F.SLOTn_TUNE_STAT_BUSY 5) = 1 ∧ u.host.tuned = false ∧ (u.slotS 5).snapAt = max s.now t) ∧ KeepsStore s u)
  ∧ (∀ (b0 b1 t : Nat) (s : State), s.alive = true →
    ∃ u, exec (.resetSlot b0 b1 t) s = .next u ∧ u.host.out = []
      ∧ (if b0 = 0xA5 ∧ b1 = 0x5A then u.get (F.SLOTn_STAT_RESETS 5) = min 255 (s.get (F.SLOTn_STAT_RESETS 5) + 1) ∧ u.host.tuned = false
         else KeepsAll s u))
  ∧ (∀ (a n t : Nat) (s : State), s.alive = true → s.recovery = true → s.host.flEnd ≤ max s.now t →
    ∃ u, exec (.flashRead a n t) s = .next u ∧ u.host.out = (List.range n).map (fun i => s.fread (a + i)) ∧ KeepsAll s u)
  ∧ (∀ (a e t : Nat) (ok : Bool) (bs : List Byte) (s : State), s.alive = true → s.recovery = true → s.host.flEnd ≤ max s.now t →
      bs ≠ [] → a % 256 + bs.length ≤ 256 → a < flashBytes →
    ∃ u, exec (.flashProgram a bs ok e t) s = .next u ∧ u.host.flEnd = e ∧ u.host.flFail = !ok
      ∧ (ok = true → ∀ i < bs.length, u.fbyte (a + i) = (s.fbyte (a + i) &&& bs.getD i 0))
      ∧ (∀ x, x < a ∨ a + bs.length ≤ x → u.fbyte x = s.fbyte x) ∧ KeepsFields [] s u ∧ u.mem = s.mem ∧ u.pending = s.pending)
  ∧ (∀ (a e t : Nat) (ok : Bool) (s : State), s.alive = true → s.recovery = true → s.host.flEnd ≤ max s.now t → a < flashBytes →
    ∃ u, exec (.flashErase a ok e t) s = .next u ∧ u.host.flEnd = e ∧ u.host.flFail = !ok
      ∧ (ok = true → ∀ x, a / 0x10000 * 0x10000 ≤ x → x < a / 0x10000 * 0x10000 + 0x10000 → u.fbyte x = 0xFF)
      ∧ (∀ x, x < a / 0x10000 * 0x10000 ∨ a / 0x10000 * 0x10000 + 0x10000 ≤ x → u.fbyte x = s.fbyte x)
      ∧ KeepsFields [] s u ∧ u.mem = s.mem ∧ u.pending = s.pending)
  ∧ (∀ (t : Nat) (s : State), s.alive = true → s.recovery = true →
    ∃ u, exec (.flashStatus t) s = .next u
      ∧ u.host.out = [BitVec.ofNat 8 ((decide (max s.now t < s.host.flEnd)).toNat + 2 * s.host.flFail.toNat)] ∧ KeepsAll s u)

/-- A step takes the command at the front of the queue and runs it on the state with the queue's rest. -/
def Obligations.StepRunsFrontCommand : Prop :=
  ∀ (c : Instr) (l : List Instr) (s : State), s.pending = c :: l → step s = exec c { s with pending := l }

/-- The model's choice for an empty queue (log entry 2): nothing is commanded, and one nanosecond passes. -/
def Obligations.IdleStepPassesTime : Prop :=
  ∀ s : State, s.pending = [] → ∃ u, step s = .next u ∧ u.now = s.now + 256 ∧ KeepsAll s u

/-- No command stops the node: each has a next state in every state. -/
def Obligations.EveryCommandCompletes : Prop :=
  ∀ (c : Instr) (s : State), ∃ u, exec c s = .next u

/-- Right after reset every register field reads its reset value, memory and flash list nothing, no command waits, and the node
stands in STANDBY before the 12 V supply is good, taking no commands (R9, R27, R414). That unlisted memory reads 0 and unlisted
flash 0xFF is the model's choice (log entry 1). -/
def Obligations.ResetLeavesResetValues : Prop :=
  State.reset.canonical = true ∧ State.reset.pending = [] ∧ (∀ f : Fd, State.reset.get f = f.rst)
  ∧ (∀ a, 0x40000 ≤ a → State.reset.byte a = 0) ∧ (∀ a, State.reset.fbyte a = 0xFF)
  ∧ State.reset.pstate = psSTANDBY ∧ State.reset.sys.off = false ∧ Dormant State.reset

/-- A well-formed instruction of the reed cores has a 32-bit word, and that word decodes to it with every operand (R73–R78). -/
def Obligations.ReedDecodeOfEncode : Prop :=
  ∀ o : ReedOp, o.wf = true → o.encode < 2 ^ 32 ∧ reedDecode o.encode = some o

/-- A node that nothing waiting can rouse stays so: a step lets time pass, takes its command from the queue and changes nothing
else. Before the 12 V supply is good, without power, in HALT after the clocks stop and with RESET_N low, a node takes no register
writes and no bus or engine events (R27, R322, R379, R414); the reads of DBG that HALT leaves (R323) are not among what waits. -/
def Obligations.DormantNodeHoldsStill : Prop :=
  ∀ s u : State, Dormant s → step s = .next u →
    Dormant u ∧ s.now ≤ u.now ∧ u = { s with now := u.now, pending := s.pending.tail }

/-- Each slot has an inbox and an outbox of sixteen words; BELL.IN sets the slot's bit of HOST_CC_IRQ, and counts once while that
bit is set; BELL.OUT sets the slot's MBOX event (R369). -/
def Obligations.MailboxesAndBells : Prop :=
  ∀ (m n : Nat) (s : State), n < 6 →
    (∀ j v, j < 16 → Admitted (regWrV m (A.SLOTn_INBOX n j) (v % 2 ^ 32)) s →
      ∃ u, exec (.registerWrite m (A.SLOTn_INBOX n j) v) s = .next u ∧ Answers m u ∧ u.get (F.SLOTn_INBOX_DATA n j) = v % 2 ^ 32
        ∧ KeepsFields [F.SLOTn_INBOX_DATA n j] s u ∧ KeepsStore s u)
    ∧ (∀ j v, j < 16 → Admitted (regWrV m (A.SLOTn_OUTBOX n j) (v % 2 ^ 32)) s →
      ∃ u, exec (.registerWrite m (A.SLOTn_OUTBOX n j) v) s = .next u ∧ Answers m u ∧ u.get (F.SLOTn_OUTBOX_DATA n j) = v % 2 ^ 32
        ∧ KeepsFields [F.SLOTn_OUTBOX_DATA n j] s u ∧ KeepsStore s u)
    ∧ (Admitted (regWrV m (A.SLOTn_BELL n) 1) s →
      ∃ u, exec (.bellIn m n) s = .next u ∧ Answers m u ∧ u.bit F.HOST_CC_IRQ_BELL n = true
        ∧ (s.bit F.HOST_CC_IRQ_BELL n = true → u.get F.HOST_CC_IRQ_BELL = s.get F.HOST_CC_IRQ_BELL % 2 ^ 6)
        ∧ KeepsFields [F.HOST_CC_IRQ_BELL] s u ∧ KeepsStore s u)
    ∧ (Admitted (regWrV m (A.SLOTn_BELL n) 2) s →
      ∃ u, exec (.bellOut m n) s = .next u ∧ Answers m u ∧ u.bit (F.SLOTn_EVT_EVT n) evMBOX = true ∧ KeepsAll s u)

/-- Where the summary buffers lie, and who may reach the registers of a slot, among masters that the table grants the access
(R372). -/
def Obligations.SlotRegistersHaveTheirWriters : Prop :=
  ∀ (m n : Nat) (s : State), m < 32 → n < 6 → s.alive = true → s.served m = true → s.hostClosed m = false → s.inReset 21 = false →
    (∀ j, j < 1024 → A.SLOTn_SUMMARY n j = 0x20150000 + 0x2000 + 0x1000 * n + 4 * j
      ∧ (s.aclGrants 21 m (8 + 4 * n + j / 256) false = true →
          mget 0 (A.SLOTn_SUMMARY n j) s.latch = 0 →
          ∃ u, exec (.memoryAccess .fabric m (A.SLOTn_SUMMARY n j) 4 false 0 .clean) s = .next u
            ∧ u.bus = ⟨m, s.get (F.SLOTn_SUMMARY n j), false, false⟩)
      ∧ ∀ v, v < 2 ^ 32 → s.aclGrants 21 m (8 + 4 * n + j / 256) true = true → RefusesWrite m (A.SLOTn_SUMMARY n j) v s)
    ∧ (s.aclGrants 21 m (n + 1) true = true →
      (∀ v, v < 2 ^ 32 → if m ≤ 1 then AcceptsWrite m (A.SLOTn_CTRL n) v s else RefusesWrite m (A.SLOTn_CTRL n) v s)
      ∧ (∀ j v, j < 16 → v < 2 ^ 32 →
          if m ≤ 1 then AcceptsWrite m (A.SLOTn_OUTBOX n j) v s else RefusesWrite m (A.SLOTn_OUTBOX n j) v s)
      ∧ (∀ v, v < 2 ^ 32 → bitOf v 1 = true →
          if m ≤ 1 then AcceptsWrite m (A.SLOTn_BELL n) v s else RefusesWrite m (A.SLOTn_BELL n) v s)
      ∧ (∀ j v, j < 16 → v < 2 ^ 32 →
          if m ≤ 1 ∨ m = slotMaster n then AcceptsWrite m (A.SLOTn_INBOX n j) v s else RefusesWrite m (A.SLOTn_INBOX n j) v s)
      ∧ (∀ v, v < 2 ^ 32 → bitOf v 1 = false →
          if m ≤ 1 ∨ m = slotMaster n then AcceptsWrite m (A.SLOTn_BELL n) v s else RefusesWrite m (A.SLOTn_BELL n) v s))
end

