-- ==== Sys2Proof/Laws/Mmu.lean ====
section
/-!
SUPPORT. What a control core's translation can answer (R361).
-/
namespace Sys2Proof.Laws
open Sys2Proof Sys2Proof.Machine

/-- A leaf entry gives an address within the physical map. -/
theorem svLeaf_lt {c : SvCtx} {k va e a : Nat} {wr : Bool} (hk : k ≤ 2) (h : svLeaf c k va e wr = .ok a) : a < 2 ^ 40 := by
  unfold svLeaf at h
  extract_lets size right mode base at h
  split at h
  · cases h
  rename_i h1
  split at h
  · cases h
  rename_i h2
  simp only [Except.ok.injEq] at h
  simp only [Bool.or_eq_true, not_or, bne_iff_ne, ne_eq, not_not] at h1
  have hm := h1.1.1.2
  clear_value base
  subst size
  interval_cases k <;> simp only [Nat.reducePow, Nat.reduceAdd, Nat.reduceMul, Nat.mul_zero, Nat.add_zero] at * <;> omega

/-- A walk of at most three levels ends within the physical map. -/
theorem svWalk_lt {c : SvCtx} {va : Nat} {wr : Bool} {s : State} {a : Nat} :
    ∀ (k tab : Nat), k ≤ 3 → svWalk c va wr s k tab = .ok a → a < 2 ^ 40
  | 0, _, _, h => by simp [svWalk] at h
  | k + 1, tab, hk, h => by
    simp only [svWalk] at h
    split at h
    · cases h
    split at h
    · cases h
    split at h
    · exact svLeaf_lt (by omega) h
    split at h
    · cases h
    exact svWalk_lt k _ (by omega) h

/-- What a control core's translation gives is a physical address of the node (R361). -/
theorem svTranslate_lt {s : State} {c : SvCtx} {va a : Nat} {wr : Bool} (h : s.svTranslate c va wr = .ok a) : a < 2 ^ 40 := by
  unfold State.svTranslate at h
  split at h
  · cases h
  exact svWalk_lt 3 _ (by omega) h
end Sys2Proof.Laws
end

