-- ==== Sys2Proof/Laws/Map.lean ====
section
/-!
SUPPORT. The laws of sparse maps: a read after a write, and the canonical form that every operation keeps.
-/
namespace Sys2Proof.Machine

variable {α : Type}

theorem mget_mput_same (d : α) (k : Nat) (v : α) (m : SMap α) : mget d k (mput k v m) = v := by
  induction m with
  | nil => simp [mput, mget]
  | cons e r ih =>
    obtain ⟨j, w⟩ := e
    simp only [mput]
    split
    · simp [mget]
    · split
      · simp [mget]
      · rename_i h1 h2
        simp [mget, h2, ih]

theorem mget_mput_other (d : α) {k j : Nat} (h : j ≠ k) (v : α) (m : SMap α) : mget d j (mput k v m) = mget d j m := by
  induction m with
  | nil => simp [mput, mget, Ne.symm h]
  | cons e r ih =>
    obtain ⟨i, w⟩ := e
    simp only [mput]
    split
    · simp [mget, Ne.symm h]
    · split
      · rename_i h2
        subst h2
        simp [mget, Ne.symm h]
      · simp only [mget, ih]

theorem mget_mdel_same (d : α) (k : Nat) (m : SMap α) : mget d k (mdel k m) = d := by
  induction m with
  | nil => rfl
  | cons e r ih =>
    obtain ⟨j, w⟩ := e
    simp only [mdel]
    split
    · exact ih
    · rename_i h
      simp [mget, h, ih]

theorem mget_mdel_other (d : α) {k j : Nat} (h : j ≠ k) (m : SMap α) : mget d j (mdel k m) = mget d j m := by
  induction m with
  | nil => rfl
  | cons e r ih =>
    obtain ⟨i, w⟩ := e
    simp only [mdel]
    split
    · rename_i h2
      subst h2
      simp [mget, Ne.symm h, ih]
    · simp only [mget, ih]

/-- A read after a write of the same key gives the value written. -/
@[simp] theorem mget_mset_same [DecidableEq α] (d : α) (k : Nat) (v : α) (m : SMap α) : mget d k (mset d k v m) = v := by
  unfold mset
  split
  · rename_i h
    rw [mget_mdel_same, h]
  · exact mget_mput_same d k v m

/-- A write leaves every other key alone. -/
theorem mget_mset_other [DecidableEq α] (d c : α) {k j : Nat} (h : j ≠ k) (v : α) (m : SMap α) :
    mget d j (mset c k v m) = mget d j m := by
  unfold mset
  split
  · exact mget_mdel_other d h m
  · exact mget_mput_other d h v m

/-- A read after a write, either way. -/
theorem mget_mset [DecidableEq α] (d : α) (k j : Nat) (v : α) (m : SMap α) :
    mget d j (mset d k v m) = if j = k then v else mget d j m := by
  split
  · rename_i h
    rw [h, mget_mset_same]
  · rename_i h
    exact mget_mset_other d d h v m

theorem mget_mkeep (d : α) (p : Nat → Bool) (k : Nat) (m : SMap α) :
    mget d k (mkeep p m) = if p k then mget d k m else d := by
  induction m with
  | nil => simp [mkeep, mget]
  | cons e r ih =>
    obtain ⟨j, w⟩ := e
    simp only [mkeep, List.filter_cons] at ih ⊢
    split
    · rename_i hp
      simp only [mget, ih]
      split
      · rename_i h
        simp_all
      · rfl
    · rename_i hp
      simp only [mget, ih]
      by_cases h : j = k
      · subst h
        simp [hp]
      · simp [h]

/-! ## The canonical form -/

theorem mrising_weaken {b c : Nat} (h : b ≤ c) (m : SMap α) : mrising c m = true → mrising b m = true := by
  cases m with
  | nil => intro; rfl
  | cons e r =>
    obtain ⟨j, w⟩ := e
    simp only [mrising, Bool.and_eq_true, decide_eq_true_eq]
    exact fun ⟨h1, h2⟩ => ⟨by omega, h2⟩

theorem mrising_mput {b k : Nat} (v : α) (m : SMap α) (hb : b ≤ k) (h : mrising b m = true) :
    mrising b (mput k v m) = true := by
  induction m generalizing b with
  | nil => simp [mput, mrising, hb]
  | cons e r ih =>
    obtain ⟨j, w⟩ := e
    simp only [mrising, Bool.and_eq_true, decide_eq_true_eq] at h
    simp only [mput]
    split
    · simp only [mrising, Bool.and_eq_true, decide_eq_true_eq]
      exact ⟨hb, by omega, h.2⟩
    · split
      · rename_i h2
        subst h2
        simp only [mrising, Bool.and_eq_true, decide_eq_true_eq]
        exact ⟨hb, h.2⟩
      · simp only [mrising, Bool.and_eq_true, decide_eq_true_eq]
        exact ⟨h.1, ih (by omega) h.2⟩

theorem mrising_mdel {b : Nat} (k : Nat) (m : SMap α) (h : mrising b m = true) : mrising b (mdel k m) = true := by
  induction m generalizing b with
  | nil => rfl
  | cons e r ih =>
    obtain ⟨j, w⟩ := e
    simp only [mrising, Bool.and_eq_true, decide_eq_true_eq] at h
    simp only [mdel]
    split
    · exact mrising_weaken (by omega) _ (ih h.2)
    · simp only [mrising, Bool.and_eq_true, decide_eq_true_eq]
      exact ⟨h.1, ih h.2⟩

theorem mrising_mkeep {b : Nat} (p : Nat → Bool) (m : SMap α) (h : mrising b m = true) : mrising b (mkeep p m) = true := by
  induction m generalizing b with
  | nil => rfl
  | cons e r ih =>
    obtain ⟨j, w⟩ := e
    simp only [mrising, Bool.and_eq_true, decide_eq_true_eq] at h
    simp only [mkeep, List.filter_cons]
    split
    · simp only [mrising, Bool.and_eq_true, decide_eq_true_eq]
      exact ⟨h.1, ih h.2⟩
    · exact mrising_weaken (by omega) _ (ih h.2)

theorem mem_mput {k : Nat} {v : α} {m : SMap α} {e : Nat × α} (h : e ∈ mput k v m) : e = (k, v) ∨ e ∈ m := by
  induction m with
  | nil => simpa [mput] using h
  | cons x r ih =>
    obtain ⟨j, w⟩ := x
    simp only [mput] at h
    split at h
    · simpa using h
    · split at h
      · simp only [List.mem_cons] at h ⊢
        exact h.imp id .inr
      · simp only [List.mem_cons] at h ⊢
        rcases h with h | h
        · exact .inr (.inl h)
        · exact (ih h).imp id .inr

theorem mem_mdel {k : Nat} {m : SMap α} {e : Nat × α} (h : e ∈ mdel k m) : e ∈ m := by
  induction m with
  | nil => exact h
  | cons x r ih =>
    obtain ⟨j, w⟩ := x
    simp only [mdel] at h
    split at h
    · exact List.mem_cons_of_mem _ (ih h)
    · simp only [List.mem_cons] at h ⊢
      exact h.imp id ih

/-- A write keeps the canonical form. -/
theorem mwf_mset [DecidableEq α] (d : α) (k : Nat) (v : α) (m : SMap α) (h : mwf d m = true) : mwf d (mset d k v m) = true := by
  simp only [mwf, Bool.and_eq_true, List.all_eq_true, decide_eq_true_eq] at h ⊢
  unfold mset
  split
  · exact ⟨mrising_mdel k m h.1, fun e he => h.2 e (mem_mdel he)⟩
  · rename_i hv
    refine ⟨mrising_mput v m (Nat.zero_le k) h.1, fun e he => ?_⟩
    rcases mem_mput he with rfl | he
    · exact hv
    · exact h.2 e he

/-- Keeping some of the keys keeps the canonical form. -/
theorem mwf_mkeep [DecidableEq α] (d : α) (p : Nat → Bool) (m : SMap α) (h : mwf d m = true) : mwf d (mkeep p m) = true := by
  simp only [mwf, Bool.and_eq_true, List.all_eq_true, decide_eq_true_eq] at h ⊢
  exact ⟨mrising_mkeep p m h.1, fun e he => h.2 e ((List.mem_filter.mp he).1)⟩

end Sys2Proof.Machine
end

