-- ==== Sys2Proof/Laws/State.lean ====
section
/-!
SUPPORT. What each update of the state leaves alone, one lemma for each field and update.
-/
namespace Sys2Proof.Machine

variable (s : State)

/-! ## set -/

@[simp] theorem State.set_now (f : Fd) (v : Nat) : (s.set f v).now = s.now := rfl
@[simp] theorem State.set_latch (f : Fd) (v : Nat) : (s.set f v).latch = s.latch := rfl
@[simp] theorem State.set_mem (f : Fd) (v : Nat) : (s.set f v).mem = s.mem := rfl
@[simp] theorem State.set_fresh (f : Fd) (v : Nat) : (s.set f v).fresh = s.fresh := rfl
@[simp] theorem State.set_time (f : Fd) (v : Nat) : (s.set f v).time = s.time := rfl
@[simp] theorem State.set_fcu (f : Fd) (v : Nat) : (s.set f v).fcu = s.fcu := rfl
@[simp] theorem State.set_lig (f : Fd) (v : Nat) : (s.set f v).lig = s.lig := rfl
@[simp] theorem State.set_disp (f : Fd) (v : Nat) : (s.set f v).disp = s.disp := rfl
@[simp] theorem State.set_core (f : Fd) (v : Nat) : (s.set f v).core = s.core := rfl
@[simp] theorem State.set_mtx (f : Fd) (v : Nat) : (s.set f v).mtx = s.mtx := rfl
@[simp] theorem State.set_asrc (f : Fd) (v : Nat) : (s.set f v).asrc = s.asrc := rfl
@[simp] theorem State.set_dly (f : Fd) (v : Nat) : (s.set f v).dly = s.dly := rfl
@[simp] theorem State.set_arb (f : Fd) (v : Nat) : (s.set f v).arb = s.arb := rfl
@[simp] theorem State.set_mmu (f : Fd) (v : Nat) : (s.set f v).mmu = s.mmu := rfl
@[simp] theorem State.set_rvc (f : Fd) (v : Nat) : (s.set f v).rvc = s.rvc := rfl
@[simp] theorem State.set_sys (f : Fd) (v : Nat) : (s.set f v).sys = s.sys := rfl
@[simp] theorem State.set_bus (f : Fd) (v : Nat) : (s.set f v).bus = s.bus := rfl
@[simp] theorem State.set_net (f : Fd) (v : Nat) : (s.set f v).net = s.net := rfl
@[simp] theorem State.set_strm (f : Fd) (v : Nat) : (s.set f v).strm = s.strm := rfl
@[simp] theorem State.set_sap (f : Fd) (v : Nat) : (s.set f v).sap = s.sap := rfl
@[simp] theorem State.set_bsi (f : Fd) (v : Nat) : (s.set f v).bsi = s.bsi := rfl
@[simp] theorem State.set_pp (f : Fd) (v : Nat) : (s.set f v).pp = s.pp := rfl
@[simp] theorem State.set_twin (f : Fd) (v : Nat) : (s.set f v).twin = s.twin := rfl
@[simp] theorem State.set_surv (f : Fd) (v : Nat) : (s.set f v).surv = s.surv := rfl
@[simp] theorem State.set_boot (f : Fd) (v : Nat) : (s.set f v).boot = s.boot := rfl
@[simp] theorem State.set_host (f : Fd) (v : Nat) : (s.set f v).host = s.host := rfl
@[simp] theorem State.set_pmu (f : Fd) (v : Nat) : (s.set f v).pmu = s.pmu := rfl
@[simp] theorem State.set_flash (f : Fd) (v : Nat) : (s.set f v).flash = s.flash := rfl
@[simp] theorem State.set_pending (f : Fd) (v : Nat) : (s.set f v).pending = s.pending := rfl

/-! ## setBit -/

@[simp] theorem State.setBit_now (f : Fd) (i : Nat) (b : Bool) : (s.setBit f i b).now = s.now := rfl
@[simp] theorem State.setBit_latch (f : Fd) (i : Nat) (b : Bool) : (s.setBit f i b).latch = s.latch := rfl
@[simp] theorem State.setBit_mem (f : Fd) (i : Nat) (b : Bool) : (s.setBit f i b).mem = s.mem := rfl
@[simp] theorem State.setBit_fresh (f : Fd) (i : Nat) (b : Bool) : (s.setBit f i b).fresh = s.fresh := rfl
@[simp] theorem State.setBit_time (f : Fd) (i : Nat) (b : Bool) : (s.setBit f i b).time = s.time := rfl
@[simp] theorem State.setBit_fcu (f : Fd) (i : Nat) (b : Bool) : (s.setBit f i b).fcu = s.fcu := rfl
@[simp] theorem State.setBit_lig (f : Fd) (i : Nat) (b : Bool) : (s.setBit f i b).lig = s.lig := rfl
@[simp] theorem State.setBit_disp (f : Fd) (i : Nat) (b : Bool) : (s.setBit f i b).disp = s.disp := rfl
@[simp] theorem State.setBit_core (f : Fd) (i : Nat) (b : Bool) : (s.setBit f i b).core = s.core := rfl
@[simp] theorem State.setBit_mtx (f : Fd) (i : Nat) (b : Bool) : (s.setBit f i b).mtx = s.mtx := rfl
@[simp] theorem State.setBit_asrc (f : Fd) (i : Nat) (b : Bool) : (s.setBit f i b).asrc = s.asrc := rfl
@[simp] theorem State.setBit_dly (f : Fd) (i : Nat) (b : Bool) : (s.setBit f i b).dly = s.dly := rfl
@[simp] theorem State.setBit_arb (f : Fd) (i : Nat) (b : Bool) : (s.setBit f i b).arb = s.arb := rfl
@[simp] theorem State.setBit_mmu (f : Fd) (i : Nat) (b : Bool) : (s.setBit f i b).mmu = s.mmu := rfl
@[simp] theorem State.setBit_rvc (f : Fd) (i : Nat) (b : Bool) : (s.setBit f i b).rvc = s.rvc := rfl
@[simp] theorem State.setBit_sys (f : Fd) (i : Nat) (b : Bool) : (s.setBit f i b).sys = s.sys := rfl
@[simp] theorem State.setBit_bus (f : Fd) (i : Nat) (b : Bool) : (s.setBit f i b).bus = s.bus := rfl
@[simp] theorem State.setBit_net (f : Fd) (i : Nat) (b : Bool) : (s.setBit f i b).net = s.net := rfl
@[simp] theorem State.setBit_strm (f : Fd) (i : Nat) (b : Bool) : (s.setBit f i b).strm = s.strm := rfl
@[simp] theorem State.setBit_sap (f : Fd) (i : Nat) (b : Bool) : (s.setBit f i b).sap = s.sap := rfl
@[simp] theorem State.setBit_bsi (f : Fd) (i : Nat) (b : Bool) : (s.setBit f i b).bsi = s.bsi := rfl
@[simp] theorem State.setBit_pp (f : Fd) (i : Nat) (b : Bool) : (s.setBit f i b).pp = s.pp := rfl
@[simp] theorem State.setBit_twin (f : Fd) (i : Nat) (b : Bool) : (s.setBit f i b).twin = s.twin := rfl
@[simp] theorem State.setBit_surv (f : Fd) (i : Nat) (b : Bool) : (s.setBit f i b).surv = s.surv := rfl
@[simp] theorem State.setBit_boot (f : Fd) (i : Nat) (b : Bool) : (s.setBit f i b).boot = s.boot := rfl
@[simp] theorem State.setBit_host (f : Fd) (i : Nat) (b : Bool) : (s.setBit f i b).host = s.host := rfl
@[simp] theorem State.setBit_pmu (f : Fd) (i : Nat) (b : Bool) : (s.setBit f i b).pmu = s.pmu := rfl
@[simp] theorem State.setBit_flash (f : Fd) (i : Nat) (b : Bool) : (s.setBit f i b).flash = s.flash := rfl
@[simp] theorem State.setBit_pending (f : Fd) (i : Nat) (b : Bool) : (s.setBit f i b).pending = s.pending := rfl

/-! ## inc -/

@[simp] theorem State.inc_now (f : Fd) : (s.inc f).now = s.now := rfl
@[simp] theorem State.inc_latch (f : Fd) : (s.inc f).latch = s.latch := rfl
@[simp] theorem State.inc_mem (f : Fd) : (s.inc f).mem = s.mem := rfl
@[simp] theorem State.inc_fresh (f : Fd) : (s.inc f).fresh = s.fresh := rfl
@[simp] theorem State.inc_time (f : Fd) : (s.inc f).time = s.time := rfl
@[simp] theorem State.inc_fcu (f : Fd) : (s.inc f).fcu = s.fcu := rfl
@[simp] theorem State.inc_lig (f : Fd) : (s.inc f).lig = s.lig := rfl
@[simp] theorem State.inc_disp (f : Fd) : (s.inc f).disp = s.disp := rfl
@[simp] theorem State.inc_core (f : Fd) : (s.inc f).core = s.core := rfl
@[simp] theorem State.inc_mtx (f : Fd) : (s.inc f).mtx = s.mtx := rfl
@[simp] theorem State.inc_asrc (f : Fd) : (s.inc f).asrc = s.asrc := rfl
@[simp] theorem State.inc_dly (f : Fd) : (s.inc f).dly = s.dly := rfl
@[simp] theorem State.inc_arb (f : Fd) : (s.inc f).arb = s.arb := rfl
@[simp] theorem State.inc_mmu (f : Fd) : (s.inc f).mmu = s.mmu := rfl
@[simp] theorem State.inc_rvc (f : Fd) : (s.inc f).rvc = s.rvc := rfl
@[simp] theorem State.inc_sys (f : Fd) : (s.inc f).sys = s.sys := rfl
@[simp] theorem State.inc_bus (f : Fd) : (s.inc f).bus = s.bus := rfl
@[simp] theorem State.inc_net (f : Fd) : (s.inc f).net = s.net := rfl
@[simp] theorem State.inc_strm (f : Fd) : (s.inc f).strm = s.strm := rfl
@[simp] theorem State.inc_sap (f : Fd) : (s.inc f).sap = s.sap := rfl
@[simp] theorem State.inc_bsi (f : Fd) : (s.inc f).bsi = s.bsi := rfl
@[simp] theorem State.inc_pp (f : Fd) : (s.inc f).pp = s.pp := rfl
@[simp] theorem State.inc_twin (f : Fd) : (s.inc f).twin = s.twin := rfl
@[simp] theorem State.inc_surv (f : Fd) : (s.inc f).surv = s.surv := rfl
@[simp] theorem State.inc_boot (f : Fd) : (s.inc f).boot = s.boot := rfl
@[simp] theorem State.inc_host (f : Fd) : (s.inc f).host = s.host := rfl
@[simp] theorem State.inc_pmu (f : Fd) : (s.inc f).pmu = s.pmu := rfl
@[simp] theorem State.inc_flash (f : Fd) : (s.inc f).flash = s.flash := rfl
@[simp] theorem State.inc_pending (f : Fd) : (s.inc f).pending = s.pending := rfl

/-! ## addSat -/

@[simp] theorem State.addSat_now (f : Fd) (n : Nat) : (s.addSat f n).now = s.now := rfl
@[simp] theorem State.addSat_latch (f : Fd) (n : Nat) : (s.addSat f n).latch = s.latch := rfl
@[simp] theorem State.addSat_mem (f : Fd) (n : Nat) : (s.addSat f n).mem = s.mem := rfl
@[simp] theorem State.addSat_fresh (f : Fd) (n : Nat) : (s.addSat f n).fresh = s.fresh := rfl
@[simp] theorem State.addSat_time (f : Fd) (n : Nat) : (s.addSat f n).time = s.time := rfl
@[simp] theorem State.addSat_fcu (f : Fd) (n : Nat) : (s.addSat f n).fcu = s.fcu := rfl
@[simp] theorem State.addSat_lig (f : Fd) (n : Nat) : (s.addSat f n).lig = s.lig := rfl
@[simp] theorem State.addSat_disp (f : Fd) (n : Nat) : (s.addSat f n).disp = s.disp := rfl
@[simp] theorem State.addSat_core (f : Fd) (n : Nat) : (s.addSat f n).core = s.core := rfl
@[simp] theorem State.addSat_mtx (f : Fd) (n : Nat) : (s.addSat f n).mtx = s.mtx := rfl
@[simp] theorem State.addSat_asrc (f : Fd) (n : Nat) : (s.addSat f n).asrc = s.asrc := rfl
@[simp] theorem State.addSat_dly (f : Fd) (n : Nat) : (s.addSat f n).dly = s.dly := rfl
@[simp] theorem State.addSat_arb (f : Fd) (n : Nat) : (s.addSat f n).arb = s.arb := rfl
@[simp] theorem State.addSat_mmu (f : Fd) (n : Nat) : (s.addSat f n).mmu = s.mmu := rfl
@[simp] theorem State.addSat_rvc (f : Fd) (n : Nat) : (s.addSat f n).rvc = s.rvc := rfl
@[simp] theorem State.addSat_sys (f : Fd) (n : Nat) : (s.addSat f n).sys = s.sys := rfl
@[simp] theorem State.addSat_bus (f : Fd) (n : Nat) : (s.addSat f n).bus = s.bus := rfl
@[simp] theorem State.addSat_net (f : Fd) (n : Nat) : (s.addSat f n).net = s.net := rfl
@[simp] theorem State.addSat_strm (f : Fd) (n : Nat) : (s.addSat f n).strm = s.strm := rfl
@[simp] theorem State.addSat_sap (f : Fd) (n : Nat) : (s.addSat f n).sap = s.sap := rfl
@[simp] theorem State.addSat_bsi (f : Fd) (n : Nat) : (s.addSat f n).bsi = s.bsi := rfl
@[simp] theorem State.addSat_pp (f : Fd) (n : Nat) : (s.addSat f n).pp = s.pp := rfl
@[simp] theorem State.addSat_twin (f : Fd) (n : Nat) : (s.addSat f n).twin = s.twin := rfl
@[simp] theorem State.addSat_surv (f : Fd) (n : Nat) : (s.addSat f n).surv = s.surv := rfl
@[simp] theorem State.addSat_boot (f : Fd) (n : Nat) : (s.addSat f n).boot = s.boot := rfl
@[simp] theorem State.addSat_host (f : Fd) (n : Nat) : (s.addSat f n).host = s.host := rfl
@[simp] theorem State.addSat_pmu (f : Fd) (n : Nat) : (s.addSat f n).pmu = s.pmu := rfl
@[simp] theorem State.addSat_flash (f : Fd) (n : Nat) : (s.addSat f n).flash = s.flash := rfl
@[simp] theorem State.addSat_pending (f : Fd) (n : Nat) : (s.addSat f n).pending = s.pending := rfl

/-! ## incSat -/

@[simp] theorem State.incSat_now (f : Fd) : (s.incSat f).now = s.now := rfl
@[simp] theorem State.incSat_latch (f : Fd) : (s.incSat f).latch = s.latch := rfl
@[simp] theorem State.incSat_mem (f : Fd) : (s.incSat f).mem = s.mem := rfl
@[simp] theorem State.incSat_fresh (f : Fd) : (s.incSat f).fresh = s.fresh := rfl
@[simp] theorem State.incSat_time (f : Fd) : (s.incSat f).time = s.time := rfl
@[simp] theorem State.incSat_fcu (f : Fd) : (s.incSat f).fcu = s.fcu := rfl
@[simp] theorem State.incSat_lig (f : Fd) : (s.incSat f).lig = s.lig := rfl
@[simp] theorem State.incSat_disp (f : Fd) : (s.incSat f).disp = s.disp := rfl
@[simp] theorem State.incSat_core (f : Fd) : (s.incSat f).core = s.core := rfl
@[simp] theorem State.incSat_mtx (f : Fd) : (s.incSat f).mtx = s.mtx := rfl
@[simp] theorem State.incSat_asrc (f : Fd) : (s.incSat f).asrc = s.asrc := rfl
@[simp] theorem State.incSat_dly (f : Fd) : (s.incSat f).dly = s.dly := rfl
@[simp] theorem State.incSat_arb (f : Fd) : (s.incSat f).arb = s.arb := rfl
@[simp] theorem State.incSat_mmu (f : Fd) : (s.incSat f).mmu = s.mmu := rfl
@[simp] theorem State.incSat_rvc (f : Fd) : (s.incSat f).rvc = s.rvc := rfl
@[simp] theorem State.incSat_sys (f : Fd) : (s.incSat f).sys = s.sys := rfl
@[simp] theorem State.incSat_bus (f : Fd) : (s.incSat f).bus = s.bus := rfl
@[simp] theorem State.incSat_net (f : Fd) : (s.incSat f).net = s.net := rfl
@[simp] theorem State.incSat_strm (f : Fd) : (s.incSat f).strm = s.strm := rfl
@[simp] theorem State.incSat_sap (f : Fd) : (s.incSat f).sap = s.sap := rfl
@[simp] theorem State.incSat_bsi (f : Fd) : (s.incSat f).bsi = s.bsi := rfl
@[simp] theorem State.incSat_pp (f : Fd) : (s.incSat f).pp = s.pp := rfl
@[simp] theorem State.incSat_twin (f : Fd) : (s.incSat f).twin = s.twin := rfl
@[simp] theorem State.incSat_surv (f : Fd) : (s.incSat f).surv = s.surv := rfl
@[simp] theorem State.incSat_boot (f : Fd) : (s.incSat f).boot = s.boot := rfl
@[simp] theorem State.incSat_host (f : Fd) : (s.incSat f).host = s.host := rfl
@[simp] theorem State.incSat_pmu (f : Fd) : (s.incSat f).pmu = s.pmu := rfl
@[simp] theorem State.incSat_flash (f : Fd) : (s.incSat f).flash = s.flash := rfl
@[simp] theorem State.incSat_pending (f : Fd) : (s.incSat f).pending = s.pending := rfl

/-! ## atTime -/

@[simp] theorem State.atTime_fld (t : Nat) : (s.atTime t).fld = s.fld := rfl
@[simp] theorem State.atTime_latch (t : Nat) : (s.atTime t).latch = s.latch := rfl
@[simp] theorem State.atTime_mem (t : Nat) : (s.atTime t).mem = s.mem := rfl
@[simp] theorem State.atTime_fresh (t : Nat) : (s.atTime t).fresh = s.fresh := rfl
@[simp] theorem State.atTime_time (t : Nat) : (s.atTime t).time = s.time := rfl
@[simp] theorem State.atTime_fcu (t : Nat) : (s.atTime t).fcu = s.fcu := rfl
@[simp] theorem State.atTime_lig (t : Nat) : (s.atTime t).lig = s.lig := rfl
@[simp] theorem State.atTime_disp (t : Nat) : (s.atTime t).disp = s.disp := rfl
@[simp] theorem State.atTime_core (t : Nat) : (s.atTime t).core = s.core := rfl
@[simp] theorem State.atTime_mtx (t : Nat) : (s.atTime t).mtx = s.mtx := rfl
@[simp] theorem State.atTime_asrc (t : Nat) : (s.atTime t).asrc = s.asrc := rfl
@[simp] theorem State.atTime_dly (t : Nat) : (s.atTime t).dly = s.dly := rfl
@[simp] theorem State.atTime_arb (t : Nat) : (s.atTime t).arb = s.arb := rfl
@[simp] theorem State.atTime_mmu (t : Nat) : (s.atTime t).mmu = s.mmu := rfl
@[simp] theorem State.atTime_rvc (t : Nat) : (s.atTime t).rvc = s.rvc := rfl
@[simp] theorem State.atTime_sys (t : Nat) : (s.atTime t).sys = s.sys := rfl
@[simp] theorem State.atTime_bus (t : Nat) : (s.atTime t).bus = s.bus := rfl
@[simp] theorem State.atTime_net (t : Nat) : (s.atTime t).net = s.net := rfl
@[simp] theorem State.atTime_strm (t : Nat) : (s.atTime t).strm = s.strm := rfl
@[simp] theorem State.atTime_sap (t : Nat) : (s.atTime t).sap = s.sap := rfl
@[simp] theorem State.atTime_bsi (t : Nat) : (s.atTime t).bsi = s.bsi := rfl
@[simp] theorem State.atTime_pp (t : Nat) : (s.atTime t).pp = s.pp := rfl
@[simp] theorem State.atTime_twin (t : Nat) : (s.atTime t).twin = s.twin := rfl
@[simp] theorem State.atTime_surv (t : Nat) : (s.atTime t).surv = s.surv := rfl
@[simp] theorem State.atTime_boot (t : Nat) : (s.atTime t).boot = s.boot := rfl
@[simp] theorem State.atTime_host (t : Nat) : (s.atTime t).host = s.host := rfl
@[simp] theorem State.atTime_pmu (t : Nat) : (s.atTime t).pmu = s.pmu := rfl
@[simp] theorem State.atTime_flash (t : Nat) : (s.atTime t).flash = s.flash := rfl
@[simp] theorem State.atTime_pending (t : Nat) : (s.atTime t).pending = s.pending := rfl

/-! ## respond -/

@[simp] theorem State.respond_now (m d : Nat) (e c : Bool) : (s.respond m d e c).now = s.now := rfl
@[simp] theorem State.respond_fld (m d : Nat) (e c : Bool) : (s.respond m d e c).fld = s.fld := rfl
@[simp] theorem State.respond_latch (m d : Nat) (e c : Bool) : (s.respond m d e c).latch = s.latch := rfl
@[simp] theorem State.respond_mem (m d : Nat) (e c : Bool) : (s.respond m d e c).mem = s.mem := rfl
@[simp] theorem State.respond_fresh (m d : Nat) (e c : Bool) : (s.respond m d e c).fresh = s.fresh := rfl
@[simp] theorem State.respond_time (m d : Nat) (e c : Bool) : (s.respond m d e c).time = s.time := rfl
@[simp] theorem State.respond_fcu (m d : Nat) (e c : Bool) : (s.respond m d e c).fcu = s.fcu := rfl
@[simp] theorem State.respond_lig (m d : Nat) (e c : Bool) : (s.respond m d e c).lig = s.lig := rfl
@[simp] theorem State.respond_disp (m d : Nat) (e c : Bool) : (s.respond m d e c).disp = s.disp := rfl
@[simp] theorem State.respond_core (m d : Nat) (e c : Bool) : (s.respond m d e c).core = s.core := rfl
@[simp] theorem State.respond_mtx (m d : Nat) (e c : Bool) : (s.respond m d e c).mtx = s.mtx := rfl
@[simp] theorem State.respond_asrc (m d : Nat) (e c : Bool) : (s.respond m d e c).asrc = s.asrc := rfl
@[simp] theorem State.respond_dly (m d : Nat) (e c : Bool) : (s.respond m d e c).dly = s.dly := rfl
@[simp] theorem State.respond_arb (m d : Nat) (e c : Bool) : (s.respond m d e c).arb = s.arb := rfl
@[simp] theorem State.respond_mmu (m d : Nat) (e c : Bool) : (s.respond m d e c).mmu = s.mmu := rfl
@[simp] theorem State.respond_rvc (m d : Nat) (e c : Bool) : (s.respond m d e c).rvc = s.rvc := rfl
@[simp] theorem State.respond_sys (m d : Nat) (e c : Bool) : (s.respond m d e c).sys = s.sys := rfl
@[simp] theorem State.respond_net (m d : Nat) (e c : Bool) : (s.respond m d e c).net = s.net := rfl
@[simp] theorem State.respond_strm (m d : Nat) (e c : Bool) : (s.respond m d e c).strm = s.strm := rfl
@[simp] theorem State.respond_sap (m d : Nat) (e c : Bool) : (s.respond m d e c).sap = s.sap := rfl
@[simp] theorem State.respond_bsi (m d : Nat) (e c : Bool) : (s.respond m d e c).bsi = s.bsi := rfl
@[simp] theorem State.respond_pp (m d : Nat) (e c : Bool) : (s.respond m d e c).pp = s.pp := rfl
@[simp] theorem State.respond_twin (m d : Nat) (e c : Bool) : (s.respond m d e c).twin = s.twin := rfl
@[simp] theorem State.respond_surv (m d : Nat) (e c : Bool) : (s.respond m d e c).surv = s.surv := rfl
@[simp] theorem State.respond_boot (m d : Nat) (e c : Bool) : (s.respond m d e c).boot = s.boot := rfl
@[simp] theorem State.respond_host (m d : Nat) (e c : Bool) : (s.respond m d e c).host = s.host := rfl
@[simp] theorem State.respond_pmu (m d : Nat) (e c : Bool) : (s.respond m d e c).pmu = s.pmu := rfl
@[simp] theorem State.respond_flash (m d : Nat) (e c : Bool) : (s.respond m d e c).flash = s.flash := rfl
@[simp] theorem State.respond_pending (m d : Nat) (e c : Bool) : (s.respond m d e c).pending = s.pending := rfl

/-! ## setByte -/

@[simp] theorem State.setByte_now (a : Nat) (b : Byte) : (s.setByte a b).now = s.now := rfl
@[simp] theorem State.setByte_fld (a : Nat) (b : Byte) : (s.setByte a b).fld = s.fld := rfl
@[simp] theorem State.setByte_latch (a : Nat) (b : Byte) : (s.setByte a b).latch = s.latch := rfl
@[simp] theorem State.setByte_fresh (a : Nat) (b : Byte) : (s.setByte a b).fresh = s.fresh := rfl
@[simp] theorem State.setByte_time (a : Nat) (b : Byte) : (s.setByte a b).time = s.time := rfl
@[simp] theorem State.setByte_fcu (a : Nat) (b : Byte) : (s.setByte a b).fcu = s.fcu := rfl
@[simp] theorem State.setByte_lig (a : Nat) (b : Byte) : (s.setByte a b).lig = s.lig := rfl
@[simp] theorem State.setByte_disp (a : Nat) (b : Byte) : (s.setByte a b).disp = s.disp := rfl
@[simp] theorem State.setByte_core (a : Nat) (b : Byte) : (s.setByte a b).core = s.core := rfl
@[simp] theorem State.setByte_mtx (a : Nat) (b : Byte) : (s.setByte a b).mtx = s.mtx := rfl
@[simp] theorem State.setByte_asrc (a : Nat) (b : Byte) : (s.setByte a b).asrc = s.asrc := rfl
@[simp] theorem State.setByte_dly (a : Nat) (b : Byte) : (s.setByte a b).dly = s.dly := rfl
@[simp] theorem State.setByte_arb (a : Nat) (b : Byte) : (s.setByte a b).arb = s.arb := rfl
@[simp] theorem State.setByte_mmu (a : Nat) (b : Byte) : (s.setByte a b).mmu = s.mmu := rfl
@[simp] theorem State.setByte_rvc (a : Nat) (b : Byte) : (s.setByte a b).rvc = s.rvc := rfl
@[simp] theorem State.setByte_sys (a : Nat) (b : Byte) : (s.setByte a b).sys = s.sys := rfl
@[simp] theorem State.setByte_bus (a : Nat) (b : Byte) : (s.setByte a b).bus = s.bus := rfl
@[simp] theorem State.setByte_net (a : Nat) (b : Byte) : (s.setByte a b).net = s.net := rfl
@[simp] theorem State.setByte_strm (a : Nat) (b : Byte) : (s.setByte a b).strm = s.strm := rfl
@[simp] theorem State.setByte_sap (a : Nat) (b : Byte) : (s.setByte a b).sap = s.sap := rfl
@[simp] theorem State.setByte_bsi (a : Nat) (b : Byte) : (s.setByte a b).bsi = s.bsi := rfl
@[simp] theorem State.setByte_pp (a : Nat) (b : Byte) : (s.setByte a b).pp = s.pp := rfl
@[simp] theorem State.setByte_twin (a : Nat) (b : Byte) : (s.setByte a b).twin = s.twin := rfl
@[simp] theorem State.setByte_surv (a : Nat) (b : Byte) : (s.setByte a b).surv = s.surv := rfl
@[simp] theorem State.setByte_boot (a : Nat) (b : Byte) : (s.setByte a b).boot = s.boot := rfl
@[simp] theorem State.setByte_host (a : Nat) (b : Byte) : (s.setByte a b).host = s.host := rfl
@[simp] theorem State.setByte_pmu (a : Nat) (b : Byte) : (s.setByte a b).pmu = s.pmu := rfl
@[simp] theorem State.setByte_flash (a : Nat) (b : Byte) : (s.setByte a b).flash = s.flash := rfl
@[simp] theorem State.setByte_pending (a : Nat) (b : Byte) : (s.setByte a b).pending = s.pending := rfl

/-! ## clearMem -/

@[simp] theorem State.clearMem_now (p : Nat → Bool) : (s.clearMem p).now = s.now := rfl
@[simp] theorem State.clearMem_fld (p : Nat → Bool) : (s.clearMem p).fld = s.fld := rfl
@[simp] theorem State.clearMem_latch (p : Nat → Bool) : (s.clearMem p).latch = s.latch := rfl
@[simp] theorem State.clearMem_fresh (p : Nat → Bool) : (s.clearMem p).fresh = s.fresh := rfl
@[simp] theorem State.clearMem_time (p : Nat → Bool) : (s.clearMem p).time = s.time := rfl
@[simp] theorem State.clearMem_fcu (p : Nat → Bool) : (s.clearMem p).fcu = s.fcu := rfl
@[simp] theorem State.clearMem_lig (p : Nat → Bool) : (s.clearMem p).lig = s.lig := rfl
@[simp] theorem State.clearMem_disp (p : Nat → Bool) : (s.clearMem p).disp = s.disp := rfl
@[simp] theorem State.clearMem_core (p : Nat → Bool) : (s.clearMem p).core = s.core := rfl
@[simp] theorem State.clearMem_mtx (p : Nat → Bool) : (s.clearMem p).mtx = s.mtx := rfl
@[simp] theorem State.clearMem_asrc (p : Nat → Bool) : (s.clearMem p).asrc = s.asrc := rfl
@[simp] theorem State.clearMem_dly (p : Nat → Bool) : (s.clearMem p).dly = s.dly := rfl
@[simp] theorem State.clearMem_arb (p : Nat → Bool) : (s.clearMem p).arb = s.arb := rfl
@[simp] theorem State.clearMem_mmu (p : Nat → Bool) : (s.clearMem p).mmu = s.mmu := rfl
@[simp] theorem State.clearMem_rvc (p : Nat → Bool) : (s.clearMem p).rvc = s.rvc := rfl
@[simp] theorem State.clearMem_sys (p : Nat → Bool) : (s.clearMem p).sys = s.sys := rfl
@[simp] theorem State.clearMem_bus (p : Nat → Bool) : (s.clearMem p).bus = s.bus := rfl
@[simp] theorem State.clearMem_net (p : Nat → Bool) : (s.clearMem p).net = s.net := rfl
@[simp] theorem State.clearMem_strm (p : Nat → Bool) : (s.clearMem p).strm = s.strm := rfl
@[simp] theorem State.clearMem_sap (p : Nat → Bool) : (s.clearMem p).sap = s.sap := rfl
@[simp] theorem State.clearMem_bsi (p : Nat → Bool) : (s.clearMem p).bsi = s.bsi := rfl
@[simp] theorem State.clearMem_pp (p : Nat → Bool) : (s.clearMem p).pp = s.pp := rfl
@[simp] theorem State.clearMem_twin (p : Nat → Bool) : (s.clearMem p).twin = s.twin := rfl
@[simp] theorem State.clearMem_surv (p : Nat → Bool) : (s.clearMem p).surv = s.surv := rfl
@[simp] theorem State.clearMem_boot (p : Nat → Bool) : (s.clearMem p).boot = s.boot := rfl
@[simp] theorem State.clearMem_host (p : Nat → Bool) : (s.clearMem p).host = s.host := rfl
@[simp] theorem State.clearMem_pmu (p : Nat → Bool) : (s.clearMem p).pmu = s.pmu := rfl
@[simp] theorem State.clearMem_flash (p : Nat → Bool) : (s.clearMem p).flash = s.flash := rfl
@[simp] theorem State.clearMem_pending (p : Nat → Bool) : (s.clearMem p).pending = s.pending := rfl

/-! ## resetRegs -/

@[simp] theorem State.resetRegs_now (p : Nat → Bool) : (s.resetRegs p).now = s.now := rfl
@[simp] theorem State.resetRegs_mem (p : Nat → Bool) : (s.resetRegs p).mem = s.mem := rfl
@[simp] theorem State.resetRegs_fresh (p : Nat → Bool) : (s.resetRegs p).fresh = s.fresh := rfl
@[simp] theorem State.resetRegs_time (p : Nat → Bool) : (s.resetRegs p).time = s.time := rfl
@[simp] theorem State.resetRegs_fcu (p : Nat → Bool) : (s.resetRegs p).fcu = s.fcu := rfl
@[simp] theorem State.resetRegs_lig (p : Nat → Bool) : (s.resetRegs p).lig = s.lig := rfl
@[simp] theorem State.resetRegs_disp (p : Nat → Bool) : (s.resetRegs p).disp = s.disp := rfl
@[simp] theorem State.resetRegs_core (p : Nat → Bool) : (s.resetRegs p).core = s.core := rfl
@[simp] theorem State.resetRegs_mtx (p : Nat → Bool) : (s.resetRegs p).mtx = s.mtx := rfl
@[simp] theorem State.resetRegs_asrc (p : Nat → Bool) : (s.resetRegs p).asrc = s.asrc := rfl
@[simp] theorem State.resetRegs_dly (p : Nat → Bool) : (s.resetRegs p).dly = s.dly := rfl
@[simp] theorem State.resetRegs_arb (p : Nat → Bool) : (s.resetRegs p).arb = s.arb := rfl
@[simp] theorem State.resetRegs_mmu (p : Nat → Bool) : (s.resetRegs p).mmu = s.mmu := rfl
@[simp] theorem State.resetRegs_rvc (p : Nat → Bool) : (s.resetRegs p).rvc = s.rvc := rfl
@[simp] theorem State.resetRegs_sys (p : Nat → Bool) : (s.resetRegs p).sys = s.sys := rfl
@[simp] theorem State.resetRegs_bus (p : Nat → Bool) : (s.resetRegs p).bus = s.bus := rfl
@[simp] theorem State.resetRegs_net (p : Nat → Bool) : (s.resetRegs p).net = s.net := rfl
@[simp] theorem State.resetRegs_strm (p : Nat → Bool) : (s.resetRegs p).strm = s.strm := rfl
@[simp] theorem State.resetRegs_sap (p : Nat → Bool) : (s.resetRegs p).sap = s.sap := rfl
@[simp] theorem State.resetRegs_bsi (p : Nat → Bool) : (s.resetRegs p).bsi = s.bsi := rfl
@[simp] theorem State.resetRegs_pp (p : Nat → Bool) : (s.resetRegs p).pp = s.pp := rfl
@[simp] theorem State.resetRegs_twin (p : Nat → Bool) : (s.resetRegs p).twin = s.twin := rfl
@[simp] theorem State.resetRegs_surv (p : Nat → Bool) : (s.resetRegs p).surv = s.surv := rfl
@[simp] theorem State.resetRegs_boot (p : Nat → Bool) : (s.resetRegs p).boot = s.boot := rfl
@[simp] theorem State.resetRegs_host (p : Nat → Bool) : (s.resetRegs p).host = s.host := rfl
@[simp] theorem State.resetRegs_pmu (p : Nat → Bool) : (s.resetRegs p).pmu = s.pmu := rfl
@[simp] theorem State.resetRegs_flash (p : Nat → Bool) : (s.resetRegs p).flash = s.flash := rfl
@[simp] theorem State.resetRegs_pending (p : Nat → Bool) : (s.resetRegs p).pending = s.pending := rfl

/-! ## setCore -/

@[simp] theorem State.setCore_now (p : Nat) (x : CoreS) : (s.setCore p x).now = s.now := rfl
@[simp] theorem State.setCore_fld (p : Nat) (x : CoreS) : (s.setCore p x).fld = s.fld := rfl
@[simp] theorem State.setCore_latch (p : Nat) (x : CoreS) : (s.setCore p x).latch = s.latch := rfl
@[simp] theorem State.setCore_mem (p : Nat) (x : CoreS) : (s.setCore p x).mem = s.mem := rfl
@[simp] theorem State.setCore_fresh (p : Nat) (x : CoreS) : (s.setCore p x).fresh = s.fresh := rfl
@[simp] theorem State.setCore_time (p : Nat) (x : CoreS) : (s.setCore p x).time = s.time := rfl
@[simp] theorem State.setCore_fcu (p : Nat) (x : CoreS) : (s.setCore p x).fcu = s.fcu := rfl
@[simp] theorem State.setCore_lig (p : Nat) (x : CoreS) : (s.setCore p x).lig = s.lig := rfl
@[simp] theorem State.setCore_disp (p : Nat) (x : CoreS) : (s.setCore p x).disp = s.disp := rfl
@[simp] theorem State.setCore_mtx (p : Nat) (x : CoreS) : (s.setCore p x).mtx = s.mtx := rfl
@[simp] theorem State.setCore_asrc (p : Nat) (x : CoreS) : (s.setCore p x).asrc = s.asrc := rfl
@[simp] theorem State.setCore_dly (p : Nat) (x : CoreS) : (s.setCore p x).dly = s.dly := rfl
@[simp] theorem State.setCore_arb (p : Nat) (x : CoreS) : (s.setCore p x).arb = s.arb := rfl
@[simp] theorem State.setCore_mmu (p : Nat) (x : CoreS) : (s.setCore p x).mmu = s.mmu := rfl
@[simp] theorem State.setCore_rvc (p : Nat) (x : CoreS) : (s.setCore p x).rvc = s.rvc := rfl
@[simp] theorem State.setCore_sys (p : Nat) (x : CoreS) : (s.setCore p x).sys = s.sys := rfl
@[simp] theorem State.setCore_bus (p : Nat) (x : CoreS) : (s.setCore p x).bus = s.bus := rfl
@[simp] theorem State.setCore_net (p : Nat) (x : CoreS) : (s.setCore p x).net = s.net := rfl
@[simp] theorem State.setCore_strm (p : Nat) (x : CoreS) : (s.setCore p x).strm = s.strm := rfl
@[simp] theorem State.setCore_sap (p : Nat) (x : CoreS) : (s.setCore p x).sap = s.sap := rfl
@[simp] theorem State.setCore_bsi (p : Nat) (x : CoreS) : (s.setCore p x).bsi = s.bsi := rfl
@[simp] theorem State.setCore_pp (p : Nat) (x : CoreS) : (s.setCore p x).pp = s.pp := rfl
@[simp] theorem State.setCore_twin (p : Nat) (x : CoreS) : (s.setCore p x).twin = s.twin := rfl
@[simp] theorem State.setCore_surv (p : Nat) (x : CoreS) : (s.setCore p x).surv = s.surv := rfl
@[simp] theorem State.setCore_boot (p : Nat) (x : CoreS) : (s.setCore p x).boot = s.boot := rfl
@[simp] theorem State.setCore_host (p : Nat) (x : CoreS) : (s.setCore p x).host = s.host := rfl
@[simp] theorem State.setCore_pmu (p : Nat) (x : CoreS) : (s.setCore p x).pmu = s.pmu := rfl
@[simp] theorem State.setCore_flash (p : Nat) (x : CoreS) : (s.setCore p x).flash = s.flash := rfl
@[simp] theorem State.setCore_pending (p : Nat) (x : CoreS) : (s.setCore p x).pending = s.pending := rfl

end Sys2Proof.Machine
end

