-- ==== Sys2Proof/Laws/Done.lean ====
section
/-!
SUPPORT. What the shared operations of every command do: register fields, the end of a command, and an admitted access.
-/
namespace Sys2Proof.Machine

/-! ## Fields -/

@[simp] theorem State.get_set_same (s : State) (f : Fd) (v : Nat) : (s.set f v).get f = v % 2 ^ Fd.width f :=
  mget_mset_same ..

/-- A write of a field writes only the fields. -/
theorem State.set_only (s : State) (f : Fd) (v : Nat) :
    s.set f v = { s with fld := mset f.rst (Fd.key f) (v % 2 ^ Fd.width f) s.fld } := rfl

theorem State.get_set_other (s : State) {f g : Fd} (v : Nat) (h : Fd.key g ≠ Fd.key f) : (s.set f v).get g = s.get g :=
  mget_mset_other _ _ h ..

/-- A field reads the same in two states with the same fields. -/
theorem State.get_congr {s t : State} (h : s.fld = t.fld) (f : Fd) : s.get f = t.get f := by
  unfold State.get; rw [h]

@[simp] theorem State.get_atTime (s : State) (t : Nat) (f : Fd) : (s.atTime t).get f = s.get f := rfl
@[simp] theorem State.get_respond (s : State) (m d : Nat) (e c : Bool) (f : Fd) : (s.respond m d e c).get f = s.get f := rfl
@[simp] theorem State.get_setCore (s : State) (p : Nat) (x : CoreS) (f : Fd) : (s.setCore p x).get f = s.get f := rfl
@[simp] theorem State.get_setByte (s : State) (a : Nat) (b : Byte) (f : Fd) : (s.setByte a b).get f = s.get f := rfl

/-- A field outside the registers taken back keeps its value; one of them has its reset value. -/
theorem State.get_resetRegs (s : State) (p : Nat → Bool) (f : Fd) :
    (s.resetRegs p).get f = if p (Fd.key f / 32) then f.rst else s.get f := by
  unfold State.get State.resetRegs
  simp only [mget_mkeep]
  cases p (Fd.key f / 32) <;> rfl

/-! ## Memory -/

theorem State.setBytes_fld (s : State) (a : Nat) (l : List Byte) : (s.setBytes a l).fld = s.fld := by
  induction l generalizing s a with
  | nil => rfl
  | cons b r ih => rw [State.setBytes, ih]; rfl

/-- A byte outside the bytes stored reads as before. -/
theorem State.byte_setBytes_out (s : State) (a : Nat) (l : List Byte) {x : Nat} (h : x < a ∨ a + l.length ≤ x) :
    (s.setBytes a l).byte x = s.byte x := by
  induction l generalizing s a with
  | nil => rfl
  | cons b r ih =>
    rw [State.setBytes, ih]
    · unfold State.byte State.setByte
      split
      · rfl
      · exact mget_mset_other _ _ (by simp at h; omega) ..
    · simp at h; omega

/-- A store keeps the canonical form of memory. -/
theorem State.setBytes_wf (s : State) (a : Nat) (l : List Byte) (h : Memory.wf s.mem = true) :
    Memory.wf (s.setBytes a l).mem = true := by
  induction l generalizing s a with
  | nil => exact h
  | cons b r ih => exact ih _ _ (mwf_mset _ _ _ _ h)

/-- A store of one byte keeps the canonical form of memory. -/
theorem State.setByte_wf (s : State) (a : Nat) (b : Byte) (h : Memory.wf s.mem = true) : Memory.wf (s.setByte a b).mem = true :=
  mwf_mset _ _ _ _ h

/-- A store of a word keeps the canonical form of memory. -/
theorem State.setWord_wf (s : State) (a v : Nat) (h : Memory.wf s.mem = true) : Memory.wf (s.setWord a v).mem = true :=
  s.setBytes_wf _ _ h

/-- Clearing a memory keeps the canonical form. -/
theorem State.clearMem_wf (s : State) (p : Nat → Bool) (h : Memory.wf s.mem = true) : Memory.wf (s.clearMem p).mem = true :=
  mwf_mkeep 0 (fun a => !p a) s.mem h

/-! ## The end of a command -/

theorem allEvt_only (b : Nat) (t : State) : ∃ l, allEvt b t = { t with fld := l } := by
  unfold allEvt
  generalize List.range 6 = r
  induction r generalizing t with
  | nil => exact ⟨t.fld, rfl⟩
  | cons n r ih => obtain ⟨l, h⟩ := ih (slotEvt n b t); exact ⟨l, h⟩

/-- What counting a change of the summary does: nothing, or a new generation and the event in every slot. -/
theorem sumTick_cases (s t : State) : sumTick s t = t ∨
    ∃ v w, sumTick s t = allEvt evSUMMARY ((t.set F.HOST_SUMGEN_HI_GEN v).set F.HOST_SUMGEN_LO_GEN w) := by
  unfold sumTick
  extract_lets g g0 g'
  by_cases h : (g % 2 ^ 48 == 0 || g0 % 2 ^ 48 == 0 || s.summaryView == t.summaryView) = true
  · rw [if_pos h]; exact .inl rfl
  · rw [if_neg h]; exact .inr ⟨_, _, rfl⟩

theorem sumTick_only (s t : State) : ∃ l, sumTick s t = { t with fld := l } := by
  rcases sumTick_cases s t with h | ⟨v, w, h⟩
  · exact ⟨t.fld, h⟩
  · obtain ⟨l, k⟩ := allEvt_only evSUMMARY ((t.set F.HOST_SUMGEN_HI_GEN v).set F.HOST_SUMGEN_LO_GEN w)
    exact ⟨l, h.trans k⟩


@[simp] theorem sumTick_now (s t : State) : (sumTick s t).now = t.now := by
  obtain ⟨l, h⟩ := sumTick_only s t; rw [h]

@[simp] theorem sumTick_latch (s t : State) : (sumTick s t).latch = t.latch := by
  obtain ⟨l, h⟩ := sumTick_only s t; rw [h]

@[simp] theorem sumTick_mem (s t : State) : (sumTick s t).mem = t.mem := by
  obtain ⟨l, h⟩ := sumTick_only s t; rw [h]

@[simp] theorem sumTick_fresh (s t : State) : (sumTick s t).fresh = t.fresh := by
  obtain ⟨l, h⟩ := sumTick_only s t; rw [h]

@[simp] theorem sumTick_time (s t : State) : (sumTick s t).time = t.time := by
  obtain ⟨l, h⟩ := sumTick_only s t; rw [h]

@[simp] theorem sumTick_fcu (s t : State) : (sumTick s t).fcu = t.fcu := by
  obtain ⟨l, h⟩ := sumTick_only s t; rw [h]

@[simp] theorem sumTick_lig (s t : State) : (sumTick s t).lig = t.lig := by
  obtain ⟨l, h⟩ := sumTick_only s t; rw [h]

@[simp] theorem sumTick_disp (s t : State) : (sumTick s t).disp = t.disp := by
  obtain ⟨l, h⟩ := sumTick_only s t; rw [h]

@[simp] theorem sumTick_core (s t : State) : (sumTick s t).core = t.core := by
  obtain ⟨l, h⟩ := sumTick_only s t; rw [h]

@[simp] theorem sumTick_mtx (s t : State) : (sumTick s t).mtx = t.mtx := by
  obtain ⟨l, h⟩ := sumTick_only s t; rw [h]

@[simp] theorem sumTick_asrc (s t : State) : (sumTick s t).asrc = t.asrc := by
  obtain ⟨l, h⟩ := sumTick_only s t; rw [h]

@[simp] theorem sumTick_dly (s t : State) : (sumTick s t).dly = t.dly := by
  obtain ⟨l, h⟩ := sumTick_only s t; rw [h]

@[simp] theorem sumTick_arb (s t : State) : (sumTick s t).arb = t.arb := by
  obtain ⟨l, h⟩ := sumTick_only s t; rw [h]

@[simp] theorem sumTick_mmu (s t : State) : (sumTick s t).mmu = t.mmu := by
  obtain ⟨l, h⟩ := sumTick_only s t; rw [h]

@[simp] theorem sumTick_rvc (s t : State) : (sumTick s t).rvc = t.rvc := by
  obtain ⟨l, h⟩ := sumTick_only s t; rw [h]

@[simp] theorem sumTick_sys (s t : State) : (sumTick s t).sys = t.sys := by
  obtain ⟨l, h⟩ := sumTick_only s t; rw [h]

@[simp] theorem sumTick_bus (s t : State) : (sumTick s t).bus = t.bus := by
  obtain ⟨l, h⟩ := sumTick_only s t; rw [h]

@[simp] theorem sumTick_net (s t : State) : (sumTick s t).net = t.net := by
  obtain ⟨l, h⟩ := sumTick_only s t; rw [h]

@[simp] theorem sumTick_strm (s t : State) : (sumTick s t).strm = t.strm := by
  obtain ⟨l, h⟩ := sumTick_only s t; rw [h]

@[simp] theorem sumTick_sap (s t : State) : (sumTick s t).sap = t.sap := by
  obtain ⟨l, h⟩ := sumTick_only s t; rw [h]

@[simp] theorem sumTick_bsi (s t : State) : (sumTick s t).bsi = t.bsi := by
  obtain ⟨l, h⟩ := sumTick_only s t; rw [h]

@[simp] theorem sumTick_pp (s t : State) : (sumTick s t).pp = t.pp := by
  obtain ⟨l, h⟩ := sumTick_only s t; rw [h]

@[simp] theorem sumTick_twin (s t : State) : (sumTick s t).twin = t.twin := by
  obtain ⟨l, h⟩ := sumTick_only s t; rw [h]

@[simp] theorem sumTick_surv (s t : State) : (sumTick s t).surv = t.surv := by
  obtain ⟨l, h⟩ := sumTick_only s t; rw [h]

@[simp] theorem sumTick_boot (s t : State) : (sumTick s t).boot = t.boot := by
  obtain ⟨l, h⟩ := sumTick_only s t; rw [h]

@[simp] theorem sumTick_host (s t : State) : (sumTick s t).host = t.host := by
  obtain ⟨l, h⟩ := sumTick_only s t; rw [h]

@[simp] theorem sumTick_pmu (s t : State) : (sumTick s t).pmu = t.pmu := by
  obtain ⟨l, h⟩ := sumTick_only s t; rw [h]

@[simp] theorem sumTick_flash (s t : State) : (sumTick s t).flash = t.flash := by
  obtain ⟨l, h⟩ := sumTick_only s t; rw [h]

@[simp] theorem sumTick_pending (s t : State) : (sumTick s t).pending = t.pending := by
  obtain ⟨l, h⟩ := sumTick_only s t; rw [h]


theorem slotEvt_get {f : Fd} (n b : Nat) (s : State) (h : Fd.key f ≠ Fd.key (F.SLOTn_EVT_EVT n)) : (slotEvt n b s).get f = s.get f :=
  State.get_set_other _ _ h

theorem allEvt_get {f : Fd} (b : Nat) (s : State) (h : Fd.quiet f = true) : (allEvt b s).get f = s.get f := by
  simp only [Fd.quiet, sumFields, List.all_cons, List.all_nil, Bool.and_true, Bool.and_eq_true, decide_eq_true_eq] at h
  obtain ⟨_, _, h0, h1, h2, h3, h4, h5⟩ := h
  have e : List.range 6 = [0, 1, 2, 3, 4, 5] := rfl
  rw [allEvt, e]
  simp only [List.foldl_cons, List.foldl_nil]
  rw [slotEvt_get _ _ _ h5, slotEvt_get _ _ _ h4, slotEvt_get _ _ _ h3, slotEvt_get _ _ _ h2, slotEvt_get _ _ _ h1,
    slotEvt_get _ _ _ h0]

/-- Counting a change of the summary leaves every other field alone. -/
theorem sumTick_get {f : Fd} (s t : State) (h : Fd.quiet f = true) : (sumTick s t).get f = t.get f := by
  rcases sumTick_cases s t with e | ⟨v, w, e⟩
  · rw [e]
  · rw [e, allEvt_get _ _ h]
    simp only [Fd.quiet, sumFields, List.all_cons, List.all_nil, Bool.and_true, Bool.and_eq_true, decide_eq_true_eq] at h
    rw [State.get_set_other _ _ h.2.1, State.get_set_other _ _ h.1]

/-- Two fields of different registers, or at different places of one, are stored apart. -/
theorem Fd.key_ne {f g : Fd} (hf : f.lsb < 32) (hg : g.lsb < 32) (h : f.addr ≠ g.addr ∨ f.lsb ≠ g.lsb) :
    Fd.key f ≠ Fd.key g := by
  simp only [Fd.key]; omega

/-- A field outside the HOST block is none that the summary's generation touches. -/
theorem Fd.quiet_of_block {f : Fd} (hf : f.lsb < 32) (h : f.addr < 0x20150000 ∨ 0x20160000 ≤ f.addr) : Fd.quiet f = true := by
  simp only [Fd.quiet, sumFields, List.all_cons, List.all_nil, Bool.and_true, Bool.and_eq_true, decide_eq_true_eq]
  simp only [Fd.key, F.HOST_SUMGEN_HI_GEN, F.HOST_SUMGEN_LO_GEN, F.SLOTn_EVT_EVT, A.HOST_SUMGEN_HI, A.HOST_SUMGEN_LO, A.SLOTn_EVT]
  omega

/-- A command to a node that takes commands. -/
theorem done_alive {s : State} (t : State) (h : s.alive = true) : done s t = .next (sumTick s t) := by
  unfold done; rw [if_pos h]

/-- A command to a node that takes none: only time passes. -/
theorem done_dead {s : State} (t : State) (h : s.alive = false) : done s t = .next { s with now := max s.now t.now } := by
  unfold done; simp [h]

theorem doneAon_on {s : State} (t : State) (h : s.sys.off = false) : doneAon s t = .next (sumTick s t) := by
  unfold doneAon; simp [h]

theorem doneAon_off {s : State} (t : State) (h : s.sys.off = true) : doneAon s t = .next { s with now := max s.now t.now } := by
  unfold doneAon; simp [h]

/-! ## Admitted accesses -/

theorem guardedV_admitted {m a v : Nat} {s : State} (f : State → State) (h : Admitted (regWrV m a v) s) :
    guardedV m a v f s = (f s).respond m 0 false false := by
  have h1 := h.served
  have h2 := h.passes
  have h3 := h.closed
  simp only [regWrV] at h1 h2 h3
  unfold guardedV
  simp only [h1, h2, h3, Bool.not_true, Bool.false_eq_true, if_false]

theorem guarded_admitted {m a : Nat} {s : State} (f : State → State) (h : Admitted (regWr m a) s) :
    guarded m a f s = (f s).respond m 0 false false := guardedV_admitted f h

theorem guardedRead_admitted {m a : Nat} {s : State} (f : State → Nat × State) (h : Admitted (regRd m a) s) :
    guardedRead m a f s = (f s).2.respond m ((f s).1 % 2 ^ 32) false false := by
  have h1 := h.served
  have h2 := h.passes
  have h3 := h.closed
  simp only [regRd] at h1 h2 h3
  unfold guardedRead
  simp only [h1, h2, h3, Bool.not_true, Bool.false_eq_true, if_false]

end Sys2Proof.Machine
end

