-- ==== Sys2Proof/Laws/Reed.lean ====
section
/-!
SUPPORT. What the shared operations of the reed rows do: reading behind writes in flight, decoding to a row, and one fetch in the
open.
-/
namespace Sys2Proof.Machine

/-! ## Writes in flight -/

theorem latest_append (ok : PW → Bool) (loc : Nat) (f : List PW) (w : PW) : latest ok loc (f ++ [w])
    = if w.loc == loc && ok w && landsOver (latest ok loc f) w
      then some w else latest ok loc f := by
  rw [latest, List.foldl_append]; rfl

theorem latest_append_other {ok : PW → Bool} {loc : Nat} {w : PW} (f : List PW) (h : w.loc ≠ loc) :
    latest ok loc (f ++ [w]) = latest ok loc f := by
  rw [latest_append]; simp [h]

/-- A write found in flight is one that the read accepts. -/
theorem latest_ok {ok : PW → Bool} {loc : Nat} {f : List PW} {w : PW} (h : latest ok loc f = some w) :
    ok w = true ∧ w.loc = loc := by
  have key : ∀ (g : List PW) (b : Option PW), (∀ v, b = some v → ok v = true ∧ v.loc = loc) →
      ∀ w, (g.foldl (fun b w => if w.loc == loc && ok w && landsOver b w
        then some w else b) b) = some w → ok w = true ∧ w.loc = loc := by
    intro g
    induction g with
    | nil => exact fun b hb w e => hb w e
    | cons x r ih =>
      intro b hb
      refine ih _ fun v hv => ?_
      dsimp only at hv
      split at hv
      · rename_i c
        simp only [Bool.and_eq_true, beq_iff_eq] at c
        cases hv
        exact ⟨c.1.2, c.1.1⟩
      · exact hb v hv
  exact key f none (fun v e => by cases e) w h

/-- A stage sees the last write added to the flight, if it lands before and none lands later that it could see. -/
theorem CoreS.rd_append_same (x : CoreS) (w : PW) (r : Nat) (h : w.at_ + 1 = r) :
    ({ x with fly := x.fly ++ [w] } : CoreS).rd w.loc r = w.val := by
  unfold CoreS.rd
  rw [latest_append]
  have hl : landsOver (latest (fun v => decide (v.at_ < r)) w.loc x.fly) w = true := by
    unfold landsOver
    split
    · rename_i v hv
      have := (latest_ok hv).1
      simp at this ⊢
      omega
    · rfl
  have e : decide (w.at_ < r) = true := by simp; omega
  simp [hl, e]

theorem CoreS.rd_append_other (x : CoreS) {w : PW} {loc : Nat} (r : Nat) (h : w.loc ≠ loc) :
    ({ x with fly := x.fly ++ [w] } : CoreS).rd loc r = x.rd loc r := by
  unfold CoreS.rd
  rw [latest_append_other _ h]

/-- A write that lands no earlier than the cycle of the read is not seen by it. -/
theorem CoreS.rd_append_late (x : CoreS) {w : PW} (loc : Nat) {r : Nat} (h : r ≤ w.at_) :
    ({ x with fly := x.fly ++ [w] } : CoreS).rd loc r = x.rd loc r := by
  unfold CoreS.rd
  rw [latest_append]
  have : decide (w.at_ < r) = false := by simp; omega
  simp [this]

/-! ## Decoding -/

/-- A word that decodes to an instruction has its fields, is its encoding, and lies within its fields' widths. -/
theorem reedDecode_some {w : Nat} {o : ReedOp} (h : reedDecode w = some o) :
    reedFields w = some o ∧ o.wf = true ∧ o.encode = w := by
  unfold reedDecode at h
  split at h
  · cases h
  · rename_i q hq
    split at h
    · rename_i c
      simp only [Bool.and_eq_true, beq_iff_eq] at c
      cases h
      exact ⟨hq, c.1, c.2⟩
    · cases h

/-- OP and function code of an instruction (R74, R75). -/
def ReedOp.code : ReedOp → Nat × Nat
  | .nop => (0x00, 0) | .tend => (0x01, 0) | .b _ => (0x02, 0) | .bc _ _ _ => (0x03, 0) | .call _ => (0x04, 0)
  | .jr _ => (0x05, 0) | .loop _ _ _ => (0x06, 0) | .loopr _ _ _ => (0x07, 0) | .trap _ => (0x08, 0) | .rti => (0x09, 0)
  | .mvs _ _ => (0x0A, 0) | .mfs _ _ => (0x0B, 0) | .mvi _ _ => (0x0C, 0) | .alu f _ _ _ => (0x10, f)
  | .addi _ _ _ => (0x11, 0) | .ldi _ _ _ => (0x12, 0) | .shi h _ _ _ => (0x13, h)
  | .ld y _ _ _ _ _ _ => (if y then 0x19 else 0x18, 0) | .st y _ _ _ _ _ _ => (if y then 0x1B else 0x1A, 0)
  | .sta y _ _ _ _ _ => (if y then 0x1D else 0x1C, 0) | .mul f _ _ _ => (0x20, f) | .dmul f _ _ _ => (0x21, f)
  | .mulm f _ _ _ _ _ => (0x22, f) | .dmulm f _ _ _ _ _ => (0x23, f) | .ftap _ _ _ => (0x24, 0) | .ftap2 _ _ _ => (0x25, 0)
  | .acc f _ _ _ _ => (0x26, f) | .trd _ _ => (0x28, 0) | .twr _ _ => (0x29, 0)

/-- A word that decodes has the OP and the function code of its instruction. -/
theorem code_of_decode {w : Nat} {o : ReedOp} (h : reedDecode w = some o) : opOf w = o.code.1 ∧ fnOf w = o.code.2 := by
  have hf := (reedDecode_some h).1
  unfold reedFields at hf
  split at hf <;> first | (cases hf; rename_i e; exact ⟨e, by simp [fnOf, e, ReedOp.code]⟩) | cases hf

/-- A word that decodes has no reserved code. -/
theorem not_reserved_of_decode {w : Nat} {o : ReedOp} (h : reedDecode w = some o) : reservedCode w = false := by
  obtain ⟨h1, h2⟩ := code_of_decode h
  obtain ⟨hf, hw, -⟩ := reedDecode_some h
  unfold reservedCode
  rw [hf, h1, h2]
  cases o <;> simp only [ReedOp.wf, Bool.and_eq_true, decide_eq_true_eq, Bool.true_eq_false] at hw <;>
    simp [ReedOp.code] <;> (try split) <;> (try simp) <;> (try omega) <;> exact decide_eq_false (by omega)

/-- The row of a word that decodes accepts it. -/
theorem row_of_decode {w : Nat} {o : ReedOp} (h : reedDecode w = some o) : rowIs o.code.1 o.code.2 w = true := by
  obtain ⟨h1, h2⟩ := code_of_decode h
  unfold rowIs
  split
  · rename_i h0
    simp only [beq_iff_eq] at h0
    simp [h1, h0]
  · simp [not_reserved_of_decode h, h1, h2]

/-! ## One fetch in the open -/

theorem fetchCore_pc (s : State) (p : Nat) : (s.fetchCore p).pc = (s.coreS p).pc := rfl
theorem fetchCore_cyc (s : State) (p : Nat) : (s.fetchCore p).cyc = (s.coreS p).cyc := rfl
theorem fetchCore_slot (s : State) (p : Nat) : (s.fetchCore p).slot = (s.coreS p).slot := rfl
theorem fetchCore_inst (s : State) (p : Nat) : (s.fetchCore p).inst = (s.coreS p).inst := rfl
theorem fetchCore_twr (s : State) (p : Nat) : (s.fetchCore p).twr = (s.coreS p).twr := rfl
theorem fetchCore_pend (s : State) (p : Nat) : (s.fetchCore p).pend = (s.coreS p).pend := rfl

/-- The pipeline at the fetch of an instruction in the open, before its effect. -/
def State.rxAt (s : State) (p : Nat) : Rx :=
  { s := s
    x := { s.fetchCore p with
           pc := ((s.coreS p).pc + 1) % 8192, cyc := (s.coreS p).cyc + 1, slot := none, ending := false, returning := false
           lastW := [], lastY := false }
    p := p, c := (s.coreS p).cyc, idx := (s.coreS p).pc, dbl := false }

/-- In the open, outside loop ends, a fetch goes on to the next index. -/
theorem afterFetch_open {x : CoreS} (h : x.slot = none) (hl : x.loopEnd = false) :
    x.afterFetch = { x with pc := (x.pc + 1) % 8192, cyc := x.cyc + 1, ending := false, returning := false } := by
  simp only [CoreS.loopEnd, Bool.or_eq_false_iff] at hl
  simp only [CoreS.afterFetch, CoreS.nextFetch, h, hl.1, hl.2, Bool.false_and, Bool.false_eq_true, if_false,
    List.append_nil]

/-- One fetch of an instruction in the open: its effect on the pipeline, and the end of a double fault where one came of it. -/
theorem fetchOne_ready {p : Nat} {o : ReedOp} {s : State} (h : Ready p o s) (row : Nat → Bool)
    (hrow : row (s.word (iBase p + 4 * (s.coreS p).pc)) = true) (eff : ReedOp → Rx → Rx)
    (hy : (eff o (s.rxAt p)).x.yext = []) :
    fetchOne p .clean row eff s =
      if (eff o (s.rxAt p)).dbl then doubleFault p ((eff o (s.rxAt p)).s.setCore p (eff o (s.rxAt p)).x)
      else (eff o (s.rxAt p)).s.setCore p (eff o (s.rxAt p)).x := by
  have hs : (s.fetchCore p).slot = none := by rw [fetchCore_slot, h.open_]
  have hx := afterFetch_open hs h.inner
  unfold fetchOne fetchStep
  simp only [h.unheld, h.runs, hrow, Bool.not_true, Bool.or_self, Bool.false_eq_true, if_false, coreEcc, h.decodes, h.inner, hs,
    Option.map_none, Option.isSome_none, Bool.and_false, hx]
  change (let r := eff o (s.rxAt p)
    let u := r.s.setCore p r.x
    let u := if r.x.lastY || r.x.yext.isEmpty then u else landY p u
    if r.dbl then doubleFault p u else u) = _
  simp only [hy, List.isEmpty_nil, Bool.or_true, if_true]

/-- A row whose instruction a core fetches in the open answers a next state: the core and the node as the effect leaves them. -/
theorem reed_next {p : Nat} {o : ReedOp} {s : State} (h : Ready p o s) (row : Nat → Bool)
    (hrow : row (s.word (iBase p + 4 * (s.coreS p).pc)) = true) (eff : ReedOp → Rx → Rx)
    (hd : (eff o (s.rxAt p)).dbl = false) (hy : (eff o (s.rxAt p)).x.yext = []) :
    ∃ u, done s (fetchOne p .clean row eff s) = .next u ∧ u.coreS p = (eff o (s.rxAt p)).x
      ∧ (∀ f, Fd.quiet f = true → u.get f = (eff o (s.rxAt p)).s.get f)
      ∧ u.mem = (eff o (s.rxAt p)).s.mem ∧ u.flash = (eff o (s.rxAt p)).s.flash
      ∧ u.pending = (eff o (s.rxAt p)).s.pending := by
  rw [fetchOne_ready h row hrow eff hy, done_alive _ h.alive]
  simp only [hd, Bool.false_eq_true, if_false]
  refine ⟨_, rfl, ?_, fun f hf => ?_, ?_, ?_, ?_⟩
  · simp [State.coreS, State.setCore]
  · rw [sumTick_get _ _ hf]; rfl
  · simp
  · simp
  · simp

/-- The same for the rows of the table, each of which accepts the words of its OP and function. -/
theorem reed_row_next {p : Nat} {o : ReedOp} {s : State} (h : Ready p o s) (eff : ReedOp → Rx → Rx)
    (hd : (eff o (s.rxAt p)).dbl = false) (hy : (eff o (s.rxAt p)).x.yext = []) :
    ∃ u, done s (fetchOne p .clean (rowIs o.code.1 o.code.2) eff s) = .next u ∧ u.coreS p = (eff o (s.rxAt p)).x
      ∧ (∀ f, Fd.quiet f = true → u.get f = (eff o (s.rxAt p)).s.get f)
      ∧ u.mem = (eff o (s.rxAt p)).s.mem ∧ u.flash = (eff o (s.rxAt p)).s.flash
      ∧ u.pending = (eff o (s.rxAt p)).s.pending :=
  reed_next h _ (row_of_decode h.decodes) eff hd hy

/-! ## Reads behind the writes of an effect -/

@[simp] theorem Rx.wr_s (r : Rx) (l k : Nat) (v : Int) : (r.wr l k v).s = r.s := rfl
@[simp] theorem Rx.wr_p (r : Rx) (l k : Nat) (v : Int) : (r.wr l k v).p = r.p := rfl
@[simp] theorem Rx.wr_c (r : Rx) (l k : Nat) (v : Int) : (r.wr l k v).c = r.c := rfl
@[simp] theorem Rx.wr_dbl (r : Rx) (l k : Nat) (v : Int) : (r.wr l k v).dbl = r.dbl := rfl
@[simp] theorem Rx.wr_idx (r : Rx) (l k : Nat) (v : Int) : (r.wr l k v).idx = r.idx := rfl
@[simp] theorem Rx.wr_pc (r : Rx) (l k : Nat) (v : Int) : (r.wr l k v).x.pc = r.x.pc := rfl
@[simp] theorem Rx.wr_cyc (r : Rx) (l k : Nat) (v : Int) : (r.wr l k v).x.cyc = r.x.cyc := rfl
@[simp] theorem Rx.wr_slot (r : Rx) (l k : Nat) (v : Int) : (r.wr l k v).x.slot = r.x.slot := rfl
@[simp] theorem Rx.wr_yext (r : Rx) (l k : Nat) (v : Int) : (r.wr l k v).x.yext = r.x.yext := rfl
@[simp] theorem Rx.wr_inst (r : Rx) (l k : Nat) (v : Int) : (r.wr l k v).x.inst = r.x.inst := rfl
@[simp] theorem Rx.wr_twr (r : Rx) (l k : Nat) (v : Int) : (r.wr l k v).x.twr = r.x.twr := rfl

/-- The stage behind the write reads it. -/
theorem Rx.wr_same (r : Rx) (l k n : Nat) (v : Int) (h : n = r.c + k + 1) : (r.wr l k v).x.rd l n = v :=
  CoreS.rd_append_same r.x ⟨l, r.c + k, v, none, false⟩ n h.symm

theorem Rx.wr_other (r : Rx) {l m : Nat} (k n : Nat) (v : Int) (h : l ≠ m) : (r.wr l k v).x.rd m n = r.x.rd m n :=
  CoreS.rd_append_other r.x n h

/-- A stage no later than the write's does not see it. -/
theorem Rx.wr_late (r : Rx) (l m k n : Nat) (v : Int) (h : n ≤ r.c + k) : (r.wr l k v).x.rd m n = r.x.rd m n :=
  CoreS.rd_append_late r.x m h

/-- Before its effect a fetch reads what the core's pipeline holds. -/
@[simp] theorem rxAt_rd (s : State) (p loc r : Nat) : (s.rxAt p).x.rd loc r = (s.fetchCore p).rd loc r := rfl
@[simp] theorem rxAt_s (s : State) (p : Nat) : (s.rxAt p).s = s := rfl
@[simp] theorem rxAt_p (s : State) (p : Nat) : (s.rxAt p).p = p := rfl
@[simp] theorem rxAt_c (s : State) (p : Nat) : (s.rxAt p).c = (s.coreS p).cyc := rfl
@[simp] theorem rxAt_idx (s : State) (p : Nat) : (s.rxAt p).idx = (s.coreS p).pc := rfl
@[simp] theorem rxAt_dbl (s : State) (p : Nat) : (s.rxAt p).dbl = false := rfl
@[simp] theorem rxAt_pc (s : State) (p : Nat) : (s.rxAt p).x.pc = ((s.coreS p).pc + 1) % 8192 := rfl
@[simp] theorem rxAt_cyc (s : State) (p : Nat) : (s.rxAt p).x.cyc = (s.coreS p).cyc + 1 := rfl
@[simp] theorem rxAt_slot (s : State) (p : Nat) : (s.rxAt p).x.slot = none := rfl
@[simp] theorem rxAt_inst (s : State) (p : Nat) : (s.rxAt p).x.inst = (s.coreS p).inst := rfl
@[simp] theorem rxAt_twr (s : State) (p : Nat) : (s.rxAt p).x.twr = (s.coreS p).twr := rfl
@[simp] theorem rxAt_yext (s : State) (p : Nat) : (s.rxAt p).x.yext = (s.coreS p).yext := rfl
@[simp] theorem rxAt_pend (s : State) (p : Nat) : (s.rxAt p).x.pend = (s.coreS p).pend := rfl

end Sys2Proof.Machine
end

