-- ==== Sys2Proof/Machine/Balls.lean ====
section
/-!
DEFINITION. What the balls that the node's state decides show: supplies' enables, regulator phases, SAFE_N, the flash reset,
interrupt, trigger and clock balls, the serial ports, and the ball map (R235, R238, R254, R259, R260, R264, R271, R273, R275, R276, R349, R368, R385,
R383, R387, R388, R400–R403, R405, R406).
-/
namespace Sys2Proof.Machine

/-- What a ball shows: a driven level, high impedance, or a waveform of the unit that owns it. -/
inductive Level where
  | low | high | hiz | driven
  deriving DecidableEq, Repr

/-- The level of a driven bit. -/
def levelOf (b : Bool) : Level := if b then .high else .low

/-- SAFE_N is open drain: low while asserted, and with the supply absent (R322, R406). -/
def State.ballSafeN (s : State) : Level := if s.sys.safeN || s.sys.off then .low else .hiz

/-- IO33_EN: high with rail 15 (R406). -/
def State.ballIo33En (s : State) : Level := levelOf (s.railOn 15)

/-- The rail of the controller of phase `n` (R384). -/
def phaseRail (n : Nat) : Nat := if n < 3 then 0 else if n < 5 then 1 else 2

/-- PWM of phase `n`: high impedance where the phase is not driven or its controller has not started (R405, R406). -/
def State.ballPwm (s : State) (n : Nat) : Level := if s.phaseDriven n && s.railOn (phaseRail n) then .driven else .hiz

/-- PS_EN of controller `m`: high from its start (R402, R406). -/
def State.ballPsEn (s : State) (m : Nat) : Level := levelOf (s.railOn m)

/-- HU_SINK_EN is high, and HU_CHG_EN low, during the hold-up measurement only (R349, R406). -/
def State.ballHuSink (s : State) : Level := levelOf (s.sys.holdDue && !s.sys.off)
def State.ballHuChg (s : State) : Level := levelOf (!s.sys.holdDue && !s.sys.off)

/-- XSPI_RST_N: low until P + 11 ms (R406). -/
def State.ballXspiRst (s : State) : Level :=
  if !s.railOn 4 then .hiz else levelOf (decide (s.pmu.origin + 11 * uMs ≤ s.now))

/-- A CMOS33 output that its unit drives: high impedance while its bank is off (R406). -/
def State.ballOut (s : State) (l : Level) : Level := if s.railOn 15 then l else .hiz

/-- HS_IRQ_N is open drain: low while an enabled event of slot 5 is pending (R368). -/
def State.ballHsIrq (s : State) : Level := s.ballOut (if s.hsIrqLow then .low else .hiz)

/-- TTRIG ball `o` (R254, R256). -/
def State.ballTtrig (s : State) (o : Nat) : Level := s.ballOut (levelOf (mget ({} : TtrigS) o s.time.ttrig).high)

/-- CLKSTAT `k` and REFACT `k` show PP_STAT.STATE and ACTIVE, and hold under HALT (R235, R239, R241). -/
def State.ballClkstat (s : State) (k : Nat) : Level := s.ballOut (levelOf (bitOf (s.pp.hold.getD s.ppLevels) (3 + k)))
def State.ballRefact (s : State) (k : Nat) : Level := s.ballOut (levelOf (bitOf (s.pp.hold.getD s.ppLevels) (6 + k)))

/-- Clock output `k`: MCLK_OUT0, MCLK_OUT1, WCLK_OUT (R238). -/
def State.ballClock (s : State) (k : Nat) : Level := s.ballOut (levelOf (s.clkLevel k))

/-- Outputs of the module cage of port `p`: TX_DISABLE, and RS0 and RS1 (R169, R171). -/
def State.ballTxDisable (s : State) (p : Nat) : Level :=
  s.ballOut (levelOf (!s.on (F.NET_CTRL_EN p) || s.on (F.SFP_CTRL_TXDIS p)))
def State.ballRs (s : State) (p j : Nat) : Level := s.ballOut (levelOf (bitOf (s.get (F.SFP_CTRL_RS p)) j))

/-- BSICLK of group `g`: 6.144 or 12.288 MHz with a rising edge at every breath instant while CLK_EN, held low under HALT (R276,
R283). -/
def State.ballBsiclk (s : State) (g : Nat) : Level :=
  let half : Int := if s.bit F.BSI_CTRL_CLK_FAST g then 2 else 4
  s.ballOut (levelOf (s.bit F.BSI_CTRL_CLK_EN g && !s.fcu.pinsHold && s.audioHalves / half % 2 == 0))

/-- The instant, in 1/256 ns after a breath instant, at which channel `c` samples the bit of the `k`-th rising edge of its clock from that
instant on (R276). -/
def State.bsiSampleOfs (s : State) (c k : Nat) : Nat := k * 256000000000 / s.bsiHz c + s.get (F.BSIc_CFG_DLY c) * 640

/-- Switching frequency of the regulators in Hz: SYNC, with a rising edge of phase 0 at every breath instant, or SPREAD before its
modulation (R388). -/
def State.switchHz (s : State) : Nat := if s.get F.PMU_STAT_SWMODE == 0 then 1920000 else 1500000

/-- The lanes of port `p`: electrical idle until the port is enabled, and powered down in low-power idle (R383, R406). -/
def State.ballLane (s : State) (p : Nat) : Level :=
  if s.on (F.NET_CTRL_EN p) && !s.on (F.NET_STAT_LPI_TX p) then .driven else .hiz

/-- The PCIe lanes: electrical idle until the link is up (R406). -/
def State.ballPcie (s : State) : Level := if s.on F.HOST_STAT_PCIE_UP then .driven else .hiz

/-! ## The input filters (R403) -/

/-- The filter time of FILT `f`, in 1/256 ns. -/
def filterTime (f : Nat) : Nat :=
  match f with
  | 1 => 2 * 256 | 2 => 5 * 256 | 3 => 20 * 256 | 4 => 100 * 256 | 5 => uUs | 6 => uMs | _ => 0

/-- Whether a level held for `d` passes pad `i`; none in the range between, which R403 leaves open. -/
def State.padPasses (s : State) (i d : Nat) : Option Bool :=
  let f := filterTime (s.get (F.PMU_PAD_CFG_FILT i))
  if d < f then some false else if f + 5 * 256 ≤ d && 10 * 256 ≤ d then some true else none

/-- What the filter of pad `i` delays an input by. -/
def State.padDelay (s : State) (i : Nat) : Nat := filterTime (s.get (F.PMU_PAD_CFG_FILT i)) + 3 * 256

/-! ## The ball map (R400, R401) -/

/-- What a ball is for: VSS, a rail, a digital pad by its index, lane balls by number in the order of R401 (four of each port, then
PCIe's), an analogue input, a crystal or oscillator ball, or nothing. -/
inductive BallUse where
  | vss | xoIn | reserved
  | rail (r : Nat)
  | pad (i : Nat)
  | portLane (k : Nat)
  | pcieLane (k : Nat)
  | xtal32 (k : Nat)
  | analogue (k : Nat)
  deriving DecidableEq, Repr

/-- The entries of each side in order: how many balls, and what the `k`-th of them is (R401). -/
def northBalls : List (Nat × (Nat → BallUse)) :=
  [(20, .portLane), (10, .pcieLane), (1, fun _ => .pad 197), (1, fun _ => .xoIn), (2, .xtal32), (8, fun _ => .rail 10),
   (12, fun _ => .rail 11), (10, fun _ => .rail 12), (6, fun _ => .rail 8), (4, fun _ => .rail 9), (2, fun _ => .rail 6),
   (2, fun _ => .rail 13), (90, fun _ => .rail 1), (7, fun _ => .reserved)]
def southBalls : List (Nat × (Nat → BallUse)) :=
  [(80, .pad), (36, fun k => .pad (80 + k)), (18, fun k => .pad (179 + k)), (5, fun k => .pad (174 + k)), (6, fun k => .pad (168 + k)),
   (16, fun _ => .rail 15), (14, fun _ => .reserved)]
def westBalls : List (Nat × (Nat → BallUse)) :=
  [(40, fun k => .pad (116 + k)), (12, fun k => .pad (156 + k)), (24, fun _ => .rail 4), (16, fun _ => .rail 3), (3, fun _ => .reserved)]
def eastBalls : List (Nat × (Nat → BallUse)) :=
  [(17, fun k => .pad (198 + k)), (14, .analogue), (50, fun _ => .rail 2), (4, fun _ => .rail 5), (2, fun _ => .rail 7),
   (4, fun _ => .rail 14), (4, fun _ => .reserved)]

/-- The `k`-th ball of a side. -/
def sideBall : List (Nat × (Nat → BallUse)) → Nat → BallUse
  | [], _ => .reserved
  | (n, f) :: l, k => if k < n then f k else sideBall l (k - n)

/-- The ball in row `r` and column `c`, both from 1 to 39: even ones are VSS; odd ones are VDD_ENG in the middle, and belong to a side,
taken from the edge inwards, elsewhere (R400, R401). -/
def ballAt (r c : Nat) : BallUse :=
  if (r + c) % 2 = 0 then .vss
  else if r < 10 then sideBall northBalls (39 * (r - 1) / 2 + (c - 1) / 2)
  else if 30 < r then sideBall southBalls (39 * (39 - r) / 2 + (c - 1) / 2)
  else if c < 10 then sideBall westBalls ((21 * (c - 1) + 1) / 2 + (r - 10) / 2)
  else if 30 < c then sideBall eastBalls ((21 * (39 - c) + 1) / 2 + (r - 10) / 2)
  else .rail 0

/-! ## Serial audio ports (R259, R260) -/

/-- The port is a master whose clocks run: from its first frame until it stops, but not between the modes of a mode apply nor under
HALT (R264, R265, R275). -/
def State.sapClocked (s : State) (p : Nat) : Bool :=
  s.sapMaster p && (s.sapS p).frame.isSome && saRUN ≤ s.sapState p && !s.modeGap && !s.fcu.pinsHold

/-- Half bit clocks since the FS edge of the frame in progress of a master port (R261, R265). -/
def State.sapHalfBits (s : State) (p : Nat) : Nat :=
  let x := s.sapS p
  match x.map, x.frame with
  | some m, some f => ((s.since (m + f).toNat - x.ofs) * (2 * (s.sapHz p * (s.sapSlots p * s.sapSlotW p)) : Nat) / 256000000000).toNat
  | _, _ => 0

/-- SAPp_BCLK: a master's bit clock, whose falling edge begins each bit; BCLK_INV exchanges the edges. A slave receives it (R259, R260). -/
def State.ballBclk (s : State) (p : Nat) : Level :=
  s.ballOut (if !s.sapMaster p then .hiz
    else levelOf (s.sapClocked p && (s.sapHalfBits p % 2 == 1) != s.on (F.SAPp_CFG_BCLK_INV p)))

/-- FS in bit clock `j` of a frame, before FS_INV, by the table of R260. -/
def State.fsShape (s : State) (p j : Nat) : Bool :=
  match s.get (F.SAPp_CFG_FMT p) with
  | 0 => decide (s.sapSlotW p ≤ j)
  | 1 => decide (j < s.sapSlotW p)
  | _ => decide (j < if s.on (F.SAPp_CFG_FSW p) then s.sapSlotW p else 1)

/-- SAPp_FS (R259, R260). -/
def State.ballFs (s : State) (p : Nat) : Level :=
  s.ballOut (if !s.sapMaster p then .hiz
    else levelOf (s.sapClocked p && s.fsShape p (s.sapHalfBits p / 2) != s.on (F.SAPp_CFG_FS_INV p)))

/-- The word that output slot `t` carries in the frame in progress: a BREATH port's output word, or the last one again after an underrun;
what the converters gave a FOREIGN port (R263, R272). -/
def State.sapWordOut (s : State) (p t : Nat) : Int :=
  let x := s.sapS p
  match x.map, x.frame with
  | some m, some f =>
    if s.sapForeign p || x.under.contains t then mget 0 t x.txw
    else s.sapTrim p (s.outWord (sapOut p t) ((m + f).toNat - s.get (F.SAPp_MAP_TXLAG p))).1
  | _, _ => mget 0 t x.txw

/-- Bit `i` of slot `t`, MSB first: the leading WORD bits carry the sample and the rest is 0; a disabled slot and a slot of a port in
loss of clock drive 0, or nothing with TXHIZ (R262, R271, R273). -/
def State.sapSlotBit (s : State) (p t i : Nat) (w : Int) : Level :=
  if !bitOf (s.sapS p).tx t || s.sapState p == saLOCLK then (if s.on (F.SAPp_CFG_TXHIZ p) then .hiz else .low)
  else levelOf (!s.sapMuted p && i < s.sapWord p && bitOf (ux 32 w) (31 - i))

/-- SAPp_DOUT in bit clock `j` of the frame in progress, which a slave counts on the clock it receives; with D = 1 the first bit clock
carries the last bit of the frame before. 0 while no frame runs, from EN = 0 on, and under HALT (R260, R264, R275). -/
def State.ballDout (s : State) (p j : Nat) : Level :=
  let x := s.sapS p
  let k := j - s.sapD p
  let t := k / max 1 (s.sapSlotW p)
  s.ballOut (if x.frame.isNone || x.closing || s.fcu.pinsHold then .low
    else if j < s.sapD p then
      (let z := s.sapSlots p - 1
       if x.frame == some 0 then .low else s.sapSlotBit p z (s.sapSlotW p - 1) (mget 0 z x.txw))
    else if s.sapSlots p ≤ t then .low
    else s.sapSlotBit p t (k % max 1 (s.sapSlotW p)) (s.sapWordOut p t))

end Sys2Proof.Machine
end

