-- ==== Sys2Proof/WellFormed.lean ====
section
/-!
DEFINITION. What the operands of a command may be: which commands the world outside the node can send. A command that is not
well formed names a master, a register, a port or an instance that no bus, no pin and no table of the manual has.
-/
namespace Sys2Proof

/-- A number below `n`. -/
def below (n x : Nat) : Bool := decide (x < n)

/-- A register word (R7). -/
def word (v : Nat) : Bool := below (2 ^ 32) v

/-- A master ID of R26: 12 to 15 and 23 and above are reserved. -/
def master (m : Nat) : Bool := below 12 m || (decide (16 ≤ m) && below 23 m)

/-- A physical address of 40 bits (R24). -/
def address (a : Nat) : Bool := below (2 ^ 40) a

/-- A register address: on a word boundary, in the register blocks or in the windows of the cores (R24, R25). -/
def regAddress (a : Nat) : Bool :=
  decide (a % 4 = 0) && ((decide (0x20000000 ≤ a) && below 0x20190000 a) || (decide (0x40000000 ≤ a) && below 0x42200000 a))

/-- A width the fabric carries (R10). -/
def accessWidth (w : Nat) : Bool := w == 1 || w == 2 || w == 4 || w == 8

/-- A receive stream: AVTP 0 to 63, AES67 from 128 to 159 (R198). -/
def receiveStream (i : Nat) : Bool := below 64 i || (decide (128 ≤ i) && below 160 i)

/-- A list of `n` readings. -/
def ofLength {α : Type} (n : Nat) (l : List α) : Bool := l.length == n

/-- Corrected errors in several of the words of one read: at least two, and no read has more than eight words. -/
def eccOk (e : Ecc) : Bool := match e with | .ces n => decide (2 ≤ n) && below 9 n | _ => true

/-- A page-table entry is one word of 64 bits: its read meets no more than one error (R360). -/
def viaOk (v : Via) : Bool := match v with | .bar2 (.ces _) => false | .sv39 c => below (2 ^ 44) c.root | _ => true

/-- The operands of a command are in their ranges. -/
def WellFormed (i : Instr) : Bool :=
  match i with
  | .registerWrite m a v => master m && regAddress a && word v
  | .pairLowRead m a => master m && regAddress a
  | .memoryAccess p m a w _ v e => viaOk p && master m && address a && accessWidth w && below (2 ^ 64) v && eccOk e
  | .powerOnReset _ => true
  | .aonLoss _ => true
  | .xoCheck _ _ => true
  | .railStart r _ _ => below 16 r
  | .railSeqTimeout r _ => below 16 r
  | .dramTrainingDone _ => true
  | .journalScan _ => true
  | .slotChoose _ => true
  | .directoryCheck _ => true
  | .bootConfiguration _ => true
  | .holdupMeasureDone _ _ _ => true
  | .voiceImageBootLoad _ => true
  | .bootBreathZero _ => true
  | .modeApply m v => master m && word v
  | .modeLastBreath _ => true
  | .clocksReconfigured _ => true
  | .applyAnchorTimeout _ => true
  | .applyDone _ => true
  | .unitReset m v => master m && word v
  | .unitResetRelease _ => true
  | .warmRestart m v => master m && word v
  | .resetN _ => true
  | .watchdogExpiry _ => true
  | .dispRun m v => master m && word v
  | .dispStop m v => master m && word v
  | .breathStart _ => true
  | .dispStopped _ => true
  | .taskTimeTrigger l k _ _ => below 128 l && below 128 k
  | .coreWake l _ => below 128 l
  | .instanceStart l k _ _ => below 128 l && below 128 k
  | .deadlineMiss l k _ _ => below 128 l && below 128 k
  | .instanceAbort p _ => below 136 p
  | .instanceComplete p _ => below 136 p
  | .clrCore m => master m
  | .clrTbt m => master m
  | .clrEvt m => master m
  | .clrMiss m => master m
  | .tbtDataRead m => master m
  | .rotationStepStart _ => true
  | .handoverBulkDone _ => true
  | .handoverCatchupDone _ => true
  | .handoverSwitch _ => true
  | .bistStart _ => true
  | .bistEnd _ _ => true
  | .bistRequest m v => master m && word v
  | .spareSelect l _ => below 128 l
  | .fenceRampOut l _ => below 128 l
  | .spareLoadDone l _ => below 128 l
  | .nop p e => below 136 p && eccOk e
  | .tend p e => below 136 p && eccOk e
  | .b p e => below 136 p && eccOk e
  | .bc p e => below 136 p && eccOk e
  | .call p e => below 136 p && eccOk e
  | .jr p e => below 136 p && eccOk e
  | .loop p e => below 136 p && eccOk e
  | .loopr p e => below 136 p && eccOk e
  | .trap p e => below 136 p && eccOk e
  | .rti p e => below 136 p && eccOk e
  | .mvs p e => below 136 p && eccOk e
  | .mfs p e => below 136 p && eccOk e
  | .mvi p e => below 136 p && eccOk e
  | .add p e => below 136 p && eccOk e
  | .sub p e => below 136 p && eccOk e
  | .adds p e => below 136 p && eccOk e
  | .subs p e => below 136 p && eccOk e
  | .iAnd p e => below 136 p && eccOk e
  | .iOr p e => below 136 p && eccOk e
  | .xor p e => below 136 p && eccOk e
  | .min p e => below 136 p && eccOk e
  | .max p e => below 136 p && eccOk e
  | .abss p e => below 136 p && eccOk e
  | .shl p e => below 136 p && eccOk e
  | .shr p e => below 136 p && eccOk e
  | .shra p e => below 136 p && eccOk e
  | .slt p e => below 136 p && eccOk e
  | .addi p e => below 136 p && eccOk e
  | .ldi p e => below 136 p && eccOk e
  | .shiShl p e => below 136 p && eccOk e
  | .shiShr p e => below 136 p && eccOk e
  | .shiShra p e => below 136 p && eccOk e
  | .shls p e => below 136 p && eccOk e
  | .ldx p e => below 136 p && eccOk e
  | .ldy p e => below 136 p && eccOk e
  | .stx p e => below 136 p && eccOk e
  | .sty p e => below 136 p && eccOk e
  | .stxa p e => below 136 p && eccOk e
  | .stya p e => below 136 p && eccOk e
  | .mulMpy p e => below 136 p && eccOk e
  | .mulMac p e => below 136 p && eccOk e
  | .mulMsu p e => below 136 p && eccOk e
  | .dmulMpy p e => below 136 p && eccOk e
  | .dmulMac p e => below 136 p && eccOk e
  | .dmulMsu p e => below 136 p && eccOk e
  | .mulmMpy p e => below 136 p && eccOk e
  | .mulmMac p e => below 136 p && eccOk e
  | .mulmMsu p e => below 136 p && eccOk e
  | .dmulmMpy p e => below 136 p && eccOk e
  | .dmulmMac p e => below 136 p && eccOk e
  | .dmulmMsu p e => below 136 p && eccOk e
  | .ftap p e => below 136 p && eccOk e
  | .ftap2 p e => below 136 p && eccOk e
  | .clra p e => below 136 p && eccOk e
  | .mova p e => below 136 p && eccOk e
  | .adda p e => below 136 p && eccOk e
  | .suba p e => below 136 p && eccOk e
  | .accsh p e => below 136 p && eccOk e
  | .rnd p e => below 136 p && eccOk e
  | .lda p e => below 136 p && eccOk e
  | .trd p e => below 136 p && eccOk e
  | .twr p e => below 136 p && eccOk e
  | .interruptEntry p => below 136 p
  | .interruptReturn p => below 136 p
  | .debugHalt m p v => master m && below 136 p && word v
  | .coreHalted p _ => below 136 p
  | .debugStep m p v => master m && below 136 p && word v.v && eccOk v.e
  | .clrEccCe m p => master m && below 136 p
  | .tapDefaultCommit _ => true
  | .busComplete n _ _ => below 1024 n
  | .zcTimeout src bus _ _ => below 8192 src && below 1024 bus
  | .gainRampEnd src bus _ => below 8192 src && below 1024 bus
  | .matrixSwapRequest m v => master m && word v
  | .swapValidationDone _ => true
  | .matrixSwap _ => true
  | .swapDone _ => true
  | .clrFmtsat m => master m
  | .clrBussat m => master m
  | .mailboxPost m k v => master m && below 8 k && word v
  | .mailboxApply k _ => below 8 k
  | .mailboxWordLand l _ => below 128 l
  | .asrcLock k _ => below 256 k
  | .asrcUnlock k _ _ => below 256 k
  | .delayDelivery j _ => below 4096 j.v && eccOk j.e
  | .delayFetchIssue j _ => below 4096 j
  | .delayLate j _ _ _ => below 4096 j
  | .delayChangePost m v => master m && word v
  | .delayChangeApply j _ => below 4096 j
  | .delayXfadeEnd j _ => below 4096 j
  | .scrubRead e _ => eccOk e
  | .dmaGo m k v => master m && below 16 k && word v
  | .dmaAbort m k v => master m && below 16 k && word v
  | .dmaBurstEnd _ _ => true
  | .arbitrate tg q _ => below 153 tg && q.reqs.all (fun r => below 9 r.1)
  | .clrArbStats m => master m
  | .acquire m j tk => master m && below 16 j && below (2 ^ 16) tk
  | .renew m j tk => master m && below 16 j && below (2 ^ 16) tk
  | .release m j tk => master m && below 16 j && below (2 ^ 16) tk
  | .verify m j tk => master m && below 16 j && below (2 ^ 16) tk
  | .verifyDone j _ => below 16 j
  | .reopen m j tk => master m && below 16 j && below (2 ^ 16) tk
  | .commit m j tk => master m && below 16 j && below (2 ^ 16) tk
  | .vacate m j tk => master m && below 16 j && below (2 ^ 16) tk
  | .cancel m j tk => master m && below 16 j && below (2 ^ 16) tk
  | .leaseLapse j _ => below 16 j
  | .forcedBreak m v => master m && word v
  | .commitRampout j _ => below 16 j
  | .commitDrain j _ => below 16 j
  | .commitLoading j _ => below 16 j
  | .commitLoadDone j _ => below 16 j
  | .commitRestart j _ => below 16 j
  | .rampinEnd j _ => below 16 j
  | .clrLoadmax m => master m
  | .portEnable m p v => master m && below 5 p && word v
  | .portDisable m p v => master m && below 5 p && word v
  | .anPageExchange p ab _ => below 5 p && below (2 ^ 16) ab
  | .anBreakLinkTimer p _ => below 5 p
  | .trainingComplete p _ => below 5 p
  | .trainingTimeout p _ => below 5 p
  | .linkUp p _ => below 5 p
  | .alignTimeout p _ => below 5 p
  | .linkDown p _ _ _ => below 5 p
  | .speedStep p _ _ => below 5 p
  | .lpiEnter p _ => below 5 p
  | .moduleInsert p _ _ _ => below 5 p
  | .moduleIdRead p bs _ => below 5 p && ofLength 96 bs
  | .moduleRemove p _ => below 5 p
  | .ddmPoll p bs _ => below 5 p && ofLength 10 bs.bs
  | .sfpRead m p dev ofs len => master m && below 5 p && below 128 dev && below 256 ofs && below 4 len
  | .sfpWrite m p dev ofs len => master m && below 5 p && below 128 dev && below 256 ofs && below 4 len
  | .sfpTransferDone p _ data _ => below 5 p && word data
  | .frameReceive p _ _ _ _ _ _ => below 5 p
  | .ringTailWrite m p r v => master m && below 5 p && below 10 r && word v
  | .ringEnable m p r => master m && below 5 p && below 10 r
  | .ringDisable m p r => master m && below 5 p && below 10 r
  | .txFrameQueue p k _ _ => below 5 p && below 6 k
  | .frameTransmit p _ => below 5 p
  | .txFrameDone p _ => below 5 p
  | .clrNetCounters m p => master m && below 5 p
  | .streamEnable m v => master m && word v
  | .streamDisable m v => master m && word v
  | .jitterSampleRelease j _ => receiveStream j
  | .sampleMissing j _ => below 64 j
  | .takeAnyReset j _ => below 64 j
  | .pathTimeout j _ _ => below 64 j
  | .frameClose j _ => below 64 j
  | .aes67PacketSend j _ => below 32 j
  | .gclCommit m v => master m && word v
  | .gclOperative _ => true
  | .gateEntry p k _ => below 5 p && below 64 k
  | .clrStreamCounters m => master m
  | .ptpSample m n v => master m && below 2 n && word v
  | .refSample r _ _ => below 5 r
  | .frequencyEstimate _ => true
  | .refQualified r _ => below 5 r
  | .refInvalid r _ _ => below 5 r
  | .selWrite m v => master m && word v
  | .steerEnable m v => master m && word v
  | .freerunRateWrite m v => master m && word v
  | .switchComplete _ => true
  | .lockAchieved _ => true
  | .lockLoss _ => true
  | .reversion _ => true
  | .holdRateUpdate _ => true
  | .phaseStepSlew m v => master m && word v
  | .phaseStepImmediate m v => master m && word v
  | .slewDone _ => true
  | .clockOutputStart k _ => below 3 k
  | .rateWrite m v => master m && word v
  | .rateFold _ => true
  | .offsetStep m v => master m && word v
  | .servoReset m v => master m && word v
  | .snapshot m v => master m && word v
  | .triggerEnable m k v => master m && below 8 k && word v
  | .triggerFire k _ => below 8 k
  | .pulseEnd o _ => below 4 o
  | .capture c _ _ => below 4 c
  | .captureRead m c => master m && below 8 c
  | .txtsRead m p => master m && below 5 p
  | .sapEnable m p v => master m && below 16 p && word v
  | .sapDisable m p v => master m && below 16 p && word v
  | .sapFrameStart p _ _ => below 16 p
  | .slotReceive p sl w _ => below 16 p && below 32 sl && word w.w
  | .slotMissing p sl _ _ => below 16 p && below 32 sl
  | .outputUnderrun p sl _ => below 16 p && below 32 sl
  | .blockStamp p _ _ => below 16 p
  | .lossOfClock p _ => below 16 p
  | .clockRecovered p _ => below 16 p
  | .maskWrite m p _ v => master m && below 16 p && word v
  | .maskEpoch p _ => below 16 p
  | .cableMeasure p _ _ => below 16 p
  | .bsiEnable m c v => master m && below 32 c && word v
  | .bsiDisable m c v => master m && below 32 c && word v
  | .bsiFillDone c _ => below 32 c
  | .bsiRampinEnd c _ => below 32 c
  | .bsiCommit c _ _ => below 32 c
  | .bsiOverload c _ _ _ => below 32 c
  | .freezeWrite m c v => master m && below 32 c && word v
  | .pairingEnable m v => master m && word v
  | .pairingDisable m v => master m && word v
  | .helloSend _ => true
  | .hello _ => true
  | .breathFrameSend _ => true
  | .heartbeat _ => true
  | .digestCompare _ => true
  | .flatline _ => true
  | .roleResolve _ => true
  | .yield m v => master m && word v
  | .yieldReceive _ => true
  | .roleSwap _ => true
  | .commitNote _ => true
  | .reseatReq _ => true
  | .seatCaptured _ => true
  | .reseatData _ => true
  | .reseatEnd _ => true
  | .reseatAck _ => true
  | .seatLoaded _ => true
  | .reseatComplete _ => true
  | .reseatTimeout _ => true
  | .reseatRetryWaitEnd _ => true
  | .faultEvent src idx _ _ => below 128 src && below (2 ^ 16) idx
  | .brokenWire src _ _ => below 128 src
  | .audioStop _ => true
  | .shadowEnd g _ => below 28 g
  | .quietAutoRestart _ => true
  | .qrestartAge _ => true
  | .haltFlushDone _ => true
  | .configCheckFail w diff _ _ => below 42 w && word diff
  | .configLock m v => master m && word v
  | .faultForce m k v => master m && below 4 k && word v
  | .recordRead m => master m
  | .recordCommit _ _ => true
  | .checkpoint _ => true
  | .reclaim _ _ => true
  | .ageCheck _ => true
  | .hoursRecord _ => true
  | .journalAppend m v => master m && word v
  | .flashWindowRead m v => master m && word v
  | .flashWindowReadDone _ => true
  | .inputFall _ => true
  | .inputRecover _ => true
  | .bootConfirm m v => master m && word v
  | .floorBurn m v => master m && word v
  | .keyRevoke m v => master m && word v
  | .authCheck m v => master m && word v
  | .authDone _ => true
  | .request e => e.es.all eccOk
  | .sync _ => true
  | .event n _ => below 6 n
  | .slotTune m n _ => master m && below 6 n
  | .tuneDone n _ => below 6 n
  | .kick m n v => master m && below 6 n && word v
  | .bellIn m n => master m && below 6 n
  | .bellOut m n => master m && below 6 n
  | .pcieReset _ _ => true
  | .status _ => true
  | .spiRead a _ l _ => below (2 ^ 32) a && l.late.all word && l.es.all eccOk
  | .qread a _ l _ => below (2 ^ 32) a && l.late.all word && l.es.all eccOk
  | .spiWrite a ws _ => below (2 ^ 32) a && ws.all word
  | .qwrite a ws _ => below (2 ^ 32) a && ws.all word
  | .spiTune _ _ => true
  | .resetSlot b0 b1 _ => below 256 b0 && below 256 b1
  | .flashRead a _ _ => below (2 ^ 32) a
  | .flashProgram a _ _ _ _ => below (2 ^ 32) a
  | .flashErase a _ _ _ => below (2 ^ 32) a
  | .flashStatus _ => true
  | .mmuFlush m v => master m && word v
  | .mmuFlushDone _ => true
  | .requestStandby m v => master m && word v
  | .requestNap m v => master m && word v
  | .requestReady m v => master m && word v
  | .pstateTransitionDone _ => true
  | .wakeN _ => true
  | .alarm _ => true
  | .spiWake _ => true
  | .linkWake p _ => below 5 p
  | .railUndervoltage r _ => below 16 r
  | .railOvervoltage r _ => below 16 r
  | .avsStep _ _ => true
  | .avsEmergency _ => true
  | .adcRound rails _ _ temps _ _ => ofLength 16 rails && ofLength 8 temps
  | .lineEnable m j v => master m && below 32 j && word v
  | .measGo m v => master m && word v
  | .measureDone _ => true
  | .powerGood _ => true
  | .resetNRelease _ => true
  | .testLogicReset _ => true
  | .heartbeatMiss _ => true
  | .reseatDataSend _ => true
  | .pcieLinkUp width speed _ _ => below 16 width && below 16 speed
  | .receiveLpi p _ _ => below 5 p

end Sys2Proof
end

