-- ==== Sys2Proof/Tests/Slice0.lean ====
section
/-!
SUPPORT. Tests: ill-formed commands that WellFormed refuses; instruction words of the Reed core written out from the fields of
R74 with what they decode to; and, for every clause of the statements, a state and operands that meet its hypotheses together.
-/
namespace Sys2Proof.Machine

set_option Elab.async false

/-- A check of R356 that passes, as one Boolean. -/
theorem admitted_of {x : Acc1} {s : State}
    (h : (s.alive && s.served x.m && decide (s.check x = .ok) && !s.regClosed x.a) = true) : Admitted x s := by
  simp only [Bool.and_eq_true, Bool.not_eq_true', decide_eq_true_eq] at h
  exact ⟨h.1.1.1, h.1.1.2, h.1.2, h.2⟩

/-- A core that fetches in the open, as one Boolean. -/
theorem ready_of {p : Nat} {o : ReedOp} {s : State}
    (h : (s.alive && (s.coreS p).fetches && !s.haltAt p && (s.coreS p).yext.isEmpty && (s.coreS p).slot.isNone
      && decide (reedDecode (s.word (iBase p + 4 * (s.coreS p).pc)) = some o) && !(s.fetchCore p).loopEnd) = true) : Ready p o s := by
  simp only [Bool.and_eq_true, Bool.not_eq_true', decide_eq_true_eq, Option.isNone_iff_eq_none, List.isEmpty_iff] at h
  exact ⟨h.1.1.1.1.1.1, h.1.1.1.1.1.2, h.1.1.1.1.2, h.1.1.1.2, h.1.1.2, h.1.2, h.2⟩

/-- The outcome is a next state, as one Boolean. -/
theorem next_of {o : Host.Outcome State Fault Refusal} (h : (match o with | .next _ => true | _ => false) = true) :
    ∃ u, o = .next u := by
  cases o with
  | next u => exact ⟨u, rfl⟩
  | fault f => cases h
  | refused r => cases h

/-- A word of a memory target that may be reached, as one Boolean. -/
theorem wordOpen_of {m a v : Nat} {wr : Bool} {s : State}
    (h : (decide (a < 2 ^ 40) && (match targetOf a with | some (.mem t) => decide (t ≠ 3) && decide (t ≠ 4) && s.memOn t | _ => false)
      && (s.alive && s.served m && decide (s.check { m := m, a := a, w := 4, wr := wr, val := v } = .ok) && !s.regClosed a)) = true) :
    WordOpen m a wr v s := by
  simp only [Bool.and_eq_true, decide_eq_true_eq] at h
  refine ⟨h.1.1, ?_, admitted_of (by simpa using h.2)⟩
  have h2 := h.1.2
  split at h2
  · rename_i t ht
    simp only [Bool.and_eq_true, decide_eq_true_eq] at h2
    exact ⟨t, ht, h2.1.1, h2.1.2, h2.2⟩
  · cases h2

/-! ## Small states -/

/-- A node in READY that takes commands. -/
def w0 : State := State.reset.set F.PMU_STAT_PSTATE 3
/-- The same with the dispatcher in RUNNING at breath `n`, and device time running. -/
def wR (n : Nat) : State := { w0.set F.DISP_STAT_STATE 2 with disp := { n := n, started := true }, time := { on := true } }
/-- A task of logical core 0 with kind and argument, deadline 2,000 ns, eight taps. -/
def wT (k : TKind) (arg : Nat) : TaskE := { kind := k, entry := 16, arg := arg, deadline := 2000, expect := 500, outBase := 8, outCount := 8, budget := 1000 }
/-- Core `c` runs an instance of task 0 of its logical core. -/
def wC (c : Nat) : CoreS := { inst := some ⟨c, 0, 0, 0, 0, 8⟩, base := [(locIE, 1)] }
/-- Line `j` valid in section 0, which runs, at breath `n`: delay `d`, longest 64, from tap 2; `dr` in DRAM. -/
def wL (n j d dr : Nat) : State :=
  ((((wR n).set (F.DLY_LINE_DATA_WORD 0 j) (0x80000000 + dr * 2 ^ 30 + d)).set (F.DLY_LINE_DATA_WORD 1 j) 64).set
    (F.DLY_LINE_DATA_WORD 2 j) 0x20010).set (F.SECn_STAT_STATE 0) 1
/-- Bank 0 holds one crosspoint: tap 1 into bus 2. -/
def wX (n : Nat) : State := (((wR n).set (F.MTX_BANK_COUNT_COUNT 0) 1).setWord 0x60000000 0x7FFFFFFF).setWord 0x60000004 0x10002
def wG (s : State) (g : GainS) : State := { s with mtx := { s.mtx with gain := [(1026, g)] } }
/-- The lock of section `i` stands in state `st` under master 0 and ticket 7, its lease ending 1 s on. -/
def wK (s : State) (i st : Nat) (x : SecS) : State :=
  ((s.set (F.SECn_LOCK_STATE i) st).set (F.SECn_LOCK_TICKET i) 7).setSec i { x with leaseEnd := uS }
/-- A node in STANDBY whose boot stands at the step `p`. -/
def wB (p : BootPh) : State := { State.reset with sys := { State.reset.sys with boot := p } }
/-- Port `p` with LSTATE `st`. -/
def wN (p st : Nat) : State := (w0.set (F.NET_CTRL_EN p) 1).set (F.NET_STAT_LSTATE p) st
def fcs (b : List Byte) : List Byte := b ++ leBytes 4 (crc32 b)
def fr (et : Nat) : List Byte := List.replicate 12 0xFF ++ beBytes 2 et ++ List.replicate 46 0x11
/-- Stream `i` with words 0 and 1, in state `st`, with hidden state `x`, in breath `n`. -/
def wS (n i w0' w1 st : Nat) (x : StrmS) : State :=
  ((((wR n).set (F.STRM_DESC_WORD 0 i) w0').set (F.STRM_DESC_WORD 1 i) w1).set (F.STRM_DSTAT_STATE i) st).setStrm i x
/-- Port `p` in state `st` at 96 kHz with `sl` slots of 32 bits, BREATH domain, slave, hidden state `x`, in breath `n`. -/
def wP (n p st sl : Nat) (x : SapS) : State :=
  ((((((wR n).set (F.SAPp_CFG_EN p) 1).set (F.SAPp_CFG_RATE p) 3).set (F.SAPp_CFG_SLOTS p) sl).set (F.SAPp_CFG_SLOTW p) 2).set (F.SAPp_STAT_STATE p) st).setSap p x
def wBsi (n c st : Nat) (x : BsiS) : State := ((((wR n).set (F.BSIc_CFG_EN c) 1).set (F.BSIc_CFG_PRESET c) 2).set (F.BSIc_STAT_STATE c) st).setBsi c x
def wTr (k mode at0 per : Nat) : State := ((((wR 5).set (F.TRIG_CFG_EN k) 1).set (F.TRIG_CFG_MODE k) mode).set (F.TRIG_PERIOD_PERIOD k) per).setTrig k { next := at0 }
def wp (st act : Nat) (x : PpS) : State := { ((wR 5).set F.PP_STAT_STATE st).set F.PP_STAT_ACTIVE act with pp := x }
/-- A TWIN frame of subtype `sub` from serial `sn`, with `b` from H + 12 on. -/
def tf (sub sn : Nat) (b : List Byte) : RxFrame :=
  ⟨4, List.replicate 12 0 ++ [0x88, 0xB5, BitVec.ofNat 8 sub, 1, 0, 1] ++ beBytes 8 sn ++ b ++ List.replicate 40 0, 77, 99⟩
/-- Paired with serial 5 in the role `r`, in breath `n`, with that frame waiting. -/
def wTw (n link r : Nat) (q : List RxFrame) (x : TwinS) : State :=
  { ((((wR n).set F.TWIN_CTRL_EN 1).set F.TWIN_STAT_LINK link).set F.TWIN_STAT_ROLE r).set F.TWIN_PSERIAL_LO_SERIAL 5 with net := { twinq := q }, twin := x }
def wRs (n r ph : Nat) (q : List RxFrame) (x : ReseatS) : State := (wTw n 2 r q { rs := x }).set F.TWIN_RS_STAT_PHASE ph
def hel (role : Nat) : List Byte := beBytes 2 0x9632 ++ [BitVec.ofNat 8 (w0.get F.SYS_ID_STEP), BitVec.ofNat 8 (w0.get F.SYS_MODE_STAT_CUR), BitVec.ofNat 8 role, 1, 0, 0] ++ List.replicate 600 0
/-- A Host Channel frame of slot `n` with key `k`. -/
def hf (sub n seq : Nat) (k b : List Byte) : RxFrame :=
  let a : List Byte := List.replicate 6 0xFF ++ [2, 0, 0, 0, 0, 9]
  let h := [BitVec.ofNat 8 sub, 1, BitVec.ofNat 8 n, 4] ++ beBytes 4 seq ++ beBytes 2 b.length ++ [0, 0] ++ b
  ⟨0, a ++ [0x88, 0xB5] ++ h ++ hostTag k a h, 77, 99⟩
/-- Slot `n` open on every port, with that frame waiting. -/
def wH (n : Nat) (q : List RxFrame) : State :=
  { ((((wR 5).set F.HOST_STAT_CHAN_OPEN 1).set (F.SLOTn_CTRL_EN n) 1).set (F.SLOTn_CTRL_PORTS n) 15) with net := { twinq := [], hostq := q }, boot := { keys := [[1],[2],[3],[4]] } }
def wQ (s : State) (f : RxFrame) (q : List RxFrame) (t n : Nat) : State := ((({ s.atTime t with net := { s.net with hostq := q } }.set (F.SLOTn_RXNEXT_SEQ n) (hcAt f 4 4 + 1)).set (F.SLOTn_STAT_SYNCED n) 1).set (F.SLOTn_STAT_LASTPORT n) f.port).setSlot n { s.slotS n with sa := hcSa f }
def wSp : State := ((((wH 5 []).set (F.RGN_EN 6 0) 1).set (F.RGN_LIMIT 6 0) 0xFFFFFFF).set (F.RGN_RMASK 6 0) 0xFFFFFFFF).set (F.RGN_WMASK 6 0) 0xFFFFFFFF
def wF (a : Nat) : State := { wR 5 with sys := { boot := .recovery }, flash := [(a, 0xF0)] }
/-- Core `p` in an instance of task 0 of its logical core, `w` the word at its fetch index, with these places set. -/
def coreAt (p w : Nat) (l : List (Nat × Int)) : State :=
  { w0.setWord (iBase p) w with core := [(p, { inst := some ⟨p, 0, 0, 0, 0, 8⟩, base := l })] }

/-- The same machine with these commands waiting. -/
def State.queued (l : List Instr) (s : State) : State := { s with pending := l }

/-- A HELLO of this device's step and mode from another serial is compatible (R290). -/
theorem compatible {s : State} {f : RxFrame}
    (h : (decide (twAt f 12 2 = 0x9632) && decide (twByte f 14 = s.get F.SYS_ID_STEP)
      && decide (twByte f 15 = s.get F.SYS_MODE_STAT_CUR)) = true) (hn : twAt f 4 8 ≠ ownSerial) : s.incompat f = 0 := by
  simp only [Bool.and_eq_true, decide_eq_true_eq] at h
  simp [State.incompat, h.1.1, h.1.2, h.2, hn]

/-- The first 128 MiB of the flash are fitted in either size (R328). -/
theorem flash_low {a : Nat} (h : a < 0x8000000) : a < flashBytes := by
  unfold flashBytes
  split <;> omega

/-! ## Well-formedness -/

theorem wf_refuses_0 : ([.registerWrite 12 0x421FFFFC 4294967295, .registerWrite 15 0x421FFFFC 4294967295,
    .registerWrite 23 0x421FFFFC 4294967295, .registerWrite 22 0x20000002 4294967295,
    .registerWrite 22 0x20190000 4294967295, .registerWrite 22 0x42200000 4294967295, .registerWrite 22 0 4294967295,
    .registerWrite 22 0x421FFFFC 4294967296, .pairLowRead 12 0x421FFFFC, .pairLowRead 22 0x20000002,
    .memoryAccess (.bar2 (.ces 2)) 22 1099511627775 8 false 18446744073709551615 (.ces 8),
    .memoryAccess (.bar2 .ue) 12 1099511627775 8 false 18446744073709551615 (.ces 8),
    .memoryAccess (.bar2 .ue) 15 1099511627775 8 false 18446744073709551615 (.ces 8),
    .memoryAccess (.bar2 .ue) 23 1099511627775 8 false 18446744073709551615 (.ces 8),
    .memoryAccess (.bar2 .ue) 22 1099511627776 8 false 18446744073709551615 (.ces 8),
    .memoryAccess (.bar2 .ue) 22 1099511627775 3 false 18446744073709551615 (.ces 8),
    .memoryAccess (.bar2 .ue) 22 1099511627775 16 false 18446744073709551615 (.ces 8),
    .memoryAccess (.bar2 .ue) 22 1099511627775 8 false 18446744073709551616 (.ces 8),
    .memoryAccess (.bar2 .ue) 22 1099511627775 8 false 18446744073709551615 (.ces 1),
    .memoryAccess (.bar2 .ue) 22 1099511627775 8 false 18446744073709551615 (.ces 9), .railStart 16 false 0,
    .railSeqTimeout 16 0, .modeApply 12 4294967295, .modeApply 22 4294967296, .unitReset 12 4294967295,
    .unitReset 22 4294967296, .warmRestart 12 4294967295, .warmRestart 22 4294967296, .dispRun 12 4294967295,
    .dispRun 22 4294967296, .dispStop 12 4294967295, .dispStop 22 4294967296, .taskTimeTrigger 128 127 0 0,
    .taskTimeTrigger 127 128 0 0, .coreWake 128 0, .instanceStart 128 127 0 0, .instanceStart 127 128 0 0,
    .deadlineMiss 128 127 0 0, .deadlineMiss 127 128 0 0,
    .instanceAbort 136 0] : List Instr).all (fun i => !WellFormed i) = true :=
  by decide +kernel

theorem wf_refuses_1 : ([.instanceComplete 136 0, .clrCore 12, .clrTbt 12, .clrEvt 12, .clrMiss 12, .tbtDataRead 12,
    .bistRequest 12 4294967295, .bistRequest 22 4294967296, .spareSelect 128 0, .fenceRampOut 128 0, .spareLoadDone 128 0,
    .nop 136 (.ces 8), .nop 135 (.ces 1), .tend 136 (.ces 8), .tend 135 (.ces 1), .b 136 (.ces 8), .b 135 (.ces 1),
    .bc 136 (.ces 8), .bc 135 (.ces 1), .call 136 (.ces 8), .call 135 (.ces 1), .jr 136 (.ces 8), .jr 135 (.ces 1),
    .loop 136 (.ces 8), .loop 135 (.ces 1), .loopr 136 (.ces 8), .loopr 135 (.ces 1), .trap 136 (.ces 8),
    .trap 135 (.ces 1), .rti 136 (.ces 8), .rti 135 (.ces 1), .mvs 136 (.ces 8), .mvs 135 (.ces 1), .mfs 136 (.ces 8),
    .mfs 135 (.ces 1), .mvi 136 (.ces 8), .mvi 135 (.ces 1), .add 136 (.ces 8), .add 135 (.ces 1),
    .sub 136 (.ces 8)] : List Instr).all (fun i => !WellFormed i) = true :=
  by decide +kernel

theorem wf_refuses_2 : ([.sub 135 (.ces 1), .adds 136 (.ces 8), .adds 135 (.ces 1), .subs 136 (.ces 8),
    .subs 135 (.ces 1), .iAnd 136 (.ces 8), .iAnd 135 (.ces 1), .iOr 136 (.ces 8), .iOr 135 (.ces 1), .xor 136 (.ces 8),
    .xor 135 (.ces 1), .min 136 (.ces 8), .min 135 (.ces 1), .max 136 (.ces 8), .max 135 (.ces 1), .abss 136 (.ces 8),
    .abss 135 (.ces 1), .shl 136 (.ces 8), .shl 135 (.ces 1), .shr 136 (.ces 8), .shr 135 (.ces 1), .shra 136 (.ces 8),
    .shra 135 (.ces 1), .slt 136 (.ces 8), .slt 135 (.ces 1), .addi 136 (.ces 8), .addi 135 (.ces 1), .ldi 136 (.ces 8),
    .ldi 135 (.ces 1), .shiShl 136 (.ces 8), .shiShl 135 (.ces 1), .shiShr 136 (.ces 8), .shiShr 135 (.ces 1),
    .shiShra 136 (.ces 8), .shiShra 135 (.ces 1), .shls 136 (.ces 8), .shls 135 (.ces 1), .ldx 136 (.ces 8),
    .ldx 135 (.ces 1), .ldy 136 (.ces 8)] : List Instr).all (fun i => !WellFormed i) = true :=
  by decide +kernel

theorem wf_refuses_3 : ([.ldy 135 (.ces 1), .stx 136 (.ces 8), .stx 135 (.ces 1), .sty 136 (.ces 8), .sty 135 (.ces 1),
    .stxa 136 (.ces 8), .stxa 135 (.ces 1), .stya 136 (.ces 8), .stya 135 (.ces 1), .mulMpy 136 (.ces 8),
    .mulMpy 135 (.ces 1), .mulMac 136 (.ces 8), .mulMac 135 (.ces 1), .mulMsu 136 (.ces 8), .mulMsu 135 (.ces 1),
    .dmulMpy 136 (.ces 8), .dmulMpy 135 (.ces 1), .dmulMac 136 (.ces 8), .dmulMac 135 (.ces 1), .dmulMsu 136 (.ces 8),
    .dmulMsu 135 (.ces 1), .mulmMpy 136 (.ces 8), .mulmMpy 135 (.ces 1), .mulmMac 136 (.ces 8), .mulmMac 135 (.ces 1),
    .mulmMsu 136 (.ces 8), .mulmMsu 135 (.ces 1), .dmulmMpy 136 (.ces 8), .dmulmMpy 135 (.ces 1), .dmulmMac 136 (.ces 8),
    .dmulmMac 135 (.ces 1), .dmulmMsu 136 (.ces 8), .dmulmMsu 135 (.ces 1), .ftap 136 (.ces 8), .ftap 135 (.ces 1),
    .ftap2 136 (.ces 8), .ftap2 135 (.ces 1), .clra 136 (.ces 8), .clra 135 (.ces 1),
    .mova 136 (.ces 8)] : List Instr).all (fun i => !WellFormed i) = true :=
  by decide +kernel

theorem wf_refuses_4 : ([.mova 135 (.ces 1), .adda 136 (.ces 8), .adda 135 (.ces 1), .suba 136 (.ces 8),
    .suba 135 (.ces 1), .accsh 136 (.ces 8), .accsh 135 (.ces 1), .rnd 136 (.ces 8), .rnd 135 (.ces 1), .lda 136 (.ces 8),
    .lda 135 (.ces 1), .trd 136 (.ces 8), .trd 135 (.ces 1), .twr 136 (.ces 8), .twr 135 (.ces 1), .interruptEntry 136,
    .interruptReturn 136, .debugHalt 12 135 4294967295, .debugHalt 22 136 4294967295, .debugHalt 22 135 4294967296,
    .coreHalted 136 0, .debugStep 12 135 ⟨4294967295, (.ces 8)⟩, .debugStep 22 136 ⟨4294967295, (.ces 8)⟩,
    .debugStep 22 135 ⟨4294967296, (.ces 8)⟩, .debugStep 22 135 ⟨4294967295, (.ces 1)⟩, .clrEccCe 12 135,
    .clrEccCe 22 136, .busComplete 1024 0 0, .zcTimeout 8192 1023 0 0, .zcTimeout 8191 1024 0 0, .gainRampEnd 8192 1023 0,
    .gainRampEnd 8191 1024 0, .matrixSwapRequest 12 4294967295, .matrixSwapRequest 22 4294967296, .clrFmtsat 12,
    .clrBussat 12, .mailboxPost 12 7 4294967295, .mailboxPost 22 8 4294967295, .mailboxPost 22 7 4294967296,
    .mailboxApply 8 0] : List Instr).all (fun i => !WellFormed i) = true :=
  by decide +kernel

theorem wf_refuses_5 : ([.mailboxWordLand 128 0, .asrcLock 256 0, .asrcUnlock 256 false 0, .delayDelivery ⟨4096,
    (.ces 8)⟩ 0, .delayDelivery ⟨4095, (.ces 1)⟩ 0, .delayFetchIssue 4096 0, .delayLate 4096 false 0 0,
    .delayChangePost 12 4294967295, .delayChangePost 22 4294967296, .delayChangeApply 4096 0, .delayXfadeEnd 4096 0,
    .scrubRead (.ces 1) 0, .dmaGo 12 15 4294967295, .dmaGo 22 16 4294967295, .dmaGo 22 15 4294967296,
    .dmaAbort 12 15 4294967295, .dmaAbort 22 16 4294967295, .dmaAbort 22 15 4294967296, .arbitrate 153 ⟨false, [(8,
    0)]⟩ 0, .arbitrate 152 ⟨false, [(9, 0)]⟩ 0, .clrArbStats 12, .acquire 12 15 65535, .acquire 22 16 65535,
    .acquire 22 15 65536, .renew 12 15 65535, .renew 22 16 65535, .renew 22 15 65536, .release 12 15 65535,
    .release 22 16 65535, .release 22 15 65536, .verify 12 15 65535, .verify 22 16 65535, .verify 22 15 65536,
    .verifyDone 16 0, .reopen 12 15 65535, .reopen 22 16 65535, .reopen 22 15 65536, .commit 12 15 65535,
    .commit 22 16 65535, .commit 22 15 65536] : List Instr).all (fun i => !WellFormed i) = true :=
  by decide +kernel

theorem wf_refuses_6 : ([.vacate 12 15 65535, .vacate 22 16 65535, .vacate 22 15 65536, .cancel 12 15 65535,
    .cancel 22 16 65535, .cancel 22 15 65536, .leaseLapse 16 0, .forcedBreak 12 4294967295, .forcedBreak 22 4294967296,
    .commitRampout 16 0, .commitDrain 16 0, .commitLoading 16 0, .commitLoadDone 16 0, .commitRestart 16 0,
    .rampinEnd 16 0, .clrLoadmax 12, .portEnable 12 4 4294967295, .portEnable 22 5 4294967295,
    .portEnable 22 4 4294967296, .portDisable 12 4 4294967295, .portDisable 22 5 4294967295, .portDisable 22 4 4294967296,
    .anPageExchange 5 65535 0, .anPageExchange 4 65536 0, .anBreakLinkTimer 5 0, .trainingComplete 5 0,
    .trainingTimeout 5 0, .linkUp 5 ⟨false, 0⟩, .alignTimeout 5 0, .linkDown 5 false ⟨false, false⟩ 0,
    .speedStep 5 ⟨false, false⟩ 0, .lpiEnter 5 0, .moduleInsert 5 false false 0, .moduleIdRead 5 (List.replicate 96 0) 0,
    .moduleIdRead 4 (List.replicate 95 0) 0, .moduleRemove 5 0, .ddmPoll 5 ⟨(List.replicate 10 0), false, false⟩ 0,
    .ddmPoll 4 ⟨(List.replicate 9 0), false, false⟩ 0, .sfpRead 12 4 127 255 3,
    .sfpRead 22 5 127 255 3] : List Instr).all (fun i => !WellFormed i) = true :=
  by decide +kernel

theorem wf_refuses_7 : ([.sfpRead 22 4 128 255 3, .sfpRead 22 4 127 256 3, .sfpRead 22 4 127 255 4,
    .sfpWrite 12 4 127 255 3, .sfpWrite 22 5 127 255 3, .sfpWrite 22 4 128 255 3, .sfpWrite 22 4 127 256 3,
    .sfpWrite 22 4 127 255 4, .sfpTransferDone 5 false 4294967295 0, .sfpTransferDone 4 false 4294967296 0,
    .frameReceive 5 [] ⟨false, 0, 0⟩ 0 0 none 0, .ringTailWrite 12 4 9 4294967295, .ringTailWrite 22 5 9 4294967295,
    .ringTailWrite 22 4 10 4294967295, .ringTailWrite 22 4 9 4294967296, .ringEnable 12 4 9, .ringEnable 22 5 9,
    .ringEnable 22 4 10, .ringDisable 12 4 9, .ringDisable 22 5 9, .ringDisable 22 4 10, .txFrameQueue 5 5 none 0,
    .txFrameQueue 4 6 none 0, .frameTransmit 5 0, .txFrameDone 5 0, .clrNetCounters 12 4, .clrNetCounters 22 5,
    .streamEnable 12 4294967295, .streamEnable 22 4294967296, .streamDisable 12 4294967295, .streamDisable 22 4294967296,
    .jitterSampleRelease 64 0, .jitterSampleRelease 160 0, .sampleMissing 64 0, .takeAnyReset 64 0,
    .pathTimeout 64 false 0, .frameClose 64 0, .aes67PacketSend 32 0, .gclCommit 12 4294967295,
    .gclCommit 22 4294967296] : List Instr).all (fun i => !WellFormed i) = true :=
  by decide +kernel

theorem wf_refuses_8 : ([.gateEntry 5 63 0, .gateEntry 4 64 0, .clrStreamCounters 12, .ptpSample 12 1 4294967295,
    .ptpSample 22 2 4294967295, .ptpSample 22 1 4294967296, .refSample 5 [] 0, .refQualified 5 0, .refInvalid 5 false 0,
    .selWrite 12 4294967295, .selWrite 22 4294967296, .steerEnable 12 4294967295, .steerEnable 22 4294967296,
    .freerunRateWrite 12 4294967295, .freerunRateWrite 22 4294967296, .phaseStepSlew 12 4294967295,
    .phaseStepSlew 22 4294967296, .phaseStepImmediate 12 4294967295, .phaseStepImmediate 22 4294967296,
    .clockOutputStart 3 0, .rateWrite 12 4294967295, .rateWrite 22 4294967296, .offsetStep 12 4294967295,
    .offsetStep 22 4294967296, .servoReset 12 4294967295, .servoReset 22 4294967296, .snapshot 12 4294967295,
    .snapshot 22 4294967296, .triggerEnable 12 7 4294967295, .triggerEnable 22 8 4294967295,
    .triggerEnable 22 7 4294967296, .triggerFire 8 0, .pulseEnd 4 0, .capture 4 false 0, .captureRead 12 7,
    .captureRead 22 8, .txtsRead 12 4, .txtsRead 22 5, .sapEnable 12 15 4294967295,
    .sapEnable 22 16 4294967295] : List Instr).all (fun i => !WellFormed i) = true :=
  by decide +kernel

theorem wf_refuses_9 : ([.sapEnable 22 15 4294967296, .sapDisable 12 15 4294967295, .sapDisable 22 16 4294967295,
    .sapDisable 22 15 4294967296, .sapFrameStart 16 false 0, .slotReceive 16 31 ⟨4294967295, false⟩ 0,
    .slotReceive 15 32 ⟨4294967295, false⟩ 0, .slotReceive 15 31 ⟨4294967296, false⟩ 0, .slotMissing 16 31 0 0,
    .slotMissing 15 32 0 0, .outputUnderrun 16 31 0, .outputUnderrun 15 32 0, .blockStamp 16 false 0, .lossOfClock 16 0,
    .clockRecovered 16 0, .maskWrite 12 15 false 4294967295, .maskWrite 22 16 false 4294967295,
    .maskWrite 22 15 false 4294967296, .maskEpoch 16 0, .cableMeasure 16 0 0, .bsiEnable 12 31 4294967295,
    .bsiEnable 22 32 4294967295, .bsiEnable 22 31 4294967296, .bsiDisable 12 31 4294967295, .bsiDisable 22 32 4294967295,
    .bsiDisable 22 31 4294967296, .bsiFillDone 32 0, .bsiRampinEnd 32 0, .bsiCommit 32 [] 0, .bsiOverload 32 0 0 0,
    .freezeWrite 12 31 4294967295, .freezeWrite 22 32 4294967295, .freezeWrite 22 31 4294967296,
    .pairingEnable 12 4294967295, .pairingEnable 22 4294967296, .pairingDisable 12 4294967295,
    .pairingDisable 22 4294967296, .yield 12 4294967295, .yield 22 4294967296,
    .faultEvent 128 65535 false 0] : List Instr).all (fun i => !WellFormed i) = true :=
  by decide +kernel

theorem wf_refuses_10 : ([.faultEvent 127 65536 false 0, .brokenWire 128 0 0, .shadowEnd 28 0,
    .configCheckFail 42 4294967295 false 0, .configCheckFail 41 4294967296 false 0, .configLock 12 4294967295,
    .configLock 22 4294967296, .faultForce 12 3 4294967295, .faultForce 22 4 4294967295, .faultForce 22 3 4294967296,
    .recordRead 12, .journalAppend 12 4294967295, .journalAppend 22 4294967296, .flashWindowRead 12 4294967295,
    .flashWindowRead 22 4294967296, .bootConfirm 12 4294967295, .bootConfirm 22 4294967296, .floorBurn 12 4294967295,
    .floorBurn 22 4294967296, .keyRevoke 12 4294967295, .keyRevoke 22 4294967296, .authCheck 12 4294967295,
    .authCheck 22 4294967296, .request ⟨[.ce, .ces 9], 0⟩, .event 6 0, .slotTune 12 5 false, .slotTune 22 6 false,
    .tuneDone 6 0, .kick 12 5 4294967295, .kick 22 6 4294967295, .kick 22 5 4294967296, .bellIn 12 5, .bellIn 22 6,
    .bellOut 12 5, .bellOut 22 6, .spiRead 4294967296 0 ⟨[4294967295], [.ces 2, .ue]⟩ 0, .spiRead 4294967295 0 ⟨[0,
    4294967296], [.ces 2, .ue]⟩ 0, .spiRead 4294967295 0 ⟨[4294967295], [.ce, .ces 9]⟩ 0,
    .qread 4294967296 0 ⟨[4294967295], [.ces 2, .ue]⟩ 0, .qread 4294967295 0 ⟨[0, 4294967296], [.ces 2,
    .ue]⟩ 0] : List Instr).all (fun i => !WellFormed i) = true :=
  by decide +kernel

theorem wf_refuses_11 : ([.qread 4294967295 0 ⟨[4294967295], [.ce, .ces 9]⟩ 0, .spiWrite 4294967296 [4294967295] 0,
    .spiWrite 4294967295 [0, 4294967296] 0, .qwrite 4294967296 [4294967295] 0, .qwrite 4294967295 [0, 4294967296] 0,
    .resetSlot 256 255 0, .resetSlot 255 256 0, .flashRead 4294967296 0 0, .flashProgram 4294967296 [] false 0 0,
    .flashErase 4294967296 false 0 0, .mmuFlush 12 4294967295, .mmuFlush 22 4294967296, .requestStandby 12 4294967295,
    .requestStandby 22 4294967296, .requestNap 12 4294967295, .requestNap 22 4294967296, .requestReady 12 4294967295,
    .requestReady 22 4294967296, .linkWake 5 0, .railUndervoltage 16 0, .railOvervoltage 16 0,
    .adcRound (List.replicate 15 0) 0 0 (List.replicate 8 0) false 0,
    .adcRound (List.replicate 16 0) 0 0 (List.replicate 7 0) false 0, .lineEnable 12 31 4294967295,
    .lineEnable 22 32 4294967295, .lineEnable 22 31 4294967296, .measGo 12 4294967295, .measGo 22 4294967296,
    .pcieLinkUp 16 15 false 0, .pcieLinkUp 15 16 false 0,
    .receiveLpi 5 false 0] : List Instr).all (fun i => !WellFormed i) = true :=
  by decide +kernel

theorem wf_accepts_0 : ([.registerWrite 22 0x421FFFFC 4294967295, .pairLowRead 22 0x421FFFFC,
    .memoryAccess (.bar2 .ue) 22 1099511627775 8 false 18446744073709551615 (.ces 8), .railStart 15 false 0,
    .railSeqTimeout 15 0, .modeApply 22 4294967295, .unitReset 22 4294967295, .warmRestart 22 4294967295,
    .dispRun 22 4294967295, .dispStop 22 4294967295, .taskTimeTrigger 127 127 0 0, .coreWake 127 0,
    .instanceStart 127 127 0 0, .deadlineMiss 127 127 0 0, .instanceAbort 135 0, .instanceComplete 135 0, .clrCore 22,
    .clrTbt 22, .clrEvt 22, .clrMiss 22, .tbtDataRead 22, .bistRequest 22 4294967295, .spareSelect 127 0,
    .fenceRampOut 127 0, .spareLoadDone 127 0, .nop 135 (.ces 8), .tend 135 (.ces 8), .b 135 (.ces 8), .bc 135 (.ces 8),
    .call 135 (.ces 8), .jr 135 (.ces 8), .loop 135 (.ces 8), .loopr 135 (.ces 8), .trap 135 (.ces 8), .rti 135 (.ces 8),
    .mvs 135 (.ces 8), .mfs 135 (.ces 8), .mvi 135 (.ces 8), .add 135 (.ces 8), .sub 135 (.ces 8), .adds 135 (.ces 8),
    .subs 135 (.ces 8), .iAnd 135 (.ces 8), .iOr 135 (.ces 8), .xor 135 (.ces 8), .min 135 (.ces 8), .max 135 (.ces 8),
    .abss 135 (.ces 8), .shl 135 (.ces 8), .shr 135 (.ces 8)] : List Instr).all WellFormed = true :=
  by decide +kernel

theorem wf_accepts_1 : ([.shra 135 (.ces 8), .slt 135 (.ces 8), .addi 135 (.ces 8), .ldi 135 (.ces 8),
    .shiShl 135 (.ces 8), .shiShr 135 (.ces 8), .shiShra 135 (.ces 8), .shls 135 (.ces 8), .ldx 135 (.ces 8),
    .ldy 135 (.ces 8), .stx 135 (.ces 8), .sty 135 (.ces 8), .stxa 135 (.ces 8), .stya 135 (.ces 8), .mulMpy 135 (.ces 8),
    .mulMac 135 (.ces 8), .mulMsu 135 (.ces 8), .dmulMpy 135 (.ces 8), .dmulMac 135 (.ces 8), .dmulMsu 135 (.ces 8),
    .mulmMpy 135 (.ces 8), .mulmMac 135 (.ces 8), .mulmMsu 135 (.ces 8), .dmulmMpy 135 (.ces 8), .dmulmMac 135 (.ces 8),
    .dmulmMsu 135 (.ces 8), .ftap 135 (.ces 8), .ftap2 135 (.ces 8), .clra 135 (.ces 8), .mova 135 (.ces 8),
    .adda 135 (.ces 8), .suba 135 (.ces 8), .accsh 135 (.ces 8), .rnd 135 (.ces 8), .lda 135 (.ces 8), .trd 135 (.ces 8),
    .twr 135 (.ces 8), .interruptEntry 135, .interruptReturn 135, .debugHalt 22 135 4294967295, .coreHalted 135 0,
    .debugStep 22 135 ⟨4294967295, (.ces 8)⟩, .clrEccCe 22 135, .busComplete 1023 0 0, .zcTimeout 8191 1023 0 0,
    .gainRampEnd 8191 1023 0, .matrixSwapRequest 22 4294967295, .clrFmtsat 22, .clrBussat 22,
    .mailboxPost 22 7 4294967295] : List Instr).all WellFormed = true :=
  by decide +kernel

theorem wf_accepts_2 : ([.mailboxApply 7 0, .mailboxWordLand 127 0, .asrcLock 255 0, .asrcUnlock 255 false 0,
    .delayDelivery ⟨4095, (.ces 8)⟩ 0, .delayFetchIssue 4095 0, .delayLate 4095 false 0 0, .delayChangePost 22 4294967295,
    .delayChangeApply 4095 0, .delayXfadeEnd 4095 0, .scrubRead (.ces 8) 0, .dmaGo 22 15 4294967295,
    .dmaAbort 22 15 4294967295, .arbitrate 152 ⟨false, [(8, 0)]⟩ 0, .clrArbStats 22, .acquire 22 15 65535,
    .renew 22 15 65535, .release 22 15 65535, .verify 22 15 65535, .verifyDone 15 0, .reopen 22 15 65535,
    .commit 22 15 65535, .vacate 22 15 65535, .cancel 22 15 65535, .leaseLapse 15 0, .forcedBreak 22 4294967295,
    .commitRampout 15 0, .commitDrain 15 0, .commitLoading 15 0, .commitLoadDone 15 0, .commitRestart 15 0,
    .rampinEnd 15 0, .clrLoadmax 22, .portEnable 22 4 4294967295, .portDisable 22 4 4294967295, .anPageExchange 4 65535 0,
    .anBreakLinkTimer 4 0, .trainingComplete 4 0, .trainingTimeout 4 0, .linkUp 4 ⟨false, 0⟩, .alignTimeout 4 0,
    .linkDown 4 false ⟨false, false⟩ 0, .speedStep 4 ⟨false, false⟩ 0, .lpiEnter 4 0, .moduleInsert 4 false false 0,
    .moduleIdRead 4 (List.replicate 96 0) 0, .moduleRemove 4 0, .ddmPoll 4 ⟨(List.replicate 10 0), false, false⟩ 0,
    .sfpRead 22 4 127 255 3, .sfpWrite 22 4 127 255 3] : List Instr).all WellFormed = true :=
  by decide +kernel

theorem wf_accepts_3 : ([.sfpTransferDone 4 false 4294967295 0, .frameReceive 4 [] ⟨false, 0, 0⟩ 0 0 none 0,
    .ringTailWrite 22 4 9 4294967295, .ringEnable 22 4 9, .ringDisable 22 4 9, .txFrameQueue 4 5 none 0,
    .frameTransmit 4 0, .txFrameDone 4 0, .clrNetCounters 22 4, .streamEnable 22 4294967295, .streamDisable 22 4294967295,
    .jitterSampleRelease 159 0, .sampleMissing 63 0, .takeAnyReset 63 0, .pathTimeout 63 false 0, .frameClose 63 0,
    .aes67PacketSend 31 0, .gclCommit 22 4294967295, .gateEntry 4 63 0, .clrStreamCounters 22, .ptpSample 22 1 4294967295,
    .refSample 4 [] 0, .refQualified 4 0, .refInvalid 4 false 0, .selWrite 22 4294967295, .steerEnable 22 4294967295,
    .freerunRateWrite 22 4294967295, .phaseStepSlew 22 4294967295, .phaseStepImmediate 22 4294967295,
    .clockOutputStart 2 0, .rateWrite 22 4294967295, .offsetStep 22 4294967295, .servoReset 22 4294967295,
    .snapshot 22 4294967295, .triggerEnable 22 7 4294967295, .triggerFire 7 0, .pulseEnd 3 0, .capture 3 false 0,
    .captureRead 22 7, .txtsRead 22 4, .sapEnable 22 15 4294967295, .sapDisable 22 15 4294967295,
    .sapFrameStart 15 false 0, .slotReceive 15 31 ⟨4294967295, false⟩ 0, .slotMissing 15 31 0 0, .outputUnderrun 15 31 0,
    .blockStamp 15 false 0, .lossOfClock 15 0, .clockRecovered 15 0,
    .maskWrite 22 15 false 4294967295] : List Instr).all WellFormed = true :=
  by decide +kernel

theorem wf_accepts_4 : ([.maskEpoch 15 0, .cableMeasure 15 0 0, .bsiEnable 22 31 4294967295, .bsiDisable 22 31 4294967295,
    .bsiFillDone 31 0, .bsiRampinEnd 31 0, .bsiCommit 31 [] 0, .bsiOverload 31 0 0 0, .freezeWrite 22 31 4294967295,
    .pairingEnable 22 4294967295, .pairingDisable 22 4294967295, .yield 22 4294967295, .faultEvent 127 65535 false 0,
    .brokenWire 127 0 0, .shadowEnd 27 0, .configCheckFail 41 4294967295 false 0, .configLock 22 4294967295,
    .faultForce 22 3 4294967295, .recordRead 22, .journalAppend 22 4294967295, .flashWindowRead 22 4294967295,
    .bootConfirm 22 4294967295, .floorBurn 22 4294967295, .keyRevoke 22 4294967295, .authCheck 22 4294967295,
    .request ⟨[.ces 2, .ue], 0⟩, .event 5 0, .slotTune 22 5 false, .tuneDone 5 0, .kick 22 5 4294967295, .bellIn 22 5,
    .bellOut 22 5, .spiRead 4294967295 0 ⟨[4294967295], [.ces 2, .ue]⟩ 0, .qread 4294967295 0 ⟨[4294967295], [.ces 2,
    .ue]⟩ 0, .spiWrite 4294967295 [4294967295] 0, .qwrite 4294967295 [4294967295] 0, .resetSlot 255 255 0,
    .flashRead 4294967295 0 0, .flashProgram 4294967295 [] false 0 0, .flashErase 4294967295 false 0 0,
    .mmuFlush 22 4294967295, .requestStandby 22 4294967295, .requestNap 22 4294967295, .requestReady 22 4294967295,
    .linkWake 4 0, .railUndervoltage 15 0, .railOvervoltage 15 0,
    .adcRound (List.replicate 16 0) 0 0 (List.replicate 8 0) false 0, .lineEnable 22 31 4294967295,
    .measGo 22 4294967295] : List Instr).all WellFormed = true :=
  by decide +kernel

theorem wf_accepts_5 : ([.pcieLinkUp 15 15 false 0, .receiveLpi 4 false 0] : List Instr).all WellFormed = true :=
  by decide +kernel

/-! ## Instruction words of the Reed core (R74, R75) and a core that fetches each -/

/-- The machine after reset is dormant. -/
theorem dormant_reset : Dormant State.reset := .inr ⟨by decide +kernel, by intro c h; cases h⟩

theorem ready_nop : Ready 0 (.nop) (coreAt 0 0x00000000 [(locIE, 1)]) := ready_of (by decide +kernel)

theorem ready_tend : Ready 135 (.tend) (coreAt 135 0x04000000 [(locIE, 1)]) := ready_of (by decide +kernel)

theorem ready_b : Ready 1 (.b 8191) (coreAt 1 0x08001FFF [(locIE, 1)]) := ready_of (by decide +kernel)

theorem ready_bc : Ready 2 (.bc 15 5 4097) (coreAt 2 0x0FE81001 [(locIE, 1)]) := ready_of (by decide +kernel)

theorem ready_call : Ready 3 (.call 5461) (coreAt 3 0x10001555 [(locIE, 1)]) := ready_of (by decide +kernel)

theorem ready_jr : Ready 4 (.jr 9) (coreAt 4 0x14240000 [(locIE, 1)]) := ready_of (by decide +kernel)

theorem ready_loop : Ready 5 (.loop 1 4095 100) (coreAt 5 0x1BFFE064 [(locIE, 1)]) := ready_of (by decide +kernel)

theorem ready_loopEnd : Ready 5 (.loop 0 0 0) (coreAt 5 0x18000000 [(locIE, 1)]) := ready_of (by decide +kernel)

theorem ready_loopr : Ready 6 (.loopr 0 13 8191) (coreAt 6 0x1C341FFF [(locIE, 1)]) := ready_of (by decide +kernel)

theorem ready_looprEnd : Ready 6 (.loopr 1 3 0) (coreAt 6 0x1E0C0000 [(locIE, 1)]) := ready_of (by decide +kernel)

theorem ready_trap : Ready 7 (.trap 255) (coreAt 7 0x200000FF [(locIE, 1)]) := ready_of (by decide +kernel)

theorem ready_rti : Ready 8 (.rti) (coreAt 8 0x24000000 [(locIE, 1)]) := ready_of (by decide +kernel)

theorem ready_mvs : Ready 9 (.mvs 0x15 10) (coreAt 9 0x295A0000 [(locIE, 1)]) := ready_of (by decide +kernel)

theorem ready_mfs : Ready 10 (.mfs 11 0x30) (coreAt 10 0x2EF00000 [(locIE, 1)]) := ready_of (by decide +kernel)

theorem ready_mvi : Ready 11 (.mvi 0x0B 0x8001) (coreAt 11 0x30B08001 [(locIE, 1)]) := ready_of (by decide +kernel)

theorem ready_add : Ready 12 (.alu 0 1 2 3) (coreAt 12 0x4048C000 [(locIE, 1)]) := ready_of (by decide +kernel)

theorem ready_adds : Ready 12 (.alu 2 1 2 3) (coreAt 12 0x4048C002 [(locD 2, 0x7FFFFFFF), (locD 3, 1), (locIE,
    1)]) := ready_of (by decide +kernel)

theorem ready_slt : Ready 12 (.alu 13 15 14 13) (coreAt 12 0x43FB400D [(locIE, 1)]) := ready_of (by decide +kernel)

theorem ready_addi : Ready 13 (.addi 4 5 0xFFFF) (coreAt 13 0x4514FFFF [(locIE, 1)]) := ready_of (by decide +kernel)

theorem ready_ldi : Ready 14 (.ldi 6 1 0x8000) (coreAt 14 0x49A08000 [(locIE, 1)]) := ready_of (by decide +kernel)

theorem ready_shi : Ready 15 (.shi 2 7 8 31) (coreAt 15 0x4DE2001F [(locIE, 1)]) := ready_of (by decide +kernel)

theorem ready_shls : Ready 15 (.shi 3 7 8 31) (coreAt 15 0x4DE3001F [(locD 8, 1), (locIE,
    1)]) := ready_of (by decide +kernel)

theorem ready_ldx : Ready 16 (.ld false 8 3 2 1 0 0) (coreAt 16 0x623A0000 [(locIE, 1)]) := ready_of (by decide +kernel)

theorem ready_ldy : Ready 17 (.ld true 9 0 0 0 1 8191) (coreAt 17 0x66411FFF [(locIE, 1)]) := ready_of (by decide +kernel)

theorem ready_stx : Ready 18 (.st false 10 1 3 1 0 0) (coreAt 18 0x6A9E0000 [(locIE, 1)]) := ready_of (by decide +kernel)

theorem ready_sty : Ready 19 (.st true 3 0 0 0 1 77) (coreAt 19 0x6CC1004D [(locIE, 1)]) := ready_of (by decide +kernel)

theorem ready_stxa : Ready 20 (.sta false 3 2 1 0 0) (coreAt 20 0x73240000 [(locIE, 1)]) := ready_of (by decide +kernel)

theorem ready_stya : Ready 21 (.sta true 1 0 0 1 4096) (coreAt 21 0x75011000 [(locIE, 1)]) := ready_of (by decide +kernel)

theorem ready_mul : Ready 22 (.mul 1 2 15 14) (coreAt 22 0x827F8000 [(locIE, 1)]) := ready_of (by decide +kernel)

theorem ready_dmul : Ready 23 (.dmul 2 1 12 2) (coreAt 23 0x86B08000 [(locIE, 1)]) := ready_of (by decide +kernel)

theorem ready_mulm : Ready 24 (.mulm 0 1 3 2 1 0) (coreAt 24 0x893A0000 [(locIE, 1)]) := ready_of (by decide +kernel)

theorem ready_dmulm : Ready 25 (.dmulm 1 1 1 2 0 1) (coreAt 25 0x8E590000 [(locIE, 1)]) := ready_of (by decide +kernel)

theorem ready_ftap : Ready 26 (.ftap 3 2 1) (coreAt 26 0x93240000 [(locIE, 1)]) := ready_of (by decide +kernel)

theorem ready_ftap2 : Ready 27 (.ftap2 1 3 2) (coreAt 27 0x96380000 [(locIE, 1)]) := ready_of (by decide +kernel)

theorem ready_clra : Ready 28 (.acc 0 3 0 0 0) (coreAt 28 0x9B000000 [(locIE, 1)]) := ready_of (by decide +kernel)

theorem ready_mova : Ready 28 (.acc 1 2 1 0 0) (coreAt 28 0x9A400001 [(locIE, 1)]) := ready_of (by decide +kernel)

theorem ready_adda : Ready 28 (.acc 2 1 2 0 0) (coreAt 28 0x99800002 [(locIE, 1)]) := ready_of (by decide +kernel)

theorem ready_suba : Ready 28 (.acc 3 0 3 0 0) (coreAt 28 0x98C00003 [(locIE, 1)]) := ready_of (by decide +kernel)

theorem ready_accsh : Ready 29 (.acc 4 1 3 0 32) (coreAt 29 0x99C20004 [(locIE, 1)]) := ready_of (by decide +kernel)

theorem ready_rnd : Ready 29 (.acc 5 0 2 9 0) (coreAt 29 0x98A40005 [(locA 2, 2 ^ 70), (locIE,
    1)]) := ready_of (by decide +kernel)

theorem ready_lda : Ready 29 (.acc 6 3 0 7 0) (coreAt 29 0x9B1C0006 [(locIE, 1)]) := ready_of (by decide +kernel)

theorem ready_trd : Ready 30 (.trd 12 8191) (coreAt 30 0xA3001FFF [(locIE, 1)]) := ready_of (by decide +kernel)

theorem ready_twr : Ready 31 (.twr 5 1045) (coreAt 31 0xA5400415 [(locIE, 1)]) := ready_of (by decide +kernel)

theorem met_AluRowsComplete : ∃ (f : Nat) (row : Nat → Ecc → Instr) (g : Nat → Nat → AluR) (p dd ds dt : Nat) (s : State),
    (f, row, g) ∈ aluRows ∧ Ready p (.alu f dd ds dt) s ∧ (g (s.dAt p ds 4) (s.dAt p dt 4)).sat = true :=
  ⟨2, .adds, aluAdds, 12, 1, 2, 3, (coreAt 12 0x4048C002 [(locD 2, 0x7FFFFFFF), (locD 3, 1), (locIE, 1)]),
    .tail _ (.tail _ (.head _)), ready_adds, by decide +kernel⟩

theorem met_ImmediateRowsComplete : ∃ (f : Nat) (row : Nat → Ecc → Instr) (g : Nat → Nat → AluR) (p dd ds n : Nat) (s : State),
    (f, row, g) ∈ shiRows ∧ Ready p (.shi f dd ds n) s ∧ (g (s.dAt p ds 4) n).sat = true :=
  ⟨3, .shls, aluShls, 15, 7, 8, 31, (coreAt 15 0x4DE3001F [(locD 8, 1), (locIE, 1)]),
    .tail _ (.tail _ (.tail _ (.head _))), ready_shls, by decide +kernel⟩

theorem met_LoopRowsComplete_0 : ((coreAt 5 0x1BFFE064 [(locIE, 1)]).coreS 5).pc < 100 :=
  by decide +kernel

theorem met_LoopRowsComplete_1 : 0 ≤ ((coreAt 5 0x18000000 [(locIE, 1)]).coreS 5).pc ∧ (coreAt 5 0x18000000 [(locIE,
    1)]).regAt 5 locIE 1 ≠ 0 :=
  by decide +kernel

theorem met_LoopRowsComplete_2 : ((coreAt 6 0x1C341FFF [(locIE, 1)]).coreS 6).pc < 8191 :=
  by decide +kernel

theorem met_LoopRowsComplete_3 : 0 ≤ ((coreAt 6 0x1E0C0000 [(locIE, 1)]).coreS 6).pc ∧ (coreAt 6 0x1E0C0000 [(locIE,
    1)]).regAt 6 locIE 1 ≠ 0 :=
  by decide +kernel

theorem met_LoopRowsComplete_4 : (coreAt 7 0x200000FF [(locIE, 1)]).regAt 7 locIE 1 ≠ 0 :=
  by decide +kernel

theorem met_StoresKeepOtherBytes_0 : ∃ u, exec (.stx 18 .clean) (coreAt 18 0x6A9E0000 [(locIE, 1)]) = .next u :=
  next_of (by decide +kernel)

theorem met_StoresKeepOtherBytes_1 : ∃ u, exec (.sty 19 .clean) (coreAt 19 0x6CC1004D [(locIE, 1)]) = .next u :=
  next_of (by decide +kernel)

theorem met_StoresKeepOtherBytes_2 : ∃ u, exec (.stxa 20 .clean) (coreAt 20 0x73240000 [(locIE, 1)]) = .next u :=
  next_of (by decide +kernel)

theorem met_StoresKeepOtherBytes_3 : ∃ u, exec (.stya 21 .clean) (coreAt 21 0x75011000 [(locIE, 1)]) = .next u :=
  next_of (by decide +kernel)

theorem met_ProductRowsComplete : ∃ (f : Nat) (k : MacFn) (mul dmul mulm dmulm : Nat → Ecc → Instr), (f, k, mul, dmul,
    mulm, dmulm) ∈ mulRows :=
  ⟨0, .mpy, .mulMpy, .dmulMpy, .mulmMpy, .dmulmMpy, .head _⟩

theorem met_AccumulatorRowsComplete_5 : (accRound ((coreAt 29 0x98A40005 [(locA 2, 2 ^ 70), (locIE,
    1)]).regAt 29 (locA 2) 4)).sat = true :=
  by decide +kernel

theorem met_TapRowsComplete_1 : ((coreAt 31 0xA5400415 [(locIE, 1)]).coreS 31).inst = some ⟨31, 0, 0, 0, 0, 8⟩ :=
  by decide +kernel

theorem met_ReedDecodeOfEncode : ∃ o : ReedOp, o.wf = true :=
  ⟨.acc 5 0 2 9 0, by decide⟩

theorem met_StepRunsFrontCommand : ∃ (c : Instr) (l : List Instr) (s : State), s.pending = c :: l :=
  ⟨.bootBreathZero 5, [.watchdogExpiry 7], State.reset.queued [.bootBreathZero 5, .watchdogExpiry 7], rfl⟩

theorem met_IdleStepPassesTime : ∃ s : State, s.pending = [] :=
  ⟨State.reset, rfl⟩

theorem met_DormantNodeHoldsStill : ∃ s u : State, Dormant s ∧ step s = .next u :=
  ⟨State.reset, _, dormant_reset, rfl⟩

theorem met_MailboxesAndBells_0 : ∃ (m n : Nat) (s : State), n < 6 ∧ Admitted (regWrV m (A.SLOTn_BELL n) 1) s ∧
    s.bit F.HOST_CC_IRQ_BELL n = true :=
  ⟨0, 5, w0.set F.HOST_CC_IRQ_BELL 63, by decide, admitted_of (by decide +kernel), by decide +kernel⟩

theorem met_MailboxesAndBells_1 : ∃ (m n : Nat) (s : State), n < 6 ∧ Admitted (regWrV m (A.SLOTn_BELL n) 2) s :=
  ⟨1, 5, w0, by decide, admitted_of (by decide +kernel)⟩

theorem met_SpiRowsComplete_7_0 : ∃ a x : Nat, a / 0x10000 * 0x10000 ≤ x ∧ x < a / 0x10000 * 0x10000 + 0x10000 :=
  ⟨0x1FFFF, 0x1FFFF, by decide, by decide⟩

theorem met_DelayRowsComplete_0_2 : ∃ (j b o b0 : Nat) (e : Ecc) (s : State), s.alive = true ∧ s.breathing = true ∧
    s.lineRuns j = true ∧ s.deliveryB j = some b ∧ (e = .clean ∨ (s.classOf 25 = 0 ∧ s.classOf 26 = 0)) ∧ e ≠ .ue ∧
    (s.lineS j).xf = some (o, b0) ∧ b0 ≤ b ∧ b < b0 + 64 :=
  ⟨255, 8, 2, 7, .ce,
    { wL 8 255 3 0 with dly := { lines := [(255, { hist := some 0, xf := some (2, 7) })] }, mtx := { taps := [(2, ⟨5, 4, 3, 9⟩)] } },
    by decide +kernel⟩

theorem met_SlotRegistersHaveTheirWriters_0 : ∃ (m n : Nat) (s : State), m < 32 ∧ n < 6 ∧ s.alive = true ∧
    s.served m = true ∧ s.hostClosed m = false ∧ s.inReset 21 = false ∧ s.aclGrants 21 m (n + 1) true = true :=
  ⟨1, 5, w0, by decide, by decide, by decide +kernel⟩

/-! ## The manual's worked examples, with its numbers -/

/-- Breath 96,001 starts 256,002,666,666 units after the anchor (the example under R12). -/
theorem test_breath_offset : breathOfs 96000 96001 = 256002666666 := by decide +kernel
/-- With the anchor at 1,000,000,000 ns it starts at 2,000,010,416.664 ns. -/
theorem test_breath_instant :
    (wR 5 |>.setAnchor 256000000000).breathAt 96001 = 512002666666 ∧ 512002666666 / 256 = 2000010416 := by decide +kernel
/-- The frame stamped 2,000,012,417 with PRES_OFS 2,000 belongs to breath 96,001 (the example under R207). -/
theorem test_nearest_breath : (wR 5 |>.setAnchor 256000000000).nearestBreath ((2000012417 - 2000) * 256) = 96001 := by decide +kernel
/-- The Y memory of core 37, and the access table of block 13 (the example under R25). -/
theorem test_windows : yBase 37 = 0x40960000 ∧ A.ACL_W0 13 0 = 0x200DF000 := by decide
/-- The three pointer updates of the example under R68. -/
theorem test_circular :
    circ 0x012C 6 0x0100 48 = 0x0102 ∧ circ 0x0128 6 0x0100 32 = 0x010E ∧ circ 0x0102 (-6) 0x0100 32 = 0x011C := by decide
/-- RND of 2^60 + 3·2^30 (the example under R71), and as RND D1, A0 runs it. -/
theorem test_round : accRound 0x10000000C0000000 = ⟨0x20000002, false⟩ ∧
    (match execRnd 0 .clean (coreAt 0 (0x26 * 2 ^ 26 + 1 * 2 ^ 18 + 5) [(locA 0, 0x10000000C0000000)]) with
     | .next u => (u.coreS 0).rd (locD 1) ((u.coreS 0).cyc + 6) | _ => 0) = 0x20000002 := by decide +kernel
/-- The route addition of the example under R110: breaths B + 959, B + 960, B + 961, B + 991 and B + 1,023 of the movement. -/
theorem test_zcross :
    let wait : GainS := { target := 322122547, phase := .wait, mode := 0, count := 959, zct := 960 }
    let at_ := fun (k : Nat) => (List.range k).foldl (fun g _ => GainS.step g 0x04000000 0x04000000) wait
    (at_ 1).cur = 0 ∧ (at_ 1).count = 960 ∧ (at_ 2).cur = 5033164 ∧ (at_ 3).cur = 10066329 ∧ (at_ 33).cur = 161061273
      ∧ (at_ 65).cur = 322122547 ∧ (at_ 65).phase = GPhase.idle
      ∧ (GainS.step { wait with count := 5 } (-0x1000) 0x04000000).cur = 322122547 := by decide +kernel
/-- The gain 5,033,164 on the sample 0x0400_0000 makes 314,573 (the same example). -/
theorem test_product : roundAway (67108864 * 5033164) (2 ^ 30) = 314573 := by decide +kernel
/-- The ramp-out and ramp-in of the retained commit in the example under R161. -/
theorem test_section_ramp :
    rampVal 0x40000000 0 1 32 = 0x3E000000 ∧ rampVal 0x40000000 0 16 32 = 0x20000000 ∧ rampVal 0x40000000 0 32 32 = 0
      ∧ rampVal 0 0x40000000 1 32 = 0x02000000 := by decide +kernel
/-- The ring of a line with DMAX 48 has 4 slots, and breath 1,583 lies in slot 98 mod 4 (the example under R131). -/
theorem test_ring : (wL 16 3 40 1 |>.set (F.DLY_LINE_DATA_WORD 1 3) 48).lineSlots 3 = 4
    ∧ (wL 16 3 40 1 |>.set (F.DLY_LINE_DATA_WORD 1 3) 48).dramAt 3 1583 = dramBase + 64 * 2 + 4 * 15 := by decide +kernel
/-- The rate of +100 ppm after 1 s, its fold to 0 and the time a second later (the example under R245). -/
theorem test_rate_fold : corrected 0 109951163 0 256000000000 = 256025600000 ∧
    corrected (109951163 * 256000000000) 0 256000000000 512000000000 = 512025600000 := by decide +kernel
/-- A write of MTX mailbox 0 by slot 1 needs bit 17 of the word at 0x00_2006_F110 (the example under R354). -/
theorem test_access_table : A.ACL_W0 6 17 = 0x2006F110 ∧
    ((w0.set (F.ACL_W0 6 17) (2 ^ 17)).aclGrants 6 17 8 true = true) ∧
    ((w0.set (F.ACL_W0 6 17) (2 ^ 16)).aclGrants 6 17 8 true = false) := by decide +kernel
/-- CORNER 10 at 96 kHz gives ALPHA 140,552 (R282). -/
theorem test_alpha : ((w0.set (F.BSIc_CFG_PRESET 3) 2).set (F.BSIc_COEF0_PREL_CORNER 3) 10).bsiAlpha 3 = 140552 := by decide +kernel
/-- VMIN 8.0 V, TPP 800 µs, PFLUSH 1,900 mW, V0 11.8 V and a fall of 23.5 ms give 13,184 bytes (the example under R349). -/
theorem test_holdup : holdupBytes (List.replicate 24 0 ++ leBytes 2 8000 ++ leBytes 2 800 ++ leBytes 2 1900) 11800 23500 = some 13184 := by
  decide +kernel
/-- PDLY 316,032 reads as 246.9 m (R396). -/
theorem test_cable : (w0.set (F.SURV_NET_PDLY_PDLY 2) 316032).netLen 2 = (1, 2469) := by decide +kernel
/-- A tone of 19,500 Hz has STEP 872,415,232: 13 / 64 of the table a breath (the example under R394). -/
theorem test_tone : (wR 5 |>.set (F.SURV_LINE_STEP_STEP 4) 872415232).toneK 4 64 = 0 ∧
    (wR 5 |>.set (F.SURV_LINE_STEP_STEP 4) 872415232).toneK 4 1 = 4096 * 13 / 64 := by decide +kernel
/-- 14 and 16: the two dither words enter with opposite signs, and 24 bits of 0x1234_5680 with d = −139 make 0x12_3456 (R112). -/
theorem test_format : roundAway (305419904 - 139) 256 = 0x123456 ∧ roundAway (305419904 + 139) 256 = 0x123457 := by decide +kernel
/-- The check values of CRC-32 and CRC-32C over the ASCII digits 1 to 9, and the first bytes of SHA-256 of "abc" (PRESUMED: the
standards' own, log entry 14). -/
theorem test_digests :
    crc32 [0x31, 0x32, 0x33, 0x34, 0x35, 0x36, 0x37, 0x38, 0x39] = 0xCBF43926
    ∧ crc32c [0x31, 0x32, 0x33, 0x34, 0x35, 0x36, 0x37, 0x38, 0x39] = 0xE3069283
    ∧ (sha256 [0x61, 0x62, 0x63]).take 4 = [0xBA, 0x78, 0x16, 0xBF] := by decide +kernel

/-- After AON power-on the balls stand as in the second column of R406. -/
theorem test_reset_balls : State.reset.ballSafeN = .low ∧ State.reset.ballIo33En = .low ∧ State.reset.ballPwm 5 = .hiz ∧
    State.reset.ballPsEn 2 = .low ∧ State.reset.ballHuChg = .high ∧ State.reset.ballHuSink = .low ∧ State.reset.ballHsIrq = .hiz ∧
    State.reset.ballXspiRst = .hiz := by decide +kernel
/-- Ports' lanes begin in the second ball of the northern edge and run on into the second row; a ball of even sum is VSS (R400, R401). -/
theorem test_ball_map : ballAt 1 2 = .portLane 0 ∧ ballAt 2 1 = .portLane 19 ∧ ballAt 1 3 = .vss ∧ ballAt 20 21 = .rail 0 := by
  decide +kernel

/-! ## The hypotheses of the statements are met -/

/-! RegisterWriteCompletes -/

theorem met_RegisterWriteCompletes_0 : ∃ (m : Nat) (j : Nat) (v : Nat) (s : State), j < 4 ∧
    Admitted (regWrV m (A.SYS_SCRATCH j) (v % 2 ^ 32)) s :=
  ⟨1, 3, 0x1FFFFFFFF, w0, by decide +kernel, admitted_of (by decide +kernel)⟩

/-! PairReadCompletes -/

theorem met_PairReadCompletes_0 : ∃ (m : Nat) (p : Nat) (i : Nat) (s : State), p < 2 ^ 32 ∧ latchedBy p ≠ [] ∧
    Admitted (regRd m p) s ∧ s.bankSel p = some i ∧ mget 0 (p + 2 ^ 32 * i) s.latch = 0 :=
  ⟨1, A.DISP_START_INDEX_LO, 0, w0.set F.DISP_START_INDEX_HI_START_HI 0xFFFF, by decide +kernel, by decide +kernel,
    admitted_of (by decide +kernel), by decide +kernel⟩

theorem met_PairReadCompletes_1 : ∃ (m : Nat) (p : Nat) (q : Nat) (i : Nat) (h : Nat) (s : State), q < 2 ^ 32 ∧
    q ∈ latchedBy p ∧ latchedBy q = [] ∧ Admitted (regRd m q) s ∧ s.bankSel q = some i ∧
    mget 0 (q + 2 ^ 32 * i) s.latch = h + 1 :=
  ⟨0, A.DISP_START_INDEX_LO, A.DISP_START_INDEX_HI, 0, 0xFFFFFFFF,
    { w0 with latch := [(A.DISP_START_INDEX_HI, 0x100000000)] }, by decide +kernel, by decide +kernel, by decide +kernel,
    admitted_of (by decide +kernel), by decide +kernel⟩

/-! MemoryAccessCompletes -/

theorem met_MemoryAccessCompletes_0 : ∃ (a : Nat) (t : Nat) (s : State), a < 2 ^ 40 ∧ targetOf a = some (.mem t) ∧ t ≠ 3 ∧
    t ≠ 4 ∧ s.memOn t = true :=
  ⟨0x1DFFFFFF8, 6, w0, by decide +kernel⟩

theorem met_MemoryAccessCompletes_0_0 : ∃ (m : Nat) (a : Nat) (w : Nat) (v : Nat) (t : Nat) (s : State), a < 2 ^ 40 ∧
    targetOf a = some (.mem t) ∧ t ≠ 3 ∧ t ≠ 4 ∧ s.memOn t = true ∧
    Admitted { m := m, a := a, w := w, wr := true, val := v % 2 ^ (8 * w) } s :=
  ⟨0, 0x1DFFFFFF8, 8, 0x0102030405060708, 6, w0, by decide +kernel, by decide +kernel, by decide +kernel,
    by decide +kernel, by decide +kernel, admitted_of (by decide +kernel)⟩

theorem met_MemoryAccessCompletes_0_1 : ∃ (m : Nat) (a : Nat) (w : Nat) (v : Nat) (t : Nat) (s : State), a < 2 ^ 40 ∧
    targetOf a = some (.mem t) ∧ t ≠ 3 ∧ t ≠ 4 ∧ s.memOn t = true ∧
    Admitted { m := m, a := a, w := w, wr := false, val := v % 2 ^ (8 * w) } s :=
  ⟨0, 0x1DFFFFFF8, 8, 0x0102030405060708, 6, w0, by decide +kernel, by decide +kernel, by decide +kernel,
    by decide +kernel, by decide +kernel, admitted_of (by decide +kernel)⟩

/-! DecodeErrorIsCaptured -/

theorem met_DecodeErrorIsCaptured_0 : ∃ (m : Nat) (a : Nat) (s : State), a < 2 ^ 40 ∧ s.alive = true ∧ s.served m = true ∧
    targetOf a = none :=
  ⟨31, 0xFFFFFFFFFF, w0, by decide +kernel⟩

/-! PowerRowsComplete -/

theorem met_PowerRowsComplete_0 : ∃ (s : State), s.sys.off = true :=
  ⟨{ State.reset with sys := { State.reset.sys with off := true } }, by decide +kernel⟩

theorem met_PowerRowsComplete_1 : ∃ (s : State), s.sys.off = false :=
  ⟨(w0.setWord 0x100000000 5).setWord 0x08000000 7, by decide +kernel⟩

theorem met_PowerRowsComplete_1_0 : ∃ (c : Cut) (s : State), s.sys.off = false ∧ c = .none :=
  ⟨.none, (w0.setWord 0x100000000 5).setWord 0x08000000 7, by decide +kernel⟩

/-! BootRowsComplete -/

theorem met_BootRowsComplete_0 : ∃ (s : State), BootAt .none s ∧ s.get F.PMU_STAT_PSTATE = psSTANDBY ∧
    s.pmu.started = [] ∧ s.sys.testMode = false :=
  ⟨State.reset, (by unfold BootAt; decide +kernel), by decide +kernel⟩

theorem met_BootRowsComplete_1 : ∃ (s : State), BootAt .xo s :=
  ⟨wB .xo, (by unfold BootAt; decide +kernel)⟩

theorem met_BootRowsComplete_2 : ∃ (r : Nat) (t : Nat) (s : State), (BootAt .xo s ∨ BootAt .rails s) ∧
    (s.atTime t).railDue r = true :=
  ⟨1, 200 * uMs, (wB .xo), (by unfold BootAt; decide +kernel), by decide +kernel⟩

theorem met_BootRowsComplete_3 : ∃ (r : Nat) (t : Nat) (s : State), (BootAt .xo s ∨ BootAt .rails s) ∧
    s.pmu.seqStop = false ∧ s.get (F.PMU_RAIL_OK r) = 0 ∧ (∃ x, (r, x) ∈ s.pmu.started ∧ x + 5 * uMs ≤ max s.now t) :=
  ⟨8, 5 * uMs, { wB .rails with pmu := { started := [(8, 0)] } }, (by unfold BootAt; decide +kernel), by decide +kernel,
    by decide +kernel,
    0, by decide +kernel, by decide +kernel⟩

theorem met_BootRowsComplete_4 : ∃ (s : State), BootAt .scan s ∧ s.sys.dramReady = false :=
  ⟨(wB .scan).setWord 0x100000000 5 |>.setWord 0x70000000 6, (by unfold BootAt; decide +kernel), by decide +kernel⟩

theorem met_BootRowsComplete_5 : ∃ (s : State), BootAt .scan s :=
  ⟨wB .scan, (by unfold BootAt; decide +kernel)⟩

theorem met_BootRowsComplete_6 : ∃ (s : State), BootAt .choose s :=
  ⟨wB .choose, (by unfold BootAt; decide +kernel)⟩

theorem met_BootRowsComplete_6_0 : ∃ (s : State), BootAt .choose s ∧ s.manifestCopy = none :=
  ⟨wB .choose, (by unfold BootAt; decide +kernel), by decide +kernel⟩

theorem met_BootRowsComplete_7 : ∃ (s : State), BootAt .directory s ∧ s.sys.dramReady = true :=
  ⟨{ wB .directory with sys := { (wB .directory).sys with dramReady := true } }, (by unfold BootAt; decide +kernel),
    by decide +kernel⟩

theorem met_BootRowsComplete_8 : ∃ (s : State), BootAt .config s :=
  ⟨wB .config, (by unfold BootAt; decide +kernel)⟩

theorem met_BootRowsComplete_9 : ∃ (s : State), BootAt s.sys.boot s ∧ s.sys.holdDue = true ∧ s.boot.copy ≠ 0 :=
  ⟨{ wB .images with sys := { (wB .images).sys with holdDue := true }, boot := { copy := 1 } },
    (by unfold BootAt; decide +kernel), by decide +kernel⟩

theorem met_BootRowsComplete_10 : ∃ (s : State), BootAt .images s :=
  ⟨wB .images, (by unfold BootAt; decide +kernel)⟩

theorem met_BootRowsComplete_10_0 : ∃ (s : State), BootAt .images s ∧ s.entriesOf dtVOICE = [] ∧
    s.get F.DISP_STAT_STATE = dStopped :=
  ⟨{ wB .images with flash := [(0x100006, 0), (0x100007, 0)] }, (by unfold BootAt; decide +kernel), by decide +kernel,
    by decide +kernel⟩

theorem met_BootRowsComplete_11 : ∃ (t : Nat) (s : State), s.alive = true ∧ s.sys.bootZero = true ∧ s.breathing = true ∧
    s.disp.started = true ∧ (s.atTime t).reached s.n 100 = false :=
  ⟨0, { (w0.set F.DISP_STAT_STATE 2) with sys := { w0.sys with bootZero := true }, disp := { started := true }, time := { on := true } },
    by decide +kernel⟩

/-! ModeRowsComplete -/

theorem met_ModeRowsComplete_0 : ∃ (m : Nat) (v : Nat) (s : State), Admitted (regWr m A.SYS_MODE_APPLY) s ∧ Keyed v ∧
    s.sys.apply = .idle ∧ s.paired = false ∧ ((s.get F.PMU_STAT_PSTATE = psREADY ∨ s.get F.PMU_STAT_PSTATE = psSHOW)) :=
  ⟨0, 0xA55A0001, w0.set F.SYS_MODE_REQ 2, admitted_of (by decide +kernel), (by unfold Keyed; decide +kernel),
    by decide +kernel⟩

theorem met_ModeRowsComplete_1 : ∃ (s : State), s.alive = true ∧ s.sys.apply = .ramp ∧ s.sys.applyB + 32 ≤ s.n :=
  ⟨{ ((w0.set F.DISP_STAT_STATE 2).set F.PMU_STAT_PSTATE 4) with sys := { w0.sys with apply := .ramp }, disp := { n := 32, started := true }, time := { on := true } },
    by decide +kernel⟩

theorem met_ModeRowsComplete_2 : ∃ (s : State), s.alive = true ∧ s.sys.apply = .clocks ∧ ((∀ l < 128, ∀ f,
    s.fenceTl l = some f → f.spare.isSome = true → f.restart.isSome = true)) :=
  ⟨{ w0 with sys := { w0.sys with apply := .clocks, applyMode := 2 } }, by decide +kernel⟩

theorem met_ModeRowsComplete_3 : ∃ (t : Nat) (s : State), s.alive = true ∧ s.sys.apply = .anchor ∧
    s.get F.DISP_STAT_STATE = dArmed ∧ s.sys.applyAt + uMs ≤ max s.now t :=
  ⟨uMs, { (w0.set F.DISP_STAT_STATE 1) with sys := { w0.sys with apply := .anchor }, time := { on := true } },
    by decide +kernel⟩

theorem met_ModeRowsComplete_4 : ∃ (s : State), s.alive = true ∧ s.sys.apply = .rampIn ∧ s.sys.applyB + 32 ≤ s.n :=
  ⟨{ w0.set F.DISP_STAT_STATE 2 with sys := { w0.sys with apply := .rampIn }, disp := { n := 32 } }, by decide +kernel⟩

/-! ResetRowsComplete -/

theorem met_ResetRowsComplete_0 : ∃ (m : Nat) (v : Nat) (g : Nat) (s : State), Admitted (regWr m A.SYS_URST) s ∧ Keyed v ∧
    unitGroup (bits 12 8 v) = some g ∧ s.fencedGroup g = false ∧ s.sys.urst = none :=
  ⟨0, 0xA55A0C01, 10, w0, admitted_of (by decide +kernel), (by unfold Keyed; decide +kernel), by decide +kernel⟩

theorem met_ResetRowsComplete_1 : ∃ (t : Nat) (k : Nat) (a : Nat) (s : State), s.alive = true ∧ s.sys.urst = some (k, a) ∧
    a + 2 * uUs ≤ max s.now t :=
  ⟨2 * uUs, 10, 0,
    { (w0.set F.SYS_URST_STAT_BUSY 1).set F.SYS_URST_STAT_COUNT 255 with sys := { w0.sys with urst := some (10, 0) } },
    by decide +kernel⟩

theorem met_ResetRowsComplete_2 : ∃ (m : Nat) (v : Nat) (s : State), Admitted (regWr m A.SYS_WARM) s ∧ Keyed v ∧
    s.get F.FCU_STAT_STATE ≠ 2 ∧ s.sys.testMode = false ∧ s.get F.PMU_STAT_PSTATE ≠ psSTANDBY :=
  ⟨0, 0xA55A0001, (w0.setWord 0x100000000 5).setWord 0x08000000 7, admitted_of (by decide +kernel),
    (by unfold Keyed; decide +kernel), by decide +kernel⟩

theorem met_ResetRowsComplete_3 : ∃ (s : State), s.get F.PMU_STAT_PSTATE ≠ psSTANDBY ∧ s.get F.FCU_STAT_STATE ≠ 2 ∧
    s.sys.off = false ∧ s.sys.testMode = false :=
  ⟨w0, by decide +kernel⟩

theorem met_ResetRowsComplete_4 : ∃ (s : State), s.sys.off = false ∧ s.sys.pinHeld = true :=
  ⟨{ w0 with sys := { w0.sys with pinHeld := true, boot := .scan } }, by decide +kernel⟩

theorem met_ResetRowsComplete_5 : ∃ (s : State), s.get F.PMU_STAT_PSTATE ≠ psSTANDBY ∧ s.get F.FCU_STAT_STATE ≠ 2 ∧
    s.sys.off = false ∧ s.sys.testMode = false :=
  ⟨w0, by decide +kernel⟩

/-! PowerStateRequestsComplete -/

theorem met_PowerStateRequestsComplete_0 : ∃ (m : Nat) (v : Nat) (s : State), Admitted (regWr m A.PMU_PSTATE_REQ) s ∧
    Keyed v ∧ s.requestResult psSTANDBY = none :=
  ⟨0, 0xA55A0001, w0, admitted_of (by decide +kernel), (by unfold Keyed; decide +kernel), by decide +kernel⟩

theorem met_PowerStateRequestsComplete_1 : ∃ (m : Nat) (v : Nat) (s : State), Admitted (regWr m A.PMU_PSTATE_REQ) s ∧
    Keyed v ∧ s.requestResult psNAP = none :=
  ⟨0, 0xA55A0001, w0, admitted_of (by decide +kernel), (by unfold Keyed; decide +kernel), by decide +kernel⟩

theorem met_PowerStateRequestsComplete_2 : ∃ (m : Nat) (v : Nat) (s : State), Admitted (regWr m A.PMU_PSTATE_REQ) s ∧
    Keyed v ∧ s.requestResult psREADY = none :=
  ⟨0, 0xA55A0001, State.reset.set F.PMU_STAT_PSTATE 2, admitted_of (by decide +kernel), (by unfold Keyed; decide +kernel),
    by decide +kernel⟩

theorem met_PowerStateRequestsComplete_3 : ∃ (m : Nat) (v : Nat) (k : Nat) (r : Nat) (s : State),
    Admitted (regWr m A.PMU_PSTATE_REQ) s ∧ Keyed v ∧ k < 8 ∧ s.requestResult k = some r :=
  ⟨0, 0xA55A0001, 3, 1, w0, admitted_of (by decide +kernel), (by unfold Keyed; decide +kernel), by decide +kernel⟩

theorem met_PowerStateRequestsComplete_4 : ∃ (x : Nat) (s : State), s.sys.off = false ∧ s.get F.FCU_STAT_STATE ≠ 2 ∧
    s.sys.pinHeld = false ∧ s.pmu.fallAt = none ∧ s.pmu.target = some (psREADY, x) :=
  ⟨0, { State.reset.set F.PMU_STAT_PSTATE 2 with pmu := { target := some (3, 0) } }, by decide +kernel⟩

/-! WakeRowsComplete -/

theorem met_WakeRowsComplete_0 : ∃ (s : State), WakeHeard 0 s ∧ s.get F.PMU_STAT_PSTATE = psNAP :=
  ⟨(State.reset.set F.PMU_STAT_PSTATE 2).set F.PMU_WAKE_EN_EN 1, (by unfold WakeHeard; decide +kernel), by decide +kernel⟩

theorem met_WakeRowsComplete_1 : ∃ (k : Nat) (x : Nat) (s : State), s.bit F.PMU_WAKE_EN_EN 0 = true ∧
    s.get F.FCU_STAT_STATE ≠ 2 ∧ s.sys.off = false ∧ s.sys.testMode = false ∧ s.pmu.fallAt = none ∧
    s.pmu.target = some (k, x) ∧ (k = psNAP ∨ k = psSTANDBY) ∧ s.pmu.woken = none :=
  ⟨1, 0, { w0.set F.PMU_WAKE_EN_EN 1 with pmu := { target := some (1, 0) } }, by decide +kernel⟩

theorem met_WakeRowsComplete_2 : ∃ (s : State), WakeHeard 0 s ∧ s.get F.PMU_STAT_PSTATE = psSTANDBY :=
  ⟨State.reset.set F.PMU_WAKE_EN_EN 1, (by unfold WakeHeard; decide +kernel), by decide +kernel⟩

theorem met_WakeRowsComplete_3 : ∃ (t : Nat) (s : State), WakeHeard 1 s ∧ s.get F.PMU_STAT_PSTATE = psNAP ∧
    s.pmu.alarmed = false ∧ s.get F.PMU_ALARM_SEC ≤ (s.atTime t).aonSec :=
  ⟨3, ((State.reset.set F.PMU_STAT_PSTATE 2).set F.PMU_WAKE_EN_EN 2).set F.PMU_ALARM_SEC 0,
    (by unfold WakeHeard; decide +kernel), by decide +kernel⟩

theorem met_WakeRowsComplete_4 : ∃ (s : State), WakeHeard 2 s ∧ s.get F.PMU_STAT_PSTATE = psSTANDBY :=
  ⟨State.reset.set F.PMU_WAKE_EN_EN 4, (by unfold WakeHeard; decide +kernel), by decide +kernel⟩

theorem met_WakeRowsComplete_5 : ∃ (p : Nat) (s : State), WakeHeard 3 s ∧ s.get F.PMU_STAT_PSTATE = psNAP ∧ p < 4 ∧
    s.bit F.PMU_WAKE_EN_WAKE_PORTS p = true ∧ s.portUp p = true :=
  ⟨3, (((State.reset.set F.PMU_STAT_PSTATE 2).set F.PMU_WAKE_EN_EN 8).set F.PMU_WAKE_EN_WAKE_PORTS 8).set (F.NET_STAT_LSTATE 3) 4,
    (by unfold WakeHeard; decide +kernel), by decide +kernel⟩

/-! SupplyRowsComplete -/

theorem met_SupplyRowsComplete_0 : ∃ (r : Nat) (t : Nat) (s : State), r < 16 ∧ s.sys.off = false ∧
    (s.atTime t).railOn r = true ∧ s.pmu.below.contains r = false :=
  ⟨0, 0, { (w0.set (F.PMU_RAIL_OK 0) 1) with pmu := { started := [(0, 0), (15, 0)] } }, by decide +kernel⟩

theorem met_SupplyRowsComplete_1 : ∃ (r : Nat) (t : Nat) (s : State), r < 16 ∧ s.sys.off = false ∧
    (s.atTime t).railOn r = true :=
  ⟨15, 8, { (w0.set (F.PMU_RAIL_OK 15) 1) with pmu := { started := [(0, 0), (15, 0)] } }, by decide +kernel⟩

theorem met_SupplyRowsComplete_2 : ∃ (t : Nat) (s : State), s.sys.off = false ∧ (s.atTime t).avsRuns = true ∧
    s.get F.PMU_AVS_STAT_VNOW ≤ 850 :=
  ⟨0, { ((w0.set F.PMU_AVS_EN 1).set F.PMU_AVS_STAT_VNOW 850) with pmu := { started := [(0, 0), (15, 0)] } },
    by decide +kernel⟩

theorem met_SupplyRowsComplete_3 : ∃ (t : Nat) (s : State), s.sys.off = false ∧ (s.atTime t).avsRuns = true :=
  ⟨0, { ((w0.set F.PMU_AVS_EN 1).set F.PMU_AVS_STAT_VNOW 700) with pmu := { started := [(0, 0), (15, 0)] } },
    by decide +kernel⟩

theorem met_SupplyRowsComplete_4 : ∃ (s : State), s.sys.off = false :=
  ⟨w0, by decide +kernel⟩

theorem met_SupplyRowsComplete_5 : ∃ (s : State), s.get F.FCU_STAT_STATE ≠ 2 ∧ s.pmu.fallAt = none ∧ s.sys.off = false ∧
    ((s.get F.PMU_STAT_PSTATE ≠ psSTANDBY ∨ s.booting = true)) :=
  ⟨w0, by decide +kernel⟩

theorem met_SupplyRowsComplete_6 : ∃ (t : Nat) (f : Nat) (s : State), s.pmu.fallAt = some f ∧
    f + 100 * uMs ≤ max s.now t :=
  ⟨100 * uMs, 0, { w0 with pmu := { fallAt := some 0 } }, by decide +kernel⟩

/-! FaultEventIsCollected -/

theorem met_FaultEventIsCollected_0 : ∃ (src : Nat) (idx : Nat) (g : Nat) (t : Nat) (ok : Bool) (s : State),
    s.sys.off = false ∧ s.sys.pinHeld = false ∧ s.sys.boot = .none ∧ psREADY ≤ s.get F.PMU_STAT_PSTATE ∧
    s.pmu.fallAt = none ∧ s.get F.FCU_STAT_STATE ≠ 2 ∧ src < 124 ∧ src ≠ 121 ∧ idx < 65536 ∧ srcGroup src = some g ∧
    (s.atTime t).lineIgnored src g (if ok then idx else 65535) = false ∧ (s.atTime t).shadowed g = false ∧
    (s.atTime t).sameEvent src false = false ∧ s.classOf src = 0 :=
  ⟨92, 65535, 19, 4, true, w0, by decide +kernel⟩

/-! ReactionsLatch -/

theorem met_ReactionsLatch_0 : ∃ (src : Nat) (idx : Nat) (g : Nat) (t : Nat) (s : State), s.sys.off = false ∧
    s.sys.pinHeld = false ∧ s.sys.boot = .none ∧ psREADY ≤ s.get F.PMU_STAT_PSTATE ∧ s.pmu.fallAt = none ∧
    s.get F.FCU_STAT_STATE = 0 ∧ src < 124 ∧ src ≠ 121 ∧ idx < 65536 ∧ srcGroup src = some g ∧
    (s.atTime t).lineIgnored src g idx = false ∧ (s.atTime t).shadowed g = false ∧
    (s.atTime t).sameEvent src false = false :=
  ⟨116, 65535, 22, 4, w0.set (F.FCU_CLASS_CLASS 7 4) 2, by decide +kernel⟩

theorem met_ReactionsLatch_0_0 : ∃ (src : Nat) (idx : Nat) (g : Nat) (t : Nat) (s : State), s.sys.off = false ∧
    s.sys.pinHeld = false ∧ s.sys.boot = .none ∧ psREADY ≤ s.get F.PMU_STAT_PSTATE ∧ s.pmu.fallAt = none ∧
    s.get F.FCU_STAT_STATE = 0 ∧ src < 124 ∧ src ≠ 121 ∧ idx < 65536 ∧ srcGroup src = some g ∧
    (s.atTime t).lineIgnored src g idx = false ∧ (s.atTime t).shadowed g = false ∧
    (s.atTime t).sameEvent src false = false ∧ s.classOf src = 2 :=
  ⟨116, 65535, 22, 4, w0.set (F.FCU_CLASS_CLASS 7 4) 2, by decide +kernel⟩

theorem met_ReactionsLatch_0_1 : ∃ (src : Nat) (idx : Nat) (g : Nat) (t : Nat) (s : State), s.sys.off = false ∧
    s.sys.pinHeld = false ∧ s.sys.boot = .none ∧ psREADY ≤ s.get F.PMU_STAT_PSTATE ∧ s.pmu.fallAt = none ∧
    s.get F.FCU_STAT_STATE = 0 ∧ src < 124 ∧ src ≠ 121 ∧ idx < 65536 ∧ srcGroup src = some g ∧
    (s.atTime t).lineIgnored src g idx = false ∧ (s.atTime t).shadowed g = false ∧
    (s.atTime t).sameEvent src false = false ∧ s.classOf src = 3 :=
  ⟨0, 0, 0, 4, w0.set (F.FCU_CLASS_CLASS 0 0) 3, by decide +kernel⟩

/-! FaultRowsComplete -/

theorem met_FaultRowsComplete_0 : ∃ (src : Nat) (cycles : Nat) (g : Nat) (t : Nat) (s : State), s.sys.off = false ∧
    4 ≤ cycles ∧ src < 128 ∧ srcGroup src = some g ∧ (s.atTime t).fcuDeaf = false ∧
    (s.atTime t).lineIgnored src g 0xFFFF = false :=
  ⟨127, 4, 27, 4, w0, by decide +kernel⟩

theorem met_FaultRowsComplete_1 : ∃ (g : Nat) (t : Nat) (s : State), s.sys.off = false ∧
    mget 0 g s.fcu.shEnd ≤ max s.now t :=
  ⟨3, 4, { w0 with fcu := { shOpen := [(3, 1)], shEnd := [(3, 4)] } }, by decide +kernel⟩

theorem met_FaultRowsComplete_2 : ∃ (w : Nat) (diff : Nat) (t : Nat) (parity : Bool) (s : State), s.sys.off = false ∧
    w < 42 ∧ ((diff % 2 ^ 32 ≠ 0 ∨ parity = true)) ∧ (s.atTime t).fcuDeaf = false ∧
    (s.atTime t).lineIgnored 120 26 w = false ∧ (s.atTime t).sameEvent 120 false = false :=
  ⟨41, 0x80000000, 4, false, w0, by decide +kernel⟩

theorem met_FaultRowsComplete_3 : ∃ (m : Nat) (v : Nat) (s : State), Admitted (regWr m A.FCU_LOCK) s ∧ Keyed v :=
  ⟨0, 0xA55A0001, w0, admitted_of (by decide +kernel), (by unfold Keyed; decide +kernel)⟩

theorem met_FaultRowsComplete_4 : ∃ (m : Nat) (k : Nat) (s : State), k < 4 ∧ Admitted (regWr m (A.FCU_FORCE k)) s :=
  ⟨0, 3, w0.set F.FCU_FORCE_CFG_EN 1, by decide +kernel, admitted_of (by decide +kernel)⟩

theorem met_FaultRowsComplete_5 : ∃ (m : Nat) (r : FaultRec) (l : List FaultRec) (s : State),
    Admitted (regRd m A.FCU_REC0) s ∧ s.fcu.recs = r :: l :=
  ⟨0, ⟨92, 3, false, false, false, 0, 0x100000005, 9⟩, [],
    { w0 with fcu := { recs := [⟨92, 3, false, false, false, 0, 0x100000005, 9⟩] } }, admitted_of (by decide +kernel),
    by decide +kernel⟩

theorem met_FaultRowsComplete_6 : ∃ (t : Nat) (q : Nat) (s : State), s.sys.off = false ∧ s.fcu.audioStopped = false ∧
    (s.fcu.quietAt = some q ∨ s.fcu.haltAt = some q ∨ s.pmu.fallAt = some q) ∧ q + uUs ≤ max s.now t :=
  ⟨uUs, 0, { w0 with fcu := { quietAt := some 0 } }, by decide +kernel⟩

theorem met_FaultRowsComplete_7 : ∃ (t : Nat) (q : Nat) (s : State), s.sys.off = false ∧ s.get F.FCU_STAT_STATE = 1 ∧
    s.fcu.quietAt = some q ∧ s.fcu.autoDue = true ∧ s.get F.FCU_QUIET_CFG_AUTO = 1 ∧ q + s.quietDelay ≤ max s.now t ∧
    s.quietRecordOpen = false ∧ s.sys.testMode = false ∧ s.get F.PMU_STAT_PSTATE ≠ psSTANDBY :=
  ⟨10 * uMs, 0,
    { ((w0.set F.FCU_STAT_STATE 1).set F.FCU_QUIET_CFG_AUTO 1).set F.FCU_QUIET_CFG_DELAY_MS 10 with fcu := { quietAt := some 0, autoDue := true } },
    by decide +kernel⟩

theorem met_FaultRowsComplete_8 : ∃ (s : State), s.sys.off = false :=
  ⟨{ w0 with fcu := { restarts := [0] } }, by decide +kernel⟩

theorem met_FaultRowsComplete_9 : ∃ (t : Nat) (h : Nat) (s : State), s.sys.off = false ∧ s.fcu.haltAt = some h ∧
    s.fcu.stopped = false ∧ ((h + 100 * uMs ≤ max s.now t ∨ (s.lig.pend = [] ∧ s.lig.queued = [] ∧ s.lig.waiting = [] ∧
    s.lig.hkWait = []))) :=
  ⟨100 * uMs, 0, { w0 with fcu := { haltAt := some 0, haltSrc := 89 } }, by decide +kernel⟩

/-! SecurityRowsComplete -/

theorem met_SecurityRowsComplete_0 : ∃ (m : Nat) (v : Nat) (s : State), Admitted (regWr m A.SEC_BOOT_CONFIRM) s ∧
    Keyed v :=
  ⟨0, 0xA55A0001, w0, admitted_of (by decide +kernel), (by unfold Keyed; decide +kernel)⟩

theorem met_SecurityRowsComplete_1 : ∃ (m : Nat) (v : Nat) (s : State), Admitted (regWr m A.SEC_FLOOR_BURN) s ∧
    bits 31 16 v = 0xA55A :=
  ⟨0, 0xA55A0001, w0, admitted_of (by decide +kernel), by decide +kernel⟩

theorem met_SecurityRowsComplete_2 : ∃ (m : Nat) (v : Nat) (s : State), Admitted (regWr m A.SEC_REVOKE) s ∧ Keyed v :=
  ⟨0, 0xA55A0001, (w0.set F.SEC_STAT_KEY 1).set F.SEC_STAT_CONFIRMED 1, admitted_of (by decide +kernel),
    (by unfold Keyed; decide +kernel)⟩

theorem met_SecurityRowsComplete_3 : ∃ (m : Nat) (s : State), Admitted (regWr m A.SEC_AUTH_CMD) s ∧
    s.get F.SEC_AUTH_STAT_BUSY = 0 :=
  ⟨0, w0.set F.SEC_AUTH_ADDR_LO_ADDR_LO 0xFF, admitted_of (by decide +kernel), by decide +kernel⟩

theorem met_SecurityRowsComplete_4 : ∃ (a : Nat) (dir : Bool) (l : List (Nat × Bool)) (s : State), s.alive = true ∧
    s.boot.auth = (a, dir) :: l ∧ s.authTurn 16 = true :=
  ⟨0x100000000, false, [], { w0.set F.SEC_AUTH_STAT_BUSY 1 with boot := { auth := [(0x100000000, false)] } },
    by decide +kernel⟩

/-! JournalRowsComplete -/

theorem met_JournalRowsComplete_0 : ∃ (t : Nat) (r : JRec) (rest : List JRec) (w : State) (s : State), s.sys.off = false ∧
    s.sys.pinHeld = false ∧ s.fcu.stopped = false ∧ s.ligRuns = true ∧ s.lig.pend = r :: rest ∧
    writeRec r (s.atTime t) = some w :=
  
  ⟨4, { type := 7, opsec := 0, origseq := 0, body := [], seq := 0 }, [], _, { w0.set F.LIG_STAT_STATE lgIDLE with
    lig := { pend := [{ type := 7, opsec := 0, origseq := 0, body := [], seq := 0 }], ready := [0] } }, by decide +kernel,
    by decide +kernel, by decide +kernel, by decide +kernel, by decide +kernel, rfl⟩

theorem met_JournalRowsComplete_1 : ∃ (s : State), s.alive = true ∧ s.ligState = lgIDLE ∧ s.headReady = false ∧
    s.retired s.lig.headSec = false ∧ s.reclaimable s.lig.headSec = true ∧ mget 0 s.lig.headSec s.lig.erases < 80000 :=
  ⟨{ w0.set F.LIG_STAT_STATE lgIDLE with lig := { headSec := 0 } }, by decide +kernel⟩

theorem met_JournalRowsComplete_2 : ∃ (s : State), s.alive = true :=
  ⟨w0, by decide +kernel⟩

theorem met_JournalRowsComplete_3 : ∃ (t : Nat) (s : State), s.alive = true ∧ s.ligState = lgIDLE ∧
    s.lig.lastAge + 86400 ≤ (accrue (s.atTime t)).opsec ∧ (List.range ringLen).any s.aged = false :=
  ⟨86400 * uS, { w0.set F.LIG_STAT_STATE lgIDLE with time := { on := true } }, by decide +kernel, by decide +kernel,
    by decide +kernel, List.any_eq_false.mpr (fun k _ => by
      unfold State.aged
      rw [show ({ w0.set F.LIG_STAT_STATE lgIDLE with time := { on := true } } : State).get F.LIG_TAI_SECONDS = 0 by decide +kernel]
      simp)⟩

theorem met_JournalRowsComplete_4 : ∃ (t : Nat) (s : State), s.alive = true ∧ s.ligState ≠ lgSCAN ∧
    s.lig.lastHours + 3600 ≤ (accrue (s.atTime t)).opsec :=
  ⟨3600 * uS, { w0.set F.LIG_STAT_STATE lgIDLE with time := { on := true } }, by decide +kernel⟩

theorem met_JournalRowsComplete_5 : ∃ (m : Nat) (v : Nat) (n : Nat) (s : State), Admitted (regWr m A.LIG_APPEND) s ∧
    bitOf v 31 = true ∧ s.ligState ≠ lgFLUSH ∧ s.lig.flush = false ∧
    ((v % 65536 = jBASELINE ∨ v % 65536 = jREFHIST ∨ v % 65536 = jCAL)) ∧ bits 27 16 v = n ∧ n ≠ 0 ∧ n ≤ 2040 ∧
    (let r : JRec := { type := v % 65536, opsec := s.opsec, origseq := 0, body := s.appendBytes n }; jFits (jRoom r s.lig).1 r = true) :=
  ⟨0, 0x80010000 + jCAL, 1, w0, admitted_of (by decide +kernel), by decide +kernel⟩

theorem met_JournalRowsComplete_6 : ∃ (m : Nat) (v : Nat) (s : State), Admitted (regWr m A.LIG_RD_CMD) s ∧
    bitOf v 0 = true :=
  ⟨0, 1, w0, admitted_of (by decide +kernel), by decide +kernel⟩

theorem met_JournalRowsComplete_7 : ∃ (j : Nat) (s : State), s.alive = true ∧ s.get F.LIG_RD_CMD_BUSY = 1 ∧ j < 64 :=
  ⟨63, w0.set F.LIG_RD_CMD_BUSY 1, by decide +kernel⟩

/-! DispatcherRunRowsComplete -/

theorem met_DispatcherRunRowsComplete_0 : ∃ (m : Nat) (v : Nat) (s : State), Admitted (regWr m A.DISP_CTRL) s ∧
    bitOf v 0 = true ∧ s.get F.SYS_MODE_STAT_APPLYING = 0 :=
  ⟨0, 3, w0, admitted_of (by decide +kernel), by decide +kernel⟩

theorem met_DispatcherRunRowsComplete_1 : ∃ (m : Nat) (v : Nat) (s : State), Admitted (regWr m A.DISP_CTRL) s ∧
    bitOf v 0 = false ∧ s.get F.SYS_MODE_STAT_APPLYING = 0 :=
  ⟨0, 0, (w0.set F.DISP_STAT_STATE 1).set F.PMU_STAT_PSTATE 4, admitted_of (by decide +kernel), by decide +kernel⟩

theorem met_DispatcherRunRowsComplete_1_0 : ∃ (m : Nat) (v : Nat) (s : State), Admitted (regWr m A.DISP_CTRL) s ∧
    bitOf v 0 = false ∧ s.get F.SYS_MODE_STAT_APPLYING = 0 ∧ s.get F.DISP_STAT_STATE = dArmed :=
  ⟨0, 0, (w0.set F.DISP_STAT_STATE 1).set F.PMU_STAT_PSTATE 4, admitted_of (by decide +kernel), by decide +kernel⟩

theorem met_DispatcherRunRowsComplete_1_1 : ∃ (m : Nat) (v : Nat) (s : State), Admitted (regWr m A.DISP_CTRL) s ∧
    bitOf v 0 = false ∧ s.get F.SYS_MODE_STAT_APPLYING = 0 ∧ s.get F.DISP_STAT_STATE = dRunning ∧
    s.get F.RVC_STAT_STARTED = 0 :=
  ⟨0, 2, (wR 5).set F.PMU_STAT_PSTATE 4, admitted_of (by decide +kernel), by decide +kernel⟩

theorem met_DispatcherRunRowsComplete_1_2 : ∃ (m : Nat) (v : Nat) (s : State), Admitted (regWr m A.DISP_CTRL) s ∧
    bitOf v 0 = false ∧ s.get F.SYS_MODE_STAT_APPLYING = 0 ∧ s.get F.DISP_STAT_STATE = dRunning ∧
    s.get F.RVC_STAT_STARTED ≠ 0 :=
  ⟨0, 2, (wR 5).set F.RVC_STAT_STARTED 1, admitted_of (by decide +kernel), by decide +kernel⟩

theorem met_DispatcherRunRowsComplete_2 : ∃ (s : State), s.alive = true ∧ s.get F.DISP_STAT_STATE = dStopping ∧
    s.disp.insts.all (fun i => i.ended.isSome) = true ∧ s.get F.SYS_MODE_STAT_APPLYING = 0 :=
  ⟨{ ((w0.set F.DISP_STAT_STATE 3).set F.PMU_STAT_PSTATE 4) with disp := { insts := [{ lcore := 0, task := 0, breath := 0, ended := some .completed }] } },
    by decide +kernel⟩

theorem met_DispatcherRunRowsComplete_3 : ∃ (t : Nat) (s : State), s.alive = true ∧ (s.atTime t).breathDue = true :=
  ⟨256 * 1000000000 / 96000, wR 0, by decide +kernel⟩

/-! DispatcherStatisticsRowsComplete -/

theorem met_DispatcherStatisticsRowsComplete_0 : ∃ (m : Nat) (l : Nat) (s : State), Admitted (regWr m A.DISP_CLR) s ∧
    l < 128 :=
  ⟨0, 127, w0.set (F.DISP_CORE_STAT_BUSY_MAX 127) 5, admitted_of (by decide +kernel), by decide +kernel⟩

theorem met_DispatcherStatisticsRowsComplete_1 : ∃ (m : Nat) (k : Nat) (s : State), Admitted (regWr m A.DISP_CLR) s ∧
    k < 4864 :=
  ⟨0, 4863, w0.set (F.DISP_TBT_DATA1_WORD1 4863) 7, admitted_of (by decide +kernel), by decide +kernel⟩

theorem met_DispatcherStatisticsRowsComplete_2 : ∃ (m : Nat) (s : State), Admitted (regWr m A.DISP_CLR) s :=
  ⟨0, w0.set F.DISP_EVT_COUNT_EARLY 5, admitted_of (by decide +kernel)⟩

theorem met_DispatcherStatisticsRowsComplete_3 : ∃ (m : Nat) (s : State), Admitted (regWr m A.DISP_CLR) s :=
  ⟨0, w0.set F.DISP_MISS_COUNT_COUNT 3, admitted_of (by decide +kernel)⟩

theorem met_DispatcherStatisticsRowsComplete_4 : ∃ (m : Nat) (s : State), Admitted (regRd m (A.DISP_TBT_DATA1 0)) s ∧
    s.get F.DISP_TBT_INDEX_INDEX < 4864 ∧ s.get F.DISP_TBT_INDEX_AUTOINC = 1 ∧
    mget 0 (A.DISP_TBT_DATA1 (s.get F.DISP_TBT_INDEX_INDEX)) s.latch = 0 :=
  ⟨0, ((w0.set F.DISP_TBT_INDEX_INDEX 4863).set F.DISP_TBT_INDEX_AUTOINC 1).set (F.DISP_TBT_DATA1_WORD1 4863) 7,
    admitted_of (by decide +kernel), by decide +kernel⟩

/-! InstanceRowsComplete -/

theorem met_InstanceRowsComplete_0 : ∃ (l : Nat) (k : Nat) (b : Nat) (t : Nat) (e : TaskE) (i : Inst) (s : State),
    s.alive = true ∧ s.task l k = some e ∧ e.kind = .time ∧ i ∈ s.disp.insts ∧ i.is l k b = true ∧ i.waits = true ∧
    (s.atTime t).reached b (e.arg % 65536) = true :=
  ⟨0, 0, 0, 100 * 256, wT .time 100, { lcore := 0, task := 0, breath := 0 },
    { wR 0 with disp := { started := true, tasks := [(0, some (wT .time 100))], insts := [{ lcore := 0, task := 0, breath := 0 }] } },
    by decide +kernel⟩

theorem met_InstanceRowsComplete_1 : ∃ (l : Nat) (t : Nat) (e : TaskE) (i : Inst) (s : State), s.alive = true ∧
    i ∈ s.disp.insts ∧ i.lcore = l ∧ i.waits = true ∧ s.task l i.task = some e ∧ (s.atTime t).toWake e i.breath ≤ 0 ∧
    s.sleepOf l = .gated :=
  ⟨0, 460 * 256, wT .time 100, { lcore := 0, task := 0, breath := 0 },
    { wR 0 with disp := { started := true, tasks := [(0, some (wT .time 100))], insts := [{ lcore := 0, task := 0, breath := 0 }] } },
    by decide +kernel⟩

theorem met_InstanceRowsComplete_2 : ∃ (l : Nat) (k : Nat) (b : Nat) (t : Nat) (e : TaskE) (i : Inst) (s : State),
    s.alive = true ∧ s.task l k = some e ∧ s.disp.insts.find? (fun j => j.is l k b) = some i ∧
    (s.atTime t).mayStart i = true :=
  ⟨0, 0, 0, 200 * 256, wT .time 100, { lcore := 0, task := 0, breath := 0, fired := some 0 },
    { (wR 0).set F.PMU_REG_CTRL_CLKSPREAD 0 with disp := { started := true, tasks := [(0, some (wT .time 100))], sleep := [(0, .awake)], insts := [{ lcore := 0, task := 0, breath := 0, fired := some 0 }] }, core := [(0, { fly := [⟨3, 7, 1, none, false⟩] })] },
    by decide +kernel⟩

theorem met_InstanceRowsComplete_3 : ∃ (l : Nat) (k : Nat) (b : Nat) (t : Nat) (e : TaskE) (i : Inst) (s : State),
    s.alive = true ∧ s.task l k = some e ∧ (s.atTime t).reached b e.deadline = true ∧
    s.disp.insts.find? (fun j => j.is l k b) = some i ∧ i.late = false ∧ i.ended = none ∧ i.fired.isSome = true :=
  ⟨0, 0, 0, 2000 * 256, wT .time 100, { lcore := 0, task := 0, breath := 0, fired := some 0 },
    { wR 0 with disp := { started := true, tasks := [(0, some (wT .time 100))], insts := [{ lcore := 0, task := 0, breath := 0, fired := some 0 }] }, mtx := { taps := [(reedTap0 + 8, ⟨77, 0, 0, 0⟩)] } },
    by decide +kernel⟩

theorem met_InstanceRowsComplete_3_0 : ∃ (l : Nat) (k : Nat) (b : Nat) (t : Nat) (e : TaskE) (i : Inst) (s : State),
    s.alive = true ∧ s.task l k = some e ∧ (s.atTime t).reached b e.deadline = true ∧
    s.disp.insts.find? (fun j => j.is l k b) = some i ∧ i.late = false ∧ i.ended = none ∧ i.fired.isSome = true ∧
    s.classOf 8 = 0 :=
  ⟨0, 0, 0, 2000 * 256, wT .time 100, { lcore := 0, task := 0, breath := 0, fired := some 0 },
    { wR 0 with disp := { started := true, tasks := [(0, some (wT .time 100))], insts := [{ lcore := 0, task := 0, breath := 0, fired := some 0 }] }, mtx := { taps := [(reedTap0 + 8, ⟨77, 0, 0, 0⟩)] } },
    by decide +kernel⟩

theorem met_InstanceRowsComplete_4 : ∃ (l : Nat) (k : Nat) (b : Nat) (t : Nat) (e : TaskE) (i : Inst) (s : State),
    s.alive = true ∧ s.task l k = some e ∧ (s.atTime t).reached b e.deadline = true ∧
    s.disp.insts.find? (fun j => j.is l k b) = some i ∧ i.late = false ∧ i.ended = none ∧ i.fired = none ∧
    s.classOf 8 = 0 :=
  ⟨0, 0, 0, 2000 * 256, wT .time 100, { lcore := 0, task := 0, breath := 0 },
    { wR 0 with disp := { started := true, tasks := [(0, some (wT .time 100))], insts := [{ lcore := 0, task := 0, breath := 0 }] } },
    by decide +kernel⟩

theorem met_InstanceRowsComplete_5 : ∃ (l : Nat) (k : Nat) (b : Nat) (t : Nat) (e : TaskE) (i : Inst) (s : State),
    s.alive = true ∧ s.task l k = some e ∧ (s.atTime t).reached b e.deadline = true ∧
    s.disp.insts.find? (fun j => j.is l k b) = some i ∧ i.late = false ∧ i.ended = some .fenced :=
  ⟨0, 0, 0, 2000 * 256, wT .time 100, { lcore := 0, task := 0, breath := 0, ended := some .fenced },
    { wR 0 with disp := { started := true, tasks := [(0, some (wT .time 100))], insts := [{ lcore := 0, task := 0, breath := 0, ended := some .fenced }] } },
    by decide +kernel⟩

theorem met_InstanceRowsComplete_6 : ∃ (p : Nat) (i : InstRef) (s : State), s.alive = true ∧ (s.coreS p).inst = some i ∧
    (s.coreS p).ending = true :=
  ⟨0, ⟨0, 0, 0, 0, 0, 8⟩,
    { wR 0 with core := [(0, { wC 0 with ending := true, twr := [(reedTap0 + 9, 1234)] })], disp := { started := true, tasks := [(0, some (wT .time 100))], insts := [{ lcore := 0, task := 0, breath := 0, fired := some 0, started := some 1 }] } },
    by decide +kernel⟩

theorem met_InstanceRowsComplete_7 : ∃ (p : Nat) (t : Nat) (i : InstRef) (e : TaskE) (s : State), s.alive = true ∧
    p < 136 ∧ (s.coreS p).inst = some i ∧ s.task i.lcore i.task = some e ∧
    ((e.deadline * 256 + s.period : Nat) : Int) ≤ (s.atTime t).since i.breath :=
  ⟨0, 256 * 1000000000 / 96000 + 2000 * 256, ⟨0, 0, 0, 0, 0, 8⟩, wT .time 100,
    { wR 0 with core := [(0, wC 0)], disp := { started := true, tasks := [(0, some (wT .time 100))], insts := [{ lcore := 0, task := 0, breath := 0, fired := some 0, started := some 1 }] } },
    by decide +kernel⟩

theorem met_InstanceRowsComplete_7_0 : ∃ (p : Nat) (t : Nat) (i : InstRef) (e : TaskE) (s : State), s.alive = true ∧
    p < 136 ∧ (s.coreS p).inst = some i ∧ s.task i.lcore i.task = some e ∧
    ((e.deadline * 256 + s.period : Nat) : Int) ≤ (s.atTime t).since i.breath ∧ s.classOf 5 = 0 ∧ s.classOf 8 = 0 :=
  ⟨0, 256 * 1000000000 / 96000 + 2000 * 256, ⟨0, 0, 0, 0, 0, 8⟩, wT .time 100,
    { wR 0 with core := [(0, wC 0)], disp := { started := true, tasks := [(0, some (wT .time 100))], insts := [{ lcore := 0, task := 0, breath := 0, fired := some 0, started := some 1 }] } },
    by decide +kernel⟩

theorem met_InstanceRowsComplete_8 : ∃ (p : Nat) (t : Nat) (i : Inst) (s : State), s.alive = true ∧ p < 136 ∧
    (s.coreS p).inst = none ∧ i ∈ s.disp.insts ∧ i.ready = true ∧ s.physOf i.lcore = p ∧ (s.atTime t).overdue i = true ∧
    s.classOf 5 = 0 ∧ s.classOf 8 = 0 :=
  ⟨0, 256 * 1000000000 / 96000 + 2000 * 256, { lcore := 0, task := 0, breath := 0, fired := some 0 },
    { wR 0 with disp := { started := true, tasks := [(0, some (wT .time 100))], insts := [{ lcore := 0, task := 0, breath := 0, fired := some 0 }] } },
    by decide +kernel⟩

/-! CoreEventRowsComplete -/

theorem met_CoreEventRowsComplete_0 : ∃ (p : Nat) (q : PendI) (s : State), s.alive = true ∧
    (s.coreS p).inst.isSome = true ∧ (s.coreS p).halted = false ∧ (s.coreS p).boundary = true ∧
    (s.coreS p).pend = some q ∧ q.cause < 4 ∧ (s.coreS p).yext = [] :=
  ⟨0, ⟨2, 5, some 9, false, false⟩,
    { wR 0 with core := [(0, { wC 0 with pc := 3, cyc := 8, pend := some ⟨2, 5, some 9, false, false⟩ })] },
    by decide +kernel⟩

theorem met_CoreEventRowsComplete_1 : ∃ (p : Nat) (s : State), s.alive = true ∧ (s.coreS p).inst.isSome = true ∧
    (s.coreS p).halted = false ∧ (s.coreS p).boundary = true ∧ (s.coreS p).pend = none ∧ (s.coreS p).dbgReq = true ∧
    (s.coreS p).rd locIE (s.coreS p).cyc ≠ 0 ∧ s.haltAt p = false ∧ (s.coreS p).yext = [] :=
  ⟨135, { (wR 0).set (F.RC_DBGCTL_DBGINT_EN 135) 1 with core := [(135, { wC 0 with pc := 3, cyc := 8, dbgReq := true })] },
    by decide +kernel⟩

theorem met_CoreEventRowsComplete_2 : ∃ (p : Nat) (s : State), s.alive = true ∧ (s.coreS p).returning = true ∧
    (s.coreS p).halted = false ∧ (s.coreS p).yext = [] :=
  ⟨0, { wR 0 with core := [(0, { wC 0 with returning := true, base := [(locS srIPC, 0x2005)] })] }, by decide +kernel⟩

theorem met_CoreEventRowsComplete_3 : ∃ (m : Nat) (p : Nat) (v : Nat) (s : State), Admitted (regWr m (A.RC_DBGCTL p)) s ∧
    p < 136 ∧ bitOf v 0 = true ∧ bitOf v 1 = false :=
  ⟨0, 135, 5, { wR 0 with core := [(135, wC 0)] }, admitted_of (by decide +kernel), by decide +kernel⟩

theorem met_CoreEventRowsComplete_3_0 : ∃ (m : Nat) (p : Nat) (v : Nat) (s : State),
    Admitted (regWr m (A.RC_DBGCTL p)) s ∧ p < 136 ∧ bitOf v 0 = true ∧ bitOf v 1 = false ∧ bitOf v 2 = true :=
  ⟨0, 135, 5, { wR 0 with core := [(135, wC 0)] }, admitted_of (by decide +kernel), by decide +kernel⟩

theorem met_CoreEventRowsComplete_3_1 : ∃ (m : Nat) (p : Nat) (v : Nat) (s : State),
    Admitted (regWr m (A.RC_DBGCTL p)) s ∧ p < 136 ∧ bitOf v 0 = true ∧ bitOf v 1 = false ∧
    ((s.coreS p).halted = false ∨ bitOf v 2 = false) :=
  ⟨0, 135, 5, { wR 0 with core := [(135, wC 0)] }, admitted_of (by decide +kernel), by decide +kernel⟩

theorem met_CoreEventRowsComplete_4 : ∃ (p : Nat) (s : State), s.alive = true ∧ p < 136 ∧ s.get (F.RC_DBGCTL_HALT p) = 1 ∧
    s.get (F.RC_DBGCTL_DBGINT_EN p) = 0 ∧ (s.coreS p).boundary = true ∧ (s.coreS p).pend = none ∧
    (s.coreS p).halted = false ∧ s.get (F.RC_STAT_STATE p) ≠ rcISOLATED ∧ s.get (F.RC_STAT_STATE p) ≠ rcBIST :=
  ⟨135, { (wR 0).set (F.RC_DBGCTL_HALT 135) 1 with core := [(135, { wC 0 with pc := 8191 })] }, by decide +kernel⟩

theorem met_CoreEventRowsComplete_4_0 : ∃ (p : Nat) (s : State), s.alive = true ∧ p < 136 ∧
    s.get (F.RC_DBGCTL_HALT p) = 1 ∧ s.get (F.RC_DBGCTL_DBGINT_EN p) = 0 ∧ (s.coreS p).boundary = true ∧
    (s.coreS p).pend = none ∧ (s.coreS p).halted = false ∧ s.get (F.RC_STAT_STATE p) ≠ rcISOLATED ∧
    s.get (F.RC_STAT_STATE p) ≠ rcBIST ∧ (s.coreS p).yext = [] :=
  ⟨135, { (wR 0).set (F.RC_DBGCTL_HALT 135) 1 with core := [(135, { wC 0 with pc := 8191 })] }, by decide +kernel⟩

theorem met_CoreEventRowsComplete_5 : ∃ (m : Nat) (p : Nat) (v : Nat) (s : State), Admitted (regWr m (A.RC_DBGCTL p)) s ∧
    p < 136 ∧ bitOf v 0 = true ∧ bitOf v 1 = true ∧ bitOf v 2 = false ∧ (s.coreS p).halted = true ∧
    (s.coreS p).inst.isSome = true :=
  ⟨0, 0, 3,
    { ((wR 0).set (F.RC_DBGCTL_HALT 0) 1).set (F.RC_STAT_STATE 0) 3 with core := [(0, { wC 0 with halted := true })] },
    admitted_of (by decide +kernel), by decide +kernel⟩

theorem met_CoreEventRowsComplete_5_0 : ∃ (m : Nat) (p : Nat) (v : Nat) (e : Ecc) (s : State),
    Admitted (regWr m (A.RC_DBGCTL p)) s ∧ p < 136 ∧ bitOf v 0 = true ∧ bitOf v 1 = true ∧ bitOf v 2 = false ∧
    (s.coreS p).halted = true ∧ (s.coreS p).inst.isSome = true ∧ e = .clean ∧ (s.coreS p).slot = none ∧
    (s.coreS p).pend = none ∧ (s.coreS p).ending = false ∧ (s.coreS p).returning = false ∧ (s.coreS p).yext = [] ∧
    reedDecode (s.word (iBase p + 4 * (s.coreS p).pc)) = some .nop ∧ (s.fetchCore p).loopEnd = false ∧
    s.get (F.RC_STAT_STATE p) ≠ rcISOLATED :=
  ⟨0, 0, 3, .clean,
    { ((wR 0).set (F.RC_DBGCTL_HALT 0) 1).set (F.RC_STAT_STATE 0) 3 with core := [(0, { wC 0 with halted := true })] },
    admitted_of (by decide +kernel), by decide +kernel⟩

theorem met_CoreEventRowsComplete_6 : ∃ (m : Nat) (p : Nat) (s : State), Admitted (regWr m (A.RC_ECC p)) s ∧ p < 136 :=
  ⟨0, 135, w0.set (F.RC_ECC_CE 135) 9, admitted_of (by decide +kernel), by decide +kernel⟩

/-! RotationRowsComplete -/

theorem met_RotationRowsComplete_0 : ∃ (l : Nat) (q : Nat) (s : State), s.alive = true ∧ s.breathing = true ∧
    s.disp.rot = none ∧ s.disp.rotFree ≤ s.n ∧ s.get F.SYS_MODE_STAT_APPLYING = 0 ∧ s.disp.bistReq = none ∧
    s.get F.DISP_CTRL_ROT_EN = 1 ∧ s.disp.rotDue ≤ s.n ∧ s.rotCandidate = some l ∧ s.lowestSpare = some q :=
  ⟨0, 128, (wR 5).set F.DISP_CTRL_ROT_EN 1, by decide +kernel⟩

theorem met_RotationRowsComplete_1 : ∃ (l : Nat) (s : State), s.alive = true ∧ s.breathing = true ∧ s.disp.rot = none ∧
    s.disp.rotFree ≤ s.n ∧ s.get F.SYS_MODE_STAT_APPLYING = 0 ∧ s.disp.bistReq = none ∧ s.get F.DISP_CTRL_ROT_EN = 1 ∧
    s.disp.rotDue ≤ s.n ∧ s.rotCandidate = some l ∧ s.lowestSpare = none :=
  ⟨0, ((wR 5).set F.DISP_CTRL_ROT_EN 1).set F.DISP_FENCED4_FENCED 255, by decide +kernel⟩

theorem met_RotationRowsComplete_2 : ∃ (t : Nat) (r : RotS) (s : State), s.alive = true ∧ s.disp.rot = some r ∧
    r.hand = some .bulk ∧ s.handQuiet r = true ∧ (s.atTime t).spareUp r = true :=
  ⟨100 * uUs, { lcore := 0, p := 0, q := 128, hand := some .bulk },
    ({ wR 5 with disp := { (wR 5).disp with rot := some { lcore := 0, p := 0, q := 128, hand := some .bulk } } } : State).setWord 0x40010000 9,
    by decide +kernel⟩

theorem met_RotationRowsComplete_3 : ∃ (r : RotS) (s : State), s.alive = true ∧ s.disp.rot = some r ∧
    r.hand = some .catchup ∧ s.handQuiet r = true :=
  ⟨{ lcore := 0, p := 0, q := 128, hand := some .catchup, dirty := [256] },
    ({ wR 5 with disp := { (wR 5).disp with rot := some { lcore := 0, p := 0, q := 128, hand := some .catchup, dirty := [256] } } } : State).setWord 0x40010000 9,
    by decide +kernel⟩

theorem met_RotationRowsComplete_4 : ∃ (t : Nat) (r : RotS) (s : State), s.alive = true ∧ s.disp.rot = some r ∧
    r.hand = some .switchWait ∧ r.lcore < 128 ∧ r.p < 136 ∧ r.q < 136 ∧ r.p ≠ r.q ∧ (s.coreS r.holder).inst = none ∧
    s.breathing = true ∧ (s.atTime t).since s.n < 100 * 256 :=
  ⟨0, { lcore := 0, p := 0, q := 128, hand := some .switchWait },
    { wR 0 with disp := { (wR 0).disp with rot := some { lcore := 0, p := 0, q := 128, hand := some .switchWait } } },
    by decide +kernel⟩

theorem met_RotationRowsComplete_5 : ∃ (r : RotS) (s : State), s.alive = true ∧ s.disp.rot = some r ∧ r.hand = none ∧
    r.back = false ∧ r.bistAt = none ∧ r.startB < s.n ∧ r.p < 136 :=
  ⟨{ lcore := 0, p := 0, q := 128 },
    { wR 1 with disp := { (wR 1).disp with rot := some { lcore := 0, p := 0, q := 128 } } }, by decide +kernel⟩

theorem met_RotationRowsComplete_6 : ∃ (p : Nat) (s : State), s.alive = true ∧ s.disp.rot = none ∧
    s.disp.bistSpare = some (p, none) ∧ p < 136 ∧ s.breathing = true ∧ s.disp.started = true ∧ s.disp.bistB ≤ s.n :=
  ⟨135, { wR 1 with disp := { (wR 1).disp with bistSpare := some (135, none) } }, by decide +kernel⟩

theorem met_RotationRowsComplete_7 : ∃ (t : Nat) (a : Nat) (r : RotS) (s : State), s.alive = true ∧ s.disp.rot = some r ∧
    r.hand = none ∧ r.bistAt = some a ∧ r.requested = false ∧ r.swap = false ∧ r.p < 136 ∧
    testRan (s.atTime t) a ≥ ((2 * uMs : Nat) : Int) ∧ ((∀ b,
    s.spareTestAt = some b → testRan (s.atTime t) b ≤ testRan (s.atTime t) a)) :=
  ⟨2 * uMs, 0, { lcore := 0, p := 0, q := 128, bistAt := some 0 },
    { wR 0 with disp := { (wR 0).disp with rot := some { lcore := 0, p := 0, q := 128, bistAt := some 0 } } },
    by decide +kernel⟩

theorem met_RotationRowsComplete_8 : ∃ (t : Nat) (a : Nat) (p : Nat) (s : State), s.alive = true ∧ s.disp.rot = none ∧
    s.disp.bistSpare = some (p, some a) ∧ p < 136 ∧ testRan (s.atTime t) a ≥ ((2 * uMs : Nat) : Int) :=
  ⟨2 * uMs, 0, 135, { wR 0 with disp := { (wR 0).disp with bistSpare := some (135, some 0) } }, by decide +kernel⟩

theorem met_RotationRowsComplete_9 : ∃ (m : Nat) (v : Nat) (s : State), Admitted (regWr m A.DISP_BIST_REQ) s ∧
    v / 65536 = 0xA55A ∧ bitOf v 0 = true ∧ s.coreFenced (bits 15 8 v) = false ∧ bits 15 8 v < 136 ∧
    s.disp.pgated.contains (bits 15 8 v) = false ∧ s.get F.DISP_BIST_STAT_BUSY = 0 ∧ s.idleSpare (bits 15 8 v) = true :=
  ⟨0, 0xA55A8701, wR 5, admitted_of (by decide +kernel), by decide +kernel⟩

theorem met_RotationRowsComplete_10 : ∃ (l : Nat) (q : Nat) (f : FenceTl) (s : State), s.alive = true ∧
    s.fenceTl l = some f ∧ f.spare = none ∧ s.coreLost l = false ∧ ((s.breathing = true → f.f + 1 ≤ s.n)) ∧
    s.lowestSpare = some q :=
  ⟨3, 128, { f := 4, p := 3 }, { wR 5 with disp := { (wR 5).disp with fenceTl := [(3, some { f := 4, p := 3 })] } },
    by decide +kernel⟩

theorem met_RotationRowsComplete_11 : ∃ (l : Nat) (f : FenceTl) (s : State), s.alive = true ∧ s.breathing = true ∧
    s.fenceTl l = some f ∧ f.ramp = none ∧ f.restart = none ∧ f.f + 8 ≤ s.n :=
  ⟨3, { f := 0, p := 3, spare := some 128 },
    { wR 8 with disp := { (wR 8).disp with fenceTl := [(3, some { f := 0, p := 3, spare := some 128 })], tasks := [(384, some (wT .time 100))] } },
    by decide +kernel⟩

theorem met_RotationRowsComplete_12 : ∃ (l : Nat) (q : Nat) (f : FenceTl) (s : State), s.alive = true ∧ l < 128 ∧
    q < 136 ∧ s.fenceTl l = some f ∧ f.spare = some q :=
  ⟨127, 135, { f := 0, p := 3, spare := some 135 },
    { wR 8 with disp := { (wR 8).disp with fenceTl := [(127, some { f := 0, p := 3, spare := some 135 })] } },
    by decide +kernel⟩

theorem met_RotationRowsComplete_12_0 : ∃ (l : Nat) (q : Nat) (f : FenceTl) (s : State), s.alive = true ∧ l < 128 ∧
    q < 136 ∧ s.fenceTl l = some f ∧ f.spare = some q ∧ s.coreOwner l = none :=
  ⟨127, 135, { f := 0, p := 3, spare := some 135 },
    { wR 8 with disp := { (wR 8).disp with fenceTl := [(127, some { f := 0, p := 3, spare := some 135 })] } },
    by decide +kernel⟩

theorem met_RotationRowsComplete_12_1 : ∃ (l : Nat) (q : Nat) (f : FenceTl) (s : State), s.alive = true ∧ l < 128 ∧
    q < 136 ∧ s.fenceTl l = some f ∧ f.spare = some q ∧ s.coreOwner l ≠ none ∧ f.restart = none :=
  ⟨3, 128, { f := 0, p := 3, spare := some 128 },
    { wR 8 with rvc := { coreSec := [(3, 1)] }, disp := { (wR 8).disp with fenceTl := [(3, some { f := 0, p := 3, spare := some 128 })] } },
    by decide +kernel⟩

/-! MatrixRowsComplete -/

theorem met_MatrixRowsComplete_0 : ∃ (n : Nat) (b : Nat) (t : Nat) (s : State), s.alive = true ∧ n < 1024 ∧ b ≤ s.n ∧
    s.breathing = true ∧ (s.tap (busTap0 + n)).at_ ≤ b ∧ 100 * 256 ≤ (s.atTime t).since b ∧
    (s.busSrcs n).all (fun q => s.srcReady q n b) = true ∧ ((b = s.n → s.mtxWaits 8 = false)) ∧
    s.suspendedO (s.busOwner n) = false :=
  ⟨1023, 0, 100 * 256, wR 0, by decide +kernel⟩

theorem met_MatrixRowsComplete_1 : ∃ (n : Nat) (b : Nat) (t : Nat) (s : State), s.alive = true ∧ n < 1024 ∧ b ≤ s.n ∧
    s.breathing = true ∧ (s.tap (busTap0 + n)).at_ ≤ b ∧ 100 * 256 ≤ (s.atTime t).since b ∧
    (s.busSrcs n).all (fun q => s.srcReady q n b) = true ∧ ((b = s.n → s.mtxWaits 8 = false)) ∧
    s.suspendedO (s.busOwner n) = true :=
  ⟨2, 0, 100 * 256,
    { ((((wX 0).set (F.MTX_BUSVALID_VALID 0) 4).set (F.MTX_BUSOWN_OWNER 0) 0x300).set F.TWIN_RS_STAT_PHASE 4).set F.TWIN_RS_STAT_SET 8 with mtx := { gain := [(1026, { cur := 0x40000000 })], taps := [(1, ⟨1000, 3, 2, 1⟩), (busTap0 + 2, ⟨55, 0, 0, 0⟩)] } },
    by decide +kernel⟩

theorem met_MatrixRowsComplete_2 : ∃ (src : Nat) (bus : Nat) (b : Nat) (s : State), s.alive = true ∧ bus < 1024 ∧
    (s.tap (busTap0 + bus)).at_ ≤ b ∧ b ≤ s.n ∧ s.srcReady src bus b = true ∧
    crosses (s.srcVals src bus b).1 (s.srcVals src bus b).2 = false :=
  ⟨1, 2, 5,
    { wX 5 with mtx := { gain := [(1026, { phase := .wait, count := 7, zct := 7, cur := 5 })], taps := [(1, ⟨1000, 3, 2, 6⟩)] } },
    by decide +kernel⟩

theorem met_MatrixRowsComplete_2_0 : ∃ (src : Nat) (bus : Nat) (b : Nat) (s : State), s.alive = true ∧ bus < 1024 ∧
    (s.tap (busTap0 + bus)).at_ ≤ b ∧ b ≤ s.n ∧ s.srcReady src bus b = true ∧
    crosses (s.srcVals src bus b).1 (s.srcVals src bus b).2 = false ∧
    (s.active.any (fun x => x.key == src * 1024 + bus)) = true ∧ ((s.gainOf (src * 1024 + bus)).take b).phase = .wait ∧
    ((s.gainOf (src * 1024 + bus)).take b).zct ≤ ((s.gainOf (src * 1024 + bus)).take b).count :=
  ⟨1, 2, 5,
    { wX 5 with mtx := { gain := [(1026, { phase := .wait, count := 7, zct := 7, cur := 5 })], taps := [(1, ⟨1000, 3, 2, 6⟩)] } },
    by decide +kernel⟩

theorem met_MatrixRowsComplete_3 : ∃ (bus : Nat) (s : State), s.alive = true ∧ bus < 1024 :=
  ⟨2, { wX 5 with mtx := { gain := [(1026, { phase := .ramp, count := 7, len := 7, cur := 5 })] } }, by decide +kernel⟩

theorem met_MatrixRowsComplete_3_0 : ∃ (src : Nat) (bus : Nat) (s : State), s.alive = true ∧ bus < 1024 ∧
    (s.active.any (fun x => x.key == src * 1024 + bus)) = true ∧ (s.gainOf (src * 1024 + bus)).phase = .ramp ∧
    (s.gainOf (src * 1024 + bus)).count = (s.gainOf (src * 1024 + bus)).len :=
  ⟨1, 2, { wX 5 with mtx := { gain := [(1026, { phase := .ramp, count := 7, len := 7, cur := 5 })] } }, by decide +kernel⟩

theorem met_MatrixRowsComplete_4 : ∃ (m : Nat) (v : Nat) (s : State), Admitted (regWr m A.MTX_SWAP) s ∧
    v / 65536 = 0xA55A ∧ bitOf v 0 = true ∧ s.get F.MTX_SWAP_STAT_BUSY = 0 ∧ s.get F.SYS_MODE_STAT_APPLYING = 0 ∧
    ((bitOf v 1 = true → s.paired = false)) ∧
    ((bitOf v 1 = false → serAfter 48 (s.get F.MTX_SWAP_BREATH_HI_B_HI * 2 ^ 32 + s.get F.MTX_SWAP_BREATH_LO_B_LO) (bidx s.n) = true)) :=
  ⟨0, 0xA55A0001, (wR 5).set F.MTX_SWAP_BREATH_LO_B_LO 6, admitted_of (by decide +kernel), by decide +kernel⟩

theorem met_MatrixRowsComplete_5 : ∃ (s : State), s.alive = true ∧ s.get F.MTX_SWAP_STAT_BUSY = 1 ∧ s.mtx.swapOk = false ∧
    s.mtx.swapped = false :=
  ⟨(wX 5).set F.MTX_SWAP_STAT_BUSY 1, by decide +kernel⟩

theorem met_MatrixRowsComplete_6 : ∃ (s : State), s.alive = true ∧ s.get F.MTX_SWAP_STAT_BUSY = 1 ∧ s.mtx.swapOk = true ∧
    s.mtx.swapped = false ∧ s.mtx.swapWhen = false ∧ s.breathing = true ∧ s.mtx.swapB ≤ s.n :=
  ⟨{ (wX 5).set F.MTX_SWAP_STAT_BUSY 1 with mtx := { swapOk := true, swapB := 5 } }, by decide +kernel⟩

theorem met_MatrixRowsComplete_7 : ∃ (s : State), s.alive = true ∧ s.mtx.swapped = true ∧ s.mtx.swapB + 1 ≤ s.n :=
  ⟨{ (wX 5).set F.MTX_SWAP_STAT_BUSY 1 with mtx := { swapOk := true, swapped := true, swapB := 4 } }, by decide +kernel⟩

theorem met_MatrixRowsComplete_8 : ∃ (m : Nat) (k : Nat) (v : Nat) (s : State), k < 8 ∧
    Admitted (regWr m (A.MTX_MBOX_POST k)) s ∧ bitOf v 31 = true ∧ 1 ≤ bits 6 0 v ∧ bits 6 0 v ≤ 64 ∧
    s.mbState k ≠ mbPOSTED ∧ ((bitOf v 30 = true → s.paired = false)) ∧
    ((bitOf v 30 = false → serBefore 48 (s.get (F.MTX_MBOX_BREATH_HI_B_HI k) * 2 ^ 32 + s.get (F.MTX_MBOX_BREATH_LO_B_LO k)) (bidx (s.n + 2)) = false)) :=
  ⟨0, 7, 0x80000040, (wR 5).set (F.MTX_MBOX_BREATH_LO_B_LO 7) 7, by decide +kernel, admitted_of (by decide +kernel),
    by decide +kernel⟩

theorem met_MatrixRowsComplete_9 : ∃ (k : Nat) (s : State), k < 8 ∧ s.alive = true ∧ s.mboxDue k = true ∧
    s.mtxWaits k = false :=
  ⟨7, { (wR 7).set (F.MTX_MBOX_STAT_STATE 7) 1 with mtx := { mboxB := [(7, 7)], mboxN := [(7, 64)] } }, by decide +kernel⟩

theorem met_MatrixRowsComplete_10 : ∃ (l : Nat) (s : State), s.alive = true ∧ s.awaitsSpare l s.n = false ∧
    s.physOf l < 136 :=
  ⟨5, { wR 7 with disp := { (wR 7).disp with heldWords := [⟨5, 7, false, 3, 9, 1⟩, ⟨6, 7, false, 3, 9, 1⟩] } },
    by decide +kernel⟩

theorem met_MatrixRowsComplete_11 : ∃ (m : Nat) (s : State), Admitted (regWr m A.MTX_CLR) s :=
  ⟨0, (w0.set F.MTX_FMTSAT_COUNT 4).set F.MTX_BUSSAT_COUNT 3, admitted_of (by decide +kernel)⟩

/-! ConverterAndTapRowsComplete -/

theorem met_ConverterAndTapRowsComplete_0 : ∃ (k : Nat) (t : Nat) (s : State), s.alive = true ∧ k < 256 ∧
    (s.asrcCh k).on = true ∧ s.get (F.ASRC_CH_STAT_LOCKED k) = 0 ∧ ratioOk (s.asrcRatio k) = true ∧
    (s.asrcCh k).stableAt + uS ≤ max s.now t :=
  ⟨255, uS,
    { w0.set (F.ASRC_CH_RATIO_HI_RATIO_HI 255) 64 with asrc := { ch := [(255, { on := true, rampIn := 32, lostFor := 41 })] } },
    by decide +kernel⟩

theorem met_ConverterAndTapRowsComplete_1 : ∃ (k : Nat) (s : State), s.alive = true ∧ k < 256 ∧ (s.asrcCh k).on = true ∧
    s.get (F.ASRC_CH_STAT_LOCKED k) = 0 :=
  ⟨0, { w0 with asrc := { ch := [(0, { on := true, live := some ⟨0, 1, 0, 0, 0, 0⟩ })] } }, by decide +kernel⟩

theorem met_ConverterAndTapRowsComplete_2 : ∃ (k : Nat) (s : State), s.alive = true ∧ k < 256 ∧ (s.asrcCh k).on = true ∧
    s.get (F.ASRC_CH_STAT_LOCKED k) = 1 :=
  ⟨255, { w0.set (F.ASRC_CH_STAT_LOCKED 255) 1 with asrc := { ch := [(255, { on := true, live := some ⟨0, 0, 0, 0, 0, 0⟩ })] } },
    by decide +kernel⟩

theorem met_ConverterAndTapRowsComplete_2_0 : ∃ (k : Nat) (s : State), s.alive = true ∧ k < 256 ∧ (s.asrcCh k).on = true ∧
    s.get (F.ASRC_CH_STAT_LOCKED k) = 1 ∧ s.classOf 18 = 0 :=
  ⟨255, { w0.set (F.ASRC_CH_STAT_LOCKED 255) 1 with asrc := { ch := [(255, { on := true, live := some ⟨0, 0, 0, 0, 0, 0⟩ })] } },
    by decide +kernel⟩

theorem met_ConverterAndTapRowsComplete_3 : ∃ (t : Nat) (x : Nat) (s : State), s.alive = true ∧ s.breathing = true ∧
    s.disp.started = true ∧ s.disp.defaultB ≤ s.n ∧ (s.atTime t).reached s.n 100 = true ∧ reedTap0 ≤ x ∧ x < busTap0 ∧
    s.committed x s.n = false ∧ x ∉ s.instTaps s.n ∧ ((∀ e ∈ s.disp.fenceTl,
    s.awaitsSpare e.1 s.n = false ∨ x ∉ s.coreTaps e.1)) ∧ ((∀ i < 16, s.suspended i = true → x ∉ (s.sec i).own.taps)) :=
  ⟨100 * 256, 0x1000, { wR 0 with mtx := { taps := [(0x1000, ⟨5, 0, 0, 0⟩)] } }, by decide +kernel⟩

/-! DelayRowsComplete -/

theorem met_DelayRowsComplete_0 : ∃ (j : Nat) (b : Nat) (e : Ecc) (s : State), s.alive = true ∧ s.breathing = true ∧
    s.lineRuns j = true ∧ s.deliveryB j = some b ∧ ((e = .clean ∨ (s.classOf 25 = 0 ∧ s.classOf 26 = 0))) :=
  ⟨255, 8, .clean,
    { wL 8 255 3 0 with dly := { lines := [(255, { hist := some 0 })] }, mtx := { taps := [(2, ⟨5, 4, 3, 9⟩)] } } |>.setWord (0x70000000 + 20) 0xFFFFFFFE,
    by decide +kernel⟩

theorem met_DelayRowsComplete_0_0 : ∃ (j : Nat) (b : Nat) (e : Ecc) (s : State), s.alive = true ∧ s.breathing = true ∧
    s.lineRuns j = true ∧ s.deliveryB j = some b ∧ ((e = .clean ∨ (s.classOf 25 = 0 ∧ s.classOf 26 = 0))) ∧ e = .ue :=
  ⟨255, 8, .ue,
    { wL 8 255 3 0 with dly := { lines := [(255, { hist := some 0 })] }, mtx := { taps := [(2, ⟨5, 4, 3, 9⟩)] } } |>.setWord (0x70000000 + 20) 0xFFFFFFFE,
    by decide +kernel⟩

theorem met_DelayRowsComplete_0_1 : ∃ (j : Nat) (b : Nat) (e : Ecc) (s : State), s.alive = true ∧ s.breathing = true ∧
    s.lineRuns j = true ∧ s.deliveryB j = some b ∧ ((e = .clean ∨ (s.classOf 25 = 0 ∧ s.classOf 26 = 0))) ∧ e ≠ .ue ∧
    (s.lineS j).xf = none :=
  ⟨255, 8, .clean,
    { wL 8 255 3 0 with dly := { lines := [(255, { hist := some 0 })] }, mtx := { taps := [(2, ⟨5, 4, 3, 9⟩)] } } |>.setWord (0x70000000 + 20) 0xFFFFFFFE,
    by decide +kernel⟩

theorem met_DelayRowsComplete_0_3 : ∃ (j : Nat) (b : Nat) (e : Ecc) (s : State), s.alive = true ∧ s.breathing = true ∧
    s.lineRuns j = true ∧ s.deliveryB j = some b ∧ ((e = .clean ∨ (s.classOf 25 = 0 ∧ s.classOf 26 = 0))) ∧
    s.physOf (bits 31 25 (s.lineW 1 j)) < 136 ∧ s.suspendedCore (bits 31 25 (s.lineW 1 j)) = false :=
  ⟨255, 8, .clean,
    { wL 8 255 3 0 with dly := { lines := [(255, { hist := some 0 })] }, mtx := { taps := [(2, ⟨5, 4, 3, 9⟩)] } } |>.setWord (0x70000000 + 20) 0xFFFFFFFE,
    by decide +kernel⟩

theorem met_DelayRowsComplete_0_4 : ∃ (j : Nat) (b : Nat) (e : Ecc) (s : State), s.alive = true ∧ s.breathing = true ∧
    s.lineRuns j = true ∧ s.deliveryB j = some b ∧ ((e = .clean ∨ (s.classOf 25 = 0 ∧ s.classOf 26 = 0))) ∧ e = .clean :=
  ⟨255, 8, .clean,
    { wL 8 255 3 0 with dly := { lines := [(255, { hist := some 0 })] }, mtx := { taps := [(2, ⟨5, 4, 3, 9⟩)] } } |>.setWord (0x70000000 + 20) 0xFFFFFFFE,
    by decide +kernel⟩

theorem met_DelayRowsComplete_1 : ∃ (j : Nat) (s : State), s.alive = true ∧ s.breathing = true ∧ s.lineHeld j = true ∧
    s.lineDram j = true ∧ s.n % 16 = 8 :=
  ⟨0, wL 8 0 40 1, by decide +kernel⟩

theorem met_DelayRowsComplete_2 : ∃ (j : Nat) (k : Nat) (q : DlyJob) (flush : Bool) (s : State), s.alive = true ∧
    q ∈ s.dly.jobs ∧ q.line = j ∧ q.flush = flush ∧ q.block = k ∧ q.late = false ∧
    (if flush then 16 * k + 24 else 16 * k) ≤ s.n :=
  ⟨3, 1, { line := 3, flush := false, block := 1 }, false,
    { wR 16 with dly := { jobs := [{ line := 3, flush := false, block := 1 }] } }, by decide +kernel⟩

theorem met_DelayRowsComplete_3 : ∃ (m : Nat) (v : Nat) (l : Nat) (b : Nat) (s : State),
    Admitted (regWr m A.DLY_CHG_POST) s ∧ v / 65536 = 0xA55A ∧ bitOf v 0 = true ∧ l = s.get F.DLY_CHG_LINE_LINE ∧
    b = s.get F.DLY_CHG_BREATH_HI_B_HI * 2 ^ 32 + s.get F.DLY_CHG_BREATH_LO_B_LO ∧ s.dly.chg.length < 64 ∧
    s.lineValid l = true ∧ ((∀ c ∈ s.dly.chg,
    c.line = l → c.xfade = true → serAtOrAfter 48 b c.b = true → serAfter 48 (c.b + 64) b = false)) ∧
    (s.lineS l).xf.all (fun x => !(serAtOrAfter 48 b (bidx x.2) && serAfter 48 (bidx x.2 + 64) b)) = true ∧
    s.get F.DLY_CHG_DELAY_DELAY ≤ s.lineDmax l ∧ ((s.lineDram l = true → 32 ≤ s.get F.DLY_CHG_DELAY_DELAY ∧ b % 16 = 0)) ∧
    serBefore 48 b (bidx (s.n + if s.lineDram l then 32 else 2)) = false ∧ s.secState (s.lineSec l) = secRUNNING ∧
    s.lockState (s.lineSec l) ≠ lkSTARTED ∧ s.get F.SYS_MODE_STAT_APPLYING = 0 :=
  ⟨0, 0xA55A0001, 3, 40,
    (((wL 8 3 40 0).set F.DLY_CHG_LINE_LINE 3).set F.DLY_CHG_DELAY_DELAY 64).set F.DLY_CHG_BREATH_LO_B_LO 40,
    admitted_of (by decide +kernel), by decide +kernel⟩

theorem met_DelayRowsComplete_4 : ∃ (j : Nat) (s : State), s.alive = true ∧ s.breathing = true ∧
    ((s.lineDram j = true → s.n % 16 = 0)) :=
  ⟨3, { wL 16 3 40 1 with dly := { chg := [⟨3, true, 50, 16⟩] } }, by decide +kernel⟩

theorem met_DelayRowsComplete_4_0 : ∃ (j : Nat) (s : State), s.alive = true ∧ s.breathing = true ∧
    ((s.lineDram j = true → s.n % 16 = 0)) ∧ s.changesBy j s.n = [] :=
  ⟨3, wL 16 3 40 0, by decide +kernel⟩

theorem met_DelayRowsComplete_5 : ∃ (j : Nat) (o : Nat) (b : Nat) (s : State), s.alive = true ∧ (s.lineS j).xf = some (o,
    b) ∧ b + 63 ≤ s.n :=
  ⟨3, 5, 0, { wR 63 with dly := { lines := [(3, { xf := some (5, 0) })] } }, by decide +kernel⟩

theorem met_DelayRowsComplete_6 : ∃ (t : Nat) (s : State), s.alive = true ∧ (s.atTime t).scrubDue = true :=
  ⟨100000 * uS, { w0 with dly := { scrub := 58720255 } }, by decide +kernel⟩

theorem met_DelayRowsComplete_6_0 : ∃ (e : Ecc) (t : Nat) (s : State), s.alive = true ∧ (s.atTime t).scrubDue = true ∧
    e = .clean :=
  ⟨.clean, 100000 * uS, { w0 with dly := { scrub := 58720255 } }, by decide +kernel⟩

/-! DmaAndArbiterRowsComplete -/

theorem met_DmaAndArbiterRowsComplete_0 : ∃ (m : Nat) (k : Nat) (v : Nat) (s : State), 4 ≤ k ∧ k < 16 ∧
    Admitted (regWr m (A.DMA_CTRL k)) s ∧ m ≤ 1 ∧ bitOf v 0 = true ∧ bitOf v 1 = false ∧ s.dmaBusy k = false ∧
    s.dmaSrc k % 4 = 0 ∧ s.dmaDst k % 4 = 0 ∧ s.get (F.DMA_COUNT_BYTES k) % 4 = 0 ∧ 4 ≤ s.get (F.DMA_COUNT_BYTES k) :=
  ⟨0, 15, 1, w0.set (F.DMA_COUNT_BYTES 15) 4, by decide +kernel, by decide +kernel, admitted_of (by decide +kernel),
    by decide +kernel⟩

theorem met_DmaAndArbiterRowsComplete_1 : ∃ (m : Nat) (k : Nat) (v : Nat) (s : State), 4 ≤ k ∧ k < 16 ∧
    Admitted (regWr m (A.DMA_CTRL k)) s ∧ bitOf v 0 = false ∧ bitOf v 1 = true ∧ s.dmaBusy k = true :=
  ⟨0, 4, 2, { w0.set (F.DMA_STAT_STATE 4) 2 with dly := { running := some 4 } }, by decide +kernel, by decide +kernel,
    admitted_of (by decide +kernel), by decide +kernel⟩

theorem met_DmaAndArbiterRowsComplete_1_0 : ∃ (m : Nat) (k : Nat) (v : Nat) (s : State), 4 ≤ k ∧ k < 16 ∧
    Admitted (regWr m (A.DMA_CTRL k)) s ∧ bitOf v 0 = false ∧ bitOf v 1 = true ∧ s.dmaBusy k = true ∧
    s.dly.running ≠ some k :=
  ⟨0, 5, 2, { w0.set (F.DMA_STAT_STATE 5) 1 with dly := { running := some 4 } }, by decide +kernel, by decide +kernel,
    admitted_of (by decide +kernel), by decide +kernel⟩

theorem met_DmaAndArbiterRowsComplete_2 : ∃ (t : Nat) (s : State), s.alive = true ∧ (s.atTime t).memOn 6 = true ∧
    s.dly.running = none :=
  ⟨0, w0.set (F.DMA_STAT_STATE 4) 1, by decide +kernel⟩

theorem met_DmaAndArbiterRowsComplete_3 : ∃ (t : Nat) (k : Nat) (s : State), s.alive = true ∧
    (s.atTime t).memOn 6 = true ∧ s.dly.running = some k :=
  ⟨0, 4, { ((w0.set (F.DMA_STAT_STATE 4) 2).set (F.DMA_COUNT_BYTES 4) 512) with dly := { running := some 4 } },
    by decide +kernel⟩

theorem met_DmaAndArbiterRowsComplete_4 : ∃ (tg : Nat) (q : Nat) (drop : Bool) (s : State), s.alive = true ∧ q < 9 ∧
    reaches q tg = true ∧ s.holds q = false ∧ (mget {} tg s.arb).wait = [] ∧
    (drop = true ∨ (mget {} tg s.arb).owner = none) :=
  ⟨2, 0, true, { w0 with arb := [(2, { owner := some 3, len := 4 })] }, by decide +kernel⟩

theorem met_DmaAndArbiterRowsComplete_5 : ∃ (tg : Nat) (q : Nat) (o : Nat) (s : State), s.alive = true ∧ q < 9 ∧
    reaches q tg = true ∧ s.holds q = false ∧ (mget {} tg s.arb).wait.any (fun w => w.q == q) = false ∧
    (mget {} tg s.arb).owner = some o :=
  ⟨2, 0, 3, { w0 with arb := [(2, { owner := some 3, len := 4, wait := [⟨5, 5, 6⟩] })] }, by decide +kernel⟩

theorem met_DmaAndArbiterRowsComplete_6 : ∃ (s : State), s.alive = true :=
  ⟨{ (w0.set (F.ARB_RANK0_RANK 0) 1).set (F.ARB_RANK0_RANK 5) 2 with arb := [(2, { owner := some 3, len := 4, wait := [⟨5, 5, 6⟩, ⟨0, 2, 0⟩] })] },
    by decide +kernel⟩

theorem met_DmaAndArbiterRowsComplete_7 : ∃ (m : Nat) (q : Nat) (s : State), Admitted (regWr m A.ARB_CLR) s ∧ q < 9 :=
  ⟨0, 8, w0.set (F.ARB_GRANTS_COUNT 8) 3, admitted_of (by decide +kernel), by decide +kernel⟩

/-! WindowAndSurveyRowsComplete -/

theorem met_WindowAndSurveyRowsComplete_0 : ∃ (m : Nat) (v : Nat) (s : State), Admitted (regWr m A.MMU_FLUSH) s ∧
    bitOf v 6 = true :=
  ⟨0, 0x60, w0, admitted_of (by decide +kernel), by decide +kernel⟩

theorem met_WindowAndSurveyRowsComplete_1 : ∃ (s : State), s.alive = true :=
  ⟨{ w0 with mmu := { flush := [3], cache := [(3, 1, 2), (4, 1, 2)] } }, by decide +kernel⟩

theorem met_WindowAndSurveyRowsComplete_2 : ∃ (m : Nat) (j : Nat) (s : State), j < 32 ∧
    Admitted (regWr m (A.SURV_LINE_CFG j)) s :=
  ⟨0, 31, w0, by decide +kernel, admitted_of (by decide +kernel)⟩

theorem met_WindowAndSurveyRowsComplete_2_0 : ∃ (m : Nat) (j : Nat) (s : State), j < 32 ∧
    Admitted (regWr m (A.SURV_LINE_CFG j)) s ∧ s.get (F.SURV_LINE_CFG_EN j) ≠ 0 :=
  ⟨0, 31, w0.set (F.SURV_LINE_CFG_EN 31) 1, by decide +kernel, admitted_of (by decide +kernel), by decide +kernel⟩

theorem met_WindowAndSurveyRowsComplete_2_1 : ∃ (m : Nat) (j : Nat) (s : State), j < 32 ∧
    Admitted (regWr m (A.SURV_LINE_CFG j)) s ∧ s.get (F.SURV_LINE_CFG_EN j) = 0 :=
  ⟨0, 31, w0, by decide +kernel, admitted_of (by decide +kernel), by decide +kernel⟩

theorem met_WindowAndSurveyRowsComplete_3 : ∃ (m : Nat) (s : State), Admitted (regWr m A.SURV_CTRL) s ∧
    s.get F.SURV_STAT_BUSY = 0 ∧ s.fencedGroup 21 = false :=
  ⟨0, w0.set (F.SURV_LINE_CFG_EN 31) 1, admitted_of (by decide +kernel), by decide +kernel⟩

theorem met_WindowAndSurveyRowsComplete_4 : ∃ (f : Nat) (w : MeasS) (s : State), s.alive = true ∧ s.breathing = true ∧
    s.surv.win = some w ∧ w.first = some f ∧ f + w.len ≤ s.n :=
  ⟨0, { len := 5, first := some 0, lines := [1], sums := [(1, ⟨5, 6, 7, 8⟩)] },
    { wR 5 with surv := { win := some { len := 5, first := some 0, lines := [1], sums := [(1, ⟨5, 6, 7, 8⟩)] } } },
    by decide +kernel⟩

/-! LockRowsComplete -/

theorem met_LockRowsComplete_0 : ∃ (m : Nat) (i : Nat) (s : State), i < 16 ∧ m < 32 ∧
    Admitted (regWr m (A.SECn_CMD i)) s ∧ s.lockState i = lkFREE ∧ s.get F.SYS_MODE_STAT_APPLYING = 0 :=
  ⟨1, 15, { w0 with rvc := { ticket := 65535 } }, by decide +kernel, by decide +kernel, admitted_of (by decide +kernel),
    by decide +kernel⟩

theorem met_LockRowsComplete_1 : ∃ (m : Nat) (i : Nat) (tk : Nat) (s : State), Holds m i tk s ∧ s.lockLive i = true :=
  ⟨0, 15, 7, wK w0 15 lkREADY {}, ⟨by decide, by decide, admitted_of (by decide +kernel), by decide +kernel,
    by decide +kernel, by decide +kernel⟩, by decide +kernel⟩

theorem met_LockRowsComplete_2 : ∃ (m : Nat) (i : Nat) (tk : Nat) (s : State), Holds m i tk s ∧ s.lockLive i = true :=
  ⟨0, 15, 7, (wK w0 15 lkHELD {}).setWord (stagingBase 15 1) 5, ⟨by decide, by decide, admitted_of (by decide +kernel),
    by decide +kernel, by decide +kernel, by decide +kernel⟩, by decide +kernel⟩

theorem met_LockRowsComplete_3 : ∃ (m : Nat) (i : Nat) (tk : Nat) (s : State), Holds m i tk s ∧ s.lockState i = lkHELD :=
  ⟨0, 0, 7, wK w0 0 lkHELD {}, ⟨by decide, by decide, admitted_of (by decide +kernel), by decide +kernel,
    by decide +kernel, by decide +kernel⟩, by decide +kernel⟩

theorem met_LockRowsComplete_4 : ∃ (m : Nat) (i : Nat) (tk : Nat) (s : State), Holds m i tk s ∧ s.lockState i = lkREADY :=
  ⟨0, 3, 7, wK w0 3 lkREADY {}, ⟨by decide, by decide, admitted_of (by decide +kernel), by decide +kernel,
    by decide +kernel, by decide +kernel⟩, by decide +kernel⟩

theorem met_LockRowsComplete_5 : ∃ (m : Nat) (i : Nat) (tk : Nat) (c : Nat) (w : State) (s : State), Holds m i tk s ∧
    s.get F.SYS_MODE_STAT_APPLYING = 0 ∧ cmdCommit i s = (c, w) :=
  ⟨0, 3, 7, 4, (cmdCommit 3 ((wK (wR 5) 3 lkREADY {}).set (F.SECn_RESTART_LO_R_LO 3) 20)).2,
    (wK (wR 5) 3 lkREADY {}).set (F.SECn_RESTART_LO_R_LO 3) 20, ⟨by decide, by decide, admitted_of (by decide +kernel),
    by decide +kernel, by decide +kernel, by decide +kernel⟩, by decide +kernel⟩

theorem met_LockRowsComplete_5_0 : ∃ (m : Nat) (i : Nat) (tk : Nat) (c : Nat) (w : State) (s : State), Holds m i tk s ∧
    s.get F.SYS_MODE_STAT_APPLYING = 0 ∧ cmdCommit i s = (c, w) ∧ s.lockState i ≠ lkREADY ∧
    s.get (F.SECn_CFG_VACATE i) = 0 :=
  ⟨0, 3, 7, 3, (wK (wR 5) 3 lkHELD {}), (wK (wR 5) 3 lkHELD {}), ⟨by decide, by decide, admitted_of (by decide +kernel),
    by decide +kernel, by decide +kernel, by decide +kernel⟩, by decide +kernel⟩

theorem met_LockRowsComplete_5_1 : ∃ (m : Nat) (i : Nat) (tk : Nat) (c : Nat) (w : State) (s : State), Holds m i tk s ∧
    s.get F.SYS_MODE_STAT_APPLYING = 0 ∧ cmdCommit i s = (c, w) ∧ c ≠ 0 :=
  ⟨0, 3, 7, 4, (cmdCommit 3 ((wK (wR 5) 3 lkREADY {}).set (F.SECn_RESTART_LO_R_LO 3) 20)).2,
    (wK (wR 5) 3 lkREADY {}).set (F.SECn_RESTART_LO_R_LO 3) 20, ⟨by decide, by decide, admitted_of (by decide +kernel),
    by decide +kernel, by decide +kernel, by decide +kernel⟩, by decide +kernel⟩

theorem met_LockRowsComplete_6 : ∃ (m : Nat) (i : Nat) (tk : Nat) (r : Nat) (named : Nat) (s : State), Holds m i tk s ∧
    s.get F.SYS_MODE_STAT_APPLYING = 0 ∧ s.get (F.SECn_CFG_VACATE i) = 0 ∧ s.lockState i = lkREADY ∧
    s.get F.DISP_STAT_STATE = dRunning ∧
    named = s.get (F.SECn_RESTART_HI_R_HI i) * 2 ^ 32 + s.get (F.SECn_RESTART_LO_R_LO i) ∧
    (if s.get (F.SECn_CFG_WHEN i) = 1 then s.get F.TWIN_CTRL_EN = 0 ∧
    r = earliestR s.breaths2ms (s.n + 36 + s.breaths2ms) (s.otherR i) else r = s.unwrap named ∧
    serBefore 48 named (bidx (s.n + 36 + s.breaths2ms)) = false) ∧ serAfter 48 (bidx r) (bidx (s.n + 1048576)) = false ∧
    (∀ q ∈ s.otherR i, windowsMeet s.breaths2ms r q = false) ∧
    claimVerr (s.sec i).since ((imgRecords s (s.pendBase i)).getD []) s = 0 :=
  ⟨0, 3, 7, 500, 500, (wK (wR 5) 3 lkREADY {}).set (F.SECn_RESTART_LO_R_LO 3) 500, ⟨by decide, by decide,
    admitted_of (by decide +kernel), by decide +kernel, by decide +kernel, by decide +kernel⟩, by decide +kernel⟩

theorem met_LockRowsComplete_7 : ∃ (m : Nat) (i : Nat) (tk : Nat) (r : Nat) (named : Nat) (s : State), Holds m i tk s ∧
    s.get F.SYS_MODE_STAT_APPLYING = 0 ∧ s.get (F.SECn_CFG_VACATE i) = 1 ∧
    ((s.lockState i = lkHELD ∨ s.lockState i = lkREADY)) ∧ s.get F.DISP_STAT_STATE = dRunning ∧
    named = s.get (F.SECn_RESTART_HI_R_HI i) * 2 ^ 32 + s.get (F.SECn_RESTART_LO_R_LO i) ∧
    (if s.get (F.SECn_CFG_WHEN i) = 1 then s.get F.TWIN_CTRL_EN = 0 ∧
    r = earliestR s.breaths2ms (s.n + 36 + s.breaths2ms) (s.otherR i) else r = s.unwrap named ∧
    serBefore 48 named (bidx (s.n + 36 + s.breaths2ms)) = false) ∧ serAfter 48 (bidx r) (bidx (s.n + 1048576)) = false ∧
    (∀ q ∈ s.otherR i, windowsMeet s.breaths2ms r q = false) :=
  ⟨0, 3, 7, 233, 233, ((wK (wR 5) 3 lkREADY {}).set (F.SECn_RESTART_LO_R_LO 3) 233).set (F.SECn_CFG_VACATE 3) 1,
    ⟨by decide, by decide, admitted_of (by decide +kernel), by decide +kernel, by decide +kernel, by decide +kernel⟩,
    by decide +kernel⟩

theorem met_LockRowsComplete_7_0 : ∃ (m : Nat) (i : Nat) (tk : Nat) (r : Nat) (named : Nat) (s : State), Holds m i tk s ∧
    s.get F.SYS_MODE_STAT_APPLYING = 0 ∧ s.get (F.SECn_CFG_VACATE i) = 1 ∧
    ((s.lockState i = lkHELD ∨ s.lockState i = lkREADY)) ∧ s.get F.DISP_STAT_STATE = dRunning ∧
    named = s.get (F.SECn_RESTART_HI_R_HI i) * 2 ^ 32 + s.get (F.SECn_RESTART_LO_R_LO i) ∧
    (if s.get (F.SECn_CFG_WHEN i) = 1 then s.get F.TWIN_CTRL_EN = 0 ∧
    r = earliestR s.breaths2ms (s.n + 36 + s.breaths2ms) (s.otherR i) else r = s.unwrap named ∧
    serBefore 48 named (bidx (s.n + 36 + s.breaths2ms)) = false) ∧ serAfter 48 (bidx r) (bidx (s.n + 1048576)) = false ∧
    (∀ q ∈ s.otherR i, windowsMeet s.breaths2ms r q = false) ∧ s.lockState i = lkREADY :=
  ⟨0, 3, 7, 233, 233, ((wK (wR 5) 3 lkREADY {}).set (F.SECn_RESTART_LO_R_LO 3) 233).set (F.SECn_CFG_VACATE 3) 1,
    ⟨by decide, by decide, admitted_of (by decide +kernel), by decide +kernel, by decide +kernel, by decide +kernel⟩,
    by decide +kernel⟩

theorem met_LockRowsComplete_8 : ∃ (m : Nat) (i : Nat) (tk : Nat) (s : State), Holds m i tk s ∧
    s.lockState i = lkSTARTED ∧ s.n < (s.sec i).sB ∧ s.reached (s.sec i).sB 0 = false :=
  ⟨0, 3, 7, wK (wR 5) 3 lkSTARTED { sB := 6 }, ⟨by decide, by decide, admitted_of (by decide +kernel), by decide +kernel,
    by decide +kernel, by decide +kernel⟩, by decide +kernel⟩

/-! ForeignLockCommandIsRejected -/

theorem met_ForeignLockCommandIsRejected_0 : ∃ (m : Nat) (i : Nat) (tk : Nat) (op : Nat) (s : State), i < 16 ∧
    tk < 65536 ∧ 2 ≤ op ∧ op ≤ 7 ∧ Admitted (regWr m (A.SECn_CMD i)) s ∧ s.lapsed i = false ∧
    s.get F.SYS_MODE_STAT_APPLYING = 0 ∧
    ((s.lockState i = lkFREE ∨ s.get (F.SECn_LOCK_HOLDER i) ≠ m ∨ s.get (F.SECn_LOCK_TICKET i) ≠ tk)) :=
  ⟨0, 15, 65535, 7, wK w0 15 lkHELD {}, by decide +kernel, by decide +kernel, by decide +kernel, by decide +kernel,
    admitted_of (by decide +kernel), by decide +kernel⟩

/-! CommitTimelineRowsComplete -/

theorem met_CommitTimelineRowsComplete_0 : ∃ (i : Nat) (s : State), s.alive = true ∧ i < 16 ∧
    s.lockState i = lkVERIFYING ∧ s.authTurn i = true :=
  ⟨15, wK w0 15 lkVERIFYING {}, by decide +kernel⟩

theorem met_CommitTimelineRowsComplete_1 : ∃ (i : Nat) (t : Nat) (s : State), s.alive = true ∧ i < 16 ∧
    s.lockLive i = true ∧ (s.sec i).leaseEnd ≤ max s.now t :=
  ⟨15, uS, wK w0 15 lkREADY {}, by decide +kernel⟩

theorem met_CommitTimelineRowsComplete_2 : ∃ (m : Nat) (v : Nat) (s : State), Admitted (regWr m A.RVC_BREAK) s ∧
    v / 65536 = 0xA55A ∧ bitOf v 0 = true ∧ s.lockLive (bits 11 8 v) = true :=
  ⟨0, 0xA55A0F01, wK w0 15 lkREADY {}, admitted_of (by decide +kernel), by decide +kernel⟩

theorem met_CommitTimelineRowsComplete_3 : ∃ (i : Nat) (s : State), s.alive = true ∧ i < 16 ∧ s.breathing = true ∧
    s.commits i = true ∧ s.secState i = secRUNNING :=
  ⟨15, (wK (wR 5) 15 lkSTARTED { sB := 5 }).set (F.SECn_STAT_STATE 15) secRUNNING, by decide +kernel⟩

theorem met_CommitTimelineRowsComplete_3_0 : ∃ (i : Nat) (s : State), s.alive = true ∧ i < 16 ∧ s.breathing = true ∧
    s.commits i = true ∧ s.secState i = secRUNNING ∧ s.disp.rot = none :=
  ⟨15, (wK (wR 5) 15 lkSTARTED { sB := 5 }).set (F.SECn_STAT_STATE 15) secRUNNING, by decide +kernel⟩

theorem met_CommitTimelineRowsComplete_4 : ∃ (i : Nat) (s : State), s.alive = true ∧ i < 16 ∧ s.breathing = true ∧
    s.lockState i = lkSTARTED ∧ (s.sec i).sB + 32 ≤ s.n ∧ ((s.secState i ≤ secRAMPOUT ∨ s.secState i = secMISMATCH)) :=
  ⟨15, (wK (wR 37) 15 lkSTARTED { sB := 5 }).set (F.SECn_STAT_STATE 15) secRAMPOUT, by decide +kernel⟩

theorem met_CommitTimelineRowsComplete_5 : ∃ (i : Nat) (s : State), s.alive = true ∧ i < 16 ∧ s.breathing = true ∧
    s.lockState i = lkSTARTED ∧ s.secState i = secDRAIN ∧ (s.sec i).sB + 34 ≤ s.n :=
  ⟨15, (wK (wR 39) 15 lkSTARTED { sB := 5 }).set (F.SECn_STAT_STATE 15) secDRAIN, by decide +kernel⟩

theorem met_CommitTimelineRowsComplete_5_0 : ∃ (i : Nat) (s : State), s.alive = true ∧ i < 16 ∧ s.breathing = true ∧
    s.lockState i = lkSTARTED ∧ s.secState i = secDRAIN ∧ (s.sec i).sB + 34 ≤ s.n ∧ (s.sec i).vacate = false :=
  ⟨15, (wK (wR 39) 15 lkSTARTED { sB := 5 }).set (F.SECn_STAT_STATE 15) secDRAIN, by decide +kernel⟩

theorem met_CommitTimelineRowsComplete_6 : ∃ (i : Nat) (s : State), s.alive = true ∧ i < 16 ∧ s.secState i = secLOADING :=
  ⟨15, (wK (wR 39) 15 lkSTARTED { sB := 5 }).set (F.SECn_STAT_STATE 15) secLOADING, by decide +kernel⟩

theorem met_CommitTimelineRowsComplete_7 : ∃ (i : Nat) (t : Nat) (s : State), s.alive = true ∧ i < 16 ∧
    s.breathing = true ∧ s.lockState i = lkSTARTED ∧ (s.sec i).rB ≤ s.n ∧ (s.atTime t).reached s.n 100 = false ∧
    (s.sec i).vacate = true ∧ s.secState i = secDRAIN :=
  ⟨15, 0, (wK (wR 0) 15 lkSTARTED { vacate := true }).set (F.SECn_STAT_STATE 15) secDRAIN, by decide +kernel⟩

theorem met_CommitTimelineRowsComplete_8 : ∃ (i : Nat) (t : Nat) (s : State), s.alive = true ∧ i < 16 ∧
    s.breathing = true ∧ s.lockState i = lkSTARTED ∧ ((s.sec i).rB = s.n ∨ ((s.sec i).rB < s.n ∧ s.classOf 30 = 0)) ∧
    (s.atTime t).reached s.n 100 = false ∧ (s.sec i).vacate = false ∧ s.secState i = secWAITING ∧
    (s.sec i).loadedB < s.n :=
  ⟨15, 0, (wK (wR 1) 15 lkSTARTED { rB := 1 }).set (F.SECn_STAT_STATE 15) secWAITING, by decide +kernel⟩

theorem met_CommitTimelineRowsComplete_8_0 : ∃ (i : Nat) (t : Nat) (s : State), s.alive = true ∧ i < 16 ∧
    s.breathing = true ∧ s.lockState i = lkSTARTED ∧ ((s.sec i).rB = s.n ∨ ((s.sec i).rB < s.n ∧ s.classOf 30 = 0)) ∧
    (s.atTime t).reached s.n 100 = false ∧ (s.sec i).vacate = false ∧ s.secState i = secWAITING ∧
    (s.sec i).loadedB < s.n ∧ (s.sec i).rB < s.n :=
  ⟨15, 0,
    ((wK (wR 3) 15 lkSTARTED { rB := 1, retain := true }).set (F.SECn_STAT_STATE 15) secWAITING).set (F.FCU_CLASS_CLASS 1 14) 0,
    by decide +kernel⟩

theorem met_CommitTimelineRowsComplete_9 : ∃ (i : Nat) (r : Nat) (s : State), s.alive = true ∧ i < 16 ∧
    (s.sec i).rampIn = some r ∧ r + 31 ≤ s.n :=
  ⟨15, 0, (wR 31).setSec 15 { rampIn := some 0 } |>.set (F.SECn_STAT_RAMPIN 15) 1, by decide +kernel⟩

theorem met_CommitTimelineRowsComplete_10 : ∃ (m : Nat) (s : State), Admitted (regWr m A.RVC_CLR) s :=
  ⟨0, w0.set F.RVC_LOADMAX_US 9, admitted_of (by decide +kernel)⟩

theorem met_CommitTimelineRowsComplete_11 : ∃ (i : Nat) (s : State), s.alive = true ∧ i < 16 ∧ s.lockLive i = true ∧
    s.get (F.SECn_LOCK_HOLDER i) = mDBG :=
  ⟨15, (wK w0 15 lkVERIFYING {}).set (F.SECn_LOCK_HOLDER 15) 22, by decide +kernel⟩

/-! LinkRowsComplete -/

theorem met_LinkRowsComplete_0 : ∃ (m : Nat) (p : Nat) (v : Nat) (s : State), p < 5 ∧
    Admitted (regWr m (A.NET_CTRL p)) s ∧ s.get (F.NET_CTRL_EN p) = 0 ∧ bitOf v 31 = true :=
  ⟨0, 4, 0xFFFFFFFF, w0, by decide +kernel, admitted_of (by decide +kernel), by decide +kernel⟩

theorem met_LinkRowsComplete_1 : ∃ (m : Nat) (p : Nat) (v : Nat) (s : State), p < 5 ∧
    Admitted (regWr m (A.NET_CTRL p)) s ∧ s.get (F.NET_CTRL_EN p) = 1 ∧ bitOf v 31 = false :=
  ⟨0, 4, 0x7FFFFFFF, wN 4 4, by decide +kernel, admitted_of (by decide +kernel), by decide +kernel⟩

theorem met_LinkRowsComplete_2 : ∃ (p : Nat) (s : State), s.alive = true ∧ p < 5 ∧ s.lstate p = lsAN ∧
    (s.portS p).anWait = false :=
  ⟨3, (wN 3 1).setPort 3 { adv := 20, an := true, kr := true }, by decide +kernel⟩

theorem met_LinkRowsComplete_3 : ∃ (p : Nat) (s : State), s.alive = true ∧ p < 5 ∧ s.lstate p = lsAN ∧
    (s.portS p).anWait = true :=
  ⟨3, (wN 3 1).setPort 3 { anWait := true }, by decide +kernel⟩

theorem met_LinkRowsComplete_4 : ∃ (p : Nat) (s : State), s.alive = true ∧ p < 5 ∧ s.lstate p = lsTRAINING :=
  ⟨4, (wN 4 2), by decide +kernel⟩

theorem met_LinkRowsComplete_5 : ∃ (p : Nat) (t : Nat) (s : State), s.alive = true ∧ p < 5 ∧ s.lstate p = lsTRAINING ∧
    (s.portS p).since + 500 * uMs ≤ max s.now t :=
  ⟨4, 500 * uMs, (wN 4 2).setPort 4 { an := true }, by decide +kernel⟩

theorem met_LinkRowsComplete_6 : ∃ (p : Nat) (t : Nat) (s : State), s.alive = true ∧ p < 5 ∧ s.lstate p = lsALIGN ∧
    (s.portS p).since + 10 * uMs ≤ max s.now t :=
  ⟨4, 10 * uMs, (wN 4 3), by decide +kernel⟩

theorem met_LinkRowsComplete_7 : ∃ (p : Nat) (t : Nat) (s : State), s.alive = true ∧ p < 5 ∧ s.lstate p = lsALIGN ∧
    (s.portS p).since + 500 * uMs ≤ max s.now t :=
  ⟨4, 500 * uMs, (wN 4 3), by decide +kernel⟩

theorem met_LinkRowsComplete_8 : ∃ (p : Nat) (s : State), s.alive = true ∧ p < 5 ∧ s.lstate p = lsUP :=
  ⟨3, wN 3 4, by decide +kernel⟩

theorem met_LinkRowsComplete_8_0 : ∃ (p : Nat) (s : State), s.alive = true ∧ p < 5 ∧ s.lstate p = lsUP ∧
    s.classOf (40 + 4 * p) ≠ 1 :=
  ⟨3, wN 3 4, by decide +kernel⟩

theorem met_LinkRowsComplete_9 : ∃ (p : Nat) (t : Nat) (s : State), s.alive = true ∧ p < 4 ∧ s.lstate p = lsUP ∧
    s.get (F.NET_CTRL_LOWPWR p) = 2 ∧ (s.portS p).kr = true ∧ (s.portS p).an = true ∧ bitOf (s.portS p).adv 5 = true ∧
    bitOf (s.get (F.NET_AN_LP_ABIL p)) 5 = true ∧ s.portMapped p = false ∧ (s.portS p).txq = [] ∧
    max (s.portS p).idle (s.portS p).lineEnd + s.get (F.NET_LP_CFG_LPI_IDLE p) * uUs ≤ max s.now t :=
  ⟨3, 1000 * uUs,
    (((wN 3 4).set (F.NET_CTRL_LOWPWR 3) 2).set (F.NET_AN_LP_ABIL 3) 32).setPort 3 { kr := true, an := true, adv := 32 },
    by decide +kernel⟩

theorem met_LinkRowsComplete_10 : ∃ (p : Nat) (s : State), s.alive = true ∧ p < 5 ∧ s.lstate p = lsUP :=
  ⟨3, wN 3 4, by decide +kernel⟩

theorem met_LinkRowsComplete_11 : ∃ (p : Nat) (t : Nat) (s : State), s.alive = true ∧ p < 4 ∧ s.lstate p = lsUP ∧
    s.get (F.NET_CTRL_LOWPWR p) = 1 ∧ (s.portS p).kr = true ∧ (s.portS p).an = true ∧ s.portMapped p = false ∧
    (s.portS p).noStep ≤ max s.now t ∧ bitOf (s.portS p).adv 2 = true ∧ bitOf (s.get (F.NET_AN_LP_ABIL p)) 2 = true ∧
    (((bitOf (s.portS p).adv 4 = true ∧ bitOf (s.get (F.NET_AN_LP_ABIL p)) 4 = true) ∨ (bitOf (s.portS p).adv 3 = true ∧
    bitOf (s.get (F.NET_AN_LP_ABIL p)) 3 = true))) ∧ (s.atTime t).stepDue p = true :=
  ⟨3, uS,
    ((((wN 3 4).set (F.NET_CTRL_LOWPWR 3) 1).set (F.NET_LP_CFG_DOWN_PCT 3) 1).set (F.NET_AN_LP_ABIL 3) 20).setPort 3 { kr := true, an := true, adv := 20 },
    by decide +kernel⟩

/-! ModuleRowsComplete -/

theorem met_ModuleRowsComplete_0 : ∃ (p : Nat) (s : State), s.alive = true ∧ p < 5 ∧ s.get (F.SFP_STAT_PRESENT p) = 0 :=
  ⟨3, w0, by decide +kernel⟩

theorem met_ModuleRowsComplete_1 : ∃ (p : Nat) (t : Nat) (w : Nat) (s : State), s.alive = true ∧ p < 5 ∧ w < 24 ∧
    s.get (F.SFP_STAT_PRESENT p) = 1 ∧ s.get (F.SFP_STAT_ID_VALID p) = 0 ∧ (s.portS p).insert + 300 * uMs ≤ max s.now t ∧
    s.i2cOwn p = false :=
  ⟨3, 300 * uMs, 23, (w0.set (F.SFP_STAT_PRESENT 3) 1), by decide +kernel⟩

theorem met_ModuleRowsComplete_2 : ∃ (p : Nat) (s : State), s.alive = true ∧ p < 5 ∧ s.get (F.SFP_STAT_PRESENT p) = 1 :=
  ⟨3, ((w0.set (F.SFP_STAT_PRESENT 3) 1).set (F.SFP_ID_BYTES 3 0) 4).set (F.SFP_STAT_ID_VALID 3) 1, by decide +kernel⟩

theorem met_ModuleRowsComplete_2_0 : ∃ (p : Nat) (s : State), s.alive = true ∧ p < 5 ∧ s.get (F.SFP_STAT_PRESENT p) = 1 ∧
    s.lstate p ≠ lsUP :=
  ⟨3, ((w0.set (F.SFP_STAT_PRESENT 3) 1).set (F.SFP_ID_BYTES 3 0) 4).set (F.SFP_STAT_ID_VALID 3) 1, by decide +kernel⟩

theorem met_ModuleRowsComplete_3 : ∃ (p : Nat) (t : Nat) (los : Bool) (s : State), s.alive = true ∧ p < 5 ∧
    s.get (F.SFP_CTRL_POLL_EN p) = 1 ∧ s.get (F.SFP_STAT_ID_VALID p) = 1 ∧ bitOf (s.get (F.SFP_ID_BYTES p 23)) 6 = true ∧
    (s.portS p).poll ≤ max s.now t ∧ s.i2cOwn p = false ∧ (los = false ∨ s.portUp p = false) :=
  ⟨3, 4, true, ((w0.set (F.SFP_CTRL_POLL_EN 3) 1).set (F.SFP_ID_BYTES 3 23) 64).set (F.SFP_STAT_ID_VALID 3) 1,
    by decide +kernel⟩

theorem met_ModuleRowsComplete_4 : ∃ (m : Nat) (p : Nat) (s : State), p < 5 ∧ Admitted (regWr m (A.SFP_CMD p)) s ∧
    s.get (F.SFP_CMD_BUSY p) = 0 :=
  ⟨0, 3, w0, by decide +kernel, admitted_of (by decide +kernel), by decide +kernel⟩

theorem met_ModuleRowsComplete_5 : ∃ (p : Nat) (t : Nat) (s : State), s.alive = true ∧ p < 5 ∧
    s.get (F.SFP_CMD_BUSY p) = 1 ∧ ((s.portS p).i2cRun = true ∨ ((s.atTime t).idDue p = false ∧
    (s.atTime t).pollDue p = false)) :=
  ⟨3, 0, ((w0.set (F.SFP_CMD_BUSY 3) 1).set (F.SFP_STAT_PRESENT 3) 1).setPort 3 { i2c := 0x83000000 }, by decide +kernel⟩

theorem met_ModuleRowsComplete_5_0 : ∃ (p : Nat) (t : Nat) (ack : Bool) (s : State), s.alive = true ∧ p < 5 ∧
    s.get (F.SFP_CMD_BUSY p) = 1 ∧ ((s.portS p).i2cRun = true ∨ ((s.atTime t).idDue p = false ∧
    (s.atTime t).pollDue p = false)) ∧ (ack = false ∨ s.get (F.SFP_STAT_PRESENT p) = 0) :=
  ⟨3, 0, false, ((w0.set (F.SFP_CMD_BUSY 3) 1).set (F.SFP_STAT_PRESENT 3) 1).setPort 3 { i2c := 0x83000000 },
    by decide +kernel⟩

theorem met_ModuleRowsComplete_5_1 : ∃ (p : Nat) (t : Nat) (ack : Bool) (s : State), s.alive = true ∧ p < 5 ∧
    s.get (F.SFP_CMD_BUSY p) = 1 ∧ ((s.portS p).i2cRun = true ∨ ((s.atTime t).idDue p = false ∧
    (s.atTime t).pollDue p = false)) ∧ ack = true ∧ s.get (F.SFP_STAT_PRESENT p) = 1 ∧ bitOf (s.portS p).i2c 30 = false ∧
    bits 25 24 (s.portS p).i2c = 3 :=
  ⟨3, 0, true, ((w0.set (F.SFP_CMD_BUSY 3) 1).set (F.SFP_STAT_PRESENT 3) 1).setPort 3 { i2c := 0x83000000 },
    by decide +kernel⟩

/-! FrameRowsComplete -/

theorem met_FrameRowsComplete_0 : ∃ (p : Nat) (t : Nat) (bs : List Byte) (code : Bool) (s : State), p < 5 ∧
    s.alive = true ∧ (s.atTime t).macRuns p = true ∧ (code = true ∨ bs.length < 64) :=
  ⟨4, 0, List.replicate 63 0, false, wN 4 4, by decide +kernel⟩

theorem met_FrameRowsComplete_1 : ∃ (p : Nat) (sfd : Nat) (t : Nat) (lim : Nat) (bs : List Byte) (s : State), p < 5 ∧
    s.alive = true ∧ (s.atTime t).macRuns p = true ∧ 64 ≤ bs.length ∧
    lim = ((s.atTime t).filtersAt p sfd).maxLen p + (if frTagged bs then 4 else 0) ∧
    (lim < bs.length ∨ leNat (bs.drop (bs.length - 4)) ≠ crc32 (bs.take (bs.length - 4))) :=
  ⟨4, 0, 0, 2048, List.replicate 64 0, wN 4 4, by decide +kernel⟩

theorem met_FrameRowsComplete_2 : ∃ (p : Nat) (corr : Nat) (unc : Nat) (sfd : Nat) (t : Nat) (bs : List Byte) (c : Claimant) (s : State),
    Sound p bs sfd t s ∧ (arrived p corr unc bs.length (s.atTime t)).claimant p (bs.take (bs.length - 4)) = some c :=
  ⟨3, 0, 0, 0, 0, fcs (List.replicate 12 0xFF ++ [0x88, 0xB5] ++ List.replicate 46 0x11), .host, wN 3 4,
    (by unfold Sound; decide +kernel), by decide +kernel⟩

theorem met_FrameRowsComplete_3 : ∃ (p : Nat) (corr : Nat) (unc : Nat) (sfd : Nat) (t : Nat) (bs : List Byte) (s : State),
    Sound p bs sfd t s ∧ (arrived p corr unc bs.length (s.atTime t)).claimant p (bs.take (bs.length - 4)) = none :=
  ⟨3, 0, 0, 0, 0, fcs (List.replicate 12 0xFF ++ [0x88, 0xB6] ++ List.replicate 46 0x11), wN 3 4,
    (by unfold Sound; decide +kernel), by decide +kernel⟩

theorem met_FrameRowsComplete_4 : ∃ (m : Nat) (p : Nat) (r : Nat) (s : State), p < 5 ∧ r < 10 ∧
    Admitted (regWr m (ringReg p r 0x14)) s :=
  ⟨0, 4, 9, (w0.set (ringF 4 9).en 1).set (ringF 4 9).len 8, by decide +kernel, by decide +kernel,
    admitted_of (by decide +kernel)⟩

theorem met_FrameRowsComplete_5 : ∃ (m : Nat) (p : Nat) (r : Nat) (s : State), p < 5 ∧ r < 10 ∧
    Admitted (regWr m (ringReg p r 0)) s :=
  ⟨0, 4, 9, w0.set (ringF 4 9).len 4096, by decide +kernel, by decide +kernel, admitted_of (by decide +kernel)⟩

theorem met_FrameRowsComplete_5_0 : ∃ (m : Nat) (p : Nat) (r : Nat) (s : State), p < 5 ∧ r < 10 ∧
    Admitted (regWr m (ringReg p r 0)) s ∧ 8 ≤ s.get (ringF p r).len ∧ s.get (ringF p r).len ≤ 4096 :=
  ⟨0, 4, 9, w0.set (ringF 4 9).len 4096, by decide +kernel, by decide +kernel, admitted_of (by decide +kernel),
    by decide +kernel⟩

theorem met_FrameRowsComplete_6 : ∃ (p : Nat) (k : Nat) (s : State), s.alive = true ∧ p < 5 ∧ k < 6 ∧
    s.ringLive p (4 + k) = true :=
  ⟨4, 5, ((wN 4 4).set (ringF 4 9).en 1).set (ringF 4 9).len 8 |>.set (ringF 4 9).tail 1, by decide +kernel⟩

theorem met_FrameRowsComplete_7 : ∃ (p : Nat) (t : Nat) (f : TxFrame) (s : State), s.alive = true ∧
    (s.atTime t).macRuns p = true ∧ (creditTick p (s.atTime t)).nextTx p = some f :=
  ⟨3, 0, { q := 2, bytes := List.replicate 60 0 },
    (wN 3 4).setPort 3 { txq := [{ q := 2, bytes := List.replicate 60 0 }] }, by decide +kernel⟩

theorem met_FrameRowsComplete_8 : ∃ (p : Nat) (t : Nat) (e : Nat) (r : Nat) (i : Nat) (n : Nat) (f : TxFrame) (l : List (TxFrame × Nat)) (s : State),
    s.alive = true ∧ p < 5 ∧ (s.portS p).sent = (f, e) :: l ∧ e ≤ max s.now t ∧ f.ring = some (r, i, n) :=
  ⟨4, 5, 5, 9, 0, 1, { q := 5, bytes := List.replicate 60 0, ring := some (9, 0, 1) }, [],
    ((wN 4 4).set (ringF 4 9).len 8).setPort 4 { sent := [({ q := 5, bytes := List.replicate 60 0, ring := some (9, 0, 1) }, 5)], out := [⟨9, 0, 1, false⟩] },
    by decide +kernel⟩

theorem met_FrameRowsComplete_8_0 : ∃ (p : Nat) (t : Nat) (e : Nat) (r : Nat) (i : Nat) (n : Nat) (f : TxFrame) (l : List (TxFrame × Nat)) (s : State),
    s.alive = true ∧ p < 5 ∧ (s.portS p).sent = (f, e) :: l ∧ e ≤ max s.now t ∧ f.ring = some (r, i, n) ∧
    s.classOf (41 + 4 * p) = 0 :=
  ⟨4, 5, 5, 9, 0, 1, { q := 5, bytes := List.replicate 60 0, ring := some (9, 0, 1) }, [],
    ((wN 4 4).set (ringF 4 9).len 8).setPort 4 { sent := [({ q := 5, bytes := List.replicate 60 0, ring := some (9, 0, 1) }, 5)], out := [⟨9, 0, 1, false⟩] },
    by decide +kernel⟩

theorem met_FrameRowsComplete_9 : ∃ (m : Nat) (p : Nat) (s : State), p < 5 ∧
    Admitted (regWr m (A.NET_CTRL p + 0x850)) s :=
  ⟨0, 4, (w0.set (F.NCNT_RX_OK 4) 5).set (F.NCNT_RX_FCS 4) 5, by decide +kernel, admitted_of (by decide +kernel)⟩

theorem met_FrameRowsComplete_10 : ∃ (p : Nat) (k : Nat) (t : Nat) (s : State), s.alive = true ∧ p < 4 ∧
    s.breathing = true ∧ k < s.get (F.STRM_GCL_STAT_OPER_LEN p) ∧ s.gateOfs p k < s.period ∧
    ((s.gateOfs p k : Nat) : Int) ≤ (s.atTime t).since s.n :=
  ⟨3, 1, 2560,
    ((wR 0).set (F.STRM_GCL_STAT_OPER_LEN 3) 2).set (F.STRM_GCL_OPER_INTERVAL 0 3) 10 |>.set (F.STRM_GCL_OPER_GATES 1 3) 0x55,
    by decide +kernel⟩

/-! StreamRowsComplete -/

theorem met_StreamRowsComplete_0 : ∃ (m : Nat) (i : Nat) (s : State), Admitted (regWr m 0x200A0020) s ∧ s.selStream = i ∧
    ((i < 128 ∨ i % 64 < 32)) ∧ s.strmHeld i = false :=
  ⟨0, 0, ((wR 5).set (F.STRM_DESC_WORD 1 0) 0x20100), admitted_of (by decide +kernel), by decide +kernel⟩

theorem met_StreamRowsComplete_1 : ∃ (m : Nat) (i : Nat) (s : State), Admitted (regWr m 0x200A0020) s ∧ s.selStream = i ∧
    ((i < 128 ∨ i % 64 < 32)) ∧ bitOf (s.sw 0 i) 31 = true :=
  ⟨0, 127, (((wR 5).set (F.STRM_DESC_WORD 0 127) 0x80000000).set F.STRM_SEL_KIND 1).set F.STRM_SEL_INDEX 63,
    admitted_of (by decide +kernel), by decide +kernel⟩

theorem met_StreamRowsComplete_2 : ∃ (i : Nat) (t : Nat) (eof : Nat) (vs : List Int) (s : State), s.alive = true ∧
    i < 64 ∧ (s.strmS i).live = true ∧ (s.strmS i).stopB = none ∧ s.breathing = true ∧ s.modeGap = false ∧
    (s.strmS i).held.find? (fun e => e.1 == s.n) = some (s.n, eof, vs) ∧ (s.strmS i).doneB ≤ s.n ∧
    (s.atTime t).reached s.n (s.dueOfs i) = false :=
  ⟨0, 0, 77, [4, -9], wS 5 0 0x81000000 0x20100 1 {live := true, held := [(5, 77, [4, -9]), (6, 78, [1, 1])]},
    by decide +kernel⟩

theorem met_StreamRowsComplete_2_0 : ∃ (i : Nat) (t : Nat) (eof : Nat) (vs : List Int) (s : State), s.alive = true ∧
    i < 64 ∧ (s.strmS i).live = true ∧ (s.strmS i).stopB = none ∧ s.breathing = true ∧ s.modeGap = false ∧
    (s.strmS i).held.find? (fun e => e.1 == s.n) = some (s.n, eof, vs) ∧ (s.strmS i).doneB ≤ s.n ∧
    (s.atTime t).reached s.n (s.dueOfs i) = false ∧ s.strmState i = ssSILENT :=
  ⟨0, 0, 77, [4, -9], wS 5 0 0x81000000 0x20100 1 {live := true, held := [(5, 77, [4, -9]), (6, 78, [1, 1])]},
    by decide +kernel⟩

theorem met_StreamRowsComplete_2_1 : ∃ (i : Nat) (t : Nat) (eof : Nat) (vs : List Int) (s : State), s.alive = true ∧
    i < 64 ∧ (s.strmS i).live = true ∧ (s.strmS i).stopB = none ∧ s.breathing = true ∧ s.modeGap = false ∧
    (s.strmS i).held.find? (fun e => e.1 == s.n) = some (s.n, eof, vs) ∧ (s.strmS i).doneB ≤ s.n ∧
    (s.atTime t).reached s.n (s.dueOfs i) = false ∧ s.strmState i = ssRUN :=
  ⟨63, 0, 77, [4, -9], wS 5 63 0x81000000 0x20100 3 {live := true, held := [(5, 77, [4, -9]), (6, 78, [1, 1])]},
    by decide +kernel⟩

theorem met_StreamRowsComplete_3 : ∃ (i : Nat) (t : Nat) (s : State), s.alive = true ∧ i < 64 ∧ (s.strmS i).live = true ∧
    (s.strmS i).from_ ≤ s.n ∧ s.breathing = true ∧ (s.strmS i).doneB ≤ s.n ∧
    (s.atTime t).reached s.n (s.dueOfs i) = true :=
  ⟨0, uMs, wS 5 0 0x81000000 0x20100 3 {live := true}, by decide +kernel⟩

theorem met_StreamRowsComplete_3_0 : ∃ (i : Nat) (t : Nat) (s : State), s.alive = true ∧ i < 64 ∧
    (s.strmS i).live = true ∧ (s.strmS i).from_ ≤ s.n ∧ s.breathing = true ∧ (s.strmS i).doneB ≤ s.n ∧
    (s.atTime t).reached s.n (s.dueOfs i) = true ∧ (s.strmState i = ssRUN ∨ s.strmState i = ssRAMPIN) :=
  ⟨0, uMs, wS 5 0 0x81000000 0x20100 3 {live := true}, by decide +kernel⟩

theorem met_StreamRowsComplete_3_1 : ∃ (i : Nat) (t : Nat) (s : State), s.alive = true ∧ i < 64 ∧
    (s.strmS i).live = true ∧ (s.strmS i).from_ ≤ s.n ∧ s.breathing = true ∧ (s.strmS i).doneB ≤ s.n ∧
    (s.atTime t).reached s.n (s.dueOfs i) = true ∧ s.strmState i = ssREPEAT ∧
    max 1 (s.get F.STRM_CFG_REPEAT_MAX) ≤ (s.strmS i).repeats :=
  ⟨63, uMs, wS 5 63 0x81000000 0x20100 4 {live := true, repeats := 8}, by decide +kernel⟩

theorem met_StreamRowsComplete_3_2 : ∃ (i : Nat) (t : Nat) (s : State), s.alive = true ∧ i < 64 ∧
    (s.strmS i).live = true ∧ (s.strmS i).from_ ≤ s.n ∧ s.breathing = true ∧ (s.strmS i).doneB ≤ s.n ∧
    (s.atTime t).reached s.n (s.dueOfs i) = true ∧ s.strmState i = ssFADE ∧ s.get (F.STRM_DSTAT_RAMP_K i) = 31 :=
  ⟨63, uMs, (wS 5 63 0x81000000 0x20100 5 {live := true, repeats := 4}).set (F.STRM_DSTAT_RAMP_K 63) 31,
    by decide +kernel⟩

theorem met_StreamRowsComplete_4 : ∃ (i : Nat) (s : State), s.alive = true ∧ (s.strmS i).live = true ∧
    (s.strmS i).takeAny = false ∧ s.breathing = true ∧ (s.strmS i).passB + max 1 (s.get F.STRM_CFG_RESET_BREATHS) < s.n :=
  ⟨63, ((wS 65 63 0x81000000 0x20100 5 {live := true, takeAny := false}).set F.STRM_CFG_RESET_BREATHS 0).set (F.STRM_SCNT_COUNT 5 63) 0xFFFFFFFF,
    by decide +kernel⟩

theorem met_StreamRowsComplete_5 : ∃ (i : Nat) (b : Bool) (s : State), s.alive = true ∧
    (if b then (s.strmS i).lastB else (s.strmS i).lastA) + max 1 (s.get F.STRM_CFG_PATH_TMO) < s.n :=
  ⟨63, false, ((wS 65 63 0x81000000 0x20100 5 {live := true, takeAny := false}).set F.STRM_CFG_PATH_TMO 2),
    by decide +kernel⟩

theorem met_StreamRowsComplete_6 : ∃ (j : Nat) (t : Nat) (s : State), s.alive = true ∧ j < 64 ∧
    (s.strmS (64 + j)).live = true ∧ (s.strmS (64 + j)).stopB = none ∧ s.breathing = true ∧ s.audioOff = false ∧
    (s.strmS (64 + j)).next + s.spf (64 + j) ≤ s.n + 1 ∧
    ((((List.range (s.strmCh (64 + j))).all (fun c => (s.outWord (64 * j + c) ((s.strmS (64 + j)).next + s.spf (64 + j) - 1)).2)) = true ∨ (if s.sw 6 (64 + j) / 65536 = 0 then (s.atTime t).reached ((s.strmS (64 + j)).next + s.spf (64 + j)) 0 else (s.atTime t).reached ((s.strmS (64 + j)).next + s.spf (64 + j) - 1) (s.sw 6 (64 + j) / 65536)) = true)) :=
  ⟨63, 0,
    { ((wS 5 127 0x91000000 0x20100 3 {live := true, next := 4}).set (F.MTX_OUTMAP 4032) 0x80001000).set (F.MTX_OUTMAP 4033) 0x80001001 with mtx := { outw := [(64*63, { words := [(5,9),(4,8)] }), (64*63+1, { words := [(5,9),(4,8)] })] } },
    by decide +kernel⟩

theorem met_StreamRowsComplete_7 : ∃ (j : Nat) (t : Nat) (s : State), s.alive = true ∧ j < 32 ∧
    (s.strmS (192 + j)).live = true ∧ s.audioOff = false ∧
    (((s.strmS (192 + j)).next + s.spp (192 + j) : Nat) : Int) - 1 ≤ mediaAt (s.mediaRate (192 + j)) ((s.atTime t).devNs : Nat) :=
  ⟨0, 11 * uMs, wS 5 192 0x91000000 0x06000100 3 {live := true, next := 6}, by decide +kernel⟩

theorem met_StreamRowsComplete_8 : ∃ (m : Nat) (v : Nat) (p : Nat) (s : State), Admitted (regWr m 0x200A0110) s ∧
    Keyed v ∧ s.get F.STRM_GCL_PORT_PORT = p :=
  ⟨0, 0xA55A0001, 3,
    (((wR 5).set F.STRM_GCL_PORT_PORT 3).set (F.STRM_GCL_BREATH_LO_B_LO 3) 7).set (F.STRM_GCL_LEN_LEN 3) 64,
    admitted_of (by decide +kernel), (by unfold Keyed; decide +kernel), by decide +kernel⟩

theorem met_StreamRowsComplete_9 : ∃ (p : Nat) (b : Nat) (s : State), s.alive = true ∧ s.breathing = true ∧
    s.disp.started = true ∧ s.strm.gcl = some (p, b) ∧ serAtOrAfter 48 (bidx s.n) b = true ∧ p < 4 :=
  ⟨3, 5, { ((wR 5).set (F.STRM_GCL_LEN_LEN 3) 2).set (F.STRM_GCL_ADMIN_GATES 63 3) 2 with strm := { gcl := some (3, 5) } },
    by decide +kernel⟩

theorem met_StreamRowsComplete_10 : ∃ (m : Nat) (s : State), Admitted (regWr m A.STRM_CLR) s :=
  ⟨0, (wR 5).set (F.STRM_SCNT_COUNT 9 255) 8, admitted_of (by decide +kernel)⟩

/-! SerialRowsComplete -/

theorem met_SerialRowsComplete_0 : ∃ (m : Nat) (p : Nat) (s : State), p < 16 ∧ Admitted (regWr m (A.SAPp_CFG p)) s ∧
    s.get (F.SAPp_CFG_EN p) = 0 :=
  ⟨0, 15, wR 5, by decide +kernel, admitted_of (by decide +kernel), by decide +kernel⟩

theorem met_SerialRowsComplete_1 : ∃ (m : Nat) (p : Nat) (s : State), p < 16 ∧ Admitted (regWr m (A.SAPp_CFG p)) s ∧
    s.get (F.SAPp_CFG_EN p) = 1 :=
  ⟨0, 15, wP 5 15 3 2 { frame := some 4, tx := 3 }, by decide +kernel, admitted_of (by decide +kernel), by decide +kernel⟩

theorem met_SerialRowsComplete_2 : ∃ (p : Nat) (t : Nat) (d : Nat) (s : State), p < 16 ∧ s.alive = true ∧
    s.sapState p ≠ saOFF ∧ s.fcu.pinsHold = false ∧ ((s.sapForeign p = false → s.modeGap = false)) ∧
    ((s.sapForeign p = true → s.sapMaster p = false)) ∧ (s.sapS p).frame = none ∧ (s.sapS p).req = some d ∧
    ((s.sapMaster p = true → s.breathing = true ∧ (s.sapFixedOfs p : Int) ≤ (s.atTime t).since s.n ∧
    0 ≤ sx 72 (ux 72 ((s.breathAt s.n : Int) + s.sapFixedOfs p - d)))) :=
  ⟨15, 0, 99, (wP 5 15 1 2 { req := some 99, rxNext := some (3, 7) }).set (F.SAPp_RXMASK_MASK 15) 3, by decide +kernel⟩

theorem met_SerialRowsComplete_2_0 : ∃ (p : Nat) (t : Nat) (d : Nat) (s : State), p < 16 ∧ s.alive = true ∧
    s.sapState p ≠ saOFF ∧ s.fcu.pinsHold = false ∧ ((s.sapForeign p = false → s.modeGap = false)) ∧
    ((s.sapForeign p = true → s.sapMaster p = false)) ∧ (s.sapS p).frame = none ∧ (s.sapS p).req = some d ∧
    ((s.sapMaster p = true → s.breathing = true ∧ (s.sapFixedOfs p : Int) ≤ (s.atTime t).since s.n ∧
    0 ≤ sx 72 (ux 72 ((s.breathAt s.n : Int) + s.sapFixedOfs p - d)))) ∧
    ((s.sapS p).rxNext.isSome = true ∨ (s.sapS p).txNext.isSome = true) :=
  ⟨15, 0, 99, (wP 5 15 1 2 { req := some 99, rxNext := some (3, 7) }).set (F.SAPp_RXMASK_MASK 15) 3, by decide +kernel⟩

theorem met_SerialRowsComplete_3 : ∃ (p : Nat) (t : Nat) (f : Nat) (s : State), p < 16 ∧ s.alive = true ∧
    s.sapState p ≠ saOFF ∧ s.fcu.pinsHold = false ∧ ((s.sapForeign p = false → s.modeGap = false)) ∧
    (s.sapS p).frame = some f ∧ ((s.sapMaster p = true → ∀ m,
    (s.sapS p).map = some m → (s.sapS p).ofs ≤ (s.atTime t).since (m + (f + 1 : Nat)).toNat)) :=
  ⟨15, 0, 7, (wP 5 15 3 2 { frame := some 7, good := 9, map := some 2}).set (F.SAPp_FRAME_FRAME 15) 0xFFFFFFFF,
    by decide +kernel⟩

theorem met_SerialRowsComplete_4 : ∃ (p : Nat) (sl : Nat) (f : Nat) (m : Int) (s : State), p < 16 ∧ s.alive = true ∧
    s.sapState p = saRUN ∧ sl < s.sapSlots p ∧ s.sapForeign p = false ∧ s.slotFrame p sl = some f ∧
    (s.sapS p).map = some m :=
  ⟨15, 1, 7, 0, wP 5 15 3 2 { frame := some 8, map := some 0, rx := 3 }, by decide +kernel⟩

theorem met_SerialRowsComplete_5 : ∃ (p : Nat) (sl : Nat) (s : State), p < 16 ∧ s.alive = true ∧ s.sapState p = saRUN ∧
    sl < s.sapSlots p ∧ s.sapForeign p = true :=
  ⟨15, 1, (wP 5 15 3 2 { frame := some 3, rx := 3 }).set (F.SAPp_CFG_DOMAIN 15) 1, by decide +kernel⟩

theorem met_SerialRowsComplete_6 : ∃ (p : Nat) (sl : Nat) (b : Nat) (t : Nat) (s : State), p < 16 ∧ s.alive = true ∧
    saRUN ≤ s.sapState p ∧ s.sapForeign p = false ∧ (s.sapS p).map.isSome = true ∧ s.breathing = true ∧
    sl < s.sapSlots p ∧ b ≤ s.n ∧ (mget {} sl (s.sapS p).slots).doneB ≤ b ∧ (s.atTime t).slotDue p sl b = true :=
  ⟨15, 1, 5, 100000 * 256, wP 5 15 3 2 { frame := some 8, map := some 0, rx := 2 }, by decide +kernel⟩

theorem met_SerialRowsComplete_7 : ∃ (p : Nat) (sl : Nat) (t : Nat) (f : Nat) (m : Int) (s : State), p < 16 ∧
    s.alive = true ∧ ((s.sapState p = saRUN ∨ s.sapState p = saUNALIGNED)) ∧ s.sapMute = false ∧ sl < s.sapSlots p ∧
    bitOf (s.sapS p).tx sl = true ∧ (s.sapS p).under.contains sl = false ∧ (s.sapS p).map = some m ∧
    (s.sapS p).frame = some f ∧ (s.sapS p).ofs + s.slotMsb p sl - 40 * 256 ≤ (s.atTime t).since (m + f).toNat ∧
    (s.outWord (sapOut p sl) ((m + f).toNat - s.get (F.SAPp_MAP_TXLAG p))).2 = false :=
  ⟨15, 1, 100000 * 256, 5, 0, wP 5 15 3 2 { frame := some 5, map := some 0, tx := 2 }, by decide +kernel⟩

theorem met_SerialRowsComplete_8 : ∃ (p : Nat) (f : Nat) (s : State), p < 16 ∧ s.alive = true ∧
    (s.sapS p).frame = some f ∧ f % s.sapBlock p = 0 ∧ (s.sapS p).stamped = false :=
  ⟨15, 64, wP 5 15 5 2 { frame := some 64, stamp := 777777 }, by decide +kernel⟩

theorem met_SerialRowsComplete_8_0 : ∃ (p : Nat) (f : Nat) (s : State), p < 16 ∧ s.alive = true ∧
    (s.sapS p).frame = some f ∧ f % s.sapBlock p = 0 ∧ (s.sapS p).stamped = false ∧ s.sapState p = saLOCLK ∧
    (s.sapS p).back = false :=
  ⟨15, 64, wP 5 15 5 2 { frame := some 64, stamp := 777777 }, by decide +kernel⟩

theorem met_SerialRowsComplete_8_1 : ∃ (p : Nat) (f : Nat) (s : State), p < 16 ∧ s.alive = true ∧
    (s.sapS p).frame = some f ∧ f % s.sapBlock p = 0 ∧ (s.sapS p).stamped = false ∧ s.sapMaster p = true ∧
    s.sapState p ≠ saLOCLK :=
  ⟨15, 64, (wP 5 15 3 2 { frame := some 64, map := some 7, stamp := 777777 }).set (F.SAPp_CFG_MASTER 15) 1,
    by decide +kernel⟩

theorem met_SerialRowsComplete_8_2 : ∃ (p : Nat) (f : Nat) (s : State), p < 16 ∧ s.alive = true ∧
    (s.sapS p).frame = some f ∧ f % s.sapBlock p = 0 ∧ (s.sapS p).stamped = false ∧ s.sapMaster p = false ∧
    s.sapForeign p = true ∧ (s.sapState p ≠ saLOCLK ∨ (s.sapS p).back = true) :=
  ⟨15, 64, (wP 5 15 2 2 { frame := some 64, stamp := 777777 }).set (F.SAPp_CFG_DOMAIN 15) 1, by decide +kernel⟩

theorem met_SerialRowsComplete_8_3 : ∃ (p : Nat) (f : Nat) (ok : Bool) (s : State), p < 16 ∧ s.alive = true ∧
    (s.sapS p).frame = some f ∧ f % s.sapBlock p = 0 ∧ (s.sapS p).stamped = false ∧ s.sapMaster p = false ∧
    s.sapForeign p = false ∧ s.sapState p = saALIGNING ∧ ok = true :=
  ⟨15, 64, true, wP 5 15 2 2 { frame := some 64, stamp := 777777 }, by decide +kernel⟩

theorem met_SerialRowsComplete_8_4 : ∃ (p : Nat) (f : Nat) (ok : Bool) (s : State), p < 16 ∧ s.alive = true ∧
    (s.sapS p).frame = some f ∧ f % s.sapBlock p = 0 ∧ (s.sapS p).stamped = false ∧ s.sapMaster p = false ∧
    s.sapForeign p = false ∧ s.sapState p = saALIGNING ∧ ok = false :=
  ⟨15, 64, false, wP 5 15 2 2 { frame := some 64, stamp := 777777 }, by decide +kernel⟩

theorem met_SerialRowsComplete_8_5 : ∃ (p : Nat) (f : Nat) (s : State), p < 16 ∧ s.alive = true ∧
    (s.sapS p).frame = some f ∧ f % s.sapBlock p = 0 ∧ (s.sapS p).stamped = false ∧ s.sapMaster p = false ∧
    s.sapForeign p = false ∧ (s.sapState p = saUNALIGNED ∨ (s.sapState p = saLOCLK ∧ (s.sapS p).back = true)) :=
  ⟨15, 64, wP 5 15 4 2 { frame := some 64, stamp := 777777, map := some 6 }, by decide +kernel⟩

theorem met_SerialRowsComplete_9 : ∃ (p : Nat) (s : State), p < 16 ∧ s.alive = true ∧ s.sapState p = saLOCLK ∧
    16 ≤ (s.sapS p).good :=
  ⟨15, wP 5 15 5 2 { good := 16 }, by decide +kernel⟩

theorem met_SerialRowsComplete_10 : ∃ (p : Nat) (t : Nat) (s : State) (w : State), p < 16 ∧ s.alive = true ∧
    ((s.sapState p = saALIGNING ∨ s.sapState p = saRUN ∨ s.sapState p = saUNALIGNED)) ∧ s.sapMaster p = false ∧
    (((s.sapS p).fsAt + 512000000000 / max 1 (s.sapHz p) < max s.now t ∨ 2 ≤ (s.sapS p).bad)) ∧
    w = ((((setSapState p saLOCLK ((s.atTime t).setSap p { s.sapS p with good := 0, back := false, txw := [] })).set (F.SAPp_STAT_LOCLK_EV p) 1).setBit F.SAP_EVT_LOCLK p true).incSat (F.SAPp_CNT1_LOSSES p)) :=
  ⟨15, 100000 * 256, wP 5 15 3 2 { good := 16 },
    let s := wP 5 15 3 2 { good := 16 }; ((((setSapState 15 saLOCLK ((s.atTime (100000*256)).setSap 15 { s.sapS 15 with good := 0, back := false, txw := [] })).set (F.SAPp_STAT_LOCLK_EV 15) 1).setBit F.SAP_EVT_LOCLK 15 true).incSat (F.SAPp_CNT1_LOSSES 15)),
    by decide +kernel⟩

theorem met_SerialRowsComplete_11 : ∃ (m : Nat) (p : Nat) (tx : Bool) (s : State), p < 16 ∧
    Admitted (regWr m (if tx then A.SAPp_TXMASK p else A.SAPp_RXMASK p)) s :=
  ⟨0, 15, true, wP 5 15 3 2 { frame := some 4 }, by decide +kernel, admitted_of (by decide +kernel)⟩

theorem met_SerialRowsComplete_12 : ∃ (p : Nat) (f : Nat) (v : Nat) (at_ : Nat) (tx : Bool) (s : State), s.alive = true ∧
    p < 16 ∧ ((s.sapState p ≠ saLOCLK ∨ (s.sapS p).back = true)) ∧ (s.sapS p).frame = some f ∧
    (if tx then (s.sapS p).txNext else (s.sapS p).rxNext) = some (v, at_) ∧ at_ < (s.sapS p).fsAt :=
  ⟨15, 4, 5, 7, false, wP 5 15 3 2 { frame := some 4, fsAt := 8, rxNext := some (5, 7) }, by decide +kernel⟩

theorem met_SerialRowsComplete_13 : ∃ (p : Nat) (t : Nat) (s : State), p < 16 ∧ s.alive = true ∧
    s.get (F.SAPp_CABLE_CFG_MEAS_EN p) = 1 ∧ s.get (F.SAPp_CFG_EN p) = 1 ∧ s.sapMaster p = true ∧
    (((s.sapS p).cableAt = 0 ∨ (s.sapS p).cableAt - 1 + 100 * uMs ≤ max s.now t)) :=
  ⟨15, 100 * uMs,
    ((wP 5 15 3 2 { frame := some 4, cableAt := 1 }).set (F.SAPp_CABLE_CFG_MEAS_EN 15) 1).set (F.SAPp_CFG_MASTER 15) 1,
    by decide +kernel⟩

/-! BitstreamRowsComplete -/

theorem met_BitstreamRowsComplete_0 : ∃ (m : Nat) (c : Nat) (s : State), c < 32 ∧ Admitted (regWr m (A.BSIc_CFG c)) s ∧
    s.get (F.BSIc_CFG_EN c) = 0 :=
  ⟨0, 31, wR 5, by decide +kernel, admitted_of (by decide +kernel), by decide +kernel⟩

theorem met_BitstreamRowsComplete_1 : ∃ (m : Nat) (c : Nat) (s : State), c < 32 ∧ Admitted (regWr m (A.BSIc_CFG c)) s ∧
    s.get (F.BSIc_CFG_EN c) = 1 :=
  ⟨0, 31, wBsi 5 31 4 { made := 7 }, by decide +kernel, admitted_of (by decide +kernel), by decide +kernel⟩

theorem met_BitstreamRowsComplete_2 : ∃ (m : Nat) (c : Nat) (v : Nat) (s : State), c < 32 ∧
    Admitted (regWr m (A.BSIc_CFG c)) s ∧ s.get (F.BSIc_CFG_EN c) = 1 ∧ bitOf v 31 = true :=
  ⟨0, 31, 0xFFFFFFFF, wBsi 5 31 4 { made := 7 }, by decide +kernel, admitted_of (by decide +kernel), by decide +kernel⟩

theorem met_BitstreamRowsComplete_3 : ∃ (c : Nat) (s : State), c < 32 ∧ s.alive = true ∧ s.bsiState c = bsFILL ∧
    bsiFill (s.bsiPreset c) ≤ (s.bsiS c).made :=
  ⟨31, wBsi 5 31 2 { made := 36 }, by decide +kernel⟩

theorem met_BitstreamRowsComplete_4 : ∃ (c : Nat) (s : State), c < 32 ∧ s.alive = true ∧ s.bsiState c = bsRAMPIN ∧
    32 ≤ (s.bsiS c).rampK :=
  ⟨31, wBsi 5 31 3 { rampK := 32 }, by decide +kernel⟩

theorem met_BitstreamRowsComplete_5 : ∃ (c : Nat) (t : Nat) (d : Nat) (s : State), s.alive = true ∧ c < 32 ∧
    bsFILL ≤ s.bsiState c ∧ s.breathing = true ∧ (s.bsiS c).start = some d ∧
    0 ≤ sx 72 (ux 72 ((s.breathAt s.n : Int) - d)) ∧ (s.atTime t).reached s.n 120 = true ∧ (s.tap (bsiTap c)).at_ ≤ s.n :=
  ⟨31, 100000 * 256, 7, wBsi 5 31 3 { rampK := 31, start := some 7, out := 888 }, by decide +kernel⟩

theorem met_BitstreamRowsComplete_5_0 : ∃ (c : Nat) (t : Nat) (d : Nat) (s : State), s.alive = true ∧ c < 32 ∧
    bsFILL ≤ s.bsiState c ∧ s.breathing = true ∧ (s.bsiS c).start = some d ∧
    0 ≤ sx 72 (ux 72 ((s.breathAt s.n : Int) - d)) ∧ (s.atTime t).reached s.n 120 = true ∧ (s.tap (bsiTap c)).at_ ≤ s.n ∧
    s.bsiState c = bsFILL :=
  ⟨0, 100000 * 256, 7, (wBsi 5 0 2 { rampK := 31, start := some 7, out := 888 }), by decide +kernel⟩

theorem met_BitstreamRowsComplete_5_1 : ∃ (c : Nat) (t : Nat) (d : Nat) (s : State), s.alive = true ∧ c < 32 ∧
    bsFILL ≤ s.bsiState c ∧ s.breathing = true ∧ (s.bsiS c).start = some d ∧
    0 ≤ sx 72 (ux 72 ((s.breathAt s.n : Int) - d)) ∧ (s.atTime t).reached s.n 120 = true ∧ (s.tap (bsiTap c)).at_ ≤ s.n ∧
    s.bsiState c = bsRAMPIN :=
  ⟨31, 100000 * 256, 7, wBsi 5 31 3 { rampK := 31, start := some 7, out := 888 }, by decide +kernel⟩

theorem met_BitstreamRowsComplete_5_2 : ∃ (c : Nat) (t : Nat) (d : Nat) (s : State), s.alive = true ∧ c < 32 ∧
    bsFILL ≤ s.bsiState c ∧ s.breathing = true ∧ (s.bsiS c).start = some d ∧
    0 ≤ sx 72 (ux 72 ((s.breathAt s.n : Int) - d)) ∧ (s.atTime t).reached s.n 120 = true ∧ (s.tap (bsiTap c)).at_ ≤ s.n ∧
    s.bsiState c = bsRUN :=
  ⟨31, 100000 * 256, 7, (wBsi 5 31 4 { rampK := 31, start := some 7, out := 888 }), by decide +kernel⟩

theorem met_BitstreamRowsComplete_6 : ∃ (c : Nat) (ones : Nat) (total : Nat) (t : Nat) (s : State) (w : State), c < 32 ∧
    s.alive = true ∧ bsFILL ≤ s.bsiState c ∧ total * 1000 = s.bsiHz c ∧
    (ones * 100 < 5 * total ∨ 95 * total < ones * 100) ∧
    w = ((s.atTime t).set (F.BSIc_STAT_OVLD c) 1).setBit F.BSI_EVT_OVLD c true :=
  ⟨31, 4, 6144, 0, wBsi 5 31 3 { rampK := 32 },
    ((wBsi 5 31 3 { rampK := 32 }).set (F.BSIc_STAT_OVLD 31) 1).setBit F.BSI_EVT_OVLD 31 true, by decide +kernel⟩

/-! TimeRowsComplete -/

theorem met_TimeRowsComplete_0 : ∃ (m : Nat) (s : State), Admitted (regWr m A.TIME_RATE) s :=
  ⟨0, { (wR 5).set F.TIME_RATE_RATE 0xFFFFFF00 with now := 123456789, time := { on := true, start := 5, c := -12345678901234567, e := 77 } },
    admitted_of (by decide +kernel)⟩

theorem met_TimeRowsComplete_1 : ∃ (t : Nat) (s : State), s.alive = true ∧
    s.time.e / 2 ^ 40 < (s.atTime t).raw / 2 ^ 40 :=
  ⟨2 ^ 40 + 7,
    { (wR 5).set F.TIME_RATE_RATE 0xFFFFFF00 with now := 123456789, time := { on := true, start := 5, c := -12345678901234567, e := 77 } },
    by decide +kernel⟩

theorem met_TimeRowsComplete_2 : ∃ (m : Nat) (s : State), Admitted (regWr m A.TIME_OFFSET_HI) s :=
  ⟨0, (wR 5).set F.TIME_STAT_ARMED 0, admitted_of (by decide +kernel)⟩

theorem met_TimeRowsComplete_2_0 : ∃ (m : Nat) (s : State), Admitted (regWr m A.TIME_OFFSET_HI) s ∧
    s.get F.TIME_STAT_ARMED = 0 :=
  ⟨0, (wR 5).set F.TIME_STAT_ARMED 0, admitted_of (by decide +kernel), by decide +kernel⟩

theorem met_TimeRowsComplete_3 : ∃ (m : Nat) (v : Nat) (s : State), Admitted (regWr m A.TIME_SERVO) s ∧ Keyed v :=
  ⟨0, 0xA55A0001, (wR 5).set F.TIME_STAT_EPOCH 255, admitted_of (by decide +kernel), (by unfold Keyed; decide +kernel)⟩

theorem met_TimeRowsComplete_4 : ∃ (m : Nat) (v : Nat) (s : State), Admitted (regWr m A.TIME_SNAP) s ∧ bitOf v 0 = true :=
  ⟨0, 1, { (wR 5) with now := 2 ^ 76 + 123456789999999 }, admitted_of (by decide +kernel), by decide +kernel⟩

theorem met_TimeRowsComplete_5 : ∃ (m : Nat) (k : Nat) (v : Nat) (s : State) (w : State), k < 8 ∧
    Admitted (regWr m (A.TRIG_CFG k)) s ∧ s.get (F.TRIG_CFG_EN k) = 0 ∧
    w = s.writeRegPlain (A.TRIG_CFG k) (withBit (v % 2 ^ 32) 31 false) :=
  ⟨0, 7, 0, wR 5, (wR 5).writeRegPlain (A.TRIG_CFG 7) (withBit (0 % 2 ^ 32) 31 false), by decide +kernel,
    admitted_of (by decide +kernel), by decide +kernel⟩

theorem met_TimeRowsComplete_5_0 : ∃ (m : Nat) (k : Nat) (v : Nat) (s : State) (w : State), k < 8 ∧
    Admitted (regWr m (A.TRIG_CFG k)) s ∧ s.get (F.TRIG_CFG_EN k) = 0 ∧
    w = s.writeRegPlain (A.TRIG_CFG k) (withBit (v % 2 ^ 32) 31 false) ∧ w.trigBad k = true :=
  ⟨0, 0, ((wR 5).set (F.TRIG_CFG_MODE 0) 3).wordOf (fieldsAt (A.TRIG_CFG 0)), { wR 5 with now := 256 },
    { wR 5 with now := 256 }.writeRegPlain (A.TRIG_CFG 0) (withBit (((wR 5).set (F.TRIG_CFG_MODE 0) 3).wordOf (fieldsAt (A.TRIG_CFG 0)) % 2 ^ 32) 31 false),
    by decide +kernel, admitted_of (by decide +kernel), by decide +kernel⟩

theorem met_TimeRowsComplete_5_1 : ∃ (m : Nat) (k : Nat) (v : Nat) (s : State) (w : State), k < 8 ∧
    Admitted (regWr m (A.TRIG_CFG k)) s ∧ s.get (F.TRIG_CFG_EN k) = 0 ∧
    w = s.writeRegPlain (A.TRIG_CFG k) (withBit (v % 2 ^ 32) 31 false) ∧ w.trigBad k = false ∧ s.fcuState ≠ 2 :=
  ⟨0, 7, 0, wR 5, (wR 5).writeRegPlain (A.TRIG_CFG 7) (withBit (0 % 2 ^ 32) 31 false), by decide +kernel,
    admitted_of (by decide +kernel), by decide +kernel⟩

theorem met_TimeRowsComplete_6 : ∃ (k : Nat) (t : Nat) (s : State), s.alive = true ∧ k < 8 ∧ s.get (F.TRIG_CFG_EN k) = 1 ∧
    ((s.get (F.TRIG_CFG_MODE k) < 2 ∧ (s.trigS k).next * 256 ≤ (s.atTime t).dev ∨ s.get (F.TRIG_CFG_MODE k) = 2 ∧
    s.breathing = true ∧ (s.trigS k).judged ≤ s.n ∧ bidx s.n = (s.trigS k).next)) :=
  ⟨7, 256 * 10, wTr 7 0 10 0, by decide +kernel⟩

theorem met_TimeRowsComplete_6_0 : ∃ (k : Nat) (t : Nat) (s : State), s.alive = true ∧ k < 8 ∧
    s.get (F.TRIG_CFG_EN k) = 1 ∧ ((s.get (F.TRIG_CFG_MODE k) < 2 ∧
    (s.trigS k).next * 256 ≤ (s.atTime t).dev ∨ s.get (F.TRIG_CFG_MODE k) = 2 ∧ s.breathing = true ∧
    (s.trigS k).judged ≤ s.n ∧ bidx s.n = (s.trigS k).next)) ∧ s.get (F.TRIG_CFG_MODE k) = 0 :=
  ⟨7, 256 * 10, wTr 7 0 10 0, by decide +kernel⟩

theorem met_TimeRowsComplete_6_1 : ∃ (k : Nat) (t : Nat) (s : State), s.alive = true ∧ k < 8 ∧
    s.get (F.TRIG_CFG_EN k) = 1 ∧ ((s.get (F.TRIG_CFG_MODE k) < 2 ∧
    (s.trigS k).next * 256 ≤ (s.atTime t).dev ∨ s.get (F.TRIG_CFG_MODE k) = 2 ∧ s.breathing = true ∧
    (s.trigS k).judged ≤ s.n ∧ bidx s.n = (s.trigS k).next)) ∧ s.get (F.TRIG_CFG_MODE k) = 1 :=
  ⟨0, 256 * 10, wTr 0 1 10 0, by decide +kernel⟩

theorem met_TimeRowsComplete_6_2 : ∃ (k : Nat) (t : Nat) (s : State), s.alive = true ∧ k < 8 ∧
    s.get (F.TRIG_CFG_EN k) = 1 ∧ ((s.get (F.TRIG_CFG_MODE k) < 2 ∧
    (s.trigS k).next * 256 ≤ (s.atTime t).dev ∨ s.get (F.TRIG_CFG_MODE k) = 2 ∧ s.breathing = true ∧
    (s.trigS k).judged ≤ s.n ∧ bidx s.n = (s.trigS k).next)) ∧ s.get (F.TRIG_CFG_MODE k) = 2 ∧
    s.get (F.TRIG_PERIOD_PERIOD k) = 0 :=
  ⟨0, 256 * 10, wTr 0 2 5 0, by decide +kernel⟩

theorem met_TimeRowsComplete_7 : ∃ (o : Nat) (t : Nat) (e : Nat) (s : State), s.alive = true ∧
    (mget {} o s.time.ttrig).until_ = some e ∧ sx 72 (ux 72 ((e : Int) - (s.atTime t).dev)) ≤ 0 :=
  ⟨3, 99, 99, { wR 5 with time := { on := true, ttrig := [(3, ⟨true, some 99⟩)] } }, by decide +kernel⟩

theorem met_TimeRowsComplete_8 : ∃ (c : Nat) (rising : Bool) (s : State), s.alive = true ∧ c < 4 ∧
    s.get (F.CAP_CFG_EN c) = 1 ∧ ((s.get (F.CAP_CFG_SRC c) = 2 ∨ s.get (F.CAP_CFG_SRC c) = (if rising then 0 else 1))) :=
  ⟨3, true, ((wR 5).set (F.CAP_CFG_EN 3) 1).set (F.CAP_CFG_SRC 3) 2, by decide +kernel⟩

theorem met_TimeRowsComplete_9 : ∃ (m : Nat) (c : Nat) (s : State), c < 8 ∧ Admitted (regRd m (A.CAP_TS_LO c)) s :=
  ⟨0, 7, { wR 5 with time := { on := true, caps := [(7, [⟨2^40+1,2⟩, ⟨5,6⟩])] }}, by decide +kernel,
    admitted_of (by decide +kernel)⟩

theorem met_TimeRowsComplete_10 : ∃ (m : Nat) (p : Nat) (s : State), p < 5 ∧ Admitted (regRd m (A.TXTS_TS p)) s :=
  ⟨0, 4, wR 5, by decide +kernel, admitted_of (by decide +kernel)⟩

/-! PitchPipeRowsComplete -/

theorem met_PitchPipeRowsComplete_0 : ∃ (m : Nat) (n : Nat) (s : State), n < 2 ∧ Admitted (regWr m (A.PP_PTP_ERR n)) s :=
  ⟨0, 1, wp 2 0 {}, by decide +kernel, admitted_of (by decide +kernel)⟩

theorem met_PitchPipeRowsComplete_0_0 : ∃ (m : Nat) (n : Nat) (s : State), n < 2 ∧ Admitted (regWr m (A.PP_PTP_ERR n)) s ∧
    s.ppActive ≠ n ∧ s.pp.slewing = false :=
  ⟨0, 1, wp 2 0 {}, by decide +kernel, admitted_of (by decide +kernel), by decide +kernel⟩

theorem met_PitchPipeRowsComplete_1 : ∃ (r : Nat) (edges : List (Nat × Bool)) (xs : List Nat) (s : State),
    s.alive = true ∧ 2 ≤ r ∧ r < 5 ∧ xs = (edges.filter (fun e => r != 2 || e.2 != s.on F.PP_WCLK_CFG_EDGE)).map (·.1) ∧
    xs ≠ [] :=
  ⟨4, [(17, true), (10240010, false)], [17, 10240010], wp 2 0 {}, by decide +kernel⟩

theorem met_PitchPipeRowsComplete_1_0 : ∃ (r : Nat) (edges : List (Nat × Bool)) (xs : List Nat) (s : State),
    s.alive = true ∧ 2 ≤ r ∧ r < 5 ∧ xs = (edges.filter (fun e => r != 2 || e.2 != s.on F.PP_WCLK_CFG_EDGE)).map (·.1) ∧
    xs ≠ [] ∧ s.ppActive ≠ r ∧ s.pp.slewing = false :=
  ⟨4, [(17, true), (10240010, false)], [17, 10240010], wp 2 0 {}, by decide +kernel⟩

theorem met_PitchPipeRowsComplete_2 : ∃ (t : Nat) (s : State), s.alive = true ∧ s.pp.freqAt + uS ≤ max s.now t :=
  ⟨uS, wp 1 2 { refs := [(2, { pts := [(0,5),(2^38,9),(2^39,3)] }), (4, {pts := [(0,5),(2^38,9)]})] }, by decide +kernel⟩

theorem met_PitchPipeRowsComplete_3 : ∃ (r : Nat) (t : Nat) (s : State), s.alive = true ∧ r < 5 ∧ s.refValid r = false ∧
    (s.atTime t).refActive r = true ∧ (s.ref r).bad = 0 ∧ (s.ref r).ok ≠ 0 ∧
    (s.ref r).ok - 1 + max 100 (s.get F.PP_QUAL_QUAL_MS) * uMs ≤ max s.now t :=
  ⟨4, 100 * uS, (wp 0 5 { refs := [(4, { act := true, ok := 6 })] }).set F.PP_REF_EN_EN 31, by decide +kernel⟩

theorem met_PitchPipeRowsComplete_4 : ∃ (r : Nat) (t : Nat) (lost : Bool) (s : State), s.alive = true ∧ r < 5 ∧
    (((lost = true ∧ 2 ≤ r) ∨ (s.atTime t).refActive r = false ∨ ((s.ref r).bad ≠ 0 ∧
    (s.ref r).bad - 1 + 100 * uMs ≤ max s.now t))) :=
  ⟨4, uS, true, (wp 1 4 { refs := [(4, { act := true, ok := 6 })] }).set F.PP_REFSTAT_VALID 31, by decide +kernel⟩

theorem met_PitchPipeRowsComplete_4_0 : ∃ (r : Nat) (t : Nat) (lost : Bool) (s : State), s.alive = true ∧ r < 5 ∧
    (((lost = true ∧ 2 ≤ r) ∨ (s.atTime t).refActive r = false ∨ ((s.ref r).bad ≠ 0 ∧
    (s.ref r).bad - 1 + 100 * uMs ≤ max s.now t))) ∧ s.refValid r = true :=
  ⟨4, uS, true, (wp 1 4 { refs := [(4, { act := true, ok := 6 })] }).set F.PP_REFSTAT_VALID 31, by decide +kernel⟩

theorem met_PitchPipeRowsComplete_5 : ∃ (m : Nat) (s : State), Admitted (regWr m A.PP_CTRL) s :=
  ⟨0, (wp 1 4 { refs := [(4, { act := true, ok := 6 })] }).set F.PP_REFSTAT_VALID 31, admitted_of (by decide +kernel)⟩

theorem met_PitchPipeRowsComplete_5_0 : ∃ (m : Nat) (s : State), Admitted (regWr m A.PP_CTRL) s ∧
    s.ppState = ppSWITCHING :=
  ⟨0, (wp 3 4 { refs := [(4, { act := true, ok := 6 })] }).set F.PP_REFSTAT_VALID 31, admitted_of (by decide +kernel),
    by decide +kernel⟩

theorem met_PitchPipeRowsComplete_5_1 : ∃ (m : Nat) (v : Nat) (s : State), Admitted (regWr m A.PP_CTRL) s ∧
    s.ppState ≠ ppSWITCHING ∧ v % 8 < 5 ∧ s.refValid (v % 8) = true ∧ v % 8 ≠ s.ppActive :=
  ⟨0, 0x403, (wp 1 4 { refs := [(4, { act := true, ok := 6 })] }).set F.PP_REFSTAT_VALID 31,
    admitted_of (by decide +kernel), by decide +kernel⟩

theorem met_PitchPipeRowsComplete_5_2 : ∃ (m : Nat) (v : Nat) (s : State), Admitted (regWr m A.PP_CTRL) s ∧
    s.get F.PP_CTRL_STEER = 0 ∧ bitOf v 10 = true ∧ s.ppState = ppFREERUN ∧ s.fcuState ≠ 2 ∧
    ((5 ≤ v % 8 ∨ s.refValid (v % 8) = false)) :=
  ⟨0, 0x405, ((wp 0 5 { }).set F.PP_FREERUN_RATE_RATE 0xFFFFFF00).set F.PP_CTRL_STEER 0, admitted_of (by decide +kernel),
    by decide +kernel⟩

theorem met_PitchPipeRowsComplete_6 : ∃ (m : Nat) (s : State), Admitted (regWr m A.PP_FREERUN_RATE) s :=
  ⟨0, (wp 0 5 { }).set F.PP_CTRL_STEER 1, admitted_of (by decide +kernel)⟩

theorem met_PitchPipeRowsComplete_7 : ∃ (s : State), s.alive = true ∧ s.ppState = ppSWITCHING ∧ s.ppActive < 5 ∧
    s.pp.avg.length = switchSamples s.ppActive :=
  ⟨(wp 3 1 { avg := [4,5,6,8], wasLocked := true, u0 := 3 }), by decide +kernel⟩

theorem met_PitchPipeRowsComplete_7_0 : ∃ (s : State), s.alive = true ∧ s.ppState = ppSWITCHING ∧ s.ppActive < 5 ∧
    s.pp.avg.length = switchSamples s.ppActive ∧ s.pp.held = none ∧ s.pp.selPend = false :=
  ⟨(wp 3 1 { avg := [4,5,6,8], wasLocked := true, u0 := 3 }), by decide +kernel⟩

theorem met_PitchPipeRowsComplete_8 : ∃ (t : Nat) (s : State), s.alive = true ∧ s.ppState = ppACQUIRING ∧ s.pp.below ≠ 0 ∧
    s.pp.below - 1 + s.get F.PP_LOCK_LOCK_MS * uMs ≤ max s.now t :=
  ⟨uS, (wp 1 4 { below := 1 }), by decide +kernel⟩

theorem met_PitchPipeRowsComplete_9 : ∃ (t : Nat) (s : State), s.alive = true ∧ s.ppState = ppLOCKED ∧ s.pp.above ≠ 0 ∧
    s.pp.above - 1 + 100 * uMs ≤ max s.now t :=
  ⟨uS, (wp 2 4 { above := 1 }), by decide +kernel⟩

theorem met_PitchPipeRowsComplete_10 : ∃ (r : Nat) (t : Nat) (s : State), s.alive = true ∧
    s.reverts.find? (s.atTime t).heldOff = some r :=
  ⟨3, 4000 * uS,
    ((((wp 2 4 { }).set F.PP_CTRL_SEL 3).set F.PP_CTRL_REVERT 1).set F.PP_REFSTAT_VALID 31).set F.PP_HOLDOFF_SECONDS 0xFFFF,
    by decide +kernel⟩

theorem met_PitchPipeRowsComplete_11 : ∃ (t : Nat) (s : State), s.alive = true ∧ s.ppState = ppLOCKED ∧
    uS ≤ (s.atTime t).lockedFor :=
  ⟨uS, ((wp 2 4 { })).set F.PP_HOLD_RATE_RATE 0xFFFFFFFF, by decide +kernel⟩

theorem met_PitchPipeRowsComplete_11_0 : ∃ (t : Nat) (s : State), s.alive = true ∧ s.ppState = ppLOCKED ∧
    uS ≤ (s.atTime t).lockedFor ∧ 59 ≤ s.get F.PP_HOLD_AGE_SECONDS :=
  ⟨uS, (((wp 2 4 { rateN := 3, rateSum := 30000})).set F.PP_HOLD_RATE_RATE 0xFFFFFFFF).set F.PP_HOLD_AGE_SECONDS 0xFFFFFFFF,
    by decide +kernel⟩

theorem met_PitchPipeRowsComplete_12 : ∃ (m : Nat) (v : Nat) (s : State), Admitted (regWr m A.PP_PSTEP_CMD) s ∧ Keyed v :=
  ⟨0, 0xA55A0003, wp 0 5 {}, admitted_of (by decide +kernel), (by unfold Keyed; decide +kernel)⟩

theorem met_PitchPipeRowsComplete_12_0 : ∃ (m : Nat) (v : Nat) (s : State), Admitted (regWr m A.PP_PSTEP_CMD) s ∧
    Keyed v ∧ s.ppActive = 5 :=
  ⟨0, 0xA55A0003, wp 0 5 {}, admitted_of (by decide +kernel), (by unfold Keyed; decide +kernel), by decide +kernel⟩

theorem met_PitchPipeRowsComplete_12_1 : ∃ (m : Nat) (v : Nat) (s : State), Admitted (regWr m A.PP_PSTEP_CMD) s ∧
    Keyed v ∧ s.ppActive < 5 ∧ s.pp.held = none ∧ s.ppState ≠ ppSWITCHING :=
  ⟨0, 0xA55A0001, ((wp 2 4 {}).set F.PP_PSTEP_DELTA 0xFFFFFFF0).set F.TIME_STAT_ARMED 0, admitted_of (by decide +kernel),
    (by unfold Keyed; decide +kernel), by decide +kernel⟩

theorem met_PitchPipeRowsComplete_12_2 : ∃ (m : Nat) (v : Nat) (s : State), Admitted (regWr m A.PP_PSTEP_CMD) s ∧
    Keyed v ∧ s.get F.TIME_STAT_ARMED = 0 :=
  ⟨0, 0xA55A0001, ((wp 2 4 {}).set F.PP_PSTEP_DELTA 0xFFFFFFF0).set F.TIME_STAT_ARMED 0, admitted_of (by decide +kernel),
    (by unfold Keyed; decide +kernel), by decide +kernel⟩

theorem met_PitchPipeRowsComplete_12_3 : ∃ (m : Nat) (v : Nat) (s : State), Admitted (regWr m A.PP_PSTEP_CMD) s ∧
    Keyed v ∧ s.get F.TIME_STAT_ARMED = 1 :=
  ⟨0, 0xA55A0003, wp 0 5 {}, admitted_of (by decide +kernel), (by unfold Keyed; decide +kernel), by decide +kernel⟩

theorem met_PitchPipeRowsComplete_13 : ∃ (t : Nat) (s : State), s.alive = true ∧ s.pp.slewing = true ∧
    (slewTick (s.atTime t)).get F.PP_PSTEP_REMAIN_REMAIN = 0 :=
  ⟨7, (wp 2 4 { slewing := true }), by decide +kernel⟩

theorem met_PitchPipeRowsComplete_14 : ∃ (k : Nat) (t : Nat) (s : State) (w : State), s.alive = true ∧ k < 3 ∧
    s.clkEn k = true ∧ bitOf s.pp.clkRun k = false ∧ s.breathing = true ∧ s.fcuState ≠ 2 ∧ w = s.atTime t ∧
    0 ≤ w.since s.n ∧ w.since s.n < 256 :=
  ⟨2, 0, let s := (wp 2 4 { slewing := true }).set F.PP_CLKOUT_WC_EN 1; { s with time := { s.time with c := (s.breathAt 5 : Int) * 2 ^ 40 } },
    let s := (wp 2 4 { slewing := true }).set F.PP_CLKOUT_WC_EN 1; { s with time := { s.time with c := (s.breathAt 5 : Int) * 2 ^ 40 } }.atTime 0,
    by decide +kernel⟩

/-! TwinRowsComplete -/

theorem met_TwinRowsComplete_0 : ∃ (m : Nat) (s : State), Admitted (regWr m A.TWIN_CTRL) s :=
  ⟨0, wR 5, admitted_of (by decide +kernel)⟩

theorem met_TwinRowsComplete_0_0 : ∃ (m : Nat) (v : Nat) (s : State), Admitted (regWr m A.TWIN_CTRL) s ∧
    s.get F.TWIN_CTRL_EN = 0 ∧ bitOf v 31 = true :=
  ⟨0, 0x80000000, wR 5, admitted_of (by decide +kernel), by decide +kernel⟩

theorem met_TwinRowsComplete_0_1 : ∃ (m : Nat) (v : Nat) (s : State), Admitted (regWr m A.TWIN_CTRL) s ∧
    s.get F.TWIN_CTRL_EN = 1 ∧ bitOf v 31 = false :=
  ⟨0, 0, wTw 5 2 2 [] {}, admitted_of (by decide +kernel), by decide +kernel⟩

theorem met_TwinRowsComplete_0_2 : ∃ (m : Nat) (s : State), Admitted (regWr m A.TWIN_CTRL) s ∧ s.tlink ≠ tlOFF :=
  ⟨0, wTw 5 2 2 [] {}, admitted_of (by decide +kernel), by decide +kernel⟩

theorem met_TwinRowsComplete_1 : ∃ (t : Nat) (s : State), s.alive = true ∧ s.tlink ≠ tlOFF ∧ ((∀ a,
    s.twin.helloAt = some a → a + s.helloEvery ≤ max s.now t)) :=
  ⟨uS, wTw 5 2 1 [] { helloAt := some 9 }, by decide +kernel⟩

theorem met_TwinRowsComplete_2 : ∃ (f : RxFrame) (q : List RxFrame) (s : State), Hears 0x20 f q s :=
  ⟨tf 0x20 5 [], [], wTw 5 1 1 [tf 0x20 5 []] { }, (by unfold Hears; decide +kernel)⟩

theorem met_TwinRowsComplete_2_0 : ∃ (f : RxFrame) (q : List RxFrame) (s : State), Hears 0x20 f q s ∧ s.incompat f ≠ 0 :=
  ⟨tf 0x20 5 [], [], wTw 5 1 1 [tf 0x20 5 []] { }, (by unfold Hears; decide +kernel), by decide +kernel⟩

theorem met_TwinRowsComplete_2_1 : ∃ (f : RxFrame) (q : List RxFrame) (s : State), Hears 0x20 f q s ∧ s.incompat f = 0 ∧
    s.twinPaired = false ∧ s.twin.hellos < 3 :=
  by
  by_cases h : ownSerial = 5
  · exact ⟨tf 0x20 6 (hel 1), [], wTw 5 1 1 [tf 0x20 6 (hel 1)] { hellos := 2 }, (by unfold Hears; decide +kernel),
      compatible (by decide +kernel) (by rw [h]; decide +kernel), by decide +kernel⟩
  · exact ⟨tf 0x20 5 (hel 1), [], wTw 5 1 1 [tf 0x20 5 (hel 1)] { hellos := 2 }, (by unfold Hears; decide +kernel),
      compatible (by decide +kernel) (by rw [show twAt (tf 0x20 5 (hel 1)) 4 8 = 5 by decide +kernel]; exact fun e => h e.symm),
      by decide +kernel⟩

theorem met_TwinRowsComplete_2_2 : ∃ (f : RxFrame) (q : List RxFrame) (t : Nat) (s : State), Hears 0x20 f q s ∧
    s.incompat f = 0 ∧ s.twinPaired = true ∧ twByte f 16 ≠ trNONE ∧ twAt f 4 8 = s.partnerSerial ∧ ((∀ k,
    (takeHello f (heard q t s)).twin.skew = some k → k.natAbs ≤ 256 * max 1 (s.get F.TWIN_SKEW_MAX_NS))) :=
  by
  by_cases h : ownSerial = 5
  · refine ⟨tf 0x20 6 (hel 1), [], 9,
    (wTw 5 2 2 [tf 0x20 6 (hel 1)] { hellos := 2, offset := some 7 }).set F.TWIN_PSERIAL_LO_SERIAL 6,
      (by unfold Hears; decide +kernel), compatible (by decide +kernel) (by rw [h]; decide +kernel), by decide +kernel,
      by decide +kernel, by decide +kernel, ?_⟩
    rw [show (takeHello (tf 0x20 6 (hel 1)) (heard [] 9 ((wTw 5 2 2 [tf 0x20 6 (hel 1)] { hellos := 2, offset := some 7 }).set
      F.TWIN_PSERIAL_LO_SERIAL 6))).twin.skew = some (-7) by decide +kernel]
    intro k e; obtain rfl := Option.some.inj e; decide +kernel
  · refine ⟨tf 0x20 5 (hel 1), [], 9, wTw 5 2 2 [tf 0x20 5 (hel 1)] { hellos := 2, offset := some 7 },
      (by unfold Hears; decide +kernel), compatible (by decide +kernel)
        (by rw [show twAt (tf 0x20 5 (hel 1)) 4 8 = 5 by decide +kernel]; exact fun e => h e.symm), by decide +kernel,
      by decide +kernel, by decide +kernel, ?_⟩
    rw [show (takeHello (tf 0x20 5 (hel 1)) (heard [] 9 (wTw 5 2 2 [tf 0x20 5 (hel 1)] { hellos := 2, offset := some 7 }))).twin.skew
      = some (-7) by decide +kernel]
    intro k e; obtain rfl := Option.some.inj e; decide +kernel

theorem met_TwinRowsComplete_2_3 : ∃ (f : RxFrame) (q : List RxFrame) (t : Nat) (s : State), Hears 0x20 f q s ∧
    s.incompat f = 0 ∧ s.twinPaired = false ∧ 3 ≤ s.twin.hellos ∧ (takeHello f (heard q t s)).twin.offset.isSome = true :=
  by
  by_cases h : ownSerial = 5
  · exact ⟨tf 0x20 6 (hel 1), [], 9, wTw 5 1 1 [tf 0x20 6 (hel 1)] { hellos := 3, offset := some 7 },
      (by unfold Hears; decide +kernel), compatible (by decide +kernel) (by rw [h]; decide +kernel), by decide +kernel⟩
  · exact ⟨tf 0x20 5 (hel 1), [], 9, wTw 5 1 1 [tf 0x20 5 (hel 1)] { hellos := 3, offset := some 7 },
      (by unfold Hears; decide +kernel), compatible (by decide +kernel)
        (by rw [show twAt (tf 0x20 5 (hel 1)) 4 8 = 5 by decide +kernel]; exact fun e => h e.symm), by decide +kernel⟩

theorem met_TwinRowsComplete_3 : ∃ (t : Nat) (s : State), s.alive = true ∧ s.tlink ≠ tlOFF ∧ s.breathing = true ∧
    s.disp.started = true ∧ s.disp.first + 2 ≤ s.n ∧ s.twin.sentB ≤ s.n - 2 ∧ (s.atTime t).reached s.n 100 = true :=
  ⟨uMs, wTw 5 2 1 [] {}, by decide +kernel⟩

theorem met_TwinRowsComplete_4 : ∃ (f : RxFrame) (q : List RxFrame) (s : State), Hears 0x21 f q s :=
  ⟨tf 0x21 5 (beBytes 6 4 ++ beBytes 2 3 ++ beBytes 2 1 ++ [0,0,0,0,1,0]), [],
    (wTw 5 2 2 [tf 0x21 5 (beBytes 6 4 ++ beBytes 2 3 ++ beBytes 2 1 ++ [0,0,0,0,1,0])] {}).set F.TWIN_QREASON_REASON 1,
    (by unfold Hears; decide +kernel)⟩

theorem met_TwinRowsComplete_5 : ∃ (t : Nat) (s : State), s.alive = true ∧ s.twinPaired = true ∧ s.twin.pRun = false ∧
    s.twin.helloRx + uMs ≤ max s.now t ∧ s.twin.missed + 1 < max 1 (s.get F.TWIN_CTRL_HB_MISS) :=
  ⟨uMs, (wTw 5 2 2 [tf 0x21 6 []] {}).set F.TWIN_CTRL_HB_MISS 2, by decide +kernel⟩

theorem met_TwinRowsComplete_6 : ∃ (b : Nat) (o : BFrame) (p : BFrame) (s : State), s.alive = true ∧ s.twinPaired = true ∧
    s.breathing = true ∧ s.disp.first + 3 ≤ s.n ∧ b = s.n - 3 ∧ s.twin.cmpB ≤ b ∧
    s.twin.own.find? (fun e => e.b == b) = some o ∧ s.twin.part.find? (fun e => e.b == b) = some p ∧
    s.rsPhase ≠ rsCHECKING ∧ o.quiet &&& p.quiet = 0 :=
  ⟨2, ⟨2, 3, 1, 2, [5,6]⟩, ⟨2, 3, 2, 2, [5,7]⟩,
    (wTw 5 2 2 [tf 0x21 6 []] { own := [⟨2, 3, 1, 2, [5,6]⟩], part := [⟨2, 3, 2, 2, [5,7]⟩] }).set F.TWIN_CTRL_HB_MISS 2,
    by decide +kernel⟩

theorem met_TwinRowsComplete_7 : ∃ (f : RxFrame) (q : List RxFrame) (s : State), Hears 0x22 f q s :=
  ⟨tf 0x22 5 [], [], (wTw 5 2 2 [tf 0x22 5 []] {}), (by unfold Hears; decide +kernel)⟩

theorem met_TwinRowsComplete_8 : ∃ (b : Nat) (r : Nat) (s : State), s.alive = true ∧ s.twin.role = some (b, r) ∧ r < 3 ∧
    ((s.breathing = true → b < s.n)) :=
  ⟨4, 1, (wTw 5 2 2 [tf 0x22 5 []] {role := some (4,1)}), by decide +kernel⟩

theorem met_TwinRowsComplete_9 : ∃ (m : Nat) (v : Nat) (y : Nat) (s : State), Admitted (regWr m A.TWIN_CMD) s ∧
    v / 65536 = 0xA55A ∧ v % 16 = 1 ∧ y = s.get F.TWIN_CMD_BREATH_HI_Y_HI * 2 ^ 32 + s.get F.TWIN_CMD_BREATH_LO_Y_LO :=
  ⟨0, 0xA55A0001, 21, (wTw 5 2 1 [] {}).set F.TWIN_CMD_BREATH_LO_Y_LO 21, admitted_of (by decide +kernel),
    by decide +kernel⟩

theorem met_TwinRowsComplete_10 : ∃ (f : RxFrame) (q : List RxFrame) (s : State), Hears 0x24 f q s ∧
    s.fromPartner f = true ∧ s.n + 4 < s.unwrap (twAt f 12 6) ∧
    ((s.trole ≠ trFOLLOW → s.twin.yieldY = some (s.unwrap (twAt f 12 6)))) :=
  ⟨tf 0x24 5 (beBytes 6 10), [], (wTw 5 2 2 [tf 0x24 5 (beBytes 6 10)] {}), (by unfold Hears; decide +kernel),
    by decide +kernel⟩

theorem met_TwinRowsComplete_11 : ∃ (y : Nat) (s : State), s.alive = true ∧ s.twin.yieldY = some y ∧
    ((s.breathing = true → y ≤ s.n)) :=
  ⟨5, (wTw 5 2 1 [] {yieldY := some 5, echo := true}).set F.TWIN_CMD_STAT_BUSY 1, by decide +kernel⟩

theorem met_TwinRowsComplete_11_0 : ∃ (y : Nat) (s : State), s.alive = true ∧ s.twin.yieldY = some y ∧
    ((s.breathing = true → y ≤ s.n)) ∧ s.get F.TWIN_CMD_STAT_BUSY = 1 :=
  ⟨5, (wTw 5 2 1 [] {yieldY := some 5, echo := true}).set F.TWIN_CMD_STAT_BUSY 1, by decide +kernel⟩

theorem met_TwinRowsComplete_11_1 : ∃ (y : Nat) (s : State), s.alive = true ∧ s.twin.yieldY = some y ∧
    ((s.breathing = true → y ≤ s.n)) ∧ s.get F.TWIN_CMD_STAT_BUSY = 0 ∧ s.twin.echo = true ∧ s.twinPaired = true :=
  ⟨5, (wTw 5 2 2 [] {yieldY := some 5, echo := true}), by decide +kernel⟩

theorem met_TwinRowsComplete_12 : ∃ (f : RxFrame) (q : List RxFrame) (s : State), Hears 0x23 f q s ∧
    s.fromPartner f = true :=
  ⟨tf 0x23 5 (beBytes 6 10), [], (wTw 5 2 1 [tf 0x23 5 (beBytes 6 10)] {yieldY := some 10, notes := [⟨0,1,2,[]⟩]}),
    (by unfold Hears; decide +kernel), by decide +kernel⟩

/-! ReseatRowsComplete -/

theorem met_ReseatRowsComplete_0 : ∃ (f : RxFrame) (q : List RxFrame) (s : State), Hears 0x25 f q s ∧
    s.fromPartner f = true ∧ s.trole = trLEAD ∧ (∀ i ∈ secsOf (twAt f 12 2), s.secState i = secRUNNING ∧
    bitOf (s.get F.TWIN_QUIET_OWN) i = false) ∧ (s.seat (twAt f 12 2) 0).length ≤ seatMax :=
  ⟨tf 0x25 5 (beBytes 2 2), [], (wRs 5 1 0 [tf 0x25 5 (beBytes 2 2)] {}).set (F.SECn_STAT_STATE 1) secRUNNING,
    (by unfold Hears; decide +kernel), by decide +kernel⟩

theorem met_ReseatRowsComplete_1 : ∃ (s : State), s.alive = true ∧ s.rsPhase = rsCAPTURE ∧ s.twin.rs.ended = true :=
  ⟨(wRs 5 1 6 [] {ended := true}), by decide +kernel⟩

theorem met_ReseatRowsComplete_2 : ∃ (t : Nat) (s : State), s.alive = true ∧ s.rsPhase = rsSENDING ∧
    s.twin.rs.sendAt ≤ max s.now t ∧ s.twin.rs.sent ≤ s.get F.TWIN_RS_BYTES_BYTES :=
  ⟨8, (wRs 5 1 7 [] {ended := true, sent := 1024}).set F.TWIN_RS_BYTES_BYTES 2000, by decide +kernel⟩

theorem met_ReseatRowsComplete_3 : ∃ (f : RxFrame) (q : List RxFrame) (o : Nat) (k : Nat) (s : State), Hears 0x26 f q s ∧
    s.fromPartner f = true ∧ s.trole = trFOLLOW ∧ ((s.rsPhase = rsREQUESTED ∨ s.rsPhase = rsRECEIVING)) ∧
    s.twin.rs.ended = false ∧ s.twin.rs.waitAt = none ∧ o = twAt f 12 4 ∧ k = twAt f 16 2 ∧ 0 < k ∧ k ≤ 1024 ∧
    o + k ≤ seatMax :=
  ⟨tf 0x26 5 (beBytes 4 8 ++ beBytes 2 3 ++ [0,0,4,5,6]), [], 8, 3,
    (wRs 5 2 1 [tf 0x26 5 (beBytes 4 8 ++ beBytes 2 3 ++ [0,0,4,5,6])] {}), (by unfold Hears; decide +kernel),
    by decide +kernel⟩

theorem met_ReseatRowsComplete_4 : ∃ (f : RxFrame) (q : List RxFrame) (s : State), Hears 0x27 f q s ∧
    s.fromPartner f = true ∧ s.trole = trFOLLOW ∧ ((s.rsPhase = rsREQUESTED ∨ s.rsPhase = rsRECEIVING)) ∧
    s.twin.rs.ended = false ∧ s.twin.rs.waitAt = none :=
  ⟨tf 0x27 5 (beBytes 6 4 ++ beBytes 4 64 ++ beBytes 4 (crc32c [])), [],
    ((wRs 5 2 1 [tf 0x27 5 (beBytes 6 4 ++ beBytes 4 64 ++ beBytes 4 (crc32c []))] { got := [(0,64)] }).setWord (seatBase + 20) (crc32c [])).set F.TWIN_RS_STAT_SET 0,
    (by unfold Hears; decide +kernel), by decide +kernel⟩

theorem met_ReseatRowsComplete_4_0 : ∃ (f : RxFrame) (q : List RxFrame) (s : State), Hears 0x27 f q s ∧
    s.fromPartner f = true ∧ s.trole = trFOLLOW ∧ ((s.rsPhase = rsREQUESTED ∨ s.rsPhase = rsRECEIVING)) ∧
    s.twin.rs.ended = false ∧ s.twin.rs.waitAt = none ∧ s.seatResult (twAt f 18 4) (twAt f 22 4) = 0 :=
  ⟨tf 0x27 5 (beBytes 6 4 ++ beBytes 4 64 ++ beBytes 4 (crc32c [])), [],
    ((wRs 5 2 1 [tf 0x27 5 (beBytes 6 4 ++ beBytes 4 64 ++ beBytes 4 (crc32c []))] { got := [(0,64)] }).setWord (seatBase + 20) (crc32c [])).set F.TWIN_RS_STAT_SET 0,
    (by unfold Hears; decide +kernel), by decide +kernel⟩

theorem met_ReseatRowsComplete_4_1 : ∃ (f : RxFrame) (q : List RxFrame) (s : State), Hears 0x27 f q s ∧
    s.fromPartner f = true ∧ s.trole = trFOLLOW ∧ ((s.rsPhase = rsREQUESTED ∨ s.rsPhase = rsRECEIVING)) ∧
    s.twin.rs.ended = false ∧ s.twin.rs.waitAt = none ∧ s.seatResult (twAt f 18 4) (twAt f 22 4) ≠ 0 ∧
    s.twinPaired = true ∧ s.twin.rs.tries + 1 < max 1 (s.get F.TWIN_CTRL_RETRY_MAX) :=
  ⟨tf 0x27 5 (beBytes 6 4 ++ beBytes 4 64 ++ beBytes 4 (crc32c [])), [],
    (wRs 5 2 1 [tf 0x27 5 (beBytes 6 4 ++ beBytes 4 64 ++ beBytes 4 (crc32c []))] { got := [(0,63)] }).set F.TWIN_CTRL_RETRY_MAX 3,
    (by unfold Hears; decide +kernel), by decide +kernel⟩

theorem met_ReseatRowsComplete_5 : ∃ (f : RxFrame) (q : List RxFrame) (s : State), Hears 0x28 f q s ∧
    s.fromPartner f = true ∧ s.rsPhase = rsSENDING :=
  ⟨tf 0x28 5 [], [], (wRs 5 1 7 [tf 0x28 5 []] {}), (by unfold Hears; decide +kernel), by decide +kernel⟩

theorem met_ReseatRowsComplete_6 : ∃ (s : State), s.alive = true ∧ s.rsPhase = rsLOADING :=
  ⟨(wRs 5 2 3 [] {seatB := 3}).setWord (seatBase + 12) 0, by decide +kernel⟩

theorem met_ReseatRowsComplete_7 : ∃ (s : State), s.alive = true ∧ s.rsPhase = rsCHECKING ∧
    max 1 (s.get F.TWIN_CTRL_AGREE) ≤ s.twin.rs.agree :=
  ⟨((wRs 5 2 5 [] {seatB := 3, agree := 9000}).set F.TWIN_CTRL_AGREE 1).set F.TWIN_RS_STAT_SET 3, by decide +kernel⟩

theorem met_ReseatRowsComplete_8 : ∃ (t : Nat) (s : State), s.alive = true ∧
    ((s.rsPhase = rsREQUESTED ∨ s.rsPhase = rsRECEIVING)) ∧ s.twin.rs.waitAt = none ∧ s.twin.rs.ended = false ∧
    s.twin.rs.reqAt + 100 * uMs ≤ max s.now t ∧ s.trole = trFOLLOW ∧ s.twinPaired = true ∧
    s.twin.rs.tries + 1 < max 1 (s.get F.TWIN_CTRL_RETRY_MAX) :=
  ⟨uS, ((wRs 5 2 1 [] {seatB := 3, agree := 9000}).set F.TWIN_CTRL_RETRY_MAX 2).set F.TWIN_RS_STAT_SET 3,
    by decide +kernel⟩

theorem met_ReseatRowsComplete_9 : ∃ (t : Nat) (a : Nat) (s : State), s.alive = true ∧ s.twin.rs.waitAt = some a ∧
    a + uS ≤ max s.now t :=
  ⟨uS + 7, 7, ((wRs 5 2 1 [] {waitAt := some 7}).set F.TWIN_CTRL_RETRY_MAX 2).set F.TWIN_RS_STAT_SET 3, by decide +kernel⟩

/-! HostRowsComplete -/

theorem met_HostRowsComplete_0 : ∃ (f : RxFrame) (q : List RxFrame) (t : Nat) (n : Nat) (s : State) (w : State),
    Serves htREQUEST f q s ∧ n = hcSlot f ∧
    w = ((({ s.atTime t with net := { s.net with hostq := q } }.set (F.SLOTn_RXNEXT_SEQ n) (hcAt f 4 4 + 1)).set (F.SLOTn_STAT_SYNCED n) 1).set (F.SLOTn_STAT_LASTPORT n) f.port).setSlot n { s.slotS n with sa := hcSa f } :=
  ⟨hf 0x10 2 0xFFFFFFFF [3] [1, 1, 0, 0, 0x20, 0x10, 0, 0], [], 8, 2, (wH 2 [hf 0x10 2 0xFFFFFFFF [3] [1, 1, 0, 0, 0x20,
    0x10, 0, 0]]), wQ (wH 2 [hf 0x10 2 0xFFFFFFFF [3] [1, 1, 0, 0, 0x20, 0x10, 0, 0]]) (hf 0x10 2 0xFFFFFFFF [3] [1, 1, 0,
    0, 0x20, 0x10, 0, 0]) [] 8 2, (by unfold Serves; decide +kernel), by decide +kernel⟩

theorem met_HostRowsComplete_1 : ∃ (f : RxFrame) (q : List RxFrame) (s : State), Serves htSYNC f q s ∧ hcLen f = 16 :=
  ⟨hf 0x13 3 0 [4] (List.replicate 16 7), [],
    (wH 3 [hf 0x13 3 0 [4] (List.replicate 16 7)]).set (F.SLOTn_STAT_RESETS 3) 255, (by unfold Serves; decide +kernel),
    by decide +kernel⟩

theorem met_HostRowsComplete_2 : ∃ (n : Nat) (t : Nat) (s : State), s.alive = true ∧ n ≤ 5 ∧ s.evtPending n = true ∧
    ((n < 4 → s.get (F.SLOTn_STAT_SYNCED n) = 1)) ∧ ((∀ x,
    (s.slotS n).evtAt = some x → x + s.evtRepeat * uMs ≤ max s.now t)) ∧ s.hostClosed (slotMaster n) = false :=
  ⟨4, 10, ((((wH 4 []).set (F.SLOTn_EVT_EVT 4) 1).set (F.SLOTn_EVT_EN_EN 4) 1).set F.HOST_STAT_MSIX_EN 1),
    by decide +kernel⟩

theorem met_HostRowsComplete_2_0 : ∃ (n : Nat) (t : Nat) (s : State), s.alive = true ∧ n ≤ 5 ∧ s.evtPending n = true ∧
    ((n < 4 → s.get (F.SLOTn_STAT_SYNCED n) = 1)) ∧ ((∀ x,
    (s.slotS n).evtAt = some x → x + s.evtRepeat * uMs ≤ max s.now t)) ∧ s.hostClosed (slotMaster n) = false ∧ n = 4 ∧
    s.get F.HOST_STAT_MSIX_EN = 1 ∧ bitOf (s.host.vector.getD 3 0) 0 = false :=
  ⟨4, 10,
    { ((((wH 4 []).set (F.SLOTn_EVT_EVT 4) 1).set (F.SLOTn_EVT_EN_EN 4) 1).set F.HOST_STAT_MSIX_EN 1) with host := { vector := [0, 0, 0, 0] } },
    by decide +kernel⟩

theorem met_HostRowsComplete_3 : ∃ (m : Nat) (n : Nat) (ack : Bool) (s : State), n < 6 ∧
    Admitted (regWrV m (A.SLOTn_TUNE n) (1 + 2 * ack.toNat)) s :=
  ⟨1, 5, true, (wH 5 []).set (F.SLOTn_EVT_EVT 5) 7, by decide +kernel, admitted_of (by decide +kernel)⟩

theorem met_HostRowsComplete_4 : ∃ (n : Nat) (s : State), s.alive = true ∧ n < 6 ∧ s.tuning n = true :=
  ⟨5, ((wH 5 []).set (F.SLOTn_TUNE_STAT_BUSY 5) 1).setSlot 5 { snap := (wH 5 []).summary 5 }, by decide +kernel⟩

theorem met_HostRowsComplete_5 : ∃ (m : Nat) (n : Nat) (v : Nat) (s : State), n < 6 ∧
    Admitted (regWrV m (A.SLOTn_CTRL n) (withBit (v % 2 ^ 32) 30 true)) s :=
  ⟨1, 5, 0x80000000, ((wH 5 []).set (F.SLOTn_TUNE_STAT_BUSY 5) 1).setSlot 5 { snapAt := 4 }, by decide +kernel,
    admitted_of (by decide +kernel)⟩

theorem met_HostRowsComplete_6 : ∃ (n : Nat), n < 6 :=
  ⟨5, by decide +kernel⟩

theorem met_HostRowsComplete_6_0 : ∃ (m : Nat) (n : Nat) (s : State), n < 6 ∧ Admitted (regWrV m (A.SLOTn_BELL n) 1) s :=
  ⟨0, 5, (wH 5 []), by decide +kernel, admitted_of (by decide +kernel)⟩

theorem met_HostRowsComplete_6_1 : ∃ (m : Nat) (n : Nat) (s : State), n < 6 ∧ Admitted (regWrV m (A.SLOTn_BELL n) 2) s :=
  ⟨0, 5, (wH 5 []), by decide +kernel, admitted_of (by decide +kernel)⟩

theorem met_HostRowsComplete_7 : ∃ (s : State), s.alive = true :=
  ⟨(wH 4 []).set F.HOST_STAT_PCIE_UP 1, by decide +kernel⟩

theorem met_HostRowsComplete_7_0 : ∃ (down : Bool) (s : State), s.alive = true ∧ down = true :=
  ⟨true, (wH 4 []).set F.HOST_STAT_PCIE_UP 1, by decide +kernel⟩

theorem met_HostRowsComplete_7_1 : ∃ (down : Bool) (s : State), s.alive = true ∧ down = false :=
  ⟨false, (wH 4 []).set F.HOST_STAT_PCIE_UP 1, by decide +kernel⟩

theorem met_HostRowsComplete_8 : ∃ (t : Nat) (s : State), s.alive = true ∧ psREADY ≤ (s.atTime t).domains :=
  ⟨0, wR 5, by decide +kernel⟩

/-! SpiRowsComplete -/

theorem met_SpiRowsComplete_0 : ∃ (s : State), s.alive = true :=
  ⟨{ wR 5 with host := { err := true, late := true, tuned := true } }, by decide +kernel⟩

theorem met_SpiRowsComplete_1 : ∃ (s : State), s.alive = true :=
  ⟨wSp.setWord 0x1DFFFFFF8 0x12345678, by decide +kernel⟩

theorem met_SpiRowsComplete_1_0 : ∃ (a : Nat) (n : Nat) (t : Nat) (late : List Nat) (s : State), s.alive = true ∧ n = 1 ∧
    late = [] ∧ WordOpen mHS a false 0 (s.atTime t) :=
  ⟨0x1DFFFFFF8, 1, 7, [], wSp.setWord 0x1DFFFFFF8 0x12345678, by decide +kernel, by decide +kernel, by decide +kernel,
    wordOpen_of (by decide +kernel)⟩

theorem met_SpiRowsComplete_1_1 : ∃ (n : Nat) (late : List Nat) (s : State), s.alive = true ∧ n = 1 ∧ late = [0] :=
  ⟨1, [0], wSp.setWord 0x1DFFFFFF8 0x12345678, by decide +kernel⟩

theorem met_SpiRowsComplete_1_2 : ∃ (a : Nat) (n : Nat) (t : Nat) (late : List Nat) (s : State), s.alive = true ∧ n = 1 ∧
    late = [] ∧ WordOpen mHS a false 0 (s.atTime t) :=
  ⟨0x1DFFFFFF8, 1, 7, [], wSp.setWord 0x1DFFFFFF8 0x12345678, by decide +kernel, by decide +kernel, by decide +kernel,
    wordOpen_of (by decide +kernel)⟩

theorem met_SpiRowsComplete_1_3 : ∃ (n : Nat) (late : List Nat) (s : State), s.alive = true ∧ n = 1 ∧ late = [0] :=
  ⟨1, [0], wSp.setWord 0x1DFFFFFF8 0x12345678, by decide +kernel⟩

theorem met_SpiRowsComplete_2 : ∃ (s : State), s.alive = true :=
  ⟨wSp.setWord 0x1DFFFFFF8 0x12345678, by decide +kernel⟩

theorem met_SpiRowsComplete_3 : ∃ (s : State), s.alive = true ∧ s.hostClosed mHS = false :=
  ⟨{ wH 5 [] with host := { tuned := true } }, by decide +kernel⟩

theorem met_SpiRowsComplete_4 : ∃ (s : State), s.alive = true :=
  ⟨(wH 5 []).set (F.SLOTn_TUNE_STAT_BUSY 5) 1, by decide +kernel⟩

theorem met_SpiRowsComplete_5 : ∃ (t : Nat) (s : State), s.alive = true ∧ s.recovery = true ∧
    s.host.flEnd ≤ max s.now t :=
  ⟨9, wF 255, by decide +kernel⟩

theorem met_SpiRowsComplete_6 : ∃ (a : Nat) (t : Nat) (bs : List Byte) (s : State), s.alive = true ∧ s.recovery = true ∧
    s.host.flEnd ≤ max s.now t ∧ bs ≠ [] ∧ a % 256 + bs.length ≤ 256 ∧ a < flashBytes :=
  ⟨255, 9, [0x3F], wF 255, by decide +kernel, by decide +kernel, by decide +kernel, by decide, by decide,
    flash_low (by decide)⟩

theorem met_SpiRowsComplete_6_0 : ∃ (a : Nat) (t : Nat) (ok : Bool) (bs : List Byte) (s : State), s.alive = true ∧
    s.recovery = true ∧ s.host.flEnd ≤ max s.now t ∧ bs ≠ [] ∧ a % 256 + bs.length ≤ 256 ∧ a < flashBytes ∧ ok = true :=
  ⟨255, 9, true, [0x3F], wF 255, by decide +kernel, by decide +kernel, by decide +kernel, by decide, by decide,
    flash_low (by decide), rfl⟩

theorem met_SpiRowsComplete_7 : ∃ (a : Nat) (t : Nat) (s : State), s.alive = true ∧ s.recovery = true ∧
    s.host.flEnd ≤ max s.now t ∧ a < flashBytes :=
  ⟨0x1FFFF, 9, wF 0x10000, by decide +kernel, by decide +kernel, by decide +kernel, flash_low (by decide)⟩

theorem met_SpiRowsComplete_8 : ∃ (s : State), s.alive = true ∧ s.recovery = true :=
  ⟨{ wF 4 with host := { flEnd := 99, flFail := true } }, by decide +kernel⟩

end Sys2Proof.Machine
end

section
/-!
SUPPORT. The HOST block as masters reach it: which of its registers the fixed rules of R372 open to whom, and what a write, or a
read, of one of them comes to.
-/
namespace Sys2Proof.Machine

/-! ## Where the registers of a slot lie in the block (R372, R376) -/

theorem ctrl_addr (n : Nat) : A.SLOTn_CTRL n = 0x20150000 + (0x400 + 0x400 * n) := by unfold A.SLOTn_CTRL; omega
theorem bell_addr (n : Nat) : A.SLOTn_BELL n = 0x20150000 + (0x420 + 0x400 * n) := by unfold A.SLOTn_BELL; omega
theorem inbox_addr (n j : Nat) : A.SLOTn_INBOX n j = 0x20150000 + (0x600 + 0x400 * n + 4 * j) := by unfold A.SLOTn_INBOX; omega
theorem outbox_addr (n j : Nat) : A.SLOTn_OUTBOX n j = 0x20150000 + (0x700 + 0x400 * n + 4 * j) := by
  unfold A.SLOTn_OUTBOX; omega
theorem summary_addr (n j : Nat) : A.SLOTn_SUMMARY n j = 0x20150000 + (0x2000 + 0x1000 * n + 4 * j) := by
  unfold A.SLOTn_SUMMARY; omega

/-! ## Reaching a register of the block -/

theorem targetOf_host {o : Nat} (ho : o < 0xF000) : targetOf (0x20150000 + o) = some (.reg 21 o) := by
  unfold targetOf
  rw [if_neg (by omega), if_neg (by simp; omega), if_neg (by simp; omega), if_pos (by simp; omega)]
  congr 2 <;> omega

/-- The checks of R356 on an access to offset `o` of HOST that the access table grants come down to the fixed rules of R372. -/
theorem check_host {s : State} {x : Acc1} {o : Nat} (ha : x.a = 0x20150000 + o) (ho : o < 0xF000) (h4 : o % 4 = 0) (hw : x.w = 4)
    (hc : s.hostClosed x.m = false) (hg : s.aclGrants 21 x.m (o / 0x400) x.wr = true) :
    s.check x = if hostFixed o x.m x.wr x.val then .ok else .refused caFIXED := by
  have ht : targetOf x.a = some (.reg 21 o) := ha ▸ targetOf_host ho
  have h4 : x.a % 4 = 0 := by omega
  simp only [State.check, ht, hw, h4, hc, hg, show ¬ 0xF000 ≤ o by omega]
  cases hostFixed o x.m x.wr x.val <;> simp

/-- No register of HOST is closed while the block is neither in reset nor without power. -/
theorem regClosed_host {s : State} {o : Nat} (ho : o < 0xF000) (hr : s.inReset 21 = false) :
    s.regClosed (0x20150000 + o) = false := by
  have hb : (0x20150000 + o - 0x20000000) / 0x10000 = 21 := by omega
  simp only [State.regClosed, hb, hr, Bool.and_false]

theorem exec_registerWrite (m a v : Nat) (s : State) : exec (.registerWrite m a v) s = execRegisterWrite m a v s := rfl
theorem exec_memoryAccess (via : Via) (m a w : Nat) (wr : Bool) (v : Nat) (e : Ecc) (s : State) :
    exec (.memoryAccess via m a w wr v e) s = execMemoryAccess via m a w wr v e s := rfl
theorem exec_bellIn (m n : Nat) (s : State) : exec (.bellIn m n) s = execBellIn m n s := rfl
theorem exec_bellOut (m n : Nat) (s : State) : exec (.bellOut m n) s = execBellOut m n s := rfl

@[simp] theorem State.respond_bus (s : State) (m d : Nat) (e c : Bool) : (s.respond m d e c).bus = ⟨m, d, e, c⟩ := rfl

/-- A write that the checks refuse is recorded as a violation and answered with an error. -/
theorem guardedV_refused {m a v c : Nat} {s : State} (f : State → State) (hserved : s.served m = true)
    (h : s.check (regWrV m a v) = .refused c) :
    guardedV m a v f s = (violation (regWrV m a v) c s).respond m 0 true false := by
  simp only [regWrV] at h ⊢
  simp only [guardedV, hserved, h, Bool.not_true, Bool.false_eq_true, if_false]

/-- The fixed rules alone decide whether a write of a register of HOST whose granule `g` the access table grants is accepted or
refused. -/
theorem hostWrite_decided {m o v g : Nat} {s : State} {p : Prop} [Decidable p] (halive : s.alive = true)
    (hserved : s.served m = true) (hclosed : s.hostClosed m = false) (hreset : s.inReset 21 = false) (ho : o < 0xF000)
    (h4 : o % 4 = 0) (hv : v < 2 ^ 32) (hgran : o / 0x400 = g) (hg : s.aclGrants 21 m g true = true)
    (hp : hostFixed o m true v = true ↔ p) :
    if p then AcceptsWrite m (0x20150000 + o) v s else RefusesWrite m (0x20150000 + o) v s := by
  have ha : (0x20150000 + o) % 2 ^ 32 = 0x20150000 + o := by omega
  have hk : s.check (regWrV m (0x20150000 + o) v) = if hostFixed o m true v then .ok else .refused caFIXED :=
    check_host (by simp only [regWrV, ha]) ho h4 rfl hclosed (hgran ▸ hg)
  have hx : exec (.registerWrite m (0x20150000 + o) v) s
      = done s (guardedV m (0x20150000 + o) v (regWrite m (0x20150000 + o) v) s) := by
    rw [exec_registerWrite, execRegisterWrite, ha, Nat.mod_eq_of_lt hv]
  split <;> rename_i hf
  · rw [if_pos (hp.mpr hf)] at hk
    have had : Admitted (regWrV m (0x20150000 + o) v) s :=
      ⟨halive, hserved, hk, by simpa only [regWrV, ha] using regClosed_host ho hreset⟩
    exact ⟨hk, _, hx.trans (done_alive _ halive), by rw [Answers, sumTick_bus, guardedV_admitted _ had, State.respond_bus]⟩
  · rw [if_neg (mt hp.mp hf)] at hk
    exact ⟨hk, _, hx.trans (done_alive _ halive), by rw [sumTick_bus, guardedV_refused _ hserved hk, State.respond_bus]⟩

/-! ## The fixed rules, register by register (R372) -/

section
variable {n j : Nat} (m v : Nat) (hn : n < 6)
include hn

theorem hostFixed_ctrl : hostFixed (0x400 + 0x400 * n) m true v = true ↔ m ≤ 1 := by
  unfold hostFixed
  rw [if_neg (by decide), if_neg (by simp; omega), if_pos (by simp; omega), if_pos (by omega), decide_eq_true_eq]

theorem hostFixed_bell :
    hostFixed (0x420 + 0x400 * n) m true v = true ↔ m ≤ 1 ∨ (m = slotMaster n ∧ bitOf v 1 = false) := by
  unfold hostFixed
  rw [if_neg (by decide), if_neg (by simp; omega), if_pos (by simp; omega), if_neg (by omega), if_pos (by omega),
    show (0x420 + 0x400 * n) / 0x400 - 1 = n by omega]
  simp

theorem hostFixed_inbox (hj : j < 16) :
    hostFixed (0x600 + 0x400 * n + 4 * j) m true v = true ↔ m ≤ 1 ∨ m = slotMaster n := by
  unfold hostFixed
  rw [if_neg (by decide), if_neg (by simp; omega), if_pos (by simp; omega), if_neg (by omega), if_neg (by omega),
    if_neg (by simp; omega), if_pos (by simp; omega), show (0x600 + 0x400 * n + 4 * j) / 0x400 - 1 = n by omega]
  simp

theorem hostFixed_outbox (hj : j < 16) : hostFixed (0x700 + 0x400 * n + 4 * j) m true v = true ↔ m ≤ 1 := by
  unfold hostFixed
  rw [if_neg (by decide), if_neg (by simp; omega), if_pos (by simp; omega), if_neg (by omega), if_neg (by omega),
    if_pos (by simp; omega), decide_eq_true_eq]

theorem hostFixed_summary (hj : j < 1024) : hostFixed (0x2000 + 0x1000 * n + 4 * j) m true v = true ↔ False := by
  unfold hostFixed
  rw [if_neg (by decide), if_pos (by simp; omega), Bool.false_eq_true]

end

/-! ## Which fields the mailboxes and the summary buffers hold -/

theorem fieldsAt_host {o : Nat} (ho : o < 0xF000) : fieldsAt (0x20150000 + o) = fieldsOfHOST 0 0 o := by
  unfold fieldsAt
  simp only [show (0x20150000 + o) % 0x100000000 = 0x20150000 + o by omega, show (0x20150000 + o) / 0x100000000 = 0 by omega,
    show (0x20150000 + o - 0x20000000) / 0x10000 = 21 by omega, show (0x20150000 + o) % 0x10000 = o by omega]
  rw [if_pos (by simp; omega), if_neg (by omega)]

section
variable {n j : Nat} (hn : n < 6)
include hn

theorem fieldsAt_inbox (hj : j < 16) : fieldsAt (0x20150000 + (0x600 + 0x400 * n + 4 * j)) = [F.SLOTn_INBOX_DATA n j] := by
  rw [fieldsAt_host (by omega)]
  unfold fieldsOfHOST
  split <;> try omega
  iterate 11 rw [if_neg (by simp; omega)]
  rw [if_pos (by simp; omega)]
  congr 2 <;> omega

theorem fieldsAt_outbox (hj : j < 16) : fieldsAt (0x20150000 + (0x700 + 0x400 * n + 4 * j)) = [F.SLOTn_OUTBOX_DATA n j] := by
  rw [fieldsAt_host (by omega)]
  unfold fieldsOfHOST
  split <;> try omega
  iterate 12 rw [if_neg (by simp; omega)]
  rw [if_pos (by simp; omega)]
  congr 2 <;> omega

theorem fieldsAt_summary (hj : j < 1024) : fieldsAt (0x20150000 + (0x2000 + 0x1000 * n + 4 * j)) = [F.SLOTn_SUMMARY n j] := by
  rw [fieldsAt_host (by omega)]
  unfold fieldsOfHOST
  split <;> try omega
  iterate 13 rw [if_neg (by simp; omega)]
  rw [if_pos (by simp; omega)]
  congr 2 <;> omega

end

/-! ## What a write of a register without behaviour of its own does -/

/-- No selector picks among the registers of HOST. -/
theorem bankSel_host {o : Nat} (s : State) (ho : o < 0xF000) : s.bankSel (0x20150000 + o) = some 0 := by
  simp only [State.bankSel, show (0x20150000 + o) / 0x10000 = 0x2015 by omega]

/-- A write of a register of HOST is the block's own, on the state with a latch dropped at most. -/
theorem regWrite_host {o : Nat} (m v : Nat) (s : State) (ho : o < 0xF000) :
    ∃ l, regWrite m (0x20150000 + o) v s = wrHOST (0x20150000 + o) v { s with latch := l } := by
  unfold regWrite
  rw [if_neg (by omega)]
  simp only [bankSel_host s ho, Nat.mul_zero, Nat.add_zero]
  rw [if_neg (by omega)]
  simp only [show (0x20150000 + o) / 0x10000 = 0x2015 by omega]
  split
  · exact ⟨_, rfl⟩
  · exact ⟨s.latch, rfl⟩

/-- From offset 0x28 of a slot on its registers have no behaviour of their own. -/
theorem wrHOST_plain {o : Nat} (v : Nat) (s : State) (ho : o < 0xF000) (hq : 0x28 ≤ o % 0x400) :
    wrHOST (0x20150000 + o) v s = s.writeRegPlain (0x20150000 + o) v := by
  unfold wrHOST
  simp only [show (0x20150000 + o) % 0x10000 = o by omega]
  split
  · rw [if_neg (by omega), if_neg (by omega), if_neg (by omega), if_neg (by simp; omega)]
  · rfl

/-- A register that is one RW field takes the field's bits of the word. -/
theorem writeRegPlain_single {a : Nat} {f : Fd} (v : Nat) (s : State) (hf : fieldsAt a = [f]) (hacc : f.acc = .rw) :
    s.writeRegPlain a v = s.set f (bits f.msb f.lsb v) := by
  simp only [State.writeRegPlain, hf, List.foldl_cons, List.foldl_nil, State.writeField, hacc]

/-! ## What the end of a command keeps -/

/-- A write of a field keeps every other field. -/
theorem keepsFields_set (f : Fd) (v : Nat) (s : State) : KeepsFields [f] s (s.set f v) :=
  fun _ _ hg => State.get_set_other _ _ (hg f List.mem_cons_self)

/-- What a command keeps of the fields is kept when its master is answered and the summary's change counted. -/
theorem keepsFields_sumTick {fs : List Fd} {s w : State} (m d : Nat) (e c : Bool) (h : KeepsFields fs s w) :
    KeepsFields fs s (sumTick s (w.respond m d e c)) :=
  fun f hf hg => by rw [sumTick_get _ _ hf, State.get_respond, h f hf hg]

/-- The same for memory, flash and the waiting commands. -/
theorem keepsStore_sumTick {s w : State} (m d : Nat) (e c : Bool) (h : KeepsStore s w) :
    KeepsStore s (sumTick s (w.respond m d e c)) := by
  simpa only [KeepsStore, sumTick_mem, sumTick_flash, sumTick_pending, State.respond_mem, State.respond_flash,
    State.respond_pending] using h

theorem answers_sumTick (m : Nat) (s w : State) : Answers m (sumTick s (w.respond m 0 false false)) := by
  rw [Answers, sumTick_bus, State.respond_bus]

/-- A field of a slot's registers from offset 0x28 on is none that the summary's generation touches. -/
theorem Fd.quiet_of_mailbox {f : Fd} (hlsb : f.lsb = 0) (h : 0x28 ≤ f.addr % 0x400) : Fd.quiet f = true := by
  simp only [Fd.quiet, sumFields, List.all_cons, List.all_nil, Bool.and_true, Bool.and_eq_true, decide_eq_true_eq]
  simp only [Fd.key, F.HOST_SUMGEN_HI_GEN, F.HOST_SUMGEN_LO_GEN, F.SLOTn_EVT_EVT, A.HOST_SUMGEN_HI, A.HOST_SUMGEN_LO, A.SLOTn_EVT]
  omega

/-- An admitted write of a mailbox word, of which `f` is the field, stores the word in it and does nothing else (R369). -/
theorem mailboxWrite_stores {m o v : Nat} {f : Fd} {s : State} (ho : o < 0xF000) (hq : 0x28 ≤ o % 0x400)
    (hf : fieldsAt (0x20150000 + o) = [f]) (hacc : f.acc = .rw) (hmsb : f.msb = 31) (hlsb : f.lsb = 0) (hquiet : Fd.quiet f = true)
    (h : Admitted (regWrV m (0x20150000 + o) (v % 2 ^ 32)) s) :
    ∃ u, exec (.registerWrite m (0x20150000 + o) v) s = .next u ∧ Answers m u ∧ u.get f = v % 2 ^ 32
      ∧ KeepsFields [f] s u ∧ KeepsStore s u := by
  obtain ⟨l, hl⟩ := regWrite_host m (v % 2 ^ 32) s ho
  rw [wrHOST_plain _ _ ho hq, writeRegPlain_single _ _ hf hacc] at hl
  have hx : exec (.registerWrite m (0x20150000 + o) v) s = .next (sumTick s (State.respond
      (({ s with latch := l } : State).set f (bits f.msb f.lsb (v % 2 ^ 32))) m 0 false false)) := by
    rw [exec_registerWrite, execRegisterWrite, done_alive _ h.alive, guardedV_admitted _ h,
      show (0x20150000 + o) % 2 ^ 32 = 0x20150000 + o by omega, hl]
  refine ⟨_, hx, answers_sumTick .., ?_, keepsFields_sumTick _ _ _ _ (keepsFields_set f _ { s with latch := l }),
    keepsStore_sumTick _ _ _ _ ⟨rfl, rfl, rfl⟩⟩
  rw [sumTick_get _ _ hquiet, State.get_respond, State.get_set_same]
  simp [Fd.width, bits, hmsb, hlsb]

/-! ## Bits of a field -/

theorem bitOf_eq_testBit (v i : Nat) : bitOf v i = v.testBit i := by
  rw [bitOf, Nat.testBit_eq_decide_div_mod_eq]; rfl

/-- A bit set reads as set. -/
theorem bitOf_withBit_same (v i : Nat) : bitOf (withBit v i true) i = true := by
  unfold withBit
  split
  · simpa
  · rename_i h
    simp only [if_true, bitOf_eq_testBit] at h ⊢
    rw [Nat.add_comm, Nat.testBit_two_pow_add_eq]; simpa using h

/-- Setting a bit leaves every lower one alone. -/
theorem bitOf_withBit_of_lt {i j : Nat} (v : Nat) (h : j < i) : bitOf (withBit v i true) j = bitOf v j := by
  unfold withBit
  split
  · rfl
  · simp only [if_true, bitOf_eq_testBit]
    rw [Nat.add_comm, Nat.testBit_two_pow_add_gt h]

/-- Truncation to a field leaves the field's bits alone. -/
theorem bitOf_mod_two_pow {i w : Nat} (v : Nat) (h : i < w) : bitOf (v % 2 ^ w) i = bitOf v i := by
  simp only [bitOf_eq_testBit, Nat.testBit_mod_two_pow, h, decide_true, Bool.true_and]

theorem State.bit_setBit_same {f : Fd} {i : Nat} (s : State) (h : i < Fd.width f) : (s.setBit f i true).bit f i = true := by
  rw [State.bit, State.setBit, State.get_set_same, bitOf_mod_two_pow _ h, bitOf_withBit_same]

theorem State.bit_setBit_of_lt {f : Fd} {i j : Nat} (s : State) (h : j < i) (hi : i < Fd.width f) :
    (s.setBit f i true).bit f j = s.bit f j := by
  rw [State.bit, State.setBit, State.get_set_same, bitOf_mod_two_pow _ (h.trans hi), bitOf_withBit_of_lt _ h]; rfl

/-- A bit that is set already counts once: setting it again only truncates the field. -/
theorem State.get_setBit_of_bit {f : Fd} {i : Nat} {s : State} (h : s.bit f i = true) :
    (s.setBit f i true).get f = s.get f % 2 ^ Fd.width f := by
  rw [State.bit] at h
  rw [State.setBit, State.get_set_same, withBit, if_pos h, if_pos rfl]

/-! ## Slot events -/

theorem Fd.key_evt_ne {k n : Nat} (h : k ≠ n) : Fd.key (F.SLOTn_EVT_EVT n) ≠ Fd.key (F.SLOTn_EVT_EVT k) :=
  Fd.key_ne (by decide : (0 : Nat) < 32) (by decide : (0 : Nat) < 32) (.inl (by simp only [F.SLOTn_EVT_EVT, A.SLOTn_EVT]; omega))

/-- An event in any slot leaves the events of lower number in every slot alone. -/
theorem slotEvt_bit_of_lt {b j : Nat} (k n : Nat) (s : State) (h : j < b) (hb : b < 32) :
    (slotEvt k b s).bit (F.SLOTn_EVT_EVT n) j = s.bit (F.SLOTn_EVT_EVT n) j := by
  by_cases e : k = n
  · subst e
    exact s.bit_setBit_of_lt h hb
  · rw [State.bit, State.bit, slotEvt_get _ _ _ (Fd.key_evt_ne e)]

/-- So does an event in all slots. -/
theorem allEvt_bit_of_lt {b j : Nat} (n : Nat) (s : State) (h : j < b) (hb : b < 32) :
    (allEvt b s).bit (F.SLOTn_EVT_EVT n) j = s.bit (F.SLOTn_EVT_EVT n) j := by
  unfold allEvt
  induction List.range 6 generalizing s with
  | nil => rfl
  | cons k r ih => rw [List.foldl_cons, ih, slotEvt_bit_of_lt _ _ _ h hb]

/-- Counting a change of the summary leaves every slot event below SUMMARY as it was. -/
theorem sumTick_evt_bit {j : Nat} (n : Nat) (s t : State) (h : j < evSUMMARY) :
    (sumTick s t).bit (F.SLOTn_EVT_EVT n) j = t.bit (F.SLOTn_EVT_EVT n) j := by
  have hne : ∀ a, a < A.SLOTn_EVT 0 → Fd.key (F.SLOTn_EVT_EVT n) ≠ a * 32 := by
    intro a ha
    simp only [Fd.key, F.SLOTn_EVT_EVT, A.SLOTn_EVT] at ha ⊢
    omega
  rcases sumTick_cases s t with e | ⟨v, w, e⟩
  · rw [e]
  · rw [e, allEvt_bit_of_lt _ _ h (by decide), State.bit, State.bit,
      State.get_set_other _ _ (hne A.HOST_SUMGEN_LO (by decide)), State.get_set_other _ _ (hne A.HOST_SUMGEN_HI (by decide))]

/-! ## Bells -/

theorem wrBell_in (n : Nat) (s : State) : wrBell n 1 s = s.setBit F.HOST_CC_IRQ_BELL n true := rfl
theorem wrBell_out (n : Nat) (s : State) : wrBell n 2 s = slotEvt n evMBOX s := rfl

/-- BELL.IN sets the slot's bit of HOST_CC_IRQ, and leaves the others as they were where it is set already (R369). -/
theorem bellIn_sets {m n : Nat} {s : State} (hn : n < 6) (h : Admitted (regWrV m (A.SLOTn_BELL n) 1) s) :
    ∃ u, exec (.bellIn m n) s = .next u ∧ Answers m u ∧ u.bit F.HOST_CC_IRQ_BELL n = true
      ∧ (s.bit F.HOST_CC_IRQ_BELL n = true → u.get F.HOST_CC_IRQ_BELL = s.get F.HOST_CC_IRQ_BELL % 2 ^ 6)
      ∧ KeepsFields [F.HOST_CC_IRQ_BELL] s u ∧ KeepsStore s u := by
  have hx : exec (.bellIn m n) s = .next (sumTick s ((s.setBit F.HOST_CC_IRQ_BELL n true).respond m 0 false false)) := by
    rw [exec_bellIn, execBellIn, done_alive _ h.alive, guardedV_admitted _ h, wrBell_in]
  have hget : (sumTick s ((s.setBit F.HOST_CC_IRQ_BELL n true).respond m 0 false false)).get F.HOST_CC_IRQ_BELL
      = (s.setBit F.HOST_CC_IRQ_BELL n true).get F.HOST_CC_IRQ_BELL := by
    rw [sumTick_get _ _ (by decide), State.get_respond]
  refine ⟨_, hx, answers_sumTick .., ?_, fun hb => hget.trans (State.get_setBit_of_bit hb),
    keepsFields_sumTick _ _ _ _ (keepsFields_set _ _ _), keepsStore_sumTick _ _ _ _ ⟨rfl, rfl, rfl⟩⟩
  rw [State.bit, hget]
  exact s.bit_setBit_same hn

/-- The events of a slot are among the fields that the summary's generation touches. -/
theorem Fd.evt_mem_sumFields {n : Nat} (hn : n < 6) : F.SLOTn_EVT_EVT n ∈ sumFields := by
  interval_cases n <;> simp [sumFields]

/-- BELL.OUT sets the slot's MBOX event (R369). -/
theorem bellOut_sets {m n : Nat} {s : State} (hn : n < 6) (h : Admitted (regWrV m (A.SLOTn_BELL n) 2) s) :
    ∃ u, exec (.bellOut m n) s = .next u ∧ Answers m u ∧ u.bit (F.SLOTn_EVT_EVT n) evMBOX = true ∧ KeepsAll s u := by
  have hx : exec (.bellOut m n) s = .next (sumTick s ((slotEvt n evMBOX s).respond m 0 false false)) := by
    rw [exec_bellOut, execBellOut, done_alive _ h.alive, guardedV_admitted _ h, wrBell_out]
  have hkeeps : KeepsFields [] s (slotEvt n evMBOX s) := fun f hf _ =>
    slotEvt_get _ _ _ (of_decide_eq_true (List.all_eq_true.mp hf _ (Fd.evt_mem_sumFields hn)))
  refine ⟨_, hx, answers_sumTick .., ?_, keepsFields_sumTick _ _ _ _ hkeeps, keepsStore_sumTick _ _ _ _ ⟨rfl, rfl, rfl⟩⟩
  rw [sumTick_evt_bit _ _ _ (by decide)]
  exact s.bit_setBit_same (f := F.SLOTn_EVT_EVT n) (by decide : 6 < 32)

/-! ## Reading a summary buffer -/

/-- What an abort leaves written does not touch the answer on the bus. -/
theorem afterAbort_bus (r s : State) : (afterAbort r s).bus = s.bus := by
  unfold afterAbort
  split
  · split <;> rfl
  · rfl

/-- A word of a summary buffer that no latch holds reads as the buffer has it, and the read changes nothing. -/
theorem regRead_summary {n j : Nat} (m : Nat) (s : State) (hn : n < 6) (hj : j < 1024)
    (hl : mget 0 (0x20150000 + (0x2000 + 0x1000 * n + 4 * j)) s.latch = 0) :
    regRead m (0x20150000 + (0x2000 + 0x1000 * n + 4 * j)) s = (s.get (F.SLOTn_SUMMARY n j), s) := by
  have hfld := fieldsAt_summary hn hj
  generalize ho : 0x2000 + 0x1000 * n + 4 * j = o at hl hfld ⊢
  have hb : (0x20150000 + o) / 0x10000 = 0x2015 := by omega
  have hw : s.regWord m (0x20150000 + o) = s.get (F.SLOTn_SUMMARY n j) := by
    simp only [State.regWord, show (0x20150000 + o) % 2 ^ 32 = 0x20150000 + o by omega, hb, hfld]
    simp [State.wordOf, F.SLOTn_SUMMARY]
  have hlat : latchedBy (0x20150000 + o) = [] := by
    simp only [latchedBy, hb]
    rw [if_neg (by omega)]
  unfold regRead
  simp only [bankSel_host s (show o < 0xF000 by omega), Nat.mul_zero, Nat.add_zero, hl, hw, hlat, List.foldl_nil]
  rw [if_neg (by simp [A.FCU_REC0]; omega), if_neg (by simp; omega), if_neg (by simp; omega),
    if_neg (by simp [A.DISP_TBT_DATA1]; omega)]

/-- A read of a node that takes commands ends as any command does: HALT serves reads only once the clocks have stopped. -/
theorem doneRead_alive {m a : Nat} {s : State} (t : State) (h : s.alive = true) : doneRead m a s t = .next (sumTick s t) := by
  have hstop : s.fcu.stopped = false := by
    simp only [State.alive, Bool.and_eq_true, Bool.not_eq_true'] at h
    exact h.1.2
  rw [doneRead, if_neg (by simp [State.haltServes, hstop]), done_alive t h]

/-- A read of HOST that the access table grants and no reset closes answers what the register shows. -/
theorem hostRead_answers {m o g d : Nat} {s : State} (halive : s.alive = true) (hserved : s.served m = true)
    (hclosed : s.hostClosed m = false) (hreset : s.inReset 21 = false) (ho : o < 0xF000) (h4 : o % 4 = 0)
    (hgran : o / 0x400 = g) (hg : s.aclGrants 21 m g false = true) (hd : (regRead m (0x20150000 + o) s).1 = d) :
    ∃ u, exec (.memoryAccess .fabric m (0x20150000 + o) 4 false 0 .clean) s = .next u
      ∧ u.bus = ⟨m, d, false, false⟩ := by
  have ha : (0x20150000 + o) % 2 ^ 40 = 0x20150000 + o := by omega
  have hk : s.check { m := m, a := 0x20150000 + o, w := 4, wr := false, val := 0 } = .ok :=
    (check_host rfl ho h4 rfl hclosed (hgran ▸ hg)).trans (if_pos rfl)
  have hx : exec (.memoryAccess .fabric m (0x20150000 + o) 4 false 0 .clean) s
      = .next (sumTick s (access { m := m, a := 0x20150000 + o, w := 4, wr := false, val := 0 } 0 .clean s)) := by
    rw [exec_memoryAccess, execMemoryAccess, if_pos (by decide), doneRead_alive _ halive, memAccess, ha]; rfl
  refine ⟨_, hx, ?_⟩
  rw [sumTick_bus, access, afterAbort_bus, access1]
  simp only [hserved, hk, hd, targetOf_host ho, regClosed_host ho hreset, Bool.not_true, Bool.false_eq_true, if_false,
    State.respond_bus]

end Sys2Proof.Machine
end

section
open Sys2Proof Sys2Proof.Machine

/-- Settles O59: the mailbox words are plain registers, and a bell sets one bit, which counting the summary's change keeps. -/
theorem mailboxesAndBells : Obligations.MailboxesAndBells := by
  intro m n s hn
  refine ⟨fun j v hj h => ?_, fun j v hj h => ?_, bellIn_sets hn, bellOut_sets hn⟩
  · have hquiet : Fd.quiet (F.SLOTn_INBOX_DATA n j) = true :=
      Fd.quiet_of_mailbox rfl (by simp only [F.SLOTn_INBOX_DATA, inbox_addr]; omega)
    rw [inbox_addr] at h ⊢
    exact mailboxWrite_stores (by omega) (by omega) (fieldsAt_inbox hn hj) rfl rfl rfl hquiet h
  · have hquiet : Fd.quiet (F.SLOTn_OUTBOX_DATA n j) = true :=
      Fd.quiet_of_mailbox rfl (by simp only [F.SLOTn_OUTBOX_DATA, outbox_addr]; omega)
    rw [outbox_addr] at h ⊢
    exact mailboxWrite_stores (by omega) (by omega) (fieldsAt_outbox hn hj) rfl rfl rfl hquiet h

/-- Settles O60: what the access table grants, the fixed rules of R372 decide, register by register. -/
theorem slotRegistersHaveTheirWriters : Obligations.SlotRegistersHaveTheirWriters := by
  intro m n s _ hn halive hserved hclosed hreset
  constructor
  · intro j hj
    rw [summary_addr]
    refine ⟨by omega, fun hg hl => ?_, fun v hv hg => ?_⟩
    · exact hostRead_answers halive hserved hclosed hreset (by omega) (by omega) (by omega) hg
        (by rw [regRead_summary m s hn hj hl])
    · have h := hostWrite_decided halive hserved hclosed hreset (by omega) (by omega) hv (by omega) hg
        (hostFixed_summary m v hn hj)
      rwa [if_neg not_false] at h
  · intro hg
    have decided : ∀ {o v : Nat} {p : Prop} [Decidable p], o / 0x400 = n + 1 → o % 4 = 0 → v < 2 ^ 32 →
        (hostFixed o m true v = true ↔ p) →
        if p then AcceptsWrite m (0x20150000 + o) v s else RefusesWrite m (0x20150000 + o) v s :=
      fun ho h4 hv hp => hostWrite_decided halive hserved hclosed hreset (by omega) h4 hv ho hg hp
    refine ⟨fun v hv => ?_, fun j v hj hv => ?_, fun v hv hb => ?_, fun j v hj hv => ?_, fun v hv hb => ?_⟩
    · rw [ctrl_addr]
      exact decided (by omega) (by omega) hv (hostFixed_ctrl m v hn)
    · rw [outbox_addr]
      exact decided (by omega) (by omega) hv (hostFixed_outbox m v hn hj)
    · rw [bell_addr]
      exact decided (by omega) (by omega) hv ((hostFixed_bell m v hn).trans (by simp [hb]))
    · rw [inbox_addr]
      exact decided (by omega) (by omega) hv (hostFixed_inbox m v hn hj)
    · rw [bell_addr]
      exact decided (by omega) (by omega) hv ((hostFixed_bell m v hn).trans (by simp [hb]))

end

section
/-!
SUPPORT. Encoding and decoding of reed instructions (R73–R78), and the ends of commands.
-/
namespace Sys2Proof.Machine

/-! ## Encoding and decoding -/

/-- The word of a well-formed instruction carries its OP. -/
theorem opOf_encode {o : ReedOp} (h : o.wf = true) : opOf o.encode = o.code.1 := by
  cases o
  case ld y _ _ _ _ _ _ | st y _ _ _ _ _ _ | sta y _ _ _ _ _ =>
    simp only [ReedOp.wf, Bool.and_eq_true, decide_eq_true_eq] at h
    cases y <;> simp only [opOf, bits, ReedOp.encode, ReedOp.code, Bool.false_eq_true, if_true, if_false] <;> omega
  all_goals
    simp only [ReedOp.wf, Bool.and_eq_true, decide_eq_true_eq] at h
    simp only [opOf, bits, ReedOp.encode, ReedOp.code]
    omega

/-- The word of a well-formed instruction has 32 bits. -/
theorem encode_lt {o : ReedOp} (h : o.wf = true) : o.encode < 2 ^ 32 := by
  cases o
  case ld y _ _ _ _ _ _ | st y _ _ _ _ _ _ | sta y _ _ _ _ _ =>
    simp only [ReedOp.wf, Bool.and_eq_true, decide_eq_true_eq] at h
    cases y <;> simp only [ReedOp.encode, Bool.false_eq_true, if_true, if_false] <;> omega
  all_goals
    simp only [ReedOp.wf, Bool.and_eq_true, decide_eq_true_eq] at h
    simp only [ReedOp.encode]
    omega

/-- The fields of an instruction's word are the instruction's operands: the OP tells the instruction, and each operand stands
alone in its bits. -/
theorem reedFields_encode {o : ReedOp} (h : o.wf = true) : reedFields o.encode = some o := by
  have hop := opOf_encode h
  unfold reedFields
  cases o
  case nop | tend | rti => rw [hop]; rfl
  case ld y _ _ _ _ _ _ | st y _ _ _ _ _ _ | sta y _ _ _ _ _ =>
    cases y <;>
      simp only [ReedOp.wf, Bool.and_eq_true, decide_eq_true_eq] at h <;>
      simp only [hop, ReedOp.code, Bool.false_eq_true, if_true, if_false, Option.some.injEq, ReedOp.ld.injEq, ReedOp.st.injEq,
        ReedOp.sta.injEq, true_and] <;>
      simp only [bits, ReedOp.encode, Bool.false_eq_true, if_true, if_false] <;>
      omega
  all_goals
    simp only [ReedOp.wf, Bool.and_eq_true, decide_eq_true_eq] at h
    rw [hop]
    simp only [ReedOp.code, Option.some.injEq, ReedOp.b.injEq, ReedOp.bc.injEq, ReedOp.call.injEq, ReedOp.jr.injEq,
      ReedOp.loop.injEq, ReedOp.loopr.injEq, ReedOp.trap.injEq, ReedOp.mvs.injEq, ReedOp.mfs.injEq, ReedOp.mvi.injEq,
      ReedOp.alu.injEq, ReedOp.addi.injEq, ReedOp.ldi.injEq, ReedOp.shi.injEq, ReedOp.mul.injEq, ReedOp.dmul.injEq,
      ReedOp.mulm.injEq, ReedOp.dmulm.injEq, ReedOp.ftap.injEq, ReedOp.ftap2.injEq, ReedOp.acc.injEq, ReedOp.trd.injEq,
      ReedOp.twr.injEq, bits, ReedOp.encode]
    omega

/-! ## Every command ends in a next state -/

/-- However a read ends, a next state follows. -/
theorem doneRead_next (m a : Nat) (s t : State) : ∃ u, doneRead m a s t = .next u := by
  unfold doneRead
  split <;> exact ⟨_, rfl⟩

/-- So it does however a command of the SPI target ends. -/
theorem doneSpi_next (n : Nat) (s t : State) : ∃ u, doneSpi n s t = .next u := by
  unfold doneSpi
  split <;> exact ⟨_, rfl⟩

/-- Every command has a next state: most end in one shared way, the others choose among such ends. -/
theorem exec_next (c : Instr) (s : State) : ∃ u, exec c s = .next u := by
  cases c
  case pairLowRead | recordRead => exact doneRead_next ..
  case status | spiRead | qread | flashRead | flashStatus => exact doneSpi_next ..
  case memoryAccess =>
    simp only [exec, execMemoryAccess]
    split
    · exact doneRead_next ..
    · exact ⟨_, rfl⟩
  case dispStopped => simp only [exec, execDispStopped]; split <;> exact ⟨_, rfl⟩
  case zcTimeout => simp only [exec, execZcTimeout]; split <;> exact ⟨_, rfl⟩
  case moduleInsert => simp only [exec, execModuleInsert]; split <;> exact ⟨_, rfl⟩
  case delayXfadeEnd => simp only [exec, execDelayXfadeEnd]; split <;> exact ⟨_, rfl⟩
  case delayLate =>
    simp only [exec, execDelayLate]
    repeat' split
    all_goals exact ⟨_, rfl⟩
  case instanceStart =>
    simp only [exec, execInstanceStart]
    repeat' split
    all_goals exact ⟨_, rfl⟩
  case deadlineMiss =>
    simp only [exec, execDeadlineMiss]
    repeat' split
    all_goals exact ⟨_, rfl⟩
  case handoverBulkDone =>
    simp only [exec, execHandoverBulkDone]
    repeat' split
    all_goals exact ⟨_, rfl⟩
  case handoverCatchupDone =>
    simp only [exec, execHandoverCatchupDone]
    repeat' split
    all_goals exact ⟨_, rfl⟩
  case handoverSwitch =>
    simp only [exec, execHandoverSwitch]
    repeat' split
    all_goals exact ⟨_, rfl⟩
  case fenceRampOut =>
    simp only [exec, execFenceRampOut]
    repeat' split
    all_goals exact ⟨_, rfl⟩
  all_goals exact ⟨_, rfl⟩

/-- A node whose boot comes to the oscillator check next, with commands `q` waiting. -/
def atXoCheck (q : List Instr) : State := { State.reset with sys := { boot := .xo }, pending := q }

/-- It takes no commands, and a STATUS of the SPI target does not rouse it. -/
theorem dormant_atXoCheck : Dormant (atXoCheck [.status 0]) := .inr ⟨by decide, by decide⟩

/-- The target answers the STATUS with a byte of 0 bits (R413). -/
theorem step_atXoCheck : step (atXoCheck [.status 0]) = .next (spiOut [0] (atXoCheck [])) := rfl

end Sys2Proof.Machine
end

section
open Sys2Proof Sys2Proof.Machine

/-- Settles O57: decoding takes the word's fields, which are the operands, and checks what encoding gives. -/
theorem reedDecodeOfEncode : Obligations.ReedDecodeOfEncode := fun o h =>
  ⟨encode_lt h, by simp only [reedDecode, reedFields_encode h, h, beq_self_eq_true, Bool.and_self, if_true]⟩

/-- Refutes O58: before the SPI target serves commands, a STATUS that waits shifts its answer out as 0 (R413), which changes what
the target holds, though no command that waits is one that rouses the node. -/
theorem not_dormantNodeHoldsStill : ¬ Obligations.DormantNodeHoldsStill := by
  intro h
  obtain ⟨-, -, hsame⟩ := h _ _ dormant_atXoCheck step_atXoCheck
  have hout : ([0] : List Byte) = [] := congrArg (fun u : State => u.host.out) hsame
  cases hout

/-- Settles O53. -/
theorem stepRunsFrontCommand : Obligations.StepRunsFrontCommand := fun c l s h => by simp only [step, h]

/-- Settles O54. -/
theorem idleStepPassesTime : Obligations.IdleStepPassesTime := fun s h =>
  ⟨idle s, by simp only [step, h], rfl, fun _ _ _ => rfl, rfl, rfl, rfl⟩

/-- Settles O55. -/
theorem everyCommandCompletes : Obligations.EveryCommandCompletes := exec_next

/-- Settles O56: nothing is listed after reset, and no rail has come up. -/
theorem resetLeavesResetValues : Obligations.ResetLeavesResetValues := by
  refine ⟨by decide, rfl, fun _ => rfl, fun a ha => ?_, fun _ => rfl, by decide, rfl, .inr ⟨by decide, nofun⟩⟩
  rw [State.byte, if_neg (by omega)]
  rfl
end

section
/-!
SUPPORT. What the effects of the reed rows write and what they leave: the frame of an effect, and one fetch in the open as its
effect leaves the core and the node (R63–R90).
-/
namespace Sys2Proof.Machine

/-! ## The frame of an effect -/

/-- The effect from `r` to `q` writes places of `locs` only, and of the core nothing but its writes in flight and its stores. -/
structure Rx.Frame (locs : List Nat) (r q : Rx) : Prop where
  p    : q.p = r.p
  c    : q.c = r.c
  dbl  : q.dbl = r.dbl
  pc   : q.x.pc = r.x.pc
  cyc  : q.x.cyc = r.x.cyc
  slot : q.x.slot = r.x.slot
  yext : q.x.yext = r.x.yext
  rd   : ∀ loc n, loc ∉ locs → q.x.rd loc n = r.x.rd loc n

theorem Rx.Frame.refl (r : Rx) : Rx.Frame [] r r := ⟨rfl, rfl, rfl, rfl, rfl, rfl, rfl, fun _ _ _ => rfl⟩

theorem Rx.Frame.trans {l m : List Nat} {r q t : Rx} (h : Rx.Frame l r q) (k : Rx.Frame m q t) : Rx.Frame (l ++ m) r t where
  p := k.p.trans h.p
  c := k.c.trans h.c
  dbl := k.dbl.trans h.dbl
  pc := k.pc.trans h.pc
  cyc := k.cyc.trans h.cyc
  slot := k.slot.trans h.slot
  yext := k.yext.trans h.yext
  rd loc n hn := by
    rw [List.mem_append, not_or] at hn
    rw [k.rd loc n hn.2, h.rd loc n hn.1]

theorem Rx.Frame.mono {l m : List Nat} {r q : Rx} (h : Rx.Frame l r q) (hlm : ∀ x ∈ l, x ∈ m) : Rx.Frame m r q :=
  { h with rd := fun loc n hn => h.rd loc n fun hl => hn (hlm loc hl) }

theorem Rx.frame_wr (r : Rx) (l k : Nat) (v : Int) : Rx.Frame [l] r (r.wr l k v) :=
  ⟨rfl, rfl, rfl, rfl, rfl, rfl, rfl, fun _ n hn => r.wr_other k n v fun e => hn (by simp [e])⟩

theorem Rx.frame_setSat (r : Rx) (b : Bool) : Rx.Frame (if b then [locSAT] else []) r (r.setSat b) := by
  cases b
  · exact .refl r
  · exact r.frame_wr ..

theorem Rx.frame_stw (r : Rx) (y : Bool) (w v : Nat) : Rx.Frame [] r (r.stw y w v) :=
  ⟨rfl, rfl, rfl, rfl, rfl, rfl, rfl, fun _ _ _ => rfl⟩

@[simp] theorem Rx.setSat_s (r : Rx) (b : Bool) : (r.setSat b).s = r.s := by cases b <;> rfl

/-! ## One fetch in the open as its effect leaves the core and the node -/

/-- What one fetch of a row leaves whose effect `q` has a frame: the core as the effect leaves it, going on to the next index. -/
theorem reed_runs {p : Nat} {o : ReedOp} {s : State} {locs : List Nat} (h : Ready p o s) (eff : ReedOp → Rx → Rx)
    (hf : Rx.Frame locs (s.rxAt p) (eff o (s.rxAt p))) (hfld : (eff o (s.rxAt p)).s.fld = s.fld) :
    ∃ u, done s (fetchOne p .clean (rowIs o.code.1 o.code.2) eff s) = .next u ∧ u.coreS p = (eff o (s.rxAt p)).x
      ∧ u.mem = (eff o (s.rxAt p)).s.mem ∧ u.flash = (eff o (s.rxAt p)).s.flash ∧ u.pending = (eff o (s.rxAt p)).s.pending
      ∧ KeepsRegs p locs s u ∧ Advances p s u ∧ KeepsFields [] s u := by
  obtain ⟨u, hu, hx, hq, hm, hfl, hp⟩ := reed_row_next h eff hf.dbl (hf.yext.trans h.noWait)
  refine ⟨u, hu, hx, hm, hfl, hp, fun loc n hn => ?_, ?_, fun f hf _ => (hq f hf).trans (State.get_congr hfld f)⟩
  · rw [hx, hf.rd loc n hn, rxAt_rd]
  · rw [Advances, hx]
    exact ⟨hf.pc, hf.cyc, hf.slot⟩

/-- The same for an effect that leaves the node alone. -/
theorem reed_keeps {p : Nat} {o : ReedOp} {s : State} {locs : List Nat} (h : Ready p o s) (eff : ReedOp → Rx → Rx)
    (hf : Rx.Frame locs (s.rxAt p) (eff o (s.rxAt p))) (hs : (eff o (s.rxAt p)).s = s) :
    ∃ u, done s (fetchOne p .clean (rowIs o.code.1 o.code.2) eff s) = .next u ∧ u.coreS p = (eff o (s.rxAt p)).x
      ∧ KeepsRegs p locs s u ∧ Advances p s u ∧ KeepsFields [] s u ∧ KeepsStore s u := by
  obtain ⟨u, hu, hx, hm, hfl, hp, hr, ha, hk⟩ := reed_runs h eff hf (by rw [hs])
  rw [hs] at hm hfl hp
  exact ⟨u, hu, hx, hr, ha, hk, hm, hfl, hp⟩

/-- An instruction that a core fetches is well-formed. -/
theorem Ready.wf {p : Nat} {o : ReedOp} {s : State} (h : Ready p o s) : o.wf = true := (reedDecode_some h.decodes).2.1

/-! ## Results of MAC1 -/

/-- A data register lies apart from the sticky flags. -/
theorem locD_ne_locSAT {n : Nat} (h : n < 16) : locD n ≠ locSAT := by simp only [locD, locSAT]; omega

/-- What the ALU form leaves: the result in Dd one cycle on, and SAT where it saturated. -/
theorem resultForm_reads (r : Rx) (k dd : Nat) (v : AluR) (hdd : dd < 16) :
    ((r.wr (locD dd) k v.val).setSat v.sat).x.rd (locD dd) (r.c + k + 1) = v.val
      ∧ (v.sat = true → ((r.wr (locD dd) k v.val).setSat v.sat).x.rd locSAT (r.c + 6) = 1)
      ∧ Rx.Frame (if v.sat then [locD dd, locSAT] else [locD dd]) r ((r.wr (locD dd) k v.val).setSat v.sat) := by
  have hwr := Rx.wr_same r (locD dd) k _ v.val rfl
  cases v.sat
  · exact ⟨hwr, nofun, Rx.frame_wr ..⟩
  · refine ⟨?_, fun _ => Rx.wr_same _ _ 5 _ _ rfl, (Rx.frame_wr r _ k _).trans (Rx.frame_setSat _ true)⟩
    rw [Rx.setSat, if_pos rfl, Rx.wr_other _ _ _ _ (locD_ne_locSAT hdd).symm, hwr]

/-- A row whose effect is a result into Dd with SAT. -/
theorem reed_result {p k dd : Nat} {o : ReedOp} {s : State} {v : AluR} (h : Ready p o s) (eff : ReedOp → Rx → Rx) (hdd : dd < 16)
    (he : eff o (s.rxAt p) = ((s.rxAt p).wr (locD dd) k v.val).setSat v.sat) :
    ∃ u, done s (fetchOne p .clean (rowIs o.code.1 o.code.2) eff s) = .next u
      ∧ u.regNext s p (locD dd) (k + 1) = v.val ∧ (v.sat = true → u.regNext s p locSAT 6 = 1)
      ∧ KeepsRegs p (if v.sat then [locD dd, locSAT] else [locD dd]) s u
      ∧ Advances p s u ∧ KeepsFields [] s u ∧ KeepsStore s u := by
  obtain ⟨hv, hsat, hf⟩ := resultForm_reads (s.rxAt p) k dd v hdd
  obtain ⟨u, hu, hx, hr, ha, hk, hst⟩ := reed_keeps h eff (he ▸ hf) (by rw [he, Rx.setSat_s, Rx.wr_s, rxAt_s])
  refine ⟨u, hu, ?_, fun hs => ?_, hr, ha, hk, hst⟩
  · rw [State.regNext, hx, he]; exact hv
  · rw [State.regNext, hx, he]; exact hsat hs

/-- A row that writes one place leaves it with the value, and everything else alone. -/
theorem reed_write {p k loc : Nat} {v : Int} {o : ReedOp} {s : State} (h : Ready p o s) (eff : ReedOp → Rx → Rx)
    (he : eff o (s.rxAt p) = (s.rxAt p).wr loc k v) :
    ∃ u, done s (fetchOne p .clean (rowIs o.code.1 o.code.2) eff s) = .next u ∧ u.regNext s p loc (k + 1) = v
      ∧ KeepsRegs p [loc] s u ∧ Advances p s u ∧ KeepsFields [] s u ∧ KeepsStore s u := by
  obtain ⟨u, hu, hx, rest⟩ := reed_keeps h eff (he ▸ Rx.frame_wr ..) (by rw [he, Rx.wr_s, rxAt_s])
  exact ⟨u, hu, by rw [State.regNext, hx, he]; exact Rx.wr_same _ _ _ _ _ rfl, rest⟩

/-- Every ALU row fetches its function code and has its result's effect. -/
theorem exec_of_mem_aluRows {f : Nat} {row : Nat → Ecc → Instr} {g : Nat → Nat → AluR} (h : (f, row, g) ∈ aluRows) (p : Nat)
    (s : State) : exec (row p .clean) s = done s (fetchOne p .clean (rowIs 0x10 f) (aluEff g) s) := by
  simp only [aluRows, List.mem_cons, Prod.mk.injEq, List.not_mem_nil, or_false] at h
  rcases h with ⟨rfl, rfl, rfl⟩ | ⟨rfl, rfl, rfl⟩ | ⟨rfl, rfl, rfl⟩ | ⟨rfl, rfl, rfl⟩ | ⟨rfl, rfl, rfl⟩ | ⟨rfl, rfl, rfl⟩
    | ⟨rfl, rfl, rfl⟩ | ⟨rfl, rfl, rfl⟩ | ⟨rfl, rfl, rfl⟩ | ⟨rfl, rfl, rfl⟩ | ⟨rfl, rfl, rfl⟩ | ⟨rfl, rfl, rfl⟩
    | ⟨rfl, rfl, rfl⟩ | ⟨rfl, rfl, rfl⟩ <;> rfl

/-- So does every row of the shift-immediate OP. -/
theorem exec_of_mem_shiRows {f : Nat} {row : Nat → Ecc → Instr} {g : Nat → Nat → AluR} (h : (f, row, g) ∈ shiRows) (p : Nat)
    (s : State) : exec (row p .clean) s = done s (fetchOne p .clean (rowIs 0x13 f) (shiEff g) s) := by
  simp only [shiRows, List.mem_cons, Prod.mk.injEq, List.not_mem_nil, or_false] at h
  rcases h with ⟨rfl, rfl, rfl⟩ | ⟨rfl, rfl, rfl⟩ | ⟨rfl, rfl, rfl⟩ | ⟨rfl, rfl, rfl⟩ <;> rfl

/-! ## Branches and endings -/

/-- A row that opens delay slots leaves the core's places as its writes left them. -/
theorem reed_opens {p : Nat} {o : ReedOp} {s : State} {locs : List Nat} {k : SlotKind} {tgt : Option Nat} {q : Rx} (h : Ready p o s)
    (eff : ReedOp → Rx → Rx) (he : eff o (s.rxAt p) = q.slots k tgt) (hf : Rx.Frame locs (s.rxAt p) q) (hs : q.s = s) :
    ∃ u, done s (fetchOne p .clean (rowIs o.code.1 o.code.2) eff s) = .next u ∧ Opens p k tgt s u
      ∧ (∀ loc n, (u.coreS p).rd loc n = q.x.rd loc n) ∧ KeepsRegs p locs s u ∧ KeepsFields [] s u ∧ KeepsStore s u := by
  obtain ⟨u, hu, hx, hq, hm, hfl, hp⟩ := reed_row_next h eff (by rw [he]; exact hf.dbl) (by rw [he]; exact hf.yext.trans h.noWait)
  have hes : (eff o (s.rxAt p)).s = s := by rw [he]; exact hs
  rw [hes] at hq hm hfl hp
  rw [he] at hx
  refine ⟨u, hu, ?_, fun loc n => by rw [hx]; rfl, fun loc n hn => ?_, fun f hf _ => hq f hf, hm, hfl, hp⟩
  · rw [Opens, hx]
    exact ⟨hf.pc, hf.cyc, rfl⟩
  · rw [hx]; exact hf.rd loc n hn

end Sys2Proof.Machine
end

section
open Sys2Proof Sys2Proof.Machine

/-- Settles O1: each row has the effect of the ALU form, which writes Dd in MAC1 and SAT where the result saturates. -/
theorem aluRowsComplete : Obligations.AluRowsComplete := by
  intro f row g hrow p dd ds dt s h
  have hdd : dd < 16 := by
    have := h.wf
    simp only [ReedOp.wf, Bool.and_eq_true, decide_eq_true_eq] at this
    omega
  rw [exec_of_mem_aluRows hrow]
  exact reed_result h (aluEff g) hdd rfl

/-- Settles O2: ADDI and LDI write one register, the shifts have the form of the ALU rows. -/
theorem immediateRowsComplete : Obligations.ImmediateRowsComplete := by
  refine ⟨fun p dd ds i s h => ?_, fun p dd hi i s h => ?_, fun f row g hrow p dd ds n s h => ?_⟩
  · have he : effAddi (.addi dd ds i) (s.rxAt p)
        = (s.rxAt p).wr (locD dd) 4 (ux 32 ((s.dAt p ds 4 : Int) + ux 32 (sx 16 i)) : Nat) := rfl
    exact (reed_write h effAddi he :)
  · refine reed_write h effLdi ?_
    simp only [effLdi, beq_iff_eq]
    congr 1
    split <;> rfl
  · have hdd : dd < 16 := by
      have := h.wf
      simp only [ReedOp.wf, Bool.and_eq_true, decide_eq_true_eq] at this
      omega
    rw [exec_of_mem_shiRows hrow]
    exact reed_result h (shiEff g) hdd rfl

/-- Settles O3: NOP has no effect, and every other row opens two slots, CALL over one write of D15. -/
theorem controlRowsComplete : Obligations.ControlRowsComplete := by
  have bare : ∀ {p : Nat} {o : ReedOp} {s : State} {k : SlotKind} {tgt : Option Nat} (eff : ReedOp → Rx → Rx), Ready p o s →
      eff o (s.rxAt p) = (s.rxAt p).slots k tgt →
      ∃ u, done s (fetchOne p .clean (rowIs o.code.1 o.code.2) eff s) = .next u ∧ Opens p k tgt s u
        ∧ KeepsRegs p [] s u ∧ KeepsFields [] s u ∧ KeepsStore s u := by
    intro p o s k tgt eff h he
    obtain ⟨u, hu, ho, -, rest⟩ := reed_opens h eff he (.refl _) rfl
    exact ⟨u, hu, ho, rest⟩
  refine ⟨fun p s h => ?_, fun p t s h => (bare effB h rfl :), fun p ds c t s h => (bare effBc h rfl :), fun p t s h => ?_,
    fun p ds s h => (bare effJr h rfl :), fun p s h => (bare effTend h rfl :), fun p s h => (bare effRti h rfl :)⟩
  · obtain ⟨u, hu, -, rest⟩ := reed_keeps h effNop (.refl _) rfl
    exact ⟨u, hu, rest⟩
  · obtain ⟨u, hu, ho, hr, rest⟩ := reed_opens h effCall rfl (Rx.frame_wr ..) rfl
    exact ⟨u, hu, ho, by rw [State.regNext, hr]; exact Rx.wr_same _ _ _ _ _ rfl, rest⟩
end

section
/-!
SUPPORT. Loops, ILLEGAL and TRAP as their effects leave the core (R73, R76, R81–R86).
-/
namespace Sys2Proof.Machine

/-! ## Loop registers -/

theorem Rx.wrFwd_same (r : Rx) (l k n : Nat) (v : Int) (h : n = r.c + k + 1) : (r.wrFwd l k v).x.rd l n = v :=
  CoreS.rd_append_same r.x ⟨l, r.c + k, v, none, true⟩ n h.symm

theorem Rx.wrFwd_other (r : Rx) {l m : Nat} (k n : Nat) (v : Int) (h : l ≠ m) : (r.wrFwd l k v).x.rd m n = r.x.rd m n :=
  CoreS.rd_append_other r.x n h

theorem Rx.frame_wrFwd (r : Rx) (l k : Nat) (v : Int) : Rx.Frame [l] r (r.wrFwd l k v) :=
  ⟨rfl, rfl, rfl, rfl, rfl, rfl, rfl, fun _ n hn => r.wrFwd_other k n v fun e => hn (by simp [e])⟩

/-- The three registers of loop level `l` take start, end and count. -/
def Rx.loopRegs (r : Rx) (l n fin : Nat) : Rx :=
  ((r.wrFwd (locS (srLS l)) 1 ((r.idx + 1) % 8192 : Nat)).wrFwd (locS (srLE l)) 1 fin).wrFwd (locS (srLC l)) 1 n

theorem Rx.loopTo_of_lt {r : Rx} (l n : Nat) {fin : Nat} (h : r.idx < fin) :
    r.loopTo l n fin = if n = 0 then { r.loopRegs l n fin with
      x := { (r.loopRegs l n fin).x with pc := (fin + 1) % 8192, cyc := (r.loopRegs l n fin).x.cyc + 1 } } else r.loopRegs l n fin := by
  simp only [Rx.loopTo, if_neg (Nat.not_le.mpr h), beq_iff_eq]
  rfl

theorem Rx.loopTo_of_le {r : Rx} (l n : Nat) {fin : Nat} (h : fin ≤ r.idx) : r.loopTo l n fin = r.raise 1 0 none := by
  rw [Rx.loopTo, if_pos h]

theorem Rx.frame_loopRegs (r : Rx) (l n fin : Nat) :
    Rx.Frame [locS (srLS l), locS (srLE l), locS (srLC l)] r (r.loopRegs l n fin) :=
  ((r.frame_wrFwd ..).trans (Rx.frame_wrFwd ..)).trans (Rx.frame_wrFwd ..)

theorem Rx.loopRegs_start (r : Rx) (l n fin : Nat) :
    (r.loopRegs l n fin).x.rd (locS (srLS l)) (r.c + 2) = ((r.idx + 1) % 8192 : Nat) := by
  rw [Rx.loopRegs, Rx.wrFwd_other _ _ _ _ (by simp only [locS, srLS, srLC]; omega),
    Rx.wrFwd_other _ _ _ _ (by simp only [locS, srLS, srLE]; omega), Rx.wrFwd_same _ _ _ _ _ rfl]

theorem Rx.loopRegs_end (r : Rx) (l n fin : Nat) : (r.loopRegs l n fin).x.rd (locS (srLE l)) (r.c + 2) = fin := by
  rw [Rx.loopRegs, Rx.wrFwd_other _ _ _ _ (by simp only [locS, srLE, srLC]; omega)]
  exact Rx.wrFwd_same _ _ _ _ _ rfl

theorem Rx.loopRegs_count (r : Rx) (l n fin : Nat) : (r.loopRegs l n fin).x.rd (locS (srLC l)) (r.c + 2) = n :=
  Rx.wrFwd_same _ _ _ _ _ rfl

/-- A row that sets up a loop whose end lies behind it. -/
theorem reed_loops {p l n fin : Nat} {o : ReedOp} {s : State} (h : Ready p o s) (eff : ReedOp → Rx → Rx)
    (he : eff o (s.rxAt p) = (s.rxAt p).loopTo l n fin) (hfin : (s.coreS p).pc < fin) :
    ∃ u, done s (fetchOne p .clean (rowIs o.code.1 o.code.2) eff s) = .next u ∧ Loops p l n fin s u := by
  rw [Rx.loopTo_of_lt l n (show (s.rxAt p).idx < fin from hfin)] at he
  have hf := (s.rxAt p).frame_loopRegs l n fin
  have hrest : (eff o (s.rxAt p)).s = s ∧ (eff o (s.rxAt p)).dbl = false ∧ (eff o (s.rxAt p)).x.yext = []
      ∧ (∀ loc m, (eff o (s.rxAt p)).x.rd loc m = ((s.rxAt p).loopRegs l n fin).x.rd loc m)
      ∧ (eff o (s.rxAt p)).x.pc = (if n = 0 then (fin + 1) % 8192 else ((s.coreS p).pc + 1) % 8192)
      ∧ (eff o (s.rxAt p)).x.cyc = (s.coreS p).cyc + (if n = 0 then 2 else 1) ∧ (eff o (s.rxAt p)).x.slot = none := by
    rw [he]
    split <;> exact ⟨rfl, rfl, h.noWait, fun _ _ => rfl, rfl, rfl, rfl⟩
  obtain ⟨hs, hdbl, hyext, hrd, hpc, hcyc, hslot⟩ := hrest
  obtain ⟨u, hu, hx, hq, hm, hfl, hp⟩ := reed_row_next h eff hdbl hyext
  rw [hs] at hq hm hfl hp
  have hread : ∀ loc m, (u.coreS p).rd loc m = ((s.rxAt p).loopRegs l n fin).x.rd loc m := fun loc m => by rw [hx, hrd]
  refine ⟨u, hu, ?_, ?_, ?_, hx ▸ hpc, hx ▸ hcyc, hx ▸ hslot, fun loc m hm => ?_, fun f hf _ => hq f hf, hm, hfl, hp⟩
  · rw [State.regNext, hread]; exact Rx.loopRegs_start ..
  · rw [State.regNext, hread]; exact Rx.loopRegs_end ..
  · rw [State.regNext, hread]; exact Rx.loopRegs_count ..
  · rw [hread, hf.rd loc m hm, rxAt_rd]

/-! ## Causes -/

/-- A core that fetches in the open has no cause waiting. -/
theorem Ready.noPend {p : Nat} {o : ReedOp} {s : State} (h : Ready p o s) : (s.coreS p).pend = none := by
  have hr := h.runs
  simp only [CoreS.fetches, h.open_, CoreS.entryDue, Bool.and_eq_true, Option.isSome_none, Bool.false_or, Bool.not_eq_true',
    Bool.or_eq_false_iff] at hr
  simpa using hr.2.1

/-- An ILLEGAL in the open with interrupts enabled makes cause 1 wait and notes its index. -/
theorem Rx.raise_illegal {r : Rx} (hIE : r.rd locIE 1 ≠ 0) (hp : r.x.pend = none) :
    r.raise 1 0 none = { r with s := r.noteErr.s.set (F.RC_FLAGS_ILL r.p) 1,
                                x := { r.x with pend := some ⟨1, 0, some r.idx, false, false⟩ } } := by
  simp [Rx.raise, hIE, hp, Rx.noteErr]

/-- A TRAP in the open with interrupts enabled makes cause 2 wait with its code. -/
theorem Rx.raise_trap {r : Rx} (c : Nat) (hIE : r.rd locIE 1 ≠ 0) (hp : r.x.pend = none) :
    r.raise 2 c none = { r with x := { r.x with pend := some ⟨2, c, some ((r.idx + 1) % 8192), false, false⟩ } } := by
  simp [Rx.raise, hIE, hp]

/-- A row that is ILLEGAL with interrupts enabled. -/
theorem reed_illegal {p : Nat} {o : ReedOp} {s : State} (h : Ready p o s) (eff : ReedOp → Rx → Rx)
    (he : eff o (s.rxAt p) = (s.rxAt p).raise 1 0 none) (hIE : s.regAt p locIE 1 ≠ 0) :
    ∃ u, done s (fetchOne p .clean (rowIs o.code.1 o.code.2) eff s) = .next u ∧ Illegal p (s.coreS p).pc s u := by
  rw [Rx.raise_illegal (r := s.rxAt p) hIE h.noPend] at he
  obtain ⟨u, hu, hx, hq, hm, hfl, hp⟩ := reed_row_next h eff (by rw [he]; rfl) (by rw [he]; exact h.noWait)
  rw [he] at hx hq hm hfl hp
  have hill : ∀ {f : Fd}, f = F.RC_ERR_ERRIDX p ∨ f = F.RC_ERR_TASKIDX p → Fd.key f ≠ Fd.key (F.RC_FLAGS_ILL p) := by
    rintro f (rfl | rfl) <;>
      simp only [Fd.key, F.RC_ERR_ERRIDX, F.RC_ERR_TASKIDX, F.RC_FLAGS_ILL, A.RC_ERR, A.RC_FLAGS] <;> omega
  have hquiet : ∀ {f : Fd}, f.lsb < 32 → 0x40000000 ≤ f.addr → Fd.quiet f = true :=
    fun hl ha => Fd.quiet_of_block hl (.inr (by omega))
  refine ⟨u, hu, by rw [hx]; rfl, ?_, ?_, fun loc n _ => by rw [hx]; rfl, fun f hf hg => ?_, hm, hfl, hp⟩
  · rw [hq _ (hquiet (by decide : 10 < 32) (by simp only [F.RC_FLAGS_ILL, A.RC_FLAGS]; omega))]
    exact State.get_set_same ..
  · exact (hq _ (hquiet (by decide : 0 < 32) (by simp only [F.RC_ERR_ERRIDX, A.RC_ERR]; omega))).trans
      ((State.get_set_other _ _ (hill (.inl rfl))).trans (State.get_set_same ..))
  · simp only [List.mem_cons, List.not_mem_nil, or_false, forall_eq_or_imp, forall_eq] at hg
    obtain ⟨h1, h2, h3⟩ := hg
    exact (hq f hf).trans ((State.get_set_other _ _ h1).trans
      ((State.get_set_other _ _ h2).trans (State.get_set_other _ _ h3)))

end Sys2Proof.Machine
end

section
open Sys2Proof Sys2Proof.Machine

/-- Settles O4: a loop whose end lies behind it sets up its level, any other is ILLEGAL; TRAP waits as a cause. -/
theorem loopRowsComplete : Obligations.LoopRowsComplete := by
  refine ⟨fun p l n e s h => ⟨fun he => (reed_loops h effLoop rfl he :), fun he hIE => ?_⟩,
    fun p l ds e s h => ⟨fun he => (reed_loops h effLoopr rfl he :), fun he hIE => ?_⟩, fun p c s h hIE => ?_⟩
  · exact (reed_illegal h effLoop (Rx.loopTo_of_le l n he) hIE :)
  · exact (reed_illegal h effLoopr (Rx.loopTo_of_le l _ he) hIE :)
  · have he : effTrap (.trap c) (s.rxAt p) = _ := Rx.raise_trap (r := s.rxAt p) c hIE h.noPend
    have hf : Rx.Frame [] (s.rxAt p) (effTrap (.trap c) (s.rxAt p)) := by
      rw [he]; exact ⟨rfl, rfl, rfl, rfl, rfl, rfl, rfl, fun _ _ _ => rfl⟩
    obtain ⟨u, hu, hx, rest⟩ := reed_keeps h effTrap hf (by rw [he]; rfl)
    exact ⟨u, hu, by rw [hx, he]; rfl, rest⟩
end

section
/-!
SUPPORT. Special registers and accumulators as the effects of their rows leave them (R65, R69–R72).
-/
namespace Sys2Proof.Machine

/-! ## Signed numbers and the range of an accumulator (R3, R70) -/

theorem sx_bounds {w : Nat} (hw : 0 < w) (v : Nat) : smin w ≤ sx w v ∧ sx w v ≤ smax w := by
  obtain ⟨k, rfl⟩ := Nat.exists_eq_add_of_lt hw
  have hlt : v % 2 ^ (0 + k + 1) < 2 * 2 ^ (0 + k) := by rw [← Nat.pow_succ']; exact Nat.mod_lt _ (by positivity)
  simp only [smin, smax, sx, Nat.add_sub_cancel]
  rw [show 2 ^ (0 + k + 1) = 2 * 2 ^ (0 + k) from Nat.pow_succ'] at hlt ⊢
  generalize 2 ^ (0 + k) = m at hlt ⊢
  generalize v % (2 * m) = x at hlt ⊢
  split <;> omega

theorem ux_sx {w v : Nat} (h : v < 2 ^ w) : ux w (sx w v) = v := by
  simp only [ux, sx, Nat.mod_eq_of_lt h]
  generalize 2 ^ w = m at h ⊢
  split
  · rw [Int.emod_eq_of_lt (by omega) (by omega)]; simp
  · rw [Int.sub_emod_right, Int.emod_eq_of_lt (by omega) (by omega)]; simp

theorem satS_of_bounds {w : Nat} {x : Int} (h : smin w ≤ x ∧ x ≤ smax w) : satS w x = x := by
  rw [satS, if_neg (by omega), if_neg (by omega)]

/-- A 72-bit pattern lies within the range of an accumulator. -/
theorem accSat_sx (v : Nat) : accSat (sx 72 v) = (sx 72 v, false) := by
  simp [accSat, satS_of_bounds (sx_bounds (w := 72) (by decide) v)]

theorem ux_lt (w : Nat) (x : Int) : ux w x < 2 ^ w := by
  have h1 := Int.emod_lt_of_pos x (show (0 : Int) < ((2 ^ w : Nat) : Int) by positivity)
  have h2 := Int.emod_nonneg x (show ((2 ^ w : Nat) : Int) ≠ 0 by positivity)
  simp only [ux]
  omega

/-! ## Accumulators (R70) -/

/-- What a product `v` makes of the value `old` of its accumulator (R75). -/
def MacFn.sum (f : MacFn) (old v : Int) : Int :=
  match f with | .mpy => v | .mac => old + v | .msu => old - v

/-- What a product row does with accumulator `n` and product `v`, from `r` to `q` (R69, R70). -/
def Rx.Meets (f : MacFn) (n : Nat) (v : Int) (r q : Rx) : Prop :=
  let x := f.sum (r.rd (locA n) 5) v
  if f ≠ .mpy ∧ r.rd (locACT n) 5 ≠ 0 then q.x.rd (locA n) (r.c + 6) = r.rd (locA n) 6
  else q.x.rd (locA n) (r.c + 6) = (accSat x).1
    ∧ ((accSat x).2 = true → q.x.rd (locACT n) (r.c + 6) = 1 ∧ q.x.rd (locASAT n) (r.c + 6) = 1)
    ∧ (f = .mpy → (accSat x).2 = false → q.x.rd (locACT n) (r.c + 6) = 0)

/-- In the open this is what the statements say of an accumulator. -/
theorem accAfter_of_meets {p n : Nat} {f : MacFn} {v : Int} {s u : State} {q : Rx} (hx : u.coreS p = q.x)
    (h : Rx.Meets f n v (s.rxAt p) q) : AccAfter p f n v s u := by
  simp only [AccAfter, State.regNext, hx]
  cases f <;> exact h

/-- Writes of other places behind it do not touch what an accumulator met. -/
theorem Rx.Meets.behind {f : MacFn} {n : Nat} {v : Int} {r q t : Rx} {locs : List Nat} (h : Rx.Meets f n v r q)
    (hf : Rx.Frame locs q t) (hn : ∀ l ∈ accLocs n, l ∉ locs) : Rx.Meets f n v r t := by
  simp only [accLocs, List.mem_cons, List.not_mem_nil, or_false, forall_eq_or_imp, forall_eq] at hn
  obtain ⟨h1, h2, h3⟩ := hn
  simpa only [Rx.Meets, hf.rd _ _ h1, hf.rd _ _ h2, hf.rd _ _ h3] using h

/-- Nor do writes of other places before it. -/
theorem Rx.Meets.before {f : MacFn} {n : Nat} {v : Int} {r q t : Rx} {locs : List Nat} (h : Rx.Meets f n v q t)
    (hf : Rx.Frame locs r q) (hn : ∀ l ∈ accLocs n, l ∉ locs) : Rx.Meets f n v r t := by
  simp only [accLocs, List.mem_cons, List.not_mem_nil, or_false, forall_eq_or_imp, forall_eq] at hn
  obtain ⟨h1, h2, -⟩ := hn
  have hA : ∀ k, q.rd (locA n) k = r.rd (locA n) k := fun k => by rw [Rx.rd, hf.rd _ _ h1, hf.c]; rfl
  have hACT : q.rd (locACT n) 5 = r.rd (locACT n) 5 := by rw [Rx.rd, hf.rd _ _ h2, hf.c]; rfl
  unfold Rx.Meets at h
  rw [hA, hA, hACT, hf.c] at h
  exact h

theorem locACT_ne_locA (n : Nat) : locACT n ≠ locA n := by simp only [locACT, locA]; omega
theorem locASAT_ne_locA (n : Nat) : locASAT n ≠ locA n := by simp only [locASAT, locA]; omega
theorem locASAT_ne_locACT (n : Nat) : locASAT n ≠ locACT n := by simp only [locASAT, locACT]; omega

/-- A start without saturation writes the accumulator and takes ACT back. -/
theorem Rx.accStart_within {r : Rx} {n : Nat} {v : Int} (h : (accSat v).2 = false) :
    r.accStart n v = (r.wr (locA n) 5 (accSat v).1).wr (locACT n) 5 0 := by
  simp [Rx.accStart, h]

theorem Rx.accStart_beyond {r : Rx} {n : Nat} {v : Int} (h : (accSat v).2 = true) :
    r.accStart n v = ((r.wr (locA n) 5 (accSat v).1).wr (locACT n) 5 1).wr (locASAT n) 5 1 := by
  simp [Rx.accStart, h]

theorem Rx.accAdd_beyond_before {r : Rx} {n : Nat} (v : Int) (h : r.rd (locACT n) 5 ≠ 0) : r.accAdd n v = r := by
  simp [Rx.accAdd, h]

theorem Rx.accAdd_within {r : Rx} {n : Nat} {v : Int} (h : r.rd (locACT n) 5 = 0) (hs : (accSat (r.rd (locA n) 5 + v)).2 = false) :
    r.accAdd n v = r.wr (locA n) 5 (accSat (r.rd (locA n) 5 + v)).1 := by
  simp [Rx.accAdd, h, hs]

theorem Rx.accAdd_beyond {r : Rx} {n : Nat} {v : Int} (h : r.rd (locACT n) 5 = 0) (hs : (accSat (r.rd (locA n) 5 + v)).2 = true) :
    r.accAdd n v = ((r.wr (locA n) 5 (accSat (r.rd (locA n) 5 + v)).1).wr (locACT n) 5 1).wr (locASAT n) 5 1 := by
  simp [Rx.accAdd, h, hs]

theorem Rx.frame_accStart (r : Rx) (n : Nat) (v : Int) : Rx.Frame (accLocs n) r (r.accStart n v) := by
  cases h : (accSat v).2
  · rw [Rx.accStart_within h]
    exact ((r.frame_wr ..).trans (Rx.frame_wr ..)).mono (by simp [accLocs])
  · rw [Rx.accStart_beyond h]
    exact ((r.frame_wr ..).trans (Rx.frame_wr ..)).trans (Rx.frame_wr ..)

theorem Rx.frame_accAdd (r : Rx) (n : Nat) (v : Int) : Rx.Frame (accLocs n) r (r.accAdd n v) := by
  by_cases ha : r.rd (locACT n) 5 = 0
  · cases h : (accSat (r.rd (locA n) 5 + v)).2
    · rw [Rx.accAdd_within ha h]
      exact (r.frame_wr ..).mono (by simp [accLocs])
    · rw [Rx.accAdd_beyond ha h]
      exact ((r.frame_wr ..).trans (Rx.frame_wr ..)).trans (Rx.frame_wr ..)
  · rw [Rx.accAdd_beyond_before v ha]
    exact (Rx.Frame.refl r).mono (by simp)

@[simp] theorem Rx.accStart_s (r : Rx) (n : Nat) (v : Int) : (r.accStart n v).s = r.s := by
  simp only [Rx.accStart]
  split <;> rfl

@[simp] theorem Rx.accAdd_s (r : Rx) (n : Nat) (v : Int) : (r.accAdd n v).s = r.s := by
  simp only [Rx.accAdd]
  split
  · rfl
  · split <;> rfl

/-- The three places of an accumulator that saturated, as the next stage reads them. -/
theorem Rx.saturated_reads (r : Rx) (n : Nat) (a : Int) :
    let q := ((r.wr (locA n) 5 a).wr (locACT n) 5 1).wr (locASAT n) 5 1
    q.x.rd (locA n) (r.c + 6) = a ∧ q.x.rd (locACT n) (r.c + 6) = 1 ∧ q.x.rd (locASAT n) (r.c + 6) = 1 := by
  refine ⟨?_, ?_, Rx.wr_same _ _ _ _ _ rfl⟩
  · rw [Rx.wr_other _ _ _ _ (locASAT_ne_locA n), Rx.wr_other _ _ _ _ (locACT_ne_locA n), Rx.wr_same _ _ _ _ _ rfl]
  · rw [Rx.wr_other _ _ _ _ (locASAT_ne_locACT n)]
    exact Rx.wr_same _ _ _ _ _ rfl

/-- A start meets its accumulator as a product of form MPY does. -/
theorem Rx.accStart_meets (r : Rx) (n : Nat) (v : Int) : Rx.Meets .mpy n v r (r.accStart n v) := by
  rw [Rx.Meets, if_neg (by simp)]
  simp only [MacFn.sum]
  cases h : (accSat v).2
  · rw [Rx.accStart_within h]
    refine ⟨?_, nofun, fun _ _ => Rx.wr_same _ _ _ _ _ rfl⟩
    rw [Rx.wr_other _ _ _ _ (locACT_ne_locA n), Rx.wr_same _ _ _ _ _ rfl]
  · rw [Rx.accStart_beyond h]
    obtain ⟨h1, h2, h3⟩ := r.saturated_reads n (accSat v).1
    exact ⟨h1, fun _ => ⟨h2, h3⟩, nofun⟩

/-- An accumulation of `v`, which a product adds or, negated, subtracts. -/
theorem Rx.accAdd_meets (r : Rx) (n : Nat) {f : MacFn} {v w : Int} (hf : f = .mac ∧ w = v ∨ f = .msu ∧ w = -v) :
    Rx.Meets f n v r (r.accAdd n w) := by
  have hne : f ≠ .mpy := by rcases hf with ⟨rfl, -⟩ | ⟨rfl, -⟩ <;> decide
  have hx : f.sum (r.rd (locA n) 5) v = r.rd (locA n) 5 + w := by
    rcases hf with ⟨rfl, rfl⟩ | ⟨rfl, rfl⟩
    · rfl
    · exact Int.sub_eq_add_neg
  unfold Rx.Meets
  rw [hx]
  by_cases ha : r.rd (locACT n) 5 = 0
  · rw [if_neg (by simp [ha])]
    cases h : (accSat (r.rd (locA n) 5 + w)).2
    · rw [Rx.accAdd_within ha h]
      exact ⟨Rx.wr_same _ _ _ _ _ rfl, nofun, fun e => absurd e hne⟩
    · rw [Rx.accAdd_beyond ha h]
      obtain ⟨h1, h2, h3⟩ := r.saturated_reads n (accSat (r.rd (locA n) 5 + w)).1
      exact ⟨h1, fun _ => ⟨h2, h3⟩, fun e => absurd e hne⟩
  · rw [if_pos ⟨hne, ha⟩, Rx.accAdd_beyond_before w ha]
    rfl

/-- A product meets its accumulator. -/
theorem Rx.mac_meets (r : Rx) (f : MacFn) (n : Nat) (v : Int) : Rx.Meets f n v r (r.mac f n v) := by
  cases f
  · exact r.accStart_meets n v
  · exact r.accAdd_meets n (.inl ⟨rfl, rfl⟩)
  · exact r.accAdd_meets n (.inr ⟨rfl, rfl⟩)

theorem Rx.frame_mac (r : Rx) (f : MacFn) (n : Nat) (v : Int) : Rx.Frame (accLocs n) r (r.mac f n v) := by
  cases f
  · exact r.frame_accStart n v
  · exact r.frame_accAdd n v
  · exact r.frame_accAdd n (-v)

@[simp] theorem Rx.mac_s (r : Rx) (f : MacFn) (n : Nat) (v : Int) : (r.mac f n v).s = r.s := by
  cases f <;> simp [Rx.mac]

/-- A row whose effect is that one accumulator meets a value. -/
theorem reed_meets {p n : Nat} {f : MacFn} {v : Int} {o : ReedOp} {s : State} (h : Ready p o s) (eff : ReedOp → Rx → Rx)
    (he : Rx.Meets f n v (s.rxAt p) (eff o (s.rxAt p))) (hf : Rx.Frame (accLocs n) (s.rxAt p) (eff o (s.rxAt p)))
    (hs : (eff o (s.rxAt p)).s = s) :
    ∃ u, done s (fetchOne p .clean (rowIs o.code.1 o.code.2) eff s) = .next u ∧ AccAfter p f n v s u
      ∧ KeepsRegs p (accLocs n) s u ∧ Advances p s u ∧ KeepsFields [] s u ∧ KeepsStore s u := by
  obtain ⟨u, hu, hx, rest⟩ := reed_keeps h eff hf hs
  exact ⟨u, hu, accAfter_of_meets hx he, rest⟩

/-- A row that starts an accumulator. -/
theorem reed_accStart {p n : Nat} {v : Int} {o : ReedOp} {s : State} (h : Ready p o s) (eff : ReedOp → Rx → Rx)
    (he : eff o (s.rxAt p) = (s.rxAt p).accStart n v) :
    ∃ u, done s (fetchOne p .clean (rowIs o.code.1 o.code.2) eff s) = .next u ∧ AccAfter p .mpy n v s u
      ∧ KeepsRegs p (accLocs n) s u ∧ Advances p s u ∧ KeepsFields [] s u ∧ KeepsStore s u :=
  reed_meets h eff (he ▸ Rx.accStart_meets ..) (he ▸ Rx.frame_accStart ..) (he ▸ Rx.accStart_s ..)

/-! ## Special registers (R65, R72, R76) -/

/-- Writes of places that differ: each reads back, and nothing else changes. -/
theorem Rx.wrAll_reads (l : List (Nat × Int)) (r : Rx) (hl : (l.map (fun e => e.1)).Nodup) :
    Rx.Frame (l.map (fun e => e.1)) r (l.foldl (fun q e => q.wr e.1 5 e.2) r)
      ∧ (∀ e ∈ l, (l.foldl (fun q e => q.wr e.1 5 e.2) r).x.rd e.1 (r.c + 6) = e.2)
      ∧ (l.foldl (fun q e => q.wr e.1 5 e.2) r).s = r.s := by
  induction l generalizing r with
  | nil => exact ⟨.refl r, nofun, rfl⟩
  | cons e l ih =>
    rw [List.map_cons, List.nodup_cons] at hl
    obtain ⟨hf, hv, hs⟩ := ih (r.wr e.1 5 e.2) hl.2
    refine ⟨(r.frame_wr ..).trans hf, fun d hd => ?_, hs⟩
    rcases List.mem_cons.mp hd with rfl | hd
    · exact (hf.rd _ _ hl.1).trans (Rx.wr_same _ _ _ _ _ rfl)
    · exact hv d hd

theorem cstatPlaces_nodup (v : Nat) : ((cstatPlaces v).map (fun e => e.1)).Nodup :=
  show ([30, 29, 28, 23, 22, 21, 20, 27, 26, 25, 24] : List Nat).Nodup by decide

/-- The accumulator with the part of special register `k` replaced by `v`. -/
def accPart (k a v : Nat) : Nat :=
  match (k - 0x30) % 3 with
  | 0 => a / 2 ^ 32 * 2 ^ 32 + v % 2 ^ 32
  | 1 => a / 2 ^ 64 * 2 ^ 64 + v % 2 ^ 32 * 2 ^ 32 + a % 2 ^ 32
  | _ => v % 256 * 2 ^ 64 + a % 2 ^ 64

theorem accPart_lt (k v : Nat) {a : Nat} (h : a < 2 ^ 72) : accPart k a v < 2 ^ 72 := by
  unfold accPart
  split <;> omega

/-- A write of a part of an accumulator never saturates. -/
theorem Rx.wrSreg_acc {r : Rx} {k : Nat} (v : Nat) (h : sregAcc k = true) :
    r.wrSreg k v = (r.wr (locA ((k - 0x30) / 3)) 5 (sx 72 (accPart k (ux 72 (r.rd (locA ((k - 0x30) / 3)) 5)) v))).wr
      (locACT ((k - 0x30) / 3)) 5 0 := by
  have hs : r.wrSreg k v = r.accStart ((k - 0x30) / 3) (sx 72 (accPart k (ux 72 (r.rd (locA ((k - 0x30) / 3)) 5)) v)) := by
    rw [Rx.wrSreg, if_pos h]; rfl
  rw [hs, Rx.accStart_within (by rw [accSat_sx]), accSat_sx]

theorem Rx.wrSreg_cstat (r : Rx) (v : Nat) : r.wrSreg srCSTAT v = (cstatPlaces v).foldl (fun q e => q.wr e.1 5 e.2) r := rfl

theorem Rx.wrSreg_plain {r : Rx} {k : Nat} (v : Nat) (h : sregAcc k = false) (hk : k ≠ srCSTAT) :
    r.wrSreg k v = r.wr (locS k) 2 (sregStore k v : Nat) := by
  simp [Rx.wrSreg, h, hk]

/-- A row that writes a special register: a part of an accumulator, CSTAT, or a register of its own. -/
theorem reed_writesSreg {p k v : Nat} {o : ReedOp} {s : State} (h : Ready p o s) (eff : ReedOp → Rx → Rx)
    (he : eff o (s.rxAt p) = (s.rxAt p).wrSreg k v) :
    ∃ u, done s (fetchOne p .clean (rowIs o.code.1 o.code.2) eff s) = .next u ∧ WritesSreg p k v s u
      ∧ Advances p s u ∧ KeepsFields [] s u ∧ KeepsStore s u := by
  cases hacc : sregAcc k with
  | true =>
    have hk : k ≠ srCSTAT := by rintro rfl; exact absurd hacc (by decide)
    rw [Rx.wrSreg_acc v hacc] at he
    obtain ⟨u, hu, hx, hr, rest⟩ := reed_keeps h eff (he ▸ (Rx.frame_wr ..).trans (Rx.frame_wr ..)) (by rw [he]; rfl)
    refine ⟨u, hu, ⟨fun e => absurd hacc (by simp [e]), fun e => absurd e hk, fun _ => ⟨?_, ?_, hr⟩⟩, rest⟩
    · rw [State.regNext, hx, he, Rx.wr_other _ _ _ _ (locACT_ne_locA _),
        Rx.wr_same _ _ 5 _ _ (show (s.coreS p).cyc + 6 = (s.rxAt p).c + 5 + 1 from rfl), ux_sx (accPart_lt k v (ux_lt 72 _))]
      rfl
    · rw [State.regNext, hx, he]
      exact Rx.wr_same _ _ _ _ _ rfl
  | false =>
    by_cases hk : k = srCSTAT
    · subst hk
      obtain ⟨hf, hv, hs⟩ := Rx.wrAll_reads (cstatPlaces v) (s.rxAt p) (cstatPlaces_nodup v)
      rw [Rx.wrSreg_cstat] at he
      obtain ⟨u, hu, hx, hr, rest⟩ := reed_keeps h eff (he ▸ hf) (he ▸ hs)
      refine ⟨u, hu, ⟨fun _ e => absurd rfl e, fun _ => ⟨fun e hm => ?_, hr⟩, fun e => absurd hacc (by simp [e])⟩, rest⟩
      rw [State.regNext, hx, he]
      exact hv e hm
    · rw [Rx.wrSreg_plain v hacc hk] at he
      obtain ⟨u, hu, hv, hr, rest⟩ := reed_write h eff he
      exact ⟨u, hu, ⟨fun _ _ => ⟨hv, hr⟩, fun e => absurd e hk, fun e => absurd hacc (by simp [e])⟩, rest⟩

/-- MFS reads what the statements call the value of a special register. -/
theorem rdSreg_rxAt (s : State) (p k : Nat) : (s.rxAt p).rdSreg k = sregValue p k s := by
  unfold Rx.rdSreg sregValue
  simp only [beq_iff_eq]
  rfl

end Sys2Proof.Machine
end

section
open Sys2Proof Sys2Proof.Machine

/-- Settles O5: MVS and MVI are writes of a special register, MFS writes Dd with one. -/
theorem specialRegisterRowsComplete : Obligations.SpecialRegisterRowsComplete := by
  refine ⟨fun p k ds s h => (reed_writesSreg h effMvs rfl :), fun p k i s h => (reed_writesSreg h effMvi rfl :),
    fun p dd k s h => ?_⟩
  have he : effMfs (.mfs dd k) (s.rxAt p) = (s.rxAt p).wr (locD dd) 3 (sregValue p k s : Nat) := by
    rw [← rdSreg_rxAt]; rfl
  exact (reed_write h effMfs he :)

/-- Settles O10: each row starts an accumulator or accumulates into it, and RND has the form of the ALU rows. -/
theorem accumulatorRowsComplete : Obligations.AccumulatorRowsComplete := by
  refine ⟨fun p ad s h => (reed_accStart (n := ad) (v := 0) h effClra rfl :), fun p ad as s h => ?_,
    fun p ad as s h => ?_, fun p ad as s h => ?_, fun p ad as sh s h => ?_, fun p as dn s h => ?_,
    fun p ad dn s h => (reed_accStart (n := ad) (v := sx 32 (s.dAt p dn 4) * ((2 ^ 31 : Nat) : Int)) h effLda rfl :)⟩
  · exact (reed_accStart (n := ad) (v := s.regAt p (locA as) 4) h effMova rfl :)
  · exact (reed_meets (f := .mac) (v := s.regAt p (locA as) 4) h effAdda (Rx.accAdd_meets _ _ (.inl ⟨rfl, rfl⟩)) (Rx.frame_accAdd ..) (Rx.accAdd_s ..) :)
  · exact (reed_meets (f := .msu) (v := s.regAt p (locA as) 4) h effSuba (Rx.accAdd_meets _ _ (.inr ⟨rfl, rfl⟩)) (Rx.frame_accAdd ..) (Rx.accAdd_s ..) :)
  · have hsh : accShift (s.regAt p (locA as) 4) (sx 6 sh)
        = if sx 6 sh < 0 then s.regAt p (locA as) 4 / ((2 ^ (-(sx 6 sh)).toNat : Nat) : Int)
          else s.regAt p (locA as) 4 * ((2 ^ (sx 6 sh).toNat : Nat) : Int) := by
      rw [accShift]
      split <;> rename_i hn
      · rw [if_neg (by omega)]
      · rw [if_pos (by omega)]
    obtain ⟨u, hu, hacc, rest⟩ := reed_accStart (n := ad) (v := accShift (s.regAt p (locA as) 4) (sx 6 sh)) h effAccsh rfl
    exact ⟨u, hu, hsh ▸ hacc, rest⟩
  · have hdn : dn < 16 := by
      have := h.wf
      simp only [ReedOp.wf, Bool.and_eq_true, decide_eq_true_eq] at this
      omega
    obtain ⟨u, hu, hv, hs, hr, rest⟩ := reed_result (v := accRound (s.regAt p (locA as) 4)) (k := 5) h effRnd hdn rfl
    refine ⟨u, hu, hv, hs, fun loc n hn => hr loc n fun hm => hn ?_, rest⟩
    split at hm
    · exact hm
    · rw [List.mem_singleton] at hm
      rw [hm]
      exact List.mem_cons_self
end

section
/-!
SUPPORT. Pointers, loads and stores as the effects of their rows leave them (R63, R67, R68, R76).
-/
namespace Sys2Proof.Machine

/-! ## Stores -/

theorem State.byte_congr {s t : State} (h : s.mem = t.mem) (x : Nat) : s.byte x = t.byte x := by
  unfold State.byte; rw [h]

theorem State.setBytes_mem_congr {s t : State} (h : s.mem = t.mem) (a : Nat) (bs : List Byte) :
    (s.setBytes a bs).mem = (t.setBytes a bs).mem := by
  induction bs generalizing s t a with
  | nil => exact h
  | cons b r ih => exact ih (by simp only [State.setByte, h]) _

theorem State.setBytes_only (s : State) (a : Nat) (bs : List Byte) : ∃ m, s.setBytes a bs = { s with mem := m } := by
  induction bs generalizing s a with
  | nil => exact ⟨s.mem, rfl⟩
  | cons b r ih =>
    obtain ⟨m, h⟩ := ih (s.setByte a b) (a + 1)
    exact ⟨m, h⟩

/-- A write into a core's memories stores the bytes and may note the granule for a hand-over. -/
theorem coreWrite_only (c a : Nat) (bs : List Byte) (s : State) :
    ∃ d, coreWrite c a bs s = { s with mem := (s.setBytes a bs).mem, disp := d } := by
  obtain ⟨m, h⟩ := s.setBytes_only a bs
  unfold coreWrite
  simp only [h]
  split
  · repeat' split
    all_goals exact ⟨_, rfl⟩
  · exact ⟨_, rfl⟩

/-- A store of one word leaves the node as it was but for the word's bytes. -/
theorem Rx.stw_node (r : Rx) (y : Bool) (w v : Nat) :
    (r.stw y w v).s.mem = (r.s.setBytes (dataAddr y r.p w) (leBytes 4 v)).mem ∧ (r.stw y w v).s.fld = r.s.fld
      ∧ (r.stw y w v).s.flash = r.s.flash ∧ (r.stw y w v).s.pending = r.s.pending := by
  obtain ⟨d, h⟩ := coreWrite_only r.p (dataAddr y r.p w) (leBytes 4 v) r.s
  have hs : (r.stw y w v).s = coreWrite r.p (dataAddr y r.p w) (leBytes 4 v) r.s := rfl
  rw [hs, h]
  exact ⟨rfl, rfl, rfl, rfl⟩

/-- The node after one store of a word `v` at `a`. -/
def Stored1 (a v : Nat) (s t : State) : Prop :=
  t.mem = (s.setBytes a (leBytes 4 v)).mem ∧ t.fld = s.fld ∧ t.flash = s.flash ∧ t.pending = s.pending

theorem Stored1.byte {a v : Nat} {s t : State} (h : Stored1 a v s t) (x : Nat) :
    t.byte x = (s.setBytes a (leBytes 4 v)).byte x := State.byte_congr h.1 x

/-- Two stores, one behind the other. -/
theorem Stored1.byte₂ {a v b w : Nat} {s t u : State} (h : Stored1 a v s t) (k : Stored1 b w t u) (x : Nat) :
    u.byte x = ((s.setBytes a (leBytes 4 v)).setBytes b (leBytes 4 w)).byte x :=
  State.byte_congr (k.1.trans (State.setBytes_mem_congr h.1 _ _)) x

/-- What a row leaves that stores, and whose effect has a frame. -/
theorem reed_stores {p : Nat} {o : ReedOp} {s : State} {locs : List Nat} (h : Ready p o s) (eff : ReedOp → Rx → Rx)
    (hf : Rx.Frame locs (s.rxAt p) (eff o (s.rxAt p))) (hfld : (eff o (s.rxAt p)).s.fld = s.fld)
    (hfl : (eff o (s.rxAt p)).s.flash = s.flash) (hp : (eff o (s.rxAt p)).s.pending = s.pending) :
    ∃ u, done s (fetchOne p .clean (rowIs o.code.1 o.code.2) eff s) = .next u ∧ u.coreS p = (eff o (s.rxAt p)).x
      ∧ (∀ x, u.byte x = (eff o (s.rxAt p)).s.byte x) ∧ KeepsRegs p locs s u ∧ Advances p s u ∧ KeepsFields [] s u
      ∧ u.flash = s.flash ∧ u.pending = s.pending := by
  obtain ⟨u, hu, hx, hm, h1, h2, hr, ha, hk⟩ := reed_runs h eff hf hfld
  exact ⟨u, hu, hx, State.byte_congr hm, hr, ha, hk, h1.trans hfl, h2.trans hp⟩

/-! ## Pointers -/

/-- The pointer of set `q` takes its new value, if the access changes it. -/
def Rx.movePtr (r : Rx) (y : Bool) (q : Nat) (np : Option Nat) : Rx :=
  match np with | some v => r.wr (ptrLoc y q) 2 v | none => r

/-- The place that moving a pointer writes. -/
def ptrLocs (y : Bool) (q : Nat) (np : Option Nat) : List Nat := if np.isSome then [ptrLoc y q] else []

theorem Rx.frame_movePtr (r : Rx) (y : Bool) (q : Nat) (np : Option Nat) : Rx.Frame (ptrLocs y q np) r (r.movePtr y q np) := by
  cases np
  · exact .refl r
  · exact r.frame_wr ..

@[simp] theorem Rx.movePtr_s (r : Rx) (y : Bool) (q : Nat) (np : Option Nat) : (r.movePtr y q np).s = r.s := by
  cases np <;> rfl

/-- Pointers lie behind every other place. -/
theorem lt_of_mem_ptrLocs {y : Bool} {q l : Nat} {np : Option Nat} (h : l ∈ ptrLocs y q np) : 64 ≤ l := by
  cases np with
  | none => cases h
  | some v =>
    rw [List.mem_singleton.mp h, ptrLoc, locS]
    omega

/-- Nothing written behind it takes a moved pointer back. -/
theorem movesPtr_of_frame {p q : Nat} {y : Bool} {np : Option Nat} {s u : State} {locs : List Nat} {t : Rx} (hx : u.coreS p = t.x)
    (hf : Rx.Frame locs ((s.rxAt p).movePtr y q np) t) (hn : ∀ l ∈ locs, l < 64) : MovesPtr y p q np s u := by
  cases np with
  | none => trivial
  | some v =>
    have hnot : ptrLoc y q ∉ locs := fun hm => by
      have := hn _ hm
      simp only [ptrLoc, locS] at this
      omega
    show u.regNext s p (ptrLoc y q) 3 = v
    rw [State.regNext, hx, hf.rd _ _ hnot]
    exact Rx.wr_same _ _ 2 _ _ rfl

/-- The address an access uses, and its pointer moved. -/
theorem addr_rxAt (s : State) (p : Nat) (y : Bool) (q am abs ad : Nat) (pair : Bool) :
    (s.rxAt p).addr y q am abs ad pair = ((accessOf y p q am abs ad pair s).1,
      (s.rxAt p).movePtr y q (accessOf y p q am abs ad pair s).2) := by
  have key : ∀ z : Nat × Option Nat, (match z with
      | (a, np) => match np with
        | some v => (a, (s.rxAt p).wr (ptrLoc y q) 2 (v : Nat))
        | none => (a, s.rxAt p)) = (z.1, (s.rxAt p).movePtr y q z.2) := by
    rintro ⟨a, _ | v⟩ <;> rfl
  unfold Rx.addr accessOf
  by_cases h : abs = 1
  · subst h; rfl
  · rw [if_neg h, if_neg (by simpa using h)]
    exact key _

/-- The registers of a pointer's set (R65). -/
def setLocs (y : Bool) (q : Nat) : List Nat :=
  let o := if y then 0x10 else 0
  [locS (o + q), locS (o + 4 + q), locS (o + 8 + q), locS (o + 12 + q)]

/-- A post-modification behind writes of other registers. -/
theorem postMod_steps {s : State} {p q : Nat} {y : Bool} {locs : List Nat} {r : Rx} (hf : Rx.Frame locs (s.rxAt p) r)
    (hn : ∀ l ∈ setLocs y q, l ∉ locs) : r.postMod y q = r.wr (ptrLoc y q) 2 (steps y p q s : Nat) := by
  have hpost : r.postMod y q = r.wr (ptrLoc y q) 2 (circ (r.rdN (locS ((if y then 0x10 else 0) + q)) 2)
      (sx 16 (r.rdN (locS ((if y then 0x10 else 0) + 4 + q)) 2)) (r.rdN (locS ((if y then 0x10 else 0) + 8 + q)) 2)
      (r.rdN (locS ((if y then 0x10 else 0) + 12 + q)) 2) : Nat) := rfl
  have hr : ∀ l ∈ setLocs y q, r.rdN l 2 = ((s.fetchCore p).rd l ((s.coreS p).cyc + 2)).toNat := fun l hl => by
    rw [Rx.rdN, Rx.rd, hf.rd _ _ (hn l hl), hf.c]; rfl
  simp only [setLocs, List.mem_cons, List.not_mem_nil, or_false, forall_eq_or_imp, forall_eq] at hr
  obtain ⟨h1, h2, h3, h4⟩ := hr
  rw [hpost, h1, h2, h3, h4]
  rfl

/-- Places that no post-modification reads or writes: those below the special registers, and those behind the sets (R65). -/
def BesideSets (locs : List Nat) : Prop := ∀ l ∈ locs, l < 64 ∨ 96 ≤ l

theorem not_mem_of_beside {locs : List Nat} (h : BesideSets locs) {y : Bool} {q : Nat} (hq : q < 4) :
    ∀ l ∈ setLocs y q, l ∉ locs := by
  intro l hl hm
  have := h l hm
  cases y <;> simp only [setLocs, List.mem_cons, List.not_mem_nil, or_false, locS, if_true, Bool.false_eq_true, if_false] at hl <;> omega

/-- The pointer updates of a row, behind writes that do not touch the sets: each pointer that the row is told to moves. -/
theorem upd_steps {s : State} {p xp yp : Nat} (xu yu : Nat) {locs : List Nat} {r : Rx} (hf : Rx.Frame locs (s.rxAt p) r)
    (hb : BesideSets locs) (hx : xp < 4) (hy : yp < 4) :
    Rx.Frame ((if xu = 1 then [ptrLoc false xp] else []) ++ if yu = 1 then [ptrLoc true yp] else []) r (r.upd xp yp xu yu)
      ∧ (xu = 1 → (r.upd xp yp xu yu).x.rd (ptrLoc false xp) (r.c + 3) = steps false p xp s)
      ∧ (yu = 1 → (r.upd xp yp xu yu).x.rd (ptrLoc true yp) (r.c + 3) = steps true p yp s)
      ∧ (r.upd xp yp xu yu).s = r.s := by
  have hX := postMod_steps hf (not_mem_of_beside hb (y := false) hx)
  have hne : ptrLoc true yp ≠ ptrLoc false xp := by
    simp only [ptrLoc, locS, if_true, Bool.false_eq_true, if_false]; omega
  have hsets : ∀ l ∈ setLocs true yp, l ∉ locs ++ [ptrLoc false xp] := fun l hl hm => by
    rcases List.mem_append.mp hm with hm | hm
    · exact not_mem_of_beside hb hy l hl hm
    · simp only [setLocs, ptrLoc, List.mem_cons, List.not_mem_nil, or_false, locS, if_true, Bool.false_eq_true, if_false] at hl hm
      omega
  unfold Rx.upd
  simp only [beq_iff_eq]
  by_cases h1 : xu = 1
  · by_cases h2 : yu = 1
    · simp only [h1, h2, if_true, hX, postMod_steps (hf.trans (Rx.frame_wr ..)) hsets]
      refine ⟨(r.frame_wr ..).trans (Rx.frame_wr ..), fun _ => ?_, fun _ => Rx.wr_same _ _ 2 _ _ rfl, rfl⟩
      rw [Rx.wr_other _ _ _ _ hne, Rx.wr_same _ _ 2 _ _ rfl]
    · simp only [h1, h2, if_true, if_false, hX]
      exact ⟨r.frame_wr .., fun _ => Rx.wr_same _ _ 2 _ _ rfl, nofun, rfl⟩
  · by_cases h2 : yu = 1
    · simp only [h1, h2, if_true, if_false, postMod_steps hf (not_mem_of_beside hb (y := true) hy)]
      exact ⟨r.frame_wr .., nofun, fun _ => Rx.wr_same _ _ 2 _ _ rfl, rfl⟩
    · simp only [h1, h2, if_false]
      exact ⟨.refl r, nofun, nofun, trivial⟩

/-! ## Products -/

/-- Every product row fetches its function code and has the product's effect. -/
theorem exec_of_mem_mulRows {f : Nat} {k : MacFn} {mul dmul mulm dmulm : Nat → Ecc → Instr}
    (h : (f, k, mul, dmul, mulm, dmulm) ∈ mulRows) (p : Nat) (s : State) :
    exec (mul p .clean) s = done s (fetchOne p .clean (rowIs 0x20 f) (mulEff k) s)
      ∧ exec (dmul p .clean) s = done s (fetchOne p .clean (rowIs 0x21 f) (dmulEff k) s)
      ∧ exec (mulm p .clean) s = done s (fetchOne p .clean (rowIs 0x22 f) (mulmEff k) s)
      ∧ exec (dmulm p .clean) s = done s (fetchOne p .clean (rowIs 0x23 f) (dmulmEff k) s) := by
  simp only [mulRows, List.mem_cons, Prod.mk.injEq, List.not_mem_nil, or_false] at h
  rcases h with ⟨rfl, rfl, rfl, rfl, rfl, rfl⟩ | ⟨rfl, rfl, rfl, rfl, rfl, rfl⟩ | ⟨rfl, rfl, rfl, rfl, rfl, rfl⟩ <;>
    exact ⟨rfl, rfl, rfl, rfl⟩

/-- The accumulators of the two lanes lie apart. -/
theorem lanes_apart (ap : Nat) : ∀ l ∈ accLocs (2 * ap), l ∉ accLocs (2 * ap + 1) ∨ 2 ≤ ap := by
  intro l hl
  simp only [accLocs, List.mem_cons, List.not_mem_nil, or_false, locA, locACT, locASAT] at hl ⊢
  omega

/-- Two products, each into its lane. -/
theorem Rx.mac₂_meets (r : Rx) (f : MacFn) {ap : Nat} (v w : Int) (h : ap < 2) :
    Rx.Meets f (2 * ap) v r ((r.mac f (2 * ap) v).mac f (2 * ap + 1) w)
      ∧ Rx.Meets f (2 * ap + 1) w r ((r.mac f (2 * ap) v).mac f (2 * ap + 1) w)
      ∧ Rx.Frame (accLocs (2 * ap) ++ accLocs (2 * ap + 1)) r ((r.mac f (2 * ap) v).mac f (2 * ap + 1) w)
      ∧ ((r.mac f (2 * ap) v).mac f (2 * ap + 1) w).s = r.s := by
  have hd : ∀ l ∈ accLocs (2 * ap), l ∉ accLocs (2 * ap + 1) := fun l hl =>
    (lanes_apart ap l hl).resolve_right (by omega)
  exact ⟨(r.mac_meets f _ v).behind (Rx.frame_mac ..) hd,
    ((r.mac f (2 * ap) v).mac_meets f _ w).before (r.frame_mac ..) fun l hl hm => hd l hm hl,
    (r.frame_mac ..).trans (Rx.frame_mac ..), by simp⟩

/-- Accumulators lie beside the pointers' sets. -/
theorem besideSets_accLocs {n : Nat} (h : n < 4) : BesideSets (accLocs n) := by
  intro l hl
  simp only [accLocs, List.mem_cons, List.not_mem_nil, or_false, locA, locACT, locASAT] at hl
  omega

theorem BesideSets.append {l m : List Nat} (h : BesideSets l) (k : BesideSets m) : BesideSets (l ++ m) := fun x hx =>
  (List.mem_append.mp hx).elim (h x) (k x)

/-- No pointer is among the places of an accumulator. -/
theorem not_mem_ptrs {n xp yp : Nat} (h : n < 4) (xu yu : Nat) : ∀ l ∈ accLocs n,
    l ∉ (if xu = 1 then [ptrLoc false xp] else []) ++ if yu = 1 then [ptrLoc true yp] else [] := by
  intro l hl hm
  have hlt : l < 64 := by
    simp only [accLocs, List.mem_cons, List.not_mem_nil, or_false, locA, locACT, locASAT] at hl
    omega
  rw [List.mem_append] at hm
  rcases hm with hm | hm <;> split at hm <;>
    first | cases hm; done | (rw [List.mem_singleton.mp hm, ptrLoc, locS] at hlt; omega)

theorem ptrWord_x (p q k : Nat) (pair : Bool) (s : State) :
    ptrWord false p q pair k s = s.word (dataAddr false p (if pair then pairLow (s.sAt p q 2) + k else s.sAt p q 2)) := by
  simp [ptrWord]

end Sys2Proof.Machine
end

section
open Sys2Proof Sys2Proof.Machine

/-- Settles O8: the product meets its accumulator or each of two, and the pointers move behind it. -/
theorem productRowsComplete : Obligations.ProductRowsComplete := by
  intro f k mul dmul mulm dmulm hrow
  refine ⟨fun p an ds dt s h => ?_, fun p ap ds dt s h => ?_, fun p an xp yp xu yu s h => ?_, fun p ap xp yp xu yu s h => ?_⟩
  · rw [(exec_of_mem_mulRows hrow p s).1]
    exact (reed_meets (v := prod (s.dAt p ds 4) (s.dAt p dt 4)) h (mulEff k) (Rx.mac_meets ..) (Rx.frame_mac ..) (Rx.mac_s ..) :)
  · rw [(exec_of_mem_mulRows hrow p s).2.1]
    have hwf := h.wf
    simp only [ReedOp.wf, Bool.and_eq_true, decide_eq_true_eq] at hwf
    obtain ⟨h1, h2, hf, hs⟩ := (s.rxAt p).mac₂_meets k (prod (s.dAt p ds 4) (s.dAt p dt 4))
      (prod (s.dAt p (ds + 1) 4) (s.dAt p (dt + 1) 4)) (show ap < 2 by omega)
    obtain ⟨u, hu, hx, rest⟩ := reed_keeps h (dmulEff k) hf hs
    exact ⟨u, hu, accAfter_of_meets hx h1, accAfter_of_meets hx h2, rest⟩
  · rw [(exec_of_mem_mulRows hrow p s).2.2.1]
    have hwf := h.wf
    simp only [ReedOp.wf, Bool.and_eq_true, decide_eq_true_eq] at hwf
    have hm := (s.rxAt p).mac_meets k an (prod (ptrWord false p xp false 0 s) (ptrWord true p yp false 0 s))
    have hf := (s.rxAt p).frame_mac k an (prod (ptrWord false p xp false 0 s) (ptrWord true p yp false 0 s))
    obtain ⟨hfu, hX, hY, hs⟩ := upd_steps xu yu hf (besideSets_accLocs (by omega)) (show xp < 4 by omega) (show yp < 4 by omega)
    have he : mulmEff k (.mulm f an xp yp xu yu) (s.rxAt p)
        = ((s.rxAt p).mac k an (prod (ptrWord false p xp false 0 s) (ptrWord true p yp false 0 s))).upd xp yp xu yu := by
      rw [ptrWord_x]; rfl
    obtain ⟨u, hu, hx, hr, rest⟩ := reed_keeps h (mulmEff k) (he ▸ hf.trans hfu) (by rw [he, hs, Rx.mac_s, rxAt_s])
    rw [he] at hx
    rw [hf.c] at hX hY
    exact ⟨u, hu, accAfter_of_meets hx (hm.behind hfu (not_mem_ptrs (by omega) xu yu)),
      fun e => by rw [State.regNext, hx]; exact hX e, fun e => by rw [State.regNext, hx]; exact hY e,
      by rwa [List.append_assoc], rest⟩
  · rw [(exec_of_mem_mulRows hrow p s).2.2.2]
    have hwf := h.wf
    simp only [ReedOp.wf, Bool.and_eq_true, decide_eq_true_eq] at hwf
    obtain ⟨h1, h2, hf, hms⟩ := (s.rxAt p).mac₂_meets k (prod (ptrWord false p xp true 0 s) (ptrWord true p yp true 0 s))
      (prod (ptrWord false p xp true 1 s) (ptrWord true p yp true 1 s)) (show ap < 2 by omega)
    obtain ⟨hfu, hX, hY, hs⟩ := upd_steps xu yu hf ((besideSets_accLocs (by omega)).append (besideSets_accLocs (by omega)))
      (show xp < 4 by omega) (show yp < 4 by omega)
    have he : dmulmEff k (.dmulm f ap xp yp xu yu) (s.rxAt p)
        = (((s.rxAt p).mac k (2 * ap) (prod (ptrWord false p xp true 0 s) (ptrWord true p yp true 0 s))).mac k (2 * ap + 1)
            (prod (ptrWord false p xp true 1 s) (ptrWord true p yp true 1 s))).upd xp yp xu yu := by
      rw [ptrWord_x, ptrWord_x]; rfl
    obtain ⟨u, hu, hx, hr, rest⟩ := reed_keeps h (dmulmEff k) (he ▸ hf.trans hfu) (by rw [he, hs, hms, rxAt_s])
    rw [he] at hx
    rw [hf.c] at hX hY
    exact ⟨u, hu, accAfter_of_meets hx (h1.behind hfu (not_mem_ptrs (by omega) xu yu)),
      accAfter_of_meets hx (h2.behind hfu (not_mem_ptrs (by omega) xu yu)),
      fun e => by rw [State.regNext, hx]; exact hX e, fun e => by rw [State.regNext, hx]; exact hY e,
      by rwa [List.append_assoc _ _ (if yu = 1 then _ else _)], rest⟩
end

section
/-!
SUPPORT. Loads, stores and filter taps, row by row (R63, R68, R71, R76).
-/
namespace Sys2Proof.Machine

theorem exec_load (y : Bool) (p : Nat) (s : State) : exec (if y then .ldy p .clean else .ldx p .clean) s
    = done s (fetchOne p .clean (rowIs (if y then 0x19 else 0x18) 0) loadEff s) := by cases y <;> rfl

theorem exec_store (y : Bool) (p : Nat) (s : State) : exec (if y then .sty p .clean else .stx p .clean) s
    = done s (fetchOne p .clean (rowIs (if y then 0x1B else 0x1A) 0) storeEff s) := by cases y <;> rfl

theorem exec_storeAcc (y : Bool) (p : Nat) (s : State) : exec (if y then .stya p .clean else .stxa p .clean) s
    = done s (fetchOne p .clean (rowIs (if y then 0x1D else 0x1C) 0) storeAccEff s) := by cases y <;> rfl

/-! ## Effects with the address worked out -/

theorem loadEff_word (s : State) (p : Nat) (y : Bool) (dd q am abs ad : Nat) :
    loadEff (.ld y dd q am 0 abs ad) (s.rxAt p)
      = ((s.rxAt p).movePtr y q (accessOf y p q am abs ad false s).2).wr (locD dd) 3
          (s.word (dataAddr y p (accessOf y p q am abs ad false s).1) : Nat) := by
  show (match (s.rxAt p).addr y q am abs ad false with | (a, r) => r.wr (locD dd) 3 (r.ldw y a)) = _
  rw [addr_rxAt]
  cases (accessOf y p q am abs ad false s).2 <;> rfl

theorem loadEff_pair (s : State) (p : Nat) (y : Bool) (dd q am abs ad : Nat) :
    loadEff (.ld y dd q am 1 abs ad) (s.rxAt p)
      = (((s.rxAt p).movePtr y q (accessOf y p q am abs ad true s).2).wr (locD dd) 3
          (s.word (dataAddr y p (pairLow (accessOf y p q am abs ad true s).1)) : Nat)).wr (locD (dd + 1)) 3
          (s.word (dataAddr y p (pairLow (accessOf y p q am abs ad true s).1 + 1)) : Nat) := by
  show (match (s.rxAt p).addr y q am abs ad true with
    | (a, r) => (r.wr (locD dd) 3 (r.ldw y (pairLow a))).wr (locD (dd + 1)) 3 (r.ldw y (pairLow a + 1))) = _
  rw [addr_rxAt]
  cases (accessOf y p q am abs ad true s).2 <;> rfl

/-- A stage reads places below the special registers as if the pointer had not moved. -/
theorem movePtr_rdN {s : State} {p q : Nat} {y : Bool} {l : Nat} (np : Option Nat) (k : Nat) (h : l < 64) :
    ((s.rxAt p).movePtr y q np).rdN l k = (s.rxAt p).rdN l k := by
  have hf := (s.rxAt p).frame_movePtr y q np
  rw [Rx.rdN, Rx.rd, hf.rd l _ fun hm => by have := lt_of_mem_ptrLocs hm; omega, hf.c]
  rfl

theorem locD_lt {n : Nat} (h : n < 16) : locD n < 64 := by simp only [locD]; omega

theorem storeEff_word {s : State} {p ds : Nat} (y : Bool) (q am abs ad : Nat) (h : ds < 16) :
    storeEff (.st y ds q am 0 abs ad) (s.rxAt p)
      = ((s.rxAt p).movePtr y q (accessOf y p q am abs ad false s).2).stw y (accessOf y p q am abs ad false s).1 (s.dAt p ds 3) := by
  show (match (s.rxAt p).addr y q am abs ad false with | (a, r) => r.stw y a (r.rdN (locD ds) 3)) = _
  rw [addr_rxAt]
  simp only [movePtr_rdN _ _ (locD_lt h)]
  rfl

theorem storeEff_pair {s : State} {p ds : Nat} (y : Bool) (q am abs ad : Nat) (h : ds + 1 < 16) :
    storeEff (.st y ds q am 1 abs ad) (s.rxAt p)
      = (((s.rxAt p).movePtr y q (accessOf y p q am abs ad true s).2).stw y (pairLow (accessOf y p q am abs ad true s).1)
          (s.dAt p ds 3)).stw y (pairLow (accessOf y p q am abs ad true s).1 + 1) (s.dAt p (ds + 1) 3) := by
  show (match (s.rxAt p).addr y q am abs ad true with
    | (a, r) => (r.stw y (pairLow a) (r.rdN (locD ds) 3)).stw y (pairLow a + 1) (r.rdN (locD (ds + 1)) 3)) = _
  rw [addr_rxAt]
  simp only [movePtr_rdN _ _ (locD_lt h), movePtr_rdN _ _ (locD_lt (show ds < 16 by omega))]
  rfl

theorem storeAccEff_rounds {s : State} {p an : Nat} (y : Bool) (q am abs ad : Nat) (h : an < 4) :
    storeAccEff (.sta y an q am abs ad) (s.rxAt p)
      = (((s.rxAt p).movePtr y q (accessOf y p q am abs ad false s).2).stw y (accessOf y p q am abs ad false s).1
          (accRound (s.regAt p (locA an) 3)).val).setSat (accRound (s.regAt p (locA an) 3)).sat := by
  show (match (s.rxAt p).addr y q am abs ad false with
    | (a, r) => (r.stw y a (accRound (r.rd (locA an) 3)).val).setSat (accRound (r.rd (locA an) 3)).sat) = _
  rw [addr_rxAt]
  have hf := (s.rxAt p).frame_movePtr y q (accessOf y p q am abs ad false s).2
  have hA : ((s.rxAt p).movePtr y q (accessOf y p q am abs ad false s).2).rd (locA an) 3 = s.regAt p (locA an) 3 := by
    rw [Rx.rd, hf.rd _ _ fun hm => by have := lt_of_mem_ptrLocs hm; simp only [locA] at this; omega, hf.c]
    rfl
  simp only [hA]

/-- One store by the effect `r` of core `p` on the node of `s`. -/
theorem Rx.stw_stored {r : Rx} {s : State} {p : Nat} (y : Bool) (w v : Nat) (hs : r.s = s) (hp : r.p = p) :
    Stored1 (dataAddr y p w) v s (r.stw y w v).s := hs ▸ hp ▸ r.stw_node y w v

/-- A pair of words fills eight bytes from an even word on, which the end of a memory does not cut (R63). -/
theorem dataAddr_pair (y : Bool) (p a : Nat) : dataAddr y p (pairLow a + 1) = dataAddr y p (pairLow a) + 4 := by
  simp only [dataAddr, pairLow]
  omega

/-! ## Filter taps -/

/-- FTAP before its pointers move: the product into its accumulator, XCAR into memory, and the word that stood there into XCAR. -/
def ftapBase (s : State) (p an xp yp : Nat) : Rx :=
  (((s.rxAt p).mac .mac an (prod (s.sAt p srXCAR 3) (ptrWord true p yp false 0 s))).stw false (s.sAt p xp 2) (s.sAt p srXCAR 3)).wr
    (locS srXCAR) 3 (ptrWord false p xp false 0 s : Nat)

/-- FTAP2 before its pointers move: two taps, of which the second takes the word that the first took out of memory. -/
def ftap2Base (s : State) (p ap xp yp : Nat) : Rx :=
  (((((s.rxAt p).mac .mac (2 * ap) (prod (s.sAt p srXCAR 3) (ptrWord true p yp true 0 s))).mac .mac (2 * ap + 1)
    (prod (ptrWord false p xp true 0 s) (ptrWord true p yp true 1 s))).stw false (pairLow (s.sAt p xp 2)) (s.sAt p srXCAR 3)).stw
    false (pairLow (s.sAt p xp 2) + 1) (ptrWord false p xp true 0 s)).wr (locS srXCAR) 3 (ptrWord false p xp true 1 s : Nat)

theorem besideSets_xcar : BesideSets [locS srXCAR] := by
  intro l hl
  rw [List.mem_singleton.mp hl]
  decide

theorem accLocs_not_xcar {n : Nat} (h : n < 4) : ∀ l ∈ accLocs n, l ∉ [locS srXCAR] := by
  intro l hl hm
  simp only [accLocs, List.mem_cons, List.not_mem_nil, or_false, locA, locACT, locASAT, locS, srXCAR] at hl hm
  omega

theorem xcar_not_mem_ptrs {xp yp : Nat} (hx : xp < 4) (hy : yp < 4) :
    locS srXCAR ∉ (if 1 = 1 then [ptrLoc false xp] else []) ++ if 1 = 1 then [ptrLoc true yp] else [] := by
  simp [locS, srXCAR, ptrLoc]
  omega

theorem ftapBase_reads (s : State) (p xp yp : Nat) {an : Nat} (h : an < 4) :
    Rx.Meets .mac an (prod (s.sAt p srXCAR 3) (ptrWord true p yp false 0 s)) (s.rxAt p) (ftapBase s p an xp yp)
      ∧ (ftapBase s p an xp yp).x.rd (locS srXCAR) ((s.coreS p).cyc + 4) = ptrWord false p xp false 0 s
      ∧ Stored1 (dataAddr false p (s.sAt p xp 2)) (s.sAt p srXCAR 3) s (ftapBase s p an xp yp).s
      ∧ Rx.Frame (accLocs an ++ [locS srXCAR]) (s.rxAt p) (ftapBase s p an xp yp) := by
  have hf := (s.rxAt p).frame_mac .mac an (prod (s.sAt p srXCAR 3) (ptrWord true p yp false 0 s))
  have hst : Rx.Frame [locS srXCAR] _ (ftapBase s p an xp yp) := (Rx.frame_stw _ false _ _).trans (Rx.frame_wr ..)
  exact ⟨(Rx.mac_meets ..).behind hst (accLocs_not_xcar h), Rx.wr_same _ _ 3 _ _ (by rw [(Rx.frame_stw ..).c, hf.c]; rfl),
    Rx.stw_stored false _ _ (Rx.mac_s ..) hf.p, hf.trans hst⟩

theorem ftap2Base_reads (s : State) (p xp yp : Nat) {ap : Nat} (h : ap < 2) :
    Rx.Meets .mac (2 * ap) (prod (s.sAt p srXCAR 3) (ptrWord true p yp true 0 s)) (s.rxAt p) (ftap2Base s p ap xp yp)
      ∧ Rx.Meets .mac (2 * ap + 1) (prod (ptrWord false p xp true 0 s) (ptrWord true p yp true 1 s)) (s.rxAt p)
          (ftap2Base s p ap xp yp)
      ∧ (ftap2Base s p ap xp yp).x.rd (locS srXCAR) ((s.coreS p).cyc + 4) = ptrWord false p xp true 1 s
      ∧ (∃ t, Stored1 (dataAddr false p (pairLow (s.sAt p xp 2))) (s.sAt p srXCAR 3) s t
          ∧ Stored1 (dataAddr false p (pairLow (s.sAt p xp 2) + 1)) (ptrWord false p xp true 0 s) t (ftap2Base s p ap xp yp).s)
      ∧ Rx.Frame (accLocs (2 * ap) ++ accLocs (2 * ap + 1) ++ [locS srXCAR]) (s.rxAt p) (ftap2Base s p ap xp yp) := by
  obtain ⟨h1, h2, hf, hs⟩ := (s.rxAt p).mac₂_meets .mac (prod (s.sAt p srXCAR 3) (ptrWord true p yp true 0 s))
    (prod (ptrWord false p xp true 0 s) (ptrWord true p yp true 1 s)) h
  have hst : Rx.Frame [locS srXCAR] _ (ftap2Base s p ap xp yp) :=
    ((Rx.frame_stw _ false (pairLow (s.sAt p xp 2)) (s.sAt p srXCAR 3)).trans (Rx.frame_stw ..)).trans (Rx.frame_wr ..)
  refine ⟨h1.behind hst (accLocs_not_xcar (by omega)), h2.behind hst (accLocs_not_xcar (by omega)), ?_, ?_, hf.trans hst⟩
  · exact Rx.wr_same _ _ 3 _ _ (by rw [(Rx.frame_stw ..).c, (Rx.frame_stw ..).c, hf.c]; rfl)
  · have hst1 := Rx.stw_stored false (pairLow (s.sAt p xp 2)) (s.sAt p srXCAR 3) hs hf.p
    exact ⟨_, hst1, Rx.stw_stored false _ _ rfl ((Rx.frame_stw ..).p.trans hf.p)⟩

/-! ## The length of what a store stores -/

theorem leBytes_length (k v : Nat) : (leBytes k v).length = k := by
  induction k generalizing v with
  | zero => rfl
  | succ k ih => rw [leBytes, List.length_cons, ih]

end Sys2Proof.Machine
end

section
open Sys2Proof Sys2Proof.Machine

/-- Settles O6: the address is worked out, the pointer moves, and the words go into Dd or into memory. -/
theorem loadStoreRowsComplete : Obligations.LoadStoreRowsComplete := by
  refine ⟨fun y p dd q am w abs ad s h => ?_, fun y p ds q am w abs ad s h => ?_, fun y p an q am abs ad s h => ?_⟩
  · have hwf := h.wf
    simp only [ReedOp.wf, Bool.and_eq_true, decide_eq_true_eq, Bool.or_eq_true, beq_iff_eq] at hwf
    rw [exec_load]
    rcases (show w = 0 ∨ w = 1 by omega) with rfl | rfl
    · have he := loadEff_word s p y dd q am abs ad
      have hwr := Rx.frame_wr ((s.rxAt p).movePtr y q (accessOf y p q am abs ad false s).2) (locD dd) 3
        (s.word (dataAddr y p (accessOf y p q am abs ad false s).1) : Nat)
      have hf := (((s.rxAt p).frame_movePtr ..).trans hwr).mono (m := locD dd :: ptrLocs y q _) (by simp; tauto)
      obtain ⟨u, hu, hx, hr, rest⟩ := reed_keeps h loadEff (he ▸ hf) (by rw [he, Rx.wr_s, Rx.movePtr_s, rxAt_s])
      rw [he] at hx
      refine ⟨u, hu, ⟨fun _ => ⟨?_, hr⟩, nofun, movesPtr_of_frame hx hwr ?_⟩, rest⟩
      · rw [State.regNext, hx]
        exact Rx.wr_same _ _ 3 _ _ (by rw [((s.rxAt p).frame_movePtr ..).c]; rfl)
      · simp only [List.mem_singleton, forall_eq]
        exact locD_lt (by omega)
    · have he := loadEff_pair s p y dd q am abs ad
      have hwr := (Rx.frame_wr ((s.rxAt p).movePtr y q (accessOf y p q am abs ad true s).2) (locD dd) 3
        (s.word (dataAddr y p (pairLow (accessOf y p q am abs ad true s).1)) : Nat)).trans (Rx.frame_wr _ (locD (dd + 1)) 3
        (s.word (dataAddr y p (pairLow (accessOf y p q am abs ad true s).1 + 1)) : Nat))
      have hf := (((s.rxAt p).frame_movePtr ..).trans hwr).mono (m := locD dd :: locD (dd + 1) :: ptrLocs y q _) (by simp; tauto)
      obtain ⟨u, hu, hx, hr, rest⟩ := reed_keeps h loadEff (he ▸ hf) (by rw [he, Rx.wr_s, Rx.wr_s, Rx.movePtr_s, rxAt_s])
      rw [he] at hx
      have hc := ((s.rxAt p).frame_movePtr y q (accessOf y p q am abs ad true s).2).c
      refine ⟨u, hu, ⟨nofun, fun _ => ⟨?_, ?_, hr⟩, movesPtr_of_frame hx hwr ?_⟩, rest⟩
      · rw [State.regNext, hx, Rx.wr_other _ _ _ _ (by simp only [locD]; omega)]
        exact Rx.wr_same _ _ 3 _ _ (by rw [hc]; rfl)
      · rw [State.regNext, hx]
        exact Rx.wr_same _ _ 3 _ _ (by rw [Rx.wr_c, hc]; rfl)
      · simp only [List.mem_append, List.mem_singleton, locD]
        omega
  · have hwf := h.wf
    simp only [ReedOp.wf, Bool.and_eq_true, decide_eq_true_eq, Bool.or_eq_true, beq_iff_eq] at hwf
    rw [exec_store]
    rcases (show w = 0 ∨ w = 1 by omega) with rfl | rfl
    · have he := storeEff_word (s := s) (p := p) (ds := ds) y q am abs ad (by omega)
      have hm := (s.rxAt p).frame_movePtr y q (accessOf y p q am abs ad false s).2
      have hst := Rx.frame_stw ((s.rxAt p).movePtr y q (accessOf y p q am abs ad false s).2) y
        (accessOf y p q am abs ad false s).1 (s.dAt p ds 3)
      have h1 := Rx.stw_stored y (accessOf y p q am abs ad false s).1 (s.dAt p ds 3) (Rx.movePtr_s (s.rxAt p) y q _) hm.p
      obtain ⟨-, hfld, hfl, hp⟩ := id h1
      obtain ⟨u, hu, hx, hb, hr, ha, hk, rest⟩ := reed_stores h storeEff (he ▸ hm.trans hst) (he ▸ hfld) (he ▸ hfl) (he ▸ hp)
      rw [he] at hx hb
      rw [List.append_nil] at hr
      exact ⟨u, hu, ⟨fun _ x => (hb x).trans (h1.byte x), nofun, hr, movesPtr_of_frame hx hst (by simp)⟩, ha, hk, rest⟩
    · have he := storeEff_pair (s := s) (p := p) (ds := ds) y q am abs ad (by omega)
      have hm := (s.rxAt p).frame_movePtr y q (accessOf y p q am abs ad true s).2
      have h1 := Rx.stw_stored y (pairLow (accessOf y p q am abs ad true s).1) (s.dAt p ds 3) (Rx.movePtr_s (s.rxAt p) y q _) hm.p
      have hst1 := Rx.frame_stw ((s.rxAt p).movePtr y q (accessOf y p q am abs ad true s).2) y
        (pairLow (accessOf y p q am abs ad true s).1) (s.dAt p ds 3)
      have hst := hst1.trans (Rx.frame_stw _ y (pairLow (accessOf y p q am abs ad true s).1 + 1) (s.dAt p (ds + 1) 3))
      have h2 := Rx.stw_stored y (pairLow (accessOf y p q am abs ad true s).1 + 1) (s.dAt p (ds + 1) 3) rfl (hst1.p.trans hm.p)
      obtain ⟨-, hfld1, hfl1, hp1⟩ := id h1
      obtain ⟨-, hfld2, hfl2, hp2⟩ := id h2
      obtain ⟨u, hu, hx, hb, hr, ha, hk, rest⟩ := reed_stores h storeEff (he ▸ hm.trans hst) (he ▸ hfld2.trans hfld1)
        (he ▸ hfl2.trans hfl1) (he ▸ hp2.trans hp1)
      rw [he] at hx hb
      rw [List.append_nil, List.append_nil] at hr
      exact ⟨u, hu, ⟨nofun, fun _ x => (hb x).trans (h1.byte₂ h2 x), hr, movesPtr_of_frame hx hst (by simp)⟩, ha, hk, rest⟩
  · have hwf := h.wf
    simp only [ReedOp.wf, Bool.and_eq_true, decide_eq_true_eq] at hwf
    rw [exec_storeAcc]
    have he := storeAccEff_rounds (s := s) (p := p) (an := an) y q am abs ad (by omega)
    have hm := (s.rxAt p).frame_movePtr y q (accessOf y p q am abs ad false s).2
    have h1 := Rx.stw_stored y (accessOf y p q am abs ad false s).1 (accRound (s.regAt p (locA an) 3)).val
      (Rx.movePtr_s (s.rxAt p) y q _) hm.p
    have hst := Rx.frame_stw ((s.rxAt p).movePtr y q (accessOf y p q am abs ad false s).2) y
      (accessOf y p q am abs ad false s).1 (accRound (s.regAt p (locA an) 3)).val
    have hsat := hst.trans (Rx.frame_setSat _ (accRound (s.regAt p (locA an) 3)).sat)
    have hs := congrArg Rx.s he
    rw [Rx.setSat_s] at hs
    obtain ⟨-, hfld, hfl, hp⟩ := id h1
    obtain ⟨u, hu, hx, hb, hr, ha, hk, rest⟩ := reed_stores h storeAccEff (he ▸ hm.trans hsat) (hs ▸ hfld) (hs ▸ hfl) (hs ▸ hp)
    rw [hs] at hb
    rw [he] at hx
    refine ⟨u, hu, ⟨fun x => (hb x).trans (h1.byte x), fun hsat => ?_, fun loc n hn => hr loc n fun hmem => hn ?_,
      movesPtr_of_frame hx hsat ?_⟩, ha, hk, rest⟩
    · rw [State.regNext, hx, Rx.setSat, if_pos hsat]
      exact Rx.wr_same _ _ 5 _ _ (by rw [hst.c, hm.c]; rfl)
    · rw [List.nil_append, List.mem_append] at hmem
      exact List.mem_append.mpr hmem.symm
    · intro l hl
      rw [List.nil_append] at hl
      split at hl
      · rw [List.mem_singleton.mp hl]
        decide
      · cases hl

/-- Settles O7: a store row stores as O6 says, and stored bytes lie within their words. -/
theorem storesKeepOtherBytes : Obligations.StoresKeepOtherBytes := by
  obtain ⟨-, hst, hsta⟩ := loadStoreRowsComplete
  refine ⟨fun y p ds q am w abs ad s u h hu x hout => ?_, fun y p an q am abs ad s u h hu x hout => ?_⟩
  · have hwf := h.wf
    simp only [ReedOp.wf, Bool.and_eq_true, decide_eq_true_eq, Bool.or_eq_true, beq_iff_eq] at hwf
    obtain ⟨v, hv, ⟨hw0, hw1, -⟩, -⟩ := hst y p ds q am w abs ad s h
    cases hv.symm.trans hu
    rcases (show w = 0 ∨ w = 1 by omega) with rfl | rfl
    · rw [hw0 rfl x]
      exact State.byte_setBytes_out _ _ _ (by rw [leBytes_length]; exact hout)
    · rw [if_pos rfl, if_pos rfl] at hout
      have hb : u.byte x = ((s.setBytes (dataAddr y p (pairLow (accessOf y p q am abs ad true s).1)) (leBytes 4 (s.dAt p ds 3))).setBytes
          (dataAddr y p (pairLow (accessOf y p q am abs ad true s).1 + 1)) (leBytes 4 (s.dAt p (ds + 1) 3))).byte x := hw1 rfl x
      have hout : x < dataAddr y p (pairLow (accessOf y p q am abs ad true s).1)
          ∨ dataAddr y p (pairLow (accessOf y p q am abs ad true s).1) + 8 ≤ x := hout
      rw [hb, dataAddr_pair, State.byte_setBytes_out, State.byte_setBytes_out] <;> rw [leBytes_length] <;> omega
  · obtain ⟨v, hv, ⟨hb, -⟩, -⟩ := hsta y p an q am abs ad s h
    cases hv.symm.trans hu
    rw [hb x]
    exact State.byte_setBytes_out _ _ _ (by rw [leBytes_length]; exact hout)

/-- Settles O9: the product meets its accumulator, XCAR is stored and taken anew, and both pointers move behind it. -/
theorem filterTapRowsComplete : Obligations.FilterTapRowsComplete := by
  refine ⟨fun p an xp yp s h => ?_, fun p ap xp yp s h => ?_⟩
  · have hwf := h.wf
    simp only [ReedOp.wf, Bool.and_eq_true, decide_eq_true_eq] at hwf
    obtain ⟨hm, hcar, h1, hf⟩ := ftapBase_reads s p xp yp (show an < 4 by omega)
    obtain ⟨hfu, hX, hY, hs⟩ := upd_steps 1 1 hf ((besideSets_accLocs (by omega)).append besideSets_xcar)
      (show xp < 4 by omega) (show yp < 4 by omega)
    have he : effFtap (.ftap an xp yp) (s.rxAt p) = (ftapBase s p an xp yp).upd xp yp 1 1 := by
      rw [ftapBase, ptrWord_x]; rfl
    rw [hf.c] at hX hY
    obtain ⟨-, hfld, hfl, hp⟩ := id h1
    have hes := (congrArg Rx.s he).trans hs
    obtain ⟨u, hu, hx, hb, hr, ha, hk, rest⟩ := reed_stores h effFtap (by rw [he]; exact hf.trans hfu)
      (by rw [hes]; exact hfld) (by rw [hes]; exact hfl) (by rw [hes]; exact hp)
    rw [he] at hx
    rw [hes] at hb
    refine ⟨u, hu, accAfter_of_meets hx (hm.behind hfu (not_mem_ptrs (by omega) 1 1)), ?_, fun x => (hb x).trans (h1.byte x), ?_, ?_,
      ?_, ha, hk, rest⟩
    · rw [State.regNext, hx, hfu.rd _ _ (xcar_not_mem_ptrs (by omega) (by omega))]
      exact hcar
    · rw [State.regNext, hx]; exact hX rfl
    · rw [State.regNext, hx]; exact hY rfl
    · rwa [List.append_assoc] at hr
  · have hwf := h.wf
    simp only [ReedOp.wf, Bool.and_eq_true, decide_eq_true_eq] at hwf
    obtain ⟨hm1, hm2, hcar, ⟨t, h1, h2⟩, hf⟩ := ftap2Base_reads s p xp yp (show ap < 2 by omega)
    obtain ⟨hfu, hX, hY, hs⟩ := upd_steps 1 1 hf
      (((besideSets_accLocs (by omega)).append (besideSets_accLocs (by omega))).append besideSets_xcar)
      (show xp < 4 by omega) (show yp < 4 by omega)
    have he : effFtap2 (.ftap2 ap xp yp) (s.rxAt p) = (ftap2Base s p ap xp yp).upd xp yp 1 1 := by
      rw [ftap2Base, ptrWord_x, ptrWord_x]; rfl
    rw [hf.c] at hX hY
    obtain ⟨-, hfld1, hfl1, hp1⟩ := id h1
    obtain ⟨-, hfld2, hfl2, hp2⟩ := id h2
    have hes := (congrArg Rx.s he).trans hs
    obtain ⟨u, hu, hx, hb, hr, ha, hk, rest⟩ := reed_stores h effFtap2 (by rw [he]; exact hf.trans hfu)
      (by rw [hes]; exact hfld2.trans hfld1) (by rw [hes]; exact hfl2.trans hfl1) (by rw [hes]; exact hp2.trans hp1)
    rw [he] at hx
    rw [hes] at hb
    refine ⟨u, hu, accAfter_of_meets hx (hm1.behind hfu (not_mem_ptrs (by omega) 1 1)),
      accAfter_of_meets hx (hm2.behind hfu (not_mem_ptrs (by omega) 1 1)), ?_, fun x => (hb x).trans (h1.byte₂ h2 x), ?_, ?_,
      ?_, ha, hk, rest⟩
    · rw [State.regNext, hx, hfu.rd _ _ (xcar_not_mem_ptrs (by omega) (by omega))]
      exact hcar
    · rw [State.regNext, hx]; exact hX rfl
    · rw [State.regNext, hx]; exact hY rfl
    · rwa [List.append_assoc] at hr
end

section
/-!
SUPPORT. What a command that ends with the summary's count keeps: fields, memory and the unit states, composed from what its steps
keep, and field reads through writes of other fields.
-/
namespace Sys2Proof.Machine

/-! ## Fields kept -/

theorem KeepsFields.of_fld {s w : State} (fs : List Fd) (h : w.fld = s.fld) : KeepsFields fs s w := fun f _ _ => State.get_congr h f

theorem KeepsFields.set {fs : List Fd} {s w : State} {f : Fd} (v : Nat) (h : KeepsFields fs s w) (hf : f ∈ fs) :
    KeepsFields fs s (w.set f v) := fun g hq hg => by rw [State.get_set_other _ _ (hg f hf), h g hq hg]

theorem KeepsFields.setBit {fs : List Fd} {s w : State} {f : Fd} (i : Nat) (b : Bool) (h : KeepsFields fs s w) (hf : f ∈ fs) :
    KeepsFields fs s (w.setBit f i b) := h.set _ hf

theorem KeepsFields.addSat {fs : List Fd} {s w : State} {f : Fd} (n : Nat) (h : KeepsFields fs s w) (hf : f ∈ fs) :
    KeepsFields fs s (w.addSat f n) := h.set _ hf

theorem KeepsFields.congr {fs : List Fd} {s w x : State} (h : KeepsFields fs s w) (hx : x.fld = w.fld) : KeepsFields fs s x :=
  fun f hq hg => (State.get_congr hx f).trans (h f hq hg)

theorem KeepsFields.trans {fs : List Fd} {s w x : State} (h : KeepsFields fs s w) (k : KeepsFields fs w x) : KeepsFields fs s x :=
  fun f hq hg => (k f hq hg).trans (h f hq hg)

theorem KeepsFields.mono {fs gs : List Fd} {s w : State} (h : KeepsFields fs s w) (hsub : ∀ f ∈ fs, f ∈ gs) : KeepsFields gs s w :=
  fun f hq hg => h f hq (fun g hm => hg g (hsub g hm))

/-- Counting the summary's change writes none of the fields a statement speaks of. -/
theorem KeepsFields.sumTick {fs : List Fd} {s w : State} (r : State) (h : KeepsFields fs s w) : KeepsFields fs s (sumTick r w) :=
  fun f hq hg => (sumTick_get r w hq).trans (h f hq hg)

theorem KeepsStore.sumTick {s w : State} (r : State) (h : KeepsStore s w) : KeepsStore s (Machine.sumTick r w) := by
  simpa only [KeepsStore, sumTick_mem, sumTick_flash, sumTick_pending] using h

theorem leaves_sumTick (s w : State) : Leaves w (sumTick s w) := ⟨sumTick_only s w, fun _ h => sumTick_get s w h⟩

/-- An event of a slot is a field that the summary's generation may touch. -/
theorem KeepsFields.slotEvt {fs : List Fd} {s w : State} {n : Nat} (b : Nat) (hn : n < 6) (h : KeepsFields fs s w) :
    KeepsFields fs s (slotEvt n b w) := fun f hq hg => by
  rw [slotEvt_get _ _ _ (of_decide_eq_true (List.all_eq_true.mp hq _ (Fd.evt_mem_sumFields hn))), h f hq hg]

theorem KeepsFields.allEvt {fs : List Fd} {s w : State} (b : Nat) (h : KeepsFields fs s w) : KeepsFields fs s (allEvt b w) :=
  fun f hq hg => (allEvt_get b w hq).trans (h f hq hg)

/-! ## Field reads -/

theorem State.get_set (s : State) (f g : Fd) (v : Nat) (h : f = g ∨ Fd.key g ≠ Fd.key f) :
    (s.set f v).get g = if f = g then v % 2 ^ Fd.width f else s.get g := by
  split
  · next e => subst e; exact s.get_set_same f v
  · next e => exact s.get_set_other v (h.resolve_left e)

theorem State.get_setBytes (s : State) (a : Nat) (l : List Byte) (f : Fd) : (s.setBytes a l).get f = s.get f :=
  State.get_congr (s.setBytes_fld a l) f

theorem State.addSat_get (s : State) (f : Fd) (n : Nat) :
    (s.addSat f n).get f = min (s.get f + n) (2 ^ Fd.width f - 1) := by
  rw [State.addSat, State.get_set_same, Nat.mod_eq_of_lt]
  have : 0 < 2 ^ Fd.width f := Nat.two_pow_pos _
  omega

end Sys2Proof.Machine
end

section
/-!
REFUTATIONS. States that the hypotheses of a statement allow and its conclusion does not. Where a state holds a value that no command
writes, a field's value beyond its width, its comment says so.
-/
namespace Sys2Proof.Machine

/-- Field `f` holds the value `v`, whatever its width: what a state may hold, though `State.set` writes no more than the width. -/
def State.hold (f : Fd) (v : Nat) (s : State) : State := { s with fld := mset f.rst (Fd.key f) v s.fld }

theorem State.hold_get (f : Fd) (v : Nat) (s : State) : (s.hold f v).get f = v := mget_mset_same ..

/-- The node in SHOW, everything else as after reset. -/
def inShow : State := State.reset.set F.PMU_STAT_PSTATE psSHOW

theorem leNat_lt (l : List Byte) : leNat l < 2 ^ (8 * l.length) := by
  induction l with
  | nil => decide
  | cons b l ih =>
    have hb : b.toNat < 2 ^ 8 := b.isLt
    have hp : 2 ^ (8 * (l.length + 1)) = 2 ^ 8 * 2 ^ (8 * l.length) := by rw [← pow_add]; congr 1; omega
    simp only [leNat, List.length_cons, hp]
    omega

theorem State.word_lt (s : State) (a : Nat) : s.word a < 2 ^ 32 := leNat_lt (s.bytes a 4)

/-! ## O13: a further word whose read steps an index -/

/-- The high word of a task-table entry is latched, and AUTOINC is set. -/
def atTbtHigh : State := { inShow.set F.DISP_TBT_INDEX_AUTOINC 1 with latch := [(0x20050098, 1)] }

theorem atTbtHigh_admitted : Admitted (regRd 0 0x20050098) atTbtHigh := ⟨by decide, by decide, by decide, by decide⟩

theorem atTbtHigh_steps :
    (sumTick atTbtHigh (guardedRead 0 0x20050098 (regRead 0 (0x20050098 % 2 ^ 32)) atTbtHigh)).get F.DISP_TBT_INDEX_INDEX = 1 := by
  rw [sumTick_get _ _ (by decide)]
  decide

/-! ## O25: a lock bit that stands at 2 -/

/-- LOCKED, one bit wide, stands at 2: set, but not 1. -/
def lockedAtTwo : State := inShow.hold F.FCU_STAT_LOCKED 2

theorem lockedAtTwo_admitted : Admitted (regWr 0 A.FCU_LOCK) lockedAtTwo := ⟨by decide, by decide, by decide, by decide⟩

theorem lockedAtTwo_stays :
    (sumTick lockedAtTwo (guarded 0 A.FCU_LOCK (wrFcuLock 0xA55A0001) lockedAtTwo)).get F.FCU_STAT_LOCKED = 2 := by
  rw [sumTick_get _ _ (by decide)]
  decide

/-! ## O33: a mailbox word of 33 bits -/

/-- Mailbox 0 is due with one record, that of crosspoint (0, 0) of the active bank, whose gain word stands at 2³². -/
def atWideGain : State :=
  let s := (((inShow.set F.DISP_STAT_STATE dRunning).set (F.MTX_MBOX_STAT_STATE 0) mbPOSTED).set (F.MTX_BANK_COUNT_COUNT 0) 1).hold (F.MTX_MBREC 1) (2 ^ 32)
  { s with mtx := { s.mtx with mboxN := [(0, 1)] }, disp := { s.disp with started := true } }

end Sys2Proof.Machine
end

section
open Sys2Proof Sys2Proof.Machine

/-- Refutes O13: DISP_TBT_DATA1 is the further word of DISP_TBT_DATA0, and reading it steps DISP_TBT_INDEX where AUTOINC is set (R61). -/
theorem not_pairReadCompletes : ¬ Obligations.PairReadCompletes := by
  intro h
  obtain ⟨u, hu, -, -, hkeep, -⟩ := h.2 0 0x20050094 0x20050098 0 0 atTbtHigh (by decide) (by decide) (by decide)
    atTbtHigh_admitted (by decide) (by decide)
  rw [show exec (.pairLowRead 0 0x20050098) atTbtHigh = _ from doneRead_alive (m := 0) (a := 0x20050098) _ atTbtHigh_admitted.alive] at hu
  obtain rfl := Host.Outcome.next.inj hu
  exact absurd (atTbtHigh_steps.symm.trans (hkeep F.DISP_TBT_INDEX_INDEX (by decide) nofun)) (by decide)

/-- Refutes O25: where LOCKED holds 2, FCU_LOCK finds the configuration locked and leaves LOCKED at 2. No command writes such a value,
but the statement speaks of every state. -/
theorem not_faultRowsComplete : ¬ Obligations.FaultRowsComplete := by
  intro h
  obtain ⟨-, -, -, hlock, -⟩ := h
  obtain ⟨u, hu, -, hone, -⟩ := hlock 0 0xA55A0001 lockedAtTwo lockedAtTwo_admitted ⟨by decide, by decide⟩
  rw [show exec (.configLock 0 0xA55A0001) lockedAtTwo = _ from done_alive _ lockedAtTwo_admitted.alive] at hu
  obtain rfl := Host.Outcome.next.inj hu
  rw [lockedAtTwo_stays] at hone
  exact absurd hone (by decide)

/-- Refutes O33: a mailbox record's word that holds 2³² is not the word that a crosspoint's entry then reads. No command writes such a
value, but the statement speaks of every state. -/
theorem not_matrixRowsComplete : ¬ Obligations.MatrixRowsComplete := by
  intro h
  obtain ⟨-, -, -, -, -, -, -, -, -, happly, -⟩ := h
  obtain ⟨u, -, -, -, hgain, -⟩ := happly 0 0 atWideGain (by decide) (by decide) (by decide) (by decide)
  obtain ⟨hw, -⟩ := hgain 0 (2 ^ 32) 0 (by decide) (by decide) (by decide) (by decide) (by decide) (by decide) (by decide)
  exact absurd (hw ▸ u.word_lt _) (lt_irrefl _)
end

section
/-!
SUPPORT. What a tap's commit leaves alone: every other tap and the serial ports; what the defaults of a breath leave alone.
REFUTATION of O34.
-/
namespace Sys2Proof.Machine

/-! ## Taps that the defaults do not commit -/

theorem foldl_keeps {α β γ : Type} (g : α → γ) (f : α → β → α) (l : List β) (s : α) (h : ∀ x ∈ l, ∀ w, g (f w x) = g w) :
    g (l.foldl f s) = g s := by
  induction l generalizing s with
  | nil => rfl
  | cons b l ih => exact (ih _ (fun x hx => h x (.tail _ hx))).trans (h b (.head _) s)

/-- A part of the state in view: tap `x`, the serial ports, the fenced cores and the phase of a re-seat. -/
def State.tapView (x : Nat) (s : State) : TapS × SMap SapS × SMap (Option FenceTl) × Nat :=
  (s.tap x, s.sap, s.disp.fenceTl, s.get F.TWIN_RS_STAT_PHASE)

theorem formatStep_tapView (x o : Nat) (v : Int) (n : Nat) (s : State) : (formatStep o v n s).tapView x = s.tapView x := by
  have hsat : ∀ w : State, (w.incSat F.MTX_FMTSAT_COUNT).tapView x = w.tapView x := fun w => by
    have hget : (w.incSat F.MTX_FMTSAT_COUNT).get F.TWIN_RS_STAT_PHASE = w.get F.TWIN_RS_STAT_PHASE :=
      State.get_set_other _ _ (by decide)
    rw [State.tapView, hget]
    rfl
  unfold formatStep
  dsimp only
  split
  · exact hsat s
  · rfl

theorem recordLine_tapView (x : Nat) (v : Int) (n : Nat) (s : State) (j : Nat) : (recordLine v n s j).tapView x = s.tapView x := by
  have hset : ∀ (w : State) (a b : Nat), (w.setWord a b).tapView x = w.tapView x := fun w a b => by
    obtain ⟨m, hm⟩ := w.setBytes_only a (leBytes 4 b)
    rw [State.setWord, hm]; rfl
  unfold recordLine
  dsimp only
  split
  · rfl
  split
  · split
    · exact hset _ _ _
    · exact hset _ _ _
  · exact hset _ _ _

theorem commitTap_tapView {x t : Nat} (h : x ≠ t) (v : Int) (n : Nat) (s : State) : (commitTap t v n s).tapView x = s.tapView x := by
  unfold commitTap
  dsimp only
  split
  · rfl
  · rw [recordLines, foldl_keeps (State.tapView x) _ _ _ (fun j _ w => recordLine_tapView x v n w j),
      foldl_keeps (State.tapView x) _ _ _ (fun o _ w => formatStep_tapView x o v n w)]
    exact Prod.ext (mget_mset_other _ _ h _ _) rfl

theorem commitTap_sap (t : Nat) (v : Int) (n : Nat) (s : State) : (commitTap t v n s).sap = s.sap :=
  congrArg (·.2.1) (commitTap_tapView (x := t + 1) (by omega) v n s)

theorem commitTap_tap_same {t n : Nat} (h : isTap t = true) (v : Int) {s : State} (hn : (s.tap t).at_ ≤ n) :
    (commitTap t v n s).tap t = ⟨v, (s.tap t).cur, (s.tap t).prev, n + 1⟩ := by
  have : ((commitTap t v n s).tapView t).1 = ⟨v, (s.tap t).cur, (s.tap t).prev, n + 1⟩ := by
    unfold commitTap
    dsimp only
    rw [if_neg (by simp [h, hn]), recordLines, foldl_keeps (State.tapView t) _ _ _ (fun j _ w => recordLine_tapView t v n w j),
      foldl_keeps (State.tapView t) _ _ _ (fun o _ w => formatStep_tapView t o v n w)]
    exact mget_mset_same ..
  exact this

theorem asrcBreath_tapView (x k : Nat) (s : State) : (asrcBreath k s).2.tapView x = s.tapView x := by
  unfold asrcBreath
  dsimp only
  split
  · rfl
  · split <;> rfl

theorem commitAsrc_tapView {x : Nat} (h : 0x0F00 ≤ x) (n : Nat) (s : State) : (commitAsrc n s).tapView x = s.tapView x :=
  foldl_keeps _ _ _ _ fun k hk w => by
    have := List.mem_range.mp hk
    exact (commitTap_tapView (by omega) ..).trans (asrcBreath_tapView ..)

theorem bsiDefaults_tapView {x : Nat} (h : 0x0F00 ≤ x) (b : Nat) (s : State) : (bsiDefaults b s).tapView x = s.tapView x :=
  foldl_keeps _ _ _ _ fun c hc w => by
    have hne : x ≠ bsiTap c := by have := List.mem_range.mp hc; simp only [bsiTap]; omega
    unfold bsiDefault
    dsimp only
    split
    · rfl
    · split
      · exact commitTap_tapView hne ..
      · exact commitTap_tapView hne ..
      · exact commitTap_tapView hne ..

/-- A tap that does not satisfy `p` is not zeroed. -/
theorem mget_zeroTaps (p : Nat → Bool) (n : Nat) {a : Nat} (hp : p a = false) (k t : Nat) (m : SMap TapS) :
    mget {} a (zeroTaps p n t k m) = {} ∨ mget {} a (zeroTaps p n t k m) = mget {} a m := by
  have hcons : ∀ (t : Nat) (y : TapS) (l : SMap TapS), p t = true → mget {} a ((t, y) :: l) = mget {} a l := fun t y l hpt => by
    rw [mget, if_neg]
    rintro rfl
    simp [hp] at hpt
  induction k generalizing t m with
  | zero => exact .inr rfl
  | succ k ih =>
    cases m with
    | nil =>
      rw [zeroTaps]
      split
      · next hpt => rw [hcons _ _ _ hpt]; exact ih ..
      · exact ih ..
    | cons e r =>
      obtain ⟨j, x⟩ := e
      rw [zeroTaps]
      split
      · next he =>
        subst he
        rw [mget, mget]
        split
        · next he => subst he; simp [hp]
        · exact ih ..
      · split
        · next hpt => rw [hcons _ _ _ hpt]; exact ih ..
        · exact ih ..

theorem commitZero_tap (p : Nat → Bool) (n : Nat) {a : Nat} (hp : p a = false) (s : State) :
    (commitZero p n s).tap a = {} ∨ (commitZero p n s).tap a = s.tap a := by
  have h : ((commitZero p n s).tapView a).1 = mget {} a (zeroTaps p n 0 busTap0 s.mtx.taps) := by
    unfold commitZero
    dsimp only
    rw [foldl_keeps (State.tapView a) _ _ _ (fun j _ w => recordLine_tapView a 0 n w j),
      foldl_keeps (State.tapView a) _ _ _ (fun o _ w => formatStep_tapView a o 0 n w)]
    rfl
  change ((commitZero p n s).tapView a).1 = _ ∨ ((commitZero p n s).tapView a).1 = _
  rw [h]
  exact mget_zeroTaps p n hp _ _ _

/-! ## O34: a fenced port's slot beyond the serial inputs -/

/-- A port in unit reset keeps, as the first tap of its fading slots, 0x1000, a reed output's, which holds 5. -/
def atHeldOrphan : State :=
  let s := inShow.set F.DISP_STAT_STATE dRunning
  { s with
    time := { s.time with on := true }
    disp := { s.disp with started := true }
    mtx := { s.mtx with taps := [(0x1000, { cur := 5 })] }
    sap := [(0, { orphan := some 0x1000, slots := [(0, { st := ssRUN })] })] }

/-- The slot is repeated: the tap commits the sample it holds. -/
theorem sapDefaults_tap_held (s : State) (hsap : s.sap = atHeldOrphan.sap) (htap : s.tap 0x1000 = { cur := 5 }) :
    (sapDefaults 0 s).tap 0x1000 = { cur := 5, prev := 5, at_ := 1 } := by
  have hslot : (sapCommit 0 0x1000 0 0 none s).tap 0x1000 = { cur := 5, prev := 5, at_ := 1 } := by
    have hx : s.sapS 0 = { orphan := some 0x1000, slots := [(0, { st := ssRUN })] } := by rw [State.sapS, hsap]; rfl
    unfold sapCommit
    dsimp only
    rw [hx, if_neg (by decide), htap, commitTap_tap_same (by decide) _ (by exact (congrArg TapS.at_ htap).le)]
    rw [show (s.setSap _ _).tap 0x1000 = _ from htap]
    rfl
  unfold sapDefaults
  dsimp only
  rw [hsap]
  have hkeep : ∀ t ∈ (List.range 256).map (0x0C00 + ·), ∀ w : State,
      (if w.sapOwns t || w.committed t 0 then w else commitTap t 0 0 w).tapView 0x1000 = w.tapView 0x1000 := fun t ht w => by
    obtain ⟨k, hk, rfl⟩ := List.mem_map.mp ht
    have := List.mem_range.mp hk
    split
    · rfl
    · exact commitTap_tapView (by omega) ..
  generalize (List.range 256).map (0x0C00 + ·) = l at hkeep ⊢
  exact (congrArg Prod.fst (foldl_keeps (State.tapView 0x1000) _ l _ hkeep)).trans hslot

/-- No core is fenced and no set is stopped by a re-seat. -/
theorem commitIdle_eq {s : State} (n : Nat) (hf : s.disp.fenceTl = []) (hp : s.get F.TWIN_RS_STAT_PHASE = 0) : commitIdle n s = s := by
  have hsus : (List.range 16).filter s.suspended = [] := by
    simp [List.filter_eq_nil_iff, State.suspended, hp]
  simp only [commitIdle, hf, List.foldl_nil, hsus]

/-- The tap commits the 5 that it holds before the taps that nothing owns commit 0. -/
theorem atHeldOrphan_held {s : State} (h : s.tapView 0x1000 = atHeldOrphan.tapView 0x1000) :
    (bsiDefaults 0 (sapDefaults 0 (commitIdle 0 (commitAsrc 0 s)))).tap 0x1000 = { cur := 5, prev := 5, at_ := 1 } := by
  have hw := (commitAsrc_tapView (x := 0x1000) (by decide) 0 s).trans h
  generalize commitAsrc 0 s = w at hw ⊢
  simp only [State.tapView, Prod.mk.injEq] at hw
  obtain ⟨htap, hsap, hfence, hphase⟩ := hw
  rw [commitIdle_eq 0 (hfence.trans rfl) (hphase.trans (by decide))]
  have hheld := sapDefaults_tap_held w hsap (htap.trans (by decide))
  generalize sapDefaults 0 w = v at hheld ⊢
  have hbsi := bsiDefaults_tapView (x := 0x1000) (by decide) 0 v
  simp only [State.tapView, Prod.mk.injEq] at hbsi
  exact hbsi.1.trans hheld

/-- So it is not zeroed. -/
theorem tapDefaults_held {s : State} (h : s.tapView 0x1000 = atHeldOrphan.tapView 0x1000) (hn : s.n = 0)
    (hgo : (!s.breathing || !s.disp.started || s.n < s.disp.defaultB || !s.reached s.n 100) = false) :
    (tapDefaults s).tap 0x1000 = {} ∨ (tapDefaults s).tap 0x1000 = { cur := 5, prev := 5, at_ := 1 } := by
  have hheld := atHeldOrphan_held (s := { s with disp := { s.disp with defaultB := 0 + 1 } }) h
  unfold tapDefaults
  dsimp only
  rw [if_neg (by rw [hgo]; decide), hn]
  generalize bsiDefaults 0 _ = w at hheld ⊢
  rw [← hheld]
  refine commitZero_tap _ 0 ?_ w
  rw [State.committed, hheld]
  rfl

end Sys2Proof.Machine
end

section
open Sys2Proof Sys2Proof.Machine

/-- Refutes O34: a port in unit reset whose kept first tap is a reed output's, as no command leaves one, repeats that tap, so that it
does not commit 0. -/
theorem not_converterAndTapRowsComplete : ¬ Obligations.ConverterAndTapRowsComplete := by
  intro h
  obtain ⟨-, -, -, hzero⟩ := h
  obtain ⟨u, hu, -, hcur, hcom⟩ := hzero (10 * uMs) 0x1000 atHeldOrphan (by decide) (by decide) (by decide) (by decide) (by decide)
    (by decide) (by decide) (by decide) (by decide) nofun (by decide)
  rw [show exec (.tapDefaultCommit (10 * uMs)) atHeldOrphan = _ from done_alive _ (by decide)] at hu
  obtain rfl := Host.Outcome.next.inj hu
  rw [State.tap, sumTick_mtx] at hcur
  rw [State.committed, State.tap, sumTick_mtx] at hcom
  obtain he | he := tapDefaults_held (s := atHeldOrphan.atTime (10 * uMs)) rfl rfl (by decide) <;> rw [State.tap] at he
  · rw [he] at hcom
    exact absurd hcom (by decide)
  · rw [he] at hcur
    exact absurd hcur (by decide)
end

section
/-!
REFUTATIONS, continued: states that the hypotheses of O38, O40 and O43 allow and their conclusions do not.
-/
namespace Sys2Proof.Machine

/-! ## O38: COMMIT on a lock that nobody holds -/

/-- Right after reset the registers name master 0 with ticket 0, though the lock is FREE. -/
theorem inShow_holds : Holds 0 0 0 inShow :=
  ⟨by decide, by decide, ⟨by decide, by decide, by decide, by decide⟩, by decide, by decide, by decide⟩

/-- COMMIT finds the lock FREE before it looks for READY. -/
theorem inShow_commit_code :
    (sumTick inShow (guarded 0 (A.SECn_CMD 0) (wrSecCmd 0 0 (0 % 65536 * 65536 + 6)) inShow)).get (F.SECn_RESULT_CODE 0) = rjNOTHOLDER := by
  rw [sumTick_get _ _ (by decide)]
  decide

/-! ## O40: a step that hands a core back meets the commit -/

/-- Section 0 runs and its commit is due; a step is handing core 0 back, to which an external write of the byte 1 waits. -/
def atHandBack : State :=
  let s := ((inShow.set F.DISP_STAT_STATE dRunning).set (F.SECn_STAT_STATE 0) secRUNNING).set (F.SECn_LOCK_STATE 0) lkSTARTED
  { s with
    disp := { s.disp with started := true, rot := some { lcore := 0, p := 0, q := 128, back := true } }
    rvc := { s.rvc with coreSec := [(0, 1)] }
    core := [(0, { yext := [(yBase 0, [1])] })] }

theorem atHandBack_stores : (sumTick atHandBack (commitRampout 0 (atHandBack.atTime 0))).byte (yBase 0) = 1 := by
  rw [State.byte, sumTick_mem]
  decide

/-! ## O43: a ring whose EN stands at 2 -/

/-- EN of ring 0 of port 0, one bit wide, stands at 2: set, but not 1. -/
def ringEnAtTwo : State := (inShow.hold (ringF 0 0).en 2).set (ringF 0 0).len 8

theorem ringEnAtTwo_admitted : Admitted (regWr 0 (ringReg 0 0 0x14)) ringEnAtTwo := ⟨by decide, by decide, by decide, by decide⟩

theorem ringEnAtTwo_takes :
    (sumTick ringEnAtTwo (guarded 0 (ringReg 0 0 0x14) (wrRingTail 0 0 0) ringEnAtTwo)).get (F.NET_STAT_TAILERR 0) = 0 := by
  rw [sumTick_get _ _ (by decide)]
  decide

end Sys2Proof.Machine
end

section
open Sys2Proof Sys2Proof.Machine

/-- Refutes O38: the sixth clause leaves the lock's state open, and a COMMIT on a FREE lock whose registers happen to name the master
and the ticket is NOTHOLDER, where `cmdCommit` answers STATE. -/
theorem not_lockRowsComplete : ¬ Obligations.LockRowsComplete := by
  intro h
  obtain ⟨-, -, -, -, -, hcommit, -⟩ := h
  obtain ⟨u, hu, -, -, hcode, hstate, -⟩ := hcommit 0 0 0 _ _ inShow inShow_holds (by decide) rfl
  rw [show exec (.commit 0 0 0) inShow = _ from done_alive _ (by decide)] at hu
  obtain rfl := Host.Outcome.next.inj hu
  exact absurd (inShow_commit_code.symm.trans (hcode.trans (hstate (by decide) (by decide)))) (by decide)

/-- Refutes O40: the commit sends a core that is being handed back idle, and the external write that waited for that core lands in its
Y memory (R64), so that COMMIT_RAMPOUT does not keep memory. -/
theorem not_commitTimelineRowsComplete : ¬ Obligations.CommitTimelineRowsComplete := by
  intro h
  obtain ⟨-, -, -, hramp, -⟩ := h
  obtain ⟨u, hu, -, -, -, hmem, -⟩ := hramp 0 0 atHandBack (by decide) (by decide) (by decide) (by decide) (by decide)
  rw [show exec (.commitRampout 0 0) atHandBack = _ from done_alive _ (by decide)] at hu
  obtain rfl := Host.Outcome.next.inj hu
  have hb := atHandBack_stores
  rw [State.byte, hmem] at hb
  exact absurd hb (by decide)

/-- Refutes O43: where a ring's EN holds 2, a write of TAIL is taken and TAILERR stays 0. No command writes such a value, but the
statement speaks of every state. -/
theorem not_frameRowsComplete : ¬ Obligations.FrameRowsComplete := by
  intro h
  obtain ⟨-, -, -, -, htail, -⟩ := h
  obtain ⟨u, hu, -, herr, -⟩ := htail 0 0 0 0 ringEnAtTwo (by decide) (by decide) ringEnAtTwo_admitted
  rw [show exec (.ringTailWrite 0 0 0 0) ringEnAtTwo = _ from done_alive _ ringEnAtTwo_admitted.alive] at hu
  obtain rfl := Host.Outcome.next.inj hu
  rw [if_neg (by decide)] at herr
  exact absurd (ringEnAtTwo_takes.symm.trans herr.1) (by decide)
end

section
namespace Sys2Proof.Machine

/-! ## O52: a word that error correction cannot correct -/

theorem doneSpi_alive {s : State} (n : Nat) (t : State) (h : s.alive = true) : doneSpi n s t = .next (sumTick s t) := by
  simp [doneSpi, h, done_alive]

/-- Slot 5 is enabled, and region 0 of the DRAM target lets master HS read the first 4 KiB. -/
def hsReadsDram : State :=
  (((inShow.set (F.SLOTn_CTRL_EN 5) 1).set (F.RGN_EN 6 0) 1).set (F.RGN_BASE 6 0) 0x100000).set (F.RGN_LIMIT 6 0) 0x100000
    |>.set (F.RGN_RMASK 6 0) (2 ^ mHS)

theorem hsReadsDram_open : WordOpen mHS 0x100000000 false 0 (hsReadsDram.atTime 0) :=
  ⟨by decide, ⟨6, by decide, by decide, by decide, by decide⟩, by decide, by decide, by decide, by decide⟩

/-- The uncorrectable error is answered with an error, which sets ERR (R94, R371). -/
theorem hsReadsDram_err : (sumTick hsReadsDram (spiRead 0x100000000 1 [] [.ue] (hsReadsDram.atTime 0))).host.err = true := by
  rw [sumTick_host]
  decide

end Sys2Proof.Machine
end

section
open Sys2Proof Sys2Proof.Machine

/-- Refutes O52: the clause of READ leaves open what error correction meets on the word, and an uncorrectable error sets ERR. -/
theorem not_spiRowsComplete : ¬ Obligations.SpiRowsComplete := by
  intro h
  obtain ⟨-, hread, -⟩ := h
  obtain ⟨⟨u, hu, -, hopen, -⟩, -⟩ := hread 0x100000000 1 0 [] [.ue] hsReadsDram (by decide)
  have hx := doneSpi_alive (s := hsReadsDram) (4 * 1) (spiRead 0x100000000 1 [] [.ue] (hsReadsDram.atTime 0)) (by decide)
  rw [show exec (.spiRead 0x100000000 1 ⟨[], [.ue]⟩ 0) hsReadsDram = _ from hx] at hu
  obtain rfl := Host.Outcome.next.inj hu
  have herr := (hopen rfl rfl hsReadsDram_open).2.1
  exact absurd (hsReadsDram_err.symm.trans herr) (by decide)
end

section
/-!
ACCESSES AND LOCK COMMANDS. A scratch register's write, an access to memory, a decode error, and a lock command of a master that
does not hold the lock.
-/
namespace Sys2Proof.Machine

/-! ## Scratch registers -/

theorem fieldsAt_scratch {j : Nat} (hj : j < 4) : fieldsAt (A.SYS_SCRATCH j) = [F.SYS_SCRATCH_DATA j] := by
  interval_cases j <;> rfl

/-- A write of a scratch register is plain, on the state with a latch dropped at most. -/
theorem regWrite_scratch {j : Nat} (m v : Nat) (s : State) (hj : j < 4) :
    ∃ l, regWrite m (A.SYS_SCRATCH j) v s = ({ s with latch := l } : State).set (F.SYS_SCRATCH_DATA j) (v % 2 ^ 32) := by
  have hplain : ∀ w : State, wrSYS (A.SYS_SCRATCH j) v w = w.set (F.SYS_SCRATCH_DATA j) (v % 2 ^ 32) := fun w => by
    rw [show wrSYS (A.SYS_SCRATCH j) v w = w.writeRegPlain (A.SYS_SCRATCH j) v by interval_cases j <;> rfl,
      writeRegPlain_single v w (fieldsAt_scratch hj) rfl]
    simp [F.SYS_SCRATCH_DATA, bits]
  have hsel : s.bankSel (A.SYS_SCRATCH j) = some 0 := by interval_cases j <;> rfl
  have hblock : A.SYS_SCRATCH j / 0x10000 = 0x2000 := by simp only [A.SYS_SCRATCH]; omega
  unfold regWrite
  rw [if_neg (by simp only [A.SYS_SCRATCH]; omega)]
  simp only [hsel, hblock, Nat.mul_zero, Nat.add_zero]
  rw [if_neg (by simp only [A.SYS_SCRATCH]; omega)]
  split
  · exact ⟨_, hplain _⟩
  · exact ⟨s.latch, hplain _⟩

/-! ## Memory accesses -/

theorem afterAbort_same_dly {r s : State} (h : s.dly = r.dly) : afterAbort r s = s := by
  unfold afterAbort
  split
  · next k hk => simp [h, hk]
  · rfl

theorem memWrite_plain {t : Nat} (a : Nat) (bs : List Byte) (s : State) (h3 : t ≠ 3) (h4 : t ≠ 4) :
    memWrite t a bs s = s.setBytes a bs := by
  simp [memWrite, h3, h4]

theorem memEcc_clean (t a : Nat) (s : State) : memEcc t a .clean s = s := by
  simp only [memEcc]

theorem State.setBytes_dly (s : State) (a : Nat) (l : List Byte) : (s.setBytes a l).dly = s.dly := by
  obtain ⟨u, hu⟩ := s.setBytes_only a l
  rw [hu]

/-- An admitted access to a memory that is neither a core's nor a matrix bank's. -/
theorem access_memory {x : Acc1} {t : Nat} (v : Nat) {s : State} (h : Admitted x s) (ht : targetOf x.a = some (.mem t)) (h3 : t ≠ 3)
    (h4 : t ≠ 4) (hon : s.memOn t = true) :
    access x v .clean s = if x.wr then (s.setBytes x.a (leBytes x.w v)).respond x.m 0 false false
      else s.respond x.m (leNat (s.bytes x.a x.w)) false false := by
  have hx : access1 x v .clean s = if x.wr then (s.setBytes x.a (leBytes x.w v)).respond x.m 0 false false
      else s.respond x.m (leNat (s.bytes x.a x.w)) false false := by
    simp only [access1, h.served, h.passes, ht, hon, Bool.not_true, Bool.false_eq_true, if_false, memWrite_plain _ _ _ h3 h4,
      memEcc_clean, State.memRead, if_neg h3]
    rfl
  rw [access, hx]
  refine afterAbort_same_dly ?_
  split
  · exact s.setBytes_dly ..
  · rfl

/-- An access to an address outside every region. -/
theorem access_decode {x : Acc1} (v : Nat) {s : State} (hserved : s.served x.m = true) (ht : targetOf x.a = none) :
    access x v .clean s = (captureDecode x s).respond x.m 0 true true := by
  have hx : access1 x v .clean s = (captureDecode x s).respond x.m 0 true true := by
    simp [access1, hserved, State.check, ht]
  rw [access, hx]
  refine afterAbort_same_dly ?_
  unfold captureDecode
  split <;> rfl

theorem exec_fabricWrite {m a w v : Nat} {s : State} (ha : a < 2 ^ 40) (halive : s.alive = true) :
    exec (.memoryAccess .fabric m a w true v .clean) s = .next (sumTick s
      (access { m := m, a := a, w := w, wr := true, val := v % 2 ^ (8 * w) } (v % 2 ^ (8 * w)) .clean s)) := by
  rw [exec_memoryAccess, execMemoryAccess, if_neg (by simp), done_alive _ halive, memAccess, Nat.mod_eq_of_lt ha]

theorem exec_fabricRead {m a w v : Nat} {s : State} (ha : a < 2 ^ 40) (halive : s.alive = true) :
    exec (.memoryAccess .fabric m a w false v .clean) s = .next (sumTick s
      (access { m := m, a := a, w := w, wr := false, val := v % 2 ^ (8 * w) } (v % 2 ^ (8 * w)) .clean s)) := by
  rw [exec_memoryAccess, execMemoryAccess, if_pos (by decide), doneRead_alive _ halive, memAccess, Nat.mod_eq_of_lt ha]

theorem exec_fabric {m a w v : Nat} (wr : Bool) {s : State} (ha : a < 2 ^ 40) (halive : s.alive = true) :
    exec (.memoryAccess .fabric m a w wr v .clean) s = .next (sumTick s
      (access { m := m, a := a, w := w, wr := wr, val := v % 2 ^ (8 * w) } (v % 2 ^ (8 * w)) .clean s)) := by
  cases wr
  · exact exec_fabricRead ha halive
  · exact exec_fabricWrite ha halive

/-! ## Decode errors (R24, R32) -/

section
variable {x : Acc1} {s : State}

/-- The first decode error is captured. -/
theorem captureDecode_first (h : s.get F.SYS_ERRINFO_VALID = 0) (ha : x.a < 2 ^ 40) :
    (captureDecode x s).get F.SYS_ERRINFO_VALID = 1 ∧ (captureDecode x s).get F.SYS_ERRADDR_LO_ADDR_LO = x.a % 2 ^ 32
      ∧ (captureDecode x s).get F.SYS_ERRADDR_HI_ADDR_HI = x.a / 2 ^ 32 ∧ (captureDecode x s).get F.SYS_ERRINFO_MASTER = x.m % 32
      ∧ (captureDecode x s).get F.SYS_ERRINFO_WRITE = x.wr.toNat := by
  have hoff : s.on F.SYS_ERRINFO_VALID = false := by simp [State.on, h]
  have hhi : x.a / 2 ^ 32 % 2 ^ 8 = x.a / 2 ^ 32 := Nat.mod_eq_of_lt (by omega)
  have hwr : x.wr.toNat % 2 ^ 1 = x.wr.toNat := Nat.mod_eq_of_lt (by cases x.wr <;> decide)
  simp only [captureDecode, hoff, Bool.false_eq_true, if_false]
  refine ⟨?_, ?_, ?_, ?_, ?_⟩
  all_goals simp (disch := decide) only [State.get_set_other, State.get_set_same]
  · rfl
  · rfl
  · exact hhi
  · rfl
  · exact hwr

/-- A later one sets OVF only. -/
theorem captureDecode_later (h : s.get F.SYS_ERRINFO_VALID ≠ 0) : captureDecode x s = s.set F.SYS_ERRINFO_OVF 1 := by
  simp [captureDecode, State.on, h]

end

/-! ## Lock commands (R151) -/

/-- Under the conditions of R151 a command of a master that does not hold the lock is NOTHOLDER. -/
theorem secCommand_foreign {i m tk op : Nat} {s : State} (h2 : 2 ≤ op) (h7 : op ≤ 7) (hlapsed : s.lapsed i = false)
    (happly : s.get F.SYS_MODE_STAT_APPLYING = 0)
    (hforeign : s.lockState i = lkFREE ∨ s.get (F.SECn_LOCK_HOLDER i) ≠ m ∨ s.get (F.SECn_LOCK_TICKET i) ≠ tk) :
    secCommand i m tk op s = (rjNOTHOLDER, s) := by
  have hoff : s.on F.SYS_MODE_STAT_APPLYING = false := by simp [State.on, happly]
  have hf : (s.lockState i == lkFREE || s.get (F.SECn_LOCK_HOLDER i) != m || s.get (F.SECn_LOCK_TICKET i) != tk) = true := by
    simpa [or_assoc] using hforeign
  simp only [secCommand, hlapsed, hoff, Bool.false_eq_true, if_false, Bool.and_false, Bool.false_and]
  rw [if_neg (by simp; omega), if_neg (by omega), if_pos (by simpa using hf)]

end Sys2Proof.Machine
end

section
open Sys2Proof Sys2Proof.Machine

/-- Settles O12: the write reaches the register's one field. -/
theorem registerWriteCompletes : Obligations.RegisterWriteCompletes := by
  intro m j v s hj h
  have ha : A.SYS_SCRATCH j % 2 ^ 32 = A.SYS_SCRATCH j := by simp only [A.SYS_SCRATCH]; omega
  obtain ⟨l, hl⟩ := regWrite_scratch m (v % 2 ^ 32) s hj
  have hquiet : Fd.quiet (F.SYS_SCRATCH_DATA j) = true :=
    Fd.quiet_of_block (by simp [F.SYS_SCRATCH_DATA]) (.inl (by simp only [F.SYS_SCRATCH_DATA, A.SYS_SCRATCH]; omega))
  refine ⟨_, (done_alive _ h.alive :), ?_⟩
  rw [guardedV_admitted _ h, ha, hl]
  refine ⟨?_, answers_sumTick .., keepsFields_sumTick _ _ _ _ (keepsFields_set _ _ { s with latch := l }),
    keepsStore_sumTick _ _ _ _ ⟨rfl, rfl, rfl⟩⟩
  rw [sumTick_get _ _ hquiet, State.get_respond, State.get_set_same]
  simp [Fd.width, F.SYS_SCRATCH_DATA]

/-- Settles O14: an admitted access writes, or answers, the bytes at its address. -/
theorem memoryAccessCompletes : Obligations.MemoryAccessCompletes := by
  intro m a w v t s ha ht h3 h4 hon
  constructor
  · intro h
    refine ⟨_, exec_fabricWrite ha h.alive, ?_⟩
    rw [access_memory _ h ht h3 h4 hon]
    simp only [if_true]
    refine ⟨fun x => State.byte_congr (sumTick_mem ..) x, fun x hx => ?_,
      keepsFields_sumTick _ _ _ _ (.of_fld _ (s.setBytes_fld ..))⟩
    rw [State.byte_congr (sumTick_mem ..)]
    exact State.byte_setBytes_out _ _ _ (by simpa [leBytes_length] using hx)
  · intro h
    refine ⟨_, exec_fabricRead ha h.alive, ?_⟩
    rw [access_memory _ h ht h3 h4 hon]
    exact ⟨by rw [sumTick_bus]; rfl, keepsFields_sumTick _ _ _ _ (.of_fld _ rfl), keepsStore_sumTick _ _ _ _ ⟨rfl, rfl, rfl⟩⟩

/-- Settles O15: no table is asked about an address outside every region. -/
theorem decodeErrorIsCaptured : Obligations.DecodeErrorIsCaptured := by
  intro m a w v wr s ha halive hserved ht
  refine ⟨_, exec_fabric wr ha halive, ?_⟩
  rw [access_decode _ hserved ht]
  generalize hx : ({ m := m, a := a, w := w, wr := wr, val := v % 2 ^ (8 * w) } : Acc1) = x
  refine ⟨by rw [sumTick_bus]; subst hx; rfl, ?_, ?_⟩
  · rw [sumTick_mem, State.respond_mem, captureDecode]
    split <;> rfl
  split
  · next hv =>
    simp only [sumTick_get _ _ (show Fd.quiet F.SYS_ERRINFO_VALID = true by decide),
      sumTick_get _ _ (show Fd.quiet F.SYS_ERRADDR_LO_ADDR_LO = true by decide),
      sumTick_get _ _ (show Fd.quiet F.SYS_ERRADDR_HI_ADDR_HI = true by decide),
      sumTick_get _ _ (show Fd.quiet F.SYS_ERRINFO_MASTER = true by decide),
      sumTick_get _ _ (show Fd.quiet F.SYS_ERRINFO_WRITE = true by decide), State.get_respond]
    subst hx
    exact captureDecode_first hv ha
  · next hv =>
    rw [captureDecode_later hv]
    refine ⟨?_, keepsFields_sumTick _ _ _ _ (keepsFields_set _ _ _)⟩
    rw [sumTick_get _ _ (by decide), State.get_respond, State.get_set_same]
    rfl

/-- Settles O39: the lock is asked for its holder before any command acts. -/
theorem foreignLockCommandIsRejected : Obligations.ForeignLockCommandIsRejected := by
  intro m i tk op s hi htk h2 h7 h hlapsed happly hforeign
  have htick : (tk % 65536 * 65536 + op) / 65536 = tk := by omega
  have hop : (tk % 65536 * 65536 + op) % 16 = op := by omega
  refine ⟨_, (done_alive _ h.alive :), ?_⟩
  rw [guarded_admitted _ h]
  simp only [wrSecCmd, htick, hop, secCommand_foreign h2 h7 hlapsed happly hforeign]
  have hquiet : ∀ f : Fd, f.lsb < 32 → f.addr = A.SECn_RESULT i → Fd.quiet f = true := fun f hl hf =>
    Fd.quiet_of_block hl (.inl (by rw [hf, A.SECn_RESULT]; omega))
  refine ⟨answers_sumTick .., ?_, ?_, keepsFields_sumTick _ _ _ _ (.set _ (.set _ (.of_fld _ rfl) (by simp)) (by simp)),
    keepsStore_sumTick _ _ _ _ ⟨rfl, rfl, rfl⟩, by rw [sumTick_rvc]; rfl⟩
  · rw [sumTick_get _ _ (hquiet _ (by simp [F.SECn_RESULT_LASTOP]) rfl), State.get_respond,
      State.get_set_other _ _ (by simp only [Fd.key, F.SECn_RESULT_LASTOP, F.SECn_RESULT_CODE]; omega), State.get_set_same]
    simp only [Fd.width, F.SECn_RESULT_LASTOP]
    omega
  · rw [sumTick_get _ _ (hquiet _ (by simp [F.SECn_RESULT_CODE]) rfl), State.get_respond, State.get_set_same]
    rfl
end

section
/-!
REGISTER WRITES AND WINDOWS. What a plain register write leaves alone; the flush of translation windows, the lines and windows of the
surveillance unit, and wakes.
-/
namespace Sys2Proof.Machine

/-! ## Plain register writes -/

/-- A state in whose fields `x` was the last to be written to `f` reads it there. -/
theorem get_of_set {t : State} {f : Fd} {x : Nat} {l : SMap Nat} (h : t.fld = mset f.rst (Fd.key f) x l) : t.get f = x := by
  rw [State.get, h, mget_mset_same]

/-- The same where the command ends with the summary's count. -/
theorem sumTick_get_of_set {r t : State} {f : Fd} {x : Nat} {l : SMap Nat} (hq : Fd.quiet f = true)
    (h : t.fld = mset f.rst (Fd.key f) x l) : (sumTick r t).get f = x :=
  (sumTick_get r t hq).trans (get_of_set h)

theorem State.writeField_get_other (s : State) (v : Nat) {f g : Fd} (h : Fd.key g ≠ Fd.key f) :
    (s.writeField v f).get g = s.get g := by
  unfold State.writeField
  dsimp only
  split <;> first | rfl | exact s.get_set_other _ h

/-- A plain write leaves the fields of other registers alone. -/
theorem State.writeRegPlain_get_other (s : State) (a v : Nat) {g : Fd} (h : ∀ f ∈ fieldsAt a, Fd.key g ≠ Fd.key f) :
    (s.writeRegPlain a v).get g = s.get g := by
  unfold State.writeRegPlain
  generalize fieldsAt a = l at h
  induction l generalizing s with
  | nil => rfl
  | cons f l ih =>
    rw [List.foldl_cons, ih _ (fun e he => h e (List.mem_cons_of_mem _ he)), s.writeField_get_other v (h f List.mem_cons_self)]

/-- A plain write writes only fields. -/
theorem State.writeRegPlain_only (s : State) (a v : Nat) : ∃ l, s.writeRegPlain a v = { s with fld := l } := by
  unfold State.writeRegPlain
  generalize fieldsAt a = l
  induction l generalizing s with
  | nil => exact ⟨s.fld, rfl⟩
  | cons f l ih =>
    have hf : ∃ l, s.writeField v f = { s with fld := l } := by
      unfold State.writeField
      dsimp only
      split
      case h_2 | h_3 | h_6 => exact ⟨s.fld, rfl⟩
      all_goals exact ⟨_, rfl⟩
    obtain ⟨m, hm⟩ := hf
    obtain ⟨n, hn⟩ := ih (s.writeField v f)
    exact ⟨n, by rw [List.foldl_cons, hn, hm]⟩

theorem keepsStore_writeRegPlain (s : State) (a v : Nat) : KeepsStore s (s.writeRegPlain a v) := by
  obtain ⟨l, hl⟩ := s.writeRegPlain_only a v
  rw [hl]
  exact ⟨rfl, rfl, rfl⟩

/-! ## Bits of a word with one bit set or cleared -/

/-- The top bit of a word, set and cleared again, is cleared. -/
theorem withBit_31_clear {v : Nat} (h : v < 2 ^ 32) : withBit (withBit v 31 true % 2 ^ 32) 31 false = withBit v 31 false := by
  have hv : v / 2 ^ 31 % 2 = 0 ∨ v / 2 ^ 31 % 2 = 1 := by omega
  rcases hv with hv | hv
  · have hb : bitOf v 31 = false := by simp only [bitOf, hv]; rfl
    have hw : withBit v 31 true = v + 2 ^ 31 := by simp [withBit, hb]
    have hset : bitOf (v + 2 ^ 31) 31 = true := by simp only [bitOf, beq_iff_eq]; omega
    rw [hw, Nat.mod_eq_of_lt (by omega)]
    simp only [withBit, hset, hb, if_true, Bool.false_eq_true, if_false]
    omega
  · have hb : bitOf v 31 = true := by simp only [bitOf, hv]; rfl
    have hw : withBit v 31 true = v := by simp [withBit, hb]
    rw [hw, Nat.mod_eq_of_lt h]

/-! ## Lines and windows of the surveillance unit (R392, R394) -/

theorem wrLineCfg_enabled {j v : Nat} {s : State} (hen : s.get (F.SURV_LINE_CFG_EN j) ≠ 0) (hv : bitOf v 31 = true) :
    wrLineCfg j v s = s := by
  simp [wrLineCfg, State.on, hen, hv]

/-- EN written 1 to a line that is not enabled: the other fields are written, then the line is enabled, or CFGERR set. -/
theorem wrLineCfg_check {j v : Nat} {s : State} (hen : s.get (F.SURV_LINE_CFG_EN j) = 0) (hv : v < 2 ^ 32) :
    wrLineCfg j (withBit v 31 true) s =
      let w := s.writeRegPlain (A.SURV_LINE_CFG j) (withBit v 31 false)
      if w.lineCfgOk j then w.set (F.SURV_LINE_CFG_EN j) 1 else w.set (F.SURV_LINE_ZSTAT_CFGERR j) 1 := by
  have hoff : s.on (F.SURV_LINE_CFG_EN j) = false := by simp [State.on, hen]
  simp only [wrLineCfg, hoff, withBit_31_clear hv, bitOf_withBit_same, Bool.not_true, Bool.false_eq_true, if_false]

/-- A window opens with the enabled lines, and writes BUSY only. -/
theorem measGo_opens {s : State} (hbusy : s.get F.SURV_STAT_BUSY = 0) (hfence : s.fencedGroup 21 = false) :
    measGo s = { s.set F.SURV_STAT_BUSY 1 with
      surv := { s.surv with win := some { len := s.measLen, lines := (List.range 32).filter (fun j => s.on (F.SURV_LINE_CFG_EN j)) } } } := by
  simp [measGo, State.on, hbusy, hfence]

/-- A field outside the register is none of the register's. -/
theorem key_ne_survCtrl {g : Fd} (hg : g.lsb < 32) (h : g.addr ≠ A.SURV_CTRL) : ∀ f ∈ fieldsAt A.SURV_CTRL, Fd.key g ≠ Fd.key f := by
  have hall : ∀ f ∈ fieldsAt A.SURV_CTRL, f.addr = A.SURV_CTRL ∧ f.lsb < 32 := by decide
  exact fun f hf => Fd.key_ne hg (hall f hf).2 (.inl ((hall f hf).1 ▸ h))

/-- MEAS_GO written with the other fields of SURV_CTRL. -/
theorem wrSurvCtrl_measGo {v : Nat} {s : State} (hbusy : s.get F.SURV_STAT_BUSY = 0) (hfence : s.fencedGroup 21 = false) :
    let u := wrSurvCtrl (withBit (v % 2 ^ 32) 30 true) s
    u.get F.SURV_STAT_BUSY = 1
      ∧ (∃ w, u.surv.win = some w ∧ w.first = none ∧ w.lines = (List.range 32).filter (fun j => s.on (F.SURV_LINE_CFG_EN j)))
      ∧ KeepsStore s u := by
  set w := s.writeRegPlain A.SURV_CTRL (withBit (v % 2 ^ 32) 30 true) with hw
  obtain ⟨l, hl⟩ := s.writeRegPlain_only A.SURV_CTRL (withBit (v % 2 ^ 32) 30 true)
  have hwf : w.fencedGroup 21 = false := by rw [hw, hl]; exact hfence
  have hwb : w.get F.SURV_STAT_BUSY = 0 :=
    (s.writeRegPlain_get_other _ _ (key_ne_survCtrl (by decide) (by decide))).trans hbusy
  have hlines : ∀ j, w.on (F.SURV_LINE_CFG_EN j) = s.on (F.SURV_LINE_CFG_EN j) := fun j => by
    rw [State.on, State.on, hw, s.writeRegPlain_get_other]
    exact key_ne_survCtrl (by simp [F.SURV_LINE_CFG_EN]) (by simp only [F.SURV_LINE_CFG_EN, A.SURV_LINE_CFG, A.SURV_CTRL]; omega)
  have hgo : wrSurvCtrl (withBit (v % 2 ^ 32) 30 true) s = measGo w := by
    simp only [wrSurvCtrl, ← hw, hwf, bitOf_withBit_same, Bool.false_eq_true, if_false, if_true]
  intro u
  rw [show u = _ from hgo, measGo_opens hwb hwf]
  exact ⟨get_of_set rfl, ⟨_, rfl, rfl, by simp only [hlines]⟩, keepsStore_writeRegPlain ..⟩

end Sys2Proof.Machine
end

section
open Sys2Proof Sys2Proof.Machine

/-- Settles O37: each command is one step of its unit; a window's lines are those enabled before the write of SURV_CTRL, which holds no
field of theirs. -/
theorem windowAndSurveyRowsComplete : Obligations.WindowAndSurveyRowsComplete := by
  refine ⟨fun m v s h hv => ?_, fun t s ha => ?_, fun m j v s hj h => ?_, fun m v s h hbusy hfence => ?_,
    fun t f w s ha hb hw hf hn => ?_⟩
  · refine ⟨_, (done_alive _ h.alive :), ?_⟩
    rw [guarded_admitted _ h]
    refine ⟨answers_sumTick .., ?_, fun w => ?_, ?_, ?_⟩
    all_goals simp only [wrMmuFlush, hv, Bool.not_true, Bool.false_eq_true, if_false]
    · exact sumTick_get_of_set (by decide) rfl
    · rw [sumTick_mmu]
      simp only [State.respond_mmu, List.mem_eraseDups, List.mem_append]
      split <;> simp
    · exact keepsFields_sumTick _ _ _ _ (.congr (keepsFields_set _ 1 s) rfl)
    · exact keepsStore_sumTick _ _ _ _ ⟨rfl, rfl, rfl⟩
  · refine ⟨_, (done_alive _ ha :), ?_, by rw [sumTick_mmu], by rw [sumTick_mmu]; rfl,
      .sumTick _ (.congr (keepsFields_set F.MMU_STAT_BUSY 0 s) rfl), .sumTick _ ⟨rfl, rfl, rfl⟩⟩
    exact sumTick_get_of_set (by decide) rfl
  · refine ⟨_, (done_alive _ h.alive :), ?_⟩
    rw [guarded_admitted _ h]
    refine ⟨answers_sumTick .., fun hen => ?_, fun hen => ?_, ?_⟩
    · rw [wrLineCfg_enabled hen (bitOf_withBit_same ..)]
      exact ⟨keepsFields_sumTick _ _ _ _ (.of_fld _ rfl), keepsStore_sumTick _ _ _ _ ⟨rfl, rfl, rfl⟩⟩
    · rw [wrLineCfg_check hen (Nat.mod_lt _ (by decide))]
      dsimp only
      split
      · exact sumTick_get_of_set
          (Fd.quiet_of_block (by simp [F.SURV_LINE_CFG_EN]) (by simp only [F.SURV_LINE_CFG_EN, A.SURV_LINE_CFG]; omega)) rfl
      · exact sumTick_get_of_set
          (Fd.quiet_of_block (by simp [F.SURV_LINE_ZSTAT_CFGERR]) (by simp only [F.SURV_LINE_ZSTAT_CFGERR, A.SURV_LINE_ZSTAT]; omega)) rfl
    · refine keepsStore_sumTick _ _ _ _ ?_
      by_cases hen : s.get (F.SURV_LINE_CFG_EN j) = 0
      · rw [wrLineCfg_check hen (Nat.mod_lt _ (by decide))]
        dsimp only
        split <;> exact keepsStore_writeRegPlain ..
      · rw [wrLineCfg_enabled hen (bitOf_withBit_same ..)]
        exact ⟨rfl, rfl, rfl⟩
  · refine ⟨_, (done_alive _ h.alive :), ?_⟩
    rw [guarded_admitted _ h]
    obtain ⟨hget, hsurv, hkeep⟩ := wrSurvCtrl_measGo (v := v) hbusy hfence
    exact ⟨answers_sumTick .., by rw [sumTick_get _ _ (by decide)]; exact hget, by rw [sumTick_surv]; exact hsurv,
      keepsStore_sumTick _ _ _ _ hkeep⟩
  · refine ⟨_, (done_alive _ ha :), ?_⟩
    have hm : measureDone (s.atTime t) = (w.lines.map (fun j => (j, mget {} j w.sums))).foldl loadLine
        { (s.atTime t).set F.SURV_STAT_BUSY 0 with surv := { s.surv with win := none } } := by
      have hgo : (f + w.len ≤ (s.atTime t).n && (s.atTime t).breathing) = true := by
        simpa using ⟨hn, hb⟩
      unfold measureDone
      rw [show (s.atTime t).surv.win = some w from hw]
      dsimp only
      rw [hf]
      dsimp only
      rw [if_pos hgo]
      rfl
    rw [hm]
    exact leaves_sumTick ..
end

section
/-!
WHAT AN EVENT LEAVES ALONE. Raising a fault source may fence units and stop cores, but parts of the state are out of its reach,
whatever reaction follows.
-/
namespace Sys2Proof.Machine

/-- The parts of the state that no fault event changes. -/
def State.outer (s : State) :=
  (s.now, s.fresh, s.arb, s.mmu, s.rvc, s.bus, s.strm, s.pp, s.boot, s.host, s.pmu, s.flash, s.pending, s.disp.n,
    s.disp.started, s.disp.first)

theorem outer_ite {p : Prop} [Decidable p] {x y s : State} (hx : x.outer = s.outer) (hy : y.outer = s.outer) :
    (if p then x else y).outer = s.outer := by
  split
  · exact hx
  · exact hy

/-! ## Fields, events and captures -/

theorem outer_set (f : Fd) (v : Nat) (s : State) : (s.set f v).outer = s.outer := rfl

theorem outer_setBit (f : Fd) (i : Nat) (b : Bool) (s : State) : (s.setBit f i b).outer = s.outer := rfl
theorem outer_incSat (f : Fd) (s : State) : (s.incSat f).outer = s.outer := rfl
theorem outer_setCore (p : Nat) (x : CoreS) (s : State) : (s.setCore p x).outer = s.outer := rfl
theorem outer_sys (x : SysS) (s : State) : ({ s with sys := x } : State).outer = s.outer := rfl
theorem outer_fcu (x : FcuS) (s : State) : ({ s with fcu := x } : State).outer = s.outer := rfl

theorem outer_allEvt (b : Nat) (s : State) : (allEvt b s).outer = s.outer :=
  foldl_keeps State.outer _ _ _ fun _ _ _ => rfl

theorem outer_capEvent (a b : Nat) (s : State) : (capEvent a b s).outer = s.outer := by
  refine foldl_keeps State.outer _ _ _ fun c _ w => ?_
  unfold capPush
  dsimp only
  split
  · split <;> rfl
  · rfl

/-! ## The journal -/

theorem outer_jArrive (r : JRec) (s : State) : (jArrive r s).outer = s.outer := by
  unfold jArrive
  dsimp only
  split <;> split
  · rfl
  · split
    · split <;> rfl
    · rfl
  · rfl
  · split
    · split <;> rfl
    · rfl

theorem outer_journal (t : Nat) (b : List Byte) (s : State) : (journal t b s).outer = s.outer := outer_jArrive ..

/-! ## Taps and cores -/

theorem outer_setBytes (s : State) (a : Nat) (l : List Byte) : (s.setBytes a l).outer = s.outer := by
  obtain ⟨m, h⟩ := s.setBytes_only a l
  rw [h]; rfl

theorem outer_formatStep (o : Nat) (v : Int) (n : Nat) (s : State) : (formatStep o v n s).outer = s.outer := by
  unfold formatStep
  dsimp only
  split <;> rfl

theorem outer_recordLine (v : Int) (n : Nat) (s : State) (j : Nat) : (recordLine v n s j).outer = s.outer := by
  unfold recordLine
  dsimp only
  split
  · rfl
  · split
    · split <;> exact outer_setBytes ..
    · exact outer_setBytes ..

theorem outer_commitTap (t : Nat) (v : Int) (n : Nat) (s : State) : (commitTap t v n s).outer = s.outer := by
  unfold commitTap
  dsimp only
  split
  · rfl
  · rw [recordLines, foldl_keeps State.outer _ _ _ (fun j _ w => outer_recordLine v n w j),
      foldl_keeps State.outer _ _ _ (fun o _ w => outer_formatStep o v n w)]
    rfl

theorem outer_coreWrite (c a : Nat) (l : List Byte) (s : State) : (coreWrite c a l s).outer = s.outer := by
  unfold coreWrite
  dsimp only
  split
  · exact outer_ite (outer_setBytes s a l) (outer_setBytes s a l)
  · exact outer_setBytes ..

theorem outer_stopCore (p st : Nat) (s : State) : (stopCore p st s).outer = s.outer := by
  have hland : ∀ w : State, (landY p w).outer = w.outer := fun w =>
    foldl_keeps State.outer _ _ _ fun e _ w => outer_coreWrite p e.1 e.2 w
  have hcount : (countCore p s).outer = s.outer := by
    unfold countCore
    split <;> rfl
  simp only [stopCore, leaveMem, outer_set, outer_setCore, hland, hcount]

theorem outer_endStep (s : State) : (endStep s).outer = s.outer := rfl
theorem outer_bistResult (b : Bool) (s : State) : (bistResult b s).outer = s.outer := rfl

theorem outer_dropRot (p : Nat) (r : RotS) (s : State) : (dropRot p r s).outer = s.outer := by
  have hstop : ∀ o, (if ((endStep s).logOf o).isNone && !(endStep s).coreFenced o then stopCore o rcGATED (endStep s)
      else endStep s).outer = s.outer := fun o => outer_ite (outer_stopCore o rcGATED (endStep s)) rfl
  unfold dropRot
  dsimp only
  generalize (if r.p == p then r.q else r.p) = o
  have hw := hstop o
  generalize (if ((endStep s).logOf o).isNone && !(endStep s).coreFenced o then stopCore o rcGATED (endStep s) else endStep s) = w at hw ⊢
  exact outer_ite hw (outer_ite (outer_ite hw hw) (outer_ite hw hw))

theorem outer_dropSpare (p : Nat) (s : State) : (dropSpare p s).outer = s.outer := by
  refine foldl_keeps State.outer _ _ _ fun l _ w => ?_
  split
  · exact outer_ite rfl rfl
  · rfl

theorem outer_repeatTaps (l b : Nat) (s : State) : (repeatTaps l b s).outer = s.outer := by
  refine foldl_keeps State.outer _ _ _ fun i _ w => ?_
  split
  · exact foldl_keeps State.outer _ _ _ fun t _ w => outer_commitTap ..
  · rfl

theorem outer_fenceCore (p : Nat) (s : State) : (fenceCore p s).outer = s.outer := by
  have hstop : (stopCore p rcISOLATED (showSpares (s.setCoreFenced p))).outer = s.outer := by
    rw [outer_stopCore, showSpares, outer_set, State.setCoreFenced]
    split <;> rfl
  unfold fenceCore
  extract_lets s1 s2 hold s3 d s4 s5
  have h2 : s2.outer = s.outer := hstop
  have h3 : s3.outer = s.outer := by
    unfold s3
    split
    · exact outer_ite ((outer_dropRot ..).trans h2) h2
    · exact h2
  have h4 : s4.outer = s.outer := by
    unfold s4
    split
    · exact outer_ite h3 h3
    · exact h3
  have h5 : s5.outer = s.outer := (outer_dropSpare p s4).trans h4
  clear_value s5 hold
  cases hold with
  | none => exact h5
  | some l =>
    dsimp only
    have h6 : (s5.setPhys l 0xFF).outer = s.outer := by
      unfold State.setPhys
      split <;> exact h5
    exact outer_ite ((foldl_keeps State.outer _ _ _ fun b _ w => outer_repeatTaps l b w).trans h6) h6

/-! ## Units going off -/

theorem outer_freeLock (i why : Nat) (e : Bool) (s : State) : (freeLock i why e s).outer = s.outer := by
  unfold freeLock
  extract_lets h s1
  have h1 : s1.outer = s.outer := by
    refine outer_ite ?_ rfl
    split <;> rfl
  exact h1

theorem outer_breakLock (i why : Nat) (s : State) : (breakLock i why s).outer = s.outer := by
  refine outer_ite ?_ rfl
  rw [outer_setBit, outer_freeLock]
  rfl

theorem outer_breakLocksOf (m why : Nat) (s : State) : (breakLocksOf m why s).outer = s.outer :=
  foldl_keeps State.outer _ _ _ fun i _ w => outer_ite (outer_breakLock i why w) rfl

theorem outer_twinQueue (b : Bool) (l : List Byte) (s : State) : (twinQueue b l s).outer = s.outer :=
  outer_ite rfl rfl

theorem outer_sendTwin (sub : Nat) (l : List Byte) (s : State) : (sendTwin sub l s).outer = s.outer :=
  outer_ite rfl ((outer_twinQueue ..).trans rfl)

theorem outer_queueFlatline (c src : Nat) (s : State) : (queueFlatline c src s).outer = s.outer :=
  outer_ite rfl ((outer_twinQueue ..).trans rfl)

theorem outer_setTlink (l : Nat) (s : State) : (setTlink l s).outer = s.outer :=
  outer_ite rfl (outer_allEvt ..)

theorem outer_setTrole (r : Nat) (s : State) : (setTrole r s).outer = s.outer :=
  outer_ite rfl (outer_allEvt ..)

theorem outer_pairingOff (s : State) : (pairingOff s).outer = s.outer := by
  refine outer_ite rfl ?_
  rw [outer_setTrole, outer_setTlink]
  exact outer_sendTwin ..

theorem outer_showAsrc (s : State) : (showAsrc s).outer = s.outer := by rw [showAsrc, outer_set, outer_set]
theorem outer_showSap (s : State) : (showSap s).outer = s.outer := by rw [showSap, outer_set, outer_set]
theorem outer_setAsrcCh (k : Nat) (x : AsrcCh) (s : State) : (s.setAsrcCh k x).outer = s.outer := rfl
theorem outer_setSap (p : Nat) (x : SapS) (s : State) : (s.setSap p x).outer = s.outer := rfl
theorem outer_setBsi (c : Nat) (x : BsiS) (s : State) : (s.setBsi c x).outer = s.outer := rfl

theorem outer_sapOff (p : Nat) (s : State) : (sapOff p s).outer = s.outer := by
  simp only [sapOff, outer_showSap, outer_setSap, setSapState, outer_set]

theorem outer_bsiOff (c : Nat) (s : State) : (bsiOff c s).outer = s.outer := by
  simp only [bsiOff, setBsiState, showBsi, outer_set, outer_setBsi]

theorem outer_fenceAsrc (i : Nat) (s : State) : (fenceAsrc i s).outer = s.outer := by
  have hfade : ∀ w : State, (asrcFade i w).2.outer = w.outer := fun w => by
    unfold asrcFade
    extract_lets was c x
    have hx : x.outer = w.outer := outer_ite (outer_setAsrcCh ..) rfl
    exact outer_ite (by simp only [outer_showAsrc, outer_incSat, outer_set, hx]) hx
  simp only [fenceAsrc, outer_showAsrc, outer_setAsrcCh, hfade, outer_set]

theorem outer_linkChg (p : Nat) (s : State) : (linkChg p s).outer = s.outer := by
  unfold linkChg
  extract_lets x y
  have hx : x.outer = s.outer := outer_ite rfl rfl
  exact (outer_capEvent ..).trans (outer_ite ((outer_allEvt ..).trans hx) hx)

section
variable {raise : Nat → Nat → State → State} (hraise : ∀ a b w, (raise a b w).outer = w.outer)
include hraise

theorem outer_pathDownBy (sid : Nat) (b : Bool) (s : State) : (pathDownBy raise sid b s).outer = s.outer :=
  outer_ite ((outer_allEvt ..).trans (hraise ..)) rfl

theorem outer_portPathsDownBy (p : Nat) (s : State) : (portPathsDownBy raise p s).outer = s.outer := by
  refine foldl_keeps State.outer _ _ _ fun k _ w => ?_
  extract_lets sid x
  have hx : x.outer = w.outer := outer_ite (outer_pathDownBy hraise ..) rfl
  exact outer_ite ((outer_pathDownBy hraise ..).trans hx) hx

theorem outer_leaveUpBy (p : Nat) (r : Bool) (s : State) : (leaveUpBy raise p r s).outer = s.outer := by
  refine outer_ite rfl ?_
  extract_lets x s1 s2 s3
  have h2 : s2.outer = s.outer := (outer_linkChg ..).trans rfl
  have h3 : s3.outer = s.outer := outer_ite ((outer_portPathsDownBy hraise ..).trans h2) h2
  exact outer_ite ((hraise ..).trans h3) h3

theorem outer_resetNetBy (p : Nat) (s : State) : (resetNetBy raise p s).outer = s.outer := by
  unfold resetNetBy
  extract_lets s1 pins s2 s3
  have h1 : s1.outer = s.outer := outer_leaveUpBy hraise ..
  have h2 : s2.outer = s.outer := h1
  have h3 : s3.outer = s.outer := outer_ite h2 h2
  exact h3

theorem outer_fenceUnit (src g idx : Nat) (s : State) : (fenceUnit raise src g idx s).outer = s.outer := by
  unfold fenceUnit
  split
  · exact outer_fenceCore ..
  split
  · exact outer_fenceAsrc ..
  split
  · simp only [outer_sys, outer_resetNetBy hraise]
  split
  · rw [outer_pairingOff, outer_set]
  split
  · exact outer_sapOff ..
  split
  · exact outer_ite (foldl_keeps State.outer _ _ _ fun _ _ _ => outer_bsiOff ..) (outer_bsiOff ..)
  split
  · rfl
  split
  · rfl
  split
  · rfl
  exact outer_ite (outer_breakLocksOf ..) rfl

end

/-! ## Events -/

theorem outer_noteReaction (c src idx : Nat) (s : State) : (noteReaction c src idx s).outer = s.outer := by
  simp only [noteReaction, outer_capEvent, outer_allEvt, outer_set]

theorem outer_openShadow (u e : Nat) (s : State) : (openShadow u e s).outer = s.outer := rfl

theorem outer_addRecord (r : FaultRec) (s : State) : (addRecord r s).outer = s.outer := by
  unfold addRecord
  dsimp only
  rw [outer_journal]
  exact outer_ite (p := 32 ≤ s.fcu.recs.length) rfl rfl

theorem outer_takeQuiet (src idx : Nat) (s : State) : (takeQuiet src idx s).outer = s.outer := by
  simp only [takeQuiet, outer_queueFlatline, outer_fcu, outer_noteReaction, outer_set]

theorem outer_takeHalt (src idx : Nat) (s : State) : (takeHalt src idx s).outer = s.outer := by
  simp only [takeHalt, outer_queueFlatline, outer_fcu, outer_noteReaction, outer_set]

theorem outer_hostReaction (src g idx c : Nat) (w : Bool) (s : State) : (hostReaction src g idx c w s).outer = s.outer :=
  outer_ite (outer_breakLocksOf ..) rfl

section
variable {raise : Nat → Nat → State → State} (hraise : ∀ a b w, (raise a b w).outer = w.outer)
include hraise

theorem outer_takeFence (src g idx : Nat) (s : State) : (takeFence raise src g idx s).outer = s.outer := by
  simp only [takeFence, outer_journal, outer_openShadow, outer_fenceUnit hraise, outer_noteReaction, outer_setBit, outer_fcu]

theorem outer_collect (src idx grp : Nat) (forced : Bool) (s : State) : (collect raise src idx grp forced s).outer = s.outer := by
  unfold collect
  split
  · rfl
  refine outer_ite rfl (outer_ite rfl ?_)
  extract_lets s1 s2 c0 conseq c1 last s3 c2 s4 s5
  have h2 : s2.outer = s.outer := rfl
  have h3 : s3.outer = s.outer := outer_ite rfl h2
  have h5 : s5.outer = s.outer := (outer_hostReaction ..).trans ((outer_addRecord ..).trans h3)
  clear_value s5 c2
  refine outer_ite h2 ?_
  split
  · exact (outer_takeFence hraise ..).trans h5
  · exact outer_ite h5 ((outer_takeQuiet ..).trans h5)
  · exact outer_ite h5 ((outer_takeHalt ..).trans h5)
  · exact h5

end

theorem outer_raiseDeep (k src idx : Nat) (s : State) : (raiseDeep k src idx s).outer = s.outer := by
  induction k generalizing src idx s with
  | zero => rfl
  | succ k ih => exact outer_collect ih ..

/-- A fault event changes none of the outer parts. -/
theorem outer_raiseF (src idx : Nat) (s : State) : (raiseF src idx s).outer = s.outer := outer_raiseDeep ..

end Sys2Proof.Machine
end

section
/-!
WAKES AND RESETS. What a wake source does in NAP and in STANDBY, what a warm restart keeps, and when a unit reset is released.
-/
namespace Sys2Proof.Machine

/-! ## Wakes (R379, R381) -/

theorem wakeSource_acts {b : Nat} {s : State} (h : WakeHeard b s) (ha : actsFrom b s.pstate = true) : wakeSource b s = wakeNow b s := by
  obtain ⟨hen, hhalt, hoff, htest, hfall, hboot, htarget⟩ := h
  have hfcu : (s.fcuState == 2) = false := by simpa [State.fcuState] using hhalt
  simp [wakeSource, hen, hfcu, hoff, htest, hfall, htarget, ha, hboot]

/-- A wake from NAP latches its source and begins the transition. -/
theorem wakeNow_nap {b : Nat} {s : State} (h : s.get F.PMU_STAT_PSTATE = psNAP) :
    wakeNow b s = startTransition psREADY (latchWake b s) := by
  have hp : (latchWake b s).pstate = psNAP := by
    rw [State.pstate, latchWake, State.get_set_other _ _ (by decide), State.get_set_other _ _ (by decide), h]
  simp [wakeNow, hp, psNAP, psSTANDBY]

theorem wakes_of_nap {b : Nat} {s r : State} (hb : b < 5) :
    Wakes b s.now (sumTick r (startTransition psREADY (latchWake b s))) := by
  refine ⟨?_, ?_, by rw [sumTick_pmu]; rfl, sumTick_get_of_set (by decide) rfl⟩
  · rw [sumTick_get _ _ (by decide)]
    show (((s.set F.PMU_WAKE_VALID 1).set F.PMU_WAKE_SRC (2 ^ b)).set F.PMU_STAT_BUSY 1).get F.PMU_WAKE_VALID = 1
    simp (disch := decide) only [State.get_set_other, State.get_set_same]
    rfl
  · rw [sumTick_get _ _ (by decide)]
    show (((s.set F.PMU_WAKE_VALID 1).set F.PMU_WAKE_SRC (2 ^ b)).set F.PMU_STAT_BUSY 1).get F.PMU_WAKE_SRC = 2 ^ b
    simp (disch := decide) only [State.get_set_other, State.get_set_same]
    exact Nat.mod_eq_of_lt (Nat.pow_lt_pow_right (by decide) hb)

/-! ## Warm restarts (R31, R382) -/

theorem State.setPort_only (s : State) (p : Nat) (x : PortS) : ∃ n, s.setPort p x = { s with net := n } := ⟨_, rfl⟩

theorem seatModules_only (s : State) : ∃ n, seatModules s = { s with net := n } := by
  unfold seatModules
  generalize [0, 1, 2, 3, 4] = l
  induction l generalizing s with
  | nil => exact ⟨s.net, rfl⟩
  | cons p l ih =>
    rw [List.foldl_cons]
    split
    · obtain ⟨n, hn⟩ := ih (s.setPort p { insert := s.now })
      exact ⟨n, hn⟩
    · exact ih s

theorem seatModules_fld (s : State) : (seatModules s).fld = s.fld := by
  obtain ⟨n, hn⟩ := seatModules_only s
  rw [hn]

theorem warmBase_now (s : State) : (warmBase s).now = s.now := by
  unfold warmBase
  dsimp only
  generalize hw : State.set _ F.HOST_SUMGEN_LO_GEN 0 = w
  obtain ⟨n, hn⟩ := seatModules_only w
  rw [hn, ← hw]; rfl

theorem warmBase_flash (s : State) : (warmBase s).flash = s.flash := by
  unfold warmBase
  dsimp only
  generalize hw : State.set _ F.HOST_SUMGEN_LO_GEN 0 = w
  obtain ⟨n, hn⟩ := seatModules_only w
  rw [hn, ← hw]; rfl

theorem warmBase_pending (s : State) : (warmBase s).pending = s.pending := by
  unfold warmBase
  dsimp only
  generalize hw : State.set _ F.HOST_SUMGEN_LO_GEN 0 = w
  obtain ⟨n, hn⟩ := seatModules_only w
  rw [hn, ← hw]; rfl

/-- Keep RAM stays, every other byte is cleared. -/
theorem warmBase_mem (s : State) : (warmBase s).mem = mkeep (fun a => keepBase ≤ a && a < keepBase + 0x10000) s.mem := by
  unfold warmBase
  dsimp only
  generalize hw : State.set _ F.HOST_SUMGEN_LO_GEN 0 = w
  obtain ⟨n, hn⟩ := seatModules_only w
  rw [hn, ← hw]; rfl

/-- What a warm restart from READY or SHOW leaves: a boot from the journal scan, with the clock started and the cause set. -/
structure WarmScan (cause : Fd) (s u : State) : Prop where
  boot    : u.sys.boot = .scan
  start   : u.time.start = s.now
  flash   : u.flash = s.flash
  pending : u.pending = s.pending
  mem     : u.mem = (warmBase s).mem
  pstate  : u.get F.PMU_STAT_PSTATE = psREADY
  cause   : u.get cause = 1

theorem startTime_get {f : Fd} (s : State) (h : inBlock 4 (Fd.key f / 32) = false) : (startTime s).get f = s.get f := by
  show (s.resetRegs (inBlock 4)).get f = _
  rw [State.get_resetRegs, h]; rfl

section
variable {cause : Fd} (hc : cause = F.SYS_RESET_CAUSE_SW ∨ cause = F.SYS_RESET_CAUSE_PIN ∨ cause = F.SYS_RESET_CAUSE_WDOG)
  {s : State} (hhalt : s.get F.FCU_STAT_STATE ≠ 2) (hoff : s.sys.off = false) (htest : s.sys.testMode = false)
include hc hhalt hoff htest

/-- A warm restart outside STANDBY. -/
theorem warmRestart_scan (hp : s.get F.PMU_STAT_PSTATE ≠ psSTANDBY) : WarmScan cause s (warmRestart cause s) := by
  have h1 : (s.fcuState == 2) = false := by simpa [State.fcuState] using hhalt
  have h2 : (s.pstate == psSTANDBY) = false := by simpa [State.pstate] using hp
  have hc1 : (1 : Nat) % 2 ^ Fd.width cause = 1 := by rcases hc with rfl | rfl | rfl <;> rfl
  have hne : ∀ f ∈ [F.PMU_AVS_STAT_VNOW, F.PMU_RAIL_TARGET 0, F.PMU_RAIL_OK 0, F.PMU_RAILOK_OK, F.PMU_STAT_PSTATE],
      Fd.key cause ≠ Fd.key f := by
    rcases hc with rfl | rfl | rfl <;> decide
  unfold warmRestart
  rw [if_neg (by simp [h1, hoff, htest])]
  simp only [h2, Bool.false_eq_true, if_false]
  generalize ht : (warmBase s).set cause 1 = t
  have hnow : t.now = s.now := by rw [← ht, State.set_now, warmBase_now]
  have hflash : t.flash = s.flash := by rw [← ht, State.set_flash, warmBase_flash]
  have hpending : t.pending = s.pending := by rw [← ht, State.set_pending, warmBase_pending]
  have hmem : t.mem = (warmBase s).mem := by rw [← ht, State.set_mem]
  have hcause : t.get cause = 1 := by rw [← ht, State.get_set_same, hc1]
  clear ht
  generalize hx : (if s.pstate == psNAP then setVnow t.startV (setRailOk true t 0) else t) = x
  have hnow' : x.now = s.now := by rw [← hx]; split <;> exact hnow
  have hflash' : x.flash = s.flash := by rw [← hx]; split <;> exact hflash
  have hpending' : x.pending = s.pending := by rw [← hx]; split <;> exact hpending
  have hmem' : x.mem = (warmBase s).mem := by rw [← hx]; split <;> exact hmem
  have hcause' : x.get cause = 1 := by
    rw [← hx]
    split
    · simp only [setVnow, setRailOk, State.setBit]
      rw [State.get_set_other _ _ (hne _ (by simp)), State.get_set_other _ _ (hne _ (by simp)),
        State.get_set_other _ _ (hne _ (by simp)), State.get_set_other _ _ (hne _ (by simp)), hcause]
    · exact hcause
  refine ⟨rfl, hnow', hflash', hpending', hmem', ?_, ?_⟩
  · show (startTime (x.set F.PMU_STAT_PSTATE psREADY)).get _ = _
    rw [startTime_get _ (by decide), State.get_set_same]; rfl
  · show (startTime (x.set F.PMU_STAT_PSTATE psREADY)).get _ = _
    rw [startTime_get _ (by rcases hc with rfl | rfl | rfl <;> decide), State.get_set_other _ _ (hne _ (by simp)), hcause']

/-- A warm restart from STANDBY: the rails come first (R382). -/
theorem warmRestart_rails (hp : s.get F.PMU_STAT_PSTATE = psSTANDBY) :
    Boots s.now (warmRestart cause s) ∧ (warmRestart cause s).get cause = 1 := by
  have h1 : (s.fcuState == 2) = false := by simpa [State.fcuState] using hhalt
  have h2 : (s.pstate == psSTANDBY) = true := by simpa [State.pstate] using hp
  have hc1 : (1 : Nat) % 2 ^ Fd.width cause = 1 := by rcases hc with rfl | rfl | rfl <;> rfl
  unfold warmRestart
  rw [if_neg (by simp [h1, hoff, htest])]
  simp only [h2, if_true]
  generalize ht : (warmBase s).set cause 1 = t
  have hnow : t.now = s.now := by rw [← ht, State.set_now, warmBase_now]
  have hcause : t.get cause = 1 := by rw [← ht, State.get_set_same, hc1]
  clear ht
  have hget : ∀ f, (∀ r ∈ aonRails, Fd.key f ≠ Fd.key (F.PMU_RAIL_OK r)) → Fd.key f ≠ Fd.key F.PMU_RAILOK_OK →
      (startRails t).get f = (t.set F.PMU_STAT_BUSY 1).get f := fun f hr ho => by
    have hfld : (startRails t).fld = (aonRails.foldl (setRailOk true) (t.set F.PMU_STAT_BUSY 1)).fld := by simp only [startRails]
    rw [State.get_congr hfld]
    exact foldl_keeps (fun w : State => w.get f) (setRailOk true) aonRails (t.set F.PMU_STAT_BUSY 1) fun r hm w => by
      simp only [setRailOk, State.setBit]
      rw [State.get_set_other _ _ ho, State.get_set_other _ _ (hr r hm)]
  have horigin : (startRails t).pmu.origin = t.now := by
    simp only [startRails]
    rw [foldl_keeps State.now (setRailOk true) aonRails (t.set F.PMU_STAT_BUSY 1) fun _ _ _ => rfl, State.set_now]
  generalize startRails t = x at hget horigin ⊢
  refine ⟨⟨rfl, rfl, horigin.trans hnow, ?_⟩, ?_⟩
  · show x.get _ = _
    rw [hget _ (by decide) (by decide), State.get_set_same]; rfl
  · show x.get _ = _
    rw [hget _ (by rcases hc with rfl | rfl | rfl <;> decide) (by rcases hc with rfl | rfl | rfl <;> decide),
      State.get_set_other _ _ (by rcases hc with rfl | rfl | rfl <;> decide), hcause]

end

/-! ## Unit resets (R29, R30) -/

/-- A keyed action word has its key and GO (R32). -/
theorem keyed_bits {v : Nat} (hv : Keyed v) : (bits 31 16 v == keyA55A && bitOf v 0) = true := by
  have : bits 31 16 v = 0xA55A := by rw [bits, show v / 2 ^ 16 = 0xA55A from hv.1]; rfl
  rw [this, hv.2]; rfl

theorem off_of_alive {s : State} (h : s.alive = true) : s.sys.off = false := by
  simp only [State.alive, Bool.and_eq_true, Bool.not_eq_true'] at h
  exact h.1.1.1

theorem loadBaselines_now (s : State) : (loadBaselines s).now = s.now :=
  foldl_keeps State.now _ _ _ fun _ _ _ => rfl

theorem resetUnit_now (u : Nat) (s : State) : (resetUnit u s).now = s.now := by
  unfold resetUnit
  split
  · exact congrArg Prod.fst (outer_resetNetBy outer_raiseF (u - 11) s)
  split
  · rfl
  split
  · exact foldl_keeps State.now _ _ _ fun _ _ _ => rfl
  split
  · exact loadBaselines_now _
  split <;> rfl

/-- The release of a unit whose 2 µs are over. -/
theorem unitRelease_due {k a : Nat} {s : State} (hk : s.sys.urst = some (k, a)) (hd : a + 2 * uUs ≤ s.now) :
    (unitRelease s).sys.urst = none ∧ (unitRelease s).mem = s.mem
      ∧ (unitRelease s).fld = (((s.set F.SYS_URST_STAT_BUSY 0).set F.SYS_URST_STAT_RESULT urDONE).inc F.SYS_URST_STAT_COUNT).fld := by
  unfold unitRelease
  rw [hk]
  dsimp only
  rw [if_neg (by omega)]
  split <;> exact ⟨rfl, rfl, rfl⟩

/-- The unit in reset, and since when, after a reset that nothing rejects. -/
theorem wrUrst_accepted {v g : Nat} {s : State} (hv : Keyed v) (hg : unitGroup (bits 12 8 v) = some g)
    (hf : s.fencedGroup g = false) (hu : s.sys.urst = none) : (wrUrst v s).sys.urst = some (bits 12 8 v, s.now) := by
  have hkey := keyed_bits hv
  simp only [wrUrst, hkey, hg, hf, hu, Bool.not_true, Bool.false_eq_true, if_false, Option.isSome_none, resetUnit_now]
  rfl

end Sys2Proof.Machine
end

section
open Sys2Proof Sys2Proof.Machine

/-- Settles O21: a wake source that acts from the state in force begins the transition from NAP, or the boot from STANDBY; during an
entry to a lower state it is kept for later. -/
theorem wakeRowsComplete : Obligations.WakeRowsComplete := by
  have hheard : ∀ {b t : Nat} {s : State}, WakeHeard b s → WakeHeard b (s.atTime t) := fun h => h
  have hnap : ∀ {b t : Nat} {s : State}, b < 5 → actsFrom b psNAP = true → WakeHeard b s → s.get F.PMU_STAT_PSTATE = psNAP →
      Wakes b (max s.now t) (sumTick s (wakeSource b (s.atTime t))) := fun {b t s} hb ha h hp => by
    rw [wakeSource_acts (hheard h) ((congrArg (actsFrom b) hp).trans ha), wakeNow_nap (s := s.atTime t) hp]
    exact wakes_of_nap (s := s.atTime t) hb
  have hstandby : ∀ {b t : Nat} {s : State} {c : Fd}, c = (if b == 0 then F.SYS_RESET_CAUSE_PIN else F.SYS_RESET_CAUSE_SW) →
      actsFrom b psSTANDBY = true → WakeHeard b s → s.get F.PMU_STAT_PSTATE = psSTANDBY →
      Boots (max s.now t) (sumTick s (wakeSource b (s.atTime t))) ∧ (sumTick s (wakeSource b (s.atTime t))).get c = 1 :=
    fun {b t s c} hcb ha h hp => by
    have hc : c = F.SYS_RESET_CAUSE_SW ∨ c = F.SYS_RESET_CAUSE_PIN ∨ c = F.SYS_RESET_CAUSE_WDOG := by
      rw [hcb]; split <;> simp
    have hq : Fd.quiet c = true := by rcases hc with rfl | rfl | rfl <;> decide
    rw [wakeSource_acts (hheard h) ((congrArg (actsFrom b) hp).trans ha)]
    have hlatch : ∀ f, Fd.key f ≠ Fd.key F.PMU_WAKE_VALID → Fd.key f ≠ Fd.key F.PMU_WAKE_SRC →
        (latchWake b (s.atTime t)).get f = s.get f := fun f h1 h2 => by
      rw [latchWake, State.get_set_other _ _ h2, State.get_set_other _ _ h1, State.get_atTime]
    have hp' := (hlatch F.PMU_STAT_PSTATE (by decide) (by decide)).trans hp
    have hhalt := (hlatch F.FCU_STAT_STATE (by decide) (by decide)).trans_ne h.2.1
    obtain ⟨-, -, hoff, htest, -⟩ := h
    have hw : wakeNow b (s.atTime t) = warmRestart c (latchWake b (s.atTime t)) := by
      simp only [wakeNow]
      rw [if_pos (beq_iff_eq.mpr (show (latchWake b (s.atTime t)).pstate = _ from hp')), hcb]
    rw [hw]
    obtain ⟨⟨hboot, hwarm, horigin, hbusy⟩, hcause⟩ := warmRestart_rails hc hhalt hoff htest hp'
    refine ⟨⟨?_, ?_, ?_, ?_⟩, (sumTick_get _ _ hq).trans hcause⟩
    · rwa [sumTick_sys]
    · rwa [sumTick_sys]
    · rwa [sumTick_pmu]
    · rwa [sumTick_get _ _ (by decide)]
  refine ⟨fun t s h hp => ⟨_, doneAon_on _ h.2.2.1, hnap (by decide) (by decide) h hp⟩,
    fun t k x s hen hhalt hoff htest hfall htarget hk hwoken => ?_,
    fun t s h hp => ⟨_, doneAon_on _ h.2.2.1, hstandby rfl (by decide) h hp⟩, fun t s h hp halarm hsec => ?_,
    fun t s h hp => ⟨_, doneAon_on _ h.2.2.1, hstandby rfl (by decide) h hp⟩, fun p t s h hp hp4 hen hup => ?_⟩
  · have hacts : actsFrom 0 k = true := by rcases hk with rfl | rfl <;> decide
    have hfcu : ((s.atTime t).fcuState == 2) = false := by simpa [State.fcuState] using hhalt
    have hwait : wakeSource 0 (s.atTime t) = { s.atTime t with pmu := { s.pmu with woken := some 0 } } := by
      have hen' : (s.atTime t).bit F.PMU_WAKE_EN_EN 0 = true := hen
      simp [wakeSource, hen', hfcu, hoff, htest, hfall, htarget, hacts, hwoken]
    refine ⟨_, doneAon_on _ hoff, ?_⟩
    rw [hwait]
    exact ⟨by rw [sumTick_pmu], by rw [sumTick_pmu], .sumTick _ (.of_fld _ rfl), .sumTick _ ⟨rfl, rfl, rfl⟩⟩
  · refine ⟨_, doneAon_on _ h.2.2.1, ?_⟩
    have hgo : alarm (s.atTime t) = wakeSource 1 { s.atTime t with pmu := { s.pmu with alarmed := true } } := by
      have hs : (s.atTime t).get F.PMU_ALARM_SEC ≤ (s.atTime t).aonSec := hsec
      simp only [alarm, State.atTime_pmu, halarm, Bool.not_false, Bool.true_and, decide_eq_true hs, if_true]
    have h' : WakeHeard 1 { s.atTime t with pmu := { s.pmu with alarmed := true } } := h
    rw [hgo, wakeSource_acts h' ((congrArg (actsFrom 1) hp).trans (by decide)),
      wakeNow_nap (s := { s.atTime t with pmu := { s.pmu with alarmed := true } }) hp]
    exact ⟨wakes_of_nap (s := { s.atTime t with pmu := { s.pmu with alarmed := true } }) (by decide), by rw [sumTick_pmu]; rfl⟩
  · refine ⟨_, doneAon_on _ h.2.2.1, ?_⟩
    have hgo : linkWake p (s.atTime t) = wakeSource 3 (s.atTime t) := by
      have h1 : (s.atTime t).bit F.PMU_WAKE_EN_WAKE_PORTS p = true := hen
      have h2 : (s.atTime t).portUp p = true := hup
      simp only [linkWake, h1, h2, decide_eq_true hp4, Bool.and_self, if_true]
    rw [hgo]
    exact hnap (by decide) (by decide) h hp

/-- Settles O19: a unit reset notes its instant and is released by its own rule; a warm restart keeps what `warmBase` keeps. -/
theorem resetRowsComplete : Obligations.ResetRowsComplete := by
  refine ⟨fun m v g s h hv hg hf hu => ?_, fun t k a s ha hk hd => ?_, fun m v s h hv hhalt htest hp => ?_,
    fun t s hp hhalt hoff htest => ?_, fun t s hoff hpin => ?_, fun t s hp hhalt hoff htest => ?_⟩
  · refine ⟨_, (done_alive _ h.alive :), ?_⟩
    rw [guarded_admitted _ h]
    refine ⟨answers_sumTick .., ?_⟩
    rw [sumTick_sys, State.respond_sys, wrUrst_accepted hv hg hf hu]
  · refine ⟨_, (done_alive _ ha :), ?_⟩
    obtain ⟨hsys, hmem, hfld⟩ := unitRelease_due (s := s.atTime t) hk hd
    refine ⟨by rw [sumTick_sys, hsys], ?_, ?_, ?_, by rw [sumTick_mem, hmem]; rfl⟩
    all_goals
      rw [sumTick_get _ _ (by decide), State.get_congr hfld, State.inc]
      simp (disch := decide) only [State.get_set_other, State.get_set_same]
    · rfl
    · rfl
    · rfl
  · have hkey : (bits 31 16 v == keyA55A && bitOf v 0) = true := keyed_bits hv
    refine ⟨_, (done_alive _ h.alive :), ?_⟩
    rw [guarded_admitted _ h, wrWarm, if_pos hkey]
    have hoff : s.sys.off = false := off_of_alive h.alive
    obtain ⟨hboot, hstart, hflash, hpending, hmem, hpstate, hcause⟩ := warmRestart_scan (.inl rfl) hhalt hoff htest hp
    have hm : (sumTick s ((warmRestart F.SYS_RESET_CAUSE_SW s).respond m 0 false false)).mem
        = mkeep (fun a => keepBase ≤ a && a < keepBase + 0x10000) s.mem := by
      rw [sumTick_mem, State.respond_mem, hmem, warmBase_mem]
    refine ⟨by rw [sumTick_sys]; exact hboot, by rw [sumTick_get _ _ (by decide)]; exact hcause,
      by rw [sumTick_get _ _ (by decide)]; exact hpstate, by rw [sumTick_time]; exact hstart, by rw [sumTick_flash]; exact hflash,
      by rw [sumTick_pending]; exact hpending, fun a h1 h2 => ?_, fun a h1 h2 => ?_⟩
    · simp only [State.byte, hm, mget_mkeep, decide_eq_true h1, decide_eq_true h2, Bool.and_self, if_true]
    · rw [State.byte, hm, mget_mkeep, if_neg (by omega), if_neg (by simp; omega)]
  · have hgo : resetPin (s.atTime t) = { warmRestart F.SYS_RESET_CAUSE_PIN (s.atTime t) with
        sys := { (warmRestart F.SYS_RESET_CAUSE_PIN (s.atTime t)).sys with pinHeld := true } } := by
      have h1 : (s.atTime t).pstate ≠ psSTANDBY := hp
      have h2 : (s.atTime t).fcuState ≠ 2 := hhalt
      simp only [resetPin]
      rw [if_neg (by simp [h1, h2, hoff])]
    have hcause := (warmRestart_scan (s := s.atTime t) (.inr (.inl rfl)) hhalt hoff htest hp).cause
    refine ⟨_, doneAon_on _ hoff, ?_⟩
    rw [hgo]
    refine ⟨by rw [sumTick_sys], ?_, by rw [sumTick_get _ _ (by decide)]; exact hcause⟩
    simp [State.alive, sumTick_sys]
  · exact ⟨_, doneAon_on _ hoff, leaves_sumTick ..⟩
  · obtain ⟨hboot, -, -, -, -, -, hcause⟩ := warmRestart_scan (s := s.atTime t) (.inr (.inr rfl)) hhalt hoff htest hp
    exact ⟨_, doneAon_on _ hoff, by rw [sumTick_sys]; exact hboot, by rw [sumTick_get _ _ (by decide)]; exact hcause⟩
end

section
/-!
POWER AND SUPPLIES. The journal's buffer and the flash, which a loss of power and the fall of the input act on, and the adaptive voltage.
-/
namespace Sys2Proof.Machine

/-! ## The journal's buffer -/

/-- The fields that a record's arrival at the buffer may write (R352). -/
def ligFields : List Fd := [F.LIG_STAT_QDROP, F.LIG_CNT_QDROPPED, F.LIG_KEEP_QUEUED, F.LIG_KEEP_PENDING, F.LIG_SEQ_SEQ]

theorem jShow_get {f : Fd} (s : State) (h : ∀ g ∈ ligFields, Fd.key f ≠ Fd.key g) : (jShow s).get f = s.get f := by
  rw [jShow, State.get_set_other _ _ (h _ (by simp [ligFields])), State.get_set_other _ _ (h _ (by simp [ligFields])),
    State.get_set_other _ _ (h _ (by simp [ligFields]))]

theorem jPump_get {f : Fd} (s : State) (h : ∀ g ∈ ligFields, Fd.key f ≠ Fd.key g) : (jPump s).get f = s.get f := jShow_get _ h

theorem jArrive_get {f : Fd} (r : JRec) (s : State) (h : ∀ g ∈ ligFields, Fd.key f ≠ Fd.key g) : (jArrive r s).get f = s.get f := by
  have hdrop : ∀ (w : State) (n : Nat), ((w.set F.LIG_STAT_QDROP 1).addSat F.LIG_CNT_QDROPPED n).get f = w.get f := fun w n => by
    rw [State.addSat, State.get_set_other _ _ (h _ (by simp [ligFields])), State.get_set_other _ _ (h _ (by simp [ligFields]))]
  unfold jArrive
  obtain ⟨l, n⟩ := jRoom r s.lig
  dsimp -zeta only
  extract_lets s1 s2 q
  have h2 : s2.get f = s.get f := by
    unfold s2
    split
    · rfl
    · exact hdrop ..
  split
  · rw [jPump_get _ h]; exact h2
  · split
    · split
      · exact h2
      · exact (hdrop s2 1).trans h2
    · exact h2

/-- A record's arrival changes the journal's part of the state and fields only. -/
theorem jArrive_only (r : JRec) (s : State) : ∃ m l, jArrive r s = { s with fld := m, lig := l } := by
  unfold jArrive
  obtain ⟨l, n⟩ := jRoom r s.lig
  dsimp -zeta only
  extract_lets s1 s2 q
  have h2 : ∃ m l, s2 = { s with fld := m, lig := l } := by
    unfold s2
    split <;> exact ⟨_, _, rfl⟩
  obtain ⟨m, k, h2⟩ := h2
  split
  · exact ⟨_, _, by rw [h2]; rfl⟩
  · split
    · split
      · exact ⟨_, _, by rw [h2]⟩
      · exact ⟨_, _, by rw [h2]; rfl⟩
    · exact ⟨_, _, by rw [h2]⟩

theorem journal_get {f : Fd} (t : Nat) (b : List Byte) (s : State) (h : ∀ g ∈ ligFields, Fd.key f ≠ Fd.key g) :
    (journal t b s).get f = s.get f := jArrive_get _ _ h

theorem journal_only (t : Nat) (b : List Byte) (s : State) : ∃ m l, journal t b s = { s with fld := m, lig := l } := jArrive_only ..

/-! ## What the flash's programs leave waiting -/

theorem progFlash_pending (a : Nat) (l : List Byte) (s : State) : (progFlash a l s).pending = s.pending := by
  induction l generalizing a s with
  | nil => rfl
  | cons b r ih =>
    rw [progFlash, ih]
    split <;> rfl

theorem raiseF_pending (src idx : Nat) (s : State) : (raiseF src idx s).pending = s.pending := by
  have h := outer_raiseF src idx s
  simp only [State.outer, Prod.mk.injEq] at h
  exact h.2.2.2.2.2.2.2.2.2.2.2.2.1

theorem placeHead_pending (n : Nat) (s : State) : (placeHead n s).pending = s.pending := by
  unfold placeHead
  split <;> rfl

theorem showRing_pending (s : State) : (showRing s).pending = s.pending := by
  simp only [showRing, State.set_pending]

theorem eraseSector_pending (k : Nat) (ok : Bool) (s : State) : (eraseSector k ok s).pending = s.pending := by
  unfold eraseSector
  dsimp only
  split
  · unfold retire
    extract_lets s1 s2 s3
    have h1 : s1.pending = s.pending := progFlash_pending ..
    have h3 : s3.pending = s.pending := by
      unfold s3
      split <;> exact h1
    rw [raiseF_pending, showRing_pending, State.set_pending, h3]
  · rw [showRing_pending]
    exact progFlash_pending ..

theorem setLig_pending (g : LigS → LigS) (s : State) : (setLig g s).pending = s.pending := rfl

theorem writeRec_pending {r : JRec} {s u : State} (h : writeRec r s = some u) : u.pending = s.pending := by
  unfold writeRec at h
  extract_lets s1 k s2 s3 at h
  have h1 : s1.pending = s.pending := placeHead_pending ..
  have h2 : s2.pending = s1.pending := progFlash_pending _ _ s1
  have h3 : s3.pending = s2.pending := setLig_pending _ s2
  clear_value s3 s2 s1
  split at h
  · exact absurd h (by simp)
  · rw [← Option.some.inj h, showRing_pending, h3, h2, h1]

theorem writeAll_pending {l : List JRec} {s u : State} (h : writeAll l s = some u) : u.pending = s.pending := by
  induction l generalizing s with
  | nil => cases h; rfl
  | cons r l ih =>
    simp only [writeAll] at h
    split at h
    · cases h
    · next w hw =>
      rw [ih h]
      refine (writeRec_pending hw).trans ?_
      split
      · exact (eraseSector_pending ..).trans (placeHead_pending ..)
      · exact placeHead_pending ..

theorem cutRecord_pending (r : JRec) (n : Nat) (s : State) : (cutRecord r n s).pending = s.pending := by
  simp only [cutRecord]
  split
  · exact (progFlash_pending ..).trans (placeHead_pending ..)
  · exact placeHead_pending ..

theorem cutList_pending (l : List JRec) (k n : Nat) (s : State) : (cutList l k n s).pending = s.pending := by
  induction k generalizing l s with
  | zero => cases l with
    | nil => rfl
    | cons r l => exact cutRecord_pending ..
  | succ k ih => cases l with
    | nil => rfl
    | cons r l =>
      rw [cutList]
      split
      · next w hw => rw [ih, writeAll_pending hw]
      · rfl

theorem cutFlash_pending (c : Cut) (s : State) : (cutFlash c s).pending = s.pending := by
  cases c with
  | none => rfl
  | erase =>
    unfold cutFlash
    extract_lets k may
    simp only []
    split <;> rfl
  | header n =>
    unfold cutFlash
    extract_lets k may
    simp only []
    split
    · rfl
    · exact progFlash_pending ..
  | record n =>
    simp only [cutFlash]
    split
    · split
      · exact cutRecord_pending ..
      · rfl
    · rfl
  | checkpoint j n =>
    simp only [cutFlash]
    split
    · exact cutList_pending ..
    · rfl

/-! ## Cold state -/

/-- After the AON power-on reset only the fuses and the module balls differ from their reset values. -/
theorem coldState_get {f : Fd} (s : State) (hf : fuseKey (Fd.key f) = false) (hp : pinKey (Fd.key f) = false) : (coldState s).get f = f.rst := by
  rw [State.get, coldState, seatModules_fld, mget_mkeep, hf, hp]
  rfl

theorem coldState_mem (s : State) : (coldState s).mem = [] := by
  unfold coldState
  dsimp only
  obtain ⟨n, hn⟩ := seatModules_only _
  rw [hn]

theorem coldState_only (s : State) : ∃ n, coldState s = { ({} : State) with
    now := s.now, fresh := s.fresh, flash := s.flash, pending := s.pending, net := n
    fld := mkeep (fun k => fuseKey k || pinKey k) s.fld, pmu := { aonAt := s.now } } := by
  unfold coldState
  dsimp only
  obtain ⟨n, hn⟩ := seatModules_only _
  exact ⟨n, hn⟩

/-! ## The adaptive voltage (R386) -/

theorem State.clamp_le (s : State) (v : Nat) : max s.vmin (min s.vmax v) ≤ 850 := by
  have h1 : s.vmin ≤ 850 := by unfold State.vmin; omega
  have h2 : s.vmax ≤ 850 := by unfold State.vmax; omega
  omega

theorem avsTo_vnow (v : Nat) (s : State) : (avsTo v s).get F.PMU_AVS_STAT_VNOW = max s.vmin (min s.vmax v) := by
  rw [avsTo, setVnow, State.get_set_other _ _ (by decide), State.get_set_same]
  exact Nat.mod_eq_of_lt (Nat.lt_of_le_of_lt (s.clamp_le v) (by decide))

theorem avsTo_target (v : Nat) (s : State) : (avsTo v s).get (F.PMU_RAIL_TARGET 0) = max s.vmin (min s.vmax v) := by
  rw [avsTo, setVnow, State.get_set_same]
  exact Nat.mod_eq_of_lt (Nat.lt_of_le_of_lt (s.clamp_le v) (by decide))

theorem avsTo_keeps (v : Nat) (s : State) : KeepsFields [F.PMU_AVS_STAT_VNOW, F.PMU_RAIL_TARGET 0] s (avsTo v s) :=
  ((KeepsFields.of_fld _ rfl).set _ (by simp)).set _ (by simp)

/-! ## The input falls (R350) -/

theorem twinQueue_only (b : Bool) (l : List Byte) (s : State) : ∃ n, twinQueue b l s = { s with net := n } := by
  unfold twinQueue
  split
  · exact ⟨s.net, rfl⟩
  · exact ⟨_, rfl⟩

/-- A FLATLINE only enters the transmit queue of the TWIN port. -/
theorem queueFlatline_only (c src : Nat) (s : State) : ∃ w n, queueFlatline c src s = { s with twin := w, net := n } := by
  unfold queueFlatline
  split
  · exact ⟨s.twin, s.net, rfl⟩
  · unfold putTwin
    extract_lets
    obtain ⟨n, hn⟩ := twinQueue_only _ _ _
    exact ⟨_, n, hn⟩

theorem hoursRecord_lig (s : State) : (hoursRecord true s).lig.queued = s.lig.queued ∧ (hoursRecord true s).lig.flush = s.lig.flush :=
  ⟨rfl, rfl⟩

theorem hoursRecord_get {f : Fd} (s : State) (h : ∀ g ∈ ligFields, Fd.key f ≠ Fd.key g) : (hoursRecord true s).get f = s.get f := by
  unfold hoursRecord
  dsimp only
  rw [if_pos rfl, jShow_get _ h]
  rfl

/-- An input fall that is heard starts the shutdown: the instant is noted, a transition ends, and the journal flushes. -/
theorem inputFall_does {s : State}
    (h : (s.fcuState == 2 || s.pmu.fallAt.isSome || s.sys.off || (s.pstate == psSTANDBY && !s.booting)) = false) :
    (inputFall s).pmu.fallAt = some s.now ∧ (inputFall s).pmu.target = none ∧ (inputFall s).get F.PMU_STAT_BUSY = 0
      ∧ (inputFall s).lig.queued = [] ∧ (inputFall s).lig.flush = true := by
  have hnow : (raiseF 92 0 s).now = s.now := congrArg Prod.fst (outer_raiseF 92 0 s)
  unfold inputFall
  rw [if_neg (by rw [h]; decide)]
  generalize raiseF 92 0 s = r at hnow
  extract_lets r0 q q2 s1 s2 s3 s4
  have h1 : s1.pmu.fallAt = some s.now ∧ s1.pmu.target = none ∧ s1.get F.PMU_STAT_BUSY = 0 :=
    ⟨congrArg some hnow, rfl, (State.get_set_same r F.PMU_STAT_BUSY 0 :)⟩
  clear_value s1
  have h2 : s2.pmu.fallAt = some s.now ∧ s2.pmu.target = none ∧ s2.get F.PMU_STAT_BUSY = 0 := by
    obtain ⟨w, n, hw⟩ := queueFlatline_only 2 92 s1
    unfold s2
    rw [hw]
    exact h1
  clear_value s2
  have h3 : s3.pmu.fallAt = some s.now ∧ s3.pmu.target = none ∧ s3.get F.PMU_STAT_BUSY = 0 := by
    unfold s3
    split
    · exact h2
    · obtain ⟨hat, htarget, hbusy⟩ := h2
      exact ⟨hat, htarget, by rw [State.get_set_other _ _ (by decide)]; exact hbusy⟩
  clear_value s3
  obtain ⟨hat, htarget, hbusy⟩ := h3
  exact ⟨hat, htarget, (hoursRecord_get s4 (by decide)).trans hbusy, (hoursRecord_lig s4).1, (hoursRecord_lig s4).2⟩

end Sys2Proof.Machine
open Sys2Proof Sys2Proof.Machine

/-- Settles O16: a power-on reset and a loss of power both leave the cold state, which keeps fuses, module balls, flash and queue. -/
theorem powerRowsComplete : Obligations.PowerRowsComplete := by
  unfold Obligations.PowerRowsComplete
  refine ⟨fun test t s hoff => ?_, fun c t s hoff => ?_⟩
  · have hoff' : (s.atTime t).sys.off = true := hoff
    refine ⟨_, rfl, ?_⟩
    simp only [hoff', if_true]
    have hget := fun f (h1 : fuseKey (Fd.key f) = false) (h2 : pinKey (Fd.key f) = false) => coldState_get (s.atTime t) h1 h2
    have hpstate := hget F.PMU_STAT_PSTATE (by decide) (by decide)
    obtain ⟨n, hn⟩ := coldState_only (s.atTime t)
    rw [hn] at hget hpstate ⊢
    exact ⟨trivial, rfl, rfl, hpstate, hget, rfl, rfl, rfl, rfl⟩
  · have hoff' : (s.atTime t).sys.off = false := hoff
    refine ⟨_, rfl, ?_⟩
    simp only [hoff', Bool.false_eq_true, if_false]
    obtain ⟨n, hn⟩ := coldState_only (cutFlash c (s.atTime t))
    rw [hn]
    refine ⟨trivial, rfl, rfl, cutFlash_pending c (s.atTime t), fun hc => ?_⟩
    subst hc
    rfl

/-- Settles O22: rails, voltage, monitor and input, each under its own guard. -/
theorem supplyRowsComplete : Obligations.SupplyRowsComplete := by
  unfold Obligations.SupplyRowsComplete
  refine ⟨fun r t s hr hoff hon hbelow => ?_, fun r t s hr hoff hon => ?_, fun up t s hoff hruns hv => ?_, fun t s hoff hruns => ?_,
    fun rails temps vin vhold bandgap t s hoff => ⟨_, doneAon_on _ hoff, leaves_sumTick ..⟩, fun t s hhalt hfall hoff hp => ?_,
    fun t f s hfall hf => ?_⟩
  · refine ⟨_, doneAon_on _ hoff, ?_⟩
    have hbelow' : (s.atTime t).pmu.below.contains r = false := hbelow
    simp only [railUnder, hon, hbelow', Bool.not_false, Bool.and_self, if_true]
    exact leaves_sumTick ..
  · refine ⟨_, doneAon_on _ hoff, ?_⟩
    simp only [railOver, hon, if_true]
    exact leaves_sumTick ..
  · refine ⟨_, doneAon_on _ hoff, ?_⟩
    simp only [avsStep, hruns, if_true]
    generalize hw : (if up then (s.atTime t).get F.PMU_AVS_STAT_VNOW + 5 else (s.atTime t).get F.PMU_AVS_STAT_VNOW - 5) = w
    have hw' : (if up then s.get F.PMU_AVS_STAT_VNOW + 5 else s.get F.PMU_AVS_STAT_VNOW - 5) = w := hw
    have hvnow := avsTo_vnow w (s.atTime t)
    have hkeep : KeepsFields _ s (avsTo w (s.atTime t)) := avsTo_keeps w (s.atTime t)
    refine ⟨?_, ?_, hkeep.sumTick _, KeepsStore.sumTick (w := avsTo w (s.atTime t)) _ ⟨rfl, rfl, rfl⟩⟩
    · rw [sumTick_get _ _ (by decide), hvnow, hw']; rfl
    · rw [sumTick_get _ _ (by decide), sumTick_get _ _ (by decide), hvnow, avsTo_target]
  · refine ⟨_, doneAon_on _ hoff, ?_⟩
    simp only [avsEmergency, hruns, if_true]
    have hkeep : KeepsFields _ s (avsTo ((s.atTime t).get F.PMU_AVS_STAT_VNOW + 25) (s.atTime t)) := avsTo_keeps _ (s.atTime t)
    have hstore : KeepsStore s (avsTo ((s.atTime t).get F.PMU_AVS_STAT_VNOW + 25) (s.atTime t)) := ⟨rfl, rfl, rfl⟩
    refine ⟨?_, ?_, ((hkeep.mono (by simp)).addSat 1 (by simp)).sumTick _, KeepsStore.sumTick _ hstore⟩
    · rw [sumTick_get _ _ (by decide), State.incSat, State.addSat, State.get_set_other _ _ (by decide), avsTo_vnow]; rfl
    · rw [sumTick_get _ _ (by decide), State.incSat, State.addSat_get, avsTo, setVnow, State.get_set_other _ _ (by decide),
        State.get_set_other _ _ (by decide)]
      rfl
  · refine ⟨_, doneAon_on _ hoff, ?_⟩
    have hgo : ((s.atTime t).fcuState == 2 || (s.atTime t).pmu.fallAt.isSome || (s.atTime t).sys.off
        || ((s.atTime t).pstate == psSTANDBY && !(s.atTime t).booting)) = false := by
      have h1 : (s.atTime t).fcuState ≠ 2 := hhalt
      have h2 : (s.atTime t).pmu.fallAt = none := hfall
      have h3 : (s.atTime t).sys.off = false := hoff
      have h4 : (s.atTime t).pstate ≠ psSTANDBY ∨ (s.atTime t).booting = true := hp
      simp only [beq_eq_false_iff_ne.2 h1, h2, h3, Option.isSome_none, Bool.false_or, Bool.and_eq_false_iff, beq_eq_false_iff_ne,
        Bool.not_eq_false']
      exact h4
    obtain ⟨hat, htarget, hbusy, hqueued, hflush⟩ := inputFall_does hgo
    exact ⟨by rw [sumTick_pmu]; exact hat, by rw [sumTick_pmu]; exact htarget, by rw [sumTick_get _ _ (by decide)]; exact hbusy,
      by rw [sumTick_lig]; exact hqueued, by rw [sumTick_lig]; exact hflush⟩
  · refine ⟨_, rfl, ?_⟩
    have h : (s.atTime t).pmu.fallAt = some f := hfall
    rw [inputRecover, h]
    exact if_pos hf
end

section
/-!
BLOCKS OF REGISTERS AND FAULT EVENTS. A unit's registers lie in a block of their own, so an operation of another unit keeps them; with
that, the collector's way from an event to its record and its reaction.
-/
namespace Sys2Proof.Machine

/-! ## Blocks -/

/-- The 64 KiB block a field's register lies in, its selector set aside. -/
def blockOf (f : Fd) : Nat := f.addr % 2 ^ 32 / 65536

/-- Every field of block `b` is as before. -/
def KeepsBlock (b : Nat) (s w : State) : Prop := ∀ f : Fd, f.lsb < 32 → blockOf f = b → w.get f = s.get f

theorem KeepsBlock.of_fld {b : Nat} {s w : State} (h : w.fld = s.fld) : KeepsBlock b s w := fun f _ _ => State.get_congr h f

theorem KeepsBlock.refl (b : Nat) (s : State) : KeepsBlock b s s := fun _ _ _ => rfl

theorem KeepsBlock.trans {b : Nat} {s w x : State} (h : KeepsBlock b s w) (k : KeepsBlock b w x) : KeepsBlock b s x :=
  fun f h1 h2 => (k f h1 h2).trans (h f h1 h2)

theorem KeepsBlock.congr {b : Nat} {s w x : State} (h : KeepsBlock b s w) (hx : x.fld = w.fld) : KeepsBlock b s x :=
  fun f h1 h2 => (State.get_congr hx f).trans (h f h1 h2)

theorem KeepsBlock.set {b : Nat} {s w : State} {f : Fd} (h : KeepsBlock b s w) (v : Nat) (hl : f.lsb < 32) (hb : blockOf f ≠ b) :
    KeepsBlock b s (w.set f v) := fun g h1 h2 => by
  have hne : g.addr ≠ f.addr := fun e => hb (by rw [← h2, blockOf, blockOf, e])
  rw [State.get_set_other _ _ (Fd.key_ne h1 hl (.inl hne)), h g h1 h2]

theorem KeepsBlock.setBit {b : Nat} {s w : State} {f : Fd} (h : KeepsBlock b s w) (i : Nat) (v : Bool) (hl : f.lsb < 32)
    (hb : blockOf f ≠ b) : KeepsBlock b s (w.setBit f i v) := h.set _ hl hb

theorem KeepsBlock.addSat {b : Nat} {s w : State} {f : Fd} (h : KeepsBlock b s w) (n : Nat) (hl : f.lsb < 32) (hb : blockOf f ≠ b) :
    KeepsBlock b s (w.addSat f n) := h.set _ hl hb

theorem KeepsBlock.ite {b : Nat} {s x y : State} {p : Prop} [Decidable p] (hx : KeepsBlock b s x) (hy : KeepsBlock b s y) :
    KeepsBlock b s (if p then x else y) := by
  split
  · exact hx
  · exact hy

theorem KeepsBlock.foldl {α : Type} {b : Nat} {s w : State} (f : State → α → State) (l : List α) (h : KeepsBlock b s w)
    (hf : ∀ x ∈ l, ∀ u, KeepsBlock b u (f u x)) : KeepsBlock b s (l.foldl f w) := by
  induction l generalizing w with
  | nil => exact h
  | cons x l ih => exact ih (h.trans (hf x (.head _) w)) fun y hy => hf y (.tail _ hy)

/-- The blocks apart from that of the host slots. -/
theorem KeepsBlock.slotEvt {b : Nat} {s w : State} (n k : Nat) (hn : n < 6) (h : KeepsBlock b s w) (hb : b ≠ 0x2015) :
    KeepsBlock b s (slotEvt n k w) :=
  h.setBit _ _ (by simp [F.SLOTn_EVT_EVT]) (by simp only [blockOf, F.SLOTn_EVT_EVT, A.SLOTn_EVT]; omega)

theorem KeepsBlock.allEvt {b : Nat} {s w : State} (k : Nat) (h : KeepsBlock b s w) (hb : b ≠ 0x2015) : KeepsBlock b s (allEvt k w) :=
  KeepsBlock.foldl _ _ h fun n hn u => (KeepsBlock.refl b u).slotEvt n k (by have := List.mem_range.mp hn; omega) hb

/-! ## Locks -/

section
variable {b : Nat} (hb : b ≠ 0x2009) (hs : b ≠ 0x2015)
include hb

theorem keepsBlock_setLock (i st : Nat) (hi : i < 16) (s : State) : KeepsBlock b s (setLock i st s) :=
  (((KeepsBlock.refl b s).set _ (by simp [F.SECn_LOCK_STATE]) (by simp only [blockOf, F.SECn_LOCK_STATE, A.SECn_LOCK]; omega)).setBit
    _ _ (by decide) (by exact hb.symm)).setBit _ _ (by decide) (by exact hb.symm)

include hs

theorem keepsBlock_freeLock (i why : Nat) (e : Bool) (hi : i < 16) (s : State) : KeepsBlock b s (freeLock i why e s) := by
  unfold freeLock
  extract_lets h s1
  have h1 : KeepsBlock b s s1 := by
    refine KeepsBlock.ite ?_ (.refl b s)
    split
    · next n hn =>
      refine (KeepsBlock.refl b s).slotEvt n evLOCK ?_ hs
      simp only [slotOf] at hn
      split at hn
      · next hm =>
        cases hn
        simp only [Bool.and_eq_true, decide_eq_true_eq] at hm
        omega
      · cases hn
    · exact .refl b s
  clear_value s1
  exact (((h1.set _ (by simp [F.SECn_LOCK_HOLDER]) (by simp only [blockOf, F.SECn_LOCK_HOLDER, A.SECn_LOCK]; omega)).set _
    (by simp [F.SECn_LOCK_TICKET]) (by simp only [blockOf, F.SECn_LOCK_TICKET, A.SECn_LOCK]; omega)).set _
    (by simp [F.SECn_LOCK_LASTEND]) (by simp only [blockOf, F.SECn_LOCK_LASTEND, A.SECn_LOCK]; omega)).trans (keepsBlock_setLock hb i _ hi _)

theorem keepsBlock_breakLock (i why : Nat) (hi : i < 16) (s : State) : KeepsBlock b s (breakLock i why s) := by
  refine KeepsBlock.ite ?_ (.refl b s)
  have h1 : KeepsBlock b s (discardPending i s) :=
    (KeepsBlock.of_fld (w := discardBuf (s.pendBase i) s) rfl).set _ (by simp [F.SECn_RESULT_VERR])
      (by simp only [blockOf, F.SECn_RESULT_VERR, A.SECn_RESULT]; omega)
  exact (h1.trans (keepsBlock_freeLock hb hs i why true hi _)).setBit _ _ (by decide) (by exact hb.symm)

theorem keepsBlock_breakLocksOf (m why : Nat) (s : State) : KeepsBlock b s (breakLocksOf m why s) :=
  KeepsBlock.foldl _ _ (.refl b s) fun i hi u =>
    KeepsBlock.ite (keepsBlock_breakLock hb hs i why (List.mem_range.mp hi) u) (.refl b u)

theorem keepsBlock_hostReaction (src g idx c : Nat) (w : Bool) (s : State) : KeepsBlock b s (hostReaction src g idx c w s) :=
  KeepsBlock.ite (keepsBlock_breakLocksOf hb hs _ _ s) (.refl b s)

end

/-! ## Captures -/

theorem keepsBlock_capPush {b : Nat} (hb : b ≠ 0x2004) (c : Nat) (hc : c < 8) (st : Stamp) (s : State) :
    KeepsBlock b s (capPush c st s) := by
  unfold capPush
  extract_lets q s1 q2
  refine KeepsBlock.ite ((KeepsBlock.refl b s).set _ (by simp [F.CAP_STAT_OVF]) ?_) (KeepsBlock.set (KeepsBlock.congr (w := s1) ?_ rfl) _
    (by simp [F.CAP_STAT_COUNT]) ?_)
  · simp only [blockOf, F.CAP_STAT_OVF, A.CAP_STAT]; omega
  · exact (KeepsBlock.refl b s).setBit _ _ (by decide) (by exact hb.symm)
  · simp only [blockOf, F.CAP_STAT_COUNT, A.CAP_STAT]; omega

theorem keepsBlock_capEvent {b : Nat} (hb : b ≠ 0x2004) (src arg : Nat) (s : State) : KeepsBlock b s (capEvent src arg s) :=
  KeepsBlock.foldl _ _ (.refl b s) fun c hc u => KeepsBlock.ite
    (keepsBlock_capPush hb c (by simp only [List.mem_cons, List.not_mem_nil, or_false] at hc; omega) _ u) (.refl b u)

/-! ## From an event to its record -/

/-- What holds where the collector hears an event of source `src`, of group `g`, on its own. -/
structure Heeds (src g idx : Nat) (s : State) : Prop where
  group : srcGroup src = some g
  own : src ≠ 121
  small : src < 124
  deaf : s.fcuDeaf = false
  ignored : s.lineIgnored src g idx = false
  shadowed : s.shadowed g = false
  same : s.sameEvent src false = false

/-- The event is pending and counted (R314, R317). -/
def countEvent (src : Nat) (s : State) : State :=
  (s.setBit (F.FCU_PEND_PEND (src / 32)) (src % 32) true).incSat (F.FCU_SRCCNT_COUNT src)

theorem countEvent_get {f : Fd} {src : Nat} (s : State) (hp : Fd.key f ≠ Fd.key (F.FCU_PEND_PEND (src / 32)))
    (hc : Fd.key f ≠ Fd.key (F.FCU_SRCCNT_COUNT src)) : (countEvent src s).get f = s.get f := by
  rw [countEvent, State.incSat, State.addSat, State.get_set_other _ _ hc, State.setBit, State.get_set_other _ _ hp]

theorem countEvent_classOf {src : Nat} (hsrc : src < 124) (s : State) : (countEvent src s).classOf src = s.classOf src := by
  unfold State.classOf
  split
  · rfl
  · refine countEvent_get s ?_ ?_
    · refine Fd.key_ne (by simp [F.FCU_CLASS_CLASS]; omega) (by simp [F.FCU_PEND_PEND]) (.inl ?_)
      simp only [F.FCU_CLASS_CLASS, F.FCU_PEND_PEND, A.FCU_CLASS, A.FCU_PEND]; omega
    · refine Fd.key_ne (by simp [F.FCU_CLASS_CLASS]; omega) (by simp [F.FCU_SRCCNT_COUNT]) (.inl ?_)
      simp only [F.FCU_CLASS_CLASS, F.FCU_SRCCNT_COUNT, A.FCU_CLASS, A.FCU_SRCCNT]; omega

theorem countEvent_shadowed {src : Nat} (hsrc : src < 124) (g : Nat) (s : State) : (countEvent src s).shadowed g = s.shadowed g := by
  rw [State.shadowed, State.shadowed, Bool.eq_iff_iff, List.any_eq_true, List.any_eq_true]
  refine exists_congr fun u => and_congr_right fun hu => ?_
  have hu : u < 28 := List.mem_range.mp hu
  rw [countEvent_get s (Fd.key_ne (by simp [F.FCU_DEP_DEP]) (by simp [F.FCU_PEND_PEND]) (.inl ?_))
    (Fd.key_ne (by simp [F.FCU_DEP_DEP]) (by simp [F.FCU_SRCCNT_COUNT]) (.inl ?_))]
  · rfl
  · simp only [F.FCU_DEP_DEP, F.FCU_PEND_PEND, A.FCU_DEP, A.FCU_PEND]; omega
  · simp only [F.FCU_DEP_DEP, F.FCU_SRCCNT_COUNT, A.FCU_DEP, A.FCU_SRCCNT]; omega

theorem devNs_congr {s w : State} (h1 : w.now = s.now) (h2 : w.time = s.time) (h3 : w.get F.TIME_RATE_RATE = s.get F.TIME_RATE_RATE) :
    w.devNs = s.devNs := by
  simp only [State.devNs, State.dev, State.rate, State.raw, h1, h2, h3]

theorem countEvent_fcu (src : Nat) (s : State) : (countEvent src s).fcu = s.fcu := rfl
theorem countEvent_now (src : Nat) (s : State) : (countEvent src s).now = s.now := rfl
theorem countEvent_devNs {src : Nat} (hsrc : src < 124) (s : State) : (countEvent src s).devNs = s.devNs :=
  devNs_congr rfl rfl (countEvent_get s (Fd.key_ne (by decide) (by simp [F.FCU_PEND_PEND])
      (.inl (by simp only [F.TIME_RATE_RATE, F.FCU_PEND_PEND, A.TIME_RATE, A.FCU_PEND]; omega)))
    (Fd.key_ne (by decide) (by simp [F.FCU_SRCCNT_COUNT])
      (.inl (by simp only [F.TIME_RATE_RATE, F.FCU_SRCCNT_COUNT, A.TIME_RATE, A.FCU_SRCCNT]; omega))))
theorem countEvent_n (src : Nat) (s : State) : (countEvent src s).n = s.n := rfl

/-- The event has its record, of class `c`, and breaks the locks it is to break. -/
def recordEvent (src g idx c : Nat) (s : State) : State :=
  hostReaction src g idx c false (addRecord ⟨src, idx, false, false, false, c, s.devNs, bidx s.n⟩ (countEvent src s))

/-- The device-wide reaction of an event of class `c` (R320, R322). -/
def reactTo (src idx c : Nat) (s : State) : State :=
  if c = 2 then (if s.fcuState != 0 then s else takeQuiet src idx s)
  else if c = 3 then (if s.fcuState == 2 then s else takeHalt src idx s)
  else s

/-- The way of an event whose class is not FENCE. -/
theorem collect_heeds {src g idx c : Nat} {s : State} (h : Heeds src g idx s) (hc : s.classOf src = c) (h1 : c ≠ 1)
    (raise : Nat → Nat → State → State) : collect raise src idx src false s =
    if c == 0 && mget 0 src s.fcu.lastRec != 0 && decide (s.now < mget 0 src s.fcu.lastRec - 1 + uMs) then countEvent src s
    else reactTo src idx c (recordEvent src g idx c s) := by
  have hown : (src == 121) = false := beq_eq_false_iff_ne.2 h.own
  have hshadow := (countEvent_shadowed h.small g s).trans h.shadowed
  have hclass := (countEvent_classOf h.small s).trans hc
  have h1' : (c == 1) = false := beq_eq_false_iff_ne.2 h1
  unfold collect
  simp only [h.group, hown, h.deaf, h.ignored, h.same, Bool.or_false, Bool.false_eq_true, if_false]
  rw [← countEvent]
  simp only [hshadow, hclass, Bool.false_and, Bool.false_eq_true, if_false, h1', countEvent_fcu, countEvent_now,
    countEvent_devNs h.small, countEvent_n]
  rw [← recordEvent]
  congr 1
  unfold reactTo
  split
  · exact absurd rfl h1
  · rfl
  · rfl
  · next h2 h3 => rw [if_neg h2, if_neg h3]

/-! ## The record -/

/-- A record enters the buffer, or is dropped, before it is journalled (R318). -/
def enterRecord (r : FaultRec) (s : State) : State :=
  let w := if 32 ≤ s.fcu.recs.length then (s.set F.FCU_REC_STAT_OVF 1).incSat F.FCU_REC_STAT_DROPPED
    else { s with fcu := { s.fcu with recs := s.fcu.recs ++ [r] } }.set F.FCU_REC_STAT_COUNT (s.fcu.recs.length + 1)
  { w with fcu := { w.fcu with lastRec := mset 0 r.src (w.now + 1) w.fcu.lastRec } }

theorem addRecord_eq (r : FaultRec) (s : State) :
    addRecord r s = journal jFAULT ((recWords r).flatMap (leBytes 4)) (enterRecord r s) := rfl

theorem addRecord_fcu (r : FaultRec) (s : State) : (addRecord r s).fcu = (enterRecord r s).fcu := by
  obtain ⟨m, l, h⟩ := journal_only jFAULT ((recWords r).flatMap (leBytes 4)) (enterRecord r s)
  rw [addRecord_eq, h]

theorem enterRecord_full {r : FaultRec} {s : State} (h : 32 ≤ s.fcu.recs.length) :
    (enterRecord r s).fcu.recs = s.fcu.recs ∧ (enterRecord r s).get F.FCU_REC_STAT_OVF = 1 := by
  unfold enterRecord
  rw [if_pos h]
  refine ⟨rfl, ?_⟩
  refine (State.get_congr rfl _).trans (State.get_set_other (s.set F.FCU_REC_STAT_OVF 1) _ (by decide)) |>.trans ?_
  rw [State.get_set_same]
  rfl

theorem enterRecord_room {r : FaultRec} {s : State} (h : ¬ 32 ≤ s.fcu.recs.length) :
    (enterRecord r s).fcu.recs = s.fcu.recs ++ [r] ∧ (enterRecord r s).get F.FCU_REC_STAT_COUNT = s.fcu.recs.length + 1 := by
  unfold enterRecord
  rw [if_neg h]
  refine ⟨rfl, ?_⟩
  refine (State.get_congr rfl _).trans (State.get_set_same _ F.FCU_REC_STAT_COUNT _) |>.trans (Nat.mod_eq_of_lt ?_)
  exact Nat.lt_of_lt_of_le (by omega : _ < 64) (by decide)

theorem addRecord_get {f : Fd} (r : FaultRec) (s : State) (h : f.addr ≠ A.FCU_REC_STAT) (hl : f.lsb < 32)
    (hj : ∀ g ∈ ligFields, Fd.key f ≠ Fd.key g) : (addRecord r s).get f = s.get f := by
  have hne : ∀ g : Fd, g.lsb < 32 → g.addr = A.FCU_REC_STAT → Fd.key f ≠ Fd.key g := fun g h1 h2 => Fd.key_ne hl h1 (.inl (h2 ▸ h))
  rw [addRecord_eq, journal_get _ _ _ hj, enterRecord]
  refine (State.get_congr (s := (if 32 ≤ s.fcu.recs.length then (s.set F.FCU_REC_STAT_OVF 1).incSat F.FCU_REC_STAT_DROPPED
    else { s with fcu := { s.fcu with recs := s.fcu.recs ++ [r] } }.set F.FCU_REC_STAT_COUNT (s.fcu.recs.length + 1))) rfl _).trans ?_
  split
  · rw [State.incSat, State.addSat, State.get_set_other _ _ (hne _ (by decide) rfl), State.get_set_other _ _ (hne _ (by decide) rfl)]
  · exact State.get_set_other _ _ (hne _ (by decide) rfl)

theorem recordEvent_note (src g idx : Nat) (s : State) :
    recordEvent src g idx 0 s = addRecord ⟨src, idx, false, false, false, 0, s.devNs, bidx s.n⟩ (countEvent src s) := by
  simp [recordEvent, hostReaction]

theorem ligFields_block : ∀ g ∈ ligFields, g.lsb < 32 ∧ g.addr / 65536 = 0x2014 := by decide

/-- A register of the collector is none that a record's arrival writes. -/
theorem fcu_ne_ligFields {f : Fd} (hl : f.lsb < 32) (h : f.addr % 2 ^ 32 / 65536 = 0x2002) : ∀ g ∈ ligFields, Fd.key f ≠ Fd.key g :=
  fun g hg => Fd.key_ne hl (ligFields_block g hg).1 (.inl (by have := (ligFields_block g hg).2; omega))

theorem fcuState_countEvent (src : Nat) (s : State) : (countEvent src s).get F.FCU_STAT_STATE = s.get F.FCU_STAT_STATE :=
  countEvent_get s
    (Fd.key_ne (by decide) (by simp [F.FCU_PEND_PEND]) (.inl (by simp only [F.FCU_STAT_STATE, F.FCU_PEND_PEND, A.FCU_STAT, A.FCU_PEND]; omega)))
    (Fd.key_ne (by decide) (by simp [F.FCU_SRCCNT_COUNT])
      (.inl (by simp only [F.FCU_STAT_STATE, F.FCU_SRCCNT_COUNT, A.FCU_STAT, A.FCU_SRCCNT]; omega)))

theorem fcuState_addRecord (r : FaultRec) (s : State) : (addRecord r s).get F.FCU_STAT_STATE = s.get F.FCU_STAT_STATE :=
  addRecord_get r s (by decide) (by decide) (fcu_ne_ligFields (by decide) (by decide))

/-- The counts of an event stay, whatever registers outside them and the summary's are written after. -/
theorem countEvent_counts {src : Nat} (hsrc : src < 124) {s u : State}
    (h : ∀ f : Fd, f.lsb = 0 → f.addr % 2 ^ 32 / 256 = 0x200200 → u.get f = (countEvent src s).get f) :
    bitOf (u.get (F.FCU_PEND_PEND (src / 32))) (src % 32) = true
      ∧ u.get (F.FCU_SRCCNT_COUNT src) = min (s.get (F.FCU_SRCCNT_COUNT src) + 1) (2 ^ Fd.width (F.FCU_SRCCNT_COUNT src) - 1) := by
  have hne : Fd.key (F.FCU_SRCCNT_COUNT src) ≠ Fd.key (F.FCU_PEND_PEND (src / 32)) :=
    Fd.key_ne (by simp [F.FCU_SRCCNT_COUNT]) (by simp [F.FCU_PEND_PEND])
      (.inl (by simp only [F.FCU_SRCCNT_COUNT, F.FCU_PEND_PEND, A.FCU_SRCCNT, A.FCU_PEND]; omega))
  constructor
  · rw [h _ rfl (by simp only [F.FCU_PEND_PEND, A.FCU_PEND]; omega), countEvent, State.incSat, State.addSat, State.get_set_other _ _ hne.symm]
    exact State.bit_setBit_same _ (by simp only [Fd.width, F.FCU_PEND_PEND]; omega)
  · rw [h _ rfl (by simp only [F.FCU_SRCCNT_COUNT, A.FCU_SRCCNT]; omega), countEvent, State.incSat, State.addSat_get, State.setBit, State.get_set_other _ _ hne]

/-- A node in READY or above, not in HALT and with its supply up, has a collector that hears. -/
theorem fcuDeaf_false {s : State} (hoff : s.sys.off = false) (hpin : s.sys.pinHeld = false) (hboot : s.sys.boot = .none)
    (hp : psREADY ≤ s.get F.PMU_STAT_PSTATE) (hfall : s.pmu.fallAt = none) (hst : s.get F.FCU_STAT_STATE ≠ 2) : s.fcuDeaf = false := by
  have hbooting : s.booting = false := by rw [State.booting, hboot]; rfl
  have hshed : s.shed = false := by rw [State.shed, hfall]
  have hdomains : s.domains = s.get F.PMU_STAT_PSTATE := by rw [State.domains, hbooting, hshed]; rfl
  have hlt : ¬ s.get F.PMU_STAT_PSTATE < psNAP := by
    have : psNAP ≤ psREADY := by decide
    omega
  rw [State.fcuDeaf, hdomains, hoff, hpin, State.fcuState, beq_eq_false_iff_ne.2 hst, decide_eq_false hlt]
  rfl

/-! ## Reactions -/

theorem now_of_outer {s w : State} (h : w.outer = s.outer) : w.now = s.now := congrArg Prod.fst h

theorem recordEvent_fcuState (src g idx c : Nat) (s : State) : (recordEvent src g idx c s).fcuState = s.fcuState :=
  (keepsBlock_hostReaction (b := 0x2002) (by decide) (by decide) src g idx c false _ F.FCU_STAT_STATE (by decide) (by decide)).trans
    ((fcuState_addRecord ..).trans (fcuState_countEvent ..))

theorem recordEvent_now (src g idx c : Nat) (s : State) : (recordEvent src g idx c s).now = s.now :=
  now_of_outer ((outer_hostReaction ..).trans ((outer_addRecord ..).trans rfl))

/-- FCU_LAST shows reaction `cls` of source `src` and index `idx`. -/
def LastShows (cls src idx : Nat) (s : State) : Prop :=
  s.get F.FCU_LAST_VALID = 1 ∧ s.get F.FCU_LAST_CLASS = cls ∧ s.get F.FCU_LAST_SOURCE = src ∧ s.get F.FCU_LAST_INDEX = idx

theorem noteReaction_get {f : Fd} (cls src idx : Nat) (s : State) (hl : f.lsb < 32) (hb : blockOf f = 0x2002) :
    (noteReaction cls src idx s).get f
      = ((((s.set F.FCU_LAST_VALID 1).set F.FCU_LAST_CLASS cls).set F.FCU_LAST_SOURCE src).set F.FCU_LAST_INDEX idx).get f := by
  rw [noteReaction, keepsBlock_capEvent (b := 0x2002) (by decide) _ _ _ f hl hb,
    (KeepsBlock.refl 0x2002 _).allEvt evFAULT (by decide) f hl hb]

theorem noteReaction_last {cls src idx : Nat} (hc : cls < 4) (hs : src < 128) (hi : idx < 65536) (s : State) :
    LastShows cls src idx (noteReaction cls src idx s) := by
  refine ⟨?_, ?_, ?_, ?_⟩ <;> rw [noteReaction_get _ _ _ _ (by decide) (by decide)] <;>
    simp (disch := decide) only [State.get_set_other, State.get_set_same]
  · rfl
  · exact Nat.mod_eq_of_lt hc
  · exact Nat.mod_eq_of_lt hs
  · exact Nat.mod_eq_of_lt hi

theorem noteReaction_state (cls src idx : Nat) (s : State) :
    (noteReaction cls src idx s).get F.FCU_STAT_STATE = s.get F.FCU_STAT_STATE := by
  rw [noteReaction_get _ _ _ _ (by decide) (by decide)]
  simp (disch := decide) only [State.get_set_other]

theorem takeQuiet_shows {src idx : Nat} (hs : src < 128) (hi : idx < 65536) (s : State) :
    (takeQuiet src idx s).get F.FCU_STAT_STATE = 1 ∧ (takeQuiet src idx s).fcu.quietAt = some s.now
      ∧ LastShows 2 src idx (takeQuiet src idx s) := by
  unfold takeQuiet
  extract_lets w
  have hnow : w.now = s.now := now_of_outer ((outer_noteReaction ..).trans (outer_set ..))
  have hst : w.get F.FCU_STAT_STATE = 1 := (noteReaction_state ..).trans (State.get_set_same s F.FCU_STAT_STATE 1)
  have hlast : LastShows 2 src idx w := noteReaction_last (by decide) hs hi _
  clear_value w
  obtain ⟨tw, n, h⟩ := queueFlatline_only 2 src { w with fcu := { w.fcu with quietAt := some w.now, autoDue := true } }
  rw [h]
  exact ⟨hst, congrArg some hnow, hlast⟩

theorem takeHalt_shows {src idx : Nat} (hs : src < 128) (hi : idx < 65536) (s : State) :
    (takeHalt src idx s).get F.FCU_STAT_STATE = 2 ∧ (takeHalt src idx s).fcu.haltAt = some s.now
      ∧ LastShows 3 src idx (takeHalt src idx s) := by
  unfold takeHalt
  extract_lets w
  have hnow : w.now = s.now := now_of_outer ((outer_noteReaction ..).trans (outer_set ..))
  have hst : w.get F.FCU_STAT_STATE = 2 := (noteReaction_state ..).trans (State.get_set_same s F.FCU_STAT_STATE 2)
  have hlast : LastShows 3 src idx w := noteReaction_last (by decide) hs hi _
  clear_value w
  obtain ⟨tw, n, h⟩ := queueFlatline_only 3 src { w with fcu := { w.fcu with haltAt := some w.now, haltSrc := src, autoDue := false } }
  rw [h]
  exact ⟨hst, congrArg some hnow, hlast⟩

end Sys2Proof.Machine
open Sys2Proof Sys2Proof.Machine

/-- Settles O23: an event of class NOTE is counted and recorded, and no reaction follows. -/
theorem faultEventIsCollected : Obligations.FaultEventIsCollected := by
  unfold Obligations.FaultEventIsCollected
  intro src idx g t ok s hoff hpin hboot hp hfall hst hsrc hown hidx hg hign hsh hsame hc
  have hheed : Heeds src g (if ok then idx else 65535) (s.atTime t) :=
    ⟨hg, hown, hsrc, fcuDeaf_false hoff hpin hboot hp hfall hst, hign, hsh, hsame⟩
  have hdo : faultEvent src idx ok (s.atTime t) = collect (raiseDeep 6) src (if ok then idx else 65535) src false (s.atTime t) := by
    have hi : (if ok then idx else 65535) % 65536 = if ok then idx else 65535 := by split <;> omega
    unfold faultEvent
    rw [hi, if_neg (by omega), beq_eq_false_iff_ne.2 hown]
    rfl
  generalize (if ok then idx else 65535) = i at hheed hdo ⊢
  refine ⟨_, doneAon_on _ hoff, ?_⟩
  rw [hdo, collect_heeds hheed hc (by decide), recordEvent_note]
  have hquiet : ∀ f : Fd, f.lsb = 0 → f.addr % 2 ^ 32 / 256 = 0x200200 → Fd.quiet f = true := fun f h1 h2 =>
    Fd.quiet_of_block (by omega) (by omega)
  have hcond : (0 == 0 && mget 0 src (s.atTime t).fcu.lastRec != 0
      && decide ((s.atTime t).now < mget 0 src (s.atTime t).fcu.lastRec - 1 + uMs)) = true
      ↔ mget 0 src s.fcu.lastRec ≠ 0 ∧ max s.now t < mget 0 src s.fcu.lastRec - 1 + uMs := by
    simp only [beq_self_eq_true, Bool.true_and, Bool.and_eq_true, bne_iff_ne, decide_eq_true_eq]
    exact Iff.rfl
  by_cases hsoon : mget 0 src s.fcu.lastRec ≠ 0 ∧ max s.now t < mget 0 src s.fcu.lastRec - 1 + uMs
  · rw [if_pos hsoon, if_pos (hcond.2 hsoon)]
    obtain ⟨hpend, hcount⟩ := countEvent_counts (s := s.atTime t) (u := sumTick s (countEvent src (s.atTime t))) hsrc
      fun f h1 h2 => sumTick_get _ _ (hquiet f h1 h2)
    exact ⟨hpend, hcount, (sumTick_get _ _ (by decide)).trans (fcuState_countEvent src _), by rw [sumTick_fcu]; rfl⟩
  · rw [if_neg hsoon, if_neg (mt hcond.1 hsoon), reactTo, if_neg (by decide), if_neg (by decide)]
    generalize hr : (⟨src, i, false, false, false, 0, (s.atTime t).devNs, bidx (s.atTime t).n⟩ : FaultRec) = r
    obtain ⟨hpend, hcount⟩ := countEvent_counts (s := s.atTime t) (u := sumTick s (addRecord r (countEvent src (s.atTime t)))) hsrc
      fun f h1 h2 => (sumTick_get _ _ (hquiet f h1 h2)).trans (addRecord_get _ _ (fun e => by rw [e] at h2; exact absurd h2 (by decide))
        (by omega) (fcu_ne_ligFields (by omega) (by omega)))
    refine ⟨hpend, hcount, (sumTick_get _ _ (by decide)).trans ((fcuState_addRecord ..).trans (fcuState_countEvent src _)), ?_⟩
    rw [sumTick_fcu, addRecord_fcu, sumTick_get _ _ (by decide), sumTick_get _ _ (by decide), addRecord_eq,
      journal_get _ _ _ (fcu_ne_ligFields (by decide) (by decide)), journal_get _ _ _ (fcu_ne_ligFields (by decide) (by decide))]
    split
    · next hfull => exact enterRecord_full (s := countEvent src (s.atTime t)) hfull
    · next hroom => exact hr ▸ enterRecord_room (s := countEvent src (s.atTime t)) hroom

/-- Settles O24: the first event of class QUIET or HALT takes its state and shows itself as the last reaction. -/
theorem reactionsLatch : Obligations.ReactionsLatch := by
  unfold Obligations.ReactionsLatch
  intro src idx g t s hoff hpin hboot hp hfall hst hsrc hown hidx hg hign hsh hsame
  have hheed : Heeds src g idx (s.atTime t) :=
    ⟨hg, hown, hsrc, fcuDeaf_false hoff hpin hboot hp hfall (by rw [State.get_atTime, hst]; decide), hign, hsh, hsame⟩
  have hdo : faultEvent src idx true (s.atTime t) = collect (raiseDeep 6) src idx src false (s.atTime t) := by
    unfold faultEvent
    rw [if_pos rfl, Nat.mod_eq_of_lt hidx, if_neg (by omega), beq_eq_false_iff_ne.2 hown]
    rfl
  have hstate : ∀ c, (recordEvent src g idx c (s.atTime t)).fcuState = 0 := fun c => (recordEvent_fcuState ..).trans hst
  have hnow : ∀ c, (recordEvent src g idx c (s.atTime t)).now = max s.now t := fun c => recordEvent_now ..
  refine ⟨fun hc => ⟨_, doneAon_on _ hoff, ?_⟩, fun hc => ⟨_, doneAon_on _ hoff, ?_⟩⟩
  · have hdue : ¬ (2 == 0 && mget 0 src (s.atTime t).fcu.lastRec != 0
        && decide ((s.atTime t).now < mget 0 src (s.atTime t).fcu.lastRec - 1 + uMs)) = true := Bool.false_ne_true
    rw [hdo, collect_heeds hheed hc (by decide), if_neg hdue, reactTo, if_pos rfl, hstate, if_neg (by decide)]
    obtain ⟨h1, h2, hvalid, hclass, hsource, hindex⟩ := takeQuiet_shows (src := src) (by omega) hidx (recordEvent src g idx 2 (s.atTime t))
    simp (disch := decide) only [sumTick_get, sumTick_fcu]
    exact ⟨h1, h2.trans (congrArg some (hnow 2)), hvalid, hclass, hsource, hindex⟩
  · have hdue : ¬ (3 == 0 && mget 0 src (s.atTime t).fcu.lastRec != 0
        && decide ((s.atTime t).now < mget 0 src (s.atTime t).fcu.lastRec - 1 + uMs)) = true := Bool.false_ne_true
    rw [hdo, collect_heeds hheed hc (by decide), if_neg hdue, reactTo, if_neg (by decide), if_pos rfl, hstate, if_neg (by decide)]
    obtain ⟨h1, h2, hvalid, hclass, hsource, hindex⟩ := takeHalt_shows (src := src) (by omega) hidx (recordEvent src g idx 3 (s.atTime t))
    simp (disch := decide) only [sumTick_get, sumTick_fcu]
    exact ⟨h1, h2.trans (congrArg some (hnow 3)), hvalid, hclass, hsource, hindex⟩
end

section
/-!
THE TWIN UNIT. What its operations write: frames that are sent, link states and roles, quiet masks, and the phases of a re-seat.
-/
namespace Sys2Proof.Machine

/-! ## States that differ in fields alone -/

/-- `w` is `s` but for its fields. -/
def FieldsOnly (s w : State) : Prop := ∃ m, w = { s with fld := m }

theorem FieldsOnly.refl (s : State) : FieldsOnly s s := ⟨s.fld, rfl⟩

theorem FieldsOnly.trans {s w x : State} (h : FieldsOnly s w) (k : FieldsOnly w x) : FieldsOnly s x := by
  obtain ⟨m, rfl⟩ := h
  obtain ⟨l, rfl⟩ := k
  exact ⟨l, rfl⟩

theorem FieldsOnly.set {s w : State} (f : Fd) (v : Nat) (h : FieldsOnly s w) : FieldsOnly s (w.set f v) := h.trans ⟨_, rfl⟩

theorem FieldsOnly.setBit {s w : State} (f : Fd) (i : Nat) (v : Bool) (h : FieldsOnly s w) : FieldsOnly s (w.setBit f i v) := h.set ..

theorem FieldsOnly.ite {s x y : State} {p : Prop} [Decidable p] (hx : FieldsOnly s x) (hy : FieldsOnly s y) :
    FieldsOnly s (if p then x else y) := by
  split
  · exact hx
  · exact hy

theorem FieldsOnly.foldl {α : Type} {s w : State} (f : State → α → State) (l : List α) (h : FieldsOnly s w)
    (hf : ∀ x u, FieldsOnly u (f u x)) : FieldsOnly s (l.foldl f w) := by
  induction l generalizing w with
  | nil => exact h
  | cons x l ih => exact ih (h.trans (hf x w))

theorem FieldsOnly.allEvt {s w : State} (b : Nat) (h : FieldsOnly s w) : FieldsOnly s (allEvt b w) :=
  FieldsOnly.foldl _ _ h fun _ u => (FieldsOnly.refl u).setBit ..

theorem FieldsOnly.keepsStore {s w : State} (h : FieldsOnly s w) : KeepsStore s w := by
  obtain ⟨m, rfl⟩ := h
  exact ⟨rfl, rfl, rfl⟩

theorem FieldsOnly.twin {s w : State} (h : FieldsOnly s w) : w.twin = s.twin := by
  obtain ⟨m, rfl⟩ := h
  rfl

theorem FieldsOnly.net {s w : State} (h : FieldsOnly s w) : w.net = s.net := by
  obtain ⟨m, rfl⟩ := h
  rfl

theorem FieldsOnly.disp {s w : State} (h : FieldsOnly s w) : w.disp = s.disp := by
  obtain ⟨m, rfl⟩ := h
  rfl

theorem KeepsFields.ite {fs : List Fd} {s x y : State} {p : Prop} [Decidable p] (hx : KeepsFields fs s x) (hy : KeepsFields fs s y) :
    KeepsFields fs s (if p then x else y) := by
  split
  · exact hx
  · exact hy

theorem KeepsFields.refl (fs : List Fd) (s : State) : KeepsFields fs s s := fun _ _ _ => rfl

theorem KeepsFields.foldl {α : Type} {fs : List Fd} {s w : State} (f : State → α → State) (l : List α) (h : KeepsFields fs s w)
    (hf : ∀ x ∈ l, ∀ u, KeepsFields fs u (f u x)) : KeepsFields fs s (l.foldl f w) := by
  induction l generalizing w with
  | nil => exact h
  | cons x l ih => exact ih (h.trans (hf x (.head _) w)) fun y hy => hf y (.tail _ hy)

theorem KeepsStore.trans {s w x : State} (h : KeepsStore s w) (k : KeepsStore w x) : KeepsStore s x := by
  obtain ⟨h1, h2, h3⟩ := h
  obtain ⟨k1, k2, k3⟩ := k
  exact ⟨k1.trans h1, k2.trans h2, k3.trans h3⟩

/-! ## Frames that are sent -/

/-- A frame that is sent only counts and waits in the port. -/
theorem sendTwin_only (sub : Nat) (l : List Byte) (s : State) :
    ∃ q n, sendTwin sub l s = { s with twin := { s.twin with seq := q }, net := n } := by
  unfold sendTwin
  split
  · exact ⟨s.twin.seq, s.net, rfl⟩
  · unfold putTwin
    extract_lets
    obtain ⟨n, hn⟩ := twinQueue_only _ _ _
    exact ⟨_, n, hn⟩

theorem sendTwin_fld (sub : Nat) (l : List Byte) (s : State) : (sendTwin sub l s).fld = s.fld := by
  obtain ⟨q, n, h⟩ := sendTwin_only sub l s
  rw [h]

theorem sendTwin_disp (sub : Nat) (l : List Byte) (s : State) : (sendTwin sub l s).disp = s.disp := by
  obtain ⟨q, n, h⟩ := sendTwin_only sub l s
  rw [h]

theorem sendTwin_rs (sub : Nat) (l : List Byte) (s : State) : (sendTwin sub l s).twin.rs = s.twin.rs := by
  obtain ⟨q, n, h⟩ := sendTwin_only sub l s
  rw [h]

theorem sendTwin_twinq (sub : Nat) (l : List Byte) (s : State) : (sendTwin sub l s).net.twinq = s.net.twinq := by
  unfold sendTwin
  split
  · rfl
  · unfold putTwin twinQueue
    extract_lets
    split <;> rfl

theorem keepsStore_sendTwin (sub : Nat) (l : List Byte) (s : State) : KeepsStore s (sendTwin sub l s) := by
  obtain ⟨q, n, h⟩ := sendTwin_only sub l s
  rw [h]
  exact ⟨rfl, rfl, rfl⟩

/-! ## Link state and role -/

theorem fieldsOnly_setTlink (l : Nat) (s : State) : FieldsOnly s (setTlink l s) :=
  .ite (.refl s) ((((FieldsOnly.refl s).set ..).set ..).allEvt _)

theorem fieldsOnly_setTrole (r : Nat) (s : State) : FieldsOnly s (setTrole r s) :=
  .ite (.refl s) ((((FieldsOnly.refl s).set ..).set ..).allEvt _)

theorem keepsFields_setTlink (l : Nat) (s : State) : KeepsFields [F.TWIN_STAT_LINK, F.TWIN_EVT_LINK] s (setTlink l s) :=
  .ite (.refl _ s) ((((KeepsFields.refl _ s).set _ (by simp)).set _ (by simp)).allEvt _)

theorem keepsFields_setTrole (r : Nat) (s : State) : KeepsFields [F.TWIN_STAT_ROLE, F.TWIN_EVT_ROLE] s (setTrole r s) :=
  .ite (.refl _ s) ((((KeepsFields.refl _ s).set _ (by simp)).set _ (by simp)).allEvt _)

theorem setTlink_tlink {l : Nat} (hl : l < 4) (s : State) : (setTlink l s).tlink = l := by
  unfold setTlink
  split
  · next h => exact beq_iff_eq.mp h
  · rw [State.tlink, allEvt_get _ _ (by decide), State.get_set_other _ _ (by decide), State.get_set_same]
    exact Nat.mod_eq_of_lt hl

theorem setTrole_trole {r : Nat} (hr : r < 4) (s : State) : (setTrole r s).trole = r := by
  unfold setTrole
  split
  · next h => exact beq_iff_eq.mp h
  · rw [State.trole, allEvt_get _ _ (by decide), State.get_set_other _ _ (by decide), State.get_set_same]
    exact Nat.mod_eq_of_lt hr

/-! ## Quiet masks -/

/-- The fields of the quiet masks. -/
def quietFields : List Fd := [F.TWIN_QREASON_REASON, F.TWIN_QUIET_OWN]

theorem fieldsOnly_putReason (i r : Nat) (s : State) : FieldsOnly s (putReason i r s) := ((FieldsOnly.refl s).set ..).setBit ..

theorem keepsFields_putReason (i r : Nat) (s : State) : KeepsFields quietFields s (putReason i r s) :=
  ((KeepsFields.refl _ s).set _ (by simp [quietFields])).setBit _ _ (by simp [quietFields])

theorem fieldsOnly_liftAll (s : State) : FieldsOnly s (liftAll s) := (((FieldsOnly.refl s).set ..).set ..).set ..

theorem keepsFields_liftAll (s : State) : KeepsFields (F.TWIN_STAT_UNCOVERED :: quietFields) s (liftAll s) :=
  (((KeepsFields.refl _ s).set _ (by simp [quietFields])).set _ (by simp [quietFields])).set _ (by simp [quietFields])

theorem fieldsOnly_liftImage (s : State) : FieldsOnly s (liftImage s) :=
  .foldl _ _ (.refl s) fun i u => .ite (fieldsOnly_putReason i 0 u) (.refl u)

theorem keepsFields_liftImage (s : State) : KeepsFields quietFields s (liftImage s) :=
  .foldl _ _ (.refl _ s) fun i _ u => .ite (keepsFields_putReason i 0 u) (.refl _ u)

theorem fieldsOnly_addQuiets (r : Nat) (l : List Nat) (s : State) : FieldsOnly s (l.foldl (fun u q => addQuiet r q u) s) :=
  .foldl _ _ (.refl s) fun i u => fieldsOnly_putReason i _ u

theorem keepsFields_addQuiets (r : Nat) (l : List Nat) (s : State) : KeepsFields quietFields s (l.foldl (fun u q => addQuiet r q u) s) :=
  .foldl _ _ (.refl _ s) fun i _ u => keepsFields_putReason i _ u

/-! ## The phase of a re-seat -/

theorem setRs_fld (g : ReseatS → ReseatS) (s : State) : (setRs g s).fld = s.fld := rfl

theorem rsIdle_phase (s : State) : (rsIdle s).rsPhase = rsIDLE :=
  (State.get_congr (setRs_fld _ _) _).trans (State.get_set_same s F.TWIN_RS_STAT_PHASE rsIDLE)

theorem keepsFields_rsIdle (s : State) : KeepsFields [F.TWIN_RS_STAT_PHASE] s (rsIdle s) :=
  KeepsFields.congr (w := s.set F.TWIN_RS_STAT_PHASE rsIDLE) ((KeepsFields.refl _ s).set _ (by simp)) rfl

theorem keepsStore_rsIdle (s : State) : KeepsStore s (rsIdle s) := ⟨rfl, rfl, rfl⟩

theorem keepsFields_rsLost (s : State) : KeepsFields [F.TWIN_RS_STAT_PHASE] s (rsLost s) :=
  .ite (.refl _ s) (keepsFields_rsIdle s)

theorem rsLost_twin (s : State) : (rsLost s).twin = s.twin ∨ (rsLost s).twin = { s.twin with rs := { tries := s.twin.rs.tries } } := by
  unfold rsLost
  extract_lets p
  split
  · exact .inl rfl
  · exact .inr rfl

theorem keepsStore_rsLost (s : State) : KeepsStore s (rsLost s) := by
  unfold rsLost
  extract_lets p
  split <;> exact ⟨rfl, rfl, rfl⟩

/-! ## Frames that are heard -/

theorem popTwin_hears {sub : Nat} {f : RxFrame} {q : List RxFrame} {s : State} (h : Hears sub f q s) (t : Nat) :
    popTwin sub (s.atTime t) = some (f, heard q t s) := by
  obtain ⟨-, hq, hsub⟩ := h
  have hq' : (s.atTime t).net.twinq = f :: q := hq
  rw [popTwin, hq']
  dsimp only
  rw [hsub, beq_self_eq_true, if_pos rfl]
  rfl

theorem heard_get (q : List RxFrame) (t : Nat) (s : State) (f : Fd) : (heard q t s).get f = s.get f := rfl

/-! ## Pairing enabled and disabled (R290) -/

theorem writeTwinCtrl_en (v : Nat) (s : State) : (s.writeRegPlain A.TWIN_CTRL v).get F.TWIN_CTRL_EN = (bitOf v 31).toNat := by
  have hl : fieldsAt A.TWIN_CTRL = [F.TWIN_CTRL_EN, F.TWIN_CTRL_AGREE, F.TWIN_CTRL_RETRY_MAX, F.TWIN_CTRL_HB_MISS] := rfl
  rw [State.writeRegPlain, hl]
  simp only [List.foldl_cons, List.foldl_nil]
  rw [State.writeField_get_other _ _ (by decide), State.writeField_get_other _ _ (by decide), State.writeField_get_other _ _ (by decide)]
  refine (State.get_set_same s F.TWIN_CTRL_EN _).trans ?_
  have hm : v / 2 ^ 31 % 2 < 2 := Nat.mod_lt _ (by decide)
  show v / 2 ^ 31 % 2 % 2 = (v / 2 ^ 31 % 2 == 1).toNat
  generalize v / 2 ^ 31 % 2 = x at hm
  interval_cases x <;> rfl

theorem writeTwinCtrl_other {f : Fd} (v : Nat) (s : State) (hl : f.lsb < 32) (ha : f.addr ≠ A.TWIN_CTRL) :
    (s.writeRegPlain A.TWIN_CTRL v).get f = s.get f := by
  have hall : ∀ g ∈ fieldsAt A.TWIN_CTRL, g.addr = A.TWIN_CTRL ∧ g.lsb < 32 := by decide
  exact s.writeRegPlain_get_other _ _ fun g hg => Fd.key_ne hl (hall g hg).2 (.inl ((hall g hg).1 ▸ ha))

/-- EN written 1 where it was 0: the link seeks, unless a fence holds the unit. -/
theorem wrTwinCtrl_enable {v : Nat} {s : State} (hen : s.get F.TWIN_CTRL_EN = 0) (hv : bitOf v 31 = true) :
    (if s.fencedGroup 14 then (wrTwinCtrl v s).get F.TWIN_CTRL_EN = 0 ∧ (wrTwinCtrl v s).tlink = s.tlink
      else (wrTwinCtrl v s).get F.TWIN_CTRL_EN = 1 ∧ (wrTwinCtrl v s).tlink = tlSEEK
        ∧ (wrTwinCtrl v s).trole = (if s.breathing then trLEAD else trNONE)) ∧ KeepsStore s (wrTwinCtrl v s) := by
  have hw1 : (s.writeRegPlain A.TWIN_CTRL v).get F.TWIN_CTRL_EN = 1 := by rw [writeTwinCtrl_en, hv]; rfl
  have hlink : (s.writeRegPlain A.TWIN_CTRL v).tlink = s.tlink := writeTwinCtrl_other _ _ (by decide) (by decide)
  have hstore := keepsStore_writeRegPlain s A.TWIN_CTRL v
  have hfence : (s.writeRegPlain A.TWIN_CTRL v).fencedGroup 14 = s.fencedGroup 14 := by
    obtain ⟨m, hm⟩ := s.writeRegPlain_only A.TWIN_CTRL v
    rw [hm]
    rfl
  have hbreath : (s.writeRegPlain A.TWIN_CTRL v).breathing = s.breathing := by
    simp only [State.breathing, State.dstate, writeTwinCtrl_other v s (f := F.DISP_STAT_STATE) (by decide) (by decide)]
  have hwas : s.on F.TWIN_CTRL_EN = false := by rw [State.on, hen]; rfl
  unfold wrTwinCtrl
  generalize s.writeRegPlain A.TWIN_CTRL v = w at *
  simp only [hwas, hfence, Bool.false_and, Bool.false_eq_true, Bool.not_false, Bool.true_and, if_false]
  by_cases hf : s.fencedGroup 14 = true
  · have hen2 : (w.set F.TWIN_CTRL_EN 0).get F.TWIN_CTRL_EN = 0 := State.get_set_same w F.TWIN_CTRL_EN 0
    have hon : (w.set F.TWIN_CTRL_EN 0).on F.TWIN_CTRL_EN = false := by rw [State.on, hen2]; rfl
    simp only [hf, if_true, hon, Bool.false_eq_true, if_false]
    exact ⟨⟨hen2, (w.get_set_other (g := F.TWIN_STAT_LINK) 0 (by decide)).trans hlink⟩, hstore⟩
  · have hon : w.on F.TWIN_CTRL_EN = true := by rw [State.on, hw1]; rfl
    simp only [hf, if_false, hon, if_true, hbreath, Bool.false_eq_true]
    generalize hx : ({ w with twin := _ } : State) = x
    have hxen : x.get F.TWIN_CTRL_EN = 1 := by rw [← hx]; exact hw1
    have hxstore : KeepsStore s x := by rw [← hx]; exact hstore
    refine ⟨⟨?_, ?_, setTrole_trole (by split <;> decide) _⟩,
      (hxstore.trans (fieldsOnly_setTlink ..).keepsStore).trans (fieldsOnly_setTrole ..).keepsStore⟩
    · rw [keepsFields_setTrole _ _ _ (by decide) (by decide), keepsFields_setTlink _ _ _ (by decide) (by decide), hxen]
    · rw [State.tlink, keepsFields_setTrole _ _ _ (by decide) (by decide)]
      exact setTlink_tlink (by decide) x

theorem pairingOff_does (s : State) : (pairingOff s).tlink = tlOFF ∧ (pairingOff s).get F.TWIN_CTRL_EN = s.get F.TWIN_CTRL_EN
    ∧ (s.tlink ≠ tlOFF → (pairingOff s).trole = trNONE ∧ (pairingOff s).get F.TWIN_QUIET_OWN = 0 ∧ (pairingOff s).rsPhase = rsIDLE)
    ∧ KeepsStore s (pairingOff s) := by
  unfold pairingOff
  split
  · next h => exact ⟨beq_iff_eq.mp h, rfl, fun hne => absurd (beq_iff_eq.mp h) hne, rfl, rfl, rfl⟩
  · extract_lets s1 s2
    have hsend := keepsStore_sendTwin 0x22 (s.flatline 4 0) s
    have hkeep : KeepsFields (F.TWIN_STAT_UNCOVERED :: F.TWIN_RS_STAT_PHASE :: quietFields) s s1 :=
      ((KeepsFields.of_fld _ (sendTwin_fld 0x22 (s.flatline 4 0) s)).trans ((keepsFields_liftAll _).mono (by simp [quietFields]))).trans
        ((keepsFields_rsIdle _).mono (by simp))
    have hphase : s1.rsPhase = rsIDLE := rsIdle_phase _
    have hown : s1.get F.TWIN_QUIET_OWN = 0 := by
      unfold s1
      rw [keepsFields_rsIdle _ _ (by decide) (by decide), liftAll, State.get_set_other _ _ (by decide), State.get_set_same]
      rfl
    have hstore : KeepsStore s s1 := hsend.trans ((fieldsOnly_liftAll _).keepsStore.trans (keepsStore_rsIdle _))
    clear_value s1
    have hkeep2 : KeepsFields [F.TWIN_STAT_ALIGNED, F.TWIN_CMD_STAT_BUSY] s1 s2 :=
      ((KeepsFields.refl _ s1).set _ (by simp)).set _ (by simp)
    generalize hx : ({ s2 with twin := _ } : State) = x
    have hkeepx : KeepsFields [F.TWIN_STAT_ALIGNED, F.TWIN_CMD_STAT_BUSY] s1 x := hkeep2.congr (by rw [← hx])
    have hstorex : KeepsStore s x := by rw [← hx]; exact hstore
    have hlast : KeepsFields [F.TWIN_STAT_LINK, F.TWIN_EVT_LINK, F.TWIN_STAT_ROLE, F.TWIN_EVT_ROLE] x (setTrole trNONE (setTlink tlOFF x)) :=
      ((keepsFields_setTlink _ _).mono (by simp)).trans ((keepsFields_setTrole _ _).mono (by simp))
    refine ⟨?_, ?_, fun _ => ⟨setTrole_trole (by decide) _, ?_, ?_⟩,
      (hstorex.trans (fieldsOnly_setTlink ..).keepsStore).trans (fieldsOnly_setTrole ..).keepsStore⟩
    · rw [State.tlink, keepsFields_setTrole _ _ _ (by decide) (by decide)]
      exact setTlink_tlink (by decide) x
    · rw [hlast _ (by decide) (by decide), hkeepx _ (by decide) (by decide), hkeep _ (by decide) (by decide)]
    · rw [hlast _ (by decide) (by decide), hkeepx _ (by decide) (by decide), hown]
    · rw [State.rsPhase, hlast _ (by decide) (by decide), hkeepx _ (by decide) (by decide)]
      exact hphase

/-- EN written 0 where it was 1: the pairing ends. -/
theorem wrTwinCtrl_disable {v : Nat} {s : State} (hen : s.get F.TWIN_CTRL_EN = 1) (hv : bitOf v 31 = false) :
    (wrTwinCtrl v s).get F.TWIN_CTRL_EN = 0 ∧ (wrTwinCtrl v s).tlink = tlOFF
      ∧ (s.tlink ≠ tlOFF → (wrTwinCtrl v s).trole = trNONE ∧ (wrTwinCtrl v s).get F.TWIN_QUIET_OWN = 0 ∧ (wrTwinCtrl v s).rsPhase = rsIDLE)
      ∧ KeepsStore s (wrTwinCtrl v s) := by
  have hw0 : (s.writeRegPlain A.TWIN_CTRL v).get F.TWIN_CTRL_EN = 0 := by rw [writeTwinCtrl_en, hv]; rfl
  have hlink : (s.writeRegPlain A.TWIN_CTRL v).tlink = s.tlink := writeTwinCtrl_other _ _ (by decide) (by decide)
  have hstore := keepsStore_writeRegPlain s A.TWIN_CTRL v
  have hwas : s.on F.TWIN_CTRL_EN = true := by rw [State.on, hen]; rfl
  have hgo : ∃ w, wrTwinCtrl v s = pairingOff w ∧ w.get F.TWIN_CTRL_EN = 0 ∧ w.tlink = s.tlink ∧ KeepsStore s w := by
    unfold wrTwinCtrl
    generalize s.writeRegPlain A.TWIN_CTRL v = w at *
    extract_lets was w1 w2
    have hw2 : w2.get F.TWIN_CTRL_EN = 0 ∧ w2.tlink = s.tlink ∧ KeepsStore s w2 := by
      unfold w2
      split
      · exact ⟨State.get_set_same w F.TWIN_CTRL_EN 0, (w.get_set_other (g := F.TWIN_STAT_LINK) 0 (by decide)).trans hlink, hstore⟩
      · exact ⟨hw0, hlink, hstore⟩
    have hon : w2.on F.TWIN_CTRL_EN = false := by rw [State.on, hw2.1]; rfl
    refine ⟨w2, ?_, hw2⟩
    simp only [was, hwas, hon, Bool.not_true, Bool.false_eq_true, if_false, Bool.not_false, Bool.and_self, if_true]
  obtain ⟨w, hw, hwen, hwlink, hwstore⟩ := hgo
  obtain ⟨h1, h2, h3, h4⟩ := pairingOff_does w
  rw [hw]
  exact ⟨h2.trans hwen, h1, fun hne => h3 (hwlink ▸ hne), hwstore.trans h4⟩

/-! ## HELLOs (R289–R292) -/

/-- What a HELLO tells of the partner. -/
def helloFields : List Fd := [F.TWIN_LINKDLY_DELAY, F.TWIN_OFFSET_LO_OFFSET, F.TWIN_OFFSET_HI_OFFSET, F.TWIN_PSERIAL_LO_SERIAL,
  F.TWIN_PSERIAL_HI_SERIAL, F.TWIN_PNEXT_LO_N_LO, F.TWIN_PNEXT_HI_N_HI, F.TWIN_PSTART_LO_NS, F.TWIN_PSTART_HI_NS, F.TWIN_SKEW_SKEW]

theorem twinOffset_only (f : RxFrame) (s : State) : KeepsFields helloFields s (twinOffset f s)
    ∧ ∃ m o, twinOffset f s = { s with fld := m, twin := { s.twin with offset := o } } := by
  unfold twinOffset
  extract_lets d
  split
  · exact ⟨.refl _ s, s.fld, s.twin.offset, rfl⟩
  · split
    · exact ⟨.refl _ s, s.fld, s.twin.offset, rfl⟩
    · extract_lets dly o s1 s2
      have h2 : KeepsFields helloFields s s2 := (((KeepsFields.refl _ s).set _ (by simp [helloFields])).set _ (by simp [helloFields])).set
        _ (by simp [helloFields])
      have hf : FieldsOnly s s2 := (((FieldsOnly.refl s).set ..).set ..).set ..
      clear_value s2 o
      obtain ⟨m, rfl⟩ := hf
      exact ⟨h2.congr rfl, _, _, rfl⟩

/-- What a HELLO tells of the partner's breath. -/
def skewFields : List Fd :=
  [F.TWIN_PNEXT_LO_N_LO, F.TWIN_PNEXT_HI_N_HI, F.TWIN_PSTART_LO_NS, F.TWIN_PSTART_HI_NS, F.TWIN_SKEW_SKEW]

theorem twinSkew_only (f : RxFrame) (s : State) : KeepsFields skewFields s (twinSkew f s)
    ∧ ∃ m k, twinSkew f s = { s with fld := m, twin := { s.twin with skew := k } } := by
  unfold twinSkew
  extract_lets n s1
  have h1 : KeepsFields skewFields s s1 := ((KeepsFields.refl _ s).set _ (by simp [skewFields])).set _ (by simp [skewFields])
  have hf1 : FieldsOnly s s1 := ((FieldsOnly.refl s).set ..).set ..
  clear_value s1
  split
  · obtain ⟨m, rfl⟩ := hf1
    exact ⟨h1, m, s.twin.skew, rfl⟩
  · next o _ =>
    extract_lets ps s2 q k s3
    have h2 : KeepsFields skewFields s s2 := (h1.set _ (by simp [skewFields])).set _ (by simp [skewFields])
    have hf2 : FieldsOnly s s2 := (hf1.set ..).set ..
    have h3 : KeepsFields skewFields s s3 := h2.set _ (by simp [skewFields])
    have hf3 : FieldsOnly s s3 := hf2.set ..
    clear_value s3 k s2 ps
    split
    · obtain ⟨m, rfl⟩ := hf2
      exact ⟨h2.congr rfl, m, none, rfl⟩
    · obtain ⟨m, rfl⟩ := hf3
      obtain ⟨m2, rfl⟩ := hf2
      exact ⟨h3.congr rfl, m, some k, rfl⟩

/-- A HELLO that is taken. -/
structure TakesHello (f : RxFrame) (s w : State) : Prop where
  keeps : KeepsFields helloFields s w
  only : ∃ m x, w = { s with fld := m, twin := x }
  helloRx : w.twin.helloRx = s.now
  hellos : w.twin.hellos = s.twin.hellos + 1
  serialHi : w.get F.TWIN_PSERIAL_HI_SERIAL = twAt f 4 4 % 2 ^ 32
  serialLo : w.get F.TWIN_PSERIAL_LO_SERIAL = twAt f 8 4 % 2 ^ 32

theorem takeHello_takes (f : RxFrame) (s : State) : TakesHello f s (takeHello f s) := by
  unfold takeHello
  extract_lets s1 run w s2
  obtain ⟨hkeep1, m1, o, hm1⟩ := twinOffset_only f s
  have h1 : s1 = { s with fld := m1, twin := { s.twin with offset := o } } := hm1
  have hkeep : KeepsFields helloFields s s1 := hkeep1
  have hfld2 : s2.fld = s1.fld := rfl
  have hrest2 : ∃ m x, s2 = { s with fld := m, twin := x } := ⟨s2.fld, s2.twin, by unfold s2; rw [h1]⟩
  have hrx2 : s2.twin.helloRx = s.now := by unfold s2; rw [h1]
  have hhellos2 : s2.twin.hellos = s.twin.hellos + 1 := by unfold s2 w; rw [h1]
  clear_value s2
  generalize hs3 : (s2.set F.TWIN_PSERIAL_LO_SERIAL (twAt f 8 4)).set F.TWIN_PSERIAL_HI_SERIAL (twAt f 4 4) = s3
  have hkeep3 : KeepsFields helloFields s s3 := by
    rw [← hs3]
    exact ((hkeep.congr hfld2).set _ (by simp [helloFields])).set _ (by simp [helloFields])
  have hhi : s3.get F.TWIN_PSERIAL_HI_SERIAL = twAt f 4 4 % 2 ^ 32 := by rw [← hs3]; exact State.get_set_same ..
  have hlo : s3.get F.TWIN_PSERIAL_LO_SERIAL = twAt f 8 4 % 2 ^ 32 := by
    rw [← hs3, State.get_set_other _ _ (by decide)]; exact State.get_set_same ..
  have htwin3 : s3.twin = s2.twin := by rw [← hs3]; rfl
  have hrest3 : ∃ m x, s3 = { s with fld := m, twin := x } := by
    obtain ⟨m, x, rfl⟩ := hrest2
    exact ⟨s3.fld, x, by rw [← hs3]; rfl⟩
  clear hs3
  obtain ⟨hkeep4, m4, k, hm4⟩ := twinSkew_only f s3
  refine ⟨hkeep3.trans (hkeep4.mono (by decide)), ?_, ?_, ?_, ?_, ?_⟩
  · obtain ⟨m, x, rfl⟩ := hrest3
    exact ⟨m4, _, hm4⟩
  · rw [hm4]; exact (congrArg TwinS.helloRx htwin3).trans hrx2
  · rw [hm4]; exact (congrArg TwinS.hellos htwin3).trans hhellos2
  · rw [hkeep4 _ (by decide) (by decide), hhi]
  · rw [hkeep4 _ (by decide) (by decide), hlo]

theorem keepsFields_journal (t : Nat) (b : List Byte) (s : State) : KeepsFields ligFields s (journal t b s) := fun _ _ h => journal_get t b s h

theorem keepsFields_quietFor (r i : Nat) (s : State) : KeepsFields quietFields s (quietFor r i s) :=
  keepsFields_addQuiets r (s.quietSet i) s

theorem roleNow_lt (s : State) : s.roleNow < 4 := by
  unfold State.roleNow
  extract_lets lower me a b
  have hlower : lower < 4 := by unfold lower; split <;> decide
  clear_value lower me a b
  split
  · split <;> decide
  · split
    · exact hlower
    · split
      · exact hlower
      · split <;> decide

/-- The fields that the forming of a pair writes beside LINK and ROLE. -/
def pairFields : List Fd := F.TWIN_STAT_ALIGNED :: F.TWIN_STAT_JOINREQ :: F.TWIN_EVT_JOIN :: (quietFields ++ ligFields)

/-- The pair forms: the link is PAIRED and the role the one of R291. -/
theorem pairUp_does (s : State) : (pairUp s).tlink = tlPAIRED ∧ (pairUp s).trole = s.roleNow := by
  have hrole := roleNow_lt s
  unfold pairUp
  generalize s.roleNow = r at hrole
  have hlink1 : (setTlink tlPAIRED (setTrole r s)).tlink = tlPAIRED := setTlink_tlink (by decide) _
  have hrole1 : (setTlink tlPAIRED (setTrole r s)).trole = r := by
    rw [State.trole, keepsFields_setTlink _ _ _ (by decide) (by decide)]
    exact setTrole_trole hrole s
  generalize setTlink tlPAIRED (setTrole r s) = s1 at hlink1 hrole1
  extract_lets s2 q s3 s4 s5 rule2 s6 s7
  have hquiet : ∀ f ∈ quietFields, f ∈ pairFields := by decide
  have h4 : KeepsFields pairFields s1 s4 := KeepsFields.set (w := s3) _ (.of_fld _ rfl) (by simp [pairFields])
  have h5 : KeepsFields pairFields s1 s5 := h4.trans ((keepsFields_journal _ _ s4).mono (by decide))
  have h6 : KeepsFields pairFields s1 s6 := (h5.set _ (by simp [pairFields])).set _ (by simp [pairFields])
  clear_value s6 s5
  have h7 : KeepsFields pairFields s1 s7 := .ite h5 (h6.trans ((keepsFields_addQuiets _ _ s6).mono hquiet))
  clear_value s7
  generalize hw : (if (s5.trole != trFOLLOW) = true then s5 else _) = w
  have h : KeepsFields pairFields s1 w := by
    rw [← hw]
    exact .ite h5 (.foldl _ _ h7 fun i _ u => (keepsFields_quietFor qrIMAGE i u).mono hquiet)
  exact ⟨(h _ (by decide) (by decide)).trans hlink1, (h _ (by decide) (by decide)).trans hrole1⟩

theorem incompat_lt (s : State) (f : RxFrame) : s.incompat f < 8 := by
  unfold State.incompat
  repeat' split
  all_goals decide

/-- A HELLO that is not compatible shows why, and the count of HELLOs starts over. -/
theorem hello_incompat {f : RxFrame} {s : State} (h : s.incompat f ≠ 0) :
    hello f s = { s.set F.TWIN_STAT_INCOMPAT (s.incompat f) with twin := { s.twin with hellos := 0 } } := by
  unfold hello
  extract_lets bad
  rw [if_pos (bne_iff_ne.2 h)]

/-- A compatible HELLO before the pair forms. -/
theorem hello_seeking {f : RxFrame} {s : State} (h : s.incompat f = 0) (hp : s.twinPaired = false) :
    hello f s = if 4 ≤ (takeHello f s).twin.hellos && (takeHello f s).twin.offset.isSome then pairUp (takeHello f s) else takeHello f s := by
  have hp' : (takeHello f s).twinPaired = false := by
    rw [State.twinPaired, State.tlink, (takeHello_takes f s).keeps _ (by decide) (by decide)]
    exact hp
  unfold hello
  extract_lets bad q1 q2 s1 s2
  rw [if_neg (by simp [bad, h])]
  have h1 : s1 = s := if_neg (by rw [hp]; exact Bool.false_ne_true)
  have h2 : s2 = takeHello f s := congrArg (takeHello f) h1
  rw [h2, hp', if_neg Bool.false_ne_true]

/-- A compatible HELLO of the partner, the skew within its limit. -/
theorem hello_paired {f : RxFrame} {s : State} (h : s.incompat f = 0) (hp : s.twinPaired = true) (hr : twByte f 16 ≠ trNONE)
    (hs : twAt f 4 8 = s.partnerSerial)
    (hk : ∀ k, (takeHello f s).twin.skew = some k → k.natAbs ≤ 256 * max 1 (s.get F.TWIN_SKEW_MAX_NS)) :
    hello f s = (takeHello f s).set F.TWIN_STAT_ALIGNED (takeHello f s).alignedNow.toNat := by
  have hp' : (takeHello f s).twinPaired = true := by
    rw [State.twinPaired, State.tlink, (takeHello_takes f s).keeps _ (by decide) (by decide)]
    exact hp
  have hmax : (takeHello f s).get F.TWIN_SKEW_MAX_NS = s.get F.TWIN_SKEW_MAX_NS := (takeHello_takes f s).keeps _ (by decide) (by decide)
  unfold hello
  extract_lets bad q1 q2 s1 s2 skewed s3
  rw [if_neg (by simp [bad, h])]
  have h1 : s1 = s := if_neg (by simp [hs, hr])
  have h2 : s2 = takeHello f s := congrArg (takeHello f) h1
  have h3 : skewed = false := by
    unfold skewed
    rw [h2]
    split
    · next k hke =>
      rw [hmax]
      exact decide_eq_false (Nat.not_lt.2 (hk k hke))
    · rfl
  have h4 : s3 = (takeHello f s).set F.TWIN_STAT_ALIGNED (takeHello f s).alignedNow.toNat := by
    unfold s3
    rw [h2]
  rw [if_pos (h2 ▸ hp'), h3, if_neg Bool.false_ne_true, h4]

/-! ## BREATH frames (R296, R297, R302) -/

theorem foldl_asrc {α : Type} (g : State → α → State) (l : List α) (s : State) (hg : ∀ x u, ∃ a, g u x = { u with asrc := a }) :
    ∃ a, l.foldl g s = { s with asrc := a } := by
  induction l generalizing s with
  | nil => exact ⟨s.asrc, rfl⟩
  | cons x l ih =>
    obtain ⟨a, ha⟩ := hg x s
    obtain ⟨c, hc⟩ := ih (g s x)
    exact ⟨c, by rw [List.foldl_cons, hc, ha]⟩

theorem takeRatios_only (f : RxFrame) (b : Nat) (s : State) : ∃ a, takeRatios f b s = { s with asrc := a } := by
  unfold takeRatios
  split
  · exact ⟨s.asrc, rfl⟩
  · refine foldl_asrc _ _ s fun j u => ?_
    dsimp only
    split
    · exact ⟨u.asrc, rfl⟩
    · exact ⟨_, rfl⟩

/-- A BREATH frame of the partner is kept, and shows its quiet mask. -/
theorem heartbeat_partner {f : RxFrame} {s : State} (h : s.fromPartner f = true) :
    ((heartbeat f s).twin.part.head?.map BFrame.b) = some (s.unwrap (twAt f 12 6))
      ∧ (heartbeat f s).get F.TWIN_QUIET_PARTNER = twAt f 20 2 % 2 ^ 16 ∧ (heartbeat f s).net = s.net ∧ KeepsStore s (heartbeat f s) := by
  unfold heartbeat
  rw [if_neg (by rw [h]; decide)]
  extract_lets b q fr q0 s1 s2 s3 mine q1 s4
  have h2 : s2.twin.part.head?.map BFrame.b = some b ∧ s2.get F.TWIN_QUIET_PARTNER = q % 2 ^ 16 ∧ s2.net = s.net ∧ KeepsStore s s2 :=
    ⟨rfl, State.get_set_same s1 F.TWIN_QUIET_PARTNER q, rfl, rfl, rfl, rfl⟩
  clear_value s2
  obtain ⟨hpart, hquiet, hnet, hstore⟩ := h2
  have hf3 : FieldsOnly s2 s3 := .foldl _ _ (.refl s2) fun i u => .ite (fieldsOnly_putReason i 0 u) (.refl u)
  have hk3 : KeepsFields quietFields s2 s3 := .foldl _ _ (.refl _ s2) fun i _ u => .ite (keepsFields_putReason i 0 u) (.refl _ u)
  clear_value s3
  have h4 : ∃ r, s4 = { s3 with twin := { s3.twin with role := r } } := by
    unfold s4
    split
    · split
      · exact ⟨_, rfl⟩
      · split
        · exact ⟨_, rfl⟩
        · exact ⟨s3.twin.role, rfl⟩
    · exact ⟨s3.twin.role, rfl⟩
  clear_value s4
  obtain ⟨r, rfl⟩ := h4
  obtain ⟨a, ha⟩ := takeRatios_only f b { s3 with twin := { s3.twin with role := r } }
  rw [ha]
  refine ⟨?_, ?_, hf3.net.trans hnet, hstore.trans hf3.keepsStore⟩
  · exact (congrArg (fun w : TwinS => w.part.head?.map BFrame.b) hf3.twin).trans hpart
  · exact (hk3 _ (by decide) (by decide)).trans hquiet

/-! ## Comparing digests (R297, R299, R300) -/

/-- The fields that the comparison of section `i` writes. -/
def digFields (i : Nat) : List Fd := F.TWIN_DIG_OWN_LO_DIGEST i :: F.TWIN_DIG_OWN_HI_DIGEST i :: F.TWIN_DIG_BREATH_BREATH i
  :: F.TWIN_DIG_PART_LO_DIGEST i :: F.TWIN_DIG_PART_HI_DIGEST i :: F.TWIN_CNT0_MISMATCH :: F.TWIN_EVT_MISMATCH :: quietFields

/-- What the comparison of section `i` shows of its digests. -/
structure ShowsDigests (o p : BFrame) (i : Nat) (s : State) : Prop where
  own : s.get (F.TWIN_DIG_OWN_LO_DIGEST i) = o.digs.getD i 0 % 2 ^ 32
  partner : s.get (F.TWIN_DIG_PART_LO_DIGEST i) = p.digs.getD i 0 % 2 ^ 32
  breath : s.get (F.TWIN_DIG_BREATH_BREATH i) = o.b % 2 ^ 32

/-- `w` is `s` but for its fields and its counts of agreement. -/
def AgreeOnly (s w : State) : Prop := ∃ m a, w = { s with fld := m, twin := { s.twin with agree := a } }

theorem AgreeOnly.of_agree (s : State) (a : SMap Nat) : AgreeOnly s { s with twin := { s.twin with agree := a } } := ⟨s.fld, a, rfl⟩

theorem FieldsOnly.agreeOnly {s w : State} (h : FieldsOnly s w) : AgreeOnly s w := by
  obtain ⟨m, rfl⟩ := h
  exact ⟨m, s.twin.agree, rfl⟩

theorem AgreeOnly.trans {s w x : State} (h : AgreeOnly s w) (k : AgreeOnly w x) : AgreeOnly s x := by
  obtain ⟨m, a, rfl⟩ := h
  obtain ⟨n, c, rfl⟩ := k
  exact ⟨n, c, rfl⟩

theorem AgreeOnly.ite {s x y : State} {p : Prop} [Decidable p] (hx : AgreeOnly s x) (hy : AgreeOnly s y) :
    AgreeOnly s (if p then x else y) := by
  split
  · exact hx
  · exact hy

theorem AgreeOnly.foldl {α : Type} (f : State → α → State) (l : List α) (s : State) (hf : ∀ x u, AgreeOnly u (f u x)) :
    AgreeOnly s (l.foldl f s) := by
  induction l generalizing s with
  | nil => exact (FieldsOnly.refl s).agreeOnly
  | cons x l ih => exact (hf x s).trans (ih (f s x))

/-- The fields of the verdict. -/
def verdictFields : List Fd := F.TWIN_CNT0_MISMATCH :: F.TWIN_EVT_MISMATCH :: quietFields

/-- The digests of both twins as the registers show them. -/
def showDigests (o p : BFrame) (i : Nat) (s : State) : State :=
  ((((s.set (F.TWIN_DIG_OWN_LO_DIGEST i) (o.digs.getD i 0)).set (F.TWIN_DIG_OWN_HI_DIGEST i) (o.digs.getD i 0 / 2 ^ 32)).set
    (F.TWIN_DIG_BREATH_BREATH i) o.b).set (F.TWIN_DIG_PART_LO_DIGEST i) (p.digs.getD i 0)).set (F.TWIN_DIG_PART_HI_DIGEST i)
    (p.digs.getD i 0 / 2 ^ 32)

theorem compareSec_invalid {o p : BFrame} {i : Nat} {s : State} (h : (bitOf o.dvalid i && bitOf p.dvalid i) = false) :
    compareSec o p i s = { s with twin := { s.twin with agree := mset 0 i 0 s.twin.agree } } := by
  unfold compareSec
  rw [if_pos (by rw [h]; rfl)]

/-- Where both digests are valid, they show, and the verdict follows. -/
theorem compareSec_valid {o p : BFrame} {i : Nat} {s : State} (h : (bitOf o.dvalid i && bitOf p.dvalid i) = true) :
    KeepsFields verdictFields (showDigests o p i s) (compareSec o p i s)
      ∧ AgreeOnly s (compareSec o p i s) := by
  unfold compareSec
  rw [if_neg (by rw [h]; decide)]
  extract_lets x y s1 s2 k q3 s3 s4 q5 s5
  have h2 : AgreeOnly s s2 := ((((FieldsOnly.refl s).set ..).set ..).set ..).set .. |>.set .. |>.agreeOnly
  rw [← show s2 = showDigests o p i s from rfl]
  clear_value s2
  have h3 : AgreeOnly s s3 := h2.trans (.of_agree s2 _)
  have hk3 : KeepsFields verdictFields s2 s3 := .of_fld _ rfl
  have hk4 : KeepsFields verdictFields s2 s4 := ((KeepsFields.refl _ s2).addSat 1 (by simp [verdictFields])).set _ (by simp [verdictFields])
  have h4 : AgreeOnly s s4 := h2.trans (((FieldsOnly.refl s2).set ..).set ..).agreeOnly
  clear_value s4
  have h5 : AgreeOnly s s5 := h4.trans (.of_agree s4 _)
  have hk5 : KeepsFields verdictFields s2 s5 := hk4.congr rfl
  clear_value s3 s5
  have hquiet : ∀ f ∈ quietFields, f ∈ verdictFields := by decide
  constructor
  · exact .ite (.ite (hk3.trans ((keepsFields_putReason i 0 s3).mono hquiet)) hk3)
      (.ite (hk5.trans ((keepsFields_addQuiets _ _ s5).mono hquiet)) hk5)
  · exact .ite (.ite (h3.trans (fieldsOnly_putReason i 0 s3).agreeOnly) h3) (.ite (h5.trans (fieldsOnly_addQuiets _ _ s5).agreeOnly) h5)

theorem compareSec_agreeOnly (o p : BFrame) (i : Nat) (s : State) : AgreeOnly s (compareSec o p i s) := by
  cases h : bitOf o.dvalid i && bitOf p.dvalid i with
  | true => exact (compareSec_valid h).2
  | false =>
    rw [compareSec_invalid h]
    exact .of_agree s _

/-- The registers of a section's digests. -/
theorem digest_apart {i j : Nat} (h : i ≠ j) : ∀ f ∈ [F.TWIN_DIG_OWN_LO_DIGEST i, F.TWIN_DIG_PART_LO_DIGEST i, F.TWIN_DIG_BREATH_BREATH i],
    ∀ g ∈ [F.TWIN_DIG_OWN_LO_DIGEST j, F.TWIN_DIG_OWN_HI_DIGEST j, F.TWIN_DIG_BREATH_BREATH j, F.TWIN_DIG_PART_LO_DIGEST j,
      F.TWIN_DIG_PART_HI_DIGEST j], Fd.key f ≠ Fd.key g := by
  simp only [List.mem_cons, List.not_mem_nil, or_false, forall_eq_or_imp, forall_eq, Fd.key, F.TWIN_DIG_OWN_LO_DIGEST,
    F.TWIN_DIG_OWN_HI_DIGEST, F.TWIN_DIG_PART_LO_DIGEST, F.TWIN_DIG_PART_HI_DIGEST, F.TWIN_DIG_BREATH_BREATH, A.TWIN_DIG_OWN_LO,
    A.TWIN_DIG_OWN_HI, A.TWIN_DIG_PART_LO, A.TWIN_DIG_PART_HI, A.TWIN_DIG_BREATH]
  omega

/-- The registers that show the digests of section `i`. -/
def digestRegs (i : Nat) : List Fd := [F.TWIN_DIG_OWN_LO_DIGEST i, F.TWIN_DIG_PART_LO_DIGEST i, F.TWIN_DIG_BREATH_BREATH i]

theorem digestRegs_place {i : Nat} : ∀ f ∈ digestRegs i, f.lsb < 32 ∧ f.addr % 2 ^ 32 / 65536 = 0x2010 ∧ 0x84 ≤ f.addr % 65536 := by
  simp only [digestRegs, List.mem_cons, List.not_mem_nil, or_false, forall_eq_or_imp, forall_eq, F.TWIN_DIG_OWN_LO_DIGEST,
    F.TWIN_DIG_PART_LO_DIGEST, F.TWIN_DIG_BREATH_BREATH, A.TWIN_DIG_OWN_LO, A.TWIN_DIG_PART_LO, A.TWIN_DIG_BREATH]
  omega

theorem digestRegs_quiet {i : Nat} : ∀ f ∈ digestRegs i, Fd.quiet f = true := fun f hf => by
  obtain ⟨h1, h2, -⟩ := digestRegs_place f hf
  exact Fd.quiet_of_block h1 (by omega)

theorem verdict_place : ∀ g ∈ verdictFields, g.lsb < 32 ∧ g.addr % 65536 < 0x84 := by decide

/-- The TWIN unit's other registers lie below those of the digests. -/
theorem digestRegs_stat {i : Nat} {f g : Fd} (hf : f ∈ digestRegs i) (h1 : g.lsb < 32) (h2 : g.addr % 65536 < 0x84) :
    Fd.key f ≠ Fd.key g := by
  obtain ⟨k1, -, k3⟩ := digestRegs_place f hf
  exact Fd.key_ne k1 h1 (.inl (by omega))

theorem compareSec_shows {o p : BFrame} {i : Nat} {s : State} (h : (bitOf o.dvalid i && bitOf p.dvalid i) = true) :
    ShowsDigests o p i (compareSec o p i s) := by
  have hk : ∀ f ∈ digestRegs i, (compareSec o p i s).get f = (showDigests o p i s).get f := fun f hf =>
    (compareSec_valid h).1 f (digestRegs_quiet f hf) fun g hg => digestRegs_stat hf (verdict_place g hg).1 (verdict_place g hg).2
  have hne : (Fd.key (F.TWIN_DIG_OWN_LO_DIGEST i) ≠ Fd.key (F.TWIN_DIG_PART_HI_DIGEST i)
      ∧ Fd.key (F.TWIN_DIG_OWN_LO_DIGEST i) ≠ Fd.key (F.TWIN_DIG_PART_LO_DIGEST i)
      ∧ Fd.key (F.TWIN_DIG_OWN_LO_DIGEST i) ≠ Fd.key (F.TWIN_DIG_BREATH_BREATH i)
      ∧ Fd.key (F.TWIN_DIG_OWN_LO_DIGEST i) ≠ Fd.key (F.TWIN_DIG_OWN_HI_DIGEST i))
      ∧ Fd.key (F.TWIN_DIG_PART_LO_DIGEST i) ≠ Fd.key (F.TWIN_DIG_PART_HI_DIGEST i)
      ∧ Fd.key (F.TWIN_DIG_BREATH_BREATH i) ≠ Fd.key (F.TWIN_DIG_PART_HI_DIGEST i)
      ∧ Fd.key (F.TWIN_DIG_BREATH_BREATH i) ≠ Fd.key (F.TWIN_DIG_PART_LO_DIGEST i) := by
    simp only [Fd.key, F.TWIN_DIG_OWN_LO_DIGEST, F.TWIN_DIG_OWN_HI_DIGEST, F.TWIN_DIG_PART_LO_DIGEST, F.TWIN_DIG_PART_HI_DIGEST,
      F.TWIN_DIG_BREATH_BREATH, A.TWIN_DIG_OWN_LO, A.TWIN_DIG_OWN_HI, A.TWIN_DIG_PART_LO, A.TWIN_DIG_PART_HI, A.TWIN_DIG_BREATH]
    omega
  obtain ⟨⟨h1, h2, h3, h4⟩, h5, h6, h7⟩ := hne
  refine ⟨?_, ?_, ?_⟩ <;> rw [hk _ (by simp [digestRegs]), showDigests]
  · rw [State.get_set_other _ _ h1, State.get_set_other _ _ h2, State.get_set_other _ _ h3, State.get_set_other _ _ h4, State.get_set_same]
    rfl
  · rw [State.get_set_other _ _ h5, State.get_set_same]
    rfl
  · rw [State.get_set_other _ _ h6, State.get_set_other _ _ h7, State.get_set_same]
    rfl

theorem compareSec_keeps_digests {o p : BFrame} {i j : Nat} (hij : i ≠ j) (s : State) :
    ∀ f ∈ digestRegs i, (compareSec o p j s).get f = s.get f := fun f hf => by
  cases h : bitOf o.dvalid j && bitOf p.dvalid j with
  | false => rw [compareSec_invalid h]; rfl
  | true =>
    have hne := digest_apart hij f hf
    rw [(compareSec_valid h).1 f (digestRegs_quiet f hf) (fun g hg => digestRegs_stat hf (verdict_place g hg).1 (verdict_place g hg).2), showDigests,
      State.get_set_other _ _ (hne _ (by simp)), State.get_set_other _ _ (hne _ (by simp)), State.get_set_other _ _ (hne _ (by simp)),
      State.get_set_other _ _ (hne _ (by simp)), State.get_set_other _ _ (hne _ (by simp))]

theorem ShowsDigests.congr {o p : BFrame} {i : Nat} {s w : State} (h : ShowsDigests o p i s)
    (hw : ∀ f ∈ digestRegs i, w.get f = s.get f) : ShowsDigests o p i w :=
  ⟨(hw _ (by simp [digestRegs])).trans h.own, (hw _ (by simp [digestRegs])).trans h.partner, (hw _ (by simp [digestRegs])).trans h.breath⟩

theorem compareSecs_shows {o p : BFrame} {i : Nat} (h : (bitOf o.dvalid i && bitOf p.dvalid i) = true) (l : List Nat) (hi : i ∈ l)
    (s : State) : ShowsDigests o p i (l.foldl (fun u j => compareSec o p j u) s) := by
  have hkeep : ∀ (l : List Nat) (u : State), ShowsDigests o p i u → ShowsDigests o p i (l.foldl (fun u j => compareSec o p j u) u) := by
    intro l
    induction l with
    | nil => exact fun u hu => hu
    | cons j l ih =>
      intro u hu
      refine ih _ ?_
      by_cases hij : i = j
      · exact hij ▸ compareSec_shows h
      · exact hu.congr (compareSec_keeps_digests hij u)
  induction l generalizing s with
  | nil => cases hi
  | cons j l ih =>
    rw [List.foldl_cons]
    rcases List.mem_cons.mp hi with rfl | hi
    · exact hkeep l _ (compareSec_shows h)
    · exact ih hi _

/-! ## Requests of a re-seat -/

theorem rsRequest_keeps (set : Nat) (s : State) : KeepsFields [F.TWIN_RS_STAT_SET, F.TWIN_RS_STAT_PHASE] s (rsRequest set s)
    ∧ (∃ m r q n, rsRequest set s = { s with fld := m, twin := { s.twin with seq := q, rs := r }, net := n }) := by
  unfold rsRequest
  extract_lets s1 s2
  have h1 : KeepsFields [F.TWIN_RS_STAT_SET, F.TWIN_RS_STAT_PHASE] s s1 := ((KeepsFields.refl _ s).set _ (by simp)).set _ (by simp)
  obtain ⟨q, n, hs⟩ := sendTwin_only 0x25 (beBytes 2 set ++ beBytes 6 (bidx s2.n)) s2
  exact ⟨h1.congr ((sendTwin_fld ..).trans rfl), s1.fld, s2.twin.rs, q, n, hs⟩

theorem rsSeek_cases (l : List Nat) (s : State) : rsSeek l s = s ∨ ∃ set, rsSeek l s = rsRequest set s := by
  unfold rsSeek
  extract_lets own more div join m
  split
  · exact .inl rfl
  · exact .inr ⟨_, rfl⟩

theorem compareSec_phase (o p : BFrame) (i : Nat) (s : State) : (compareSec o p i s).rsPhase = s.rsPhase := by
  cases h : bitOf o.dvalid i && bitOf p.dvalid i with
  | false => rw [compareSec_invalid h]; rfl
  | true =>
    rw [State.rsPhase, (compareSec_valid h).1 _ (by decide) (by decide), showDigests]
    have hne : ∀ f : Fd, f.lsb = 0 → f.addr % 65536 ≥ 0x84 → Fd.key F.TWIN_RS_STAT_PHASE ≠ Fd.key f := fun f h1 h2 =>
      Fd.key_ne (by decide) (by omega) (.inl (by simp only [F.TWIN_RS_STAT_PHASE, A.TWIN_RS_STAT]; omega))
    rw [State.get_set_other _ _ (hne _ rfl (by simp only [F.TWIN_DIG_PART_HI_DIGEST, A.TWIN_DIG_PART_HI]; omega)),
      State.get_set_other _ _ (hne _ rfl (by simp only [F.TWIN_DIG_PART_LO_DIGEST, A.TWIN_DIG_PART_LO]; omega)),
      State.get_set_other _ _ (hne _ rfl (by simp only [F.TWIN_DIG_BREATH_BREATH, A.TWIN_DIG_BREATH]; omega)),
      State.get_set_other _ _ (hne _ rfl (by simp only [F.TWIN_DIG_OWN_HI_DIGEST, A.TWIN_DIG_OWN_HI]; omega)),
      State.get_set_other _ _ (hne _ rfl (by simp only [F.TWIN_DIG_OWN_LO_DIGEST, A.TWIN_DIG_OWN_LO]; omega))]
    rfl

theorem compareSecs_phase (o p : BFrame) (l : List Nat) (s : State) :
    (l.foldl (fun u j => compareSec o p j u) s).rsPhase = s.rsPhase := foldl_keeps State.rsPhase _ _ _ fun j _ u => compareSec_phase o p j u

/-- The comparison of the digests of breath `n - 3` where both frames are there and the twins are not quiet for one section. -/
theorem digestCompare_does {b : Nat} {o p : BFrame} {s : State} (hp : s.twinPaired = true) (hbr : s.breathing = true)
    (hn : s.disp.first + 3 ≤ s.n) (hb : b = s.n - 3) (hcmp : s.twin.cmpB ≤ b) (ho : s.twin.own.find? (fun e => e.b == b) = some o)
    (hpf : s.twin.part.find? (fun e => e.b == b) = some p) (hrs : s.rsPhase ≠ rsCHECKING) (hq : o.quiet &&& p.quiet = 0) :
    (digestCompare s).twin.cmpB = b + 1 ∧ (digestCompare s).get F.TWIN_STAT_UNCOVERED = 0
      ∧ (∀ i < 16, bitOf o.dvalid i = true → bitOf p.dvalid i = true → ShowsDigests o p i (digestCompare s))
      ∧ KeepsStore s (digestCompare s) := by
  unfold digestCompare
  extract_lets b' q s1 p' q2 s3
  have hb' : b' = b := hb.symm
  have hp' : p' = some p := by unfold p'; rw [hb']; exact hpf
  have hgo : (!s.twinPaired || !s.breathing || decide (s.n < s.disp.first + 3) || decide (b' < s.twin.cmpB)) = false := by
    rw [hp, hbr, decide_eq_false (by omega), decide_eq_false (by omega)]
    rfl
  have h3 : ∃ k, s3 = { s with twin := { s.twin with cmpB := b + 1, missed := k } } := by
    rw [← hb']
    unfold s3
    split
    · exact ⟨s.twin.missed, rfl⟩
    · rw [if_pos (by rw [hp']; rfl)]
      exact ⟨0, rfl⟩
  clear_value s3 p' b'
  subst hb' hp'
  obtain ⟨k, h3⟩ := h3
  have hown : s3.twin.own.find? (fun e => e.b == b') = some o := by rw [h3]; exact ho
  have hpair : s3.twinPaired = true := by rw [h3]; exact hp
  have hcmpw : s3.twin.cmpB = b' + 1 := by rw [h3]
  have hphasew : s3.rsPhase ≠ rsCHECKING := by rw [h3]; exact hrs
  have hstorew : KeepsStore s s3 := by rw [h3]; exact ⟨rfl, rfl, rfl⟩
  clear h3
  rw [if_neg (by rw [hgo]; exact Bool.false_ne_true)]
  simp only [hown, hpair, Bool.not_true, Bool.false_eq_true, if_false]
  have hdig : ∀ i < 16, bitOf o.dvalid i = true → bitOf p.dvalid i = true →
      ShowsDigests o p i ((List.range 16).foldl (fun u j => compareSec o p j u) s3) := fun i hi h1 h2 =>
    compareSecs_shows (by rw [h1, h2]; rfl) _ (List.mem_range.2 hi) s3
  obtain ⟨m, a, hx⟩ := AgreeOnly.foldl (fun u j => compareSec o p j u) (List.range 16) s3 fun j u => compareSec_agreeOnly o p j u
  have hphase := (compareSecs_phase o p (List.range 16) s3).trans_ne hphasew
  generalize (List.range 16).foldl (fun u j => compareSec o p j u) s3 = x at hx hdig hphase ⊢
  have hstep : checkUncovered o p (rsCheck o p x) = x.set F.TWIN_STAT_UNCOVERED 0 := by
    rw [rsCheck, if_pos (by simp [hphase]), checkUncovered]
    exact if_pos hq
  rw [hstep]
  have hy : (x.set F.TWIN_STAT_UNCOVERED 0).twin.cmpB = b' + 1 := by rw [hx]; exact hcmpw
  have hystore : KeepsStore s (x.set F.TWIN_STAT_UNCOVERED 0) := hstorew.trans (by rw [hx]; exact ⟨rfl, rfl, rfl⟩)
  have hyunc : (x.set F.TWIN_STAT_UNCOVERED 0).get F.TWIN_STAT_UNCOVERED = 0 := State.get_set_same ..
  have hydig : ∀ i < 16, bitOf o.dvalid i = true → bitOf p.dvalid i = true → ShowsDigests o p i (x.set F.TWIN_STAT_UNCOVERED 0) :=
    fun i hi h1 h2 => (hdig i hi h1 h2).congr fun f hf => State.get_set_other _ _ (digestRegs_stat hf (by decide) (by decide))
  generalize x.set F.TWIN_STAT_UNCOVERED 0 = y at hy hystore hyunc hydig
  rcases rsSeek_cases ((List.range 16).filter (x.stale o p)) y with h | ⟨set, h⟩
  · rw [h]
    exact ⟨hy, hyunc, hydig, hystore⟩
  · obtain ⟨hkeep, m, r, q, n, hreq⟩ := rsRequest_keeps set y
    rw [h]
    refine ⟨by rw [hreq]; exact hy, (hkeep _ (by decide) (by decide)).trans hyunc, fun i hi h1 h2 => (hydig i hi h1 h2).congr fun f hf =>
      hkeep f (digestRegs_quiet f hf) fun g hg => ?_, hystore.trans (by rw [hreq]; exact ⟨rfl, rfl, rfl⟩)⟩
    have hall : ∀ g ∈ [F.TWIN_RS_STAT_SET, F.TWIN_RS_STAT_PHASE], g.lsb < 32 ∧ g.addr % 65536 < 0x84 := by decide
    exact digestRegs_stat hf (hall g hg).1 (hall g hg).2

/-! ## Yields (R295) -/

/-- A role decided before takes effect. -/
theorem roleResolve_does {b r : Nat} {s : State} (h : s.twin.role = some (b, r)) (hr : r < 3) (hb : s.breathing = true → b < s.n) :
    (roleResolve s).trole = r ∧ (roleResolve s).twin.role = none ∧ KeepsStore s (roleResolve s) := by
  have hgo : ¬ (s.breathing && decide (s.n ≤ b)) = true := by
    rw [Bool.and_eq_true, decide_eq_true_eq]
    exact fun ⟨h1, h2⟩ => absurd (hb h1) (by omega)
  unfold roleResolve
  simp only [h]
  rw [if_neg hgo]
  generalize hw : ({ s with twin := { s.twin with role := none } } : State) = w
  have hrole : w.twin.role = none := by rw [← hw]
  have hstore : KeepsStore s w := by rw [← hw]; exact ⟨rfl, rfl, rfl⟩
  have ht := setTrole_trole (r := r) (by omega) w
  have hf := fieldsOnly_setTrole r w
  generalize setTrole r w = x at ht hf ⊢
  have hx : x.twin.role = none := by rw [hf.twin]; exact hrole
  split
  · refine ⟨(keepsFields_rsLost x _ (by decide) (by decide)).trans ht, ?_, (hstore.trans hf.keepsStore).trans (keepsStore_rsLost x)⟩
    rcases rsLost_twin x with h | h <;> rw [h] <;> exact hx
  · exact ⟨ht, hx, hstore.trans hf.keepsStore⟩

/-- A swap at the start of its breath (R295). -/
theorem roleSwap_does {y : Nat} {s : State} (h : s.twin.yieldY = some y) (hy : s.breathing = true → y ≤ s.n) :
    (roleSwap s).twin.yieldY = none
      ∧ (s.get F.TWIN_CMD_STAT_BUSY = 1 → (roleSwap s).get F.TWIN_CMD_STAT_BUSY = 0
          ∧ (if s.twin.echo && s.twinPaired then (roleSwap s).get F.TWIN_CMD_STAT_RESULT = 1 ∧ (roleSwap s).trole = trFOLLOW
             else (roleSwap s).get F.TWIN_CMD_STAT_RESULT = 4 ∧ (roleSwap s).trole = s.trole))
      ∧ (s.get F.TWIN_CMD_STAT_BUSY = 0 → s.twin.echo = true → s.twinPaired = true → (roleSwap s).trole = trLEAD)
      ∧ KeepsStore s (roleSwap s) := by
  have hgo : ¬ (s.breathing && decide (s.n < y)) = true := by
    rw [Bool.and_eq_true, decide_eq_true_eq]
    exact fun ⟨h1, h2⟩ => absurd (hy h1) (by omega)
  unfold roleSwap
  simp only [h]
  rw [if_neg hgo]
  generalize hw : ({ s with twin := { s.twin with yieldY := none, echo := false } } : State) = w
  have hyield : w.twin.yieldY = none := by rw [← hw]
  have hstore : KeepsStore s w := by rw [← hw]; exact ⟨rfl, rfl, rfl⟩
  have hrole : w.trole = s.trole := by rw [← hw]; rfl
  clear hw
  cases hbusy : s.on F.TWIN_CMD_STAT_BUSY with
  | true =>
    have hne : s.get F.TWIN_CMD_STAT_BUSY ≠ 0 := bne_iff_ne.1 hbusy
    cases hswap : s.twin.echo && s.twinPaired with
    | true =>
      simp only [if_true]
      generalize hx : (w.set F.TWIN_CMD_STAT_BUSY 0).set F.TWIN_CMD_STAT_RESULT 1 = x
      have hxb : x.get F.TWIN_CMD_STAT_BUSY = 0 := by rw [← hx, State.get_set_other _ _ (by decide)]; exact State.get_set_same ..
      have hxr : x.get F.TWIN_CMD_STAT_RESULT = 1 := by rw [← hx]; exact State.get_set_same ..
      have hxy : x.twin.yieldY = none := by rw [← hx]; exact hyield
      have hxs : KeepsStore s x := by rw [← hx]; exact hstore
      generalize hz : (if (x.rsPhase == rsCAPTURE || x.rsPhase == rsSENDING) = true then rsIdle x else x) = z
      have hzk : KeepsFields [F.TWIN_RS_STAT_PHASE] x z := by rw [← hz]; exact .ite (keepsFields_rsIdle x) (.refl _ x)
      have hzy : z.twin.yieldY = none := by rw [← hz]; split <;> exact hxy
      have hzs : KeepsStore x z := by
        rw [← hz]
        split
        · exact keepsStore_rsIdle x
        · exact ⟨rfl, rfl, rfl⟩
      have hk : KeepsFields [F.TWIN_RS_STAT_PHASE, F.TWIN_STAT_ROLE, F.TWIN_EVT_ROLE] x (setTrole trFOLLOW z) :=
        (hzk.mono (by simp)).trans ((keepsFields_setTrole trFOLLOW z).mono (by simp))
      refine ⟨by rw [(fieldsOnly_setTrole ..).twin]; exact hzy, fun _ => ⟨(hk _ (by decide) (by decide)).trans hxb,
        (hk _ (by decide) (by decide)).trans hxr, setTrole_trole (by decide) z⟩, fun h0 => absurd h0 hne,
        (hxs.trans hzs).trans (fieldsOnly_setTrole ..).keepsStore⟩
    | false =>
      simp only [if_true, Bool.false_eq_true, if_false]
      refine ⟨hyield, fun _ => ⟨?_, State.get_set_same .., ?_⟩, fun h0 => absurd h0 hne, hstore⟩
      · rw [State.get_set_other _ _ (by decide)]; exact State.get_set_same ..
      · rw [State.trole, State.get_set_other _ _ (by decide), State.get_set_other _ _ (by decide)]; exact hrole
  | false =>
    have hzero : s.get F.TWIN_CMD_STAT_BUSY = 0 := by simpa [State.on] using hbusy
    simp only [Bool.false_eq_true, if_false]
    cases hswap : s.twin.echo && s.twinPaired with
    | true =>
      simp only [if_true]
      have hf : FieldsOnly w (setTrole trLEAD (liftImage w)) := (fieldsOnly_liftImage w).trans (fieldsOnly_setTrole ..)
      have ht : (setTrole trLEAD (liftImage w)).trole = trLEAD := setTrole_trole (by decide) _
      generalize setTrole trLEAD (liftImage w) = z at hf ht ⊢
      have hzy : z.twin.yieldY = none := by rw [hf.twin]; exact hyield
      refine ⟨?_, fun h1 => absurd (hzero.symm.trans h1) (by decide), fun _ _ _ => (keepsFields_rsLost z _ (by decide) (by decide)).trans ht,
        (hstore.trans hf.keepsStore).trans (keepsStore_rsLost z)⟩
      rcases rsLost_twin z with h | h <;> rw [h] <;> exact hzy
    | false =>
      simp only [Bool.false_eq_true, if_false]
      refine ⟨hyield, fun h1 => absurd (hzero.symm.trans h1) (by decide), fun _ he hp => ?_, hstore⟩
      rw [he, hp] at hswap
      cases hswap

/-! ## Small steps -/

theorem respond_get {f : Fd} (s w : State) (m d : Nat) (e c : Bool) (h : Fd.quiet f = true) :
    (sumTick s (w.respond m d e c)).get f = w.get f := by
  rw [sumTick_get _ _ h, State.get_respond]

theorem helloSend_does {s : State} (hl : s.tlink ≠ tlOFF) (hdue : ∀ a, s.twin.helloAt = some a → a + s.helloEvery ≤ s.now) :
    (helloSend s).twin.helloAt = some s.now ∧ (helloSend s).fld = s.fld ∧ KeepsStore s (helloSend s) := by
  have hgo : helloSend s = sendTwin 0x20 s.helloBody { s with twin := { s.twin with helloAt := some s.now } } := by
    unfold helloSend
    extract_lets due
    have hd : due = true := by
      unfold due
      split
      · next a ha => exact decide_eq_true (hdue a ha)
      · rfl
    rw [hd, beq_eq_false_iff_ne.2 hl]
    rfl
  rw [hgo]
  obtain ⟨q, n, h⟩ := sendTwin_only 0x20 s.helloBody { s with twin := { s.twin with helloAt := some s.now } }
  rw [h]
  exact ⟨rfl, rfl, rfl, rfl, rfl⟩

/-- A YIELD of the partner that is in time is echoed, or its echo noted (R295). -/
theorem yieldReceive_does {f : RxFrame} {s : State} (hp : s.fromPartner f = true) (hn : s.n + 4 < s.unwrap (twAt f 12 6))
    (hfol : s.trole ≠ trFOLLOW → s.twin.yieldY = some (s.unwrap (twAt f 12 6))) :
    (yieldReceive f s).twin.yieldY = some (s.unwrap (twAt f 12 6)) ∧ (yieldReceive f s).twin.echo = true
      ∧ (yieldReceive f s).net.twinq = s.net.twinq ∧ (yieldReceive f s).fld = s.fld ∧ KeepsStore s (yieldReceive f s) := by
  unfold yieldReceive
  generalize s.unwrap (twAt f 12 6) = y at hn hfol
  dsimp only
  rw [if_neg (by rw [hp]; decide)]
  by_cases hr : s.trole = trFOLLOW
  · rw [if_pos (beq_iff_eq.2 hr), decide_eq_true hn, Bool.true_or, if_pos rfl]
    generalize hw : ({ s with twin := { s.twin with yieldY := some y, echo := true } } : State) = w
    have h1 : w.twin.yieldY = some y ∧ w.twin.echo = true ∧ w.net.twinq = s.net.twinq ∧ w.fld = s.fld ∧ KeepsStore s w := by
      rw [← hw]; exact ⟨rfl, rfl, rfl, rfl, rfl, rfl, rfl⟩
    clear hw
    have hq := sendTwin_twinq 0x24 (beBytes 6 (bidx y)) w
    obtain ⟨k, n, h⟩ := sendTwin_only 0x24 (beBytes 6 (bidx y)) w
    rw [h] at hq ⊢
    obtain ⟨hy, he, hwq, hf, hs⟩ := h1
    exact ⟨hy, he, hq.trans hwq, hf, hs⟩
  · have hy := hfol hr
    have hin : (s.twin.yieldY.any fun z => bidx z == bidx y && decide (s.n + 4 < z)) = true := by
      rw [hy, Option.any_some, beq_self_eq_true, decide_eq_true hn]; rfl
    rw [if_neg (by rw [beq_iff_eq]; exact hr), if_pos hin]
    exact ⟨hy, rfl, rfl, rfl, rfl, rfl, rfl⟩

/-- A YIELD command and its refusals (R295). -/
theorem wrTwinCmd_yield {v y : Nat} {s : State} (hkey : v / 65536 = 0xA55A) (hop : v % 16 = 1)
    (hy : y = s.get F.TWIN_CMD_BREATH_HI_Y_HI * 2 ^ 32 + s.get F.TWIN_CMD_BREATH_LO_Y_LO) :
    wrTwinCmd v s = if s.trole = trFOLLOW then s.set F.TWIN_CMD_STAT_RESULT 2
      else if s.twinPaired = false then s.set F.TWIN_CMD_STAT_RESULT 3
      else if s.get F.TWIN_CMD_STAT_BUSY ≠ 0 then s.set F.TWIN_CMD_STAT_RESULT 5
      else if serBefore 48 y (bidx (s.n + 16)) = true then s.set F.TWIN_CMD_STAT_RESULT 4
      else { s.set F.TWIN_CMD_STAT_BUSY 1 with twin := { s.twin with yieldY := some (unwrapFrom (s.n + 16) y), echo := false } } := by
  unfold wrTwinCmd
  rw [if_neg (by rw [hkey, hop]; decide), ← hy]
  simp only [beq_iff_eq, Bool.not_eq_true', State.on, bne_iff_ne]

/-- What the YIELD command shows, accepted or refused. -/
theorem wrTwinCmd_shows {v y : Nat} {s : State} (hkey : v / 65536 = 0xA55A) (hop : v % 16 = 1)
    (hy : y = s.get F.TWIN_CMD_BREATH_HI_Y_HI * 2 ^ 32 + s.get F.TWIN_CMD_BREATH_LO_Y_LO) :
    (if s.trole = trFOLLOW then (wrTwinCmd v s).get F.TWIN_CMD_STAT_RESULT = 2 ∧ (wrTwinCmd v s).twin = s.twin
      else if s.twinPaired = false then (wrTwinCmd v s).get F.TWIN_CMD_STAT_RESULT = 3 ∧ (wrTwinCmd v s).twin = s.twin
      else if s.get F.TWIN_CMD_STAT_BUSY ≠ 0 then (wrTwinCmd v s).get F.TWIN_CMD_STAT_RESULT = 5 ∧ (wrTwinCmd v s).twin = s.twin
      else if serBefore 48 y (bidx (s.n + 16)) = true then
        (wrTwinCmd v s).get F.TWIN_CMD_STAT_RESULT = 4 ∧ (wrTwinCmd v s).twin = s.twin
      else (wrTwinCmd v s).get F.TWIN_CMD_STAT_BUSY = 1 ∧ (wrTwinCmd v s).twin.yieldY = some (unwrapFrom (s.n + 16) y)
        ∧ (wrTwinCmd v s).twin.echo = false)
      ∧ KeepsFields [F.TWIN_CMD_STAT_RESULT, F.TWIN_CMD_STAT_BUSY] s (wrTwinCmd v s) ∧ KeepsStore s (wrTwinCmd v s) := by
  have hrefuse : ∀ c, c < 8 → ((s.set F.TWIN_CMD_STAT_RESULT c).get F.TWIN_CMD_STAT_RESULT = c
      ∧ (s.set F.TWIN_CMD_STAT_RESULT c).twin = s.twin)
      ∧ KeepsFields [F.TWIN_CMD_STAT_RESULT, F.TWIN_CMD_STAT_BUSY] s (s.set F.TWIN_CMD_STAT_RESULT c)
      ∧ KeepsStore s (s.set F.TWIN_CMD_STAT_RESULT c) := fun c hc =>
    ⟨⟨by rw [State.get_set_same]; exact Nat.mod_eq_of_lt hc, rfl⟩, (KeepsFields.refl _ s).set _ (by simp), rfl, rfl, rfl⟩
  have htake : KeepsFields [F.TWIN_CMD_STAT_RESULT, F.TWIN_CMD_STAT_BUSY] s (s.set F.TWIN_CMD_STAT_BUSY 1) :=
    (KeepsFields.refl _ s).set _ (by simp)
  rw [wrTwinCmd_yield hkey hop hy]
  split
  · exact hrefuse 2 (by decide)
  split
  · exact hrefuse 3 (by decide)
  split
  · exact hrefuse 5 (by decide)
  split
  · exact hrefuse 4 (by decide)
  · exact ⟨⟨State.get_set_same s F.TWIN_CMD_STAT_BUSY 1, rfl, rfl⟩, htake.congr rfl, rfl, rfl, rfl⟩

/-- An own frame for breath `n - 2` is kept and goes out. -/
theorem breathFrameSend_does {s : State} (hl : s.tlink ≠ tlOFF) (hbr : s.breathing = true) (hst : s.disp.started = true)
    (hf : s.disp.first + 2 ≤ s.n) (hsent : s.twin.sentB ≤ s.n - 2) (hre : s.reached s.n 100 = true) :
    (breathFrameSend s).twin.sentB = s.n - 2 + 1 ∧ (breathFrameSend s).twin.own = s.ownFrame (s.n - 2) :: s.twin.own.take 15
      ∧ (breathFrameSend s).fld = s.fld ∧ KeepsStore s (breathFrameSend s) := by
  have hgo : (s.tlink == tlOFF || !s.breathing || !s.disp.started || decide (s.n < s.disp.first + 2) || decide (s.n - 2 < s.twin.sentB)
      || !s.reached s.n 100) = false := by
    rw [beq_eq_false_iff_ne.2 hl, hbr, hst, decide_eq_false (by omega), decide_eq_false (by omega), hre]
    rfl
  unfold breathFrameSend
  dsimp only
  rw [if_neg (by rw [hgo]; exact Bool.false_ne_true)]
  generalize hw : ({ s with twin := { s.twin with sentB := _, own := _ } } : State) = w
  have h1 : w.twin.sentB = s.n - 2 + 1 := by rw [← hw]
  have h2 : w.twin.own = s.ownFrame (s.n - 2) :: s.twin.own.take 15 := by rw [← hw]
  have h3 : w.fld = s.fld := by rw [← hw]
  have h4 : KeepsStore s w := by rw [← hw]; exact ⟨rfl, rfl, rfl⟩
  clear hw
  obtain ⟨q, n, h⟩ := sendTwin_only 0x21 _ w
  rw [h]
  exact ⟨h1, h2, h3, h4⟩

/-- A beat that is missed, while the limit is not reached. -/
theorem heartbeatMiss_does {s : State} (hp : s.twinPaired = true) (hrun : s.twin.pRun = false) (hrx : s.twin.helloRx + uMs ≤ s.now)
    (hmiss : s.twin.missed + 1 < max 1 (s.get F.TWIN_CTRL_HB_MISS)) :
    heartbeatMiss s = { s.incSat F.TWIN_CNT1_HBMISS with
      twin := { s.twin with helloRx := s.twin.helloRx + uMs, missed := s.twin.missed + 1 } } := by
  have hmax : (s.incSat F.TWIN_CNT1_HBMISS).get F.TWIN_CTRL_HB_MISS = s.get F.TWIN_CTRL_HB_MISS := State.get_set_other _ _ (by decide)
  unfold heartbeatMiss missBeat
  rw [if_pos (by rw [hp, hrun, decide_eq_true hrx]; rfl)]
  refine if_neg ?_
  rw [Nat.not_le]
  exact hmax ▸ hmiss

end Sys2Proof.Machine
open Sys2Proof Sys2Proof.Machine

/-- Settles O49: each command of the pair is one step of the TWIN unit. -/
theorem twinRowsComplete : Obligations.TwinRowsComplete := by
  unfold Obligations.TwinRowsComplete
  refine ⟨fun m v s h => ⟨fun hen hv => ?_, fun hen hv => ?_⟩, fun t s ha hl hdue => ?_, fun f q t s hh => ⟨fun hi => ?_, fun hi hp hn => ?_,
    fun hi hp hr hser hk => ?_, fun hi hp hn ho => ?_⟩, fun t s ha hl hbr hst hf hsent hre => ?_, fun f q t s hh => ?_,
    fun t s ha hp hrun hrx hmiss => ?_, fun t b o p s ha hp hbr hn hb hcmp ho hpf hrs hq => ?_,
    fun f q t s hh => ⟨_, done_alive _ hh.1, ?_⟩, fun t b r s ha hr hr3 hb => ?_, fun m v y s h hkey hop hy => ?_,
    fun f q t s hh hp hn hfol => ?_, fun t y s ha hy hn => ?_, fun f q t s hh hp => ?_⟩
  · refine ⟨_, (done_alive _ h.alive :), ?_⟩
    rw [guarded_admitted _ h]
    obtain ⟨hdo, hstore⟩ := wrTwinCtrl_enable hen hv
    simp only [State.tlink, State.trole, respond_get _ _ _ _ _ _ (show Fd.quiet F.TWIN_CTRL_EN = true by decide),
      respond_get _ _ _ _ _ _ (show Fd.quiet F.TWIN_STAT_LINK = true by decide),
      respond_get _ _ _ _ _ _ (show Fd.quiet F.TWIN_STAT_ROLE = true by decide)]
    exact ⟨answers_sumTick .., hdo, keepsStore_sumTick _ _ _ _ hstore⟩
  · refine ⟨_, (done_alive _ h.alive :), ?_⟩
    rw [guarded_admitted _ h]
    obtain ⟨h1, h2, h3, hstore⟩ := wrTwinCtrl_disable hen hv
    refine ⟨answers_sumTick .., (respond_get _ _ _ _ _ _ (by decide)).trans h1, (respond_get _ _ _ _ _ _ (by decide)).trans h2,
      fun hne => ?_, keepsStore_sumTick _ _ _ _ hstore⟩
    obtain ⟨k1, k2, k3⟩ := h3 hne
    exact ⟨(respond_get _ _ _ _ _ _ (by decide)).trans k1, (respond_get _ _ _ _ _ _ (by decide)).trans k2,
      (respond_get _ _ _ _ _ _ (by decide)).trans k3⟩
  · have hdue' : ∀ a, (s.atTime t).twin.helloAt = some a → a + (s.atTime t).helloEvery ≤ (s.atTime t).now := hdue
    obtain ⟨h1, h2, h3⟩ := helloSend_does (s := s.atTime t) hl hdue'
    refine ⟨_, done_alive _ ha, by rw [sumTick_twin]; exact h1, (KeepsFields.of_fld _ h2).sumTick _, KeepsStore.sumTick _ h3⟩
  · refine ⟨_, done_alive _ hh.1, ?_⟩
    simp only [popTwin_hears hh t]
    rw [hello_incompat (s := heard q t s) hi]
    generalize hw : ({ (heard q t s).set F.TWIN_STAT_INCOMPAT ((heard q t s).incompat f) with twin := _ } : State) = w
    have h1 : w.get F.TWIN_STAT_INCOMPAT = s.incompat f := by
      rw [← hw]
      exact (State.get_set_same (heard q t s) F.TWIN_STAT_INCOMPAT _).trans (Nat.mod_eq_of_lt (incompat_lt s f))
    have h2 : KeepsFields [F.TWIN_STAT_INCOMPAT] s w := by
      rw [← hw]
      exact KeepsFields.congr (w := s.set F.TWIN_STAT_INCOMPAT (s.incompat f)) ((KeepsFields.refl _ s).set _ (by simp)) rfl
    have h3 : w.twin.hellos = 0 ∧ w.net.twinq = q ∧ KeepsStore s w := by rw [← hw]; exact ⟨rfl, rfl, rfl, rfl, rfl⟩
    obtain ⟨hhellos, hq, hstore⟩ := h3
    exact ⟨by rw [sumTick_get _ _ (by decide)]; exact h1, by rw [sumTick_twin]; exact hhellos, by rw [sumTick_net]; exact hq, h2.sumTick _,
      hstore.sumTick _⟩
  · refine ⟨_, done_alive _ hh.1, ?_⟩
    obtain ⟨hkeeps, ⟨m, x, honly⟩, hrx, hhellos, hhi, hlo⟩ := takeHello_takes f (heard q t s)
    have hfew : ¬ (decide (4 ≤ (takeHello f (heard q t s)).twin.hellos) && (takeHello f (heard q t s)).twin.offset.isSome) = true := by
      rw [hhellos, decide_eq_false (by rw [Nat.not_le]; exact Nat.succ_lt_succ hn)]
      exact Bool.false_ne_true
    simp only [popTwin_hears hh t]
    rw [hello_seeking (s := heard q t s) hi hp, if_neg hfew]
    have hrest : (takeHello f (heard q t s)).net.twinq = q ∧ KeepsStore s (takeHello f (heard q t s)) := by
      rw [honly]; exact ⟨rfl, rfl, rfl, rfl⟩
    exact ⟨by rw [sumTick_twin]; exact hhellos, by rw [sumTick_twin]; exact hrx, by rw [sumTick_net]; exact hrest.1,
      by rw [sumTick_get _ _ (by decide)]; exact hhi, by rw [sumTick_get _ _ (by decide)]; exact hlo,
      by rw [State.tlink, sumTick_get _ _ (by decide)]; exact hkeeps _ (by decide) (by decide), hrest.2.sumTick _⟩
  · refine ⟨_, done_alive _ hh.1, ?_⟩
    obtain ⟨hkeeps, ⟨m, x, honly⟩, hrx, hhellos, hhi, hlo⟩ := takeHello_takes f (heard q t s)
    simp only [popTwin_hears hh t]
    rw [hello_paired (s := heard q t s) hi hp hr hser hk]
    have hstore : KeepsStore s (takeHello f (heard q t s)) := by rw [honly]; exact ⟨rfl, rfl, rfl⟩
    have hlink : (takeHello f (heard q t s)).tlink = tlPAIRED := (hkeeps _ (by decide) (by decide)).trans (beq_iff_eq.mp hp)
    refine ⟨by rw [sumTick_twin]; exact hrx, by rw [sumTick_twin]; exact hhellos, ?_, ?_, KeepsStore.sumTick _ hstore⟩
    · rw [State.tlink, sumTick_get _ _ (by decide), State.get_set_other _ _ (by decide)]; exact hlink
    · rw [sumTick_get _ _ (by decide), State.get_set_same]
      cases (takeHello f (heard q t s)).alignedNow <;> rfl
  · refine ⟨_, done_alive _ hh.1, ?_⟩
    obtain ⟨hkeeps, -, hrx, hhellos, hhi, hlo⟩ := takeHello_takes f (heard q t s)
    have hmany : (decide (4 ≤ (takeHello f (heard q t s)).twin.hellos) && (takeHello f (heard q t s)).twin.offset.isSome) = true := by
      rw [hhellos, ho, decide_eq_true (show 4 ≤ (heard q t s).twin.hellos + 1 from Nat.succ_le_succ hn)]
      rfl
    simp only [popTwin_hears hh t]
    rw [hello_seeking (s := heard q t s) hi hp, if_pos hmany]
    obtain ⟨h1, h2⟩ := pairUp_does (takeHello f (heard q t s))
    exact ⟨by rw [State.tlink, sumTick_get _ _ (by decide)]; exact h1, by rw [State.trole, sumTick_get _ _ (by decide)]; exact h2⟩
  · obtain ⟨h1, h2, h3, h4⟩ := breathFrameSend_does (s := s.atTime t) hl hbr hst hf hsent hre
    exact ⟨_, done_alive _ ha, by rw [sumTick_twin]; exact h1, by rw [sumTick_twin]; exact h2, (KeepsFields.of_fld _ h3).sumTick _,
      KeepsStore.sumTick _ h4⟩
  · refine ⟨_, done_alive _ hh.1, ?_⟩
    simp only [popTwin_hears hh t]
    by_cases hp : s.fromPartner f = true
    · obtain ⟨h1, h2, h3, h4⟩ := heartbeat_partner (s := heard q t s) hp
      rw [if_pos hp]
      refine ⟨by rw [sumTick_net, h3]; rfl, ⟨by rw [sumTick_twin]; exact h1, by rw [sumTick_get _ _ (by decide)]; exact h2⟩,
        KeepsStore.sumTick _ h4⟩
    · have hidle : heartbeat f (heard q t s) = heard q t s := if_pos (by
        rw [show (heard q t s).fromPartner f = s.fromPartner f from rfl, Bool.not_eq_true'] ; simpa using hp)
      rw [if_neg hp, hidle]
      exact ⟨by rw [sumTick_net]; rfl, ⟨by rw [sumTick_twin]; rfl, (KeepsFields.of_fld (w := heard q t s) _ rfl).sumTick _⟩,
        KeepsStore.sumTick (w := heard q t s) _ ⟨rfl, rfl, rfl⟩⟩
  · refine ⟨_, done_alive _ ha, ?_⟩
    rw [heartbeatMiss_does (s := s.atTime t) hp hrun hrx hmiss]
    generalize hw : ({ (s.atTime t).incSat F.TWIN_CNT1_HBMISS with twin := _ } : State) = w
    have hcnt : w.get F.TWIN_CNT1_HBMISS = min (s.get F.TWIN_CNT1_HBMISS + 1) 65535 := by
      rw [← hw]
      exact s.addSat_get F.TWIN_CNT1_HBMISS 1
    have hkeep : KeepsFields [F.TWIN_CNT1_HBMISS] s w := by
      rw [← hw]
      exact KeepsFields.congr (w := s.incSat F.TWIN_CNT1_HBMISS) ((KeepsFields.refl _ s).addSat 1 (by simp)) rfl
    have hrest : w.twin.missed = s.twin.missed + 1 ∧ KeepsStore s w := by rw [← hw]; exact ⟨rfl, rfl, rfl, rfl⟩
    exact ⟨by rw [sumTick_twin]; exact hrest.1, by rw [sumTick_get _ _ (by decide)]; exact hcnt, hkeep.sumTick _, hrest.2.sumTick _⟩
  · obtain ⟨h1, h2, h3, h4⟩ := digestCompare_does (s := s.atTime t) hp hbr hn hb hcmp ho hpf hrs hq
    refine ⟨_, done_alive _ ha, by rw [sumTick_twin]; exact h1, by rw [sumTick_get _ _ (by decide)]; exact h2, fun i hi hov hpv => ?_,
      KeepsStore.sumTick _ h4⟩
    obtain ⟨k1, k2, k3⟩ := (h3 i hi hov hpv).congr fun f hf => sumTick_get s _ (digestRegs_quiet f hf)
    exact ⟨k1, k2, k3⟩
  · simp only [popTwin_hears hh t]
    exact leaves_sumTick ..
  · obtain ⟨h1, h2, h3⟩ := roleResolve_does (s := s.atTime t) hr hr3 hb
    exact ⟨_, done_alive _ ha, by rw [State.trole, sumTick_get _ _ (by decide)]; exact h1, by rw [sumTick_twin]; exact h2,
      KeepsStore.sumTick _ h3⟩
  · refine ⟨_, (done_alive _ h.alive :), ?_⟩
    rw [guarded_admitted _ h]
    obtain ⟨h1, h2, h3⟩ := wrTwinCmd_shows hkey hop hy
    refine ⟨answers_sumTick .., ?_, keepsFields_sumTick _ _ _ _ h2, keepsStore_sumTick _ _ _ _ h3⟩
    simp only [respond_get _ _ _ _ _ _ (show Fd.quiet F.TWIN_CMD_STAT_BUSY = true by decide),
      respond_get _ _ _ _ _ _ (show Fd.quiet F.TWIN_CMD_STAT_RESULT = true by decide), sumTick_twin, State.respond_twin]
    exact h1
  · obtain ⟨h1, h2, h3, h4, h5⟩ := yieldReceive_does (s := heard q t s) hp hn hfol
    refine ⟨_, done_alive _ hh.1, ?_⟩
    simp only [popTwin_hears hh t]
    exact ⟨by rw [sumTick_twin]; exact h1, by rw [sumTick_twin]; exact h2, by rw [sumTick_net]; exact h3,
      (KeepsFields.of_fld _ h4).sumTick _, KeepsStore.sumTick _ h5⟩
  · obtain ⟨h1, h2, h3, h4⟩ := roleSwap_does (s := s.atTime t) hy hn
    refine ⟨_, done_alive _ ha, by rw [sumTick_twin]; exact h1, ?_, ?_, KeepsStore.sumTick _ h4⟩
    · simp only [State.trole, sumTick_get _ _ (show Fd.quiet F.TWIN_CMD_STAT_BUSY = true by decide),
        sumTick_get _ _ (show Fd.quiet F.TWIN_CMD_STAT_RESULT = true by decide),
        sumTick_get _ _ (show Fd.quiet F.TWIN_STAT_ROLE = true by decide)]
      exact h2
    · rw [State.trole, sumTick_get _ _ (by decide)]
      exact h3
  · refine ⟨_, done_alive _ hh.1, ?_⟩
    simp only [popTwin_hears hh t]
    rw [if_neg (by rw [show (heard q t s).fromPartner f = true from hp]; decide)]
    generalize hw : ({ heard q t s with twin := _ } : State) = w
    have h1 : w.net.twinq = q ∧ w.fld = s.fld ∧ KeepsStore s w
        ∧ (⟨twByte f 12 % 16, twByte f 13, twAt f 14 6, (f.bytes.drop (twH f + 20)).take 32⟩ : NoteS) ∈ w.twin.notes := by
      rw [← hw]
      exact ⟨rfl, rfl, ⟨rfl, rfl, rfl⟩, List.mem_append_right _ (List.mem_singleton.2 rfl)⟩
    obtain ⟨hq, hfld, hstore, hnote⟩ := h1
    exact ⟨by rw [sumTick_net]; exact hq, by rw [sumTick_twin]; exact hnote, (KeepsFields.of_fld _ hfld).sumTick _, hstore.sumTick _⟩
end

section
/-!
RE-SEATS. The capture at the LEAD, the reception and loading at the FOLLOW, failures and their retries (R303–R307).
-/
namespace Sys2Proof.Machine

/-! ## What a frame's arrival does not touch -/

theorem bytes_congr {s w : State} (h : w.mem = s.mem) (a n : Nat) : w.bytes a n = s.bytes a n := by
  induction n generalizing a with
  | zero => rfl
  | succ n ih => rw [State.bytes, State.bytes, ih, State.byte_congr h]

theorem word_congr {s w : State} (h : w.mem = s.mem) (a : Nat) : w.word a = s.word a := by
  rw [State.word, State.word, bytes_congr h]

theorem readRecords_congr {s w : State} (h : w.mem = s.mem) (lim k a : Nat) : readRecords w lim k a = readRecords s lim k a := by
  induction k generalizing a with
  | zero => rfl
  | succ k ih => simp only [readRecords, word_congr h, ih]

theorem imgRecords_congr {s w : State} (h : w.mem = s.mem) (b : Nat) : imgRecords w b = imgRecords s b := by
  simp only [imgRecords, imgSize, imgCount, word_congr h, readRecords_congr h]

theorem seatRecords_congr {s w : State} (h : w.mem = s.mem) (k a : Nat) : seatRecords w k a = seatRecords s k a := by
  induction k generalizing a with
  | zero => rfl
  | succ k ih => simp only [seatRecords, word_congr h, ih]

section
variable (q : List RxFrame) (t : Nat) (s : State)

theorem heard_word (a : Nat) : (heard q t s).word a = s.word a := word_congr (s := s) (w := heard q t s) rfl a

theorem heard_sec (i : Nat) : (heard q t s).sec i = s.sec i := (rfl)

theorem heard_physOf (i : Nat) : (heard q t s).physOf i = s.physOf i := (rfl)

theorem heard_bytes (a n : Nat) : (heard q t s).bytes a n = s.bytes a n := bytes_congr (s := s) (w := heard q t s) rfl a n

theorem heard_seed (i : Nat) : (heard q t s).seed i = s.seed i := (rfl)

theorem heard_setGains (i : Nat) : (heard q t s).setGains i = s.setGains i := (rfl)

theorem heard_setCores (i : Nat) : (heard q t s).setCores i = s.setCores i := (rfl)

theorem heard_tap (i : Nat) : (heard q t s).tap i = s.tap i := (rfl)

theorem heard_task (i j : Nat) : (heard q t s).task i j = s.task i j := (rfl)

theorem heard_missRun (i j : Nat) : (heard q t s).missRun i j = s.missRun i j := (rfl)

theorem heard_tramp (i j : Nat) : (heard q t s).tramp i j = s.tramp i j := (rfl)

theorem heard_liveImage (i : Nat) : (heard q t s).liveImage i = s.liveImage i := by
  have hbase : (heard q t s).get (F.SECn_STAT_LIVEBUF i) = s.get (F.SECn_STAT_LIVEBUF i) := (rfl)
  rw [State.liveImage, State.liveImage, hbase, imgRecords_congr (s := s) (w := heard q t s) rfl]

theorem heard_seatRecs (i : Nat) : (heard q t s).seatRecs i = s.seatRecs i := by
  simp only [State.seatRecs, heard_liveImage, heard_sec, heard_physOf, heard_bytes, heard_seed, heard_setGains, heard_setCores, heard_tap,
    heard_task, heard_missRun, heard_tramp]

theorem heard_seat (i b : Nat) : (heard q t s).seat i b = s.seat i b := by
  simp only [State.seat, heard_seatRecs]

theorem heard_seatResult (i b : Nat) : (heard q t s).seatResult i b = s.seatResult i b := by
  have hrs : (heard q t s).twin.rs = s.twin.rs := (rfl)
  have hset : (heard q t s).rsSet = s.rsSet := (rfl)
  have hlist : (heard q t s).seatList = s.seatList := by
    rw [State.seatList, State.seatList, heard_word, seatRecords_congr (s := s) (w := heard q t s) rfl]
  simp only [State.seatResult, hrs, hset, hlist, heard_word, heard_bytes, heard_sec]
end

/-! ## Capture and transfer (R303, R306) -/

theorem reseatReq_captures {f : RxFrame} {s : State} (hp : s.fromPartner f = true) (hr : s.trole = trLEAD)
    (hsec : ∀ i ∈ secsOf (twAt f 12 2), s.secState i = secRUNNING ∧ bitOf (s.get F.TWIN_QUIET_OWN) i = false)
    (hlen : (s.seat (twAt f 12 2) 0).length ≤ seatMax) :
    reseatReq f s = setRs (fun r => { tries := r.tries, reqB := s.n })
      ((s.set F.TWIN_RS_STAT_SET (twAt f 12 2)).set F.TWIN_RS_STAT_PHASE rsCAPTURE) := by
  have hrun : (secsOf (twAt f 12 2)).any (fun i => s.secState i != secRUNNING) = false := by
    rw [List.any_eq_false]
    exact fun i hi => by simp [(hsec i hi).1]
  have hquiet : (secsOf (twAt f 12 2)).any (fun i => bitOf (s.get F.TWIN_QUIET_OWN) i) = false := by
    rw [List.any_eq_false]
    exact fun i hi => by simp [(hsec i hi).2]
  unfold reseatReq
  dsimp only
  rw [if_neg (by rw [hp, hr]; decide), hrun, hquiet, if_neg Bool.false_ne_true, if_neg Bool.false_ne_true, if_neg (Nat.not_lt.2 hlen)]
  rfl

theorem get_setRs (g : ReseatS → ReseatS) (s : State) (f : Fd) : (setRs g s).get f = s.get f := rfl

/-- The LEAD begins to capture. -/
theorem reseatReq_does {f : RxFrame} {s : State} (hp : s.fromPartner f = true) (hr : s.trole = trLEAD)
    (hsec : ∀ i ∈ secsOf (twAt f 12 2), s.secState i = secRUNNING ∧ bitOf (s.get F.TWIN_QUIET_OWN) i = false)
    (hlen : (s.seat (twAt f 12 2) 0).length ≤ seatMax) :
    (reseatReq f s).rsPhase = rsCAPTURE ∧ (reseatReq f s).rsSet = twAt f 12 2 % 2 ^ 16 ∧ (reseatReq f s).twin.rs.reqB = s.n
      ∧ KeepsFields [F.TWIN_RS_STAT_SET, F.TWIN_RS_STAT_PHASE] s (reseatReq f s) ∧ KeepsStore s (reseatReq f s) := by
  rw [reseatReq_captures hp hr hsec hlen]
  generalize hw : (s.set F.TWIN_RS_STAT_SET (twAt f 12 2)).set F.TWIN_RS_STAT_PHASE rsCAPTURE = w
  have hkeep : KeepsFields [F.TWIN_RS_STAT_SET, F.TWIN_RS_STAT_PHASE] s w := by
    rw [← hw]
    exact ((KeepsFields.refl _ s).set _ (by simp)).set _ (by simp)
  have hstore : KeepsStore s w := by rw [← hw]; exact ⟨rfl, rfl, rfl⟩
  refine ⟨?_, ?_, rfl, hkeep.congr rfl, hstore⟩
  · rw [State.rsPhase, get_setRs, ← hw, State.get_set_same]; rfl
  · rw [State.rsSet, get_setRs, ← hw, State.get_set_other _ _ (by decide), State.get_set_same]; rfl

/-- The capture is complete. -/
theorem seatCaptured_does {s : State} (hph : s.rsPhase = rsCAPTURE) (he : s.twin.rs.ended = true) :
    (seatCaptured s).rsPhase = rsSENDING ∧ (seatCaptured s).twin.rs.sendAt = s.now
      ∧ KeepsFields [F.TWIN_RS_STAT_PHASE] s (seatCaptured s) ∧ KeepsStore s (seatCaptured s) := by
  unfold seatCaptured
  rw [if_pos (by rw [hph, he]; decide)]
  have hkeep : KeepsFields [F.TWIN_RS_STAT_PHASE] s (s.set F.TWIN_RS_STAT_PHASE rsSENDING) := (KeepsFields.refl _ s).set _ (by simp)
  refine ⟨?_, rfl, hkeep.congr rfl, rfl, rfl, rfl⟩
  rw [State.rsPhase, get_setRs, State.get_set_same]; rfl

/-- The next part of the seat goes out, and after the last one the END. -/
theorem reseatDataSend_does {s : State} (hp : s.rsPhase = rsSENDING) (ht : s.twin.rs.sendAt ≤ s.now)
    (hs : s.twin.rs.sent ≤ s.get F.TWIN_RS_BYTES_BYTES) :
    (reseatDataSend s).twin.rs.sent = (if s.twin.rs.sent < s.get F.TWIN_RS_BYTES_BYTES
        then s.twin.rs.sent + min 1024 (s.get F.TWIN_RS_BYTES_BYTES - s.twin.rs.sent) else s.get F.TWIN_RS_BYTES_BYTES + 1)
      ∧ (reseatDataSend s).fld = s.fld ∧ KeepsStore s (reseatDataSend s) := by
  unfold reseatDataSend
  dsimp only
  rw [if_neg (by rw [hp, decide_eq_false (Nat.not_lt.2 ht), decide_eq_false (Nat.not_lt.2 hs)]; decide)]
  split
  · generalize hw : sendTwin 0x26 _ s = w
    have h1 : w.fld = s.fld := by rw [← hw]; exact sendTwin_fld ..
    have h2 : KeepsStore s w := by rw [← hw]; exact keepsStore_sendTwin ..
    exact ⟨rfl, h1, h2⟩
  · generalize hw : sendTwin 0x27 _ s = w
    have h1 : w.fld = s.fld := by rw [← hw]; exact sendTwin_fld ..
    have h2 : KeepsStore s w := by rw [← hw]; exact keepsStore_sendTwin ..
    exact ⟨rfl, h1, h2⟩

/-- The FOLLOW waits for the seat, or for more of it. -/
def State.awaitsSeat (s : State) : Prop :=
  (s.rsPhase = rsREQUESTED ∨ s.rsPhase = rsRECEIVING) ∧ s.twin.rs.ended = false ∧ s.twin.rs.waitAt = none

theorem State.awaitsSeat.phase {s : State} (h : s.awaitsSeat) : (s.rsPhase == rsREQUESTED || s.rsPhase == rsRECEIVING) = true := by
  obtain ⟨h | h, -, -⟩ := h <;> rw [h] <;> decide

theorem reseatData_stores {f : RxFrame} {s : State} (hp : s.fromPartner f = true) (hr : s.trole = trFOLLOW) (hw : s.awaitsSeat)
    (h0 : 0 < twAt f 16 2) (h1 : twAt f 16 2 ≤ 1024) (h2 : twAt f 12 4 + twAt f 16 2 ≤ seatMax) :
    reseatData f s = setRs (fun r => { r with got := r.got ++ [(twAt f 12 4, twAt f 16 2)] })
      ((s.setBytes (seatBase + twAt f 12 4) ((f.bytes.drop (twH f + 20)).take (twAt f 16 2))).set F.TWIN_RS_STAT_PHASE rsRECEIVING) := by
  unfold reseatData
  dsimp only
  rw [if_neg]
  rw [hp, hr, hw.phase, hw.2.1, hw.2.2, decide_eq_false (by omega), decide_eq_false (Nat.not_lt.2 h1), decide_eq_false (Nat.not_lt.2 h2)]
  decide

theorem rsRequest_does (set : Nat) (s : State) : (rsRequest set s).rsPhase = rsREQUESTED
    ∧ (rsRequest set s).twin.rs.tries = s.twin.rs.tries ∧ (rsRequest set s).twin.rs.reqAt = s.now
    ∧ (rsRequest set s).twin.rs.waitAt = none ∧ KeepsStore s (rsRequest set s) := by
  unfold rsRequest
  extract_lets s1 s2
  have h1 : s2.rsPhase = rsREQUESTED := State.get_set_same (s.set F.TWIN_RS_STAT_SET set) F.TWIN_RS_STAT_PHASE rsREQUESTED
  have h2 : s2.twin.rs.tries = s.twin.rs.tries ∧ s2.twin.rs.reqAt = s.now ∧ s2.twin.rs.waitAt = none ∧ KeepsStore s s2 :=
    ⟨rfl, rfl, rfl, rfl, rfl, rfl⟩
  clear_value s2
  obtain ⟨htries, hreq, hwait, hstore⟩ := h2
  exact ⟨(State.get_congr (sendTwin_fld ..) _).trans h1, by rw [sendTwin_rs]; exact htries, by rw [sendTwin_rs]; exact hreq,
    by rw [sendTwin_rs]; exact hwait, hstore.trans (keepsStore_sendTwin ..)⟩

/-- A failure as the registers show it. -/
def noteFail (e : Nat) (s : State) : State :=
  (((s.incSat F.TWIN_RS_STAT_FAILS).incSat F.TWIN_CNT1_RSFAIL).set F.TWIN_RS_STAT_LASTERR e).set F.TWIN_EVT_RESEAT_FAIL 1

theorem noteFail_keeps (e : Nat) (s : State) :
    KeepsFields [F.TWIN_RS_STAT_FAILS, F.TWIN_CNT1_RSFAIL, F.TWIN_RS_STAT_LASTERR, F.TWIN_EVT_RESEAT_FAIL] s (noteFail e s) :=
  ((((KeepsFields.refl _ s).addSat 1 (by simp)).addSat 1 (by simp)).set _ (by simp)).set _ (by simp)

theorem noteFail_shows {e : Nat} (he : e < 16) (s : State) : (noteFail e s).get F.TWIN_RS_STAT_LASTERR = e
    ∧ (noteFail e s).get F.TWIN_EVT_RESEAT_FAIL = 1 ∧ (noteFail e s).get F.TWIN_RS_STAT_FAILS = min (s.get F.TWIN_RS_STAT_FAILS + 1) 15 := by
  unfold noteFail
  refine ⟨?_, State.get_set_same .., ?_⟩
  · rw [State.get_set_other _ _ (by decide), State.get_set_same]
    exact Nat.mod_eq_of_lt he
  · rw [State.get_set_other _ _ (by decide), State.get_set_other _ _ (by decide), State.incSat, State.incSat, State.addSat,
      State.get_set_other _ _ (by decide), State.addSat_get]
    rfl

/-- Bytes of the seat are stored at their offset. -/
theorem reseatData_does {f : RxFrame} {s : State} (hp : s.fromPartner f = true) (hr : s.trole = trFOLLOW) (hw : s.awaitsSeat)
    (h0 : 0 < twAt f 16 2) (h1 : twAt f 16 2 ≤ 1024) (h2 : twAt f 12 4 + twAt f 16 2 ≤ seatMax) :
    (reseatData f s).rsPhase = rsRECEIVING ∧ (reseatData f s).twin.rs.got = s.twin.rs.got ++ [(twAt f 12 4, twAt f 16 2)]
      ∧ (reseatData f s).mem = (s.setBytes (seatBase + twAt f 12 4) ((f.bytes.drop (twH f + 20)).take (twAt f 16 2))).mem
      ∧ KeepsFields [F.TWIN_RS_STAT_PHASE] s (reseatData f s) ∧ (reseatData f s).flash = s.flash ∧ (reseatData f s).pending = s.pending := by
  rw [reseatData_stores hp hr hw h0 h1 h2]
  generalize (f.bytes.drop (twH f + 20)).take (twAt f 16 2) = l
  obtain ⟨m, hm⟩ := s.setBytes_only (seatBase + twAt f 12 4) l
  rw [hm]
  generalize hx : ({ s with mem := m } : State) = x
  have hxf : x.fld = s.fld := by rw [← hx]
  have hrest : x.twin = s.twin ∧ x.flash = s.flash ∧ x.pending = s.pending := by rw [← hx]; exact ⟨rfl, rfl, rfl⟩
  obtain ⟨htwin, hflash, hpend⟩ := hrest
  have hkeep : KeepsFields [F.TWIN_RS_STAT_PHASE] s (x.set F.TWIN_RS_STAT_PHASE rsRECEIVING) := (KeepsFields.of_fld _ hxf).set _ (by simp)
  refine ⟨?_, congrArg (fun w : TwinS => w.rs.got ++ [(twAt f 12 4, twAt f 16 2)]) htwin, rfl, hkeep.congr rfl, hflash, hpend⟩
  rw [State.rsPhase, get_setRs, State.get_set_same]; rfl

/-- A re-seat that fails at a FOLLOW which may try again is requested again. -/
theorem rsFail_retries {e : Nat} {s : State} (he : e < 16) (hr : s.trole = trFOLLOW) (hp : s.twinPaired = true)
    (hk : s.twin.rs.tries + 1 < max 1 (s.get F.TWIN_CTRL_RETRY_MAX)) :
    (rsFail e s).rsPhase = rsREQUESTED ∧ (rsFail e s).twin.rs.tries = s.twin.rs.tries + 1 ∧ (rsFail e s).get F.TWIN_RS_STAT_LASTERR = e
      ∧ (rsFail e s).get F.TWIN_EVT_RESEAT_FAIL = 1
      ∧ (rsFail e s).get F.TWIN_RS_STAT_FAILS = min (s.get F.TWIN_RS_STAT_FAILS + 1) 15
      ∧ (rsFail e s).twin.rs.reqAt = s.now ∧ KeepsStore s (rsFail e s) := by
  obtain ⟨herr, hevt, hfails⟩ := noteFail_shows he s
  have hkeep := noteFail_keeps e s
  have hrest : (noteFail e s).twin = s.twin ∧ (noteFail e s).now = s.now ∧ KeepsStore s (noteFail e s) := ⟨rfl, rfl, rfl, rfl, rfl⟩
  unfold rsFail
  extract_lets s1 s2 k
  have hs2 : s2 = noteFail e s := rfl
  have hk' : k = s.twin.rs.tries + 1 := rfl
  clear_value s2 k
  subst hs2 hk'
  generalize noteFail e s = w at *
  obtain ⟨htwin, hnow, hstore⟩ := hrest
  have hrole : w.trole = trFOLLOW := (hkeep _ (by decide) (by decide)).trans hr
  have hpair : w.twinPaired = true := by
    rw [State.twinPaired, State.tlink, hkeep _ (by decide) (by decide)]; exact hp
  have hmax : w.get F.TWIN_CTRL_RETRY_MAX = s.get F.TWIN_CTRL_RETRY_MAX := hkeep _ (by decide) (by decide)
  rw [if_neg (by rw [hrole, hpair]; decide), if_neg (by rw [hmax]; exact Nat.not_le.2 hk)]
  generalize hx : setRs (fun r => { r with tries := s.twin.rs.tries + 1 }) w = x
  have hxk : KeepsFields [] w x := by rw [← hx]; exact .of_fld _ rfl
  have hxr : x.twin.rs.tries = s.twin.rs.tries + 1 ∧ x.now = s.now ∧ KeepsStore s x := by rw [← hx]; exact ⟨rfl, hnow, hstore⟩
  obtain ⟨htries, hxnow, hxstore⟩ := hxr
  obtain ⟨h1, h2, h3, -, h5⟩ := rsRequest_does w.rsSet x
  have hreq := (rsRequest_keeps w.rsSet x).1
  exact ⟨h1, h2.trans htries, (hreq _ (by decide) (by decide)).trans ((hxk _ (by decide) (by decide)).trans herr),
    (hreq _ (by decide) (by decide)).trans ((hxk _ (by decide) (by decide)).trans hevt),
    (hreq _ (by decide) (by decide)).trans ((hxk _ (by decide) (by decide)).trans hfails), h3.trans hxnow, hxstore.trans h5⟩

/-- A valid END shows the seat's breath and size. -/
theorem reseatEnd_valid {f : RxFrame} {s : State} (hp : s.fromPartner f = true) (hr : s.trole = trFOLLOW) (hw : s.awaitsSeat)
    (he : s.seatResult (twAt f 18 4) (twAt f 22 4) = 0) :
    (reseatEnd f s).rsPhase = rsRECEIVING ∧ (reseatEnd f s).twin.rs.ended = true ∧ (reseatEnd f s).twin.rs.seatB = s.unwrap (twAt f 12 6)
      ∧ (reseatEnd f s).get F.TWIN_RS_BYTES_BYTES = twAt f 18 4 % 2 ^ 32 ∧ KeepsStore s (reseatEnd f s) := by
  unfold reseatEnd
  dsimp only
  rw [if_neg (by rw [hp, hr]; decide), if_neg (by rw [hw.phase, hw.2.1, hw.2.2]; decide), he, if_neg (by decide)]
  generalize s.unwrap (twAt f 12 6) = b
  generalize hx : sendAck 0 s = x
  have hstore : KeepsStore s x := by rw [← hx]; exact keepsStore_sendTwin ..
  unfold showSeat
  generalize hy : setRs _ (x.set F.TWIN_RS_STAT_PHASE rsRECEIVING) = y
  have hy1 : y.rsPhase = rsRECEIVING := by rw [← hy]; exact State.get_set_same x F.TWIN_RS_STAT_PHASE rsRECEIVING
  have hy2 : y.twin.rs.ended = true ∧ y.twin.rs.seatB = b ∧ KeepsStore s y := by rw [← hy]; exact ⟨rfl, rfl, hstore⟩
  obtain ⟨hended, hseat, hys⟩ := hy2
  refine ⟨?_, hended, hseat, State.get_set_same .., hys⟩
  rw [State.rsPhase, State.get_set_other _ _ (by decide), State.get_set_other _ _ (by decide), State.get_set_other _ _ (by decide)]
  exact hy1

theorem seatResult_lt (s : State) (a b : Nat) : s.seatResult a b < 16 := by
  unfold State.seatResult
  dsimp only
  repeat' split
  all_goals decide

/-- An END of a seat that is not as it should be fails the re-seat. -/
theorem reseatEnd_fails {f : RxFrame} {s : State} (hp : s.fromPartner f = true) (hr : s.trole = trFOLLOW) (hw : s.awaitsSeat)
    (he : s.seatResult (twAt f 18 4) (twAt f 22 4) ≠ 0) :
    reseatEnd f s = rsFail (s.seatResult (twAt f 18 4) (twAt f 22 4)) (sendAck (s.seatResult (twAt f 18 4) (twAt f 22 4)) s) := by
  unfold reseatEnd
  dsimp only
  rw [if_neg (by rw [hp, hr]; decide), if_neg (by rw [hw.phase, hw.2.1, hw.2.2]; decide), if_pos (by simp [he])]

/-! ## Loading (R307) -/

/-- What a load of the seat does not touch: the seat's breath and the breath in progress. -/
def State.seatView (s : State) : Nat × Nat := (s.twin.rs.seatB, s.disp.n)

theorem seatView_ite {p : Prop} [Decidable p] {x y s : State} (hx : x.seatView = s.seatView) (hy : y.seatView = s.seatView) :
    (if p then x else y).seatView = s.seatView := by
  split
  · exact hx
  · exact hy

theorem seatView_set (f : Fd) (v : Nat) (s : State) : (s.set f v).seatView = s.seatView := rfl

theorem seatView_setRs (g : ReseatS → ReseatS) (s : State) (h : ∀ r, (g r).seatB = r.seatB) : (setRs g s).seatView = s.seatView :=
  Prod.ext (h _) rfl

theorem seatView_setTramp (l k : Nat) (x : TaskRamp) (s : State) : (s.setTramp l k x).seatView = s.seatView := rfl
theorem seatView_setMissRun (l k m : Nat) (s : State) : (s.setMissRun l k m).seatView = s.seatView := rfl

theorem seatView_coreWrite (c a : Nat) (l : List Byte) (s : State) : (coreWrite c a l s).seatView = s.seatView := by
  obtain ⟨m, hm⟩ := s.setBytes_only a l
  unfold coreWrite
  rw [hm]
  dsimp only
  split
  · exact seatView_ite rfl rfl
  · rfl

theorem seatView_putWords (p base first : Nat) (ws : List Nat) (s : State) : (putWords p base first ws s).seatView = s.seatView :=
  foldl_keeps State.seatView _ _ _ fun _ _ _ => seatView_coreWrite ..

theorem seatView_loadSeatRec (e : Nat × Nat × Nat × Nat) (s : State) : (loadSeatRec e s).seatView = s.seatView := by
  obtain ⟨ty, arg, a, len⟩ := e
  unfold loadSeatRec
  simp only []
  split
  · exact seatView_ite (seatView_putWords ..) rfl
  · exact seatView_ite (seatView_putWords ..) rfl
  · rw [showRetiring, seatView_set]
    refine (foldl_keeps State.seatView _ _ _ fun k _ u => ?_).trans rfl
    refine seatView_ite rfl ?_
    split <;> rfl
  · refine foldl_keeps State.seatView _ _ _ fun k _ u => ?_
    exact seatView_setRs _ u fun _ => rfl
  · refine seatView_ite ?_ rfl
    rw [seatView_set, seatView_set]
  · refine foldl_keeps State.seatView _ _ _ fun k _ u => ?_
    rw [seatView_setTramp, seatView_setMissRun]
  · rfl

theorem seatLoaded_does {s : State} (h : s.rsPhase = rsLOADING) :
    (seatLoaded s).rsPhase = rsCATCHUP ∧ (seatLoaded s).twin.rs.liveB = s.n + 1 ∧ (seatLoaded s).twin.rs.next = s.twin.rs.seatB
      ∧ (seatLoaded s).get F.TWIN_RS_GAP_BREATHS = min 65535 (s.n + 1 - s.twin.rs.seatB) := by
  unfold seatLoaded
  dsimp only
  rw [if_neg (by rw [h]; decide)]
  have hview : (s.seatList.foldl (fun u e => loadSeatRec e u) s).seatView = s.seatView :=
    foldl_keeps State.seatView _ _ _ fun e _ u => seatView_loadSeatRec e u
  generalize s.seatList.foldl (fun u e => loadSeatRec e u) s = w at hview ⊢
  simp only [State.seatView, Prod.mk.injEq] at hview
  obtain ⟨hseat, hn⟩ := hview
  have hn' : w.n = s.n := hn
  generalize hx : setRs _ (w.set F.TWIN_RS_STAT_PHASE rsCATCHUP) = x
  have hphase : x.rsPhase = rsCATCHUP := by rw [← hx]; exact State.get_set_same w F.TWIN_RS_STAT_PHASE rsCATCHUP
  have hxn : x.n = s.n := by rw [← hx]; exact hn'
  have hlive : x.twin.rs.liveB = s.n + 1 ∧ x.twin.rs.next = s.twin.rs.seatB := by
    rw [← hx]; exact ⟨congrArg (· + 1) hn', hseat⟩
  obtain ⟨h1, h2⟩ := hlive
  refine ⟨?_, h1, h2, ?_⟩
  · rw [State.rsPhase, State.get_set_other _ _ (by decide)]
    exact hphase
  · rw [State.get_set_same, hxn, hseat]
    exact Nat.mod_eq_of_lt (Nat.lt_of_le_of_lt (Nat.min_le_left ..) (by decide))

/-! ## Completion, timeouts and retries (R307) -/

theorem fieldsOnly_liftSet (s : State) : FieldsOnly s (liftSet s) :=
  .foldl _ _ (.refl s) fun i u => .ite (.refl u) (fieldsOnly_putReason i 0 u)

theorem keepsFields_liftSet (s : State) : KeepsFields quietFields s (liftSet s) :=
  .foldl _ _ (.refl _ s) fun i _ u => .ite (.refl _ u) (keepsFields_putReason i 0 u)

theorem reseatComplete_does {s : State} (h : s.rsPhase = rsCHECKING) (ha : max 1 (s.get F.TWIN_CTRL_AGREE) ≤ s.twin.rs.agree) :
    (reseatComplete s).rsPhase = rsIDLE ∧ (reseatComplete s).get F.TWIN_EVT_RESEAT_DONE = 1
      ∧ (reseatComplete s).get F.TWIN_CNT0_RESEATS = min (s.get F.TWIN_CNT0_RESEATS + 1) 65535
      ∧ (reseatComplete s).get F.TWIN_RS_STAT_FAILS = 0 ∧ KeepsStore s (reseatComplete s) := by
  unfold reseatComplete
  dsimp only
  rw [if_neg (by rw [h, decide_eq_false (Nat.not_lt.2 ha)]; decide)]
  have hlift := keepsFields_liftSet s
  have hstore := (fieldsOnly_liftSet s).keepsStore
  generalize liftSet s = w at hlift hstore ⊢
  generalize hx : ((w.incSat F.TWIN_CNT0_RESEATS).set F.TWIN_EVT_RESEAT_DONE 1).set F.TWIN_RS_STAT_FAILS 0 = x
  have hdone : x.get F.TWIN_EVT_RESEAT_DONE = 1 := by rw [← hx, State.get_set_other _ _ (by decide)]; exact State.get_set_same ..
  have hfails : x.get F.TWIN_RS_STAT_FAILS = 0 := by rw [← hx]; exact State.get_set_same ..
  have hcount : x.get F.TWIN_CNT0_RESEATS = min (s.get F.TWIN_CNT0_RESEATS + 1) 65535 := by
    rw [← hx, State.get_set_other _ _ (by decide), State.get_set_other _ _ (by decide), State.incSat, State.addSat_get,
      hlift _ (by decide) (by decide)]
    rfl
  have hxs : KeepsStore s x := by rw [← hx]; exact hstore
  have hidle := keepsFields_rsIdle x
  generalize hy : setRs (fun _ => {}) (rsIdle x) = y
  have hyf : y.fld = (rsIdle x).fld := by rw [← hy]; rfl
  have hys : KeepsStore s y := by rw [← hy]; exact hxs
  exact ⟨(State.get_congr hyf _).trans (rsIdle_phase x), (State.get_congr hyf _).trans ((hidle _ (by decide) (by decide)).trans hdone),
    (State.get_congr hyf _).trans ((hidle _ (by decide) (by decide)).trans hcount),
    (State.get_congr hyf _).trans ((hidle _ (by decide) (by decide)).trans hfails), hys⟩

theorem rsTimeout_fails {s : State} (h : s.awaitsSeat) (ht : s.twin.rs.reqAt + 100 * uMs ≤ s.now) : rsTimeout s = rsFail 6 s := by
  unfold rsTimeout
  dsimp only
  rw [h.phase, h.2.1, h.2.2, decide_eq_true ht]
  rfl

theorem rsRetry_due {a : Nat} {s : State} (h : s.twin.rs.waitAt = some a) (ha : a + uS ≤ s.now) :
    rsRetry s = if s.rsSet = 0 then rsIdle s else rsRequest s.rsSet s := by
  unfold rsRetry
  simp only [h]
  rw [if_pos ha]

end Sys2Proof.Machine
open Sys2Proof Sys2Proof.Machine

/-- Settles O50: each command of a re-seat moves its phase as the rules say. -/
theorem reseatRowsComplete : Obligations.ReseatRowsComplete := by
  unfold Obligations.ReseatRowsComplete
  refine ⟨fun f q t s hh hp hr hsec hlen => ?_, fun t s ha hph hended => ?_, fun t s ha hph ht hs => ?_,
    fun f q t o k s hh hp hr hph hended hwait ho hk h0 h1 h2 => ?_, fun f q t s hh hp hr hph hended hwait => ⟨fun he => ?_, fun he hpair htries => ?_⟩,
    fun f q t s hh hp hph => ?_, fun t s ha hph => ?_, fun t s ha hph hagree => ?_, fun t s ha hph hwait hended ht hr hpair htries => ?_,
    fun t a s ha hwait ht => ?_⟩
  · obtain ⟨h1, h2, h3, h4, h5⟩ := reseatReq_does (s := heard q t s) hp hr hsec (by rw [heard_seat]; exact hlen)
    refine ⟨_, done_alive _ hh.1, ?_⟩
    simp only [popTwin_hears hh t]
    exact ⟨by rw [State.rsPhase, sumTick_get _ _ (by decide)]; exact h1, by rw [State.rsSet, sumTick_get _ _ (by decide)]; exact h2,
      by rw [sumTick_twin]; exact h3, KeepsFields.sumTick (s := s) _ h4, KeepsStore.sumTick (s := s) _ h5⟩
  · obtain ⟨h1, h2, h3, h4⟩ := seatCaptured_does (s := s.atTime t) hph hended
    exact ⟨_, done_alive _ ha, by rw [State.rsPhase, sumTick_get _ _ (by decide)]; exact h1, by rw [sumTick_twin]; exact h2,
      KeepsFields.sumTick (s := s) _ h3, KeepsStore.sumTick (s := s) _ h4⟩
  · obtain ⟨h1, h2, h3⟩ := reseatDataSend_does (s := s.atTime t) hph ht hs
    exact ⟨_, done_alive _ ha, by rw [sumTick_twin]; exact h1, (KeepsFields.of_fld _ h2).sumTick _, KeepsStore.sumTick _ h3⟩
  · subst ho hk
    refine ⟨_, done_alive _ hh.1, ?_⟩
    simp only [popTwin_hears hh t]
    obtain ⟨k1, k2, k3, k4, k5, k6⟩ := reseatData_does (s := heard q t s) hp hr ⟨hph, hended, hwait⟩ h0 h1 h2
    generalize hl : (f.bytes.drop (twH f + 20)).take (twAt f 16 2) = l at k3
    have hbyte : ∀ x, (sumTick s (reseatData f (heard q t s))).byte x = (s.setBytes (seatBase + twAt f 12 4) l).byte x := fun x =>
      State.byte_congr (by rw [sumTick_mem, k3]; exact State.setBytes_mem_congr (s := heard q t s) (t := s) rfl _ _) x
    have hlen : l.length ≤ twAt f 16 2 := by rw [← hl]; exact List.length_take_le ..
    exact ⟨by rw [State.rsPhase, sumTick_get _ _ (by decide)]; exact k1, by rw [sumTick_twin]; exact k2, hbyte,
      fun x hx => (hbyte x).trans (s.byte_setBytes_out _ l (by omega)), KeepsFields.sumTick (s := s) _ k4, by rw [sumTick_flash]; exact k5,
      by rw [sumTick_pending]; exact k6⟩
  · obtain ⟨h1, h2, h3, h4, h5⟩ := reseatEnd_valid (s := heard q t s) hp hr ⟨hph, hended, hwait⟩ (by rw [heard_seatResult]; exact he)
    refine ⟨_, done_alive _ hh.1, ?_⟩
    simp only [popTwin_hears hh t]
    exact ⟨by rw [State.rsPhase, sumTick_get _ _ (by decide)]; exact h1, by rw [sumTick_twin]; exact h2, by rw [sumTick_twin]; exact h3,
      by rw [sumTick_get _ _ (by decide)]; exact h4, KeepsStore.sumTick _ h5⟩
  · have he' : (heard q t s).seatResult (twAt f 18 4) (twAt f 22 4) ≠ 0 := by rw [heard_seatResult]; exact he
    have hgo := reseatEnd_fails (s := heard q t s) hp hr ⟨hph, hended, hwait⟩ he'
    rw [heard_seatResult] at hgo
    have hlt := seatResult_lt s (twAt f 18 4) (twAt f 22 4)
    generalize s.seatResult (twAt f 18 4) (twAt f 22 4) = e at hgo hlt
    have hstore : KeepsStore (heard q t s) (sendAck e (heard q t s)) := keepsStore_sendTwin ..
    obtain ⟨h1, h2, h3, h4, -, -, h7⟩ := rsFail_retries (s := sendAck e (heard q t s)) hlt
      ((State.get_congr (sendTwin_fld ..) _).trans hr) (by rw [State.twinPaired, State.tlink, sendAck, State.get_congr (sendTwin_fld ..)]; exact hpair)
      (by rw [sendAck, sendTwin_rs, State.get_congr (sendTwin_fld ..)]; exact htries)
    rw [sendAck, sendTwin_rs] at h2
    refine ⟨_, done_alive _ hh.1, ?_⟩
    simp only [popTwin_hears hh t]
    rw [hgo]
    exact ⟨by rw [State.rsPhase, sumTick_get _ _ (by decide)]; exact h1, by rw [sumTick_twin]; exact h2,
      by rw [sumTick_get _ _ (by decide)]; exact h3, by rw [sumTick_get _ _ (by decide)]; exact h4,
      KeepsStore.sumTick (s := s) _ (hstore.trans h7)⟩
  · have hgo : reseatAck f (heard q t s) = rsIdle (heard q t s) := by
      rw [reseatAck]
      rw [if_neg (by rw [show (heard q t s).fromPartner f = true from hp]; decide),
        if_pos (by rw [show (heard q t s).rsPhase = rsSENDING from hph]; decide)]
    refine ⟨_, done_alive _ hh.1, ?_⟩
    simp only [popTwin_hears hh t]
    rw [hgo]
    exact ⟨by rw [State.rsPhase, sumTick_get _ _ (by decide)]; exact rsIdle_phase _,
      KeepsFields.sumTick (s := s) _ (keepsFields_rsIdle (heard q t s)), KeepsStore.sumTick (s := s) _ (keepsStore_rsIdle (heard q t s))⟩
  · obtain ⟨h1, h2, h3, h4⟩ := seatLoaded_does (s := s.atTime t) hph
    exact ⟨_, done_alive _ ha, by rw [State.rsPhase, sumTick_get _ _ (by decide)]; exact h1, by rw [sumTick_twin]; exact h2,
      by rw [sumTick_twin]; exact h3, by rw [sumTick_get _ _ (by decide)]; exact h4⟩
  · obtain ⟨h1, h2, h3, h4, h5⟩ := reseatComplete_does (s := s.atTime t) hph hagree
    exact ⟨_, done_alive _ ha, by rw [State.rsPhase, sumTick_get _ _ (by decide)]; exact h1, by rw [sumTick_get _ _ (by decide)]; exact h2,
      by rw [sumTick_get _ _ (by decide)]; exact h3, by rw [sumTick_get _ _ (by decide)]; exact h4, KeepsStore.sumTick _ h5⟩
  · have hgo := rsTimeout_fails (s := s.atTime t) ⟨hph, hended, hwait⟩ ht
    obtain ⟨h1, h2, h3, -, h5, h6, h7⟩ := rsFail_retries (s := s.atTime t) (e := 6) (by decide) hr hpair htries
    refine ⟨_, done_alive _ ha, ?_⟩
    rw [hgo]
    exact ⟨by rw [State.rsPhase, sumTick_get _ _ (by decide)]; exact h1, by rw [sumTick_get _ _ (by decide)]; exact h3,
      by rw [sumTick_get _ _ (by decide)]; exact h5, by rw [sumTick_twin]; exact h2, by rw [sumTick_twin]; exact h6, KeepsStore.sumTick _ h7⟩
  · have hgo := rsRetry_due (s := s.atTime t) hwait ht
    have hset : (s.atTime t).rsSet = s.rsSet := rfl
    rw [hset] at hgo
    refine ⟨_, done_alive _ ha, ?_⟩
    rw [hgo]
    split
    · exact ⟨by rw [sumTick_twin]; rfl, by rw [State.rsPhase, sumTick_get _ _ (by decide)]; exact rsIdle_phase _,
        KeepsStore.sumTick (s := s) _ (keepsStore_rsIdle (s.atTime t))⟩
    · obtain ⟨h1, -, h3, h4, h5⟩ := rsRequest_does s.rsSet (s.atTime t)
      exact ⟨by rw [sumTick_twin]; exact h4, ⟨by rw [State.rsPhase, sumTick_get _ _ (by decide)]; exact h1,
        by rw [sumTick_twin]; exact h3⟩, KeepsStore.sumTick (s := s) _ h5⟩
end

section
/-!
WHAT AN EVENT SHOWS. The collector's own registers, those of captures, locks, the journal and TWIN are all that an event writes
where its group has no fence action, or one that breaks locks alone.
-/
namespace Sys2Proof.Machine

/-- Every field of block `b` is as before, but for those that the summary's generation touches. -/
def KeepsUnit (b : Nat) (s w : State) : Prop :=
  ∀ f : Fd, f.lsb < 32 → Fd.quiet f = true → blockOf f = b → w.get f = s.get f

theorem KeepsUnit.refl (b : Nat) (s : State) : KeepsUnit b s s := fun _ _ _ _ => rfl

theorem KeepsUnit.trans {b : Nat} {s w x : State} (h : KeepsUnit b s w) (k : KeepsUnit b w x) : KeepsUnit b s x :=
  fun f h1 h2 h3 => (k f h1 h2 h3).trans (h f h1 h2 h3)

theorem KeepsUnit.congr {b : Nat} {s w x : State} (h : KeepsUnit b s w) (hx : x.fld = w.fld) : KeepsUnit b s x :=
  fun f h1 h2 h3 => (State.get_congr hx f).trans (h f h1 h2 h3)

theorem KeepsBlock.unit {b : Nat} {s w : State} (h : KeepsBlock b s w) : KeepsUnit b s w := fun f h1 _ h3 => h f h1 h3

theorem KeepsUnit.set {b : Nat} {s w : State} {f : Fd} (h : KeepsUnit b s w) (v : Nat) (hl : f.lsb < 32) (hb : blockOf f ≠ b) :
    KeepsUnit b s (w.set f v) := h.trans ((KeepsBlock.refl b w).set v hl hb).unit

theorem KeepsUnit.ite {b : Nat} {s x y : State} {p : Prop} [Decidable p] (hx : KeepsUnit b s x) (hy : KeepsUnit b s y) :
    KeepsUnit b s (if p then x else y) := by
  split
  · exact hx
  · exact hy

theorem KeepsUnit.foldl {α : Type} {b : Nat} {s w : State} (f : State → α → State) (l : List α) (h : KeepsUnit b s w)
    (hf : ∀ x ∈ l, ∀ u, KeepsUnit b u (f u x)) : KeepsUnit b s (l.foldl f w) := by
  induction l generalizing w with
  | nil => exact h
  | cons x l ih => exact ih (h.trans (hf x (.head _) w)) fun y hy => hf y (.tail _ hy)

theorem KeepsUnit.slotEvt {b : Nat} {s w : State} (n k : Nat) (hn : n < 6) (h : KeepsUnit b s w) : KeepsUnit b s (slotEvt n k w) :=
  fun f h1 h2 h3 => by
    rw [slotEvt_get _ _ _ (of_decide_eq_true (List.all_eq_true.mp h2 _ (Fd.evt_mem_sumFields hn))), h f h1 h2 h3]

theorem KeepsUnit.allEvt {b : Nat} {s w : State} (k : Nat) (h : KeepsUnit b s w) : KeepsUnit b s (allEvt k w) :=
  fun f h1 h2 h3 => (allEvt_get k w h2).trans (h f h1 h2 h3)

/-! ## Locks -/

theorem slotOf_lt {m n : Nat} (h : slotOf m = some n) : n < 6 := by
  simp only [slotOf] at h
  split at h
  · next hm =>
    cases h
    simp only [Bool.and_eq_true, decide_eq_true_eq] at hm
    omega
  · cases h

section
variable {b : Nat} (hb : b ≠ 0x2009)
include hb

theorem keepsUnit_freeLock (i why : Nat) (e : Bool) (hi : i < 16) (s : State) : KeepsUnit b s (freeLock i why e s) := by
  unfold freeLock
  extract_lets h s1
  have h1 : KeepsUnit b s s1 := by
    refine KeepsUnit.ite ?_ (.refl b s)
    split
    · next n hn => exact (KeepsUnit.refl b s).slotEvt n evLOCK (slotOf_lt hn)
    · exact .refl b s
  clear_value s1
  exact (((h1.set _ (by simp [F.SECn_LOCK_HOLDER]) (by simp only [blockOf, F.SECn_LOCK_HOLDER, A.SECn_LOCK]; omega)).set _
    (by simp [F.SECn_LOCK_TICKET]) (by simp only [blockOf, F.SECn_LOCK_TICKET, A.SECn_LOCK]; omega)).set _
    (by simp [F.SECn_LOCK_LASTEND]) (by simp only [blockOf, F.SECn_LOCK_LASTEND, A.SECn_LOCK]; omega)).trans
    (keepsBlock_setLock hb i _ hi _).unit

theorem keepsUnit_breakLock (i why : Nat) (hi : i < 16) (s : State) : KeepsUnit b s (breakLock i why s) := by
  refine KeepsUnit.ite ?_ (.refl b s)
  have h1 : KeepsUnit b s (discardPending i s) :=
    (KeepsUnit.congr (x := discardBuf (s.pendBase i) s) (.refl b s) rfl).set _ (by simp [F.SECn_RESULT_VERR])
      (by simp only [blockOf, F.SECn_RESULT_VERR, A.SECn_RESULT]; omega)
  exact (h1.trans (keepsUnit_freeLock hb i why true hi _)).set _ (by decide) (by exact hb.symm)

theorem keepsUnit_breakLocksOf (m why : Nat) (s : State) : KeepsUnit b s (breakLocksOf m why s) :=
  KeepsUnit.foldl _ _ (.refl b s) fun i hi u => KeepsUnit.ite (keepsUnit_breakLock hb i why (List.mem_range.mp hi) u) (.refl b u)

end

/-! ## Events -/

/-- The block is none of those that every event may write: the collector's, captures', locks' and the journal's. -/
def ApartFromEvents (b : Nat) : Prop := b ≠ 0x2002 ∧ b ≠ 0x2004 ∧ b ≠ 0x2009 ∧ b ≠ 0x2014

section
variable {b : Nat} (hb : ApartFromEvents b)
include hb

theorem keepsUnit_journal (t : Nat) (l : List Byte) (s : State) : KeepsUnit b s (journal t l s) := fun f h1 _ h3 =>
  journal_get _ _ _ fun g hg => by
    have hl : ∀ g ∈ ligFields, g.lsb < 32 ∧ g.addr % 2 ^ 32 / 65536 = 0x2014 := by decide
    obtain ⟨h4, h5⟩ := hl g hg
    exact Fd.key_ne h1 h4 (.inl fun e => hb.2.2.2 (by rw [← h3, blockOf, e, h5]))

theorem keepsUnit_noteReaction (c src idx : Nat) (s : State) : KeepsUnit b s (noteReaction c src idx s) := by
  have h2 : blockOf F.FCU_LAST_VALID ≠ b := hb.1.symm
  exact (((((((KeepsUnit.refl b s).set (f := F.FCU_LAST_VALID) 1 (by decide) h2).set (f := F.FCU_LAST_CLASS) c (by decide) h2).set
    (f := F.FCU_LAST_SOURCE) src (by decide) h2).set (f := F.FCU_LAST_INDEX) idx (by decide) h2).allEvt evFAULT)).trans
    (keepsBlock_capEvent hb.2.1 2 0 _).unit

theorem keepsUnit_addRecord (r : FaultRec) (s : State) : KeepsUnit b s (addRecord r s) := by
  have h2 : blockOf F.FCU_REC_STAT_OVF ≠ b := hb.1.symm
  unfold addRecord
  extract_lets fs s1 fs' s2
  have h1 : KeepsUnit b s s1 :=
    KeepsUnit.ite (((KeepsUnit.refl b s).set (f := F.FCU_REC_STAT_OVF) 1 (by decide) h2).set
      (f := F.FCU_REC_STAT_DROPPED) _ (by decide) h2)
      (KeepsUnit.set (KeepsUnit.congr (KeepsUnit.refl b s) rfl) (f := F.FCU_REC_STAT_COUNT) _ (by decide) h2)
  exact (h1.congr (x := s2) rfl).trans (keepsUnit_journal hb _ _ s2)

omit hb in
theorem keepsUnit_queueFlatline (c src : Nat) (s : State) : KeepsUnit b s (queueFlatline c src s) := by
  obtain ⟨w, n, h⟩ := queueFlatline_only c src s
  rw [h]
  exact (KeepsUnit.refl b s).congr rfl

theorem keepsUnit_takeQuiet (src idx : Nat) (s : State) : KeepsUnit b s (takeQuiet src idx s) := by
  have h1 : KeepsUnit b s (s.set F.FCU_STAT_STATE 1) := (KeepsUnit.refl b s).set _ (by decide) hb.1.symm
  have h2 := h1.trans (keepsUnit_noteReaction hb 2 src idx _)
  unfold takeQuiet
  generalize noteReaction 2 src idx (s.set F.FCU_STAT_STATE 1) = w at h2 ⊢
  exact (KeepsUnit.congr (x := { w with fcu := { w.fcu with quietAt := some w.now, autoDue := true } }) h2 rfl).trans
    (keepsUnit_queueFlatline 2 src _)

theorem keepsUnit_takeHalt (src idx : Nat) (s : State) : KeepsUnit b s (takeHalt src idx s) := by
  have h1 : KeepsUnit b s (s.set F.FCU_STAT_STATE 2) := (KeepsUnit.refl b s).set _ (by decide) hb.1.symm
  have h2 := h1.trans (keepsUnit_noteReaction hb 3 src idx _)
  unfold takeHalt
  generalize noteReaction 3 src idx (s.set F.FCU_STAT_STATE 2) = w at h2 ⊢
  exact (KeepsUnit.congr (x := { w with fcu := { w.fcu with haltAt := some w.now, haltSrc := src, autoDue := false } }) h2 rfl).trans
    (keepsUnit_queueFlatline 3 src _)

theorem keepsUnit_takeFence {raise : Nat → Nat → State → State} {src g idx : Nat}
    (hf : ∀ u, KeepsUnit b u (fenceUnit raise src g idx u)) (s : State) : KeepsUnit b s (takeFence raise src g idx s) := by
  have h1 : KeepsUnit b s ({ s with fcu := { s.fcu with fences := s.fcu.fences ++ fenceList src g idx } } : State) :=
    (KeepsUnit.refl b s).congr rfl
  unfold takeFence
  extract_lets fs s1 s2 s3 s4 s5
  have h3 : KeepsUnit b s s2 := by
    rw [show s2 = s1.set F.FCU_FENCED_GROUPS _ from rfl]
    exact (show KeepsUnit b s s1 from h1).set _ (by decide) hb.1.symm
  clear_value s2
  have h4 : KeepsUnit b s s4 := (h3.trans (keepsUnit_noteReaction hb 1 src idx s2)).trans (hf s3)
  clear_value s4
  exact (h4.congr (x := s5) rfl).trans (keepsUnit_journal hb jFENCE _ s5)

/-- An event keeps the block where its fence action does. -/
theorem keepsUnit_raiseF {src g idx : Nat} (hg : srcGroup src = some g) (hsrc : src < 128)
    (hf : ∀ u, KeepsUnit b u (fenceUnit (raiseDeep 5) src g (idx % 65536) u)) (s : State) : KeepsUnit b s (raiseF src idx s) := by
  have hfc : ∀ (f : Fd), f.addr % 2 ^ 32 / 65536 = 0x2002 → blockOf f ≠ b := fun f h e => hb.1 (e.symm.trans h)
  unfold raiseF raiseDeep collect
  rw [hg]
  dsimp -zeta only
  extract_lets wire s1 s2 c0 conseq c1 last s3 c2 s4 s5
  have h2 : KeepsUnit b s s2 := by
    refine KeepsUnit.set (f := F.FCU_SRCCNT_COUNT src) (KeepsUnit.set (f := F.FCU_PEND_PEND (src / 32)) (.refl b s) _ ?_ (hfc _ ?_)) _
      ?_ (hfc _ ?_)
    · simp [F.FCU_PEND_PEND]
    · simp only [F.FCU_PEND_PEND, A.FCU_PEND]; omega
    · simp [F.FCU_SRCCNT_COUNT]
    · simp only [F.FCU_SRCCNT_COUNT, A.FCU_SRCCNT]; omega
  clear_value s2
  have h3 : KeepsUnit b s s3 :=
    KeepsUnit.ite (KeepsUnit.set (f := F.FCU_CONSEQ_COUNT) h2 _ (by decide) (hfc _ (by decide))) h2
  clear_value s3 c2
  have h4 : KeepsUnit b s s4 := h3.trans (keepsUnit_addRecord hb _ _)
  clear_value s4
  have h5 : KeepsUnit b s s5 := KeepsUnit.ite (h4.trans (keepsUnit_breakLocksOf hb.2.2.1 _ _ s4)) h4
  clear_value s5
  refine KeepsUnit.ite (.refl b s) (KeepsUnit.ite (KeepsUnit.congr (.refl b s) rfl) (KeepsUnit.ite h2 ?_))
  split
  · exact h5.trans (keepsUnit_takeFence hb hf _)
  · exact KeepsUnit.ite h5 (h5.trans (keepsUnit_takeQuiet hb _ _ _))
  · exact KeepsUnit.ite h5 (h5.trans (keepsUnit_takeHalt hb _ _ _))
  · exact h5

omit hb in
/-- A group with no fence action has nothing to stop. -/
theorem fenceUnit_none {raise : Nat → Nat → State → State} {src g idx : Nat} (hn : fenceNeeds g = none) (u : State) :
    fenceUnit raise src g idx u = u := by
  simp only [fenceNeeds] at hn
  split at hn
  · cases hn
  split at hn
  · cases hn
  next h1 h2 =>
    simp only [Bool.or_eq_true, Bool.and_eq_true, decide_eq_true_eq, not_or, not_and] at h1 h2
    obtain ⟨⟨⟨⟨⟨h0, h3⟩, h15⟩, h16⟩, h19⟩, h23⟩ := h1
    obtain ⟨⟨h9, h21⟩, h22⟩ := h2
    have hnet : ¬ (decide (9 ≤ g) && decide (g ≤ 13)) = true := by simp; omega
    have h14 : g ≠ 14 := fun e => h9 (by omega) (by omega)
    simp only [fenceUnit, if_neg h0, if_neg h3, if_neg hnet, if_neg h14, if_neg h15, if_neg h16, if_neg h19, if_neg h21, if_neg h22,
      if_neg h23]

/-- An event of a group with no fence action. -/
theorem keepsUnit_raiseF_unfenced {src g : Nat} (idx : Nat) (hg : srcGroup src = some g) (hsrc : src < 128)
    (hn : fenceNeeds g = none) (s : State) : KeepsUnit b s (raiseF src idx s) :=
  keepsUnit_raiseF hb hg hsrc (fun u => by rw [fenceUnit_none hn]; exact .refl b u) s

end

end Sys2Proof.Machine
end

section
/-!
HOST SLOTS AND THEIR CHANNEL. Slot resets, frames sent, the assembly of the Tuning Summary and the link of slot 4.
-/
namespace Sys2Proof.Machine

/-! ## Slots -/

theorem slotS_setSlot (n : Nat) (x : HSlotS) (s : State) : (s.setSlot n x).slotS n = x := by
  rw [State.slotS, State.setSlot, mget_mset_same]

theorem slotS_congr {s w : State} (h : w.host = s.host) (n : Nat) : w.slotS n = s.slotS n := by rw [State.slotS, h]; rfl

/-- A reset of slot `n` breaks the slot's locks, takes its registers and its hidden state back, and counts (R367). -/
theorem slotReset_eq (n : Nat) (s : State) : ∃ h : HostS, mget {} n h.slot = {} ∧
    slotReset n s = ({ (breakLocksOf (slotMaster n) leRESET s).resetRegs (slotReg n) with host := h } : State).set
      (F.SLOTn_STAT_RESETS n) (min 255 (s.get (F.SLOTn_STAT_RESETS n) + 1)) := by
  unfold slotReset
  generalize breakLocksOf (slotMaster n) leRESET s = w
  dsimp only
  split
  · exact ⟨{ (w.resetRegs (slotReg n)).host with slot := mset {} n {} w.host.slot, tuned := false }, (mget_mset_same ({} : HSlotS) n {} w.host.slot :), rfl⟩
  · exact ⟨{ (w.resetRegs (slotReg n)).host with slot := mset {} n {} w.host.slot }, (mget_mset_same ({} : HSlotS) n {} w.host.slot :), rfl⟩

theorem slotReset_resets (n : Nat) (s : State) :
    (slotReset n s).get (F.SLOTn_STAT_RESETS n) = min 255 (s.get (F.SLOTn_STAT_RESETS n) + 1) := by
  obtain ⟨h, -, hs⟩ := slotReset_eq n s
  rw [hs, State.get_set_same]
  exact Nat.mod_eq_of_lt (by simp only [Fd.width, F.SLOTn_STAT_RESETS]; omega)

/-- A reset of slot `n` takes the slot's registers back and keeps the other fields of the block (R367, R376). -/
theorem slotReset_get {n : Nat} {f : Fd} (s : State) (hl : f.lsb < 32) (hq : Fd.quiet f = true) (hb : blockOf f = 0x2015)
    (hr : Fd.key f ≠ Fd.key (F.SLOTn_STAT_RESETS n)) :
    (slotReset n s).get f = if slotReg n f.addr then f.rst else s.get f := by
  obtain ⟨h, -, hs⟩ := slotReset_eq n s
  have ha : Fd.key f / 32 = f.addr := by rw [Fd.key]; omega
  have hw : (breakLocksOf (slotMaster n) leRESET s).get f = s.get f := keepsUnit_breakLocksOf (by decide) _ _ s f hl hq hb
  generalize breakLocksOf (slotMaster n) leRESET s = w at hs hw
  rw [hs, State.get_set_other _ _ hr]
  refine (State.get_congr (t := w.resetRegs (slotReg n)) rfl f).trans ?_
  rw [State.get_resetRegs, ha, hw]

theorem slotReset_slot (n : Nat) (s : State) : (slotReset n s).slotS n = {} := by
  obtain ⟨h, hslot, hs⟩ := slotReset_eq n s
  rw [hs]
  exact hslot

theorem slotReset_fresh (n : Nat) (s : State) : (slotReset n s).fresh = s.fresh := by
  obtain ⟨h, -, hs⟩ := slotReset_eq n s
  have ho := outer_breakLocksOf (slotMaster n) leRESET s
  generalize breakLocksOf (slotMaster n) leRESET s = w at hs ho
  have hf : w.fresh = s.fresh := congrArg (fun o => o.2.1) ho
  rw [hs, ← hf]
  rfl

/-! ## Frames sent -/

theorem lpiWake_only (p : Nat) (s : State) : ∃ m x, lpiWake p s = { s with fld := m, net := x } := by
  unfold lpiWake
  split <;> exact ⟨_, _, rfl⟩

theorem lpiWake_get {p : Nat} {f : Fd} (s : State) (h : Fd.key f ≠ Fd.key (F.NET_STAT_LPI_TX p)) : (lpiWake p s).get f = s.get f := by
  unfold lpiWake
  split
  · exact State.get_set_other s 0 h
  · rfl

theorem enqueue_only (p : Nat) (x : TxFrame) (s : State) : ∃ m n, enqueue p x s = { s with fld := m, net := n } := by
  obtain ⟨m, n, h⟩ := lpiWake_only p (creditTick p s)
  unfold enqueue
  dsimp only
  rw [h]
  exact ⟨_, _, rfl⟩

theorem enqueue_get {p : Nat} {f : Fd} (x : TxFrame) (s : State) (h : Fd.key f ≠ Fd.key (F.NET_STAT_LPI_TX p)) :
    (enqueue p x s).get f = s.get f := lpiWake_get (creditTick p s) h

theorem hostSend_only (n p : Nat) (da : List Byte) (sub fl seq : Nat) (body : List Byte) (s : State) :
    ∃ m x, hostSend n p da sub fl seq body s = { s with fld := m, net := x } := by
  unfold hostSend
  split
  · exact ⟨_, _, rfl⟩
  · exact enqueue_only p _ (s.inc (F.SLOTn_TXSEQ_SEQ n))

/-- A frame writes TXSEQ of its slot, and wakes a transmitter in low-power idle. -/
theorem hostSend_get {n p : Nat} {f : Fd} (da : List Byte) (sub fl seq : Nat) (body : List Byte) (s : State) (hl : f.lsb < 32)
    (h1 : Fd.key f ≠ Fd.key (F.SLOTn_TXSEQ_SEQ n)) (h2 : f.addr % 65536 ≠ 4) :
    (hostSend n p da sub fl seq body s).get f = s.get f := by
  have h3 : Fd.key f ≠ Fd.key (F.NET_STAT_LPI_TX p) := Fd.key_ne hl (by simp [F.NET_STAT_LPI_TX])
    (.inl fun e => h2 (by rw [e]; simp only [F.NET_STAT_LPI_TX, A.NET_STAT]; omega))
  unfold hostSend
  split
  · rfl
  · exact (enqueue_get _ (s.inc (F.SLOTn_TXSEQ_SEQ n)) h3).trans (State.get_set_other s _ h1)

/-! ## Requests and SYNC -/

theorem hostPop_serves {sub t : Nat} {f : RxFrame} {q : List RxFrame} {s : State} (h : Serves sub f q s) :
    hostPop sub (s.atTime t) = (some f, { s.atTime t with net := { s.net with hostq := q } }) := by
  obtain ⟨-, hq, hform, htag, hsub⟩ := h
  have hgood : ((s.atTime t).hcForm f && (s.atTime t).tagOk f) = true := Bool.and_eq_true_iff.2 ⟨hform, htag⟩
  have hq' : (s.atTime t).net.hostq = f :: q := hq
  have hdrop : hostDrop (s.atTime t).net.hostq (s.atTime t) = s.atTime t := by
    rw [hq', hostDrop, if_pos hgood]
  unfold hostPop
  rw [hdrop]
  dsimp only
  rw [hq']
  exact if_pos (beq_iff_eq.2 hsub)

/-- A request out of order is only counted (R363). -/
theorem hostRequest_replay {f : RxFrame} {s : State} (es : List Ecc)
    (h : ¬ (hcAt f 4 4 + 2 ^ 32 - s.get (F.SLOTn_RXNEXT_SEQ (hcSlot f))) % 2 ^ 32 < 2 ^ 31) :
    hostRequest f es s = s.incSat (F.SLOTn_CNT0_REPLAY (hcSlot f)) := by
  unfold hostRequest
  exact if_neg h

/-- A nonce of 16 bytes resets the slot and answers with a fresh number to begin from (R365). -/
theorem hostSync_does {f : RxFrame} {s : State} (hn : hcLen f = 16) (hs : hcSlot f ≤ 3) :
    (hostSync f s).get (F.SLOTn_RXNEXT_SEQ (hcSlot f)) = Config.free s.fresh % 2 ^ 32
    ∧ (hostSync f s).get (F.SLOTn_STAT_SYNCED (hcSlot f)) = 0
    ∧ (hostSync f s).get (F.SLOTn_STAT_RESETS (hcSlot f)) = min 255 (s.get (F.SLOTn_STAT_RESETS (hcSlot f)) + 1) := by
  unfold hostSync
  rw [if_neg (by rw [hn]; decide)]
  generalize hcSlot f = n at hs ⊢
  dsimp only [State.draw]
  have hkey : ∀ g ∈ [F.SLOTn_RXNEXT_SEQ n, F.SLOTn_STAT_SYNCED n, F.SLOTn_STAT_RESETS n],
      g.lsb < 32 ∧ Fd.key g ≠ Fd.key (F.SLOTn_TXSEQ_SEQ n) ∧ g.addr % 65536 ≠ 4 := by
    intro g hg
    simp only [List.mem_cons, List.not_mem_nil, or_false] at hg
    rcases hg with rfl | rfl | rfl <;>
      refine ⟨by simp [F.SLOTn_RXNEXT_SEQ, F.SLOTn_STAT_SYNCED, F.SLOTn_STAT_RESETS], ?_, ?_⟩ <;>
      simp only [Fd.key, F.SLOTn_RXNEXT_SEQ, F.SLOTn_STAT_SYNCED, F.SLOTn_STAT_RESETS, F.SLOTn_TXSEQ_SEQ, A.SLOTn_RXNEXT, A.SLOTn_STAT,
        A.SLOTn_TXSEQ] <;> omega
  have hother : ∀ g, g.addr = A.SLOTn_STAT n → g.lsb < 32 → Fd.key g ≠ Fd.key (F.SLOTn_RXNEXT_SEQ n) := fun g e hl =>
    Fd.key_ne hl (by simp [F.SLOTn_RXNEXT_SEQ]) (.inl (by rw [e]; simp only [F.SLOTn_RXNEXT_SEQ, A.SLOTn_RXNEXT, A.SLOTn_STAT]; omega))
  have hsend : ∀ g ∈ [F.SLOTn_RXNEXT_SEQ n, F.SLOTn_STAT_SYNCED n, F.SLOTn_STAT_RESETS n], ∀ p da sub fl seq body (w : State),
      (hostSend n p da sub fl seq body w).get g = w.get g := fun g hg p da sub fl seq body w => by
    obtain ⟨h1, h2, h3⟩ := hkey g hg
    exact hostSend_get da sub fl seq body w h1 h2 h3
  refine ⟨?_, ?_, ?_⟩
  · rw [hsend _ (by simp), State.get_set_same]
    rfl
  · rw [hsend _ (by simp), State.get_set_other _ _ (hother _ rfl (by simp [F.SLOTn_STAT_SYNCED]))]
    have hplace : blockOf (F.SLOTn_STAT_SYNCED n) = 0x2015 ∧ Fd.quiet (F.SLOTn_STAT_SYNCED n) = true
        ∧ slotReg n (F.SLOTn_STAT_SYNCED n).addr = true := by interval_cases n <;> decide
    obtain ⟨h1, h2, h3⟩ := hplace
    refine (slotReset_get _ (by simp [F.SLOTn_STAT_SYNCED]) h2 h1 ?_).trans (if_pos h3)
    exact Fd.key_ne (by simp [F.SLOTn_STAT_SYNCED]) (by simp [F.SLOTn_STAT_RESETS]) (.inr (by simp [F.SLOTn_STAT_SYNCED, F.SLOTn_STAT_RESETS]))
  · rw [hsend _ (by simp), State.get_set_other _ _ (hother _ rfl (by simp [F.SLOTn_STAT_RESETS]))]
    exact slotReset_resets n _

/-! ## Events -/

/-- An event that is due notes when it went, and slot 4 sends its message (R366, R368). -/
theorem hostEvent_does {n : Nat} {s : State} (hn : n ≤ 5) (hp : s.evtPending n = true)
    (hk : n < 4 → s.get (F.SLOTn_STAT_SYNCED n) = 1)
    (hdue : ∀ x, (s.slotS n).evtAt = some x → x + s.evtRepeat * uMs ≤ s.now) (hc : s.hostClosed (slotMaster n) = false) :
    ((hostEvent n s).slotS n).evtAt = some s.now
    ∧ (n = 4 → s.get F.HOST_STAT_MSIX_EN = 1 → bitOf (s.host.vector.getD 3 0) 0 = false → (hostEvent n s).host.msix = s.host.msix + 1)
    ∧ KeepsStore s (hostEvent n s) := by
  have hdue' : (match (s.slotS n).evtAt with | none => true | some t => decide (t + s.evtRepeat * uMs ≤ s.now)) = true := by
    cases h : (s.slotS n).evtAt with
    | none => rfl
    | some t => exact decide_eq_true (hdue t h)
  have hknows : (decide (4 ≤ n) || s.on (F.SLOTn_STAT_SYNCED n)) = true := by
    by_cases h4 : 4 ≤ n
    · rw [decide_eq_true h4, Bool.true_or]
    · rw [State.on, hk (by omega), Bool.or_eq_true]; exact .inr rfl
  unfold hostEvent
  extract_lets x due knows s1 gen
  have hdue : due = true := hdue'
  have hknows : knows = true := hknows
  rw [hdue, hknows, hp, hc, decide_eq_false (by omega : ¬ 5 < n), if_neg (by decide)]
  clear_value due knows
  clear hdue hknows hdue'
  dsimp only [s1, gen, x]
  generalize hw : s.setSlot n { s.slotS n with evtAt := some s.now } = w
  have hslot : (w.slotS n).evtAt = some s.now := by rw [← hw, slotS_setSlot]
  have hstore : KeepsStore s w := by rw [← hw]; exact ⟨rfl, rfl, rfl⟩
  have hvec : w.host.vector = s.host.vector := by rw [← hw]; rfl
  have hmsix : w.host.msix = s.host.msix := by rw [← hw]; rfl
  have hen : w.get F.HOST_STAT_MSIX_EN = s.get F.HOST_STAT_MSIX_EN := by rw [← hw]; rfl
  clear hw
  split
  · next h4 =>
    subst h4
    unfold raiseMsix
    refine ⟨?_, fun _ hm hv => ?_, ?_⟩
    · split
      · exact hslot
      · split <;> exact hslot
    · rw [if_neg (by rw [State.on, hen, hm]; decide), if_neg (by rw [hvec, hv]; decide), ← hmsix]
    · split
      · exact hstore
      · split <;> exact hstore
  · next h4 =>
    split
    · exact ⟨hslot, fun h => absurd h h4, hstore⟩
    · obtain ⟨m, x, hx⟩ := hostSend_only n (w.get (F.SLOTn_STAT_LASTPORT n)) (s.slotS n).sa htEVENT (hostFlags htEVENT)
        (w.get (F.SLOTn_TXSEQ_SEQ n)) (beBytes 4 (w.get (F.SLOTn_EVT_EVT n) &&& w.get (F.SLOTn_EVT_EN_EN n))
          ++ beBytes 8 (w.get F.HOST_SUMGEN_HI_GEN * 2 ^ 32 + w.get F.HOST_SUMGEN_LO_GEN)) w
      rw [hx]
      exact ⟨hslot, fun h => absurd h h4, hstore⟩

/-! ## TUNE -/

theorem evtSettle_get (n : Nat) (s : State) (f : Fd) : (evtSettle n s).get f = s.get f := by
  unfold evtSettle
  split <;> rfl

theorem evtSettle_store (n : Nat) (s : State) : KeepsStore s (evtSettle n s) := by
  unfold evtSettle
  split <;> exact ⟨rfl, rfl, rfl⟩

theorem evtSettle_snap (n : Nat) (s : State) :
    ((evtSettle n s).slotS n).snap = (s.slotS n).snap ∧ ((evtSettle n s).slotS n).snapAt = (s.slotS n).snapAt := by
  unfold evtSettle
  split
  · exact ⟨rfl, rfl⟩
  · rw [slotS_setSlot]
    exact ⟨rfl, rfl⟩

theorem wrHOST_tune {n : Nat} (hn : n < 6) (ack : Bool) (s : State) :
    wrHOST (A.SLOTn_TUNE n) (1 + 2 * ack.toNat) s = evtSettle n (tune n ack none s) := by
  have ho : A.SLOTn_TUNE n % 0x10000 = 0x424 + 0x400 * n := by simp only [A.SLOTn_TUNE]; omega
  have hgo : bitOf (1 + 2 * ack.toNat) 0 = true ∧ bitOf (1 + 2 * ack.toNat) 1 = ack := by cases ack <;> decide
  unfold wrHOST
  dsimp only
  rw [ho, show (0x424 + 0x400 * n) / 0x400 - 1 = n by omega, show (0x424 + 0x400 * n) % 0x400 = 0x24 by omega, hgo.1, hgo.2,
    if_pos (by simp; omega)]
  rfl

/-- TUNE takes its snapshot, or reports that an assembly runs (R373). -/
theorem tune_does (n : Nat) (ack : Bool) (s : State) :
    (tune n ack none s).get (F.SLOTn_TUNE_STAT_BUSY n) = (if s.tuning n then s.get (F.SLOTn_TUNE_STAT_BUSY n) else 1)
    ∧ (if s.tuning n then (tune n ack none s).get (F.SLOTn_TUNE_STAT_RESULT n) = 2
       else ((tune n ack none s).slotS n).snap = s.summary n ∧ ((tune n ack none s).slotS n).snapAt = s.now)
    ∧ KeepsStore s (tune n ack none s) := by
  unfold tune
  split
  · refine ⟨State.get_set_other _ _ ?_, State.get_set_same .., ⟨rfl, rfl, rfl⟩⟩
    exact Fd.key_ne (by simp [F.SLOTn_TUNE_STAT_BUSY]) (by simp [F.SLOTn_TUNE_STAT_RESULT])
      (.inr (by simp [F.SLOTn_TUNE_STAT_BUSY, F.SLOTn_TUNE_STAT_RESULT]))
  · extract_lets x t
    have ht : t.get (F.SLOTn_TUNE_STAT_BUSY n) = 1 := State.get_set_same s _ 1
    have hx : t.slotS n = { x with snap := s.summary n, snapAt := s.now, asker := none } := slotS_setSlot ..
    have hstore : KeepsStore s t := ⟨rfl, rfl, rfl⟩
    clear_value t
    have hack : ∀ w, w = (if ack then t.set (F.SLOTn_EVT_EVT n) 0 else t) →
        w.get (F.SLOTn_TUNE_STAT_BUSY n) = 1 ∧ w.slotS n = t.slotS n ∧ KeepsStore s w := by
      rintro w rfl
      split
      · refine ⟨(State.get_set_other _ _ ?_).trans ht, rfl, hstore⟩
        exact Fd.key_ne (by simp [F.SLOTn_TUNE_STAT_BUSY]) (by simp [F.SLOTn_EVT_EVT])
          (.inr (by simp [F.SLOTn_TUNE_STAT_BUSY, F.SLOTn_EVT_EVT]))
      · exact ⟨ht, rfl, hstore⟩
    obtain ⟨h1, h2, h3⟩ := hack _ rfl
    rw [h2, hx]
    exact ⟨h1, ⟨rfl, rfl⟩, h3⟩

/-- Words written to registers one after another, each by the number that belongs to its place. -/
theorem foldl_set_get {g : Nat → Nat} {r : Nat → Fd} (hr : ∀ i j, i ≠ j → Fd.key (r i) ≠ Fd.key (r j)) (l : List (Nat × Nat)) (j : Nat)
    (hg : ∀ e ∈ l, e.1 = g e.2) (s : State) (h : j ∈ l.map Prod.snd ∨ s.get (r j) = g j % 2 ^ Fd.width (r j)) :
    (l.foldl (fun u e => u.set (r e.2) e.1) s).get (r j) = g j % 2 ^ Fd.width (r j) := by
  induction l generalizing s with
  | nil => simpa using h
  | cons e l ih =>
    refine ih (fun x hx => hg x (.tail _ hx)) _ ?_
    by_cases hj : j = e.2
    · right
      rw [hj, State.get_set_same, hg e (.head _)]
    · rcases h with h | h
      · left
        simpa [hj] using h
      · exact .inr ((State.get_set_other _ _ (hr _ _ hj)).trans h)

end Sys2Proof.Machine
end

section
namespace Sys2Proof.Machine

theorem key_summary {n i j : Nat} (h : i ≠ j) : Fd.key (F.SLOTn_SUMMARY n i) ≠ Fd.key (F.SLOTn_SUMMARY n j) := by
  simp only [Fd.key, F.SLOTn_SUMMARY, A.SLOTn_SUMMARY]
  omega

/-- The registers of slot `n` that the end of an assembly writes lie below the summary buffers. -/
def tuneFields (n : Nat) : List Fd :=
  [F.SLOTn_TUNE_STAT_BUSY n, F.SLOTn_TUNE_STAT_VALID n, F.SLOTn_TUNE_STAT_RESULT n, F.SLOTn_CNT1_TUNES n]

theorem tuneFields_place {n : Nat} (hn : n < 6) : ∀ f ∈ tuneFields n, f.lsb < 32 ∧ Fd.key f ≠ Fd.key (F.SLOTn_TXSEQ_SEQ n)
    ∧ f.addr % 65536 ≠ 4 ∧ ∀ j, Fd.key (F.SLOTn_SUMMARY n j) ≠ Fd.key f := by
  intro f hf
  simp only [tuneFields, List.mem_cons, List.not_mem_nil, or_false] at hf
  rcases hf with rfl | rfl | rfl | rfl <;> refine ⟨by simp [F.SLOTn_TUNE_STAT_BUSY, F.SLOTn_TUNE_STAT_VALID, F.SLOTn_TUNE_STAT_RESULT,
    F.SLOTn_CNT1_TUNES], ?_, ?_, fun j => ?_⟩ <;>
    simp only [Fd.key, F.SLOTn_TUNE_STAT_BUSY, F.SLOTn_TUNE_STAT_VALID, F.SLOTn_TUNE_STAT_RESULT, F.SLOTn_CNT1_TUNES, F.SLOTn_TXSEQ_SEQ,
      A.SLOTn_TUNE_STAT, A.SLOTn_CNT1, A.SLOTn_TXSEQ, F.SLOTn_SUMMARY, A.SLOTn_SUMMARY] <;> omega

/-- The words of the snapshot, each with its place. -/
def snapWords (snap : List Byte) : List (Nat × Nat) :=
  ((List.range 1024).map (fun j => leNat ((snap.drop (4 * j)).take 4))).zipIdx

theorem mem_snapWords {snap : List Byte} {e : Nat × Nat} (h : e ∈ snapWords snap) :
    e.2 < 1024 ∧ e.1 = leNat ((snap.drop (4 * e.2)).take 4) := by
  obtain ⟨v, j⟩ := e
  have h1 := List.mem_zipIdx_iff_getElem?.1 h
  rw [List.getElem?_map] at h1
  obtain ⟨i, hi, hv⟩ := Option.map_eq_some_iff.1 h1
  obtain ⟨hlt, hget⟩ := List.getElem?_eq_some_iff.1 hi
  rw [List.getElem_range] at hget
  subst hget
  rw [List.length_range] at hlt
  exact ⟨hlt, hv.symm⟩

theorem snapWords_places (snap : List Byte) : (snapWords snap).map Prod.snd = List.range 1024 := by
  rw [snapWords, ← List.unzip_snd, List.unzip_zipIdx_eq_prod, List.length_map, List.length_range, List.range_eq_range']

/-- The summary buffer of slot `n` takes the words of a snapshot. -/
def putSummary (n : Nat) (snap : List Byte) (s : State) : State :=
  (snapWords snap).foldl (fun u e => u.set (F.SLOTn_SUMMARY n e.2) e.1) s

theorem putSummary_get {n j : Nat} (snap : List Byte) (s : State) (hj : j < 1024) :
    (putSummary n snap s).get (F.SLOTn_SUMMARY n j) = leNat ((snap.drop (4 * j)).take 4) % 2 ^ 32 :=
  foldl_set_get (g := fun j => leNat ((snap.drop (4 * j)).take 4)) (r := F.SLOTn_SUMMARY n) (fun _ _ => key_summary) (snapWords snap) j
    (fun _ he => (mem_snapWords he).2) s (.inl (by rw [snapWords_places]; exact List.mem_range.2 hj))

theorem putSummary_get_other {n : Nat} {f : Fd} (snap : List Byte) (s : State) (h : ∀ j, Fd.key (F.SLOTn_SUMMARY n j) ≠ Fd.key f) :
    (putSummary n snap s).get f = s.get f :=
  foldl_keeps (fun u => u.get f) _ _ _ fun e _ u => State.get_set_other u _ (h e.2).symm

theorem fieldsOnly_putSummary (n : Nat) (snap : List Byte) (s : State) : FieldsOnly s (putSummary n snap s) :=
  FieldsOnly.foldl _ _ (.refl s) fun _ u => (FieldsOnly.refl u).set _ _

/-- The registers of the end of an assembly. -/
def showTuned (n : Nat) (s : State) : State :=
  (((s.set (F.SLOTn_TUNE_STAT_BUSY n) 0).set (F.SLOTn_TUNE_STAT_VALID n) 1).set (F.SLOTn_TUNE_STAT_RESULT n) tuDONE).incSat
    (F.SLOTn_CNT1_TUNES n)

theorem showTuned_shows (n : Nat) (s : State) :
    (showTuned n s).get (F.SLOTn_TUNE_STAT_BUSY n) = 0 ∧ (showTuned n s).get (F.SLOTn_TUNE_STAT_VALID n) = 1
    ∧ (showTuned n s).get (F.SLOTn_TUNE_STAT_RESULT n) = 1
    ∧ (showTuned n s).get (F.SLOTn_CNT1_TUNES n) = min (s.get (F.SLOTn_CNT1_TUNES n) + 1) 65535 := by
  have hbv : Fd.key (F.SLOTn_TUNE_STAT_BUSY n) ≠ Fd.key (F.SLOTn_TUNE_STAT_VALID n) := by
    simp [Fd.key, F.SLOTn_TUNE_STAT_BUSY, F.SLOTn_TUNE_STAT_VALID]
  have hbr : Fd.key (F.SLOTn_TUNE_STAT_BUSY n) ≠ Fd.key (F.SLOTn_TUNE_STAT_RESULT n) := by
    simp [Fd.key, F.SLOTn_TUNE_STAT_BUSY, F.SLOTn_TUNE_STAT_RESULT]
  have hvr : Fd.key (F.SLOTn_TUNE_STAT_VALID n) ≠ Fd.key (F.SLOTn_TUNE_STAT_RESULT n) := by
    simp [Fd.key, F.SLOTn_TUNE_STAT_VALID, F.SLOTn_TUNE_STAT_RESULT]
  have hc : ∀ f : Fd, f.addr = A.SLOTn_TUNE_STAT n → f.lsb < 32 → Fd.key f ≠ Fd.key (F.SLOTn_CNT1_TUNES n) := fun f e hl =>
    Fd.key_ne hl (by simp [F.SLOTn_CNT1_TUNES]) (.inl (by rw [e]; simp only [F.SLOTn_CNT1_TUNES, A.SLOTn_TUNE_STAT, A.SLOTn_CNT1]; omega))
  have hcb := hc (F.SLOTn_TUNE_STAT_BUSY n) rfl (by simp [F.SLOTn_TUNE_STAT_BUSY])
  have hcv := hc (F.SLOTn_TUNE_STAT_VALID n) rfl (by simp [F.SLOTn_TUNE_STAT_VALID])
  have hcr := hc (F.SLOTn_TUNE_STAT_RESULT n) rfl (by simp [F.SLOTn_TUNE_STAT_RESULT])
  rw [showTuned, State.incSat, State.addSat_get, State.addSat, State.get_set_other _ _ hcb, State.get_set_other _ _ hcv,
    State.get_set_other _ _ hcr, State.get_set_other _ _ hbr, State.get_set_other _ _ hbv, State.get_set_other _ _ hvr,
    State.get_set_other _ _ hcr.symm, State.get_set_other _ _ hcv.symm, State.get_set_other _ _ hcb.symm]
  simp only [State.get_set_same]
  exact ⟨rfl, rfl, rfl, rfl⟩

theorem showTuned_get_other {n : Nat} {f : Fd} (s : State) (h : ∀ g ∈ tuneFields n, Fd.key f ≠ Fd.key g) :
    (showTuned n s).get f = s.get f := by
  rw [showTuned, State.incSat, State.addSat, State.get_set_other _ _ (h _ (by simp [tuneFields])),
    State.get_set_other _ _ (h _ (by simp [tuneFields])), State.get_set_other _ _ (h _ (by simp [tuneFields])),
    State.get_set_other _ _ (h _ (by simp [tuneFields]))]

/-- The four parts of the answer to a Host Channel TUNE, where one asked (R364). -/
def answerTune (n : Nat) (snap : List Byte) (asker : Option (Nat × List Byte × Nat)) (s : State) : State :=
  match asker with
  | none => s
  | some (p, sa, seq) => [0, 1, 2, 3].foldl (fun u k => hostSend n p sa htRESPONSE (k + (if k = 3 then 4 else 0)) seq
      ([3, 0, 0, 0] ++ (snap.drop (1024 * k)).take 1024) u) s

theorem answerTune_get {n : Nat} {f : Fd} (snap : List Byte) (asker : Option (Nat × List Byte × Nat)) (s : State) (hl : f.lsb < 32)
    (h1 : Fd.key f ≠ Fd.key (F.SLOTn_TXSEQ_SEQ n)) (h2 : f.addr % 65536 ≠ 4) : (answerTune n snap asker s).get f = s.get f := by
  unfold answerTune
  split
  · rfl
  · next p sa seq => exact foldl_keeps (fun u => u.get f) _ _ _ fun k _ u => hostSend_get sa _ _ _ _ u hl h1 h2

theorem answerTune_store (n : Nat) (snap : List Byte) (asker : Option (Nat × List Byte × Nat)) (s : State) :
    KeepsStore s (answerTune n snap asker s) := by
  unfold answerTune
  split
  · exact ⟨rfl, rfl, rfl⟩
  · next p sa seq =>
    refine List.foldlRecOn [0, 1, 2, 3] _ (motive := fun u => KeepsStore s u) ⟨rfl, rfl, rfl⟩ fun u hu k _ => ?_
    obtain ⟨m, y, hy⟩ := hostSend_only n p sa htRESPONSE (k + (if k = 3 then 4 else 0)) seq
      ([3, 0, 0, 0] ++ (snap.drop (1024 * k)).take 1024) u
    rw [hy]
    exact hu

/-- What the end of an assembly does once the buffer is written; `x` is the slot's hidden state. -/
def endTune (n : Nat) (x : HSlotS) (s : State) : State :=
  let s := (showTuned n s).setSlot n { x with snap := [], asker := none }
  answerTune n x.snap x.asker (if n = 5 then { s with host := { s.host with tuned := true } } else s)

theorem tuneDone_eq {n : Nat} {s : State} (ht : s.tuning n = true) :
    tuneDone n s = endTune n (s.slotS n) (putSummary n (s.slotS n).snap s) := by
  unfold tuneDone endTune putSummary showTuned snapWords answerTune
  refine (if_neg (by rw [ht]; decide)).trans ?_
  generalize List.range 1024 = l
  rfl

theorem endTune_eq (n : Nat) (x : HSlotS) (s : State) : ∃ h : HostS,
    endTune n x s = answerTune n x.snap x.asker { showTuned n s with host := h } := by
  unfold endTune
  generalize showTuned n s = w
  dsimp only
  split
  · exact ⟨{ (w.setSlot n { x with snap := [], asker := none }).host with tuned := true }, rfl⟩
  · exact ⟨(w.setSlot n { x with snap := [], asker := none }).host, rfl⟩

theorem get_withHost (s : State) (h : HostS) (f : Fd) : ({ s with host := h } : State).get f = s.get f := rfl

theorem keepsStore_withHost (s : State) (h : HostS) : KeepsStore s { s with host := h } := ⟨rfl, rfl, rfl⟩

/-- What the end of an assembly shows (R373). -/
theorem tuneDone_does {n : Nat} {s : State} (hn : n < 6) (ht : s.tuning n = true) :
    (tuneDone n s).get (F.SLOTn_TUNE_STAT_BUSY n) = 0 ∧ (tuneDone n s).get (F.SLOTn_TUNE_STAT_VALID n) = 1
    ∧ (tuneDone n s).get (F.SLOTn_TUNE_STAT_RESULT n) = 1
    ∧ (tuneDone n s).get (F.SLOTn_CNT1_TUNES n) = min (s.get (F.SLOTn_CNT1_TUNES n) + 1) 65535
    ∧ (∀ j < 1024, (tuneDone n s).get (F.SLOTn_SUMMARY n j) = leNat (((s.slotS n).snap.drop (4 * j)).take 4) % 2 ^ 32)
    ∧ KeepsStore s (tuneDone n s) := by
  obtain ⟨h, hw⟩ := endTune_eq n (s.slotS n) (putSummary n (s.slotS n).snap s)
  rw [← tuneDone_eq ht] at hw
  have hplace := tuneFields_place hn
  have hput : ∀ f ∈ tuneFields n, (putSummary n (s.slotS n).snap s).get f = s.get f := fun f hf =>
    putSummary_get_other _ s (hplace f hf).2.2.2
  have hsum := fun j (hj : j < 1024) => putSummary_get (n := n) (s.slotS n).snap s hj
  have hstore := (fieldsOnly_putSummary n (s.slotS n).snap s).keepsStore
  generalize putSummary n (s.slotS n).snap s = w at hw hput hsum hstore
  have hend : ∀ f ∈ tuneFields n, (tuneDone n s).get f = (showTuned n w).get f := fun f hf => by
    obtain ⟨k1, k2, k3, -⟩ := hplace f hf
    rw [hw, answerTune_get _ _ _ k1 k2 k3]
    exact get_withHost ..
  obtain ⟨h1, h2, h3, h4⟩ := showTuned_shows n w
  refine ⟨(hend _ (by simp [tuneFields])).trans h1, (hend _ (by simp [tuneFields])).trans h2, (hend _ (by simp [tuneFields])).trans h3,
    (hend _ (by simp [tuneFields])).trans (h4.trans (by rw [hput _ (by simp [tuneFields])])), fun j hj => ?_, ?_⟩
  · rw [hw, answerTune_get _ _ _ (by simp [F.SLOTn_SUMMARY])
      (by simp only [Fd.key, F.SLOTn_SUMMARY, A.SLOTn_SUMMARY, F.SLOTn_TXSEQ_SEQ, A.SLOTn_TXSEQ]; omega)
      (by simp only [F.SLOTn_SUMMARY, A.SLOTn_SUMMARY]; omega), ← hsum j hj]
    exact (get_withHost ..).trans (showTuned_get_other w fun g hg => (hplace g hg).2.2.2 j)
  · rw [hw]
    have hshow : KeepsStore s (showTuned n w) :=
      hstore.trans (((((FieldsOnly.refl w).set _ _).set _ _).set _ _).set (F.SLOTn_CNT1_TUNES n) _).keepsStore
    exact (hshow.trans (keepsStore_withHost _ h)).trans (answerTune_store n _ _ _)

/-! ## Enable and kick -/

theorem fieldsAt_slotCtrl {n : Nat} (hn : n < 6) :
    fieldsAt (A.SLOTn_CTRL n) = [F.SLOTn_CTRL_EN n, F.SLOTn_CTRL_KICK n, F.SLOTn_CTRL_PORTS n] := by
  interval_cases n <;> decide

theorem writeSlotCtrl_en {n v : Nat} (hn : n < 6) (s : State) :
    (s.writeRegPlain (A.SLOTn_CTRL n) v).get (F.SLOTn_CTRL_EN n) = (bitOf v 31).toNat := by
  have hk : Fd.key (F.SLOTn_CTRL_EN n) ≠ Fd.key (F.SLOTn_CTRL_PORTS n) := by simp [Fd.key, F.SLOTn_CTRL_EN, F.SLOTn_CTRL_PORTS]
  have hk2 : Fd.key (F.SLOTn_CTRL_EN n) ≠ Fd.key (F.SLOTn_CTRL_KICK n) := by simp [Fd.key, F.SLOTn_CTRL_EN, F.SLOTn_CTRL_KICK]
  rw [State.writeRegPlain, fieldsAt_slotCtrl hn]
  simp only [List.foldl_cons, List.foldl_nil]
  rw [State.writeField_get_other _ _ hk, State.writeField_get_other _ _ hk2]
  refine (State.get_set_same s (F.SLOTn_CTRL_EN n) _).trans ?_
  have hm : v / 2 ^ 31 % 2 < 2 := Nat.mod_lt _ (by decide)
  show v / 2 ^ 31 % 2 % 2 = (v / 2 ^ 31 % 2 == 1).toNat
  generalize v / 2 ^ 31 % 2 = x at hm
  interval_cases x <;> rfl

theorem writeSlotCtrl_other {n : Nat} {f : Fd} (v : Nat) (hn : n < 6) (s : State) (hl : f.lsb < 32) (ha : f.addr ≠ A.SLOTn_CTRL n) :
    (s.writeRegPlain (A.SLOTn_CTRL n) v).get f = s.get f := by
  refine s.writeRegPlain_get_other _ _ fun g hg => ?_
  rw [fieldsAt_slotCtrl hn] at hg
  simp only [List.mem_cons, List.not_mem_nil, or_false] at hg
  rcases hg with rfl | rfl | rfl
  · exact Fd.key_ne hl (by simp [F.SLOTn_CTRL_EN]) (.inl ha)
  · exact Fd.key_ne hl (by simp [F.SLOTn_CTRL_KICK]) (.inl ha)
  · exact Fd.key_ne hl (by simp [F.SLOTn_CTRL_PORTS]) (.inl ha)

theorem bitOf_withBit_30_31 (v : Nat) : bitOf (withBit v 30 true) 31 = bitOf v 31 := by
  simp only [withBit, bitOf, if_true]
  split
  · rfl
  · next h =>
    simp only [beq_iff_eq] at h
    congr 1
    omega

/-- What a write of SLOTn_CTRL with KICK shows (R367). -/
theorem wrSlotCtrl_kick {n v : Nat} (hn : n < 6) (s : State) {w : State} (hw : w = wrSlotCtrl n (withBit (v % 2 ^ 32) 30 true) s) :
    w.get (F.SLOTn_CTRL_EN n) = (bitOf v 31).toNat
    ∧ w.get (F.SLOTn_STAT_RESETS n) = min 255 (s.get (F.SLOTn_STAT_RESETS n) + 1)
    ∧ w.get (F.SLOTn_EVT_EN_EN n) = 0 ∧ w.get (F.SLOTn_TUNE_STAT_BUSY n) = 0 ∧ w.slotS n = {} := by
  have hplace : (blockOf (F.SLOTn_CTRL_EN n) = 0x2015 ∧ Fd.quiet (F.SLOTn_CTRL_EN n) = true ∧ slotReg n (F.SLOTn_CTRL_EN n).addr = false)
      ∧ (blockOf (F.SLOTn_EVT_EN_EN n) = 0x2015 ∧ Fd.quiet (F.SLOTn_EVT_EN_EN n) = true ∧ slotReg n (F.SLOTn_EVT_EN_EN n).addr = true)
      ∧ (blockOf (F.SLOTn_TUNE_STAT_BUSY n) = 0x2015 ∧ Fd.quiet (F.SLOTn_TUNE_STAT_BUSY n) = true
        ∧ slotReg n (F.SLOTn_TUNE_STAT_BUSY n).addr = true) := by
    interval_cases n <;> decide
  obtain ⟨⟨a1, a2, a3⟩, ⟨b1, b2, b3⟩, ⟨c1, c2, c3⟩⟩ := hplace
  have hr : ∀ f : Fd, f.lsb < 32 → f.lsb ≠ 8 → Fd.key f ≠ Fd.key (F.SLOTn_STAT_RESETS n) := fun f hl h8 =>
    Fd.key_ne hl (by simp [F.SLOTn_STAT_RESETS]) (.inr h8)
  unfold wrSlotCtrl at hw
  rw [bitOf_withBit_same, Bool.true_or, if_pos rfl] at hw
  subst hw
  have hen := writeSlotCtrl_en (v := withBit (v % 2 ^ 32) 30 true) hn s
  have hres := writeSlotCtrl_other (f := F.SLOTn_STAT_RESETS n) (withBit (v % 2 ^ 32) 30 true) hn s (by simp [F.SLOTn_STAT_RESETS])
    (by simp [F.SLOTn_STAT_RESETS, A.SLOTn_STAT, A.SLOTn_CTRL])
  rw [bitOf_withBit_30_31, bitOf_mod_two_pow v (by decide)] at hen
  generalize s.writeRegPlain (A.SLOTn_CTRL n) (withBit (v % 2 ^ 32) 30 true) = u at hen hres
  refine ⟨?_, (slotReset_resets n u).trans (by rw [hres]), ?_, ?_, slotReset_slot n u⟩
  · rw [slotReset_get u (by simp [F.SLOTn_CTRL_EN]) a2 a1 (hr _ (by simp [F.SLOTn_CTRL_EN]) (by simp [F.SLOTn_CTRL_EN])), a3, hen]
    rfl
  · rw [slotReset_get u (by simp [F.SLOTn_EVT_EN_EN]) b2 b1 (hr _ (by simp [F.SLOTn_EVT_EN_EN]) (by simp [F.SLOTn_EVT_EN_EN])), b3]
    rfl
  · rw [slotReset_get u (by simp [F.SLOTn_TUNE_STAT_BUSY]) c2 c1
      (hr _ (by simp [F.SLOTn_TUNE_STAT_BUSY]) (by simp [F.SLOTn_TUNE_STAT_BUSY])), c3]
    rfl

/-! ## The link of slot 4 -/

/-- The last steps of a reset of the link: slot 4 has been reset. -/
def endPcie (down : Bool) (s : State) : State :=
  let s := { s with host := { s.host with vector := [0, 0, 0, 1], pba := false } }
  if down then pcieDown s else s.set F.HOST_STAT_MSIX_EN 0

theorem endPcie_does (down : Bool) (s : State) :
    (endPcie down s).get F.HOST_STAT_MSIX_EN = 0 ∧ (endPcie down s).host.vector = [0, 0, 0, 1] ∧ (endPcie down s).host.pba = false
    ∧ (down = true → (endPcie down s).get F.HOST_STAT_PCIE_UP = 0)
    ∧ (down = false → (endPcie down s).get (F.SLOTn_STAT_RESETS 4) = s.get (F.SLOTn_STAT_RESETS 4)) := by
  unfold endPcie
  extract_lets h w
  have hw : w.host.vector = [0, 0, 0, 1] ∧ w.host.pba = false ∧ ∀ f, w.get f = s.get f := ⟨rfl, rfl, fun _ => rfl⟩
  clear_value w
  obtain ⟨hv, hp, hf⟩ := hw
  cases down with
  | false =>
    rw [if_neg (by decide)]
    exact ⟨State.get_set_same .., hv, hp, fun h => absurd h (by decide), fun _ => (State.get_set_other _ _ (by decide)).trans (hf _)⟩
  | true =>
    rw [if_pos rfl]
    refine ⟨State.get_set_same .., hv, hp, fun _ => ?_, fun h => absurd h (by decide)⟩
    rw [pcieDown, State.get_set_other _ _ (by decide), State.get_set_other _ _ (by decide), State.get_set_other _ _ (by decide),
      State.get_set_same]
    rfl

theorem hcSlot_le {sub : Nat} {f : RxFrame} {q : List RxFrame} {s : State} (h : Serves sub f q s) : hcSlot f ≤ 3 := by
  have hform := h.2.2.1
  simp only [State.hcForm, Bool.and_eq_true, decide_eq_true_eq] at hform
  omega

theorem exec_request_serves {f : RxFrame} {q : List RxFrame} {s : State} (es : List Ecc) (t : Nat) (h : Serves htREQUEST f q s) :
    exec (.request ⟨es, t⟩) s = .next (sumTick s (hostRequest f es { s.atTime t with net := { s.net with hostq := q } })) := by
  refine (show exec (.request ⟨es, t⟩) s = execRequest ⟨es, t⟩ s from rfl).trans ?_
  unfold execRequest
  dsimp only
  rw [hostPop_serves h]
  exact done_alive _ h.1

theorem exec_sync_serves {f : RxFrame} {q : List RxFrame} {s : State} (t : Nat) (h : Serves htSYNC f q s) :
    exec (.sync t) s = .next (sumTick s (hostSync f { s.atTime t with net := { s.net with hostq := q } })) := by
  refine (show exec (.sync t) s = execSync t s from rfl).trans ?_
  unfold execSync
  dsimp only
  rw [hostPop_serves h]
  exact done_alive _ h.1

/-- A request that is accepted leaves the next number that its slot expects. -/
theorem accepted_rxnext (n v p : Nat) (x : HSlotS) (s : State) :
    ((((s.set (F.SLOTn_RXNEXT_SEQ n) v).set (F.SLOTn_STAT_SYNCED n) 1).set (F.SLOTn_STAT_LASTPORT n) p).setSlot n x).get
      (F.SLOTn_RXNEXT_SEQ n) = v % 2 ^ 32 := by
  have hstat : ∀ g : Fd, g.addr = A.SLOTn_STAT n → g.lsb < 32 → Fd.key (F.SLOTn_RXNEXT_SEQ n) ≠ Fd.key g := fun g e hl =>
    Fd.key_ne (by simp [F.SLOTn_RXNEXT_SEQ]) hl (.inl (by rw [e]; simp only [F.SLOTn_RXNEXT_SEQ, A.SLOTn_RXNEXT, A.SLOTn_STAT]; omega))
  exact (State.get_set_other _ _ (hstat _ rfl (by simp [F.SLOTn_STAT_LASTPORT]))).trans
    ((State.get_set_other _ _ (hstat _ rfl (by simp [F.SLOTn_STAT_SYNCED]))).trans (State.get_set_same ..))

theorem hostRequest_replays {f : RxFrame} {q : List RxFrame} {s : State} (es : List Ecc) (t : Nat) (h : Serves htREQUEST f q s)
    (hno : ¬ (hcAt f 4 4 + 2 ^ 32 - s.get (F.SLOTn_RXNEXT_SEQ (hcSlot f))) % 2 ^ 32 < 2 ^ 31) :
    ∃ u, exec (.request ⟨es, t⟩) s = .next u ∧ u.net.hostq = q
      ∧ u.get (F.SLOTn_CNT0_REPLAY (hcSlot f)) = min (s.get (F.SLOTn_CNT0_REPLAY (hcSlot f)) + 1) 65535
      ∧ KeepsFields [F.SLOTn_CNT0_REPLAY (hcSlot f)] s u ∧ KeepsStore s u := by
  have hquiet : ∀ n ≤ 3, Fd.quiet (F.SLOTn_CNT0_REPLAY n) = true := by decide
  have hq := hquiet _ (hcSlot_le h)
  refine ⟨_, exec_request_serves es t h, ?_⟩
  generalize hw : ({ s.atTime t with net := { s.net with hostq := q } } : State) = w
  have hget : ∀ g, w.get g = s.get g := by rw [← hw]; exact fun _ => rfl
  have hwq : w.net.hostq = q := by rw [← hw]
  have hst : KeepsStore s w := by rw [← hw]; exact ⟨rfl, rfl, rfl⟩
  clear hw
  rw [hostRequest_replay es (by rw [hget]; exact hno)]
  refine ⟨by rw [sumTick_net]; exact hwq, ?_, KeepsFields.sumTick (s := s) _ (KeepsFields.addSat 1 (fun g _ _ => hget g) (by simp)),
    KeepsStore.sumTick (s := s) _ hst⟩
  rw [sumTick_get _ _ hq, State.incSat, State.addSat_get, hget]
  rfl

/-- The link of slot 4 is up (R370). -/
def showPcie (w sp : Nat) (x : Bool) (s : State) : State :=
  (((s.set F.HOST_STAT_PCIE_UP 1).set F.HOST_STAT_PCIE_WIDTH w).set F.HOST_STAT_PCIE_SPEED sp).set F.HOST_STAT_MSIX_EN x.toNat

theorem showPcie_does (w sp : Nat) (x : Bool) (s : State) :
    (showPcie w sp x s).get F.HOST_STAT_PCIE_UP = 1 ∧ (showPcie w sp x s).get F.HOST_STAT_PCIE_WIDTH = w % 4
    ∧ (showPcie w sp x s).get F.HOST_STAT_PCIE_SPEED = sp % 4 ∧ (showPcie w sp x s).get F.HOST_STAT_MSIX_EN = x.toNat
    ∧ KeepsFields [F.HOST_STAT_PCIE_UP, F.HOST_STAT_PCIE_WIDTH, F.HOST_STAT_PCIE_SPEED, F.HOST_STAT_MSIX_EN] s (showPcie w sp x s)
    ∧ KeepsStore s (showPcie w sp x s) := by
  have hx : x.toNat % 2 = x.toNat := by cases x <;> rfl
  unfold showPcie
  refine ⟨?_, ?_, ?_, ?_, ((((KeepsFields.refl _ s).set 1 (by simp)).set w (by simp)).set sp (by simp)).set x.toNat (by simp),
    ⟨rfl, rfl, rfl⟩⟩
  · rw [State.get_set_other _ _ (by decide), State.get_set_other _ _ (by decide), State.get_set_other _ _ (by decide),
      State.get_set_same]
    rfl
  · rw [State.get_set_other _ _ (by decide), State.get_set_other _ _ (by decide), State.get_set_same]
    rfl
  · rw [State.get_set_other _ _ (by decide), State.get_set_same]
    rfl
  · rw [State.get_set_same]
    exact hx

end Sys2Proof.Machine

open Sys2Proof Sys2Proof.Machine

/-- Settles O51: requests and SYNC of the Host Channel, events, TUNE, slot resets and bells, and the PCIe link. -/
theorem hostRowsComplete : Obligations.HostRowsComplete := by
  unfold Obligations.HostRowsComplete
  refine ⟨?_, ?_, ?_, ?_, ?_, ?_, ?_, ?_, ?_⟩
  · rintro f q es t n s w h rfl hw
    split
    · next hok =>
      have hreq : hostRequest f es { s.atTime t with net := { s.net with hostq := q } }
          = (match hostExec (hcSlot f) (f.port, hcSa f, hcAt f 4 4) (hcBody f) es w with
              | (some b, x) => hostSend (hcSlot f) f.port (hcSa f) htRESPONSE (hostFlags htRESPONSE) (hcAt f 4 4) b x
              | (none, x) => x) := by
        rw [hw]
        exact if_pos hok
      refine ⟨_, exec_request_serves es t h, hw ▸ accepted_rxnext .., ?_⟩
      exact (congrArg (fun z => Leaves z _) hreq).mp (leaves_sumTick ..)
    · next hno => exact hostRequest_replays es t h hno
  · intro f q t s h hlen
    have hs := hcSlot_le h
    obtain ⟨h1, h2, h3⟩ := hostSync_does (s := { s.atTime t with net := { s.net with hostq := q } }) hlen hs
    have hq : ∀ n ≤ 3, Fd.quiet (F.SLOTn_RXNEXT_SEQ n) = true ∧ Fd.quiet (F.SLOTn_STAT_SYNCED n) = true
        ∧ Fd.quiet (F.SLOTn_STAT_RESETS n) = true := by decide
    obtain ⟨q1, q2, q3⟩ := hq _ hs
    exact ⟨_, exec_sync_serves t h, (sumTick_get _ _ q1).trans h1, (sumTick_get _ _ q2).trans h2, (sumTick_get _ _ q3).trans h3⟩
  · intro n t s ha hn hp hk hdue hc
    obtain ⟨h1, h2, h3⟩ := hostEvent_does (s := s.atTime t) hn hp hk hdue hc
    exact ⟨_, done_alive _ ha, (congrArg _ (slotS_congr (sumTick_host ..) n)).trans h1,
      fun h4 hm hv => by rw [sumTick_host]; exact h2 h4 hm hv, KeepsStore.sumTick (s := s) _ h3⟩
  · intro m n ack s hn h
    obtain ⟨h1, h2, h3⟩ := tune_does n ack s
    refine ⟨_, (done_alive _ h.alive :), ?_⟩
    rw [guardedV_admitted _ h, wrHOST_tune hn]
    obtain ⟨h4, h5⟩ := evtSettle_snap n (tune n ack none s)
    have hq : ∀ k < 6, Fd.quiet (F.SLOTn_TUNE_STAT_BUSY k) = true ∧ Fd.quiet (F.SLOTn_TUNE_STAT_RESULT k) = true := by decide
    obtain ⟨q1, q2⟩ := hq n hn
    have hslot : ∀ w : State, (sumTick s (w.respond m 0 false false)).slotS n = w.slotS n := fun w => slotS_congr (sumTick_host ..) n
    refine ⟨answers_sumTick .., ?_, ?_, keepsStore_sumTick _ _ _ _ (h3.trans (evtSettle_store ..))⟩
    · rw [respond_get _ _ _ _ _ _ q1, evtSettle_get, h1]
    · rw [respond_get _ _ _ _ _ _ q2, evtSettle_get, hslot, h4, h5]
      exact h2
  · intro n t s ha hn ht
    obtain ⟨h1, h2, h3, h4, h5, h6⟩ := tuneDone_does (s := s.atTime t) hn ht
    have hq : ∀ k < 6, ∀ f ∈ tuneFields k, Fd.quiet f = true := by decide
    have hqs : ∀ j, Fd.quiet (F.SLOTn_SUMMARY n j) = true := fun j => by
      simp only [Fd.quiet, sumFields, List.all_cons, List.all_nil, Bool.and_true, Bool.and_eq_true, decide_eq_true_eq]
      simp only [Fd.key, F.SLOTn_SUMMARY, A.SLOTn_SUMMARY, F.HOST_SUMGEN_HI_GEN, F.HOST_SUMGEN_LO_GEN, A.HOST_SUMGEN_HI, A.HOST_SUMGEN_LO,
        F.SLOTn_EVT_EVT, A.SLOTn_EVT]
      omega
    refine ⟨_, done_alive _ ha, (sumTick_get _ _ (hq n hn _ (by simp [tuneFields]))).trans h1,
      (sumTick_get _ _ (hq n hn _ (by simp [tuneFields]))).trans h2, (sumTick_get _ _ (hq n hn _ (by simp [tuneFields]))).trans h3,
      (sumTick_get _ _ (hq n hn _ (by simp [tuneFields]))).trans h4, fun j hj => (sumTick_get _ _ (hqs j)).trans (h5 j hj),
      KeepsStore.sumTick (s := s) _ h6⟩
  · intro m n v s hn h
    refine ⟨_, (done_alive _ h.alive :), ?_⟩
    rw [guardedV_admitted _ h]
    obtain ⟨h1, h2, h3, h4, h5⟩ := wrSlotCtrl_kick (v := v) hn s rfl
    have hq : ∀ k < 6, Fd.quiet (F.SLOTn_CTRL_EN k) = true ∧ Fd.quiet (F.SLOTn_STAT_RESETS k) = true
        ∧ Fd.quiet (F.SLOTn_EVT_EN_EN k) = true ∧ Fd.quiet (F.SLOTn_TUNE_STAT_BUSY k) = true := by decide
    obtain ⟨q1, q2, q3, q4⟩ := hq n hn
    exact ⟨answers_sumTick .., (respond_get _ _ _ _ _ _ q1).trans h1, (respond_get _ _ _ _ _ _ q2).trans h2,
      (respond_get _ _ _ _ _ _ q3).trans h3, (respond_get _ _ _ _ _ _ q4).trans h4, (slotS_congr (sumTick_host ..) n).trans h5⟩
  · intro m n s hn
    refine ⟨fun h => ?_, bellOut_sets hn⟩
    obtain ⟨u, hu, hans, hbit, -, hf, hst⟩ := bellIn_sets hn h
    exact ⟨u, hu, hans, hbit, hf, hst⟩
  · intro t down s ha
    obtain ⟨h1, h2, h3, h4, h5⟩ := endPcie_does down
      (slotReset 4 (if down && (s.atTime t).on F.HOST_STAT_PCIE_UP then raiseF 114 0 (s.atTime t) else s.atTime t))
    refine ⟨_, done_alive _ ha, (sumTick_get _ _ (by decide)).trans h1, (by rw [sumTick_host]; exact h2),
      (by rw [sumTick_host]; exact h3), fun hd => (sumTick_get _ _ (by decide)).trans (h4 hd), fun hd => ?_⟩
    refine (sumTick_get _ _ (by decide)).trans ((h5 hd).trans ((slotReset_resets 4 _).trans ?_))
    rw [hd]
    rfl
  · intro w sp t x s ha hd
    obtain ⟨h1, h2, h3, h4, h5, h6⟩ := showPcie_does w sp x (s.atTime t)
    refine ⟨_, done_alive _ ha, ?_⟩
    rw [if_neg (Nat.not_lt.2 hd), ← showPcie]
    exact ⟨(sumTick_get _ _ (by decide)).trans h1, (sumTick_get _ _ (by decide)).trans h2, (sumTick_get _ _ (by decide)).trans h3,
      (sumTick_get _ _ (by decide)).trans h4, KeepsFields.sumTick (s := s) _ h5, KeepsStore.sumTick (s := s) _ h6⟩
end

section
/-!
OPTICAL MODULES. Insertion, the read of the identification, removal, the diagnostic poll and software's own transfers.
-/
namespace Sys2Proof.Machine

/-! ## Events of a port -/

theorem netEvt_get {p b : Nat} {f g : Fd} (s : State) (h : Fd.key g ≠ Fd.key f) : (netEvt p b f s).get g = s.get g := by
  unfold netEvt
  split
  · exact State.get_set_other s _ h
  · rfl

theorem fieldsOnly_netEvt (p b : Nat) (f : Fd) (s : State) : FieldsOnly s (netEvt p b f s) := by
  unfold netEvt
  exact FieldsOnly.ite ((FieldsOnly.refl s).setBit ..) (.refl s)

theorem portS_setPort (p : Nat) (x : PortS) (s : State) : (s.setPort p x).portS p = x := by
  rw [State.portS, State.setPort, mget_mset_same]

theorem get_setPort (p : Nat) (x : PortS) (s : State) (f : Fd) : (s.setPort p x).get f = s.get f := rfl

theorem portS_congr {s w : State} (h : w.net = s.net) (p : Nat) : w.portS p = s.portS p := by
  rw [State.portS, h]
  rfl

theorem linkDown_notUp {p : Nat} {s : State} (h : s.lstate p ≠ lsUP) : linkDown p s = s := by
  unfold linkDown
  exact if_neg (by rw [State.portUp]; simpa using h)

/-! ## Insertion and identification (R171) -/

theorem samplePins_shows {p : Nat} (hp : p < 5) (los txf : Bool) (s : State) :
    (samplePins p los txf s).get (F.SFP_STAT_LOS p) = los.toNat ∧ (samplePins p los txf s).get (F.SFP_STAT_TX_FAULT p) = txf.toNat
    ∧ FieldsOnly s (samplePins p los txf s)
    ∧ KeepsFields [F.SFP_STAT_LOS p, F.SFP_STAT_TX_FAULT p] s (samplePins p los txf s) := by
  have hk : ∀ q < 5, Fd.key (F.SFP_STAT_LOS q) ≠ Fd.key (F.SFP_STAT_TX_FAULT q) := by decide
  have hb : ∀ b : Bool, b.toNat % 2 = b.toNat := by decide
  unfold samplePins
  refine ⟨?_, ?_, ((FieldsOnly.refl s).set _ _).set _ _, ((KeepsFields.refl _ s).set _ (by simp)).set _ (by simp)⟩
  · rw [State.get_set_other _ _ (hk p hp), State.get_set_same]
    exact hb los
  · rw [State.get_set_same]
    exact hb txf

/-- The instant of an insertion is noted. -/
def insertAt (p : Nat) (s : State) : State := s.setPort p { s.portS p with insert := s.now }

/-- What an insertion shows where no module stood. -/
theorem moduleInsert_does {p : Nat} (hp : p < 5) (los txf : Bool) {t : Nat} {s : State} (h : s.get (F.SFP_STAT_PRESENT p) = 0) :
    ∃ w, exec (.moduleInsert p los txf t) s = done s w ∧ w.get (F.SFP_STAT_PRESENT p) = 1 ∧ w.get (F.SFP_STAT_LOS p) = los.toNat
      ∧ w.get (F.SFP_STAT_TX_FAULT p) = txf.toNat ∧ (w.portS p).insert = max s.now t
      ∧ KeepsFields [F.SFP_STAT_PRESENT p, F.SFP_STAT_LOS p, F.SFP_STAT_TX_FAULT p] s w ∧ KeepsStore s w := by
  have hk : ∀ q < 5, Fd.quiet (F.SFP_STAT_PRESENT q) = true
      ∧ ∀ g ∈ [F.SFP_STAT_LOS q, F.SFP_STAT_TX_FAULT q], Fd.key (F.SFP_STAT_PRESENT q) ≠ Fd.key g := by decide
  obtain ⟨k1, k2⟩ := hk p hp
  obtain ⟨hlos, htxf, honly, hkeep⟩ := samplePins_shows hp los txf ((s.atTime t).set (F.SFP_STAT_PRESENT p) 1)
  have hx : exec (.moduleInsert p los txf t) s = done s (insertAt p (samplePins p los txf ((s.atTime t).set (F.SFP_STAT_PRESENT p) 1))) := by
    refine (show exec (.moduleInsert p los txf t) s = execModuleInsert p los txf t s from rfl).trans ?_
    unfold execModuleInsert
    exact if_neg (by rw [State.on, State.get_atTime, h]; decide)
  have hnow : (samplePins p los txf ((s.atTime t).set (F.SFP_STAT_PRESENT p) 1)).now = max s.now t := rfl
  have hpres := (hkeep _ k1 k2).trans (State.get_set_same (s.atTime t) (F.SFP_STAT_PRESENT p) 1)
  have hfirst : KeepsFields [F.SFP_STAT_PRESENT p, F.SFP_STAT_LOS p, F.SFP_STAT_TX_FAULT p] s ((s.atTime t).set (F.SFP_STAT_PRESENT p) 1) :=
    (KeepsFields.of_fld (w := s.atTime t) _ rfl).set 1 (by simp)
  have hstore : KeepsStore s ((s.atTime t).set (F.SFP_STAT_PRESENT p) 1) := ⟨rfl, rfl, rfl⟩
  have hall := hfirst.trans (hkeep.mono (gs := [F.SFP_STAT_PRESENT p, F.SFP_STAT_LOS p, F.SFP_STAT_TX_FAULT p])
    fun f hf => List.mem_cons_of_mem _ hf)
  have hst := hstore.trans honly.keepsStore
  generalize samplePins p los txf ((s.atTime t).set (F.SFP_STAT_PRESENT p) 1) = x at *
  exact ⟨_, hx, hpres, hlos, htxf, (congrArg PortS.insert (portS_setPort ..)).trans hnow, hall.congr rfl, hst⟩

/-- The words of the identification, as they are written. -/
def putId (p : Nat) (g : Nat → Nat) (s : State) : State := (List.range 24).foldl (fun u w => u.set (F.SFP_ID_BYTES p w) (g w)) s

theorem key_sfpId {p i j : Nat} (h : i ≠ j) : Fd.key (F.SFP_ID_BYTES p i) ≠ Fd.key (F.SFP_ID_BYTES p j) := by
  simp only [Fd.key, F.SFP_ID_BYTES, A.SFP_ID]
  omega

theorem putId_get {p w : Nat} (g : Nat → Nat) (hw : w < 24) (s : State) : (putId p g s).get (F.SFP_ID_BYTES p w) = g w % 2 ^ 32 := by
  have h := foldl_set_get (g := g) (r := F.SFP_ID_BYTES p) (fun _ _ => key_sfpId) ((List.range 24).map fun i => (g i, i)) w
    (fun e he => by
      obtain ⟨i, -, rfl⟩ := List.mem_map.1 he
      rfl) s (.inl (by rw [List.map_map]; exact List.mem_map.2 ⟨w, List.mem_range.2 hw, rfl⟩))
  rw [List.foldl_map] at h
  exact h

theorem fieldsOnly_putId (p : Nat) (g : Nat → Nat) (s : State) : FieldsOnly s (putId p g s) :=
  FieldsOnly.foldl _ _ (.refl s) fun _ u => (FieldsOnly.refl u).set _ _

theorem putId_get_other {p : Nat} {f : Fd} (g : Nat → Nat) (s : State) (h : ∀ w < 24, Fd.key f ≠ Fd.key (F.SFP_ID_BYTES p w)) :
    (putId p g s).get f = s.get f :=
  foldl_keeps (fun u => u.get f) _ _ _ fun w hw u => State.get_set_other u _ (h w (List.mem_range.1 hw))

theorem moduleId_does {p w : Nat} {bs : List Byte} {s : State} (hp : p < 5) (hw : w < 24) (h1 : s.get (F.SFP_STAT_PRESENT p) = 1)
    (h2 : s.get (F.SFP_STAT_ID_VALID p) = 0) (h3 : (s.portS p).insert + 300 * uMs ≤ s.now) (h4 : s.i2cOwn p = false) :
    (moduleId p bs s).get (F.SFP_STAT_ID_VALID p) = 1 ∧ (moduleId p bs s).get (F.SFP_STAT_INSERT p) = 1
    ∧ (moduleId p bs s).get (F.SFP_ID_BYTES p w) = leNat ((bs.drop (4 * w)).take 4) ∧ KeepsStore s (moduleId p bs s) := by
  have hk : ∀ q < 5, (∀ f ∈ [F.SFP_STAT_ID_VALID q, F.SFP_STAT_INSERT q], Fd.key f ≠ Fd.key (F.NET_EVT_SFP q))
      ∧ Fd.key (F.SFP_STAT_ID_VALID q) ≠ Fd.key (F.SFP_STAT_INSERT q)
      ∧ ∀ j < 24, Fd.key (F.SFP_ID_BYTES q j) ≠ Fd.key (F.NET_EVT_SFP q) ∧ Fd.key (F.SFP_ID_BYTES q j) ≠ Fd.key (F.SFP_STAT_INSERT q)
        ∧ Fd.key (F.SFP_ID_BYTES q j) ≠ Fd.key (F.SFP_STAT_ID_VALID q) := by decide
  obtain ⟨hevt, hvi, hid⟩ := hk p hp
  obtain ⟨i1, i2, i3⟩ := hid w hw
  have hdue : (s.idDue p && !s.i2cOwn p) = true := by
    rw [h4, State.idDue, State.on, State.on, h1, h2, decide_eq_true h3]
    rfl
  have hlt : leNat ((bs.drop (4 * w)).take 4) % 2 ^ 32 = leNat ((bs.drop (4 * w)).take 4) := by
    refine Nat.mod_eq_of_lt (lt_of_lt_of_le (leNat_lt _) (Nat.pow_le_pow_right (by decide) ?_))
    have := List.length_take_le 4 (bs.drop (4 * w))
    omega
  unfold moduleId
  rw [if_pos hdue]
  extract_lets s1 s2
  have hs2 : s2 = putId p (fun w => leNat ((bs.drop (4 * w)).take 4)) s1 := rfl
  have hst : KeepsStore s s2 := KeepsStore.trans (w := s1) ⟨rfl, rfl, rfl⟩ (hs2 ▸ (fieldsOnly_putId ..).keepsStore)
  have hget := hs2 ▸ putId_get (p := p) (fun w => leNat ((bs.drop (4 * w)).take 4)) hw s1
  clear_value s2
  refine ⟨?_, ?_, ?_, hst.trans ((((FieldsOnly.refl s2).set (F.SFP_STAT_ID_VALID p) 1).set (F.SFP_STAT_INSERT p) 1).trans
    (fieldsOnly_netEvt ..)).keepsStore⟩
  · rw [sfpEvt, netEvt_get _ (hevt _ (by simp)), State.get_set_other _ _ hvi, State.get_set_same]
    rfl
  · rw [sfpEvt, netEvt_get _ (hevt _ (by simp)), State.get_set_same]
    rfl
  · rw [sfpEvt, netEvt_get _ i1, State.get_set_other _ _ i2, State.get_set_other _ _ i3, hget, hlt]

/-- What a removal shows where the link is not up. -/
theorem moduleRemove_does {p : Nat} {s : State} (hp : p < 5) (h1 : s.get (F.SFP_STAT_PRESENT p) = 1) (h2 : s.lstate p ≠ lsUP) :
    (moduleRemove p s).get (F.SFP_STAT_PRESENT p) = 0 ∧ (moduleRemove p s).get (F.SFP_STAT_ID_VALID p) = 0
    ∧ (moduleRemove p s).get (F.SFP_STAT_DDM_VALID p) = 0 ∧ (moduleRemove p s).get (F.SFP_STAT_REMOVE p) = 1
    ∧ (moduleRemove p s).get (F.SFP_ID_BYTES p 0) = 0 ∧ KeepsStore s (moduleRemove p s) := by
  have hk : ∀ q < 5, (∀ f ∈ [F.SFP_STAT_PRESENT q, F.SFP_STAT_ID_VALID q, F.SFP_STAT_DDM_VALID q, F.SFP_STAT_REMOVE q, F.NET_STAT_LSTATE q],
        Fd.key f ≠ Fd.key (F.NET_EVT_SFP q) ∧ ∀ j < 24, Fd.key f ≠ Fd.key (F.SFP_ID_BYTES q j))
      ∧ (∀ f ∈ [F.SFP_STAT_PRESENT q, F.SFP_STAT_ID_VALID q, F.SFP_STAT_DDM_VALID q, F.NET_STAT_LSTATE q, F.SFP_ID_BYTES q 0],
        Fd.key f ≠ Fd.key (F.SFP_STAT_REMOVE q))
      ∧ (∀ f ∈ [F.SFP_STAT_PRESENT q, F.SFP_STAT_ID_VALID q, F.NET_STAT_LSTATE q], Fd.key f ≠ Fd.key (F.SFP_STAT_DDM_VALID q))
      ∧ (∀ f ∈ [F.SFP_STAT_PRESENT q, F.NET_STAT_LSTATE q], Fd.key f ≠ Fd.key (F.SFP_STAT_ID_VALID q))
      ∧ Fd.key (F.NET_STAT_LSTATE q) ≠ Fd.key (F.SFP_STAT_PRESENT q)
      ∧ Fd.key (F.SFP_ID_BYTES q 0) ≠ Fd.key (F.NET_EVT_SFP q) := by decide
  obtain ⟨k1, k2, k3, k4, k5, k6⟩ := hk p hp
  unfold moduleRemove
  rw [if_neg (by rw [State.on, h1]; decide)]
  extract_lets s1 s2
  have hs2 : s2 = putId p (fun _ => 0) s1 := rfl
  have hother : ∀ f ∈ [F.SFP_STAT_PRESENT p, F.SFP_STAT_ID_VALID p, F.SFP_STAT_DDM_VALID p, F.SFP_STAT_REMOVE p, F.NET_STAT_LSTATE p],
      s2.get f = s1.get f := fun f hf => hs2 ▸ putId_get_other (fun _ => 0) s1 (k1 f hf).2
  have hid : s2.get (F.SFP_ID_BYTES p 0) = 0 := hs2 ▸ putId_get (p := p) (fun _ => 0) (by decide) s1
  have hst : KeepsStore s s2 := KeepsStore.trans (w := s1) ⟨rfl, rfl, rfl⟩ (hs2 ▸ (fieldsOnly_putId ..).keepsStore)
  clear_value s2
  generalize hw : sfpEvt p (s2.set (F.SFP_STAT_REMOVE p) 1) = w
  have hget : ∀ f, Fd.key f ≠ Fd.key (F.NET_EVT_SFP p) → w.get f = (s2.set (F.SFP_STAT_REMOVE p) 1).get f := fun f hf => by
    rw [← hw]
    exact netEvt_get _ hf
  have hst2 : KeepsStore s w := hw ▸ hst.trans (((FieldsOnly.refl s2).set (F.SFP_STAT_REMOVE p) 1).trans (fieldsOnly_netEvt ..)).keepsStore
  have hup : w.lstate p ≠ lsUP := by
    rw [State.lstate, hget _ (k1 _ (by simp)).1, State.get_set_other _ _ (k2 _ (by simp)), hother _ (by simp),
      State.get_set_other _ _ (k3 _ (by simp)), State.get_set_other _ _ (k4 _ (by simp)), State.get_set_other _ _ k5]
    exact h2
  rw [linkDown_notUp hup]
  refine ⟨?_, ?_, ?_, ?_, ?_, hst2⟩
  · rw [hget _ (k1 _ (by simp)).1, State.get_set_other _ _ (k2 _ (by simp)), hother _ (by simp), State.get_set_other _ _ (k3 _ (by simp)),
      State.get_set_other _ _ (k4 _ (by simp)), State.get_set_same]
    rfl
  · rw [hget _ (k1 _ (by simp)).1, State.get_set_other _ _ (k2 _ (by simp)), hother _ (by simp), State.get_set_other _ _ (k3 _ (by simp)),
      State.get_set_same]
    rfl
  · rw [hget _ (k1 _ (by simp)).1, State.get_set_other _ _ (k2 _ (by simp)), hother _ (by simp), State.get_set_same]
    rfl
  · rw [hget _ (k1 _ (by simp)).1, State.get_set_same]
    rfl
  · rw [hget _ k6, State.get_set_other _ _ (k2 _ (by simp)), hid]

/-! ## The diagnostic poll -/

theorem beNat_lt (l : List Byte) : beNat l < 2 ^ (8 * l.length) := by
  have h : ∀ (l : List Byte) (a k : Nat), a < 2 ^ k → l.foldl (fun a b => a * 256 + b.toNat) a < 2 ^ (k + 8 * l.length) := by
    intro l
    induction l with
    | nil => intro a k ha; simpa using ha
    | cons b l ih =>
      intro a k ha
      have hb : b.toNat < 256 := b.isLt
      have := ih (a * 256 + b.toNat) (k + 8) (by rw [Nat.pow_add]; omega)
      rw [List.foldl_cons, List.length_cons, show k + 8 * (l.length + 1) = k + 8 + 8 * l.length by omega]
      exact this
  simpa [beNat] using h l 0 0 (by decide)

theorem beNat_two (l : List Byte) : beNat (l.take 2) % 2 ^ 16 = beNat (l.take 2) := by
  refine Nat.mod_eq_of_lt (lt_of_lt_of_le (beNat_lt _) (Nat.pow_le_pow_right (by decide) ?_))
  have := List.length_take_le 2 l
  omega

theorem ddmPoll_does {p : Nat} {bs : List Byte} {s : State} (hp : p < 5) (h1 : s.pollDue p = true) (h2 : s.i2cOwn p = false) :
    (ddmPoll p bs s).get (F.SFP_STAT_LOS p) = s.get (F.SFP_STAT_LOS p)
    ∧ (ddmPoll p bs s).get (F.SFP_STAT_TX_FAULT p) = s.get (F.SFP_STAT_TX_FAULT p)
    ∧ (ddmPoll p bs s).get (F.SFP_STAT_DDM_VALID p) = 1 ∧ (ddmPoll p bs s).get (F.SFP_DDM0_TEMP p) = beNat (bs.take 2)
    ∧ (ddmPoll p bs s).get (F.SFP_DDM2_RXPWR p) = beNat ((bs.drop 8).take 2) ∧ KeepsStore s (ddmPoll p bs s) := by
  have hk : ∀ q < 5, (∀ f ∈ [F.SFP_STAT_LOS q, F.SFP_STAT_TX_FAULT q], ∀ g ∈ [F.SFP_STAT_DDM_VALID q, F.SFP_DDM2_RXPWR q, F.SFP_DDM1_TXPWR q,
        F.SFP_DDM1_TXBIAS q, F.SFP_DDM0_VCC q, F.SFP_DDM0_TEMP q], Fd.key f ≠ Fd.key g)
      ∧ (∀ g ∈ [F.SFP_STAT_DDM_VALID q, F.SFP_DDM2_RXPWR q, F.SFP_DDM1_TXPWR q, F.SFP_DDM1_TXBIAS q, F.SFP_DDM0_VCC q],
        Fd.key (F.SFP_DDM0_TEMP q) ≠ Fd.key g)
      ∧ Fd.key (F.SFP_DDM2_RXPWR q) ≠ Fd.key (F.SFP_STAT_DDM_VALID q) := by decide
  obtain ⟨k1, k2, k3⟩ := hk p hp
  unfold ddmPoll
  rw [if_pos (by rw [h1, h2]; rfl)]
  extract_lets w s1 s2
  have hget : ∀ f, s2.get f = s.get f := fun _ => rfl
  have hst : KeepsStore s s2 := ⟨rfl, rfl, rfl⟩
  clear_value s2
  refine ⟨?_, ?_, ?_, ?_, ?_, hst.trans (((((((FieldsOnly.refl s2).set _ _).set _ _).set _ _).set _ _).set _ _).set _ _).keepsStore⟩
  · rw [State.get_set_other _ _ (k1 _ (by simp) _ (by simp)), State.get_set_other _ _ (k1 _ (by simp) _ (by simp)), State.get_set_other _ _ (k1 _ (by simp) _ (by simp)),
      State.get_set_other _ _ (k1 _ (by simp) _ (by simp)), State.get_set_other _ _ (k1 _ (by simp) _ (by simp)), State.get_set_other _ _ (k1 _ (by simp) _ (by simp)), hget]
  · rw [State.get_set_other _ _ (k1 _ (by simp) _ (by simp)), State.get_set_other _ _ (k1 _ (by simp) _ (by simp)), State.get_set_other _ _ (k1 _ (by simp) _ (by simp)),
      State.get_set_other _ _ (k1 _ (by simp) _ (by simp)), State.get_set_other _ _ (k1 _ (by simp) _ (by simp)), State.get_set_other _ _ (k1 _ (by simp) _ (by simp)), hget]
  · rw [State.get_set_same]
    rfl
  · rw [State.get_set_other _ _ (k2 _ (by simp)), State.get_set_other _ _ (k2 _ (by simp)), State.get_set_other _ _ (k2 _ (by simp)),
      State.get_set_other _ _ (k2 _ (by simp)), State.get_set_other _ _ (k2 _ (by simp)), State.get_set_same]
    exact beNat_two bs
  · rw [State.get_set_other _ _ k3, State.get_set_same]
    exact beNat_two (bs.drop 8)

/-- A poll that is due, of a module whose loss of signal takes no link down. -/
theorem ddmRow_does {p : Nat} {bs : List Byte} {los txf : Bool} {s : State} (hp : p < 5) (h1 : s.pollDue p = true) (h2 : s.i2cOwn p = false)
    (h3 : los = false ∨ s.portUp p = false) {w : State}
    (hw : w = ddmPoll p bs (if los then linkDown p (samplePins p los txf s) else samplePins p los txf s)) :
    w.get (F.SFP_STAT_LOS p) = los.toNat ∧ w.get (F.SFP_STAT_TX_FAULT p) = txf.toNat ∧ w.get (F.SFP_STAT_DDM_VALID p) = 1
    ∧ w.get (F.SFP_DDM0_TEMP p) = beNat (bs.take 2) ∧ w.get (F.SFP_DDM2_RXPWR p) = beNat ((bs.drop 8).take 2) ∧ KeepsStore s w := by
  have hk : ∀ q < 5, ∀ f ∈ [F.SFP_CTRL_POLL_EN q, F.SFP_STAT_ID_VALID q, F.SFP_ID_BYTES q 23, F.SFP_CMD_BUSY q, F.NET_STAT_LSTATE q],
      Fd.quiet f = true ∧ ∀ g ∈ [F.SFP_STAT_LOS q, F.SFP_STAT_TX_FAULT q], Fd.key f ≠ Fd.key g := by decide
  obtain ⟨hlos, htxf, honly, hkeep⟩ := samplePins_shows hp los txf s
  have hsame : ∀ f ∈ [F.SFP_CTRL_POLL_EN p, F.SFP_STAT_ID_VALID p, F.SFP_ID_BYTES p 23, F.SFP_CMD_BUSY p, F.NET_STAT_LSTATE p],
      (samplePins p los txf s).get f = s.get f := fun f hf => hkeep f (hk p hp f hf).1 (hk p hp f hf).2
  have hport : (samplePins p los txf s).portS p = s.portS p := portS_congr honly.net p
  have hnow : (samplePins p los txf s).now = s.now := rfl
  generalize samplePins p los txf s = x at hlos htxf honly hsame hport hnow hw
  have hdown : (if los then linkDown p x else x) = x := by
    split
    · next hl =>
      refine linkDown_notUp fun e => ?_
      rw [State.lstate, hsame _ (by simp)] at e
      have hup := h3.resolve_left (by rw [hl]; decide)
      rw [State.portUp, State.lstate, e] at hup
      exact absurd hup (by decide)
    · rfl
  rw [hdown] at hw
  subst hw
  have hpoll : x.pollDue p = true := by
    rw [← h1]
    simp only [State.pollDue, State.on, hsame _ (by simp : F.SFP_CTRL_POLL_EN p ∈ _), hsame _ (by simp : F.SFP_STAT_ID_VALID p ∈ _),
      hsame _ (by simp : F.SFP_ID_BYTES p 23 ∈ _), hport, hnow]
  have hown : x.i2cOwn p = false := by
    rw [← h2]
    simp only [State.i2cOwn, State.on, hsame _ (by simp : F.SFP_CMD_BUSY p ∈ _), hport]
  obtain ⟨g1, g2, g3, g4, g5, g6⟩ := ddmPoll_does (bs := bs) hp hpoll hown
  exact ⟨g1.trans hlos, g2.trans htxf, g3, g4, g5, honly.keepsStore.trans g6⟩

/-! ## Transfers of software's own (R172) -/

/-- A command written while none runs. -/
theorem wrSfpCmd_does {p v : Nat} {s : State} (hv : bitOf v 31 = true) (hb : s.get (F.SFP_CMD_BUSY p) = 0) :
    (wrSfpCmd p v s).get (F.SFP_CMD_BUSY p) = 1 ∧ ((wrSfpCmd p v s).portS p).i2c = v
    ∧ KeepsFields [F.SFP_CMD_BUSY p] s (wrSfpCmd p v s) ∧ KeepsStore s (wrSfpCmd p v s) := by
  unfold wrSfpCmd
  rw [if_pos (by rw [hv, State.on, hb]; rfl)]
  exact ⟨State.get_set_same s _ 1, congrArg PortS.i2c (portS_setPort ..),
    KeepsFields.congr (w := s.set (F.SFP_CMD_BUSY p) 1) ((KeepsFields.refl _ s).set _ (by simp)) rfl, ⟨rfl, rfl, rfl⟩⟩

/-- The word of a command has its operands in their places. -/
theorem sfpWord_bits (c dev ofs len : Nat) (hc : c < 2) {v : Nat}
    (hv : v = 2 ^ 31 + c * 2 ^ 30 + len % 4 * 2 ^ 24 + dev % 128 * 2 ^ 17 + ofs % 256) :
    bitOf v 31 = true ∧ bitOf v 30 = (c == 1) ∧ bits 23 17 v = dev % 128 ∧ bits 7 0 v = ofs % 256 := by
  have hd : dev % 128 < 128 := Nat.mod_lt _ (by decide)
  have ho : ofs % 256 < 256 := Nat.mod_lt _ (by decide)
  have hl : len % 4 < 4 := Nat.mod_lt _ (by decide)
  generalize dev % 128 = d at *
  generalize ofs % 256 = o at *
  generalize len % 4 = l at *
  refine ⟨?_, ?_, ?_, ?_⟩
  · rw [bitOf, beq_iff_eq]
    omega
  · rw [bitOf, show v / 2 ^ 30 % 2 = c by omega]
  · rw [bits]
    omega
  · rw [bits]
    omega

/-- A transfer that ends. -/
theorem sfpDone_does {p data : Nat} {ack : Bool} {s : State} (hp : p < 5) (hb : s.get (F.SFP_CMD_BUSY p) = 1)
    (hrun : (s.portS p).i2cRun = true ∨ (s.idDue p = false ∧ s.pollDue p = false)) :
    (sfpDone p ack data s).get (F.SFP_CMD_BUSY p) = 0
    ∧ (ack = false ∨ s.get (F.SFP_STAT_PRESENT p) = 0 → (sfpDone p ack data s).get (F.SFP_STAT_NACK p) = 1)
    ∧ (ack = true → s.get (F.SFP_STAT_PRESENT p) = 1 → bitOf (s.portS p).i2c 30 = false → bits 25 24 (s.portS p).i2c = 3 →
        (sfpDone p ack data s).get (F.SFP_DATA_DATA p) = data % 2 ^ 32)
    ∧ KeepsStore s (sfpDone p ack data s) := by
  have hk : ∀ q < 5, (∀ f ∈ [F.SFP_CMD_BUSY q, F.SFP_STAT_NACK q], Fd.key f ≠ Fd.key (F.NET_EVT_SFP q))
      ∧ Fd.key (F.SFP_CMD_BUSY q) ≠ Fd.key (F.SFP_STAT_NACK q) ∧ Fd.key (F.SFP_CMD_BUSY q) ≠ Fd.key (F.SFP_DATA_DATA q)
      ∧ Fd.key (F.SFP_STAT_PRESENT q) ≠ Fd.key (F.SFP_CMD_BUSY q) := by decide
  obtain ⟨k1, k2, k3, k4⟩ := hk p hp
  have hgo : (!s.on (F.SFP_CMD_BUSY p) || (!(s.portS p).i2cRun && (s.idDue p || s.pollDue p))) = false := by
    rw [State.on, hb]
    rcases hrun with h | ⟨h, h'⟩
    · rw [h]; rfl
    · rw [h, h', Bool.or_false, Bool.and_false]; rfl
  unfold sfpDone
  rw [if_neg (by rw [hgo]; decide)]
  extract_lets c s1 k old
  have hpres : s1.on (F.SFP_STAT_PRESENT p) = s.on (F.SFP_STAT_PRESENT p) := by rw [State.on, State.get_set_other _ _ k4, State.on]
  have hbusy : s1.get (F.SFP_CMD_BUSY p) = 0 := State.get_set_same s _ 0
  have hst : FieldsOnly s s1 := (FieldsOnly.refl s).set _ _
  clear_value s1
  rw [hpres]
  split
  · next hn =>
    refine ⟨?_, fun _ => ?_, fun ha hpr => ?_, (hst.trans (((FieldsOnly.refl s1).set _ _).trans (fieldsOnly_netEvt ..))).keepsStore⟩
    · rw [sfpEvt, netEvt_get _ (k1 _ (by simp)), State.get_set_other _ _ k2, hbusy]
    · rw [sfpEvt, netEvt_get _ (k1 _ (by simp)), State.get_set_same]
      rfl
    · rw [ha, State.on, hpr] at hn
      exact absurd hn (by decide)
  · next hn =>
    have hne : ¬ (ack = false ∨ s.get (F.SFP_STAT_PRESENT p) = 0) := by
      rintro (h | h)
      · exact hn (by rw [h]; rfl)
      · exact hn (by rw [State.on, h, Bool.or_eq_true]; exact .inr rfl)
    split
    · next hw => exact ⟨hbusy, fun h => absurd h hne, fun _ _ h => absurd hw (by rw [h]; decide), hst.keepsStore⟩
    · refine ⟨?_, fun h => absurd h hne, fun _ _ _ hlen => ?_, (hst.set _ _).keepsStore⟩
      · rw [State.get_set_other _ _ k3, hbusy]
      · have hkk : k = 2 ^ 32 := by simp only [k, c, hlen]; rfl
        rw [State.get_set_same, hkk]
        show (old / 2 ^ 32 * 2 ^ 32 + data % 2 ^ 32) % 2 ^ 32 = data % 2 ^ 32
        omega

end Sys2Proof.Machine

open Sys2Proof Sys2Proof.Machine

/-- Settles O42: modules inserted, read, removed and polled, and software's transfers to them. -/
theorem moduleRowsComplete : Obligations.ModuleRowsComplete := by
  unfold Obligations.ModuleRowsComplete
  have hq : ∀ q < 5, ∀ f ∈ [F.SFP_STAT_PRESENT q, F.SFP_STAT_LOS q, F.SFP_STAT_TX_FAULT q, F.SFP_STAT_ID_VALID q, F.SFP_STAT_INSERT q,
      F.SFP_STAT_DDM_VALID q, F.SFP_STAT_REMOVE q, F.SFP_STAT_NACK q, F.SFP_CMD_BUSY q, F.SFP_DATA_DATA q, F.SFP_DDM0_TEMP q,
      F.SFP_DDM2_RXPWR q], Fd.quiet f = true := by decide
  have hqid : ∀ q < 5, ∀ w < 24, Fd.quiet (F.SFP_ID_BYTES q w) = true := by decide
  refine ⟨?_, ?_, ?_, ?_, ?_, ?_⟩
  · intro p t los txf s ha hp h1
    obtain ⟨w, g1, g2, g3, g4, g5, g6⟩ := moduleInsert_does hp los txf (t := t) h1
    refine ⟨_, g1.trans (done_alive _ ha), (sumTick_get _ _ (hq p hp _ (by simp))).trans g2,
      (sumTick_get _ _ (hq p hp _ (by simp))).trans g3, (sumTick_get _ _ (hq p hp _ (by simp))).trans g4,
      (congrArg PortS.insert (portS_congr (sumTick_net ..) p)).trans g5,
      KeepsFields.sumTick (s := s) _ g6.1, KeepsStore.sumTick (s := s) _ g6.2⟩
  · intro p t w bs s ha hp hw h1 h2 h3 h4
    obtain ⟨g1, g2, g3, g4⟩ := moduleId_does (bs := bs) (s := s.atTime t) hp hw h1 h2 h3 h4
    exact ⟨_, done_alive _ ha, (sumTick_get _ _ (hq p hp _ (by simp))).trans g1, (sumTick_get _ _ (hq p hp _ (by simp))).trans g2,
      (sumTick_get _ _ (hqid p hp w hw)).trans g3, KeepsStore.sumTick (s := s) _ g4⟩
  · intro p t s ha hp h1
    refine ⟨_, done_alive _ ha, leaves_sumTick .., fun h2 => ?_⟩
    obtain ⟨g1, g2, g3, g4, g5, g6⟩ := moduleRemove_does (s := s.atTime t) hp h1 h2
    exact ⟨(sumTick_get _ _ (hq p hp _ (by simp))).trans g1, (sumTick_get _ _ (hq p hp _ (by simp))).trans g2,
      (sumTick_get _ _ (hq p hp _ (by simp))).trans g3, (sumTick_get _ _ (hq p hp _ (by simp))).trans g4,
      (sumTick_get _ _ (hqid p hp 0 (by decide))).trans g5, KeepsStore.sumTick (s := s) _ g6⟩
  · intro p t bs los txf s ha hp h1 h2 h3 h4 h5 h6
    have hdue : (s.atTime t).pollDue p = true := by
      rw [State.pollDue, State.on, State.on, State.get_atTime, State.get_atTime, State.get_atTime, h1, h2, h3,
        decide_eq_true (show ((s.atTime t).portS p).poll ≤ (s.atTime t).now from h4)]
      rfl
    obtain ⟨g1, g2, g3, g4, g5, g6⟩ := ddmRow_does (bs := bs) (txf := txf) (s := s.atTime t) hp hdue h5 h6 rfl
    exact ⟨_, done_alive _ ha, (sumTick_get _ _ (hq p hp _ (by simp))).trans g1, (sumTick_get _ _ (hq p hp _ (by simp))).trans g2,
      (sumTick_get _ _ (hq p hp _ (by simp))).trans g3, (sumTick_get _ _ (hq p hp _ (by simp))).trans g4,
      (sumTick_get _ _ (hq p hp _ (by simp))).trans g5, KeepsStore.sumTick (s := s) _ g6⟩
  · intro m p dev ofs len s hp h hb
    have hrow : ∀ c < 2, ∀ v, v = 2 ^ 31 + c * 2 ^ 30 + len % 4 * 2 ^ 24 + dev % 128 * 2 ^ 17 + ofs % 256 →
        ∃ u, done s (guarded m (A.SFP_CMD p) (wrSfpCmd p v) s) = .next u ∧ Answers m u ∧ u.get (F.SFP_CMD_BUSY p) = 1
          ∧ bitOf (u.portS p).i2c 30 = (c == 1) ∧ bits 23 17 (u.portS p).i2c = dev % 128 ∧ bits 7 0 (u.portS p).i2c = ofs % 256
          ∧ KeepsFields [F.SFP_CMD_BUSY p] s u ∧ KeepsStore s u := fun c hc v hv => by
      obtain ⟨b1, b2, b3, b4⟩ := sfpWord_bits c dev ofs len hc hv
      obtain ⟨g1, g2, g3, g4⟩ := wrSfpCmd_does b1 hb
      refine ⟨_, done_alive _ h.alive, ?_⟩
      rw [guarded_admitted _ h]
      have hi : ((sumTick s ((wrSfpCmd p v s).respond m 0 false false)).portS p).i2c = v :=
        (congrArg PortS.i2c (portS_congr (sumTick_net ..) p)).trans g2
      rw [hi]
      exact ⟨answers_sumTick .., (respond_get _ _ _ _ _ _ (hq p hp _ (by simp))).trans g1, b2, b3, b4, keepsFields_sumTick _ _ _ _ g3,
        keepsStore_sumTick _ _ _ _ g4⟩
    exact ⟨hrow 0 (by decide) _ (by omega), hrow 1 (by decide) _ (by omega)⟩
  · intro p data t ack s ha hp hb hrun
    obtain ⟨g1, g2, g3, g4⟩ := sfpDone_does (data := data) (ack := ack) (s := s.atTime t) hp hb hrun
    exact ⟨_, done_alive _ ha, (sumTick_get _ _ (hq p hp _ (by simp))).trans g1,
      fun h => (sumTick_get _ _ (hq p hp _ (by simp))).trans (g2 h),
      fun h k l n => (sumTick_get _ _ (hq p hp _ (by simp))).trans (g3 h k l n), KeepsStore.sumTick (s := s) _ g4⟩
end

section
/-!
DELAY LINES. Deliveries, fetches, changes, crossfades and the scrub; an event of a group without a fence action leaves the lines alone.
-/
namespace Sys2Proof.Machine

/-! ## Events that fence nothing -/

/-- `w` is `s` but for what an event of a group without a fence action may touch. -/
def EventOnly (s w : State) : Prop := ∃ m ti fc l tw n, w = { s with fld := m, time := ti, fcu := fc, lig := l, twin := tw, net := n }

theorem EventOnly.refl (s : State) : EventOnly s s := ⟨_, _, _, _, _, _, rfl⟩

theorem EventOnly.trans {s w x : State} (h : EventOnly s w) (k : EventOnly w x) : EventOnly s x := by
  obtain ⟨_, _, _, _, _, _, rfl⟩ := h
  obtain ⟨_, _, _, _, _, _, rfl⟩ := k
  exact ⟨_, _, _, _, _, _, rfl⟩

theorem FieldsOnly.event {s w : State} (h : FieldsOnly s w) : EventOnly s w := by
  obtain ⟨m, rfl⟩ := h
  exact ⟨_, _, _, _, _, _, rfl⟩

theorem EventOnly.ite {s x y : State} {p : Prop} [Decidable p] (hx : EventOnly s x) (hy : EventOnly s y) :
    EventOnly s (if p then x else y) := by
  split
  · exact hx
  · exact hy

theorem EventOnly.fcu {s w : State} (h : EventOnly s w) (x : FcuS) : EventOnly s { w with fcu := x } := by
  obtain ⟨_, _, _, _, _, _, rfl⟩ := h
  exact ⟨_, _, _, _, _, _, rfl⟩

theorem eventOnly_capEvent (a b : Nat) (s : State) : EventOnly s (capEvent a b s) := by
  refine List.foldlRecOn [4, 5, 6, 7] _ (motive := fun u => EventOnly s u) (.refl s) fun u hu c _ => ?_
  refine EventOnly.ite (hu.trans ?_) hu
  unfold capPush
  extract_lets q s1
  exact EventOnly.ite ((FieldsOnly.refl u).set _ _).event ⟨_, _, _, _, _, _, rfl⟩

theorem eventOnly_journal (t : Nat) (l : List Byte) (s : State) : EventOnly s (journal t l s) := by
  obtain ⟨m, x, h⟩ := journal_only t l s
  rw [h]
  exact ⟨_, _, _, _, _, _, rfl⟩

theorem eventOnly_addRecord (r : FaultRec) (s : State) : EventOnly s (addRecord r s) := by
  rw [addRecord_eq]
  refine EventOnly.trans ?_ (eventOnly_journal ..)
  unfold enterRecord
  exact (EventOnly.ite (((FieldsOnly.refl s).set _ _).set _ _).event ⟨_, _, _, _, _, _, rfl⟩).fcu _

theorem eventOnly_noteReaction (c src idx : Nat) (s : State) : EventOnly s (noteReaction c src idx s) :=
  ((((((FieldsOnly.refl s).set _ _).set _ _).set _ _).set _ _).allEvt evFAULT).event.trans (eventOnly_capEvent 2 0 _)

theorem eventOnly_queueFlatline (c src : Nat) (s : State) : EventOnly s (queueFlatline c src s) := by
  obtain ⟨w, n, h⟩ := queueFlatline_only c src s
  rw [h]
  exact ⟨_, _, _, _, _, _, rfl⟩

theorem eventOnly_takeQuiet (src idx : Nat) (s : State) : EventOnly s (takeQuiet src idx s) :=
  (((((FieldsOnly.refl s).set _ _).event.trans (eventOnly_noteReaction 2 src idx _)).fcu _).trans (eventOnly_queueFlatline 2 src _))

theorem eventOnly_takeHalt (src idx : Nat) (s : State) : EventOnly s (takeHalt src idx s) :=
  (((((FieldsOnly.refl s).set _ _).event.trans (eventOnly_noteReaction 3 src idx _)).fcu _).trans (eventOnly_queueFlatline 3 src _))

theorem fenceClass_none {src g idx : Nat} (w : Bool) (s : State) (h : fenceNeeds g = none) : fenceClass src g idx w s = 2 := by
  rw [fenceClass, h]

/-- An event of a group with no fence action, other than a host port's. -/
theorem eventOnly_raiseF {src g : Nat} (idx : Nat) (hg : srcGroup src = some g) (hn : fenceNeeds g = none) (s : State) :
    EventOnly s (raiseF src idx s) := by
  have h23 : (g == 23) = false := by
    refine beq_eq_false_iff_ne.2 fun e => ?_
    rw [e] at hn
    exact absurd hn (by decide)
  unfold raiseF raiseDeep collect
  rw [hg]
  dsimp -zeta only
  extract_lets wire s1 s2 c0 conseq c1 last s3 c2 s4 s5
  have h2 : EventOnly s s2 := (((FieldsOnly.refl s).setBit _ _ _).set _ _).event
  clear_value s2
  have h3 : EventOnly s s3 := EventOnly.ite (h2.trans ((FieldsOnly.refl s2).set _ _).event) h2
  have hc : c2 ≠ 1 := by
    unfold c2
    split
    · rw [fenceClass_none _ _ hn]
      decide
    · next h => simpa using h
  clear_value s3 c2
  have h4 : EventOnly s s4 := h3.trans (eventOnly_addRecord _ _)
  clear_value s4
  have h5 : s5 = s4 := by
    unfold s5 hostReaction
    rw [h23]
    exact if_neg Bool.false_ne_true
  rw [h5]
  refine EventOnly.ite (.refl s) (EventOnly.ite ((EventOnly.refl s).fcu _) (EventOnly.ite h2 ?_))
  split
  · exact absurd rfl hc
  · exact EventOnly.ite h4 (h4.trans (eventOnly_takeQuiet ..))
  · exact EventOnly.ite h4 (h4.trans (eventOnly_takeHalt ..))
  · exact h4

theorem EventOnly.keepsStore {s w : State} (h : EventOnly s w) : KeepsStore s w := by
  obtain ⟨_, _, _, _, _, _, rfl⟩ := h
  exact ⟨rfl, rfl, rfl⟩

end Sys2Proof.Machine
end

section
namespace Sys2Proof.Machine

/-! ## What error correction reports -/

theorem eventOnly_dlyEcc (e : Ecc) (line : Nat) (s : State) : EventOnly s (dlyEcc e line s) := by
  unfold dlyEcc
  split
  · exact .refl s
  · exact ((FieldsOnly.refl s).set _ _).event.trans (eventOnly_raiseF 0 rfl rfl _)
  · exact ((FieldsOnly.refl s).set _ _).event.trans (eventOnly_raiseF 0 rfl rfl _)
  · exact ((FieldsOnly.refl s).set _ _).event.trans (eventOnly_raiseF line rfl rfl _)

theorem eventOnly_deliverEcc (j : Nat) (e : Ecc) (s : State) : EventOnly s (deliverEcc j e s) := by
  unfold deliverEcc lineUe
  exact EventOnly.ite ((((FieldsOnly.refl s).set _ _).set _ _).event.trans (eventOnly_dlyEcc ..)) (eventOnly_dlyEcc ..)

/-- A field below the registers that count DRAM errors, in a block that no event writes. -/
theorem deliverEcc_get {f : Fd} (j : Nat) (e : Ecc) (s : State) (hl : f.lsb < 32) (hq : Fd.quiet f = true) (hb : ApartFromEvents (blockOf f))
    (hne : ∀ g ∈ [F.DLY_ECC_CE, F.DLY_ECC_UE, F.DLY_UELINE_VALID, F.DLY_UELINE_LINE], Fd.key f ≠ Fd.key g) :
    (deliverEcc j e s).get f = s.get f := by
  have hraise : ∀ src idx w, srcGroup src = some 4 → src < 128 → (raiseF src idx w).get f = w.get f := fun src idx w h1 h2 =>
    keepsUnit_raiseF_unfenced hb idx h1 h2 rfl w f hl hq rfl
  have hecc : ∀ (e : Ecc) (line : Nat) (w : State), (dlyEcc e line w).get f = w.get f := fun e line w => by
    unfold dlyEcc
    split
    · rfl
    · exact (hraise _ _ _ rfl (by decide)).trans (State.get_set_other _ _ (hne _ (by simp)))
    · exact (hraise _ _ _ rfl (by decide)).trans (State.get_set_other _ _ (hne _ (by simp)))
    · exact (hraise _ _ _ rfl (by decide)).trans (State.get_set_other _ _ (hne _ (by simp)))
  unfold deliverEcc lineUe
  split
  · rw [hecc, State.get_set_other _ _ (hne _ (by simp)), State.get_set_other _ _ (hne _ (by simp))]
  · exact hecc ..

/-! ## Deliveries (R128, R131, R133, R135) -/

theorem lineS_setLine (j : Nat) (x : LineS) (s : State) : (s.setLine j x).lineS j = x := by
  rw [State.lineS, State.setLine, mget_mset_same]

theorem lineS_congr {s w : State} (h : w.dly = s.dly) (j : Nat) : w.lineS j = s.lineS j := by
  rw [State.lineS, h]
  rfl

/-- The sample that line `j` delivers for breath `b`. -/
def State.delivers (s : State) (j b : Nat) (e : Ecc) : Int :=
  let x := s.lineS j
  let new := (s.lineRead j (s.lineDelay j) false b).getD x.last
  if e == .ue then x.last else match x.xf with
    | some (o, b0) => if b0 ≤ b && b < b0 + 64 then rampVal ((s.lineRead j o true b).getD x.last) new (b - b0 + 1) 64 else new
    | none => new

/-- The line notes the delivery, and its read is reported. -/
def noteDelivery (j b : Nat) (e : Ecc) (v : Int) (s : State) : State :=
  deliverEcc j e (s.setLine j { s.lineS j with last := v, delivered := b + 1 })

/-- The word goes to the log of a re-seat, and to the core. -/
def sendDelivery (j b : Nat) (v : Int) (lc p : Nat) (s : State) : State :=
  let s := if s.logsCore lc then logDelivery j b v s else s
  if 136 ≤ p || s.suspendedCore lc then s else extWrite p (xBase p + 4 * (bits 12 0 (s.lineW 2 j) + b % 2)) (leBytes 4 (ux 32 v)) s

theorem deliver_eq {j b : Nat} {s : State} (e : Ecc) (hb : s.deliveryB j = some b) (h1 : s.breathing = true) (h2 : s.lineRuns j = true) :
    deliver j e s = sendDelivery j b (s.delivers j b e) (bits 31 25 (s.lineW 1 j)) (s.physOf (bits 31 25 (s.lineW 1 j)))
      (noteDelivery j b e (s.delivers j b e) s) := by
  unfold deliver
  dsimp only
  rw [hb]
  dsimp only
  refine (if_neg (by rw [h1, h2]; decide)).trans ?_
  rfl

/-- An external write changes no field and no line. -/
theorem extWrite_only (c a : Nat) (l : List Byte) (s : State) : ∃ m d k, extWrite c a l s = { s with mem := m, disp := d, core := k } := by
  unfold extWrite
  dsimp only
  split
  · exact ⟨_, _, _, rfl⟩
  · obtain ⟨d, h⟩ := coreWrite_only c a l s
    rw [h]
    exact ⟨_, _, _, rfl⟩

theorem State.byte_setBytes_in (s : State) (a : Nat) (l : List Byte) {i : Nat} (hi : i < l.length) (ha : 0x40000 ≤ a) :
    (s.setBytes a l).byte (a + i) = l.getD i 0 := by
  induction l generalizing s a i with
  | nil => exact absurd hi (by simp)
  | cons b l ih =>
    rw [State.setBytes]
    cases i with
    | zero =>
      rw [State.byte_setBytes_out _ _ _ (.inl (by omega)), State.byte, if_neg (by omega), State.setByte]
      exact mget_mset_same ..
    | succ i =>
      rw [show a + (i + 1) = a + 1 + i by omega, ih _ _ (by simpa using hi) (by omega)]
      rfl

theorem coreWrite_mem (c a : Nat) (l : List Byte) (s : State) : (coreWrite c a l s).mem = (s.setBytes a l).mem := by
  obtain ⟨d, h⟩ := coreWrite_only c a l s
  rw [h]

/-- A word written to X memory is there. -/
theorem extWrite_x {p o v i : Nat} (s : State) (ho : o < 0x8008) (hi : i < 4) :
    (extWrite p (xBase p + o) (leBytes 4 v) s).byte (xBase p + o + i) = (leBytes 4 v).getD i 0 := by
  have hx : 0x40000 ≤ xBase p + o ∧ xBase p + o < yBase p := by
    simp only [xBase, yBase, coreBase]
    omega
  have hlen : (leBytes 4 v).length = 4 := rfl
  unfold extWrite
  dsimp only
  rw [if_neg (by simp only [Bool.and_eq_true, decide_eq_true_eq]; omega)]
  rw [State.byte_congr (coreWrite_mem ..)]
  exact State.byte_setBytes_in s _ _ (by rw [hlen]; exact hi) hx.1

theorem sendDelivery_keeps (j b : Nat) (v : Int) (lc p : Nat) (s : State) :
    (sendDelivery j b v lc p s).fld = s.fld ∧ (sendDelivery j b v lc p s).dly = s.dly := by
  have hlog : ∀ w, w = (if s.logsCore lc then logDelivery j b v s else s) → w.fld = s.fld ∧ w.dly = s.dly := by
    rintro w rfl
    split
    · exact ⟨rfl, rfl⟩
    · exact ⟨rfl, rfl⟩
  unfold sendDelivery
  extract_lets w
  obtain ⟨h1, h2⟩ := hlog w rfl
  clear_value w
  split
  · exact ⟨h1, h2⟩
  · obtain ⟨m, d, k, h⟩ := extWrite_only p (xBase p + 4 * (bits 12 0 (w.lineW 2 j) + b % 2)) (leBytes 4 (ux 32 v)) w
    rw [h]
    exact ⟨h1, h2⟩

/-- The word of a delivery stands in the core's X memory, where the core is there and not suspended. -/
theorem sendDelivery_byte {j b lc p i : Nat} {v : Int} {s : State} (hp : p < 136) (hs : s.suspendedCore lc = false) (hi : i < 4) :
    (sendDelivery j b v lc p s).byte (xBase p + 4 * (bits 12 0 (s.lineW 2 j) + b % 2) + i) = (leBytes 4 (ux 32 v)).getD i 0 := by
  have hlog : ∀ w, w = (if s.logsCore lc then logDelivery j b v s else s) → w.suspendedCore lc = false ∧ w.lineW 2 j = s.lineW 2 j := by
    rintro w rfl
    split
    · exact ⟨hs, rfl⟩
    · exact ⟨hs, rfl⟩
  unfold sendDelivery
  extract_lets w
  obtain ⟨h1, h2⟩ := hlog w rfl
  clear_value w
  rw [h1, decide_eq_false (by omega), if_neg (by decide), h2]
  refine extWrite_x w ?_ hi
  have : bits 12 0 (s.lineW 2 j) < 2 ^ 13 := Nat.mod_lt _ (by decide)
  omega

/-- What a delivery leaves. -/
theorem deliver_does {j b : Nat} {e : Ecc} {s : State} (hb : s.deliveryB j = some b) (h1 : s.breathing = true) (h2 : s.lineRuns j = true) :
    (deliver j e s).lineS j = { s.lineS j with last := s.delivers j b e, delivered := b + 1 }
    ∧ (s.physOf (bits 31 25 (s.lineW 1 j)) < 136 → s.suspendedCore (bits 31 25 (s.lineW 1 j)) = false → ∀ i < 4,
        (deliver j e s).byte (xBase (s.physOf (bits 31 25 (s.lineW 1 j))) + 4 * (bits 12 0 (s.lineW 2 j) + b % 2) + i)
          = (leBytes 4 (ux 32 (s.delivers j b e))).getD i 0)
    ∧ (e = .clean → (deliver j e s).fld = s.fld) := by
  rw [deliver_eq e hb h1 h2]
  generalize s.delivers j b e = v
  generalize hlc : bits 31 25 (s.lineW 1 j) = lc
  generalize s.physOf lc = p
  have hget : ∀ f : Fd, f.lsb < 32 → Fd.quiet f = true → ApartFromEvents (blockOf f) → f.addr % 2 ^ 32 ∉ [A.DLY_ECC, A.DLY_UELINE] →
      (noteDelivery j b e v s).get f = s.get f := fun f hl hq hbk hne => by
    refine deliverEcc_get j e _ hl hq hbk fun g hg => ?_
    have hall : ∀ g ∈ [F.DLY_ECC_CE, F.DLY_ECC_UE, F.DLY_UELINE_VALID, F.DLY_UELINE_LINE], g.lsb < 32 ∧ g.addr % 2 ^ 32 ∈ [A.DLY_ECC, A.DLY_UELINE] := by
      decide
    exact Fd.key_ne hl (hall g hg).1 (.inl fun e => hne (e ▸ (hall g hg).2))
  have hdly : (noteDelivery j b e v s).lineS j = { s.lineS j with last := v, delivered := b + 1 } := by
    obtain ⟨_, _, _, _, _, _, h⟩ := eventOnly_deliverEcc j e (s.setLine j { s.lineS j with last := v, delivered := b + 1 })
    rw [noteDelivery, h]
    exact lineS_setLine ..
  have hrvc : (noteDelivery j b e v s).rvc = s.rvc := by
    obtain ⟨_, _, _, _, _, _, h⟩ := eventOnly_deliverEcc j e (s.setLine j { s.lineS j with last := v, delivered := b + 1 })
    rw [noteDelivery, h]
    rfl
  have hfld : e = .clean → (noteDelivery j b e v s).fld = s.fld := by
    rintro rfl
    rfl
  have hw : (noteDelivery j b e v s).lineW 2 j = s.lineW 2 j := by
    have ha : (F.DLY_LINE_DATA_WORD 2 j).addr = 0x2007001C + 0x100000000 * j := by
      simp only [F.DLY_LINE_DATA_WORD, A.DLY_LINE_DATA]
    have hblk : blockOf (F.DLY_LINE_DATA_WORD 2 j) = 0x2007 := by rw [blockOf, ha]; omega
    refine hget _ (by simp [F.DLY_LINE_DATA_WORD]) (Fd.quiet_of_block (by simp [F.DLY_LINE_DATA_WORD]) (by rw [ha]; omega)) ?_ ?_
    · rw [hblk]
      unfold ApartFromEvents
      decide
    · rw [ha, show (0x2007001C + 0x100000000 * j) % 2 ^ 32 = 0x2007001C by omega]
      decide
  have hsus : (noteDelivery j b e v s).suspendedCore lc = s.suspendedCore lc := by
    have hphase : (noteDelivery j b e v s).get F.TWIN_RS_STAT_PHASE = s.get F.TWIN_RS_STAT_PHASE :=
      hget _ (by decide) (by decide) (by unfold ApartFromEvents; decide) (by decide)
    have hset : (noteDelivery j b e v s).get F.TWIN_RS_STAT_SET = s.get F.TWIN_RS_STAT_SET :=
      hget _ (by decide) (by decide) (by unfold ApartFromEvents; decide) (by decide)
    have hown : (noteDelivery j b e v s).coreOwner lc = s.coreOwner lc := by rw [State.coreOwner, hrvc]; rfl
    simp only [State.suspendedCore, State.suspendedO, State.suspended, hown, hphase, hset]
  generalize noteDelivery j b e v s = w at hdly hfld hw hsus
  obtain ⟨h3, h4⟩ := sendDelivery_keeps j b v lc p w
  refine ⟨(lineS_congr h4 j).trans hdly, fun hp hs i hi => ?_, fun he => h3.trans (hfld he)⟩
  rw [← hw]
  exact sendDelivery_byte hp (hsus.trans hs) hi

theorem delivers_fresh {j b : Nat} {e : Ecc} {s : State} (he : e ≠ .ue) (hx : (s.lineS j).xf = none) :
    s.delivers j b e = (s.lineRead j (s.lineDelay j) false b).getD (s.lineS j).last := by
  unfold State.delivers
  dsimp only
  rw [if_neg (by simpa using he), hx]

theorem delivers_ue (j b : Nat) (s : State) : s.delivers j b .ue = (s.lineS j).last := rfl

theorem delivers_fade {j b o b0 : Nat} {e : Ecc} {s : State} (he : e ≠ .ue) (hx : (s.lineS j).xf = some (o, b0)) (h1 : b0 ≤ b)
    (h2 : b < b0 + 64) : s.delivers j b e = rampVal ((s.lineRead j o true b).getD (s.lineS j).last)
      ((s.lineRead j (s.lineDelay j) false b).getD (s.lineS j).last) (b - b0 + 1) 64 := by
  unfold State.delivers
  dsimp only
  rw [if_neg (by simpa using he), hx]
  exact if_pos (by rw [decide_eq_true h1, decide_eq_true h2]; rfl)

/-! ## Fetches (R130) -/

/-- Block `k` of line `j` is being fetched, or is there. -/
def State.fetches (s : State) (j k : Nat) : Prop :=
  (∃ q ∈ s.dly.jobs, q.line = j ∧ q.flush = false ∧ q.block = k ∧ q.old = false) ∨ ∃ r ∈ (s.lineS j).rd, r.1 = k ∧ r.2.1 = false

theorem fetchIssue_does {j : Nat} {s : State} (h1 : s.breathing = true) (h2 : s.lineHeld j = true) (h3 : s.lineDram j = true)
    (h4 : s.n % 16 = 8) :
    ((∃ q ∈ (fetchIssue j s).dly.jobs, q.line = j ∧ q.flush = false ∧ q.block = (s.n + 8) / 16 ∧ q.old = false)
      ∨ ∃ r ∈ (s.lineS j).rd, r.1 = (s.n + 8) / 16 ∧ r.2.1 = false)
    ∧ (fetchIssue j s).fld = s.fld ∧ KeepsStore s (fetchIssue j s) := by
  unfold fetchIssue
  extract_lets k
  rw [if_neg (by rw [h1, h2, h3, h4]; decide)]
  refine ⟨?_, rfl, ⟨rfl, rfl, rfl⟩⟩
  by_cases hrd : (s.lineS j).rd.any (fun r => r.1 == k && r.2.1 == false) = true
  · right
    obtain ⟨r, hr, hk⟩ := List.any_eq_true.1 hrd
    rw [Bool.and_eq_true, beq_iff_eq, beq_iff_eq] at hk
    exact ⟨r, hr, hk⟩
  · left
    by_cases hold : s.dly.jobs.any (fun r => r.line == j && !r.flush && r.block == k && r.old == false) = true
    · obtain ⟨q, hq, hk⟩ := List.any_eq_true.1 hold
      simp only [Bool.and_eq_true, beq_iff_eq, Bool.not_eq_true'] at hk
      exact ⟨q, List.mem_append_left _ hq, hk.1.1.1, hk.1.1.2, hk.1.2, hk.2⟩
    · refine ⟨{ line := j, flush := false, block := k, delay := (s.fetchDelays j (16 * k)).1 }, List.mem_append_right _ (List.mem_filter.2 ⟨List.mem_cons_self .., ?_⟩),
        rfl, rfl, rfl, rfl⟩
      rw [Bool.and_eq_true, Bool.not_eq_true', Bool.not_eq_true']
      exact ⟨Bool.eq_false_iff.2 hold, Bool.eq_false_iff.2 hrd⟩

/-! ## Changes (R132, R133) -/

theorem showChg_pending (s : State) : (showChg s).get F.DLY_CHG_STAT_PENDING = s.dly.chg.length % 2 ^ 7 := State.get_set_same ..

/-- A crossfade in progress, if there is one, is apart from the span that `p` tells. -/
theorem fade_none (p : Nat → Bool) (x : Option (Nat × Nat)) :
    x.all (fun x => !p x.2) = true → (match x with | some (_, b0) => p b0 | none => false) = false := by
  cases x with
  | none => exact fun _ => rfl
  | some x => exact (Bool.not_eq_true' _).mp

/-- A change joins the queue. -/
def queueChg (c : Chg) (s : State) : State :=
  showChg { s.set F.DLY_CHG_STAT_RESULT 0 with dly := { s.dly with chg := s.dly.chg ++ [c] } }

theorem queueChg_does {c : Chg} {s : State} (h : s.dly.chg.length < 64) :
    (queueChg c s).get F.DLY_CHG_STAT_RESULT = 0 ∧ (queueChg c s).get F.DLY_CHG_STAT_PENDING = s.dly.chg.length + 1
    ∧ (queueChg c s).dly.chg = s.dly.chg ++ [c] ∧ KeepsStore s (queueChg c s) := by
  refine ⟨?_, (showChg_pending _).trans ?_, rfl, ⟨rfl, rfl, rfl⟩⟩
  · exact (State.get_set_other _ _ (by decide)).trans (State.get_set_same s _ 0)
  · show (s.dly.chg ++ [c]).length % 2 ^ 7 = _
    rw [List.length_append, List.length_singleton]
    omega

/-- A change that is in order joins the queue. -/
theorem wrChgPost_accepted {v l b : Nat} {s : State} (hk : v / 65536 = 0xA55A) (hgo : bitOf v 0 = true) (hl : l = s.get F.DLY_CHG_LINE_LINE)
    (hb : b = s.get F.DLY_CHG_BREATH_HI_B_HI * 2 ^ 32 + s.get F.DLY_CHG_BREATH_LO_B_LO) (hroom : s.dly.chg.length < 64)
    (hv : s.lineValid l = true)
    (hfade : ∀ c ∈ s.dly.chg, c.line = l → c.xfade = true → serAtOrAfter 48 b c.b = true → serAfter 48 (c.b + 64) b = false)
    (hxf : (s.lineS l).xf.all (fun x => !(serAtOrAfter 48 b (bidx x.2) && serAfter 48 (bidx x.2 + 64) b)) = true)
    (hd : s.get F.DLY_CHG_DELAY_DELAY ≤ s.lineDmax l)
    (hdram : s.lineDram l = true → 32 ≤ s.get F.DLY_CHG_DELAY_DELAY ∧ b % 16 = 0)
    (hbef : serBefore 48 b (bidx (s.n + if s.lineDram l then 32 else 2)) = false) (hrun : s.secState (s.lineSec l) = secRUNNING)
    (hlock : s.lockState (s.lineSec l) ≠ lkSTARTED) (happ : s.get F.SYS_MODE_STAT_APPLYING = 0) :
    wrChgPost v s = queueChg ⟨l, s.on F.DLY_CHG_LINE_MODE, s.get F.DLY_CHG_DELAY_DELAY, b⟩ s := by
  subst hl hb
  have h1 : (s.lineDram (s.get F.DLY_CHG_LINE_LINE) && decide (s.get F.DLY_CHG_DELAY_DELAY < 32)) = false := by
    cases h : s.lineDram (s.get F.DLY_CHG_LINE_LINE) with
    | false => rfl
    | true => exact decide_eq_false (Nat.not_lt.2 (hdram h).1)
  have h2 : (s.lineDram (s.get F.DLY_CHG_LINE_LINE)
      && (s.get F.DLY_CHG_BREATH_HI_B_HI * 2 ^ 32 + s.get F.DLY_CHG_BREATH_LO_B_LO) % 16 != 0) = false := by
    cases h : s.lineDram (s.get F.DLY_CHG_LINE_LINE) with
    | false => rfl
    | true => rw [(hdram h).2]; rfl
  generalize hbb : s.get F.DLY_CHG_BREATH_HI_B_HI * 2 ^ 32 + s.get F.DLY_CHG_BREATH_LO_B_LO = b at *
  have h3 : s.dly.chg.any (fun c => c.line == s.get F.DLY_CHG_LINE_LINE && c.xfade && (serAtOrAfter 48 b c.b && serAfter 48 (c.b + 64) b))
      = false := by
    rw [List.any_eq_false]
    intro c hc hin
    simp only [Bool.and_eq_true, beq_iff_eq] at hin
    obtain ⟨⟨hl, hx⟩, ha, hf⟩ := hin
    rw [hfade c hc hl hx ha] at hf
    exact Bool.false_ne_true hf
  have h4 := fade_none (fun b0 => serAtOrAfter 48 b (bidx b0) && serAfter 48 (bidx b0 + 64) b) _ hxf
  unfold wrChgPost
  refine (if_neg (by rw [hk, hgo]; decide)).trans ?_
  dsimp only
  rw [hbb, if_neg (by omega), if_neg (by rw [hv, h1, decide_eq_false (by omega)]; decide), hbef, if_neg Bool.false_ne_true, h2,
    if_neg Bool.false_ne_true, h3]
  refine (if_neg (by rw [Bool.false_or]; exact Bool.eq_false_iff.1 h4)).trans ((if_neg ?_).trans rfl)
  rw [hrun, beq_eq_false_iff_ne.2 hlock, State.on, happ]
  decide

/-- The changes of line `j` that breath `n` reaches, one after another. -/
def applyChgs (j : Nat) (cs : List Chg) (s : State) : State := cs.foldl (fun u c =>
  let x := u.lineS j
  u.setLine j { x with delay := some c.delay, xf := if c.xfade then some (u.lineDelay j, u.n) else none }) s

theorem applyChgs_only (j : Nat) (cs : List Chg) (s : State) :
    ∃ ls, applyChgs j cs s = { s with dly := { s.dly with lines := ls } } := by
  induction cs generalizing s with
  | nil => exact ⟨s.dly.lines, rfl⟩
  | cons c cs ih =>
    obtain ⟨ls, h⟩ := ih (s.setLine j { s.lineS j with delay := some c.delay, xf := if c.xfade then some (s.lineDelay j, s.n) else none })
    exact ⟨ls, h⟩

theorem applyChgs_last (j : Nat) (cs : List Chg) (c : Chg) (s : State) :
    ((applyChgs j (cs ++ [c]) s).lineS j).delay = some c.delay
    ∧ (cs = [] → ((applyChgs j (cs ++ [c]) s).lineS j).xf = if c.xfade then some (s.lineDelay j, s.n) else none) := by
  have h : applyChgs j (cs ++ [c]) s = (applyChgs j cs s).setLine j { (applyChgs j cs s).lineS j with
      delay := some c.delay, xf := if c.xfade then some ((applyChgs j cs s).lineDelay j, (applyChgs j cs s).n) else none } := by
    rw [applyChgs, List.foldl_append]
    rfl
  rw [h, lineS_setLine]
  refine ⟨rfl, ?_⟩
  rintro rfl
  rfl

/-- What the breath does to the queue and to the line. -/
theorem changeApply_does {j : Nat} {s : State} (hb : s.breathing = true) (hd : s.lineDram j = true → s.n % 16 = 0) :
    (changeApply j s).dly.chg = s.dly.chg.filter (fun c => !(s.changesBy j s.n).contains c)
    ∧ (changeApply j s).get F.DLY_CHG_STAT_PENDING = (changeApply j s).dly.chg.length % 2 ^ 7
    ∧ (∀ cs c, s.changesBy j s.n = cs ++ [c] → ((changeApply j s).lineS j).delay = some c.delay
        ∧ (cs = [] → ((changeApply j s).lineS j).xf = (if c.xfade then some (s.lineDelay j, s.n) else none)))
    ∧ (s.changesBy j s.n = [] → (changeApply j s).lineS j = s.lineS j) ∧ KeepsStore s (changeApply j s) := by
  have hgo : (!s.breathing || (s.lineDram j && s.n % 16 != 0)) = false := by
    rw [hb]
    cases h : s.lineDram j with
    | false => rfl
    | true => rw [hd h]; rfl
  generalize hw : ({ s with dly := { s.dly with chg := s.dly.chg.filter (fun c => !(s.changesBy j s.n).contains c) } } : State) = w
  have hchg : w.dly.chg = s.dly.chg.filter (fun c => !(s.changesBy j s.n).contains c) := by rw [← hw]
  have hst : KeepsStore s w := by rw [← hw]; exact ⟨rfl, rfl, rfl⟩
  have hline : w.lineS j = s.lineS j ∧ w.lineDelay j = s.lineDelay j ∧ w.n = s.n := by rw [← hw]; exact ⟨rfl, rfl, rfl⟩
  have hx : changeApply j s = showChg (applyChgs j (s.changesBy j s.n) w) := by
    rw [← hw]
    unfold changeApply
    exact if_neg (by rw [hgo]; decide)
  clear hw
  obtain ⟨ls, ha⟩ := applyChgs_only j (s.changesBy j s.n) w
  have hc : (applyChgs j (s.changesBy j s.n) w).dly.chg = w.dly.chg := by rw [ha]
  have hst2 : KeepsStore w (applyChgs j (s.changesBy j s.n) w) := by rw [ha]; exact ⟨rfl, rfl, rfl⟩
  rw [hx]
  refine ⟨hc.trans hchg, showChg_pending _, fun cs c hcs => ?_, fun hcs => ?_, hst.trans hst2⟩
  · rw [hcs]
    obtain ⟨h1, h2⟩ := applyChgs_last j cs c w
    rw [hline.2.1, hline.2.2] at h2
    exact ⟨h1, h2⟩
  · rw [hcs]
    exact hline.1

end Sys2Proof.Machine

open Sys2Proof Sys2Proof.Machine

/-- Settles O35: deliveries, fetches and late moves, changes and crossfades, and the patrol scrub. -/
theorem delayRowsComplete : Obligations.DelayRowsComplete := by
  unfold Obligations.DelayRowsComplete
  refine ⟨?_, ?_, ?_, ?_, ?_, ?_, ?_⟩
  · intro j b t e s ha h1 h2 h3 _
    obtain ⟨g1, g2, g3⟩ := deliver_does (e := e) (s := s.atTime t) h3 h1 h2
    have hline : (sumTick s (deliver j e (s.atTime t))).lineS j
        = { s.lineS j with last := (s.atTime t).delivers j b e, delivered := b + 1 } := (lineS_congr (sumTick_dly ..) j).trans g1
    refine ⟨_, done_alive _ ha, ?_, ?_, ?_, ?_, ?_, fun he => ?_⟩
    · rw [hline]
    · rintro rfl
      rw [hline]
      rfl
    · intro he hx
      rw [hline]
      exact delivers_fresh (s := s.atTime t) he hx
    · intro he o b0 hx k1 k2
      rw [hline]
      exact delivers_fade (s := s.atTime t) he hx k1 k2
    · intro hp hs i hi
      rw [hline]
      exact (State.byte_congr (sumTick_mem ..) _).trans (g2 hp hs i hi)
    · exact KeepsFields.sumTick (s := s) _ (KeepsFields.of_fld _ (g3 he))
  · intro j t s ha h1 h2 h3 h4
    obtain ⟨g1, g2, g3⟩ := fetchIssue_does (s := s.atTime t) h1 h2 h3 h4
    refine ⟨_, done_alive _ ha, ?_, KeepsFields.sumTick (s := s) _ (KeepsFields.of_fld _ g2), KeepsStore.sumTick (s := s) _ g3⟩
    rw [sumTick_dly]
    exact g1
  · intro j k t q flush s ha hq h1 h2 h3 h4 h5
    have hhit : (s.dly.jobs.any (fun q => q.line == j && q.flush == flush && q.block == k && !q.late)
        && decide ((if flush then 16 * k + 24 else 16 * k) ≤ s.n)) = true := by
      rw [Bool.and_eq_true, decide_eq_true_eq]
      exact ⟨List.any_eq_true.2 ⟨q, hq, by simp [h1, h2, h3, h4]⟩, h5⟩
    have hx : exec (.delayLate j flush k t) s = done s _ :=
      (show exec (.delayLate j flush k t) s = execDelayLate j flush k t s from rfl).trans (if_pos hhit)
    exact ⟨_, hx.trans (done_alive _ ha), leaves_sumTick ..⟩
  · intro m v l b s h k1 k2 k3 k4 k5 k6 k7 k8 k9 k10 k11 k12 k13 k14
    have hx := wrChgPost_accepted k1 k2 k3 k4 k5 k6 k7 k8 k9 k10 k11 k12 k13 k14
    obtain ⟨g1, g2, g3, g4⟩ := queueChg_does (c := ⟨l, s.on F.DLY_CHG_LINE_MODE, s.get F.DLY_CHG_DELAY_DELAY, b⟩) k5
    refine ⟨_, done_alive _ h.alive, ?_⟩
    rw [guarded_admitted _ h, hx]
    refine ⟨answers_sumTick .., (respond_get _ _ _ _ _ _ (by decide)).trans g1, (respond_get _ _ _ _ _ _ (by decide)).trans g2, ?_,
      keepsStore_sumTick _ _ _ _ g4⟩
    rw [sumTick_dly]
    exact g3
  · intro j t s ha h1 h2
    obtain ⟨g1, g2, g3, g4, g5⟩ := changeApply_does (s := s.atTime t) h1 h2
    have hd : (sumTick s (changeApply j (s.atTime t))).dly = (changeApply j (s.atTime t)).dly := sumTick_dly ..
    refine ⟨_, done_alive _ ha, ?_, ?_, fun cs c hcs => ?_, fun hcs => ?_, KeepsStore.sumTick (s := s) _ g5⟩
    · rw [hd]
      exact g1
    · rw [hd, sumTick_get _ _ (by decide)]
      exact g2
    · rw [lineS_congr hd]
      exact g3 cs c hcs
    · rw [lineS_congr hd]
      exact g4 hcs
  · intro j t o b s ha hx hb
    have he : exec (.delayXfadeEnd j t) s = done s ((s.atTime t).setLine j { s.lineS j with xf := none }) := by
      refine (show exec (.delayXfadeEnd j t) s = execDelayXfadeEnd j t s from rfl).trans ?_
      unfold execDelayXfadeEnd
      dsimp only
      rw [show ((s.atTime t).lineS j).xf = some (o, b) from hx]
      exact congrArg (done s) (if_pos hb)
    refine ⟨_, he.trans (done_alive _ ha), ?_, KeepsFields.sumTick (s := s) _ (KeepsFields.of_fld _ rfl),
      KeepsStore.sumTick (s := s) _ ⟨rfl, rfl, rfl⟩⟩
    rw [lineS_congr (sumTick_dly ..), lineS_setLine]
  · intro e t s ha hdue
    have he : exec (.scrubRead e t) s = done s (dlyEcc e 0xFFFF { s.atTime t with dly := { s.dly with
          scrub := if s.dly.scrub + 1 = scrubBlocks then 0 else s.dly.scrub + 1
          scrubAt := if s.dly.scrub + 1 = scrubBlocks then s.dly.scrubAt + max 60 (s.get F.DLY_SCRUB_PERIOD) * uS
            else s.dly.scrubAt } }) := by
      refine (show exec (.scrubRead e t) s = done s (scrubRead e (s.atTime t)) from rfl).trans (congrArg (done s) ?_)
      unfold scrubRead
      refine (if_neg (by rw [hdue]; decide)).trans ?_
      simp only [beq_iff_eq]
      rfl
    refine ⟨_, he.trans (done_alive _ ha), leaves_sumTick .., ?_⟩
    rintro rfl
    exact ⟨KeepsFields.sumTick (s := s) _ (KeepsFields.of_fld _ rfl), KeepsStore.sumTick (s := s) _ ⟨rfl, rfl, rfl⟩⟩
end

section
/-!
COMMITS AND ARRIVALS. What a tap's commit and the firing of instances may touch, and the blocks of registers they leave alone.
-/
namespace Sys2Proof.Machine

/-! ## Commits -/

/-- `w` is `s` but for what a tap's commit may touch. -/
def CommitOnly (s w : State) : Prop := ∃ m x y d, w = { s with fld := m, mem := x, mtx := y, dly := d }

theorem CommitOnly.refl (s : State) : CommitOnly s s := ⟨_, _, _, _, rfl⟩

theorem CommitOnly.trans {s w x : State} (h : CommitOnly s w) (k : CommitOnly w x) : CommitOnly s x := by
  obtain ⟨_, _, _, _, rfl⟩ := h
  obtain ⟨_, _, _, _, rfl⟩ := k
  exact ⟨_, _, _, _, rfl⟩

theorem commitOnly_formatStep (o : Nat) (v : Int) (n : Nat) (s : State) : CommitOnly s (formatStep o v n s) := by
  unfold formatStep
  dsimp only
  split <;> exact ⟨_, _, _, _, rfl⟩

theorem commitOnly_recordLine (v : Int) (n : Nat) (s : State) (j : Nat) : CommitOnly s (recordLine v n s j) := by
  have hset : ∀ (w : State) (a b : Nat), CommitOnly w (w.setWord a b) := fun w a b => by
    obtain ⟨m, hm⟩ := w.setBytes_only a (leBytes 4 b)
    rw [State.setWord, hm]
    exact ⟨_, _, _, _, rfl⟩
  unfold recordLine
  extract_lets st x s1 s2
  split
  · exact .refl s
  have h1 : CommitOnly s s1 := ⟨_, _, _, _, rfl⟩
  split
  · split
    · exact (h1.trans (hset s1 _ _)).trans ⟨_, _, _, _, rfl⟩
    · exact h1.trans (hset s1 _ _)
  · exact h1.trans (hset s1 _ _)

theorem commitOnly_commitTap (t : Nat) (v : Int) (n : Nat) (s : State) : CommitOnly s (commitTap t v n s) := by
  unfold commitTap
  extract_lets x mtx s1
  split
  · exact .refl s
  · have h1 : CommitOnly s s1 := ⟨_, _, _, _, rfl⟩
    have h2 : CommitOnly s1 ((s1.outsOf t).foldl (fun u o => formatStep o v n u) s1) :=
      List.foldlRecOn _ _ (motive := fun u => CommitOnly s1 u) (.refl s1) fun u hu o _ => hu.trans (commitOnly_formatStep o v n u)
    refine (h1.trans h2).trans ?_
    exact List.foldlRecOn _ _ (motive := fun u => CommitOnly _ u) (.refl _) fun u hu j _ => hu.trans (commitOnly_recordLine v n u j)

/-- A commit writes no register but the count of words that saturated. -/
theorem keepsBlock_commitTap {b : Nat} (hb : b ≠ 0x2006) (t : Nat) (v : Int) (n : Nat) (s : State) :
    KeepsBlock b s (commitTap t v n s) := by
  have hformat : ∀ (o : Nat) (w : State), KeepsBlock b w (formatStep o v n w) := fun o w => by
    unfold formatStep
    dsimp only
    split
    · exact KeepsBlock.congr ((KeepsBlock.refl b w).addSat (f := F.MTX_FMTSAT_COUNT) 1 (by decide) (by exact hb.symm)) rfl
    · exact KeepsBlock.congr (.refl b w) rfl
  have hline : ∀ (j : Nat) (w : State), KeepsBlock b w (recordLine v n w j) := fun j w => by
    unfold recordLine
    extract_lets st x s1 s2
    split
    · exact .refl b w
    have hset : ∀ a z : Nat, KeepsBlock b w (s1.setWord a z) := fun a z => .of_fld (State.setBytes_fld s1 a _)
    split
    · split
      · exact KeepsBlock.congr (w := s2) (hset _ _) rfl
      · exact hset _ _
    · exact hset _ _
  unfold commitTap
  extract_lets x mtx s1
  split
  · exact .refl b s
  · refine KeepsBlock.trans (w := (s1.outsOf t).foldl (fun u o => formatStep o v n u) s1) ?_ ?_
    · exact (KeepsBlock.of_fld (w := s1) rfl).foldl _ _ fun o _ u => hformat o u
    · exact (KeepsBlock.refl b _).foldl _ _ fun j _ u => hline j u

/-! ## Firing -/

/-- `w` is `s` but for its fields and its dispatcher. -/
def FiresOnly (s w : State) : Prop := ∃ m d, w = { s with fld := m, disp := d }

theorem FiresOnly.refl (s : State) : FiresOnly s s := ⟨_, _, rfl⟩

theorem FiresOnly.trans {s w x : State} (h : FiresOnly s w) (k : FiresOnly w x) : FiresOnly s x := by
  obtain ⟨_, _, rfl⟩ := h
  obtain ⟨_, _, rfl⟩ := k
  exact ⟨_, _, rfl⟩

theorem firesOnly_wake (l : Nat) (s : State) : FiresOnly s (wake l s) := by
  unfold wake showIdle
  dsimp only
  split
  · split <;> exact ⟨_, _, rfl⟩
  · exact .refl s

theorem firesOnly_fire (p : Inst → TaskE → Bool) (s : State) : FiresOnly s (fire p s) := by
  refine List.foldlRecOn _ _ (motive := fun u => FiresOnly s u) (.refl s) fun u hu x _ => ?_
  obtain ⟨i, e⟩ := x
  dsimp only
  refine hu.trans (FiresOnly.trans ?_ (firesOnly_wake i.lcore _))
  split <;> exact ⟨_, _, rfl⟩

theorem firesOnly_arrive (key b : Nat) (real : Option Nat) (s : State) : FiresOnly s (arrive key b real s) :=
  FiresOnly.trans (w := { s with disp := _ }) ⟨_, _, rfl⟩ (firesOnly_fire ..)

/-- The registers that firing writes are the dispatcher's and those of cores. -/
theorem keepsBlock_fire {b : Nat} (hb : b ≠ 0x2005) (hlow : b < 0x4000) (p : Inst → TaskE → Bool) (s : State) :
    KeepsBlock b s (fire p s) := by
  have hwake : ∀ (l : Nat) (w : State), KeepsBlock b w (wake l w) := fun l w => by
    unfold wake showIdle
    extract_lets d ns s1 q
    refine KeepsBlock.ite ?_ (.refl b w)
    split
    · next h =>
      have hq : q < 136 := by
        rw [Bool.and_eq_true, decide_eq_true_eq] at h
        exact h.1
      refine KeepsBlock.set (KeepsBlock.of_fld rfl) _ (by simp [F.RC_STAT_STATE]) ?_
      simp only [blockOf, F.RC_STAT_STATE, A.RC_STAT]
      omega
    · exact KeepsBlock.of_fld rfl
  refine (KeepsBlock.refl b s).foldl _ _ fun x _ u => ?_
  obtain ⟨i, e⟩ := x
  dsimp only
  refine KeepsBlock.trans ?_ (hwake i.lcore _)
  split
  · exact KeepsBlock.congr ((KeepsBlock.refl b u).addSat (f := F.DISP_EVT_COUNT_EARLY) 1 (by decide) (by exact hb.symm)) rfl
  · exact .of_fld rfl

theorem keepsBlock_arrive {b : Nat} (hb : b ≠ 0x2005) (hlow : b < 0x4000) (key n : Nat) (real : Option Nat) (s : State) :
    KeepsBlock b s (arrive key n real s) :=
  KeepsBlock.trans (w := { s with disp := _ }) (.of_fld rfl) (keepsBlock_fire hb hlow _ _)

end Sys2Proof.Machine
end

section
/-!
BITSTREAM INPUTS. Enable, disable and freeze; fill and ramp-in; commits and overloads.
-/
namespace Sys2Proof.Machine

/-! ## States of a channel -/

theorem bsiS_setBsi (c : Nat) (x : BsiS) (s : State) : (s.setBsi c x).bsiS c = x := by
  rw [State.bsiS, State.setBsi, mget_mset_same]

theorem bsiS_congr {s w : State} (h : w.bsi = s.bsi) (c : Nat) : w.bsiS c = s.bsiS c := by
  rw [State.bsiS, h]
  rfl

/-- A channel enters state `st`, and BSI_STAT counts. -/
theorem setBsiState_shows {c st : Nat} (hst : st < 8) (s : State) :
    (setBsiState c st s).bsiState c = st ∧ FieldsOnly s (setBsiState c st s)
    ∧ KeepsFields [F.BSIc_STAT_STATE c, F.BSI_STAT_RUNNING] s (setBsiState c st s) := by
  have hk : Fd.key (F.BSIc_STAT_STATE c) ≠ Fd.key F.BSI_STAT_RUNNING := by
    simp only [Fd.key, F.BSIc_STAT_STATE, F.BSI_STAT_RUNNING, A.BSIc_STAT, A.BSI_STAT]
    omega
  unfold setBsiState showBsi
  refine ⟨?_, ((FieldsOnly.refl s).set _ _).set _ _, ((KeepsFields.refl _ s).set _ (by simp)).set _ (by simp)⟩
  rw [State.bsiState, State.get_set_other _ _ hk, State.get_set_same]
  exact Nat.mod_eq_of_lt hst

theorem bsiStat_quiet {c : Nat} {f : Fd} (hc : c < 32) (hl : f.lsb < 32) (ha : f.addr = A.BSIc_STAT c) : Fd.quiet f = true :=
  Fd.quiet_of_block hl (.inl (by rw [ha, A.BSIc_STAT]; omega))

/-- What shows a channel's state is outside its configuration. -/
theorem KeepsFields.bsiCfg {c : Nat} {f : Fd} {s w : State} (h : KeepsFields [F.BSIc_STAT_STATE c, F.BSI_STAT_RUNNING] s w)
    (hl : f.lsb < 32) (ha : f.addr = A.BSIc_CFG c) (hq : Fd.quiet f = true) : w.get f = s.get f := by
  refine h f hq fun g hg => Fd.key_ne hl ?_ (.inl ?_) <;> simp only [List.mem_cons, List.not_mem_nil, or_false] at hg
  · rcases hg with rfl | rfl <;> simp [F.BSIc_STAT_STATE, F.BSI_STAT_RUNNING]
  · rw [ha]
    rcases hg with rfl | rfl <;> simp only [F.BSIc_STAT_STATE, F.BSI_STAT_RUNNING, A.BSIc_CFG, A.BSIc_STAT, A.BSI_STAT] <;> omega

theorem bsiCfg_quiet {c : Nat} {f : Fd} (hc : c < 32) (hl : f.lsb < 32) (ha : f.addr = A.BSIc_CFG c) : Fd.quiet f = true :=
  Fd.quiet_of_block hl (.inl (by rw [ha, A.BSIc_CFG]; omega))

/-! ## Writes of BSIc_CFG (R279, R282, R285) -/

theorem fieldsAt_bsiCfg {c : Nat} (hc : c < 32) : fieldsAt (A.BSIc_CFG c) = [F.BSIc_CFG_EN c, F.BSIc_CFG_CLASS c, F.BSIc_CFG_PRESET c,
    F.BSIc_CFG_INV c, F.BSIc_CFG_FREEZE c, F.BSIc_CFG_DLY c] := by
  interval_cases c <;> decide

/-- The fields of a channel's configuration lie in its register, in different places. -/
theorem bsiCfg_place {c : Nat} : ∀ f ∈ [F.BSIc_CFG_EN c, F.BSIc_CFG_CLASS c, F.BSIc_CFG_PRESET c, F.BSIc_CFG_INV c, F.BSIc_CFG_FREEZE c,
    F.BSIc_CFG_DLY c], f.addr = A.BSIc_CFG c ∧ f.lsb < 32 := by
  simp [F.BSIc_CFG_EN, F.BSIc_CFG_CLASS, F.BSIc_CFG_PRESET, F.BSIc_CFG_INV, F.BSIc_CFG_FREEZE, F.BSIc_CFG_DLY]

theorem writeBsiCfg_en {c v : Nat} (hc : c < 32) (hv : bitOf v 31 = false) (s : State) :
    (s.writeRegPlain (A.BSIc_CFG c) v).get (F.BSIc_CFG_EN c) = 0 := by
  have hk : ∀ g ∈ [F.BSIc_CFG_CLASS c, F.BSIc_CFG_PRESET c, F.BSIc_CFG_INV c, F.BSIc_CFG_FREEZE c, F.BSIc_CFG_DLY c],
      Fd.key (F.BSIc_CFG_EN c) ≠ Fd.key g := by
    simp [Fd.key, F.BSIc_CFG_EN, F.BSIc_CFG_CLASS, F.BSIc_CFG_PRESET, F.BSIc_CFG_INV, F.BSIc_CFG_FREEZE, F.BSIc_CFG_DLY]
  rw [State.writeRegPlain, fieldsAt_bsiCfg hc, List.foldl_cons]
  refine (foldl_keeps (fun u : State => u.get (F.BSIc_CFG_EN c)) _ _ _ fun g hg u => u.writeField_get_other v (hk g hg)).trans ?_
  refine (State.get_set_same s (F.BSIc_CFG_EN c) _).trans ?_
  have h : v / 2 ^ 31 % 2 = 0 := by
    rw [bitOf, beq_eq_false_iff_ne] at hv
    omega
  show v / 2 ^ 31 % 2 % 2 = 0
  rw [h]

/-- A write of a field gives states that show the same in `f` the same in `f`. -/
theorem State.writeField_congr {s x : State} {f g : Fd} (v : Nat) (hk : f = g ∨ Fd.key f ≠ Fd.key g) (h : x.get f = s.get f) :
    (x.writeField v g).get f = (s.writeField v g).get f := by
  rcases hk with rfl | hk
  · unfold State.writeField
    dsimp only
    split <;> simp only [State.get_set_same, h]
  · rw [State.writeField_get_other _ _ hk, State.writeField_get_other _ _ hk, h]

/-- A plain write likewise. -/
theorem State.writeRegPlain_congr {s x : State} {a : Nat} {f : Fd} (v : Nat) (hk : ∀ g ∈ fieldsAt a, f = g ∨ Fd.key f ≠ Fd.key g)
    (h : x.get f = s.get f) : (x.writeRegPlain a v).get f = (s.writeRegPlain a v).get f := by
  unfold State.writeRegPlain
  generalize fieldsAt a = l at hk
  induction l generalizing s x with
  | nil => exact h
  | cons g l ih =>
    exact ih (State.writeField_congr v (hk g List.mem_cons_self) h) fun e he => hk e (List.mem_cons_of_mem _ he)

/-- What a change of class writes, and a plain write of another register, do not touch the fields that decide a rate. -/
theorem fieldsOnly_newClass (c : Nat) (s : State) : FieldsOnly s (newClass c s) :=
  FieldsOnly.foldl _ _ (.refl s) fun _ u => (FieldsOnly.refl u).set _ _

theorem newClass_get {c : Nat} {f : Fd} (s : State) (hl : f.lsb < 32) (ha : f.addr = A.BSI_CTRL ∨ f.addr = A.BSIc_CFG c ∨ f.addr < 0x20120000) :
    (newClass c s).get f = s.get f := by
  refine foldl_keeps (fun u => u.get f) _ _ _ fun g hg u => State.get_set_other u 0 ?_
  refine Fd.key_ne hl ?_ (.inl ?_)
  · simp only [List.mem_cons, List.not_mem_nil, or_false] at hg
    rcases hg with rfl | rfl | rfl | rfl | rfl | rfl <;>
      simp [F.BSIc_PEAK_P, F.BSIc_RMS_R, F.BSIc_ENV_E, F.BSIc_MS_MS, F.BSIc_DCEST_M, F.BSIc_ALPHA_ALPHA]
  · have hg' : A.BSIc_CFG c + 0x20 ≤ g.addr ∧ g.addr < A.BSIc_CFG c + 0x40 := by
      simp only [List.mem_cons, List.not_mem_nil, or_false] at hg
      rcases hg with rfl | rfl | rfl | rfl | rfl | rfl <;>
        simp only [F.BSIc_PEAK_P, F.BSIc_RMS_R, F.BSIc_ENV_E, F.BSIc_MS_MS, F.BSIc_DCEST_M, F.BSIc_ALPHA_ALPHA, A.BSIc_PEAK, A.BSIc_RMS,
          A.BSIc_ENV, A.BSIc_MS, A.BSIc_DCEST, A.BSIc_ALPHA, A.BSIc_CFG] <;> omega
    simp only [A.BSI_CTRL, A.BSIc_CFG] at ha hg'
    omega

theorem bitOf_withBit_31_clear (v : Nat) : bitOf (withBit v 31 false) 31 = false := by
  simp only [withBit, bitOf, Bool.false_eq_true, if_false]
  split
  · next h =>
    rw [beq_iff_eq] at h
    rw [beq_eq_false_iff_ne]
    omega
  · next h => simpa using h

/-- The rate of a channel depends on its class, its preset, the clock of its group and the engine mode. -/
theorem bsiRateOk_congr {c : Nat} {s w : State} (hclass : w.get (F.BSIc_CFG_CLASS c) = s.get (F.BSIc_CFG_CLASS c))
    (hpreset : w.get (F.BSIc_CFG_PRESET c) = s.get (F.BSIc_CFG_PRESET c)) (hclk : w.get F.BSI_CTRL_CLK_FAST = s.get F.BSI_CTRL_CLK_FAST)
    (hmode : w.get F.SYS_MODE_STAT_CUR = s.get F.SYS_MODE_STAT_CUR) : w.bsiRateOk c = s.bsiRateOk c := by
  unfold State.bsiRateOk State.bsiSense State.on State.bsiFo State.bsiPreset State.bsiHz State.bit State.fs State.mode
  rw [hclass, hpreset, hclk, hmode]

/-- What a change of class clears does not bear on the rate that a write of CFG gives. -/
theorem writeBsiCfg_newClass_rateOk {c : Nat} (hc : c < 32) (v : Nat) (s : State) :
    ((newClass c s).writeRegPlain (A.BSIc_CFG c) v).bsiRateOk c = (s.writeRegPlain (A.BSIc_CFG c) v).bsiRateOk c := by
  have hcfg : ∀ f ∈ [F.BSIc_CFG_CLASS c, F.BSIc_CFG_PRESET c], ∀ g ∈ fieldsAt (A.BSIc_CFG c), f = g ∨ Fd.key f ≠ Fd.key g := by
    rw [fieldsAt_bsiCfg hc]
    simp [Fd.key, F.BSIc_CFG_EN, F.BSIc_CFG_CLASS, F.BSIc_CFG_PRESET, F.BSIc_CFG_INV, F.BSIc_CFG_FREEZE, F.BSIc_CFG_DLY]
  have hother : ∀ f ∈ [F.BSI_CTRL_CLK_FAST, F.SYS_MODE_STAT_CUR], ∀ g ∈ fieldsAt (A.BSIc_CFG c), f = g ∨ Fd.key f ≠ Fd.key g := by
    rw [fieldsAt_bsiCfg hc]
    intro f hf g hg
    obtain ⟨ha, hl⟩ := bsiCfg_place g hg
    refine .inr (Fd.key_ne ?_ hl (.inl ?_))
    · revert f; decide
    · rw [ha]
      simp only [List.mem_cons, List.not_mem_nil, or_false] at hf
      rcases hf with rfl | rfl <;> simp only [F.BSI_CTRL_CLK_FAST, F.SYS_MODE_STAT_CUR, A.BSI_CTRL, A.SYS_MODE_STAT, A.BSIc_CFG] <;> omega
  exact bsiRateOk_congr
    (State.writeRegPlain_congr v (hcfg _ (by simp)) (newClass_get s (by simp [F.BSIc_CFG_CLASS]) (.inr (.inl rfl))))
    (State.writeRegPlain_congr v (hcfg _ (by simp)) (newClass_get s (by simp [F.BSIc_CFG_PRESET]) (.inr (.inl rfl))))
    (State.writeRegPlain_congr v (hother _ (by simp)) (newClass_get s (by decide) (.inl rfl)))
    (State.writeRegPlain_congr v (hother _ (by simp)) (newClass_get s (by decide) (.inr (.inr (by decide)))))

/-! ## Enable, disable and freeze -/

section
variable {c : Nat} {s : State}

theorem wrBsiCfg_enable (hc : c < 32) (v : Nat) (hen : s.get (F.BSIc_CFG_EN c) = 0) {u : State}
    (hu : u = wrBsiCfg c (withBit (v % 2 ^ 32) 31 true) s) :
    (let w := s.writeRegPlain (A.BSIc_CFG c) (withBit (v % 2 ^ 32) 31 false)
      if w.fencedInst 16 c then u.get (F.BSIc_CFG_EN c) = 0
      else if w.bsiRateOk c = false then u.get (F.BSIc_STAT_CFGERR c) = 1 ∧ u.get (F.BSIc_CFG_EN c) = 0
      else u.get (F.BSIc_CFG_EN c) = 1 ∧ u.bsiState c = bsARMED ∧ u.get (F.BSIc_STAT_CFGERR c) = 0)
    ∧ KeepsStore s u := by
  have hon : s.on (F.BSIc_CFG_EN c) = false := by rw [State.on, hen]; rfl
  obtain ⟨x, hx, hxrate, hxonly⟩ : ∃ x : State, x = (if bitOf (withBit (v % 2 ^ 32) 31 true) 30 == s.on (F.BSIc_CFG_CLASS c) then s
      else newClass c s)
      ∧ (x.writeRegPlain (A.BSIc_CFG c) (withBit (v % 2 ^ 32) 31 false)).bsiRateOk c
        = (s.writeRegPlain (A.BSIc_CFG c) (withBit (v % 2 ^ 32) 31 false)).bsiRateOk c ∧ FieldsOnly s x := by
    refine ⟨_, rfl, ?_, ?_⟩
    · split
      · rfl
      · exact writeBsiCfg_newClass_rateOk hc _ s
    · split
      · exact .refl s
      · exact fieldsOnly_newClass c s
  have hyen : (x.writeRegPlain (A.BSIc_CFG c) (withBit (v % 2 ^ 32) 31 false)).get (F.BSIc_CFG_EN c) = 0 :=
    writeBsiCfg_en hc (bitOf_withBit_31_clear _) x
  have hyonly : FieldsOnly s (x.writeRegPlain (A.BSIc_CFG c) (withBit (v % 2 ^ 32) 31 false)) := by
    obtain ⟨l, hl⟩ := x.writeRegPlain_only (A.BSIc_CFG c) (withBit (v % 2 ^ 32) 31 false)
    exact hxonly.trans ⟨l, hl⟩
  have hfence : (s.writeRegPlain (A.BSIc_CFG c) (withBit (v % 2 ^ 32) 31 false)).fencedInst 16 c = s.fencedInst 16 c := by
    obtain ⟨l, hl⟩ := s.writeRegPlain_only (A.BSIc_CFG c) (withBit (v % 2 ^ 32) 31 false)
    rw [hl]
    rfl
  have huy : ∀ y : State, y = x.writeRegPlain (A.BSIc_CFG c) (withBit (v % 2 ^ 32) 31 false) →
      u = if y.fencedInst 16 c then y else if !y.bsiRateOk c then y.set (F.BSIc_STAT_CFGERR c) 1
        else setBsiState c bsARMED (((y.set (F.BSIc_CFG_EN c) 1).set (F.BSIc_STAT_CFGERR c) 0).setBsi c {}) := by
    rintro y rfl
    rw [hu, wrBsiCfg, hon, hx]
    simp only [Bool.false_eq_true, if_false, withBit_31_clear (Nat.mod_lt v (by decide : 0 < 2 ^ 32)), bitOf_withBit_same, Bool.not_true,
      Bool.false_or]
  have hu' := huy _ rfl
  generalize x.writeRegPlain (A.BSIc_CFG c) (withBit (v % 2 ^ 32) 31 false) = y at hu' hxrate hyen hyonly
  dsimp only
  rw [hfence, ← hxrate]
  have hyfence : y.fencedInst 16 c = s.fencedInst 16 c := by
    obtain ⟨l, rfl⟩ := hyonly
    rfl
  rw [hyfence] at hu'
  have hkey : Fd.key (F.BSIc_CFG_EN c) ≠ Fd.key (F.BSIc_STAT_CFGERR c) := by
    simp only [Fd.key, F.BSIc_CFG_EN, F.BSIc_STAT_CFGERR, A.BSIc_CFG, A.BSIc_STAT]
    omega
  by_cases hf : s.fencedInst 16 c = true
  · rw [if_pos hf] at hu' ⊢
    rw [hu']
    exact ⟨hyen, hyonly.keepsStore⟩
  rw [if_neg hf] at hu' ⊢
  cases hr : y.bsiRateOk c with
  | false =>
    rw [hr, if_pos (by decide)] at hu'
    rw [if_pos rfl, hu', State.get_set_same, State.get_set_other _ _ hkey, hyen]
    exact ⟨⟨rfl, rfl⟩, (hyonly.set _ _).keepsStore⟩
  | true =>
    rw [hr, if_neg (by decide)] at hu'
    rw [if_neg (by decide)]
    obtain ⟨z, hz, hzen, hzerr, hzst⟩ : ∃ z : State, z = ((y.set (F.BSIc_CFG_EN c) 1).set (F.BSIc_STAT_CFGERR c) 0).setBsi c {}
        ∧ z.get (F.BSIc_CFG_EN c) = 1 ∧ z.get (F.BSIc_STAT_CFGERR c) = 0 ∧ KeepsStore s z := by
      refine ⟨_, rfl, ?_, ?_, ((hyonly.set (F.BSIc_CFG_EN c) 1).set (F.BSIc_STAT_CFGERR c) 0).keepsStore⟩
      · show ((y.set (F.BSIc_CFG_EN c) 1).set (F.BSIc_STAT_CFGERR c) 0).get (F.BSIc_CFG_EN c) = 1
        rw [State.get_set_other _ _ hkey]
        exact get_of_set rfl
      · exact get_of_set rfl
    rw [← hz] at hu'
    obtain ⟨hst, honly, hkeep⟩ := setBsiState_shows (c := c) (st := bsARMED) (by decide) z
    rw [hu']
    refine ⟨⟨?_, hst, ?_⟩, hzst.trans honly.keepsStore⟩
    · exact (hkeep.bsiCfg (by simp [F.BSIc_CFG_EN]) rfl (bsiCfg_quiet hc (by simp [F.BSIc_CFG_EN]) rfl)).trans hzen
    · refine (hkeep _ (bsiStat_quiet hc (by simp [F.BSIc_STAT_CFGERR]) rfl) ?_).trans hzerr
      simp only [List.mem_cons, List.not_mem_nil, or_false, forall_eq_or_imp, forall_eq, Fd.key, F.BSIc_STAT_CFGERR, F.BSIc_STAT_STATE,
        F.BSI_STAT_RUNNING, A.BSIc_STAT, A.BSI_STAT]
      omega

theorem wrBsiCfg_disable (hc : c < 32) (v : Nat) (hen : s.get (F.BSIc_CFG_EN c) = 1) {u : State}
    (hu : u = wrBsiCfg c (withBit (v % 2 ^ 32) 31 false) s) :
    u.get (F.BSIc_CFG_EN c) = 0 ∧ u.bsiState c = bsOFF ∧ u.bsiS c = {} ∧ KeepsStore s u := by
  have hon : s.on (F.BSIc_CFG_EN c) = true := by rw [State.on, hen]; rfl
  obtain ⟨x, hx, hux⟩ : ∃ x : State, FieldsOnly s x ∧ u = bsiOff c x := by
    rw [hu, wrBsiCfg, hon]
    simp only [if_true, bitOf_withBit_31_clear, Bool.false_eq_true, if_false]
    exact ⟨_, FieldsOnly.set _ _ (.ite ((FieldsOnly.refl s).set _ _) (.refl s)), rfl⟩
  obtain ⟨z, hz, hzen, hzc, hzst⟩ : ∃ z : State, z = (x.set (F.BSIc_CFG_EN c) 0).setBsi c {} ∧ z.get (F.BSIc_CFG_EN c) = 0 ∧ z.bsiS c = {}
      ∧ KeepsStore s z :=
    ⟨_, rfl, get_of_set rfl, bsiS_setBsi .., (hx.set (F.BSIc_CFG_EN c) 0).keepsStore⟩
  have huz : u = setBsiState c bsOFF z := by rw [hux, hz]; rfl
  obtain ⟨hst, honly, hkeep⟩ := setBsiState_shows (c := c) (st := bsOFF) (by decide) z
  rw [huz]
  refine ⟨?_, hst, ?_, hzst.trans honly.keepsStore⟩
  · exact (hkeep.bsiCfg (by simp [F.BSIc_CFG_EN]) rfl (bsiCfg_quiet hc (by simp [F.BSIc_CFG_EN]) rfl)).trans hzen
  · obtain ⟨l, hl⟩ := honly
    rw [hl]
    exact hzc

theorem wrBsiCfg_freeze {v : Nat} (hen : s.get (F.BSIc_CFG_EN c) = 1) (hv : bitOf v 31 = true) {u : State} (hu : u = wrBsiCfg c v s) :
    u.get (F.BSIc_CFG_FREEZE c) = (bitOf v 26).toNat ∧ KeepsFields [F.BSIc_CFG_FREEZE c, F.BSIc_STAT_CFGWR c] s u ∧ KeepsStore s u := by
  have hon : s.on (F.BSIc_CFG_EN c) = true := by rw [State.on, hen]; rfl
  obtain ⟨x, hx, hxk, hux⟩ : ∃ x : State, FieldsOnly s x ∧ KeepsFields [F.BSIc_CFG_FREEZE c, F.BSIc_STAT_CFGWR c] s x
      ∧ u = x.set (F.BSIc_CFG_FREEZE c) (bits 26 26 v) := by
    rw [hu, wrBsiCfg, hon]
    simp only [if_true, hv]
    exact ⟨_, .ite ((FieldsOnly.refl s).set _ _) (.refl s), .ite ((KeepsFields.refl _ s).set _ (by simp)) (.refl _ s), rfl⟩
  rw [hux]
  refine ⟨?_, hxk.set _ (by simp), (hx.set _ _).keepsStore⟩
  rw [State.get_set_same]
  have h : bits 26 26 v % 2 = (bitOf v 26).toNat := by
    show v / 2 ^ 26 % 2 % 2 = (v / 2 ^ 26 % 2 == 1).toNat
    rcases Nat.mod_two_eq_zero_or_one (v / 2 ^ 26) with h | h <;> rw [h] <;> rfl
  exact h

/-! ## Fill and ramp-in -/

theorem bsiFillDone_shows (hst : s.bsiState c = bsFILL) (hmade : bsiFill (s.bsiPreset c) ≤ (s.bsiS c).made) :
    (bsiFillDone c s).bsiState c = bsRAMPIN ∧ (bsiFillDone c s).bsiS c = { s.bsiS c with rampK := 0 }
    ∧ KeepsFields [F.BSIc_STAT_STATE c, F.BSI_STAT_RUNNING] s (bsiFillDone c s) ∧ KeepsStore s (bsiFillDone c s) := by
  have hgo : bsiFillDone c s = setBsiState c bsRAMPIN (s.setBsi c { s.bsiS c with rampK := 0 }) :=
    if_pos (by rw [hst, Bool.and_eq_true, beq_self_eq_true]; exact ⟨rfl, decide_eq_true hmade⟩)
  obtain ⟨hst, honly, hkeep⟩ := setBsiState_shows (c := c) (st := bsRAMPIN) (by decide) (s.setBsi c { s.bsiS c with rampK := 0 })
  rw [hgo]
  refine ⟨hst, ?_, hkeep, honly.keepsStore⟩
  obtain ⟨l, hl⟩ := honly
  rw [hl]
  exact bsiS_setBsi ..

theorem bsiRampinEnd_shows (hst : s.bsiState c = bsRAMPIN) (hk : 32 ≤ (s.bsiS c).rampK) :
    (bsiRampinEnd c s).bsiState c = bsRUN ∧ KeepsFields [F.BSIc_STAT_STATE c, F.BSI_STAT_RUNNING] s (bsiRampinEnd c s)
    ∧ KeepsStore s (bsiRampinEnd c s) := by
  have hgo : bsiRampinEnd c s = setBsiState c bsRUN s :=
    if_pos (by rw [hst, Bool.and_eq_true, beq_self_eq_true]; exact ⟨rfl, decide_eq_true hk⟩)
  obtain ⟨hst, honly, hkeep⟩ := setBsiState_shows (c := c) (st := bsRUN) (by decide) s
  rw [hgo]
  exact ⟨hst, hkeep, honly.keepsStore⟩

/-! ## Overload (R276) -/

theorem bsiOverload_raises {ones total : Nat} (hc : c < 32) (hst : bsFILL ≤ s.bsiState c) (htotal : total * 1000 = s.bsiHz c)
    (h : ones * 100 < 5 * total ∨ 95 * total < ones * 100) {w : State}
    (hw : w = (s.set (F.BSIc_STAT_OVLD c) 1).setBit F.BSI_EVT_OVLD c true) :
    bsiOverload c ones total s = raiseF 74 c w ∧ w.get (F.BSIc_STAT_OVLD c) = 1 ∧ w.bit F.BSI_EVT_OVLD c = true
    ∧ KeepsFields [F.BSIc_STAT_OVLD c, F.BSI_EVT_OVLD] s w := by
  have hk : Fd.key (F.BSIc_STAT_OVLD c) ≠ Fd.key F.BSI_EVT_OVLD := by
    simp only [Fd.key, F.BSIc_STAT_OVLD, F.BSI_EVT_OVLD, A.BSIc_STAT, A.BSI_EVT]
    omega
  refine ⟨?_, ?_, ?_, ?_⟩
  · rw [hw]
    refine if_pos ?_
    rw [Bool.and_eq_true, Bool.and_eq_true, beq_iff_eq, decide_eq_true_eq, Bool.or_eq_true, decide_eq_true_eq, decide_eq_true_eq]
    exact ⟨⟨hst, htotal⟩, h⟩
  · rw [hw]
    exact (State.get_set_other _ _ hk).trans (State.get_set_same ..)
  · rw [hw]
    exact State.bit_setBit_same _ hc
  · rw [hw]
    exact ((KeepsFields.refl _ s).set _ (by simp)).setBit _ _ (by simp)

end

/-! ## Commits (R278, R280) -/

/-- What bits and detectors leave of channel `c`: its state, its place in a ramp, the taps, the dispatcher. -/
def State.bsiView (s : State) (c : Nat) : Nat × Nat × MtxS × DispS := (s.bsiState c, (s.bsiS c).rampK, s.mtx, s.disp)

theorem bsiView_setBsi {c : Nat} {x : BsiS} (s : State) (h : x.rampK = (s.bsiS c).rampK) : (s.setBsi c x).bsiView c = s.bsiView c := by
  rw [State.bsiView, bsiS_setBsi, h]
  rfl

theorem bsiS_set (c : Nat) (f : Fd) (v : Nat) (s : State) : (s.set f v).bsiS c = s.bsiS c := rfl

theorem bsiView_set {c : Nat} {f : Fd} (v : Nat) (s : State) (h : Fd.key (F.BSIc_STAT_STATE c) ≠ Fd.key f) :
    (s.set f v).bsiView c = s.bsiView c := by
  rw [State.bsiView, State.bsiState, State.get_set_other _ _ h]
  rfl

theorem bsiOutput_view (c : Nat) (x : Int) (s : State) : (bsiOutput c x s).bsiView c = s.bsiView c := by
  have hk : ∀ f ∈ [F.BSIc_STAT_FROZEN c, F.BSIc_ALPHA_ALPHA c, F.BSIc_DCEST_M c], Fd.key (F.BSIc_STAT_STATE c) ≠ Fd.key f := by
    simp only [List.mem_cons, List.not_mem_nil, or_false, forall_eq_or_imp, forall_eq, Fd.key, F.BSIc_STAT_FROZEN, F.BSIc_ALPHA_ALPHA,
      F.BSIc_DCEST_M, F.BSIc_STAT_STATE, A.BSIc_STAT, A.BSIc_ALPHA, A.BSIc_DCEST]
    omega
  unfold bsiOutput
  extract_lets q fz m y s1
  split
  · exact bsiView_setBsi s rfl
  · have h1 : s1.bsiView c = s.bsiView c := (bsiView_set _ _ (hk _ (by simp))).trans (bsiView_set _ _ (hk _ (by simp)))
    refine (bsiView_setBsi _ ?_).trans ((bsiView_set _ _ (hk _ (by simp))).trans h1)
    rfl

theorem bsiStage_view (c : Nat) (v : Int) (s : State) : (bsiStage c v s).bsiView c = s.bsiView c := by
  unfold bsiStage
  extract_lets p q comp y half s1
  split
  · exact bsiOutput_view ..
  split
  · exact (bsiOutput_view ..).trans (bsiView_setBsi s rfl)
  have h1 : s1.bsiView c = s.bsiView c := bsiView_setBsi s rfl
  split
  · exact (bsiOutput_view ..).trans h1
  · exact h1

theorem bsiBit_view (c : Nat) (one : Bool) (s : State) : (bsiBit c s one).bsiView c = s.bsiView c := by
  unfold bsiBit
  extract_lets p n w q x i
  split
  · exact bsiView_setBsi s rfl
  · obtain ⟨v, d⟩ := combs w (i.getLastD 0) (if q.comb.isEmpty then List.replicate n 0 else q.comb)
    dsimp only
    exact (bsiStage_view ..).trans (bsiView_setBsi s rfl)

theorem bsiDetect_view (c : Nat) (x : Int) (s : State) :
    (bsiDetect c x s).bsiView c = s.bsiView c ∧ ((bsiDetect c x s).bsiS c).out = (s.bsiS c).out := by
  have hk : ∀ f ∈ [F.BSIc_PEAK_P c, F.BSIc_RMS_R c, F.BSIc_ENV_E c, F.BSIc_MS_MS c], Fd.key (F.BSIc_STAT_STATE c) ≠ Fd.key f := by
    simp only [List.mem_cons, List.not_mem_nil, or_false, forall_eq_or_imp, forall_eq, Fd.key, F.BSIc_PEAK_P, F.BSIc_RMS_R,
      F.BSIc_ENV_E, F.BSIc_MS_MS, F.BSIc_STAT_STATE, A.BSIc_STAT, A.BSIc_PEAK, A.BSIc_RMS, A.BSIc_ENV, A.BSIc_MS]
    omega
  unfold bsiDetect
  extract_lets q top co a sq ms k e
  generalize (if q.p ≤ a then _ else _ : Int × Nat) = r
  obtain ⟨p, h⟩ := r
  dsimp only
  obtain ⟨s1, hs1, h1⟩ : ∃ s1 : State, s1 = s.setBsi c { q with p := p, h := h, ms := ms, e := e }
      ∧ s1.bsiView c = s.bsiView c ∧ (s1.bsiS c).out = (s.bsiS c).out := by
    refine ⟨_, rfl, bsiView_setBsi s rfl, ?_⟩
    rw [bsiS_setBsi]
  rw [← hs1]
  refine ⟨?_, by rw [bsiS_set, bsiS_set, bsiS_set, bsiS_set, h1.2]⟩
  rw [bsiView_set _ _ (hk _ (by simp)), bsiView_set _ _ (hk _ (by simp)), bsiView_set _ _ (hk _ (by simp)),
    bsiView_set _ _ (hk _ (by simp)), h1.1]

theorem isTap_bsiTap {c : Nat} (hc : c < 32) : isTap (bsiTap c) = true := by
  interval_cases c <;> rfl

theorem KeepsBlock.bsiState {c : Nat} {s w : State} (h : KeepsBlock 0x2012 s w) (hc : c < 32) : w.bsiState c = s.bsiState c :=
  h (F.BSIc_STAT_STATE c) (by simp [F.BSIc_STAT_STATE]) (by simp only [blockOf, F.BSIc_STAT_STATE, A.BSIc_STAT]; omega)

/-- The channel's part of a commit: the bits, the value and where the ramp stands. -/
theorem bsiCommit_does {c d : Nat} {s : State} (ones : List Bool) (hc : c < 32) (hst : bsFILL ≤ s.bsiState c) (hbr : s.breathing = true)
    (hstart : (s.bsiS c).start = some d) (hfrom : 0 ≤ sx 72 (ux 72 ((s.breathAt s.n : Int) - d))) (hdue : s.reached s.n 120 = true)
    (hat : (s.tap (bsiTap c)).at_ ≤ s.n) {u : State} (hu : u = bsiCommit c ones s) :
    (u.tap (bsiTap c)).at_ = s.n + 1 ∧ (u.tap (bsiTap c)).prev = (s.tap (bsiTap c)).cur ∧ u.bsiState c = s.bsiState c
    ∧ (s.bsiState c = bsFILL → (u.tap (bsiTap c)).cur = 0)
    ∧ (s.bsiState c = bsRAMPIN → (u.bsiS c).rampK = (s.bsiS c).rampK + 1)
    ∧ (s.bsiState c = bsRUN → (u.tap (bsiTap c)).cur = (u.bsiS c).out) := by
  unfold bsiCommit at hu
  extract_lets st from_ clocked s1 q k x s2 s3 at hu
  have hfrom' : from_ = true := by
    show (match (s.bsiS c).start with | some d => decide _ | none => false) = true
    rw [hstart]
    exact decide_eq_true hfrom
  rw [if_neg] at hu
  swap
  · rw [hbr, hdue, hfrom', State.committed, beq_false_of_ne (by omega), decide_eq_true hst]
    decide
  have h1 : s1.bsiView c = s.bsiView c := foldl_keeps (fun u : State => u.bsiView c) _ _ _ fun b _ w => bsiBit_view c b w
  have h1d : s1.disp = s.disp := congrArg (·.2.2.2) h1
  have h1m : s1.mtx = s.mtx := congrArg (·.2.2.1) h1
  have h1k : (s1.bsiS c).rampK = (s.bsiS c).rampK := congrArg (·.2.1) h1
  have h1s : s1.bsiState c = s.bsiState c := congrArg (·.1) h1
  have h2 : s2.bsiState c = s.bsiState c ∧ s2.mtx = s.mtx ∧ s2.disp = s.disp ∧ (s2.bsiS c).out = q.out
      ∧ (s.bsiState c = bsRAMPIN → (s2.bsiS c).rampK = (s.bsiS c).rampK + 1) := by
    rcases eq_or_ne (s.bsiState c) bsRAMPIN with e | e
    · have h : s2 = s1.setBsi c { q with rampK := k } := if_pos (beq_iff_eq.mpr e)
      rw [h, bsiS_setBsi]
      exact ⟨h1s, h1m, h1d, rfl, fun _ => congrArg (· + 1) h1k⟩
    · have h : s2 = s1 := if_neg (by simpa using e)
      rw [h]
      exact ⟨h1s, h1m, h1d, rfl, fun h => absurd h e⟩
  have h3 : s3.bsiState c = s.bsiState c ∧ s3.mtx = s.mtx ∧ s3.disp = s.disp ∧ (s3.bsiS c).out = q.out
      ∧ (s.bsiState c = bsRAMPIN → (s3.bsiS c).rampK = (s.bsiS c).rampK + 1) := by
    obtain ⟨h2s, h2m, h2d, h2o, h2k⟩ := h2
    by_cases e : s2.bsiSense c = true
    · have h : s3 = s2 := if_pos e
      rw [h]
      exact ⟨h2s, h2m, h2d, h2o, h2k⟩
    · have h : s3 = bsiDetect c x s2 := if_neg e
      obtain ⟨hv, ho⟩ := bsiDetect_view c x s2
      rw [h]
      exact ⟨(congrArg (·.1) hv).trans h2s, (congrArg (·.2.2.1) hv).trans h2m, (congrArg (·.2.2.2) hv).trans h2d, ho.trans h2o,
        fun he => (congrArg (·.2.1) hv).trans (h2k he)⟩
  have hx : (s.bsiState c = bsFILL → x = 0) ∧ (s.bsiState c = bsRUN → x = q.out) := by
    refine ⟨fun e => if_pos (beq_iff_eq.mpr e), fun e => ?_⟩
    have hst : st = bsRUN := e
    show (if st == bsFILL then 0 else if st == bsRAMPIN && k < 32 then rampVal 0 q.out k 32 else q.out) = q.out
    rw [hst]
    rfl
  clear_value s3 s2 s1 x
  obtain ⟨h3s, h3m, h3d, h3o, h3k⟩ := h3
  obtain ⟨w, hw, hwtap, hws, hwb⟩ : ∃ w : State, w = commitTap (bsiTap c) x s3.n s3
      ∧ w.tap (bsiTap c) = ⟨x, (s.tap (bsiTap c)).cur, (s.tap (bsiTap c)).prev, s.n + 1⟩ ∧ w.bsiState c = s.bsiState c
      ∧ w.bsi = s3.bsi := by
    have htap : s3.tap (bsiTap c) = s.tap (bsiTap c) := by rw [State.tap, h3m]; rfl
    have hn : s3.n = s.n := congrArg DispS.n h3d
    refine ⟨_, rfl, ?_, ?_, ?_⟩
    · rw [commitTap_tap_same (isTap_bsiTap hc) x (by rw [htap, hn]; exact hat), htap, hn]
    · exact (keepsBlock_commitTap (b := 0x2012) (by decide) _ _ _ s3 |>.bsiState hc).trans h3s
    · obtain ⟨_, _, _, _, h⟩ := commitOnly_commitTap (bsiTap c) x s3.n s3
      rw [h]
  obtain ⟨m, d', hm⟩ := FiresOnly.trans (firesOnly_arrive (8192 + c) s3.n (some s3.dev) w) (.refl _)
  have huw : u = arrive (8192 + c) s3.n (some s3.dev) w := by rw [hu, hw]
  have hutap : u.tap (bsiTap c) = w.tap (bsiTap c) := by rw [huw, hm]; rfl
  have hubsi : u.bsiS c = s3.bsiS c := bsiS_congr (by rw [huw, hm]; exact hwb) c
  have hust : u.bsiState c = w.bsiState c := by
    rw [huw]
    exact (keepsBlock_arrive (b := 0x2012) (by decide) (by decide) _ _ _ w).bsiState hc
  rw [hutap, hubsi, hust, hwtap, hws]
  exact ⟨rfl, rfl, rfl, hx.1, h3k, fun e => (hx.2 e).trans h3o.symm⟩

end Sys2Proof.Machine

open Sys2Proof Sys2Proof.Machine

/-- Settles O46, by what each command writes: the configuration, the state that BSI_STAT counts, a tap. -/
theorem bitstreamRowsComplete : Obligations.BitstreamRowsComplete := by
  unfold Obligations.BitstreamRowsComplete
  refine ⟨?_, ?_, ?_, ?_, ?_, ?_, ?_⟩
  · intro m c v s hc h hen
    obtain ⟨hcase, hstore⟩ := wrBsiCfg_enable hc v hen rfl
    refine ⟨_, (done_alive _ h.alive :), ?_⟩
    rw [guarded_admitted _ h]
    have hEN : Fd.quiet (F.BSIc_CFG_EN c) = true := bsiCfg_quiet hc (by simp [F.BSIc_CFG_EN]) rfl
    have hERR : Fd.quiet (F.BSIc_STAT_CFGERR c) = true := bsiStat_quiet hc (by simp [F.BSIc_STAT_CFGERR]) rfl
    have hST : Fd.quiet (F.BSIc_STAT_STATE c) = true := bsiStat_quiet hc (by simp [F.BSIc_STAT_STATE]) rfl
    refine ⟨answers_sumTick .., ?_, keepsStore_sumTick _ _ _ _ hstore⟩
    simp only [State.bsiState, respond_get _ _ _ _ _ _ hEN, respond_get _ _ _ _ _ _ hERR, respond_get _ _ _ _ _ _ hST]
    exact hcase
  · intro m c v s hc h hen
    obtain ⟨h1, h2, h3, hstore⟩ := wrBsiCfg_disable hc v hen rfl
    refine ⟨_, (done_alive _ h.alive :), ?_⟩
    rw [guarded_admitted _ h]
    refine ⟨answers_sumTick .., ?_, ?_, ?_, keepsStore_sumTick _ _ _ _ hstore⟩
    · exact (respond_get _ _ _ _ _ _ (bsiCfg_quiet hc (by simp [F.BSIc_CFG_EN]) rfl)).trans h1
    · exact (respond_get _ _ _ _ _ _ (bsiStat_quiet hc (by simp [F.BSIc_STAT_STATE]) rfl)).trans h2
    · exact (bsiS_congr (by rw [sumTick_bsi, State.respond_bsi]) c).trans h3
  · intro m c v s hc h hen hv
    obtain ⟨h1, hkeep, hstore⟩ := wrBsiCfg_freeze hen hv rfl
    refine ⟨_, (done_alive _ h.alive :), ?_⟩
    rw [guarded_admitted _ h]
    exact ⟨answers_sumTick .., (respond_get _ _ _ _ _ _ (bsiCfg_quiet hc (by simp [F.BSIc_CFG_FREEZE]) rfl)).trans h1,
      keepsFields_sumTick _ _ _ _ hkeep, keepsStore_sumTick _ _ _ _ hstore⟩
  · intro c t s hc ha hst hmade
    obtain ⟨h1, h2, hkeep, hstore⟩ := bsiFillDone_shows (s := s.atTime t) hst hmade
    exact ⟨_, done_alive _ ha, (sumTick_get _ _ (bsiStat_quiet hc (by simp [F.BSIc_STAT_STATE]) rfl)).trans h1,
      (bsiS_congr (sumTick_bsi ..) c).trans h2, KeepsFields.sumTick (s := s) _ hkeep, KeepsStore.sumTick (s := s) _ hstore⟩
  · intro c t s hc ha hst hk
    obtain ⟨h1, hkeep, hstore⟩ := bsiRampinEnd_shows (s := s.atTime t) hst hk
    exact ⟨_, done_alive _ ha, (sumTick_get _ _ (bsiStat_quiet hc (by simp [F.BSIc_STAT_STATE]) rfl)).trans h1,
      KeepsFields.sumTick (s := s) _ hkeep, KeepsStore.sumTick (s := s) _ hstore⟩
  · intro c t d ones s ha hc hst hbr hstart hfrom hdue hat
    obtain ⟨h1, h2, h3, h4, h5, h6⟩ := bsiCommit_does (s := s.atTime t) ones hc hst hbr hstart hfrom hdue hat rfl
    refine ⟨_, done_alive _ ha, ?_⟩
    have htap : ∀ x y : State, (sumTick x y).tap (bsiTap c) = y.tap (bsiTap c) := fun x y => by rw [State.tap, sumTick_mtx]; rfl
    have hS : ∀ x y : State, (sumTick x y).bsiS c = y.bsiS c := fun x y => bsiS_congr (sumTick_bsi ..) c
    rw [htap, hS]
    exact ⟨h1, h2, (sumTick_get _ _ (bsiStat_quiet hc (by simp [F.BSIc_STAT_STATE]) rfl)).trans h3, h4, h5, h6⟩
  · intro c ones total t s w hc ha hst htotal hbits hw
    obtain ⟨hgo, h1, h2, hkeep⟩ := bsiOverload_raises (s := s.atTime t) hc hst htotal hbits hw
    refine ⟨_, done_alive _ ha, ?_, h1, h2, hkeep⟩
    rw [hgo]
    exact leaves_sumTick ..
end

section
/-!
DEVICE TIME. Rates and folds, servo epochs, snapshots, pulses, captures and the queue of stamps.
-/
namespace Sys2Proof.Machine

/-! ## The correction -/

theorem State.dev_congr {s w : State} (hnow : w.now = s.now) (htime : w.time = s.time)
    (hrate : w.get F.TIME_RATE_RATE = s.get F.TIME_RATE_RATE) : w.dev = s.dev := by
  simp only [State.dev, State.raw, State.rate, hnow, htime, hrate]

theorem ux_sx_mod (w v : Nat) : ux w (sx w v) = v % 2 ^ w := by
  have h : sx w v = sx w (v % 2 ^ w) := by simp only [sx, Nat.mod_mod]
  rw [h, ux_sx (Nat.mod_lt _ (Nat.two_pow_pos w))]

/-- A fold into the base: device time does not move, the base is the present, and of the registers only RATE is written. -/
theorem putRate_folds (v : Int) (s : State) {u : State} (hu : u = putRate v s) :
    u.dev = s.dev ∧ u.time.e = s.raw ∧ u.get F.TIME_RATE_RATE = ux 32 v ∧ KeepsFields [F.TIME_RATE_RATE] s u ∧ KeepsStore s u := by
  have hfld : u.fld = (s.set F.TIME_RATE_RATE (ux 32 v)).fld := by rw [hu]; rfl
  have hget : u.get F.TIME_RATE_RATE = ux 32 v := by
    rw [State.get_congr hfld, State.get_set_same]
    exact Nat.mod_eq_of_lt (ux_lt 32 v)
  have hc : u.time.c = s.time.c + s.rate * ((s.raw : Int) - s.time.e) := by rw [hu]; rfl
  have he : u.time.e = s.raw := by rw [hu]; rfl
  have hraw : u.raw = s.raw := by rw [hu]; rfl
  refine ⟨?_, he, hget, ((KeepsFields.refl _ s).set _ (by simp)).congr hfld, by rw [hu]; exact ⟨rfl, rfl, rfl⟩⟩
  rw [State.dev, State.dev, hc, he, hraw]
  simp only [corrected, sub_self, mul_zero, add_zero]

/-! ## Servo epochs and snapshots -/

theorem wrServo_arms {v : Nat} (hv : Keyed v) (s : State) : (wrServo v s).get F.TIME_STAT_ARMED = 1
    ∧ (wrServo v s).get F.TIME_STAT_EPOCH = (s.get F.TIME_STAT_EPOCH + 1) % 2 ^ 8
    ∧ KeepsFields [F.TIME_STAT_ARMED, F.TIME_STAT_EPOCH] s (wrServo v s) ∧ KeepsStore s (wrServo v s) := by
  have hgo : wrServo v s = (s.set F.TIME_STAT_ARMED 1).set F.TIME_STAT_EPOCH ((s.set F.TIME_STAT_ARMED 1).get F.TIME_STAT_EPOCH + 1) :=
    if_pos (by rw [hv.1, hv.2]; rfl)
  rw [hgo, State.get_set_other s _ (by decide : Fd.key F.TIME_STAT_EPOCH ≠ Fd.key F.TIME_STAT_ARMED)]
  refine ⟨?_, State.get_set_same .., ((KeepsFields.refl _ s).set _ (by simp)).set _ (by simp), rfl, rfl, rfl⟩
  rw [State.get_set_other _ _ (by decide)]
  exact get_of_set rfl

/-- A number below 2^64 in two words. -/
theorem two_words {n : Nat} (h : n < 2 ^ 64) : n / 2 ^ 32 % 2 ^ 32 * 2 ^ 32 + n % 2 ^ 32 = n := by omega

theorem wrSnap_takes {v : Nat} (hv : bitOf v 0 = true) (s : State) {u : State} (hu : u = wrSnap v s) :
    u.get F.TIME_SNAP_NS_HI_NS * 2 ^ 32 + u.get F.TIME_SNAP_NS_LO_NS = s.devNs % 2 ^ 64
    ∧ u.get F.TIME_SNAP_SEC_HI_SEC_HI * 2 ^ 32 + u.get F.TIME_SNAP_SEC_LO_SEC_LO = s.devNs % 2 ^ 64 / 1000000000
    ∧ KeepsFields [F.TIME_SNAP_NS_HI_NS, F.TIME_SNAP_NS_LO_NS, F.TIME_SNAP_SEC_HI_SEC_HI, F.TIME_SNAP_SEC_LO_SEC_LO] s u
    ∧ KeepsStore s u := by
  have hns : s.devNs % 2 ^ 64 < 2 ^ 64 := Nat.mod_lt _ (by decide)
  rw [wrSnap, if_neg (by rw [hv]; decide)] at hu
  generalize s.devNs % 2 ^ 64 = ns at hu hns
  rw [hu]
  refine ⟨?_, ?_, ((((KeepsFields.refl _ s).set _ (by simp)).set _ (by simp)).set _ (by simp)).set _ (by simp), rfl, rfl, rfl⟩
  · rw [State.get_set_other _ _ (by decide), State.get_set_other _ _ (by decide), State.get_set_same, State.get_set_other _ _ (by decide),
      State.get_set_other _ _ (by decide), State.get_set_other _ _ (by decide), State.get_set_same]
    exact two_words hns
  · rw [State.get_set_same, State.get_set_other _ _ (by decide), State.get_set_same]
    show ns / 1000000000 / 2 ^ 32 % 2 ^ 16 * 2 ^ 32 + ns / 1000000000 % 2 ^ 32 = ns / 1000000000
    omega

/-! ## Pulses -/

theorem pulseEnd_ends {o e : Nat} {s : State} (he : (mget {} o s.time.ttrig).until_ = some e)
    (hdue : sx 72 (ux 72 ((e : Int) - s.dev)) ≤ 0) :
    mget {} o (pulseEnd o s).time.ttrig = {} ∧ (pulseEnd o s).fld = s.fld ∧ KeepsStore s (pulseEnd o s) := by
  have hgo : pulseEnd o s = { s with time := { s.time with ttrig := mset {} o {} s.time.ttrig } } := by
    rw [pulseEnd, he]
    exact if_pos hdue
  rw [hgo]
  exact ⟨(mget_mset_same ({} : TtrigS) o {} s.time.ttrig :), rfl, rfl, rfl, rfl⟩

/-! ## Captures and the queue of stamps -/

theorem capPush_does {c : Nat} (st : Stamp) (s : State) {u : State} (hu : u = capPush c st s) :
    (if 4 ≤ (mget [] c s.time.caps).length then u.get (F.CAP_STAT_OVF c) = 1 ∧ u.time = s.time ∧ KeepsFields [F.CAP_STAT_OVF c] s u
      else mget [] c u.time.caps = mget [] c s.time.caps ++ [st] ∧ u.get (F.CAP_STAT_COUNT c) = (mget [] c s.time.caps).length + 1
        ∧ KeepsFields [F.CAP_STAT_COUNT c, F.TIME_EVT_CAP] s u)
    ∧ KeepsStore s u := by
  rw [hu]
  unfold capPush
  extract_lets q s1 s2
  split
  · exact ⟨⟨State.get_set_same .., rfl, (KeepsFields.refl _ s).set _ (by simp)⟩, rfl, rfl, rfl⟩
  · next h =>
    have h1 : KeepsFields [F.CAP_STAT_COUNT c, F.TIME_EVT_CAP] s s1 := (KeepsFields.refl _ s).setBit _ _ (by simp)
    refine ⟨⟨mget_mset_same .., ?_, h1.set _ (by simp)⟩, rfl, rfl, rfl⟩
    rw [State.get_set_same]
    exact Nat.mod_eq_of_lt (Nat.succ_lt_succ ((Nat.lt_of_not_le h).trans_le (by decide : 4 ≤ 7)))

theorem captureEdge_takes {c : Nat} {rising : Bool} {s : State} (hc : c < 4) (hen : s.get (F.CAP_CFG_EN c) = 1)
    (hsrc : s.get (F.CAP_CFG_SRC c) = 2 ∨ s.get (F.CAP_CFG_SRC c) = (if rising then 0 else 1)) :
    captureEdge c rising s = capPush c ⟨s.devNs, s.devFrac⟩ s := by
  unfold captureEdge
  refine if_pos ?_
  have hon : s.on (F.CAP_CFG_EN c) = true := by rw [State.on, hen]; rfl
  rw [decide_eq_true hc, hon, Bool.true_and, Bool.true_and, Bool.or_eq_true, beq_iff_eq, beq_iff_eq]
  exact hsrc

theorem capRead_takes (c : Nat) (s : State) :
    (match mget [] c s.time.caps with
      | [] => (capRead c s).1 = 0 ∧ (capRead c s).2.get (F.CAP_STAT_VALID c) = 0
      | st :: r => (capRead c s).1 = st.ns % 2 ^ 32 ∧ (capRead c s).2.get (F.CAP_STAT_VALID c) = 1
          ∧ (capRead c s).2.get (F.CAP_TS_HI_NS_HI c) = st.ns / 2 ^ 32 % 2 ^ 32 ∧ (capRead c s).2.get (F.CAP_STAT_FRAC c) = st.frac % 2 ^ 8
          ∧ mget [] c (capRead c s).2.time.caps = r)
    ∧ KeepsFields [F.CAP_STAT_COUNT c, F.CAP_STAT_VALID c, F.CAP_STAT_FRAC c, F.CAP_TS_HI_NS_HI c] s (capRead c s).2
    ∧ KeepsStore s (capRead c s).2 := by
  have hVF : Fd.key (F.CAP_STAT_FRAC c) ≠ Fd.key (F.CAP_STAT_VALID c) := by simp [Fd.key, F.CAP_STAT_FRAC, F.CAP_STAT_VALID]
  have hHF : Fd.key (F.CAP_TS_HI_NS_HI c) ≠ Fd.key (F.CAP_STAT_FRAC c) := by
    simp only [Fd.key, F.CAP_TS_HI_NS_HI, F.CAP_STAT_FRAC, A.CAP_TS_HI, A.CAP_STAT]; omega
  have hHV : Fd.key (F.CAP_TS_HI_NS_HI c) ≠ Fd.key (F.CAP_STAT_VALID c) := by
    simp only [Fd.key, F.CAP_TS_HI_NS_HI, F.CAP_STAT_VALID, A.CAP_TS_HI, A.CAP_STAT]; omega
  unfold capRead
  generalize mget [] c s.time.caps = q
  cases q with
  | nil =>
    exact ⟨⟨rfl, get_of_set rfl⟩, (((KeepsFields.refl _ s).set _ (by simp)).set _ (by simp)).set _ (by simp), rfl, rfl, rfl⟩
  | cons st r =>
    refine ⟨⟨rfl, get_of_set rfl, ?_, ?_, mget_mset_same ..⟩, ?_, rfl, rfl, rfl⟩
    · exact (State.get_set_other _ _ hHV).trans ((State.get_set_other _ _ hHF).trans (State.get_set_same ..))
    · exact (State.get_set_other _ _ hVF).trans (State.get_set_same ..)
    · refine KeepsFields.set _ (KeepsFields.set _ (KeepsFields.set _ (KeepsFields.set _ ?_ (by simp)) (by simp)) (by simp)) (by simp)
      exact .of_fld _ rfl

theorem txtsRead_takes (p : Nat) (s : State) :
    (match mget [] p s.time.txts with
      | [] => (txtsRead p s).1 = 0 ∧ (txtsRead p s).2.get (F.TXTS_TAG_VALID p) = 0
      | e :: r => (txtsRead p s).1 = e.ts ∧ (txtsRead p s).2.get (F.TXTS_TAG_VALID p) = 1
          ∧ (txtsRead p s).2.get (F.TXTS_TAG_TAG p) = e.tag % 2 ^ 16 ∧ mget [] p (txtsRead p s).2.time.txts = r)
    ∧ KeepsFields [F.TXTS_STAT_COUNT p, F.TXTS_TAG_VALID p, F.TXTS_TAG_TAG p] s (txtsRead p s).2 ∧ KeepsStore s (txtsRead p s).2 := by
  have hVT : Fd.key (F.TXTS_TAG_VALID p) ≠ Fd.key (F.TXTS_TAG_TAG p) := by simp [Fd.key, F.TXTS_TAG_VALID, F.TXTS_TAG_TAG]
  unfold txtsRead
  generalize mget [] p s.time.txts = q
  cases q with
  | nil =>
    refine ⟨⟨rfl, (State.get_set_other _ _ hVT).trans (get_of_set rfl)⟩, ?_, rfl, rfl, rfl⟩
    exact ((KeepsFields.refl _ s).set _ (by simp)).set _ (by simp)
  | cons e r =>
    refine ⟨⟨rfl, (State.get_set_other _ _ hVT).trans (get_of_set rfl), State.get_set_same .., mget_mset_same ..⟩, ?_, rfl, rfl, rfl⟩
    refine KeepsFields.set _ (KeepsFields.set _ (KeepsFields.set _ ?_ (by simp)) (by simp)) (by simp)
    exact .of_fld _ rfl

/-! ## What a firing writes (R254, R255) -/

/-- Registers that captures write. -/
def captureFields : List Fd := F.TIME_EVT_TRIG :: F.TIME_EVT_CAP :: [4, 5, 6, 7].flatMap fun c => [F.CAP_STAT_OVF c, F.CAP_STAT_COUNT c]

/-- A field of TIME apart from what captures write: of TIME_STAT or of a trigger. -/
def OffCapture (f : Fd) : Prop := f.lsb < 32 ∧ (f.addr = A.TIME_STAT ∨ 0x20040100 ≤ f.addr ∧ f.addr < 0x20040200)

theorem OffCapture.key_ne {f : Fd} (h : OffCapture f) : ∀ g ∈ captureFields, Fd.key f ≠ Fd.key g := fun g hg => by
  have hg' : g.lsb < 32 ∧ g.addr ≠ A.TIME_STAT ∧ ¬ (0x20040100 ≤ g.addr ∧ g.addr < 0x20040200) := by
    revert g; decide
  obtain ⟨hl, ha⟩ := h
  obtain ⟨hgl, h1, h2⟩ := hg'
  refine Fd.key_ne hl hgl (.inl fun e => ?_)
  rcases ha with ha | ha
  · exact h1 (e ▸ ha)
  · exact h2 (e ▸ ha)

theorem OffCapture.block {f : Fd} (h : OffCapture f) : blockOf f = 0x2004 := by
  obtain ⟨_, ha⟩ := h
  simp only [blockOf, A.TIME_STAT] at ha ⊢
  omega

theorem OffCapture.quiet {f : Fd} (h : OffCapture f) : Fd.quiet f = true := by
  obtain ⟨hl, ha⟩ := h
  refine Fd.quiet_of_block hl (.inl ?_)
  simp only [A.TIME_STAT] at ha
  omega

theorem capEvent_get {f : Fd} (h : OffCapture f) (src arg : Nat) (s : State) : (capEvent src arg s).get f = s.get f := by
  refine foldl_keeps (fun u : State => u.get f) _ _ _ fun c hc u => ?_
  have hin : F.TIME_EVT_CAP ∈ captureFields ∧ F.CAP_STAT_OVF c ∈ captureFields ∧ F.CAP_STAT_COUNT c ∈ captureFields := by
    simp only [List.mem_cons, List.not_mem_nil, or_false] at hc
    rcases hc with rfl | rfl | rfl | rfl <;> decide
  obtain ⟨hE, hO, hC⟩ := hin
  split
  · unfold capPush
    extract_lets q s1 s2
    split
    · exact State.get_set_other _ _ (h.key_ne _ hO)
    · exact (State.get_set_other _ _ (h.key_ne _ hC)).trans (State.get_set_other u _ (h.key_ne _ hE))
  · rfl

/-- Two clocks with the same correction and the same triggers. -/
def SameTriggers (s w : State) : Prop := w.time.c = s.time.c ∧ w.time.trig = s.time.trig

theorem SameTriggers.trans {s w x : State} (h : SameTriggers s w) (k : SameTriggers w x) : SameTriggers s x :=
  ⟨k.1.trans h.1, k.2.trans h.2⟩

theorem sameTriggers_of_time {s w : State} (h : w.time = s.time) : SameTriggers s w := by
  rw [SameTriggers, h]
  exact ⟨rfl, rfl⟩

theorem sameTriggers_capEvent (src arg : Nat) (s : State) : SameTriggers s (capEvent src arg s) := by
  refine List.foldlRecOn _ _ (motive := fun u => SameTriggers s u) ⟨rfl, rfl⟩ fun u hu c _ => hu.trans ?_
  split
  · unfold capPush
    dsimp only
    split <;> exact ⟨rfl, rfl⟩
  · exact ⟨rfl, rfl⟩

/-! ## The actions -/

theorem tickCredits_keeps (s : State) : ∃ n, tickCredits s = { s with net := n } := by
  refine List.foldlRecOn _ _ (motive := fun u : State => ∃ n, u = { s with net := n }) ⟨_, rfl⟩ fun u hu p _ => ?_
  obtain ⟨n, rfl⟩ := hu
  exact ⟨_, rfl⟩

theorem keepsBlock_setAnchor {b : Nat} (hb : b ≠ 0x2005) (a : Int) (s : State) : KeepsBlock b s (s.setAnchor a) := by
  unfold State.setAnchor
  generalize ux 72 a = v
  exact (((KeepsBlock.refl b s).set _ (by decide) (by exact hb.symm)).set _ (by decide) (by exact hb.symm)).set _ (by decide)
    (by exact hb.symm)

theorem setAnchor_time (a : Int) (s : State) : (s.setAnchor a).time = s.time := by
  unfold State.setAnchor
  generalize ux 72 a = v
  rfl

/-- The anchor trigger writes the anchor and the dispatcher's state, in block 5, and leaves the clock alone. -/
theorem dispAnchor_keeps {b : Nat} (hb : b ≠ 0x2005) (t : Nat) (s : State) :
    KeepsBlock b s (dispAnchor t s) ∧ (dispAnchor t s).time = s.time := by
  unfold dispAnchor
  extract_lets s1 k d goOn new s2 st s3 re mx dd s4
  clear_value new goOn re
  have h1 : KeepsBlock b s s1 ∧ s1.time = s.time := by
    obtain ⟨n, h⟩ := tickCredits_keeps s
    rw [show s1 = _ from h]
    exact ⟨.of_fld rfl, rfl⟩
  clear_value s1
  have h2 : KeepsBlock b s s2 ∧ s2.time = s.time := ⟨h1.1.trans (keepsBlock_setAnchor hb _ s1), (setAnchor_time _ s1).trans h1.2⟩
  clear_value s2
  have h3 : KeepsBlock b s s3 ∧ s3.time = s.time := ⟨h2.1.congr rfl, h2.2⟩
  have h4 : KeepsBlock b s s4 ∧ s4.time = s.time := by
    unfold s4
    split
    · exact h3
    · exact ⟨h3.1.congr rfl, h3.2⟩
  clear_value s4
  have h5 : KeepsBlock b s (if goOn then s4 else restartHistory (fun _ => true) s4)
      ∧ (if goOn then s4 else restartHistory (fun _ => true) s4).time = s.time := by
    split
    · exact h4
    · exact ⟨h4.1.congr rfl, h4.2⟩
  exact ⟨h5.1.set _ (by decide) (by exact hb.symm), h5.2⟩

theorem sapStart_keeps (mask : Nat) (s : State) : ∃ x, sapStart mask s = { s with sap := x } := by
  refine List.foldlRecOn _ _ (motive := fun u : State => ∃ x, u = { s with sap := x }) ⟨_, rfl⟩ fun u hu p _ => ?_
  obtain ⟨x, rfl⟩ := hu
  split
  · exact ⟨_, rfl⟩
  · exact ⟨_, rfl⟩

theorem bsiStart_keeps {b : Nat} (hb : b ≠ 0x2012) (mask : Nat) (s : State) :
    KeepsBlock b s (bsiStart mask s) ∧ (bsiStart mask s).time = s.time := by
  refine List.foldlRecOn _ _ (motive := fun u : State => KeepsBlock b s u ∧ u.time = s.time) ⟨.refl b s, rfl⟩ fun u hu c hc => ?_
  split
  · obtain ⟨hk, ht⟩ := hu
    unfold bsiStart1
    extract_lets s1
    have hc := List.mem_range.mp hc
    have h1 : KeepsBlock b s s1 := fun f hl hf => by
      have hkey : Fd.key f / 32 = f.addr := by
        simp only [Fd.key]
        omega
      have hno : ¬ (decide (0x20 ≤ f.addr % 0x40) && f.addr - f.addr % 0x40 == A.BSIc_CFG c) = true := by
        intro h
        rw [Bool.and_eq_true, beq_iff_eq, A.BSIc_CFG] at h
        refine hb (hf.symm.trans ?_)
        simp only [blockOf]
        omega
      rw [State.get_resetRegs, hkey, if_neg hno]
      exact hk f hl hf
    refine ⟨?_, ht⟩
    refine KeepsBlock.set (KeepsBlock.set (h1.congr (x := s1.setBsi c { start := some s1.dev }) rfl) _ ?_ ?_) _ (by decide) (by exact hb.symm)
    · simp [F.BSIc_STAT_STATE]
    · simp only [blockOf, F.BSIc_STAT_STATE, A.BSIc_STAT]
      omega
  · exact hu

theorem ttrig_keeps (o p : Nat) (s : State) : (ttrig o p s).fld = s.fld ∧ SameTriggers s (ttrig o p s) := ⟨rfl, rfl, rfl⟩

/-- What trigger `k` writes beside captures when it fires. -/
def fireFields (k : Nat) : List Fd := [F.TRIG_FIRED_LO_NS k, F.TRIG_FIRED_HI_NS k, F.TRIG_STAT_FIRES k, F.TRIG_STAT_IGNORED k]

theorem key_ignored_fires (k : Nat) : Fd.key (F.TRIG_STAT_FIRES k) ≠ Fd.key (F.TRIG_STAT_IGNORED k) := by
  simp [Fd.key, F.TRIG_STAT_FIRES, F.TRIG_STAT_IGNORED]

/-- An action writes, of what captures leave, IGNORED alone. -/
theorem fireTrigger_acts {k : Nat} (hk : k < 8) (s : State) : ∃ w u : State,
    w = capEvent 3 k ((((s.set (F.TRIG_FIRED_LO_NS k) s.devNs).set (F.TRIG_FIRED_HI_NS k) (s.devNs / 2 ^ 32)).inc (F.TRIG_STAT_FIRES k)).setBit
      F.TIME_EVT_TRIG k true)
    ∧ u = fireTrigger k s ∧ SameTriggers w u
    ∧ (∀ f, OffCapture f → Fd.key f ≠ Fd.key (F.TRIG_STAT_IGNORED k) → u.get f = w.get f)
    ∧ (w.dstate ≠ dArmed → KeepsBlock 0x2005 w u) := by
  unfold fireTrigger
  extract_lets s1 w tgt
  refine ⟨w, _, rfl, rfl, ?_⟩
  clear_value w
  split
  · split
    · next harm =>
      obtain ⟨hk, ht⟩ := dispAnchor_keeps (b := 0x2004) (by decide) w.dev w
      exact ⟨sameTriggers_of_time ht, fun f hf _ => hk f hf.1 hf.block, fun h => absurd (beq_iff_eq.mp harm) h⟩
    · refine ⟨⟨rfl, rfl⟩, fun f _ hne => State.get_set_other _ _ hne, fun _ => (KeepsBlock.refl _ w).set _ (by simp [F.TRIG_STAT_IGNORED]) ?_⟩
      simp only [blockOf, F.TRIG_STAT_IGNORED, A.TRIG_STAT]
      omega
  · obtain ⟨x, h⟩ := sapStart_keeps (tgt % 65536) w
    rw [h]
    exact ⟨⟨rfl, rfl⟩, fun _ _ _ => rfl, fun _ => .of_fld rfl⟩
  · obtain ⟨hk, ht⟩ := bsiStart_keeps (b := 0x2004) (by decide) tgt w
    exact ⟨sameTriggers_of_time ht, fun f hf _ => hk f hf.1 hf.block, fun _ => (bsiStart_keeps (by decide) tgt w).1⟩
  · obtain ⟨hf, ht⟩ := ttrig_keeps (w.get (F.TRIG_CFG_OUT k)) (w.get (F.TRIG_CFG_PULSE k)) w
    exact ⟨ht, fun f _ _ => State.get_congr hf f, fun _ => .of_fld hf⟩
  · exact ⟨⟨rfl, rfl⟩, fun _ _ _ => rfl, fun _ => .refl _ w⟩

end Sys2Proof.Machine
end

section
/-!
TRIGGERS AND STEPS. What a firing shows and leaves; enabling and firing triggers; offset steps of device time.
-/
namespace Sys2Proof.Machine

/-! ## A firing -/

section
variable {k : Nat} (hk : k < 8)
include hk

/-- The fields of trigger `k` that its commands show are none that captures write. -/
theorem offCapture_trig : ∀ f ∈ [F.TRIG_CFG_EN k, F.TRIG_CFG_MODE k, F.TRIG_STAT_ARMED k, F.TRIG_STAT_LATE k, F.TRIG_STAT_FIRES k,
    F.TRIG_FIRED_LO_NS k, F.TRIG_STAT_BADCFG k], OffCapture f := by
  simp only [List.mem_cons, List.not_mem_nil, or_false, forall_eq_or_imp, forall_eq, OffCapture, F.TRIG_CFG_EN, F.TRIG_CFG_MODE,
    F.TRIG_STAT_ARMED, F.TRIG_STAT_LATE, F.TRIG_STAT_FIRES, F.TRIG_FIRED_LO_NS, F.TRIG_STAT_BADCFG, A.TRIG_CFG, A.TRIG_STAT,
    A.TRIG_FIRED_LO, A.TIME_STAT]
  omega

omit hk in
/-- Those that a firing keeps. -/
theorem fireFields_ne (k : Nat) : ∀ f ∈ [F.TRIG_CFG_EN k, F.TRIG_CFG_MODE k, F.TRIG_STAT_ARMED k, F.TRIG_STAT_LATE k],
    ∀ g ∈ fireFields k, Fd.key f ≠ Fd.key g := by
  simp only [List.mem_cons, List.not_mem_nil, or_false, forall_eq_or_imp, forall_eq, fireFields, Fd.key, F.TRIG_CFG_EN, F.TRIG_CFG_MODE,
    F.TRIG_STAT_ARMED, F.TRIG_STAT_LATE, F.TRIG_STAT_FIRES, F.TRIG_FIRED_LO_NS, F.TRIG_FIRED_HI_NS, F.TRIG_STAT_IGNORED, A.TRIG_CFG,
    A.TRIG_STAT, A.TRIG_FIRED_LO, A.TRIG_FIRED_HI]
  omega

/-- A firing's record, and what it leaves as it was (R254, R255). -/
theorem fireTrigger_shows (s : State) {u : State} (hu : u = fireTrigger k s) :
    u.get (F.TRIG_FIRED_LO_NS k) = s.devNs % 2 ^ 32 ∧ u.get (F.TRIG_STAT_FIRES k) = (s.get (F.TRIG_STAT_FIRES k) + 1) % 2 ^ 16
    ∧ SameTriggers s u ∧ (∀ f, OffCapture f → (∀ g ∈ fireFields k, Fd.key f ≠ Fd.key g) → u.get f = s.get f)
    ∧ (s.dstate ≠ dArmed → KeepsBlock 0x2005 s u) := by
  obtain ⟨w, u', hw, hu', hsame, hkeep, hblock⟩ := fireTrigger_acts hk s
  rw [← hu'] at hu
  subst hu
  have hLH : Fd.key (F.TRIG_FIRED_LO_NS k) ≠ Fd.key (F.TRIG_FIRED_HI_NS k) := by
    simp only [Fd.key, F.TRIG_FIRED_LO_NS, F.TRIG_FIRED_HI_NS, A.TRIG_FIRED_LO, A.TRIG_FIRED_HI]; omega
  have hLF : Fd.key (F.TRIG_FIRED_LO_NS k) ≠ Fd.key (F.TRIG_STAT_FIRES k) := by
    simp only [Fd.key, F.TRIG_FIRED_LO_NS, F.TRIG_STAT_FIRES, A.TRIG_FIRED_LO, A.TRIG_STAT]; omega
  have hHF : Fd.key (F.TRIG_STAT_FIRES k) ≠ Fd.key (F.TRIG_FIRED_HI_NS k) := by
    simp only [Fd.key, F.TRIG_FIRED_HI_NS, F.TRIG_STAT_FIRES, A.TRIG_FIRED_HI, A.TRIG_STAT]; omega
  have hLI : Fd.key (F.TRIG_FIRED_LO_NS k) ≠ Fd.key (F.TRIG_STAT_IGNORED k) := by
    simp only [Fd.key, F.TRIG_FIRED_LO_NS, F.TRIG_STAT_IGNORED, A.TRIG_FIRED_LO, A.TRIG_STAT]; omega
  obtain ⟨x, hx, hxL, hxF, hxt, hxk, hxb⟩ : ∃ x : State,
      x = ((s.set (F.TRIG_FIRED_LO_NS k) s.devNs).set (F.TRIG_FIRED_HI_NS k) (s.devNs / 2 ^ 32)).inc (F.TRIG_STAT_FIRES k)
      ∧ x.get (F.TRIG_FIRED_LO_NS k) = s.devNs % 2 ^ 32 ∧ x.get (F.TRIG_STAT_FIRES k) = (s.get (F.TRIG_STAT_FIRES k) + 1) % 2 ^ 16
      ∧ x.time = s.time ∧ (∀ f, (∀ g ∈ fireFields k, Fd.key f ≠ Fd.key g) → x.get f = s.get f) ∧ KeepsBlock 0x2005 s x := by
    refine ⟨_, rfl, ?_, ?_, rfl, fun f hf => ?_, ?_⟩
    · rw [State.inc, State.get_set_other _ _ hLF, State.get_set_other _ _ hLH, State.get_set_same]
      rfl
    · rw [State.inc, State.get_set_same, State.get_set_other _ _ hHF, State.get_set_other _ _ hLF.symm]
      rfl
    · rw [State.inc, State.get_set_other _ _ (hf _ (by simp [fireFields])), State.get_set_other _ _ (hf _ (by simp [fireFields])),
        State.get_set_other _ _ (hf _ (by simp [fireFields]))]
    · have hb : ∀ f ∈ [F.TRIG_FIRED_LO_NS k, F.TRIG_FIRED_HI_NS k, F.TRIG_STAT_FIRES k], f.lsb < 32 ∧ blockOf f ≠ 0x2005 := by
        simp only [List.mem_cons, List.not_mem_nil, or_false, forall_eq_or_imp, forall_eq, blockOf, F.TRIG_FIRED_LO_NS,
          F.TRIG_FIRED_HI_NS, F.TRIG_STAT_FIRES, A.TRIG_FIRED_LO, A.TRIG_FIRED_HI, A.TRIG_STAT]
        omega
      obtain ⟨h1, h2, h3⟩ : (_ ∧ _) ∧ (_ ∧ _) ∧ (_ ∧ _) := by
        simpa only [List.mem_cons, List.not_mem_nil, or_false, forall_eq_or_imp, forall_eq] using hb
      exact (((KeepsBlock.refl _ s).set _ h1.1 h1.2).set _ h2.1 h2.2).set _ h3.1 h3.2
  rw [← hx] at hw
  have hwget : ∀ f, OffCapture f → w.get f = x.get f := fun f hf => by
    rw [hw, capEvent_get hf]
    exact State.get_set_other _ _ (hf.key_ne _ (by decide))
  have hwtime : SameTriggers s w := by
    rw [hw]
    exact (sameTriggers_of_time (w := x.setBit F.TIME_EVT_TRIG k true) hxt).trans (sameTriggers_capEvent ..)
  have hwblock : KeepsBlock 0x2005 s w := by
    rw [hw]
    have h : KeepsBlock 0x2005 s (x.setBit F.TIME_EVT_TRIG k true) := hxb.setBit _ _ (by decide) (by decide)
    exact h.trans (keepsBlock_capEvent (by decide) 3 k _)
  have hoff := offCapture_trig hk
  refine ⟨?_, ?_, hwtime.trans hsame, fun f hf hne => ?_, fun harm => ?_⟩
  · rw [hkeep _ (hoff _ (by simp)) hLI, hwget _ (hoff _ (by simp)), hxL]
  · rw [hkeep _ (hoff _ (by simp)) (key_ignored_fires k), hwget _ (hoff _ (by simp)), hxF]
  · rw [hkeep f hf (hne _ (by simp [fireFields])), hwget f hf, hxk f hne]
  · refine hwblock.trans (hblock ?_)
    rw [State.dstate, hwblock _ (by decide) (by decide)]
    exact harm

omit hk in
/-- EN and ARMED as they stand after EN has been set or cleared, and what that leaves. -/
theorem setTrigEn_shows (b : Bool) (s : State) : (setTrigEn k b s).get (F.TRIG_CFG_EN k) = b.toNat
    ∧ (setTrigEn k b s).get (F.TRIG_STAT_ARMED k) = b.toNat
    ∧ KeepsFields [F.TRIG_CFG_EN k, F.TRIG_STAT_ARMED k] s (setTrigEn k b s) := by
  have hne : Fd.key (F.TRIG_CFG_EN k) ≠ Fd.key (F.TRIG_STAT_ARMED k) := by
    simp only [Fd.key, F.TRIG_CFG_EN, F.TRIG_STAT_ARMED, A.TRIG_CFG, A.TRIG_STAT]; omega
  refine ⟨(State.get_set_other _ _ hne).trans ?_, ?_, ((KeepsFields.refl _ s).set _ (by simp)).set _ (by simp)⟩
  · exact (State.get_set_same ..).trans (by cases b <;> rfl)
  · exact (State.get_set_same ..).trans (by cases b <;> rfl)

omit hk in
theorem trigS_setTrig (k : Nat) (x : TrigS) (s : State) : (s.setTrig k x).trigS k = x := mget_mset_same ..

omit hk in
theorem SameTriggers.trigS {s w : State} (h : SameTriggers s w) (k : Nat) : w.trigS k = s.trigS k := by
  rw [State.trigS, h.2]
  rfl

omit hk in
theorem dev_setTrig (k : Nat) (x : TrigS) (s : State) : (s.setTrig k x).dev = s.dev := rfl

omit hk in
theorem dev_set {f : Fd} (v : Nat) (s : State) (h : Fd.key F.TIME_RATE_RATE ≠ Fd.key f) : (s.set f v).dev = s.dev :=
  State.dev_congr rfl rfl (State.get_set_other s _ h)

/-- `u` shows a firing of trigger `k` in state `s`. -/
def ShowsFire (k : Nat) (s u : State) : Prop :=
  u.get (F.TRIG_FIRED_LO_NS k) = s.devNs % 2 ^ 32 ∧ u.get (F.TRIG_STAT_FIRES k) = (s.get (F.TRIG_STAT_FIRES k) + 1) % 2 ^ 16

/-- A firing from a state `w` of the same instant and count of firings as `s`. -/
theorem fireTrigger_from {s w : State} (hdev : w.dev = s.dev) (hfires : w.get (F.TRIG_STAT_FIRES k) = s.get (F.TRIG_STAT_FIRES k))
    {u : State} (hu : u = fireTrigger k w) :
    ShowsFire k s u ∧ u.get (F.TRIG_CFG_EN k) = w.get (F.TRIG_CFG_EN k) ∧ u.get (F.TRIG_STAT_ARMED k) = w.get (F.TRIG_STAT_ARMED k)
    ∧ u.get (F.TRIG_STAT_LATE k) = w.get (F.TRIG_STAT_LATE k) ∧ u.trigS k = w.trigS k := by
  obtain ⟨h1, h2, h3, h4, _⟩ := fireTrigger_shows hk w hu
  have hoff := offCapture_trig hk
  have hne := fireFields_ne k
  refine ⟨⟨?_, by rw [h2, hfires]⟩, ?_, ?_, ?_, h3.trigS k⟩
  · rw [h1, State.devNs, hdev]
    rfl
  all_goals exact h4 _ (hoff _ (by simp)) (hne _ (by simp))

omit hk in
/-- EN and ARMED bear neither on the instant nor on the count of firings. -/
theorem setTrigEn_from (k : Nat) (b : Bool) (s : State) :
    (setTrigEn k b s).dev = s.dev ∧ (setTrigEn k b s).get (F.TRIG_STAT_FIRES k) = s.get (F.TRIG_STAT_FIRES k) := by
  have h1 : Fd.key F.TIME_RATE_RATE ≠ Fd.key (F.TRIG_CFG_EN k) ∧ Fd.key F.TIME_RATE_RATE ≠ Fd.key (F.TRIG_STAT_ARMED k) := by
    simp only [Fd.key, F.TIME_RATE_RATE, F.TRIG_CFG_EN, F.TRIG_STAT_ARMED, A.TRIG_CFG, A.TRIG_STAT, A.TIME_RATE]; omega
  have h2 : Fd.key (F.TRIG_STAT_FIRES k) ≠ Fd.key (F.TRIG_CFG_EN k) ∧ Fd.key (F.TRIG_STAT_FIRES k) ≠ Fd.key (F.TRIG_STAT_ARMED k) := by
    simp only [Fd.key, F.TRIG_STAT_FIRES, F.TRIG_CFG_EN, F.TRIG_STAT_ARMED, A.TRIG_CFG, A.TRIG_STAT]; omega
  rw [setTrigEn, dev_set _ _ h1.2, dev_set _ _ h1.1, State.get_set_other _ _ h2.2, State.get_set_other _ _ h2.1]
  exact ⟨rfl, rfl⟩

/-! ## Triggers reach their instants (R252) -/

theorem trigFire_fires {s : State} (hen : s.get (F.TRIG_CFG_EN k) = 1)
    (hdue : s.get (F.TRIG_CFG_MODE k) < 2 ∧ (s.trigS k).next * 256 ≤ s.dev
      ∨ s.get (F.TRIG_CFG_MODE k) = 2 ∧ s.breathing = true ∧ (s.trigS k).judged ≤ s.n ∧ bidx s.n = (s.trigS k).next)
    {u : State} (hu : u = trigFire k s) :
    ShowsFire k s u
    ∧ (s.get (F.TRIG_CFG_MODE k) = 0 → u.get (F.TRIG_CFG_EN k) = 0 ∧ u.get (F.TRIG_STAT_ARMED k) = 0)
    ∧ (s.get (F.TRIG_CFG_MODE k) = 1 → u.get (F.TRIG_CFG_EN k) = 1 ∧ (u.trigS k).next = (s.trigS k).next + s.trigPeriod k)
    ∧ (s.get (F.TRIG_CFG_MODE k) = 2 → s.get (F.TRIG_PERIOD_PERIOD k) = 0 → u.get (F.TRIG_CFG_EN k) = 0) := by
  have hon : s.on (F.TRIG_CFG_EN k) = true := by rw [State.on, hen]; rfl
  rw [trigFire, hon] at hu
  have hclear : ∀ x : State, x.dev = s.dev → x.fld = s.fld → u = fireTrigger k (setTrigEn k false x) →
      ShowsFire k s u ∧ u.get (F.TRIG_CFG_EN k) = 0 ∧ u.get (F.TRIG_STAT_ARMED k) = 0 := fun x hdev hfld h => by
    obtain ⟨hd, hf⟩ := setTrigEn_from k false x
    obtain ⟨h1, h2, h3, _⟩ := fireTrigger_from (s := s) hk (hd.trans hdev) (hf.trans (State.get_congr hfld _)) h
    obtain ⟨he, ha, _⟩ := setTrigEn_shows (k := k) false x
    exact ⟨h1, h2.trans he, h3.trans ha⟩
  have hset : ∀ x : TrigS, u = fireTrigger k (s.setTrig k x) →
      ShowsFire k s u ∧ u.get (F.TRIG_CFG_EN k) = 1 ∧ u.trigS k = x := fun x h => by
    obtain ⟨h1, h2, _, _, h5⟩ := fireTrigger_from (s := s) hk (dev_setTrig k x s) rfl h
    exact ⟨h1, h2.trans hen, h5.trans (trigS_setTrig k x s)⟩
  rcases hdue with ⟨hmode, hdue⟩ | ⟨hmode, hbr, hj, hn⟩
  · rcases (by omega : s.get (F.TRIG_CFG_MODE k) = 0 ∨ s.get (F.TRIG_CFG_MODE k) = 1) with hm | hm <;> rw [hm] at hu ⊢
    · obtain ⟨h1, h2⟩ := hclear s rfl rfl (hu.trans (if_pos hdue))
      exact ⟨h1, fun _ => h2, fun h => absurd h (by decide), fun h => absurd h (by decide)⟩
    · obtain ⟨h1, h2, h3⟩ := hset _ (hu.trans (if_pos hdue))
      exact ⟨h1, fun h => absurd h (by decide), fun _ => ⟨h2, congrArg TrigS.next h3⟩, fun h => absurd h (by decide)⟩
  · rw [hmode] at hu ⊢
    have hgo : u = trigBreath k s := hu
    rw [trigBreath, hon, hmode, hbr, decide_eq_true hj, hn] at hgo
    simp only [beq_self_eq_true, if_true] at hgo
    rw [if_neg (by decide)] at hgo
    split at hgo
    · obtain ⟨h1, h2, _⟩ := hclear _ (by exact rfl) (by exact rfl) hgo
      exact ⟨h1, fun h => absurd h (by decide), fun h => absurd h (by decide), fun _ _ => h2⟩
    · next hp =>
      obtain ⟨h1, _⟩ := fireTrigger_from (s := s) hk (by exact rfl) (by exact rfl) hgo
      exact ⟨h1, fun h => absurd h (by decide), fun h => absurd h (by decide), fun _ h => absurd h hp⟩

/-! ## Enabling (R252) -/

theorem fieldsAt_trigCfg : fieldsAt (A.TRIG_CFG k) = [F.TRIG_CFG_EN k, F.TRIG_CFG_MODE k, F.TRIG_CFG_ACTION k, F.TRIG_CFG_OUT k,
    F.TRIG_CFG_PULSE k] := by
  interval_cases k <;> decide

theorem writeTrigCfg_en {v : Nat} (hv : bitOf v 31 = false) (s : State) :
    (s.writeRegPlain (A.TRIG_CFG k) v).get (F.TRIG_CFG_EN k) = 0 := by
  have hne : ∀ g ∈ [F.TRIG_CFG_MODE k, F.TRIG_CFG_ACTION k, F.TRIG_CFG_OUT k, F.TRIG_CFG_PULSE k],
      Fd.key (F.TRIG_CFG_EN k) ≠ Fd.key g := by
    simp [Fd.key, F.TRIG_CFG_EN, F.TRIG_CFG_MODE, F.TRIG_CFG_ACTION, F.TRIG_CFG_OUT, F.TRIG_CFG_PULSE]
  rw [State.writeRegPlain, fieldsAt_trigCfg hk, List.foldl_cons]
  refine (foldl_keeps (fun u : State => u.get (F.TRIG_CFG_EN k)) _ _ _ fun g hg u => u.writeField_get_other v (hne g hg)).trans ?_
  refine (State.get_set_same s (F.TRIG_CFG_EN k) _).trans ?_
  have h : v / 2 ^ 31 % 2 = 0 := by
    rw [bitOf, beq_eq_false_iff_ne] at hv
    omega
  show v / 2 ^ 31 % 2 % 2 = 0
  rw [h]

theorem writeTrigCfg_other {f : Fd} (v : Nat) (s : State) (hl : f.lsb < 32) (ha : f.addr ≠ A.TRIG_CFG k) :
    (s.writeRegPlain (A.TRIG_CFG k) v).get f = s.get f := by
  refine s.writeRegPlain_get_other _ _ fun g hg => ?_
  rw [fieldsAt_trigCfg hk] at hg
  have hg' : g.lsb < 32 ∧ g.addr = A.TRIG_CFG k := by
    simp only [List.mem_cons, List.not_mem_nil, or_false] at hg
    rcases hg with rfl | rfl | rfl | rfl | rfl <;> exact ⟨by simp [F.TRIG_CFG_EN, F.TRIG_CFG_MODE, F.TRIG_CFG_ACTION, F.TRIG_CFG_OUT,
      F.TRIG_CFG_PULSE], rfl⟩
  exact Fd.key_ne hl hg'.1 (.inl (hg'.2 ▸ ha))

theorem trigEnable_does {w : State} (hen : w.get (F.TRIG_CFG_EN k) = 0) {u : State} (hu : u = trigEnable k w) :
    (w.trigBad k = true → u.get (F.TRIG_STAT_BADCFG k) = 1 ∧ u.get (F.TRIG_CFG_EN k) = 0)
    ∧ (w.trigBad k = false → w.fcuState ≠ 2 →
      (w.get (F.TRIG_CFG_MODE k) = 0 → w.trigAt k * 256 < w.dev →
        u.get (F.TRIG_STAT_LATE k) = 1 ∧ u.get (F.TRIG_CFG_EN k) = 0
        ∧ u.get (F.TRIG_STAT_FIRES k) = (w.get (F.TRIG_STAT_FIRES k) + 1) % 2 ^ 16)
      ∧ (w.get (F.TRIG_CFG_MODE k) = 0 → w.dev ≤ w.trigAt k * 256 → (u.trigS k).next = w.trigAt k)
      ∧ (¬ (w.get (F.TRIG_CFG_MODE k) = 0 ∧ w.trigAt k * 256 < w.dev) →
        u.get (F.TRIG_CFG_EN k) = 1 ∧ u.get (F.TRIG_STAT_ARMED k) = 1 ∧ KeepsStore w u)) := by
  rw [trigEnable] at hu
  have harm : ∀ x : TrigS, (setTrigEn k true (w.setTrig k x)).get (F.TRIG_CFG_EN k) = 1
      ∧ (setTrigEn k true (w.setTrig k x)).get (F.TRIG_STAT_ARMED k) = 1 ∧ KeepsStore w (setTrigEn k true (w.setTrig k x))
      ∧ (setTrigEn k true (w.setTrig k x)).trigS k = x := fun x => by
    obtain ⟨h1, h2, _⟩ := setTrigEn_shows (k := k) true (w.setTrig k x)
    exact ⟨h1, h2, ⟨rfl, rfl, rfl⟩, trigS_setTrig k x w⟩
  refine ⟨fun hbad => ?_, fun hbad hfcu => ?_⟩
  · rw [if_pos hbad] at hu
    rw [hu, State.get_set_same, State.get_set_other]
    · exact ⟨rfl, hen⟩
    · simp only [Fd.key, F.TRIG_CFG_EN, F.TRIG_STAT_BADCFG, A.TRIG_CFG, A.TRIG_STAT]; omega
  rw [if_neg (by rw [hbad]; decide), if_neg (by simpa using hfcu)] at hu
  by_cases hm : w.get (F.TRIG_CFG_MODE k) = 0
  · have hu' : u = if w.trigAt k * 256 < w.dev then fireTrigger k (w.set (F.TRIG_STAT_LATE k) 1)
        else setTrigEn k true (w.setTrig k { next := w.trigAt k }) := by
      rw [hu]
      split
      · rfl
      · next h => rw [hm] at h; cases h
      · next h _ => exact absurd hm h
    by_cases hlate : w.trigAt k * 256 < w.dev
    · rw [if_pos hlate] at hu'
      have hRate : Fd.key F.TIME_RATE_RATE ≠ Fd.key (F.TRIG_STAT_LATE k) := by
        simp only [Fd.key, F.TIME_RATE_RATE, F.TRIG_STAT_LATE, A.TRIG_STAT, A.TIME_RATE]; omega
      have hFires : Fd.key (F.TRIG_STAT_FIRES k) ≠ Fd.key (F.TRIG_STAT_LATE k) := by
        simp only [Fd.key, F.TRIG_STAT_FIRES, F.TRIG_STAT_LATE, A.TRIG_STAT]; omega
      have hEn : Fd.key (F.TRIG_CFG_EN k) ≠ Fd.key (F.TRIG_STAT_LATE k) := by
        simp only [Fd.key, F.TRIG_CFG_EN, F.TRIG_STAT_LATE, A.TRIG_CFG, A.TRIG_STAT]; omega
      obtain ⟨h1, h2, _, h4, _⟩ := fireTrigger_from (s := w) hk (dev_set 1 w hRate) (State.get_set_other _ _ hFires) hu'
      refine ⟨fun _ _ => ⟨h4.trans (State.get_set_same ..), h2.trans ((State.get_set_other _ _ hEn).trans hen), h1.2⟩,
        fun _ h => absurd hlate (Nat.not_lt.mpr h), fun h => absurd ⟨hm, hlate⟩ h⟩
    · rw [if_neg hlate] at hu'
      obtain ⟨h1, h2, h3, h4⟩ := harm { next := w.trigAt k }
      rw [hu']
      exact ⟨fun _ h => absurd h hlate, fun _ _ => congrArg TrigS.next h4, fun _ => ⟨h1, h2, h3⟩⟩
  · obtain ⟨x, hx⟩ : ∃ x, u = setTrigEn k true (w.setTrig k x) := by
      rw [hu]
      split
      · next h => exact absurd h hm
      · exact ⟨_, rfl⟩
      · exact ⟨_, rfl⟩
    obtain ⟨h1, h2, h3, _⟩ := harm x
    rw [hx]
    exact ⟨fun h => absurd h hm, fun h => absurd h hm, fun _ => ⟨h1, h2, h3⟩⟩

end

/-! ## Offset steps (R35, R246, R247, R253) -/

/-- What a step leaves behind that no later firing changes. -/
def StepView (s w : State) : Prop :=
  w.get F.TIME_STAT_ARMED = s.get F.TIME_STAT_ARMED ∧ w.get F.TIME_STAT_STEPPED = s.get F.TIME_STAT_STEPPED ∧ w.time.c = s.time.c
    ∧ (s.dstate ≠ dArmed → KeepsBlock 0x2005 s w)

theorem StepView.refl (s : State) : StepView s s := ⟨rfl, rfl, rfl, fun _ => .refl _ s⟩

theorem StepView.trans {s w x : State} (h : StepView s w) (k : StepView w x) : StepView s x := by
  obtain ⟨h1, h2, h3, h4⟩ := h
  obtain ⟨k1, k2, k3, k4⟩ := k
  refine ⟨k1.trans h1, k2.trans h2, k3.trans h3, fun ha => (h4 ha).trans (k4 ?_)⟩
  rw [State.dstate, h4 ha _ (by decide) (by decide)]
  exact ha

theorem stepView_fireTrigger {k : Nat} (hk : k < 8) (s : State) : StepView s (fireTrigger k s) := by
  have hfire : ∀ g ∈ fireFields k, g.lsb < 32 ∧ g.addr ≠ A.TIME_STAT := by
    simp only [fireFields, List.mem_cons, List.not_mem_nil, or_false, forall_eq_or_imp, forall_eq, F.TRIG_FIRED_LO_NS, F.TRIG_FIRED_HI_NS,
      F.TRIG_STAT_FIRES, F.TRIG_STAT_IGNORED, A.TRIG_FIRED_LO, A.TRIG_FIRED_HI, A.TRIG_STAT, A.TIME_STAT]
    omega
  have hstat : ∀ f : Fd, f.lsb < 32 → f.addr = A.TIME_STAT → (fireTrigger k s).get f = s.get f := fun f hl ha =>
    (fireTrigger_shows hk s rfl).2.2.2.1 f ⟨hl, .inl ha⟩ fun g hg => Fd.key_ne hl (hfire g hg).1 (.inl (ha ▸ (hfire g hg).2.symm))
  obtain ⟨_, _, h3, _, h5⟩ := fireTrigger_shows hk s rfl
  exact ⟨hstat _ (by decide) rfl, hstat _ (by decide) rfl, h3.1, h5⟩

/-- A write of a trigger's own register is no part of the view. -/
theorem stepView_set {f : Fd} (s : State) (v : Nat) (hl : f.lsb < 32) (ha : 0x20040100 ≤ f.addr ∧ f.addr < 0x20040200) :
    StepView s (s.set f v) := by
  have hne : ∀ g : Fd, g.lsb < 32 → g.addr = A.TIME_STAT → (s.set f v).get g = s.get g := fun g hg h =>
    State.get_set_other _ _ (Fd.key_ne hg hl (.inl (by rw [h, A.TIME_STAT]; omega)))
  exact ⟨hne _ (by decide) rfl, hne _ (by decide) rfl, rfl, fun _ => (KeepsBlock.refl _ s).set v hl (by simp only [blockOf]; omega)⟩

theorem stepView_trigStep {k : Nat} (hk : k < 8) (s : State) : StepView s (trigStep k s) := by
  have hreg : ∀ f ∈ [F.TRIG_STAT_STEPFIRE k, F.TRIG_CFG_EN k, F.TRIG_STAT_ARMED k],
      f.lsb < 32 ∧ 0x20040100 ≤ f.addr ∧ f.addr < 0x20040200 := by
    simp only [List.mem_cons, List.not_mem_nil, or_false, forall_eq_or_imp, forall_eq, F.TRIG_STAT_STEPFIRE, F.TRIG_CFG_EN,
      F.TRIG_STAT_ARMED, A.TRIG_STAT, A.TRIG_CFG]
    omega
  have hset : ∀ f ∈ [F.TRIG_STAT_STEPFIRE k, F.TRIG_CFG_EN k, F.TRIG_STAT_ARMED k], ∀ v (w : State), StepView w (w.set f v) :=
    fun f hf v w => stepView_set w v (hreg f hf).1 (hreg f hf).2
  unfold trigStep
  extract_lets x s1
  split
  · exact ⟨rfl, rfl, rfl, fun _ => .refl _ s⟩
  have h1 : StepView s s1 := hset _ (by simp) _ s
  split
  · exact ((h1.trans (hset _ (by simp) _ s1)).trans (hset _ (by simp) _ _)).trans (stepView_fireTrigger hk _)
  · refine (h1.trans (StepView.trans (w := s1.setTrig k _) ?_ (stepView_fireTrigger hk _)))
    exact ⟨rfl, rfl, rfl, fun _ => .of_fld rfl⟩

theorem anchor_setAnchor (a : Int) (s : State) : (s.setAnchor a).anchor = ux 72 a := by
  have hv := ux_lt 72 a
  rw [State.anchor, State.setAnchor]
  generalize ux 72 a = v at hv
  rw [State.get_set_same, State.get_set_other _ _ (by decide), State.get_set_other _ _ (by decide), State.get_set_same,
    State.get_set_other _ _ (by decide), State.get_set_same]
  show (v / 2 ^ 40 % 2 ^ 32 * 2 ^ 32 + v / 256 % 2 ^ 32) * 256 + v % 2 ^ 8 = v
  omega

theorem anchor_congr {s w : State} (h : KeepsBlock 0x2005 s w) : w.anchor = s.anchor := by
  rw [State.anchor, h _ (by decide) (by decide), h _ (by decide) (by decide), h _ (by decide) (by decide)]
  rfl

theorem dstate_of_breathing {s : State} (h : s.breathing = true) : s.dstate ≠ dArmed := by
  rintro e
  rw [State.breathing, e] at h
  cases h

/-- What a step does while breaths run: the anchor steps along, and DISP_STAT shows it. -/
def moveAnchor (d : Int) (s : State) : State :=
  ({ s with strm := { s.strm with mr := !s.strm.mr } } : State).setAnchor (s.anchor + d) |>.set F.DISP_STAT_STEPPED 1

theorem moveAnchor_does (d : Int) (s : State) :
    KeepsBlock 0x2004 s (moveAnchor d s) ∧ (moveAnchor d s).time = s.time ∧ (moveAnchor d s).dstate = s.dstate
    ∧ (moveAnchor d s).anchor = ux 72 (s.anchor + d) ∧ (moveAnchor d s).get F.DISP_STAT_STEPPED = 1 := by
  unfold moveAnchor
  obtain ⟨x, hx, hxf, hxt⟩ : ∃ x : State, x = { s with strm := { s.strm with mr := !s.strm.mr } } ∧ x.fld = s.fld ∧ x.time = s.time :=
    ⟨_, rfl, rfl, rfl⟩
  rw [← hx]
  have hk : KeepsBlock 0x2004 s (x.setAnchor (s.anchor + d)) := (KeepsBlock.of_fld hxf).trans (keepsBlock_setAnchor (by decide) _ x)
  refine ⟨hk.set _ (by decide) (by decide), (setAnchor_time (s.anchor + d) x).trans hxt, ?_, ?_, State.get_set_same ..⟩
  · rw [State.dstate, State.get_set_other _ _ (by decide), State.setAnchor]
    generalize ux 72 (s.anchor + d) = v
    rw [State.get_set_other _ _ (by decide), State.get_set_other _ _ (by decide), State.get_set_other _ _ (by decide)]
    exact State.get_congr hxf _
  · rw [State.anchor, State.get_set_other _ _ (by decide), State.get_set_other _ _ (by decide), State.get_set_other _ _ (by decide)]
    exact anchor_setAnchor (s.anchor + d) x

theorem takeStep_does (d : Int) (s : State) {u : State} (hu : u = takeStep d s) :
    u.get F.TIME_STAT_ARMED = 0 ∧ u.get F.TIME_STAT_STEPPED = 1 ∧ u.time.c = s.time.c + d * 2 ^ 40
    ∧ (s.breathing = true → u.anchor = ux 72 (s.anchor + d) ∧ u.get F.DISP_STAT_STEPPED = 1) := by
  obtain ⟨w, hw, hwfld, hwc⟩ : ∃ w : State,
      w = restamp (shiftMarks d { notePast s with time := { (notePast s).time with c := (notePast s).time.c + d * 2 ^ 40 } })
      ∧ w.fld = s.fld ∧ w.time.c = s.time.c + d * 2 ^ 40 := ⟨_, rfl, rfl, rfl⟩
  obtain ⟨x, hx, hxa, hxs, hxc, hxb⟩ : ∃ x : State, x = (w.set F.TIME_STAT_ARMED 0).set F.TIME_STAT_STEPPED 1
      ∧ x.get F.TIME_STAT_ARMED = 0 ∧ x.get F.TIME_STAT_STEPPED = 1 ∧ x.time.c = s.time.c + d * 2 ^ 40 ∧ KeepsBlock 0x2005 s x := by
    refine ⟨_, rfl, ?_, get_of_set rfl, hwc, ?_⟩
    · rw [State.get_set_other _ _ (by decide)]
      exact get_of_set rfl
    · exact ((KeepsBlock.of_fld hwfld).set _ (by decide) (by decide)).set _ (by decide) (by decide)
  have hxd : x.dstate = s.dstate := hxb _ (by decide) (by decide)
  have hbr : x.breathing = s.breathing := by rw [State.breathing, hxd]; rfl
  obtain ⟨y, hy, hya, hys, hyc, hyb⟩ : ∃ y : State, y = (if x.breathing then moveAnchor d x else x)
      ∧ y.get F.TIME_STAT_ARMED = 0 ∧ y.get F.TIME_STAT_STEPPED = 1 ∧ y.time.c = s.time.c + d * 2 ^ 40
      ∧ (s.breathing = true → y.dstate = s.dstate ∧ y.anchor = ux 72 (s.anchor + d) ∧ y.get F.DISP_STAT_STEPPED = 1) := by
    refine ⟨_, rfl, ?_⟩
    rw [hbr]
    split
    · obtain ⟨h1, h2, h3, h4, h5⟩ := moveAnchor_does d x
      exact ⟨(h1 _ (by decide) (by decide)).trans hxa, (h1 _ (by decide) (by decide)).trans hxs, (congrArg TimeS.c h2).trans hxc,
        fun _ => ⟨h3.trans hxd, h4.trans (by rw [anchor_congr hxb]), h5⟩⟩
    · next hb => exact ⟨hxa, hxs, hxc, fun h => absurd h hb⟩
  have huy : u = if 0 < d then (List.range 8).foldl (fun u k => trigStep k u) y else y := by
    rw [hu, hy, hx, hw]
    rfl
  have hview : StepView y u := by
    rw [huy]
    split
    · exact List.foldlRecOn _ _ (motive := fun v => StepView y v) (.refl y) fun v hv k hk =>
        hv.trans (stepView_trigStep (List.mem_range.mp hk) v)
    · exact .refl y
  obtain ⟨h1, h2, h3, h4⟩ := hview
  refine ⟨h1.trans hya, h2.trans hys, h3.trans hyc, fun hb => ?_⟩
  obtain ⟨hd, ha, hs⟩ := hyb hb
  have hkeep := h4 (by rw [hd]; exact dstate_of_breathing hb)
  exact ⟨(anchor_congr hkeep).trans ha, (hkeep _ (by decide) (by decide)).trans hs⟩

end Sys2Proof.Machine

open Sys2Proof Sys2Proof.Machine

/-- Settles O47: a fold does not move device time, a firing leaves what it has shown, and a step is none that a firing undoes. -/
theorem timeRowsComplete : Obligations.TimeRowsComplete := by
  unfold Obligations.TimeRowsComplete
  refine ⟨?_, ?_, ?_, ?_, ?_, ?_, ?_, ?_, ?_, ?_, ?_⟩
  · intro m v s h
    refine ⟨_, (done_alive _ h.alive :), ?_⟩
    rw [guarded_admitted _ h]
    have hdev : ∀ w : State, (sumTick s (w.respond m 0 false false)).dev = w.dev := fun w =>
      State.dev_congr (by rw [sumTick_now, State.respond_now]) (by rw [sumTick_time, State.respond_time])
        (respond_get _ _ _ _ _ _ (by decide))
    refine ⟨answers_sumTick .., ?_⟩
    rw [hdev, wrRate]
    by_cases hst : s.get F.PP_CTRL_STEER = 0
    · have hon : s.on F.PP_CTRL_STEER = false := by rw [State.on, hst]; rfl
      obtain ⟨h1, _, h3, hkeep, hstore⟩ := putRate_folds (sx 32 v) s rfl
      rw [hon, if_neg Bool.false_ne_true, if_pos hst]
      exact ⟨h1, ⟨(respond_get _ _ _ _ _ _ (by decide)).trans (h3.trans (ux_sx_mod 32 v)), keepsFields_sumTick _ _ _ _ hkeep⟩,
        keepsStore_sumTick _ _ _ _ hstore⟩
    · have hon : s.on F.PP_CTRL_STEER = true := by rw [State.on, bne_iff_ne]; exact hst
      rw [hon, if_pos rfl, if_neg hst]
      exact ⟨dev_set 1 s (by decide), ⟨(respond_get _ _ _ _ _ _ (by decide)).trans (get_of_set rfl),
        keepsFields_sumTick _ _ _ _ ((KeepsFields.refl _ s).set _ (by simp))⟩, keepsStore_sumTick _ _ _ _ ⟨rfl, rfl, rfl⟩⟩
  · intro t s ha hdue
    have hgo : rateFold (s.atTime t) = putRate (s.atTime t).rate (s.atTime t) := if_pos hdue
    obtain ⟨h1, h2, h3, hkeep, hstore⟩ := putRate_folds (s.atTime t).rate (s.atTime t) hgo
    refine ⟨_, done_alive _ ha, ?_, ?_, ?_, KeepsFields.sumTick (s := s) _ hkeep, KeepsStore.sumTick (s := s) _ hstore⟩
    · exact (State.dev_congr (by rw [sumTick_now]) (by rw [sumTick_time]) (sumTick_get _ _ (by decide))).trans h1
    · rw [sumTick_time]
      exact h2
    · exact (sumTick_get _ _ (by decide)).trans (h3.trans (ux_sx_mod 32 _))
  · intro m v s h
    refine ⟨fun harm => ?_, fun d harm hd => ?_⟩ <;> refine ⟨_, (done_alive _ h.alive :), ?_⟩ <;> rw [guarded_admitted _ h]
    · have hgo : wrOffset v s = s.set F.TIME_STAT_STEPREJ 1 := if_neg (by rw [State.on, harm]; decide)
      rw [hgo]
      refine ⟨answers_sumTick .., (respond_get _ _ _ _ _ _ (by decide)).trans (get_of_set rfl), by rw [sumTick_time]; rfl, ?_, ?_⟩
      · exact keepsFields_sumTick _ _ _ _ ((KeepsFields.refl _ s).set _ (by simp))
      · exact keepsStore_sumTick _ _ _ _ ⟨rfl, rfl, rfl⟩
    · have hgo : wrOffset v s = takeStep d (s.set F.TIME_OFFSET_HI_DELTA_HI v) := by
        rw [wrOffset, if_pos (by rw [State.on, harm]; decide)]
        dsimp only
        rw [State.get_set_other _ _ (by decide), ← hd]
      obtain ⟨h1, h2, h3, h4⟩ := takeStep_does d _ hgo
      have hb : KeepsBlock 0x2005 s (s.set F.TIME_OFFSET_HI_DELTA_HI v) := (KeepsBlock.refl _ s).set _ (by decide) (by decide)
      have hbr : (s.set F.TIME_OFFSET_HI_DELTA_HI v).breathing = s.breathing := by
        rw [State.breathing, State.dstate, hb _ (by decide) (by decide)]
        rfl
      rw [hbr, anchor_congr hb] at h4
      refine ⟨answers_sumTick .., (respond_get _ _ _ _ _ _ (by decide)).trans h1, (respond_get _ _ _ _ _ _ (by decide)).trans h2, ?_,
        fun hbr => ⟨?_, (respond_get _ _ _ _ _ _ (by decide)).trans (h4 hbr).2⟩⟩
      · rw [sumTick_time, State.respond_time]
        exact h3
      · rw [State.anchor, respond_get _ _ _ _ _ _ (by decide), respond_get _ _ _ _ _ _ (by decide), respond_get _ _ _ _ _ _ (by decide)]
        exact (h4 hbr).1
  · intro m v s h hv
    obtain ⟨h1, h2, hkeep, hstore⟩ := wrServo_arms hv s
    refine ⟨_, (done_alive _ h.alive :), ?_⟩
    rw [guarded_admitted _ h]
    exact ⟨answers_sumTick .., (respond_get _ _ _ _ _ _ (by decide)).trans h1, (respond_get _ _ _ _ _ _ (by decide)).trans h2,
      keepsFields_sumTick _ _ _ _ hkeep, keepsStore_sumTick _ _ _ _ hstore⟩
  · intro m v s h hv
    obtain ⟨h1, h2, hkeep, hstore⟩ := wrSnap_takes hv s rfl
    refine ⟨_, (done_alive _ h.alive :), ?_⟩
    rw [guarded_admitted _ h]
    refine ⟨answers_sumTick .., ?_, ?_, keepsFields_sumTick _ _ _ _ hkeep, keepsStore_sumTick _ _ _ _ hstore⟩
    · rw [respond_get _ _ _ _ _ _ (by decide), respond_get _ _ _ _ _ _ (by decide)]
      exact h1
    · rw [respond_get _ _ _ _ _ _ (by decide), respond_get _ _ _ _ _ _ (by decide)]
      exact h2
  · intro m k v s w hk h hen hw
    obtain ⟨u, hu⟩ : ∃ u, u = wrTrigCfg k (withBit (v % 2 ^ 32) 31 true) s := ⟨_, rfl⟩
    have hgo : u = trigEnable k w := by
      have hon : s.on (F.TRIG_CFG_EN k) = false := by rw [State.on, hen]; rfl
      rw [hu, hw, wrTrigCfg, hon]
      simp only [Bool.false_eq_true, if_false, withBit_31_clear (Nat.mod_lt v (by decide : 0 < 2 ^ 32)), bitOf_withBit_same, if_true]
    have hwen : w.get (F.TRIG_CFG_EN k) = 0 := by
      rw [hw]
      exact writeTrigCfg_en hk (bitOf_withBit_31_clear _) s
    have hwother : ∀ f : Fd, f.lsb < 32 → f.addr ≠ A.TRIG_CFG k → w.get f = s.get f := fun f hl ha => by
      rw [hw]
      exact writeTrigCfg_other hk _ s hl ha
    have hwonly : FieldsOnly s w := by
      rw [hw]
      exact s.writeRegPlain_only _ _
    have hwat : w.trigAt k = s.trigAt k := by
      rw [State.trigAt, hwother _ (by simp [F.TRIG_AT_HI_AT_HI]), hwother _ (by simp [F.TRIG_AT_LO_AT_LO])]
      · rfl
      all_goals simp only [F.TRIG_AT_LO_AT_LO, F.TRIG_AT_HI_AT_HI, A.TRIG_AT_LO, A.TRIG_AT_HI, A.TRIG_CFG]; omega
    have hwdev : w.dev = s.dev := by
      obtain ⟨l, hl⟩ := hwonly
      refine State.dev_congr (by rw [hl]) (by rw [hl]) (hwother _ (by decide) ?_)
      simp only [F.TIME_RATE_RATE, A.TIME_RATE, A.TRIG_CFG]; omega
    have hwfcu : w.fcuState = s.fcuState := by
      refine hwother _ (by decide) ?_
      simp only [F.FCU_STAT_STATE, A.FCU_STAT, A.TRIG_CFG]; omega
    have hwfires : w.get (F.TRIG_STAT_FIRES k) = s.get (F.TRIG_STAT_FIRES k) := by
      refine hwother _ (by simp [F.TRIG_STAT_FIRES]) ?_
      simp only [F.TRIG_STAT_FIRES, A.TRIG_STAT, A.TRIG_CFG]; omega
    obtain ⟨h1, h2⟩ := trigEnable_does hk hwen hgo
    rw [hwat, hwdev, hwfcu, hwfires] at h2
    refine ⟨_, (done_alive _ h.alive :), ?_⟩
    rw [guarded_admitted _ h, ← hu]
    have hget : ∀ f ∈ [F.TRIG_CFG_EN k, F.TRIG_CFG_MODE k, F.TRIG_STAT_ARMED k, F.TRIG_STAT_LATE k, F.TRIG_STAT_FIRES k,
        F.TRIG_FIRED_LO_NS k, F.TRIG_STAT_BADCFG k], (sumTick s (u.respond m 0 false false)).get f = u.get f := fun f hf =>
      respond_get _ _ _ _ _ _ (offCapture_trig hk f hf).quiet
    rw [hget _ (by simp), hget _ (by simp), hget _ (by simp), hget _ (by simp), hget _ (by simp)]
    have htrig : (sumTick s (u.respond m 0 false false)).trigS k = u.trigS k := by
      rw [State.trigS, sumTick_time, State.respond_time]
      rfl
    rw [htrig]
    refine ⟨answers_sumTick .., h1, fun hbad hf => ?_⟩
    obtain ⟨h3, h4, h5⟩ := h2 hbad hf
    refine ⟨h3, h4, fun hno => ?_⟩
    obtain ⟨h6, h7, h8⟩ := h5 hno
    exact ⟨h6, h7, keepsStore_sumTick _ _ _ _ (hwonly.keepsStore.trans h8)⟩
  · intro k t s ha hk hen hdue
    obtain ⟨⟨h1, h2⟩, h3, h4, h5⟩ := trigFire_fires (s := s.atTime t) hk hen hdue rfl
    refine ⟨_, done_alive _ ha, ?_⟩
    have hget : ∀ x : State, ∀ f ∈ [F.TRIG_CFG_EN k, F.TRIG_CFG_MODE k, F.TRIG_STAT_ARMED k, F.TRIG_STAT_LATE k, F.TRIG_STAT_FIRES k,
        F.TRIG_FIRED_LO_NS k, F.TRIG_STAT_BADCFG k], (sumTick s x).get f = x.get f := fun x f hf =>
      sumTick_get _ _ (offCapture_trig hk f hf).quiet
    rw [hget _ _ (by simp), hget _ _ (by simp), hget _ _ (by simp), hget _ _ (by simp)]
    refine ⟨h1, h2, h3, fun hm => ?_, h5⟩
    obtain ⟨h6, h7⟩ := h4 hm
    refine ⟨h6, ?_⟩
    rw [State.trigS, sumTick_time]
    exact h7
  · intro o t e s ha he hdue
    obtain ⟨h1, h2, hstore⟩ := pulseEnd_ends (s := s.atTime t) he hdue
    refine ⟨_, done_alive _ ha, ?_, KeepsFields.sumTick (s := s) _ (.of_fld [] h2), KeepsStore.sumTick (s := s) _ hstore⟩
    rw [sumTick_time]
    exact h1
  · intro c t rising s ha hc hen hsrc
    have hgo := captureEdge_takes (s := s.atTime t) hc hen hsrc
    obtain ⟨h1, hstore⟩ := capPush_does ⟨(s.atTime t).devNs, (s.atTime t).devFrac⟩ (s.atTime t) hgo
    refine ⟨_, done_alive _ ha, ?_, KeepsStore.sumTick (s := s) _ hstore⟩
    have hq : Fd.quiet (F.CAP_STAT_OVF c) = true ∧ Fd.quiet (F.CAP_STAT_COUNT c) = true := by
      interval_cases c <;> decide
    rw [sumTick_time, sumTick_get _ _ hq.1, sumTick_get _ _ hq.2]
    dsimp only
    split at h1
    · next hfull =>
      rw [if_pos (by exact hfull)]
      exact ⟨h1.1, h1.2.1, KeepsFields.sumTick (s := s) _ h1.2.2⟩
    · next hfull =>
      rw [if_neg (by exact hfull)]
      exact ⟨h1.1, h1.2.1, KeepsFields.sumTick (s := s) _ h1.2.2⟩
  · intro m c s hc h
    obtain ⟨h1, hkeep, hstore⟩ := capRead_takes c s
    refine ⟨_, (done_alive _ h.alive :), ?_⟩
    rw [guardedRead_admitted _ h]
    refine ⟨?_, keepsFields_sumTick _ _ _ _ hkeep, keepsStore_sumTick _ _ _ _ hstore⟩
    have hq : Fd.quiet (F.CAP_STAT_VALID c) = true ∧ Fd.quiet (F.CAP_TS_HI_NS_HI c) = true ∧ Fd.quiet (F.CAP_STAT_FRAC c) = true := by
      interval_cases c <;> decide
    rw [sumTick_bus, State.respond_bus, respond_get _ _ _ _ _ _ hq.1, respond_get _ _ _ _ _ _ hq.2.1, respond_get _ _ _ _ _ _ hq.2.2,
      sumTick_time, State.respond_time]
    generalize (mget [] c s.time.caps) = q at h1
    cases q with
    | nil => exact ⟨by rw [h1.1]; rfl, h1.2⟩
    | cons st r => exact ⟨by rw [h1.1, Nat.mod_mod], h1.2⟩
  · intro m p s hp h
    obtain ⟨h1, hkeep, hstore⟩ := txtsRead_takes p s
    refine ⟨_, (done_alive _ h.alive :), ?_⟩
    rw [guardedRead_admitted _ h]
    refine ⟨?_, keepsFields_sumTick _ _ _ _ hkeep, keepsStore_sumTick _ _ _ _ hstore⟩
    have hq : Fd.quiet (F.TXTS_TAG_VALID p) = true ∧ Fd.quiet (F.TXTS_TAG_TAG p) = true := by
      interval_cases p <;> decide
    rw [sumTick_bus, State.respond_bus, respond_get _ _ _ _ _ _ hq.1, respond_get _ _ _ _ _ _ hq.2, sumTick_time, State.respond_time]
    generalize (mget [] p s.time.txts) = q at h1
    cases q with
    | nil => exact ⟨by rw [h1.1]; rfl, h1.2⟩
    | cons e r => exact ⟨by rw [h1.1], h1.2⟩
end

section
/-!
LINKS OF PORTS. Enable and disable, autonegotiation, training, alignment, and the low-power policies.
-/
namespace Sys2Proof.Machine

/-! ## Plain writes and states of a link -/

theorem State.writeField_fld {s x : State} (v : Nat) (f : Fd) (h : x.fld = s.fld) : (x.writeField v f).fld = (s.writeField v f).fld := by
  have hget : x.get f = s.get f := State.get_congr h f
  unfold State.writeField
  dsimp only
  split <;> first | exact h | (simp only [State.set, h, hget])

theorem State.writeRegPlain_fld {s x : State} (a v : Nat) (h : x.fld = s.fld) : (x.writeRegPlain a v).fld = (s.writeRegPlain a v).fld := by
  unfold State.writeRegPlain
  generalize fieldsAt a = l
  induction l generalizing s x with
  | nil => exact h
  | cons f l ih => exact ih (State.writeField_fld v f h)

/-- A field that software writes holds what a plain write of its register gives it. -/
theorem State.writeRegPlain_get_rw {a : Nat} {f : Fd} (hf : f ∈ fieldsAt a) (hrw : f.acc = .rw)
    (hne : ∀ g ∈ fieldsAt a, f = g ∨ Fd.key f ≠ Fd.key g) (v : Nat) (s : State) :
    (s.writeRegPlain a v).get f = bits f.msb f.lsb v % 2 ^ Fd.width f := by
  unfold State.writeRegPlain
  generalize fieldsAt a = l at hf hne
  induction l generalizing s with
  | nil => cases hf
  | cons g l ih =>
    rw [List.foldl_cons]
    have hl : ∀ e ∈ l, f = e ∨ Fd.key f ≠ Fd.key e := fun e he => hne e (List.mem_cons_of_mem _ he)
    by_cases hfl : f ∈ l
    · exact ih _ hfl hl
    · obtain rfl := (List.mem_cons.mp hf).resolve_right hfl
      have hkeep : ∀ e ∈ l, Fd.key f ≠ Fd.key e := fun e he => (hl e he).resolve_left fun h => hfl (h ▸ he)
      refine (foldl_keeps (fun u : State => u.get f) _ _ _ fun e he u => u.writeField_get_other v (hkeep e he)).trans ?_
      rw [State.writeField, hrw]
      exact State.get_set_same ..

section
variable {p : Nat} (hp : p < 5)

/-- A link enters state `st`. -/
theorem enterL_shows {st : Nat} (hst : st < 8) (s : State) :
    (enterL p st s).lstate p = st ∧ (enterL p st s).portS p = { s.portS p with since := s.now, anWait := false }
    ∧ KeepsFields [F.NET_STAT_LSTATE p, F.NET_AN_LP_VALID p] s (enterL p st s)
    ∧ (st ≠ lsAN → KeepsFields [F.NET_STAT_LSTATE p] s (enterL p st s)) ∧ KeepsStore s (enterL p st s) := by
  obtain ⟨x, hx, hxf, hxp, hxs⟩ : ∃ x : State, x = s.setPort p { s.portS p with since := s.now, anWait := false } ∧ x.fld = s.fld
      ∧ x.portS p = { s.portS p with since := s.now, anWait := false } ∧ KeepsStore s x := ⟨_, rfl, rfl, portS_setPort .., rfl, rfl, rfl⟩
  have hgo : enterL p st s = (if st == lsAN then x.set (F.NET_AN_LP_VALID p) 0 else x).set (F.NET_STAT_LSTATE p) st := by rw [hx]; rfl
  rw [hgo]
  refine ⟨(State.get_set_same ..).trans (Nat.mod_eq_of_lt hst), ?_, ?_, fun h => ?_, ?_⟩
  · split <;> exact hxp
  · refine KeepsFields.set _ ?_ (by simp)
    split
    · exact KeepsFields.set _ (.of_fld _ hxf) (by simp)
    · exact .of_fld _ hxf
  · rw [if_neg (by simpa using h)]
    exact KeepsFields.set _ (.of_fld _ hxf) (by simp)
  · split <;> exact hxs

/-! ## Enable (R167–R169) -/

include hp

theorem fieldsAt_netCtrl : fieldsAt (A.NET_CTRL p) = [F.NET_CTRL_EN p, F.NET_CTRL_PHY p, F.NET_CTRL_SPEED p, F.NET_CTRL_AN_EN p,
    F.NET_CTRL_FEC p, F.NET_CTRL_LOWPWR p, F.NET_CTRL_TX_POL p, F.NET_CTRL_RX_POL p, F.NET_CTRL_PROMISC p, F.NET_CTRL_ALLMULTI p,
    F.NET_CTRL_BCAST_EN p, F.NET_CTRL_VLAN_EN p, F.NET_CTRL_UNTAG_EN p] := by
  interval_cases p <;> decide

/-- What a plain write of NET_CTRL shows in one of its fields. -/
theorem writeNetCtrl_get {f : Fd} (hf : f ∈ fieldsAt (A.NET_CTRL p)) (v : Nat) (s : State) :
    (s.writeRegPlain (A.NET_CTRL p) v).get f = bits f.msb f.lsb v % 2 ^ Fd.width f := by
  have hrw : ∀ q < 5, ∀ g ∈ fieldsAt (A.NET_CTRL q), g.acc = .rw ∧ ∀ g' ∈ fieldsAt (A.NET_CTRL q), g = g' ∨ Fd.key g ≠ Fd.key g' := by
    decide
  exact State.writeRegPlain_get_rw hf (hrw p hp f hf).1 (hrw p hp f hf).2 v s

theorem writeNetCtrl_bit {f : Fd} (hf : f ∈ [F.NET_CTRL_EN p, F.NET_CTRL_PHY p, F.NET_CTRL_AN_EN p]) (v : Nat) (s : State) :
    (s.writeRegPlain (A.NET_CTRL p) v).get f = (bitOf v f.lsb).toNat := by
  have hb : ∀ q < 5, ∀ g ∈ [F.NET_CTRL_EN q, F.NET_CTRL_PHY q, F.NET_CTRL_AN_EN q],
      g ∈ fieldsAt (A.NET_CTRL q) ∧ g.msb = g.lsb := by decide
  obtain ⟨hin, hbit⟩ := hb p hp f hf
  rw [writeNetCtrl_get hp hin, Fd.width, hbit, Nat.add_sub_cancel_left, bits, Nat.add_sub_cancel_left, bitOf]
  rcases Nat.mod_two_eq_zero_or_one (v / 2 ^ f.lsb) with h | h <;> rw [pow_one, h] <;> rfl

theorem portEnable_enters {y : State} :
    (portEnable p y).lstate p = (if y.on (F.NET_CTRL_PHY p) then (if y.on (F.NET_CTRL_AN_EN p) then lsAN else lsTRAINING) else lsALIGN)
    ∧ ((portEnable p y).portS p).since = y.now ∧ (portEnable p y).get (F.NET_CTRL_EN p) = y.get (F.NET_CTRL_EN p)
    ∧ KeepsStore y (portEnable p y) := by
  have hk : ∀ q < 5, Fd.quiet (F.NET_CTRL_EN q) = true ∧ ∀ g ∈ [F.NET_STAT_LSTATE q, F.NET_AN_LP_VALID q, F.NET_STAT_FECCFG q,
      F.NET_STAT_SPEED q, F.NET_STAT_FEC q], Fd.key (F.NET_CTRL_EN q) ≠ Fd.key g := by decide
  obtain ⟨hq, hne⟩ := hk p hp
  have hgo : ∃ (z : State) (st : Nat), portEnable p y = enterL p st z ∧ st < 8
      ∧ st = (if y.on (F.NET_CTRL_PHY p) then (if y.on (F.NET_CTRL_AN_EN p) then lsAN else lsTRAINING) else lsALIGN)
      ∧ z.now = y.now ∧ z.get (F.NET_CTRL_EN p) = y.get (F.NET_CTRL_EN p) ∧ KeepsStore y z := by
    unfold portEnable
    extract_lets kr an speed fec x s1 s2 s3
    have h2 : s2.now = y.now ∧ s2.get (F.NET_CTRL_EN p) = y.get (F.NET_CTRL_EN p) ∧ KeepsStore y s2 := by
      unfold s2
      split
      · exact ⟨rfl, State.get_set_other s1 _ (hne _ (by simp)), rfl, rfl, rfl⟩
      · exact ⟨rfl, rfl, rfl, rfl, rfl⟩
    clear_value s2
    obtain ⟨h2n, h2g, h2s⟩ := h2
    have h3 : s3.now = y.now ∧ s3.get (F.NET_CTRL_EN p) = y.get (F.NET_CTRL_EN p) ∧ KeepsStore y s3 :=
      ⟨h2n, (State.get_set_other _ _ (hne _ (by simp))).trans ((State.get_set_other _ _ (hne _ (by simp))).trans h2g), h2s⟩
    cases hkr : y.on (F.NET_CTRL_PHY p) <;> cases han : y.on (F.NET_CTRL_AN_EN p) <;>
      simp only [kr, an, hkr, han, Bool.and_true, Bool.and_false, Bool.false_eq_true, if_true, if_false]
    · exact ⟨_, _, rfl, by decide, rfl, h3⟩
    · exact ⟨_, _, rfl, by decide, rfl, h3⟩
    · exact ⟨_, _, rfl, by decide, rfl, h3⟩
    · exact ⟨_, _, rfl, by decide, rfl, rfl, rfl, rfl, rfl, rfl⟩
  obtain ⟨z, st, hz, hlt, hst, hnow, hget, hstore⟩ := hgo
  obtain ⟨h1, h2, h3, _, h5⟩ := enterL_shows (p := p) hlt z
  rw [hz]
  refine ⟨h1.trans hst, ?_, ?_, hstore.trans h5⟩
  · rw [h2]
    exact hnow
  · refine (h3 _ hq fun g hg => hne g ?_).trans hget
    simp only [List.mem_cons, List.not_mem_nil, or_false] at hg
    rcases hg with rfl | rfl <;> simp

/-- A write of NET_CTRL that enables its port. -/
theorem wrNetCtrl_enables {v : Nat} {s : State} (hen : s.get (F.NET_CTRL_EN p) = 0) (hv : bitOf v 31 = true) {u : State}
    (hu : u = wrNetCtrl p v s) :
    u.get (F.NET_CTRL_EN p) = 1
    ∧ (let w := s.writeRegPlain (A.NET_CTRL p) v
       u.lstate p = (if w.get (F.NET_CTRL_PHY p) = 1 then (if w.get (F.NET_CTRL_AN_EN p) = 1 then lsAN else lsTRAINING) else lsALIGN))
    ∧ (u.portS p).since = s.now ∧ KeepsStore s u := by
  have hk : ∀ q < 5, ∀ g ∈ [F.NET_CTRL_EN q, F.NET_CTRL_PHY q, F.NET_CTRL_AN_EN q], Fd.key g ≠ Fd.key (F.NET_CTRL_LOWPWR q) := by decide
  have hon : s.on (F.NET_CTRL_EN p) = false := by rw [State.on, hen]; rfl
  obtain ⟨y, huy, hyn, hyg, hys⟩ : ∃ y : State, u = portEnable p y ∧ y.now = s.now
      ∧ (∀ g ∈ [F.NET_CTRL_EN p, F.NET_CTRL_PHY p, F.NET_CTRL_AN_EN p], y.get g = (s.writeRegPlain (A.NET_CTRL p) v).get g)
      ∧ KeepsStore s y := by
    obtain ⟨x, hx, hxf, hxn, hxs⟩ : ∃ x : State, x = wrFilter p (A.NET_CTRL p) v s ∧ x.fld = (s.writeRegPlain (A.NET_CTRL p) v).fld
        ∧ x.now = s.now ∧ KeepsStore s x := by
      refine ⟨_, rfl, ?_⟩
      unfold wrFilter
      extract_lets x z
      obtain ⟨l, hl⟩ := z.writeRegPlain_only (A.NET_CTRL p) v
      refine ⟨State.writeRegPlain_fld _ _ rfl, ?_, ?_⟩
      · rw [hl]; rfl
      · rw [hl]; exact ⟨rfl, rfl, rfl⟩
    refine ⟨if p = 4 then x.set (F.NET_CTRL_LOWPWR p) 0 else x, ?_, ?_, fun g hg => ?_, ?_⟩
    · rw [hu, wrNetCtrl, hon, hv, hx]
      rfl
    · split <;> exact hxn
    · refine Eq.trans ?_ (State.get_congr hxf g)
      split
      · exact State.get_set_other _ _ (hk p hp g hg)
      · rfl
    · split <;> exact hxs
  have hbit := fun g hg => (hyg g hg).trans (writeNetCtrl_bit hp hg v s)
  obtain ⟨h1, h2, h3, h4⟩ := portEnable_enters hp (y := y)
  rw [huy]
  refine ⟨h3.trans ((hbit _ (by simp)).trans (by rw [show (F.NET_CTRL_EN p).lsb = 31 from rfl, hv]; rfl)), ?_, h2.trans hyn, hys.trans h4⟩
  have honbit : ∀ g ∈ [F.NET_CTRL_EN p, F.NET_CTRL_PHY p, F.NET_CTRL_AN_EN p],
      (y.on g = true) = ((s.writeRegPlain (A.NET_CTRL p) v).get g = 1) := fun g hg => by
    rw [State.on, hyg g hg, writeNetCtrl_bit hp hg]
    cases bitOf v g.lsb <;> simp
  rw [h1]
  simp only [honbit _ (by simp : F.NET_CTRL_PHY p ∈ _), honbit _ (by simp : F.NET_CTRL_AN_EN p ∈ _)]

omit hp in
/-- A write of NET_CTRL that disables its port. -/
theorem wrNetCtrl_disables {v : Nat} {s : State} (hen : s.get (F.NET_CTRL_EN p) = 1) (hv : bitOf v 31 = false) :
    (wrNetCtrl p v s).lstate p = lsDISABLED := by
  have hon : s.on (F.NET_CTRL_EN p) = true := by rw [State.on, hen]; rfl
  rw [wrNetCtrl, hon, hv]
  exact (enterL_shows (p := p) (by decide) _).1

/-! ## Autonegotiation (R168, R169) -/

theorem anPage_meets {ab : Nat} {s : State} (hst : s.lstate p = lsAN) (hw : (s.portS p).anWait = false) {u : State}
    (hu : u = anPage p ab s) :
    u.get (F.NET_AN_LP_VALID p) = 1
    ∧ (let a := s.anAdv p
        if bitOf a 4 && bitOf ab 4 || bitOf a 3 && bitOf ab 3 then u.lstate p = lsTRAINING ∧ u.get (F.NET_STAT_SPEED p) = 0
        else if bitOf a 2 && bitOf ab 2 then u.lstate p = lsTRAINING ∧ u.get (F.NET_STAT_SPEED p) = 1
        else u.lstate p = lsAN ∧ (u.portS p).anWait = true)
    ∧ KeepsStore s u := by
  have hk : ∀ q < 5, (Fd.quiet (F.NET_AN_LP_VALID q) = true ∧ Fd.quiet (F.NET_STAT_SPEED q) = true)
      ∧ (∀ g ∈ [F.NET_STAT_LSTATE q, F.NET_STAT_SPEED q, F.NET_STAT_FEC q, F.NET_AN_LP_ABIL q],
          Fd.key (F.NET_AN_LP_VALID q) ≠ Fd.key g)
      ∧ (∀ g ∈ [F.NET_STAT_LSTATE q, F.NET_STAT_FEC q], Fd.key (F.NET_STAT_SPEED q) ≠ Fd.key g)
      ∧ ∀ g ∈ [F.NET_AN_LP_VALID q, F.NET_AN_LP_ABIL q], Fd.key (F.NET_STAT_LSTATE q) ≠ Fd.key g := by decide
  obtain ⟨⟨hq, hq'⟩, kV, kS, kL⟩ := hk p hp
  obtain ⟨x, hx, hxv, hxl, hxs⟩ : ∃ x : State, x = (s.set (F.NET_AN_LP_ABIL p) ab).set (F.NET_AN_LP_VALID p) 1
      ∧ x.get (F.NET_AN_LP_VALID p) = 1 ∧ x.lstate p = lsAN ∧ KeepsStore s x := by
    refine ⟨_, rfl, get_of_set rfl, ?_, rfl, rfl, rfl⟩
    rw [State.lstate, State.get_set_other _ _ (kL _ (by simp)), State.get_set_other _ _ (kL _ (by simp))]
    exact hst
  have htake : ∀ speed fec : Nat, speed < 2 → ∀ z : State,
      z = enterL p lsTRAINING ((x.set (F.NET_STAT_SPEED p) speed).set (F.NET_STAT_FEC p) fec) →
      z.get (F.NET_AN_LP_VALID p) = 1 ∧ (z.lstate p = lsTRAINING ∧ z.get (F.NET_STAT_SPEED p) = speed) ∧ KeepsStore s z := by
    rintro speed fec hs z rfl
    obtain ⟨h1, _, _, h4, h5⟩ := enterL_shows (p := p) (st := lsTRAINING) (by decide)
      ((x.set (F.NET_STAT_SPEED p) speed).set (F.NET_STAT_FEC p) fec)
    have hkeep := h4 (by decide)
    refine ⟨?_, ⟨h1, ?_⟩, hxs.trans (KeepsStore.trans (w := (x.set (F.NET_STAT_SPEED p) speed).set (F.NET_STAT_FEC p) fec) ⟨rfl, rfl, rfl⟩ h5)⟩
    · rw [hkeep _ hq (by simpa using kV _ (by simp)), State.get_set_other _ _ (kV _ (by simp)), State.get_set_other _ _ (kV _ (by simp)), hxv]
    · rw [hkeep _ hq' (by simpa using kS _ (by simp)), State.get_set_other _ _ (kS _ (by simp)), State.get_set_same]
      exact Nat.mod_eq_of_lt hs
  have hgo : u = if (bitOf (s.anAdv p) 4 && bitOf ab 4) = true then enterL p lsTRAINING ((x.set (F.NET_STAT_SPEED p) 0).set (F.NET_STAT_FEC p)
        (if (bitOf (s.anAdv p) 1 && bitOf ab 1) = true then 2 else if (bitOf (s.anAdv p) 0 && bitOf ab 0) = true then 1 else 0))
      else if (bitOf (s.anAdv p) 3 && bitOf ab 3) = true then enterL p lsTRAINING ((x.set (F.NET_STAT_SPEED p) 0).set (F.NET_STAT_FEC p)
        (if (bitOf (s.anAdv p) 0 && bitOf ab 0) = true then 1 else 0))
      else if (bitOf (s.anAdv p) 2 && bitOf ab 2) = true then enterL p lsTRAINING ((x.set (F.NET_STAT_SPEED p) 1).set (F.NET_STAT_FEC p)
        (if (bitOf (s.anAdv p) 0 && bitOf ab 0) = true then 1 else 0))
      else x.setPort p { x.portS p with anWait := true } := by
    rw [hu, anPage, hst, hw, hx]
    rfl
  have hwait : ∀ z : State, z = x.setPort p { x.portS p with anWait := true } →
      z.get (F.NET_AN_LP_VALID p) = 1 ∧ (z.lstate p = lsAN ∧ (z.portS p).anWait = true) ∧ KeepsStore s z := by
    rintro z rfl
    exact ⟨hxv, ⟨hxl, congrArg PortS.anWait (portS_setPort ..)⟩, hxs⟩
  dsimp only
  generalize s.anAdv p = a at hgo
  by_cases h4 : (bitOf a 4 && bitOf ab 4) = true
  · rw [if_pos h4] at hgo
    rw [h4, Bool.true_or, if_pos rfl]
    exact htake 0 _ (by decide) u hgo
  rw [if_neg h4] at hgo
  rw [Bool.eq_false_iff.mpr h4, Bool.false_or]
  by_cases h3 : (bitOf a 3 && bitOf ab 3) = true
  · rw [if_pos h3] at hgo
    rw [if_pos h3]
    exact htake 0 _ (by decide) u hgo
  rw [if_neg h3] at hgo
  rw [if_neg h3]
  by_cases h2 : (bitOf a 2 && bitOf ab 2) = true
  · rw [if_pos h2] at hgo
    rw [if_pos h2]
    exact htake 1 _ (by decide) u hgo
  · rw [if_neg h2] at hgo
    rw [if_neg h2]
    exact hwait u hgo

/-! ## Up and down (R169) -/

/-- Registers of a port other than its events and LINKCHG stay as they are when a link changes. -/
theorem linkChg_get {f : Fd} (hl : f.lsb < 32) (hb : blockOf f = 0x200B + p) (hc : Fd.key f ≠ Fd.key (F.NET_STAT_LINKCHG p))
    (he : Fd.key f ≠ Fd.key (F.NET_EVT_LINK p)) (s : State) : (linkChg p s).get f = s.get f := by
  unfold linkChg
  extract_lets x y
  have hx : x.get f = s.get f := (netEvt_get _ he).trans (State.get_set_other _ _ hc)
  have hy : y.get f = s.get f := by
    unfold y
    split
    · exact ((KeepsBlock.refl (0x200B + p) x).allEvt evLINK (by omega) f hl hb).trans hx
    · exact hx
  exact (keepsBlock_capEvent (by omega) 4 p y f hl hb).trans hy

theorem linkChg_shows (s : State) : (linkChg p s).get (F.NET_STAT_LINKCHG p) = 1 ∧ KeepsStore s (linkChg p s) := by
  have hk : ∀ q < 5, (F.NET_STAT_LINKCHG q).lsb < 32 ∧ blockOf (F.NET_STAT_LINKCHG q) = 0x200B + q
      ∧ Fd.key (F.NET_STAT_LINKCHG q) ≠ Fd.key (F.NET_EVT_LINK q) := by decide
  obtain ⟨hl, hb, he⟩ := hk p hp
  unfold linkChg
  extract_lets x y
  have hxf : FieldsOnly s x := ((FieldsOnly.refl s).set _ _).trans (fieldsOnly_netEvt ..)
  have hx : x.get (F.NET_STAT_LINKCHG p) = 1 := (netEvt_get _ he).trans (State.get_set_same ..)
  have hy : y.get (F.NET_STAT_LINKCHG p) = 1 ∧ FieldsOnly s y := by
    unfold y
    split
    · exact ⟨((KeepsBlock.refl (0x200B + p) x).allEvt evLINK (by omega) _ hl hb).trans hx, hxf.allEvt evLINK⟩
    · exact ⟨hx, hxf⟩
  obtain ⟨hy1, hy2⟩ := hy
  clear_value y
  exact ⟨(keepsBlock_capEvent (by omega) 4 p y _ hl hb).trans hy1, (hy2.event.trans (eventOnly_capEvent 4 p y)).keepsStore⟩

omit hp in
/-- What follows LINKCHG when a link comes up. -/
def settleUp (p : Nat) (w : State) : State :=
  (w.setPort p { w.portS p with step := none, idle := w.now, wakeAt := 0 }).set (F.NET_STAT_RFAULT p) 0

omit hp in
theorem settleUp_does (p : Nat) (w : State) : (settleUp p w).get (F.NET_STAT_RFAULT p) = 0
    ∧ (∀ f, Fd.key f ≠ Fd.key (F.NET_STAT_RFAULT p) → (settleUp p w).get f = w.get f) ∧ KeepsStore w (settleUp p w) :=
  ⟨get_of_set rfl, fun _ h => State.get_set_other _ _ h, rfl, rfl, rfl⟩

omit hp in
theorem linkUp_goes {s : State} (hst : s.lstate p = lsALIGN) (hdue : (s.portS p).since + 10 * uMs ≤ s.now) :
    linkUp p s = settleUp p (linkChg p (enterL p lsUP s)) := by
  rw [linkUp, hst, State.lstateFor, decide_eq_true hdue]
  rfl

theorem linkUp_shows {s : State} (hst : s.lstate p = lsALIGN) (hdue : (s.portS p).since + 10 * uMs ≤ s.now) :
    (linkUp p s).lstate p = lsUP ∧ (linkUp p s).get (F.NET_STAT_LINKCHG p) = 1 ∧ (linkUp p s).get (F.NET_STAT_RFAULT p) = 0
    ∧ (∀ f ∈ [F.SFP_STAT_LOS p, F.SFP_STAT_TX_FAULT p], (linkUp p s).get f = s.get f) ∧ KeepsStore s (linkUp p s) := by
  have hk : ∀ q < 5, (∀ f ∈ [F.NET_STAT_LSTATE q, F.SFP_STAT_LOS q, F.SFP_STAT_TX_FAULT q], Fd.quiet f = true ∧ f.lsb < 32
      ∧ blockOf f = 0x200B + q ∧ Fd.key f ≠ Fd.key (F.NET_STAT_LINKCHG q) ∧ Fd.key f ≠ Fd.key (F.NET_EVT_LINK q)
      ∧ Fd.key f ≠ Fd.key (F.NET_STAT_RFAULT q)) ∧ Fd.key (F.NET_STAT_LINKCHG q) ≠ Fd.key (F.NET_STAT_RFAULT q)
      ∧ ∀ f ∈ [F.SFP_STAT_LOS q, F.SFP_STAT_TX_FAULT q], Fd.key f ≠ Fd.key (F.NET_STAT_LSTATE q) := by decide
  obtain ⟨k1, k2, k3⟩ := hk p hp
  rw [linkUp_goes hst hdue]
  obtain ⟨h1, _, _, h4, h5⟩ := enterL_shows (p := p) (st := lsUP) (by decide) s
  generalize enterL p lsUP s = x at h1 h4 h5
  obtain ⟨g1, g2⟩ := linkChg_shows hp x
  have hchg : ∀ f ∈ [F.NET_STAT_LSTATE p, F.SFP_STAT_LOS p, F.SFP_STAT_TX_FAULT p], (linkChg p x).get f = x.get f := fun f hf => by
    obtain ⟨_, hl, hb, h1, h2, _⟩ := k1 f hf
    exact linkChg_get hp hl hb h1 h2 x
  generalize linkChg p x = y at g1 g2 hchg
  obtain ⟨e1, e2, e3⟩ := settleUp_does p y
  have hget : ∀ f ∈ [F.NET_STAT_LSTATE p, F.SFP_STAT_LOS p, F.SFP_STAT_TX_FAULT p], (settleUp p y).get f = x.get f := fun f hf =>
    (e2 f (k1 f hf).2.2.2.2.2).trans (hchg f hf)
  refine ⟨(hget _ (by simp)).trans h1, (e2 _ k2).trans g1, e1, fun f hf => ?_, (h5.trans g2).trans e3⟩
  have hf' : f ∈ [F.NET_STAT_LSTATE p, F.SFP_STAT_LOS p, F.SFP_STAT_TX_FAULT p] := List.mem_cons_of_mem _ hf
  refine (hget f hf').trans (h4 (by decide) f (k1 f hf').1 fun g hg => ?_)
  rw [List.mem_singleton.mp hg]
  exact k3 f hf

/-! ## Low-power policies (R190–R193) -/

omit hp in
theorem lpiEnter_enters {s : State} (hp4 : p < 4) (hst : s.lstate p = lsUP) (hlp : s.get (F.NET_CTRL_LOWPWR p) = 2)
    (hkr : (s.portS p).kr = true) (han : (s.portS p).an = true) (hadv : bitOf (s.portS p).adv 5 = true)
    (hab : bitOf (s.get (F.NET_AN_LP_ABIL p)) 5 = true) (hmap : s.portMapped p = false) (hq : (s.portS p).txq = [])
    (hdue : max (s.portS p).idle (s.portS p).lineEnd + s.get (F.NET_LP_CFG_LPI_IDLE p) * uUs ≤ s.now) :
    lpiEnter p s = s.set (F.NET_STAT_LPI_TX p) 1 := by
  have hline : (s.portS p).lineEnd ≤ s.now := (Nat.le_max_right ..).trans ((Nat.le_add_right ..).trans hdue)
  unfold lpiEnter
  refine if_pos ?_
  rw [decide_eq_true hp4, State.portUp, hst, hlp, hkr, han, hadv, hab, hmap, hq, decide_eq_true hline, decide_eq_true hdue]
  rfl

omit hp in
theorem portMapped_congr {s w : State} (h : ∀ sid, w.get (F.STRM_DESC_WORD 0 sid) = s.get (F.STRM_DESC_WORD 0 sid)) :
    w.portMapped p = s.portMapped p := by
  have hpath : ∀ sid b, w.pathPort sid b = s.pathPort sid b := fun sid b => by
    unfold State.pathPort
    rw [h sid]
  unfold State.portMapped
  simp only [h, hpath]

/-- What the pins of a module show bears on no field outside SFP_STAT. -/
theorem samplePins_other {f : Fd} (los txf : Bool) (s : State) (hl : f.lsb < 32) (ha : f.addr ≠ A.SFP_STAT p) :
    (samplePins p los txf s).get f = s.get f := by
  have hk : ∀ q < 5, ∀ g ∈ [F.SFP_STAT_LOS q, F.SFP_STAT_TX_FAULT q], g.lsb < 32 ∧ g.addr = A.SFP_STAT q := by decide
  have hne : ∀ g ∈ [F.SFP_STAT_LOS p, F.SFP_STAT_TX_FAULT p], Fd.key f ≠ Fd.key g := fun g hg =>
    Fd.key_ne hl (hk p hp g hg).1 (.inl ((hk p hp g hg).2 ▸ ha))
  rw [samplePins, State.get_set_other _ _ (hne _ (by simp)), State.get_set_other _ _ (hne _ (by simp))]

/-- A speed step takes the link to autonegotiation with the other speed. -/
theorem speedStep_steps {s : State} (hp4 : p < 4) (hst : s.lstate p = lsUP) (hlp : s.get (F.NET_CTRL_LOWPWR p) = 1)
    (hkr : (s.portS p).kr = true) (han : (s.portS p).an = true) (hmap : s.portMapped p = false) (hno : (s.portS p).noStep ≤ s.now)
    (h2 : (bitOf (s.portS p).adv 2 && bitOf (s.get (F.NET_AN_LP_ABIL p)) 2) = true)
    (h43 : (bitOf (s.portS p).adv 4 && bitOf (s.get (F.NET_AN_LP_ABIL p)) 4 || bitOf (s.portS p).adv 3 && bitOf (s.get (F.NET_AN_LP_ABIL p)) 3)
      = true) (hdue : s.stepDue p = true) {u : State} (hu : u = speedStep p s) :
    u.lstate p = lsAN ∧ u.get (F.NET_STAT_STEPPED p) = 1
    ∧ (u.portS p).step = some (if s.get (F.NET_STAT_SPEED p) = 0 then 1 else 0) ∧ (u.portS p).noStep = s.now + 10 * uS := by
  have hk : ∀ q < 5, Fd.quiet (F.NET_STAT_STEPPED q) = true
      ∧ ∀ g ∈ [F.NET_STAT_LSTATE q, F.NET_AN_LP_VALID q], Fd.key (F.NET_STAT_STEPPED q) ≠ Fd.key g := by decide
  obtain ⟨hq, hne⟩ := hk p hp
  obtain ⟨x, hx, hxn, hxs⟩ : ∃ x : State, x = (leaveUp p true s).set (F.NET_STAT_STEPPED p) 1 ∧ x.now = s.now
      ∧ x.get (F.NET_STAT_STEPPED p) = 1 := ⟨_, rfl, now_of_outer (outer_leaveUpBy outer_raiseF p true s), get_of_set rfl⟩
  have hgo : u = enterL p lsAN (x.setPort p { x.portS p with
      step := some (if s.get (F.NET_STAT_SPEED p) == 0 then 1 else 0), noStep := x.now + 10 * uS }) := by
    rw [hu, hx]
    unfold speedStep
    refine if_pos ?_
    dsimp only
    rw [decide_eq_true hp4, State.portUp, hst, hlp, hkr, han, hmap, decide_eq_true hno, hdue, h2, h43]
    rfl
  obtain ⟨g1, g2, g3, _⟩ := enterL_shows (p := p) (st := lsAN) (by decide) (x.setPort p { x.portS p with
      step := some (if s.get (F.NET_STAT_SPEED p) == 0 then 1 else 0), noStep := x.now + 10 * uS })
  rw [hgo]
  refine ⟨g1, (g3 _ hq hne).trans hxs, ?_, ?_⟩
  · rw [g2, portS_setPort]
    by_cases h : s.get (F.NET_STAT_SPEED p) = 0 <;> simp [h]
  · rw [g2, portS_setPort]
    exact congrArg (· + 10 * uS) hxn

end

theorem stepDue_congr {p : Nat} {s w : State} (hnow : w.now = s.now) (hnet : w.net = s.net)
    (h : ∀ f ∈ [F.NET_STAT_SPEED p, F.NET_LP_CFG_DOWN_PCT p, F.NET_LP_CFG_UP_PCT p], w.get f = s.get f) : w.stepDue p = s.stepDue p := by
  have hload : ∀ k, w.loadIn p k = s.loadIn p k := fun k => by
    unfold State.loadIn
    rw [portS_congr hnet]
  unfold State.stepDue
  simp only [hload, hnow, portS_congr hnet, h _ (by simp : F.NET_STAT_SPEED p ∈ _), h _ (by simp : F.NET_LP_CFG_DOWN_PCT p ∈ _),
    h _ (by simp : F.NET_LP_CFG_UP_PCT p ∈ _)]

theorem strmDesc_ne_sfpStat {p : Nat} (sid : Nat) : (F.STRM_DESC_WORD 0 sid).addr ≠ A.SFP_STAT p := by
  simp only [F.STRM_DESC_WORD, A.STRM_DESC, A.SFP_STAT]
  omega

/-- The same where the step finds what a module's pins show. -/
theorem speedStep_sampled {p : Nat} {s : State} (txf : Bool) (hp4 : p < 4) (hst : s.lstate p = lsUP) (hlp : s.get (F.NET_CTRL_LOWPWR p) = 1)
    (hkr : (s.portS p).kr = true) (han : (s.portS p).an = true) (hmap : s.portMapped p = false) (hno : (s.portS p).noStep ≤ s.now)
    (h2 : (bitOf (s.portS p).adv 2 && bitOf (s.get (F.NET_AN_LP_ABIL p)) 2) = true)
    (h43 : (bitOf (s.portS p).adv 4 && bitOf (s.get (F.NET_AN_LP_ABIL p)) 4 || bitOf (s.portS p).adv 3 && bitOf (s.get (F.NET_AN_LP_ABIL p)) 3)
      = true) (hdue : s.stepDue p = true) {u : State} (hu : u = speedStep p (samplePins p false txf s)) :
    u.lstate p = lsAN ∧ u.get (F.NET_STAT_STEPPED p) = 1
    ∧ (u.portS p).step = some (if s.get (F.NET_STAT_SPEED p) = 0 then 1 else 0) ∧ (u.portS p).noStep = s.now + 10 * uS := by
  have hp : p < 5 := by omega
  have hother : ∀ f : Fd, f.lsb < 32 → f.addr ≠ A.SFP_STAT p → (samplePins p false txf s).get f = s.get f := fun f hl h =>
    samplePins_other hp false txf s hl h
  have honly := (samplePins_shows hp false txf s).2.2.1
  generalize samplePins p false txf s = w at hother honly hu
  have hk : ∀ q < 5, ∀ f ∈ [F.NET_STAT_LSTATE q, F.NET_CTRL_LOWPWR q, F.NET_AN_LP_ABIL q, F.NET_STAT_SPEED q, F.NET_LP_CFG_DOWN_PCT q,
      F.NET_LP_CFG_UP_PCT q], f.lsb < 32 ∧ f.addr ≠ A.SFP_STAT q := by decide
  have hnet : ∀ f ∈ [F.NET_STAT_LSTATE p, F.NET_CTRL_LOWPWR p, F.NET_AN_LP_ABIL p, F.NET_STAT_SPEED p, F.NET_LP_CFG_DOWN_PCT p,
      F.NET_LP_CFG_UP_PCT p], w.get f = s.get f := fun f hf => hother f (hk p hp f hf).1 (hk p hp f hf).2
  have hmapw : w.portMapped p = s.portMapped p :=
    portMapped_congr fun sid => hother _ (by simp [F.STRM_DESC_WORD]) (strmDesc_ne_sfpStat sid)
  have hnow : w.now = s.now := by
    obtain ⟨m, rfl⟩ := honly
    rfl
  have hduew : w.stepDue p = s.stepDue p := stepDue_congr hnow honly.net fun f hf => hnet f (by
    simp only [List.mem_cons, List.not_mem_nil, or_false] at hf ⊢
    tauto)
  have hportw := portS_congr honly.net p
  have hab := hnet (F.NET_AN_LP_ABIL p) (by simp)
  have hspeed := hnet (F.NET_STAT_SPEED p) (by simp)
  have hup : w.lstate p = s.lstate p := hnet _ (by simp)
  have hpow := hnet (F.NET_CTRL_LOWPWR p) (by simp)
  rw [← hup] at hst
  rw [← hpow] at hlp
  rw [← hmapw] at hmap
  rw [← hduew] at hdue
  rw [← hportw, ← hab] at h2 h43
  rw [← hportw] at hkr han hno
  rw [← hnow] at hno ⊢
  rw [← hspeed]
  exact speedStep_steps hp hp4 hst hlp hkr han hmap hno h2 h43 hdue hu

theorem lstateFor_of_le {p ms : Nat} {s : State} (h : (s.portS p).since + ms * uMs ≤ s.now) : s.lstateFor p ms = true := decide_eq_true h

/-- A link that goes down, with what its module's pins and a remote fault show (R169, R171). -/
theorem linkDown_sampled {p : Nat} {s : State} (hp : p < 5) (rfault los txf : Bool) (hst : s.lstate p = lsUP) {w : State}
    (hw : w = (let w := samplePins p los txf s; if rfault then w.set (F.NET_STAT_RFAULT p) 1 else w)) :
    linkDown p w = enterL p (if (s.portS p).an then lsAN else lsALIGN) (leaveUp p true w) := by
  have hk : ∀ q < 5, Fd.key (F.NET_STAT_LSTATE q) ≠ Fd.key (F.NET_STAT_RFAULT q) := by decide
  have hst' : (samplePins p los txf s).lstate p = lsUP :=
    (samplePins_other hp los txf s (by simp [F.NET_STAT_LSTATE])
      (by simp only [F.NET_STAT_LSTATE, A.NET_STAT, A.SFP_STAT]; omega)).trans hst
  have honly := (samplePins_shows hp los txf s).2.2.1
  dsimp only at hw
  generalize samplePins p los txf s = x at hst' honly hw
  have hwst : w.lstate p = lsUP ∧ w.net = s.net := by
    rw [hw]
    split
    · exact ⟨(State.get_set_other _ _ (hk p hp)).trans hst', honly.net⟩
    · exact ⟨hst', honly.net⟩
  rw [linkDown, State.portUp, hwst.1, portS_congr hwst.2]
  rfl

end Sys2Proof.Machine

open Sys2Proof Sys2Proof.Machine

/-- Settles O41: whatever a link leaves behind, the state it enters is written last. -/
theorem linkRowsComplete : Obligations.LinkRowsComplete := by
  have hq : ∀ q < 5, ∀ f ∈ [F.NET_CTRL_EN q, F.NET_STAT_LSTATE q, F.NET_AN_LP_VALID q, F.NET_STAT_SPEED q, F.NET_STAT_LINKCHG q,
      F.NET_STAT_RFAULT q, F.SFP_STAT_LOS q, F.SFP_STAT_TX_FAULT q, F.NET_STAT_LPI_TX q, F.NET_STAT_LPI_RX q, F.NET_STAT_STEPPED q],
      Fd.quiet f = true := by decide
  have hport : ∀ (p : Nat) (x y : State), (sumTick x y).portS p = y.portS p := fun p x y => portS_congr (sumTick_net ..) p
  unfold Obligations.LinkRowsComplete
  refine ⟨?_, ?_, ?_, ?_, ?_, ?_, ?_, ?_, ?_, ?_, ?_, ?_, ?_⟩
  · intro m p v s hp h hen hv
    obtain ⟨h1, h2, h3, hstore⟩ := wrNetCtrl_enables hp hen hv rfl
    refine ⟨_, (done_alive _ h.alive :), ?_⟩
    rw [guarded_admitted _ h]
    exact ⟨answers_sumTick .., (respond_get _ _ _ _ _ _ (hq p hp _ (by simp))).trans h1,
      (respond_get _ _ _ _ _ _ (hq p hp _ (by simp))).trans h2, (congrArg PortS.since (hport ..)).trans h3,
      keepsStore_sumTick _ _ _ _ hstore⟩
  · intro m p v s hp h hen hv
    refine ⟨_, (done_alive _ h.alive :), ?_⟩
    rw [guarded_admitted _ h]
    exact ⟨answers_sumTick .., (respond_get _ _ _ _ _ _ (hq p hp _ (by simp))).trans (wrNetCtrl_disables hen hv)⟩
  · intro p ab t s ha hp hst hw
    obtain ⟨h1, h2, hstore⟩ := anPage_meets hp (ab := ab) (s := s.atTime t) hst hw rfl
    refine ⟨_, done_alive _ ha, (sumTick_get _ _ (hq p hp _ (by simp))).trans h1, ?_, KeepsStore.sumTick (s := s) _ hstore⟩
    simp only [State.lstate, sumTick_get _ _ (hq p hp (F.NET_STAT_LSTATE p) (by simp)),
      sumTick_get _ _ (hq p hp (F.NET_STAT_SPEED p) (by simp)), hport]
    exact h2
  · intro p t s ha hp hst hw
    have hgo : (if (s.atTime t).lstate p == lsAN && ((s.atTime t).portS p).anWait then
        (s.atTime t).setPort p { (s.atTime t).portS p with anWait := false, since := (s.atTime t).now, step := none } else s.atTime t)
        = (s.atTime t).setPort p { (s.atTime t).portS p with anWait := false, since := (s.atTime t).now, step := none } :=
      if_pos (by rw [show (s.atTime t).lstate p = lsAN from hst, show ((s.atTime t).portS p).anWait = true from hw]; rfl)
    refine ⟨_, (done_alive _ ha :), ?_⟩
    rw [hgo, hport, portS_setPort]
    exact ⟨rfl, rfl, rfl, KeepsFields.sumTick (s := s) _ (.of_fld [] rfl), KeepsStore.sumTick (s := s) _ ⟨rfl, rfl, rfl⟩⟩
  · intro p t s ha hp hst
    obtain ⟨h1, _, _, h4, h5⟩ := enterL_shows (p := p) (st := lsALIGN) (by decide) (s.atTime t)
    refine ⟨_, (done_alive _ ha :), ?_⟩
    rw [if_pos (beq_iff_eq.mpr (show (s.atTime t).lstate p = lsTRAINING from hst))]
    exact ⟨(sumTick_get _ _ (hq p hp _ (by simp))).trans h1, KeepsFields.sumTick (s := s) _ (h4 (by decide)),
      KeepsStore.sumTick (s := s) _ h5⟩
  · intro p t s ha hp hst hdue
    have hlt : (if ((s.atTime t).portS p).an then lsAN else lsTRAINING) < 8 := by split <;> decide
    obtain ⟨h1, h2, _, _, h5⟩ := enterL_shows (p := p) hlt (s.atTime t)
    refine ⟨_, (done_alive _ ha :), ?_⟩
    rw [if_pos (by rw [show (s.atTime t).lstate p = lsTRAINING from hst, lstateFor_of_le (s := s.atTime t) hdue]; rfl), hport, h2]
    exact ⟨(sumTick_get _ _ (hq p hp _ (by simp))).trans h1, rfl, KeepsStore.sumTick (s := s) _ h5⟩
  · intro p t txf s ha hp hst hdue
    obtain ⟨p1, p2, p3, _⟩ := samplePins_shows hp false txf (s.atTime t)
    obtain ⟨m, hm⟩ := p3
    have hst' : (samplePins p false txf (s.atTime t)).lstate p = lsALIGN :=
      (samplePins_other hp false txf (s.atTime t) (by simp [F.NET_STAT_LSTATE])
        (by simp only [F.NET_STAT_LSTATE, A.NET_STAT, A.SFP_STAT]; omega)).trans hst
    have hdue' : ((samplePins p false txf (s.atTime t)).portS p).since + 10 * uMs ≤ (samplePins p false txf (s.atTime t)).now := by
      rw [hm]
      exact hdue
    obtain ⟨h1, h2, h3, h4, h5⟩ := linkUp_shows hp hst' hdue'
    refine ⟨_, done_alive _ ha, (sumTick_get _ _ (hq p hp _ (by simp))).trans h1, (sumTick_get _ _ (hq p hp _ (by simp))).trans h2,
      (sumTick_get _ _ (hq p hp _ (by simp))).trans h3, (sumTick_get _ _ (hq p hp _ (by simp))).trans ((h4 _ (by simp)).trans p1),
      (sumTick_get _ _ (hq p hp _ (by simp))).trans ((h4 _ (by simp)).trans p2), KeepsStore.sumTick (s := s) _ (KeepsStore.trans ?_ h5)⟩
    rw [hm]
    exact ⟨rfl, rfl, rfl⟩
  · intro p t s ha hp hst hdue
    have hlt : (if ((s.atTime t).portS p).an then lsAN else lsALIGN) < 8 := by split <;> decide
    obtain ⟨h1, h2, _, _, h5⟩ := enterL_shows (p := p) hlt (s.atTime t)
    refine ⟨_, (done_alive _ ha :), ?_⟩
    rw [if_pos (by rw [show (s.atTime t).lstate p = lsALIGN from hst, lstateFor_of_le (s := s.atTime t) hdue]; rfl), hport, h2]
    exact ⟨(sumTick_get _ _ (hq p hp _ (by simp))).trans h1, rfl, KeepsStore.sumTick (s := s) _ h5⟩
  · intro p t rfault los txf s ha hp hst
    obtain ⟨w, hw⟩ : ∃ w : State, w = (let w := samplePins p los txf (s.atTime t)
        if rfault then w.set (F.NET_STAT_RFAULT p) 1 else w) := ⟨_, rfl⟩
    have hgo : linkDown p w = enterL p (if (s.portS p).an then lsAN else lsALIGN) (leaveUp p true w) :=
      linkDown_sampled (s := s.atTime t) hp rfault los txf hst hw
    have hlt : (if (s.portS p).an then lsAN else lsALIGN) < 8 := by split <;> decide
    rw [← hw]
    refine ⟨_, done_alive _ ha, ?_, fun _ => ?_⟩
    · rw [← hgo, hw]
      exact leaves_sumTick ..
    · refine (sumTick_get _ _ (hq p hp _ (by simp))).trans ?_
      exact (congrArg (fun z : State => z.lstate p) ((congrArg (linkDown p) hw.symm).trans hgo)).trans (enterL_shows (p := p) hlt _).1
  · intro p t s ha hp4 hst hlp hkr han hadv hab hmap htx hdue
    have hgo := lpiEnter_enters (s := s.atTime t) hp4 hst hlp hkr han hadv hab hmap htx hdue
    refine ⟨_, done_alive _ ha, ?_⟩
    rw [hgo]
    exact ⟨(sumTick_get _ _ (hq p (by omega) _ (by simp))).trans (get_of_set rfl),
      KeepsFields.sumTick (s := s) _ ((KeepsFields.of_fld _ (w := s.atTime t) rfl).set _ (by simp)),
      KeepsStore.sumTick (s := s) _ ⟨rfl, rfl, rfl⟩⟩
  · intro p t on s ha hp hst
    refine ⟨_, (done_alive _ ha :), ?_⟩
    rw [if_pos (by rw [State.portUp]; exact beq_iff_eq.mpr hst)]
    refine ⟨(sumTick_get _ _ (hq p hp _ (by simp))).trans ((State.get_set_same ..).trans ?_),
      KeepsFields.sumTick (s := s) _ ((KeepsFields.of_fld _ (w := s.atTime t) rfl).set _ (by simp)),
      KeepsStore.sumTick (s := s) _ ⟨rfl, rfl, rfl⟩⟩
    cases on <;> rfl
  · intro p t txf s ha hp4 hst hlp hkr han hmap hno hadv2 hab2 h43 hdue
    obtain ⟨h1, h2, h3, h4⟩ := speedStep_sampled (s := s.atTime t) txf hp4 hst hlp hkr han hmap hno (by
      rw [show bitOf ((s.atTime t).portS p).adv 2 = true from hadv2]; exact hab2) (by
      rw [Bool.or_eq_true, Bool.and_eq_true, Bool.and_eq_true]; exact h43) hdue rfl
    refine ⟨_, (done_alive _ ha :), ?_⟩
    rw [hport]
    exact ⟨(sumTick_get _ _ (hq p (by omega) _ (by simp))).trans h1, (sumTick_get _ _ (hq p (by omega) _ (by simp))).trans h2, h3, h4⟩
  · intro p t txf s
    rfl
end

section
/-!
CHANGES OF THE ENGINE MODE. What a change leaves of the SYS unit while it breaks locks, drops instances, judges sections and moves
cores.
-/
namespace Sys2Proof.Machine

/-! ## Operations apart from SYS -/

/-- The SYS unit's hidden state and registers are as before. -/
def SysKept (s w : State) : Prop := w.sys = s.sys ∧ ∀ f : Fd, f.lsb < 32 → f.addr / 65536 = 0x2000 → w.get f = s.get f

theorem SysKept.refl (s : State) : SysKept s s := ⟨rfl, fun _ _ _ => rfl⟩

theorem SysKept.trans {s w x : State} (h : SysKept s w) (k : SysKept w x) : SysKept s x :=
  ⟨k.1.trans h.1, fun f hl ha => (k.2 f hl ha).trans (h.2 f hl ha)⟩

theorem SysKept.congr {s w x : State} (h : SysKept s w) (hf : x.fld = w.fld) (hs : x.sys = w.sys) : SysKept s x :=
  h.trans ⟨hs, fun f _ _ => State.get_congr hf f⟩

theorem SysKept.set {s w : State} {f : Fd} (h : SysKept s w) (v : Nat) (hl : f.lsb < 32) (ha : 0x20010000 ≤ f.addr) :
    SysKept s (w.set f v) :=
  h.trans ⟨rfl, fun g hg hb => State.get_set_other _ _ (Fd.key_ne hg hl (.inl (by omega)))⟩

theorem SysKept.setBit {s w : State} {f : Fd} (h : SysKept s w) (i : Nat) (v : Bool) (hl : f.lsb < 32) (ha : 0x20010000 ≤ f.addr) :
    SysKept s (w.setBit f i v) := h.set _ hl ha

theorem SysKept.ite {s x y : State} {p : Prop} [Decidable p] (hx : SysKept s x) (hy : SysKept s y) : SysKept s (if p then x else y) := by
  split
  · exact hx
  · exact hy

theorem SysKept.foldl {α : Type} {s w : State} (f : State → α → State) (l : List α) (h : SysKept s w) (hf : ∀ x ∈ l, ∀ u, SysKept u (f u x)) :
    SysKept s (l.foldl f w) := by
  induction l generalizing w with
  | nil => exact h
  | cons x l ih => exact ih (h.trans (hf x (.head _) w)) fun y hy => hf y (.tail _ hy)

theorem KeepsBlock.sysKept {s w : State} (h : KeepsBlock 0x2000 s w) (hs : w.sys = s.sys) : SysKept s w :=
  ⟨hs, fun f hl ha => h f hl (by rw [blockOf]; omega)⟩

theorem KeepsUnit.sysKept {s w : State} (h : KeepsUnit 0x2000 s w) (hs : w.sys = s.sys) : SysKept s w :=
  ⟨hs, fun f hl ha => h f hl (Fd.quiet_of_block hl (.inl (by omega))) (by rw [blockOf]; omega)⟩

theorem EventOnly.sys {s w : State} (h : EventOnly s w) : w.sys = s.sys := by
  obtain ⟨_, _, _, _, _, _, rfl⟩ := h
  rfl

/-! ## Cores -/

theorem sysKept_countCore (p : Nat) (s : State) : SysKept s (countCore p s) := by
  unfold countCore
  split
  · refine SysKept.set ((SysKept.refl s).congr rfl rfl) _ (by simp [F.DISP_CORE_STAT_BUSY_MAX]) ?_
    simp only [F.DISP_CORE_STAT_BUSY_MAX, A.DISP_CORE_STAT]
    omega
  · exact .refl s

theorem sysKept_coreWrite (c a : Nat) (l : List Byte) (s : State) : SysKept s (coreWrite c a l s) := by
  obtain ⟨d, h⟩ := coreWrite_only c a l s
  rw [h]
  exact (SysKept.refl s).congr rfl rfl

theorem sysKept_leaveMem (p : Nat) (s : State) : SysKept s (leaveMem p s) := by
  have h : SysKept s (landY p s) :=
    SysKept.foldl _ _ ((SysKept.refl s).congr rfl rfl) fun e _ u => sysKept_coreWrite p e.1 e.2 u
  exact h.congr rfl rfl

theorem sysKept_stopCore (p st : Nat) (s : State) : SysKept s (stopCore p st s) := by
  have h : SysKept s ((leaveMem p (countCore p s)).setCore p {}) :=
    ((sysKept_countCore p s).trans (sysKept_leaveMem p _)).congr rfl rfl
  have ha : ∀ f ∈ [F.RC_STAT_STATE p, F.RC_TASK_RUNNING p, F.RC_DBGPC_PC p], f.lsb < 32 ∧ 0x20010000 ≤ f.addr := by
    simp only [List.mem_cons, List.not_mem_nil, or_false, forall_eq_or_imp, forall_eq, F.RC_STAT_STATE, F.RC_TASK_RUNNING, F.RC_DBGPC_PC,
      A.RC_STAT, A.RC_TASK, A.RC_DBGPC]
    omega
  obtain ⟨h1, h2, h3⟩ : (_ ∧ _) ∧ (_ ∧ _) ∧ (_ ∧ _) := by
    simpa only [List.mem_cons, List.not_mem_nil, or_false, forall_eq_or_imp, forall_eq] using ha
  exact ((h.set st h1.1 h1.2).set 0 h2.1 h2.2).set 0 h3.1 h3.2

theorem sysKept_setPhys (l p : Nat) (s : State) : SysKept s (s.setPhys l p) := by
  have ha : ∀ k, ∀ f ∈ [F.DISP_MAP_PHYS0 k, F.DISP_MAP_PHYS1 k, F.DISP_MAP_PHYS2 k, F.DISP_MAP_PHYS3 k], f.lsb < 32 ∧ 0x20010000 ≤ f.addr := by
    simp only [List.mem_cons, List.not_mem_nil, or_false, forall_eq_or_imp, forall_eq, F.DISP_MAP_PHYS0, F.DISP_MAP_PHYS1,
      F.DISP_MAP_PHYS2, F.DISP_MAP_PHYS3, A.DISP_MAP]
    omega
  unfold State.setPhys
  split <;> exact (SysKept.refl s).set _ (ha (l / 4) _ (by simp)).1 (ha (l / 4) _ (by simp)).2

theorem sysKept_endStep (s : State) : SysKept s (endStep s) :=
  SysKept.set ((SysKept.refl s).congr (x := { s with disp := { s.disp with rot := none, rotFree := s.n + 1 } }) rfl rfl) _ (by decide) (by decide)

theorem sysKept_loseCore (l : Nat) (s : State) : SysKept s (loseCore l s) := by
  have hlost : (F.DISP_LOST_LOST (l / 32)).lsb < 32 ∧ 0x20010000 ≤ (F.DISP_LOST_LOST (l / 32)).addr := by
    simp only [F.DISP_LOST_LOST, A.DISP_LOST]
    omega
  have h : SysKept s ((s.setBit (F.DISP_LOST_LOST (l / 32)) (l % 32) true).set F.DISP_STAT_DEGRADED 1) :=
    ((SysKept.refl s).setBit _ _ hlost.1 hlost.2).set _ (by decide) (by decide)
  refine (h.trans (sysKept_setPhys l 0xFF _)).trans ?_
  exact KeepsUnit.sysKept (keepsUnit_raiseF_unfenced (g := 1) ⟨by decide, by decide, by decide, by decide⟩ l (by decide) (by decide) (by decide) _)
    (eventOnly_raiseF (g := 1) l (by decide) (by decide) _).sys

theorem sysKept_takeHolder (l : Nat) (s : State) : SysKept s (takeHolder l s) := by
  unfold takeHolder
  split
  · exact sysKept_setPhys ..
  · split
    · exact sysKept_setPhys ..
    · exact sysKept_loseCore ..

theorem sysKept_restoreLost (l : Nat) (s : State) : SysKept s (restoreLost l s) := by
  have hlost : (F.DISP_LOST_LOST (l / 32)).lsb < 32 ∧ 0x20010000 ≤ (F.DISP_LOST_LOST (l / 32)).addr := by
    simp only [F.DISP_LOST_LOST, A.DISP_LOST]
    omega
  unfold restoreLost
  split
  · split
    · next q _ =>
      have h : SysKept s ((s.setPhys l q).setFenceTl l none) := (sysKept_setPhys l q s).congr rfl rfl
      exact (h.setBit _ _ hlost.1 hlost.2).set _ (by decide) (by decide)
    · exact .refl s
  · exact .refl s

theorem sysKept_applyActive (s : State) : SysKept s (applyActive s) := by
  unfold applyActive
  extract_lets act d s1
  have h1 : SysKept s s1 := SysKept.ite ((SysKept.refl s).congr rfl rfl) (.refl s)
  refine h1.foldl _ _ fun l _ u => ?_
  split
  · split
    · exact .refl u
    · exact ((SysKept.refl u).congr (x := { u with disp := _ }) rfl rfl).trans (sysKept_takeHolder l _)
  · extract_lets p u1 d1
    have h2 : SysKept u u1 := (sysKept_setPhys l 0xFF u).congr rfl rfl
    split
    · exact (h2.congr (x := { u1 with disp := d1 }) rfl rfl).trans (sysKept_stopCore ..)
    · exact h2

/-! ## Images -/

theorem sysKept_clearMem (p : Nat → Bool) (s : State) : SysKept s (s.clearMem p) := (SysKept.refl s).congr rfl rfl

theorem sysKept_putWords (p base first : Nat) (ws : List Nat) (s : State) : SysKept s (putWords p base first ws s) :=
  SysKept.foldl _ _ (.refl s) fun _ _ u => sysKept_coreWrite _ _ _ u

theorem sysKept_loadCoreRec (p : Nat) (keep : Bool) (r : ImgRec) (s : State) : SysKept s (loadCoreRec p keep r s) := by
  unfold loadCoreRec
  split
  · exact .refl s
  · split
    · exact sysKept_putWords ..
    · exact sysKept_putWords ..
    · exact sysKept_putWords ..
    · exact sysKept_clearMem ..
    · exact sysKept_clearMem ..
    · exact sysKept_coreWrite ..
    · exact .refl s

theorem sysKept_loadCore (l : List ImgRec) (lc p : Nat) (keep : Bool) (s : State) : SysKept s (loadCore l lc p keep s) := by
  unfold loadCore
  extract_lets s1
  have h1 : SysKept s s1 := SysKept.ite (sysKept_clearMem ..) (sysKept_clearMem ..)
  exact h1.foldl _ _ fun r _ u => sysKept_loadCoreRec p keep r u

/-- A write of a register whose instances lie from `a` upwards. -/
theorem SysKept.setAt {s w : State} {f : Fd} (h : SysKept s w) (v : Nat) (hf : f.lsb < 32 ∧ 0x20010000 ≤ f.addr) : SysKept s (w.set f v) :=
  h.set v hf.1 hf.2

theorem sysKept_setBusOwner (b : Nat) (i : Option Nat) (s : State) : SysKept s (setBusOwner b i s) := by
  have h1 : ∀ k, (F.MTX_BUSVALID_VALID k).lsb < 32 ∧ 0x20010000 ≤ (F.MTX_BUSVALID_VALID k).addr := by
    simp only [F.MTX_BUSVALID_VALID, A.MTX_BUSVALID]; omega
  have h2 : ∀ k, (F.MTX_BUSOWN_OWNER k).lsb < 32 ∧ 0x20010000 ≤ (F.MTX_BUSOWN_OWNER k).addr := by
    simp only [F.MTX_BUSOWN_OWNER, A.MTX_BUSOWN]; omega
  exact (SysKept.setBit (.refl s) _ _ (h1 _).1 (h1 _).2).setAt _ (h2 _)

theorem sysKept_loadTableRec (i : Nat) (keepSeed : Bool) (r : ImgRec) (s : State) : SysKept s (loadTableRec i keepSeed r s) := by
  have h1 : ∀ k, (F.MTX_OUTMAP k).lsb < 32 ∧ 0x20010000 ≤ (F.MTX_OUTMAP k).addr := by
    simp only [F.MTX_OUTMAP, A.MTX_OUTMAP]; omega
  have h2 : ∀ k, ∀ f ∈ [F.MTX_SEED_LO_SEED_LO k, F.MTX_SEED_HI_SEED_HI k, F.DISP_TBT_DATA0_WORD0 k, F.DISP_TBT_DATA1_WORD1 k,
      F.DISP_GRP_AVTP_LO_STREAMS k, F.DISP_GRP_AVTP_HI_STREAMS k, F.DISP_GRP_SAP_PORTS k], f.lsb < 32 ∧ 0x20010000 ≤ f.addr := by
    simp only [List.mem_cons, List.not_mem_nil, or_false, forall_eq_or_imp, forall_eq, F.MTX_SEED_LO_SEED_LO, F.MTX_SEED_HI_SEED_HI,
      F.DISP_TBT_DATA0_WORD0, F.DISP_TBT_DATA1_WORD1, F.DISP_GRP_AVTP_LO_STREAMS, F.DISP_GRP_AVTP_HI_STREAMS, F.DISP_GRP_SAP_PORTS,
      A.MTX_SEED_LO, A.MTX_SEED_HI, A.DISP_TBT_DATA0, A.DISP_TBT_DATA1, A.DISP_GRP_AVTP_LO, A.DISP_GRP_AVTP_HI, A.DISP_GRP_SAP]
    omega
  have h3 : ∀ j k, (F.DLY_LINE_DATA_WORD j k).lsb < 32 ∧ 0x20010000 ≤ (F.DLY_LINE_DATA_WORD j k).addr := by
    simp only [F.DLY_LINE_DATA_WORD, A.DLY_LINE_DATA]; omega
  unfold loadTableRec
  split
  · refine SysKept.foldl _ _ (.refl s) fun e _ u => ?_
    unfold storeOutMap
    extract_lets u1
    have hu1 : SysKept u u1 := (SysKept.refl u).setAt _ (h1 _)
    exact SysKept.ite (hu1.setAt _ (by decide)) hu1
  · exact SysKept.ite (.refl s) (((SysKept.refl s).setAt _ (h2 i _ (by simp))).setAt _ (h2 i _ (by simp)))
  · exact SysKept.foldl _ _ (.refl s) fun e _ u => sysKept_setBusOwner _ _ u
  · refine SysKept.foldl _ _ (.refl s) fun e _ u => ?_
    extract_lets u1
    have hu1 : SysKept u u1 := SysKept.foldl _ _ (.refl u) fun j _ v => (SysKept.refl v).setAt _ (h3 j e.1)
    exact SysKept.ite (hu1.setAt _ (by decide)) hu1
  · exact SysKept.foldl _ _ (.refl s) fun e _ u => ((SysKept.refl u).setAt _ (h2 e.1 _ (by simp))).setAt _ (h2 e.1 _ (by simp))
  · exact SysKept.foldl _ _ (.refl s) fun e _ u =>
      (((SysKept.refl u).setAt _ (h2 e.1 _ (by simp))).setAt _ (h2 e.1 _ (by simp))).setAt _ (h2 e.1 _ (by simp))
  · exact .refl s

theorem sysKept_clearBounds (i : Nat) (s : State) : SysKept s (clearBounds i s) := by
  have h : ∀ k, ∀ f ∈ [F.DISP_TBT_DATA0_WORD0 k, F.DISP_TBT_DATA1_WORD1 k], f.lsb < 32 ∧ 0x20010000 ≤ f.addr := by
    simp only [List.mem_cons, List.not_mem_nil, or_false, forall_eq_or_imp, forall_eq, F.DISP_TBT_DATA0_WORD0, F.DISP_TBT_DATA1_WORD1,
      A.DISP_TBT_DATA0, A.DISP_TBT_DATA1]
    omega
  exact SysKept.foldl _ _ (.refl s) fun o _ u => ((SysKept.refl u).setAt _ (h o _ (by simp))).setAt _ (h o _ (by simp))

theorem sysKept_setSec (i : Nat) (x : SecS) (s : State) : SysKept s (s.setSec i x) := ⟨rfl, fun _ _ _ => rfl⟩

theorem sysKept_setLine (j : Nat) (x : LineS) (s : State) : SysKept s (s.setLine j x) := ⟨rfl, fun _ _ _ => rfl⟩

theorem sysKept_dropJobs (p : DlyJob → Bool) (s : State) : SysKept s (dropJobs p s) := ⟨rfl, fun _ _ _ => rfl⟩

theorem sysKept_loadImage (i b : Nat) (keep : Bool) (old : List Nat) (s : State) : SysKept s (loadImage i b keep old s) := by
  unfold loadImage
  extract_lets l c s1 s2 same s3 s4 s5
  have h1 : SysKept s s1 := SysKept.foldl _ _ (.refl s) fun lc _ u => sysKept_restoreLost lc u
  clear_value s1
  have h2 : SysKept s s2 := h1.foldl _ _ fun lc _ u => by
    dsimp only
    exact SysKept.ite (sysKept_loadCore ..) (.refl u)
  clear_value s2
  have h3 : SysKept s s3 := h2.foldl _ _ fun e _ u =>
    SysKept.ite (SysKept.ite (sysKept_setLine ..) ((sysKept_setLine ..).trans (sysKept_dropJobs ..)))
      ((sysKept_setLine ..).trans (sysKept_dropJobs ..))
  clear_value s3
  have h4 : SysKept s s4 := h3.trans (sysKept_clearBounds i s3)
  clear_value s4
  have h5 : SysKept s s5 := h4.foldl _ _ fun r _ u => sysKept_loadTableRec i keep r u
  exact h5.trans (sysKept_setSec ..)

theorem sysKept_setSecState (i st : Nat) (s : State) : SysKept s (setSecState i st s) :=
  (SysKept.refl s).setAt _ (by simp only [F.SECn_STAT_STATE, A.SECn_STAT]; omega)

theorem sysKept_judge (c i : Nat) (s : State) : SysKept s (judge c s i) := by
  unfold judge
  split
  · exact .refl s
  split
  · extract_lets s1
    have h1 : SysKept s s1 := sysKept_loadImage ..
    exact (h1.trans (sysKept_setSecState i secWAITING s1)).trans (sysKept_setSec ..)
  · exact ((sysKept_setSecState i secMISMATCH s).trans (sysKept_setSec ..)).trans (sysKept_clearBounds i _)

/-! ## Accepting a change (R19) -/

theorem breakLock_sys (i why : Nat) (s : State) : (breakLock i why s).sys = s.sys := by
  unfold breakLock freeLock
  split
  · dsimp only
    split
    · split <;> rfl
    · rfl
  · rfl

theorem sysKept_endSwap (r : Nat) (s : State) : SysKept s (endSwap r s) :=
  (((SysKept.refl s).set (f := F.MTX_SWAP_STAT_BUSY) 0 (by decide) (by decide)).set (f := F.MTX_SWAP_STAT_RESULT) r (by decide)
    (by decide)).congr rfl rfl

theorem sysKept_cancelMailboxes (s : State) : SysKept s (cancelMailboxes s) :=
  SysKept.foldl _ _ (.refl s) fun k _ u => SysKept.ite
    (((SysKept.refl u).setAt (f := F.MTX_MBOX_STAT_STATE k) 6 (by simp only [F.MTX_MBOX_STAT_STATE, A.MTX_MBOX_STAT]; omega)).congr rfl rfl)
    (.refl u)

theorem sysKept_dropChanges (p : Nat → Bool) (s : State) : SysKept s (dropChanges p s) :=
  SysKept.set ((SysKept.refl s).congr (x := { s with dly := _ }) rfl rfl) _ (by decide) (by decide)

theorem sysKept_cancelGcl (s : State) : SysKept s (cancelGcl s) := by
  unfold cancelGcl
  split
  · next p _ _ =>
    have h : ∀ f ∈ [F.STRM_GCL_STAT_BUSY p, F.STRM_GCL_STAT_RESULT p], f.lsb < 32 ∧ 0x20010000 ≤ f.addr := by
      simp only [List.mem_cons, List.not_mem_nil, or_false, forall_eq_or_imp, forall_eq, F.STRM_GCL_STAT_BUSY, F.STRM_GCL_STAT_RESULT,
        A.STRM_GCL_STAT]
      omega
    exact SysKept.setAt (SysKept.setAt ((SysKept.refl s).congr (x := { s with strm := _ }) rfl rfl) _ (h _ (by simp))) _ (h _ (by simp))
  · exact .refl s

theorem sysKept_meetRotation (p : Nat → Bool) (s : State) : SysKept s (meetRotation p s) := by
  unfold meetRotation
  split
  · exact .refl s
  · next r _ =>
    refine SysKept.ite (.refl s) (SysKept.ite ?_ (SysKept.ite ?_ ((SysKept.refl s).congr rfl rfl)))
    · exact (sysKept_stopCore r.p rcGATED s).trans (sysKept_endStep _)
    · exact SysKept.trans ((SysKept.refl s).congr (x := { s with disp := _ }) rfl rfl) (sysKept_endStep _)

theorem acceptApply_does (ph : ApplyPh) (s : State) {u : State} (hu : u = acceptApply ph s) :
    u.sys = { s.sys with apply := ph, applyMode := s.get F.SYS_MODE_REQ, applyAt := s.now } ∧ u.get F.SYS_MODE_STAT_APPLYING = 1 := by
  obtain ⟨w, hw, hwsys, hwget⟩ : ∃ w : State, w = ({ s.set F.SYS_MODE_STAT_APPLYING 1 with sys :=
        { (s.set F.SYS_MODE_STAT_APPLYING 1).sys with
          apply := ph, applyMode := (s.set F.SYS_MODE_STAT_APPLYING 1).get F.SYS_MODE_REQ, applyAt := (s.set F.SYS_MODE_STAT_APPLYING 1).now } } : State)
      ∧ w.sys = { s.sys with apply := ph, applyMode := s.get F.SYS_MODE_REQ, applyAt := s.now } ∧ w.get F.SYS_MODE_STAT_APPLYING = 1 := by
    refine ⟨_, rfl, ?_, get_of_set rfl⟩
    rw [State.get_set_other _ _ (by decide : Fd.key F.SYS_MODE_REQ ≠ Fd.key F.SYS_MODE_STAT_APPLYING)]
    rfl
  have hkept : SysKept w u := by
    rw [hu]
    unfold acceptApply
    extract_lets s1 x s2 s3 s4
    have h2 : SysKept w s2 := by rw [hw]; exact .refl s2
    have h3 : SysKept w s3 := h2.foldl _ _ fun i hi u =>
      (keepsBlock_breakLock (b := 0x2000) (by decide) (by decide) i leAPPLY (List.mem_range.mp hi) u).sysKept (breakLock_sys i leAPPLY u)
    have h4 : SysKept w s4 := SysKept.ite (h3.trans (sysKept_endSwap swSTATE s3)) h3
    exact (((h4.trans (sysKept_cancelMailboxes s4)).trans (sysKept_dropChanges _ _)).trans (sysKept_cancelGcl _)).trans
      (sysKept_meetRotation _ _)
  exact ⟨hkept.1.trans hwsys, (hkept.2 _ (by decide) (by decide)).trans hwget⟩

end Sys2Proof.Machine
end

section
/-!
THE STEPS OF A CHANGE OF THE ENGINE MODE. The keyed request, the last breath, the clocks, the anchor and the end (R19, R20).
-/
namespace Sys2Proof.Machine

theorem sysKept_dropInsts (s : State) : SysKept s (dropInsts s) := by
  unfold dropInsts
  extract_lets s1
  have h1 : SysKept s s1 := by
    unfold s1
    generalize List.range 136 = l
    exact SysKept.foldl _ _ (.refl s) fun p _ u => SysKept.ite (sysKept_stopCore p rcGATED u) (.refl u)
  clear_value s1
  exact h1.congr rfl rfl

theorem sysKept_setVnow (v : Nat) (s : State) : SysKept s (setVnow v s) :=
  ((SysKept.refl s).set _ (by decide) (by decide)).set _ (by decide) (by decide)

/-- Mode `c` is in force: CUR has it, and the hidden state of SYS is as before (R17). -/
theorem putMode_does (c : Nat) (s : State) : (putMode c s).sys = s.sys ∧ (putMode c s).get F.SYS_MODE_STAT_CUR = c % 4 := by
  unfold putMode
  extract_lets w
  have h : SysKept w (applyActive (if w.on F.PMU_AVS_EN then setVnow w.startV w else w)) :=
    (SysKept.ite (sysKept_setVnow ..) (.refl w)).trans (sysKept_applyActive _)
  exact ⟨h.1, (h.2 _ (by decide) (by decide)).trans (State.get_set_same s F.SYS_MODE_STAT_CUR c)⟩

/-- The apply ends idle with its result (R19). -/
theorem applyEnd_does (s : State) :
    (applyEnd s).sys = { s.sys with apply := .idle } ∧ (applyEnd s).get F.SYS_MODE_STAT_APPLYING = 0
      ∧ (applyEnd s).get F.SYS_MODE_STAT_CUR = s.get F.SYS_MODE_STAT_CUR
      ∧ (applyEnd s).get F.SYS_MODE_STAT_RESULT = (if s.get F.SYS_MODE_STAT_MISMATCH = 0 then maDONE else maMISMATCH) := by
  unfold applyEnd
  extract_lets r s1 x
  have hr : r % 8 = if s.get F.SYS_MODE_STAT_MISMATCH = 0 then maDONE else maMISMATCH := by
    unfold r
    by_cases h : s.get F.SYS_MODE_STAT_MISMATCH = 0
    · rw [if_pos h, if_pos (by rw [h]; rfl)]; rfl
    · rw [if_neg h, if_neg (by simpa using h)]; rfl
  refine ⟨?_, ?_, ?_, ?_⟩
  · obtain ⟨l, h⟩ := allEvt_only evMODE { s1 with sys := { x with apply := .idle } }
    rw [h]
    rfl
  · refine (allEvt_get evMODE _ (by decide)).trans ?_
    exact (State.get_set_other _ _ (by decide)).trans (get_of_set rfl)
  · refine (allEvt_get evMODE _ (by decide)).trans ?_
    exact (State.get_set_other _ _ (by decide)).trans (State.get_set_other _ _ (by decide))
  · refine (allEvt_get evMODE _ (by decide)).trans ?_
    exact (State.get_set_same _ F.SYS_MODE_STAT_RESULT r).trans hr

/-! ## The clocks (R19) -/

/-- The clocks of mode `c` are up and every section is judged against it (R17, R19). -/
def modeJudged (s : State) : State :=
  let s := { s with sys := { s.sys with oldFs := some (s.sys.oldFs.getD s.fs) } }
  let s := putMode s.sys.applyMode (dropInsts (tickCredits s))
  (List.range 16).foldl (judge s.sys.applyMode) s

theorem modeJudged_does (s : State) : (modeJudged s).get F.SYS_MODE_STAT_CUR = s.sys.applyMode % 4 := by
  unfold modeJudged
  extract_lets x s1 s2
  obtain ⟨n, hn⟩ := tickCredits_keeps s1
  have hcredit : SysKept s1 (tickCredits s1) := by rw [hn]; exact ⟨rfl, fun _ _ _ => rfl⟩
  have hsys : s2.sys = s1.sys := (putMode_does ..).1.trans ((sysKept_dropInsts _).1.trans hcredit.1)
  have hcur : s2.get F.SYS_MODE_STAT_CUR = s.sys.applyMode % 4 := (putMode_does s1.sys.applyMode (dropInsts (tickCredits s1))).2
  have hfold : SysKept s2 ((List.range 16).foldl (judge s2.sys.applyMode) s2) :=
    SysKept.foldl _ _ (.refl s2) fun i _ u => sysKept_judge _ i u
  exact (hfold.2 _ (by decide) (by decide)).trans hcur

/-- What follows the judging: MISMATCH, the start index, and the end or the wait for the anchor (R19). -/
def afterJudged (stopped : Bool) (s : State) : State :=
  let s := s.set F.SYS_MODE_STAT_MISMATCH (bitSet ((List.range 16).filter (fun i => s.secState i == secMISMATCH)))
  let s := (s.set F.DISP_START_INDEX_LO_START_LO 0).set F.DISP_START_INDEX_HI_START_HI 0
  if stopped then applyEnd s
  else { s.set F.DISP_STAT_STATE dArmed with sys := { s.sys with apply := .anchor, applyAt := s.now } }

theorem afterJudged_does (stopped : Bool) (s : State) :
    (afterJudged stopped s).get F.SYS_MODE_STAT_CUR = s.get F.SYS_MODE_STAT_CUR
      ∧ (if stopped then (afterJudged stopped s).sys.apply = .idle ∧ (afterJudged stopped s).get F.SYS_MODE_STAT_APPLYING = 0
        else (afterJudged stopped s).sys.apply = .anchor ∧ (afterJudged stopped s).get F.DISP_STAT_STATE = dArmed) := by
  unfold afterJudged
  extract_lets x y
  have hcur : y.get F.SYS_MODE_STAT_CUR = s.get F.SYS_MODE_STAT_CUR :=
    (State.get_set_other _ _ (by decide)).trans ((State.get_set_other _ _ (by decide)).trans (State.get_set_other _ _ (by decide)))
  clear_value y
  cases stopped with
  | true =>
    obtain ⟨h1, h2, h3, _⟩ := applyEnd_does y
    exact ⟨h3.trans hcur, congrArg SysS.apply h1, h2⟩
  | false =>
    simp only [Bool.false_eq_true, if_false]
    exact ⟨(State.get_set_other y dArmed (by decide : Fd.key F.SYS_MODE_STAT_CUR ≠ Fd.key F.DISP_STAT_STATE)).trans hcur, trivial, State.get_set_same y F.DISP_STAT_STATE dArmed⟩

/-- The clocks are reconfigured where no spare load is in progress (R19). -/
theorem clocksDone_goes {s : State} (hap : s.sys.apply = .clocks)
    (hload : ∀ l < 128, ∀ f, s.fenceTl l = some f → f.spare.isSome = true → f.restart.isSome = true) :
    clocksDone s = afterJudged (s.dstate == dStopped) (modeJudged s) := by
  unfold clocksDone
  extract_lets stopped loads s1 x s2 s3 s4 s5 s6
  have hloads : loads = false := by
    unfold loads
    rw [List.any_eq_false]
    intro l hl
    cases hf : s.fenceTl l with
    | none => simp
    | some f =>
      have := hload l (List.mem_range.mp hl) f hf
      by_cases hs : f.spare.isSome = true
      · simp [Option.isSome_iff_ne_none.mp (this hs)]
      · simp [hs]
  rw [if_neg (by rw [hloads, hap]; simp)]
  have h1 : s1 = s := if_neg (by rw [hap]; decide)
  have h4 : s4 = modeJudged s1 := rfl
  have h6 : afterJudged stopped s4 = _ := rfl
  exact h6.symm.trans (by rw [h4, h1])

theorem clocksDone_does {s : State} (hap : s.sys.apply = .clocks)
    (hload : ∀ l < 128, ∀ f, s.fenceTl l = some f → f.spare.isSome = true → f.restart.isSome = true) :
    (clocksDone s).get F.SYS_MODE_STAT_CUR = s.sys.applyMode % 4
      ∧ (if s.get F.DISP_STAT_STATE = dStopped then
          (clocksDone s).sys.apply = .idle ∧ (clocksDone s).get F.SYS_MODE_STAT_APPLYING = 0
        else (clocksDone s).sys.apply = .anchor ∧ (clocksDone s).get F.DISP_STAT_STATE = dArmed) := by
  obtain ⟨h1, h2⟩ := afterJudged_does (s.dstate == dStopped) (modeJudged s)
  rw [clocksDone_goes hap hload]
  refine ⟨h1.trans (modeJudged_does s), ?_⟩
  by_cases hst : s.get F.DISP_STAT_STATE = dStopped
  · rw [if_pos (show (s.dstate == dStopped) = true from beq_iff_eq.mpr hst)] at h2
    rw [if_pos hst]
    exact h2
  · rw [if_neg (show ¬(s.dstate == dStopped) = true from fun h => hst (beq_iff_eq.mp h))] at h2
    rw [if_neg hst]
    exact h2

/-- The anchor trigger leaves the dispatcher running (R33). -/
theorem dispAnchor_state (t : Nat) (s : State) : (dispAnchor t s).get F.DISP_STAT_STATE = dRunning := by
  unfold dispAnchor
  extract_lets s1 k d goOn new s2 st s3 re mx dd s4
  exact State.get_set_same _ F.DISP_STAT_STATE dRunning

theorem modeLastBreath_does {s : State} (hap : s.sys.apply = .ramp) (hn : s.sys.applyB + 32 ≤ s.n) :
    (modeLastBreath s).sys.apply = .clocks ∧ (modeLastBreath s).get F.DISP_STAT_STATE = dStopping := by
  have hc : (s.sys.apply == .ramp && decide (s.sys.applyB + 32 ≤ s.n)) = true := by rw [hap, decide_eq_true hn]; rfl
  unfold modeLastBreath
  rw [if_pos hc]
  obtain ⟨w, hw⟩ : ∃ w, w = zeroSerial (stopAudio s) := ⟨_, rfl⟩
  rw [← hw]
  exact ⟨rfl, State.get_set_same w F.DISP_STAT_STATE dStopping⟩

theorem anchorTimeout_goes {s : State} (hap : s.sys.apply = .anchor) (hst : s.get F.DISP_STAT_STATE = dArmed)
    (hdue : s.sys.applyAt + uMs ≤ s.now) : anchorTimeout s = dispAnchor s.dev s := by
  have hc : (s.sys.apply == .anchor && s.dstate == dArmed && decide (s.sys.applyAt + uMs ≤ s.now)) = true := by
    rw [hap, State.dstate, hst, decide_eq_true hdue]; rfl
  unfold anchorTimeout
  rw [if_pos hc]

theorem applyDone_goes {s : State} (hap : s.sys.apply = .rampIn) (hn : s.sys.applyB + 32 ≤ s.n) : applyDone s = applyEnd s := by
  have hc : (s.sys.apply == .rampIn && decide (s.sys.applyB + 32 ≤ s.n)) = true := by rw [hap, decide_eq_true hn]; rfl
  exact if_pos hc

end Sys2Proof.Machine

open Sys2Proof Sys2Proof.Machine

/-- Settles O18: each command's branch is taken, and what follows it leaves the SYS unit's registers alone. -/
theorem modeRowsComplete : Obligations.ModeRowsComplete := by
  unfold Obligations.ModeRowsComplete
  refine ⟨?_, ?_, ?_, ?_, ?_⟩
  · intro m v s h hkey hidle hpair hps
    refine ⟨_, (done_alive _ h.alive :), ?_⟩
    rw [guarded_admitted _ h]
    refine ⟨answers_sumTick .., ?_⟩
    have hps' : (s.pstate != psREADY && s.pstate != psSHOW) = false := by
      rcases hps with hp | hp <;> simp [State.pstate, hp]
    have hgo : wrModeApply v s = if s.dstate == dStopped then acceptApply .clocks s
        else { s with sys := { s.sys with apply := .wait, applyAt := s.now } } := by
      unfold wrModeApply
      rw [keyed_bits hkey, hidle, hpair, hps']
      rfl
    rw [hgo]
    by_cases hst : s.get F.DISP_STAT_STATE = dStopped
    · rw [if_pos hst, if_pos (show (s.dstate == dStopped) = true from beq_iff_eq.mpr hst)]
      obtain ⟨h1, h2⟩ := acceptApply_does .clocks s rfl
      rw [sumTick_sys, State.respond_sys, h1]
      exact ⟨rfl, (respond_get _ _ _ _ _ _ (by decide)).trans h2, rfl⟩
    · rw [if_neg hst, if_neg (show ¬(s.dstate == dStopped) = true from fun h => hst (beq_iff_eq.mp h))]
      refine ⟨by rw [sumTick_sys]; rfl, keepsFields_sumTick _ _ _ _ (.of_fld _ rfl), keepsStore_sumTick _ _ _ _ ⟨rfl, rfl, rfl⟩⟩
  · intro t s ha hap hn
    obtain ⟨h1, h2⟩ := modeLastBreath_does (s := s.atTime t) hap hn
    exact ⟨_, done_alive _ ha, by rw [sumTick_sys, h1], (sumTick_get _ _ (by decide)).trans h2⟩
  · intro t s ha hap hload
    refine ⟨_, done_alive _ ha, ?_⟩
    obtain ⟨h1, h2⟩ := clocksDone_does (s := s.atTime t) hap hload
    rw [sumTick_get _ _ (by decide), sumTick_get _ _ (by decide), sumTick_get _ _ (by decide), sumTick_sys]
    exact ⟨h1, h2⟩
  · intro t s ha hap hst hdue
    refine ⟨_, done_alive _ ha, ?_⟩
    rw [anchorTimeout_goes (s := s.atTime t) hap hst hdue]
    exact ⟨leaves_sumTick .., (sumTick_get _ _ (by decide)).trans (dispAnchor_state ..)⟩
  · intro t s ha hap hn
    refine ⟨_, done_alive _ ha, ?_⟩
    obtain ⟨h1, h2, _, h4⟩ := applyEnd_does (s.atTime t)
    rw [applyDone_goes (s := s.atTime t) hap hn, sumTick_sys, h1, sumTick_get _ _ (by decide), sumTick_get _ _ (by decide)]
    exact ⟨rfl, h2, h4⟩
end

section
/-!
THE BREATH IN PROGRESS. Which breath is in progress, and that it has begun, change where a breath starts and where the anchor is set,
and nowhere else (R36).
-/
namespace Sys2Proof.Machine

/-- The breath in progress, and that it has begun. -/
def State.pulse (s : State) : Nat × Bool := (s.disp.n, s.disp.started)

theorem pulse_of_outer {s w : State} (h : w.outer = s.outer) : w.pulse = s.pulse := by
  simp only [State.outer, Prod.mk.injEq] at h
  obtain ⟨_, _, _, _, _, _, _, _, _, _, _, _, _, h1, h2, _⟩ := h
  rw [State.pulse, h1, h2]
  rfl

theorem pulse_ite {s x y : State} {p : Prop} [Decidable p] (hx : x.pulse = s.pulse) (hy : y.pulse = s.pulse) :
    (if p then x else y).pulse = s.pulse := by
  split
  · exact hx
  · exact hy

theorem pulse_foldl {α : Type} {s w : State} (f : State → α → State) (l : List α) (hw : w.pulse = s.pulse)
    (h : ∀ x u, (f u x).pulse = u.pulse) : (l.foldl f w).pulse = s.pulse :=
  (foldl_keeps State.pulse f l w fun x _ u => h x u).trans hw

theorem pulse_raiseF (src idx : Nat) (s : State) : (raiseF src idx s).pulse = s.pulse := pulse_of_outer (outer_raiseF ..)

/-! ## Cores, arming and firing -/

theorem pulse_countCore (p : Nat) (s : State) : (countCore p s).pulse = s.pulse := by
  unfold countCore
  split <;> rfl

theorem pulse_setPhys (l p : Nat) (s : State) : (s.setPhys l p).pulse = s.pulse := by
  unfold State.setPhys
  split <;> rfl

theorem pulse_showIdle (l st : Nat) (s : State) : (showIdle l st s).pulse = s.pulse := pulse_ite rfl rfl

theorem pulse_wake (l : Nat) (s : State) : (wake l s).pulse = s.pulse := by
  unfold wake
  extract_lets d ns w
  exact pulse_ite ((pulse_showIdle ..).trans rfl) rfl

theorem pulse_fire (p : Inst → TaskE → Bool) (s : State) : (fire p s).pulse = s.pulse := by
  refine pulse_foldl _ _ rfl fun ⟨i, e⟩ u => (pulse_wake _ _).trans ?_
  exact pulse_ite rfl rfl

theorem pulse_gateCheck (l : Nat) (s : State) : (gateCheck l s).pulse = s.pulse := by
  unfold gateCheck
  extract_lets awake mine w d
  exact pulse_ite ((pulse_showIdle ..).trans rfl) rfl

theorem pulse_armSection (n i : Nat) (s : State) : (armSection n i s).pulse = s.pulse := by
  unfold armSection
  extract_lets cores w
  have hw : w.pulse = s.pulse := pulse_foldl _ _ rfl fun l u => pulse_foldl _ _ rfl fun k v => by
    split
    · rfl
    · exact pulse_ite rfl rfl
  exact (pulse_fire ..).trans hw

theorem pulse_loadTasks (l p : Nat) (s : State) : (loadTasks l p s).pulse = s.pulse :=
  pulse_foldl _ _ rfl fun k u => by
    extract_lets a
    obtain ⟨e, bad⟩ := taskOfWords u.fs (u.word a) (u.word (a + 4)) (u.word (a + 8)) (u.word (a + 12))
    cases bad <;> rfl

theorem pulse_settleBuses (p : Nat → Bool) (s : State) : (settleBuses p s).pulse = s.pulse :=
  pulse_foldl _ _ rfl fun _ _ => pulse_ite rfl rfl

theorem pulse_startSection (i n : Nat) (retain : Bool) (s : State) : (startSection i n retain s).pulse = s.pulse := by
  unfold startSection
  extract_lets cores s1 h1 s2 s3 s4
  have e1 : s1.pulse = s.pulse := pulse_foldl _ _ rfl fun l u =>
    (pulse_ite (pulse_loadTasks ..) (pulse_ite rfl rfl) :
      (if u.loadCoreOf l < 136 then loadTasks l (u.loadCoreOf l) u else if u.coreLost l then dropTasks l u else u).pulse = u.pulse)
  clear_value s1
  have e2 : s2.pulse = s.pulse := pulse_ite e1 ((pulse_settleBuses ..).trans e1)
  clear_value s2
  exact (pulse_armSection ..).trans ((pulse_of_outer (outer_capEvent ..)).trans e2)

theorem pulse_armAll (n : Nat) (s : State) : (armAll n s).pulse = s.pulse := by
  unfold armAll
  extract_lets run w
  have hw : w.pulse = s.pulse := pulse_ite rfl (pulse_foldl _ _ rfl fun i u => pulse_ite (pulse_startSection ..) rfl)
  exact pulse_foldl _ _ hw fun i u => pulse_armSection ..

theorem pulse_sleepStats (s : State) : (sleepStats s).pulse = s.pulse := by
  unfold sleepStats
  extract_lets live s1 s2 s3 d
  have e1 : s1.pulse = s.pulse := pulse_foldl _ _ rfl fun p u => pulse_countCore p u
  clear_value s1
  have e2 : s2.pulse = s.pulse := pulse_foldl _ _ e1 fun l u => pulse_ite rfl rfl
  clear_value s2
  have e3 : s3.pulse = s.pulse := pulse_ite (pulse_foldl _ _ e2 fun l u => rfl) e2
  exact e3

theorem pulse_restartFenced (l : Nat) (s : State) : (restartFenced l s).pulse = s.pulse := by
  unfold restartFenced
  extract_lets s1 s2
  have e1 : s1.pulse = s.pulse := pulse_setPhys l (s.loadCoreOf l) s
  have e2 : s2.pulse = s.pulse := pulse_foldl _ _ e1 fun t u => rfl
  clear_value s2
  exact pulse_foldl _ _ e2 fun k u => pulse_ite rfl rfl

theorem pulse_restartDue (n : Nat) (s : State) : (restartDue n s).pulse = s.pulse :=
  pulse_foldl _ _ rfl fun e u => by
    split
    · split
      · exact pulse_ite (pulse_restartFenced ..) rfl
      · rfl
    · rfl

theorem pulse_sampleRun (s : State) : (sampleRun s).pulse = s.pulse := by
  unfold sampleRun
  extract_lets d w
  exact pulse_ite (pulse_ite rfl rfl) rfl

/-! ## Mode changes -/

theorem pulse_cancelGcl (s : State) : (cancelGcl s).pulse = s.pulse := by
  unfold cancelGcl
  split <;> rfl

theorem pulse_cancelMailboxes (s : State) : (cancelMailboxes s).pulse = s.pulse := pulse_foldl _ _ rfl fun _ _ => pulse_ite rfl rfl

theorem pulse_dropChanges (p : Nat → Bool) (s : State) : (dropChanges p s).pulse = s.pulse := rfl

theorem pulse_meetRotation (p : Nat → Bool) (s : State) : (meetRotation p s).pulse = s.pulse := by
  unfold meetRotation
  split
  · rfl
  · exact pulse_ite rfl (pulse_ite (pulse_of_outer ((outer_endStep ..).trans (outer_stopCore ..))) (pulse_ite rfl rfl))

theorem pulse_acceptApply (ph : ApplyPh) (s : State) : (acceptApply ph s).pulse = s.pulse := by
  unfold acceptApply
  extract_lets s1 x s2 s3 s4
  have e3 : s3.pulse = s.pulse := pulse_foldl _ _ rfl fun i u => pulse_of_outer (outer_breakLock i leAPPLY u)
  clear_value s3
  have e4 : s4.pulse = s.pulse := pulse_ite e3 e3
  clear_value s4
  exact (pulse_meetRotation ..).trans ((pulse_cancelGcl _).trans ((pulse_dropChanges ..).trans ((pulse_cancelMailboxes s4).trans e4)))

theorem pulse_applyBreath (n : Nat) (s : State) : (applyBreath n s).pulse = s.pulse := by
  unfold applyBreath
  extract_lets s1 x s2
  have e1 : s1.pulse = s.pulse := pulse_acceptApply .ramp s
  clear_value s1
  exact pulse_ite (pulse_foldl _ _ e1 fun i u => pulse_ite rfl rfl) rfl

theorem pulse_bsiNewMode (s : State) : (bsiNewMode s).pulse = s.pulse :=
  pulse_foldl _ _ rfl fun c u => pulse_ite rfl (pulse_ite (pulse_of_outer (outer_bsiOff c u)) (pulse_ite rfl rfl))

theorem pulse_sapNewMode (s : State) : (sapNewMode s).pulse = s.pulse :=
  pulse_foldl _ _ rfl fun p u => pulse_ite rfl (pulse_ite (pulse_of_outer (outer_sapOff p u)) (pulse_ite rfl rfl))

theorem pulse_mtxNewMode (s : State) : (mtxNewMode s).pulse = s.pulse := by
  unfold mtxNewMode
  extract_lets tooMany s1 x s2
  exact pulse_foldl _ _ rfl fun _ _ => rfl

/-! ## Streams -/

theorem pulse_lpiWake (p : Nat) (s : State) : (lpiWake p s).pulse = s.pulse := pulse_ite rfl rfl

theorem pulse_showHold (s : State) : (showHold s).pulse = s.pulse :=
  pulse_foldl _ _ rfl fun p u => by
    extract_lets on v
    exact (pulse_ite (pulse_lpiWake p u) rfl : v.pulse = u.pulse)

theorem pulse_showStrm (s : State) : (showStrm s).pulse = s.pulse := (pulse_showHold _).trans rfl

theorem pulse_pathDown (i : Nat) (b : Bool) (s : State) : (pathDown i b s).pulse = s.pulse := pulse_of_outer (outer_pathDownBy outer_raiseF ..)

theorem pulse_strmOff (i : Nat) (s : State) : (strmOff i s).pulse = s.pulse := (pulse_pathDown ..).trans ((pulse_pathDown ..).trans rfl)

theorem pulse_strmRefuse (e i : Nat) (s : State) : (strmRefuse e i s).pulse = s.pulse := pulse_strmOff i s

theorem pulse_strmNewMode (rateChanged : Bool) (s : State) : (strmNewMode rateChanged s).pulse = s.pulse := by
  unfold strmNewMode
  extract_lets live s1 s2 s3 s4
  have e1 : s1.pulse = s.pulse := pulse_ite (pulse_foldl _ _ rfl fun i u => pulse_strmRefuse 4 i u) rfl
  clear_value s1
  have e2 : s2.pulse = s.pulse := by
    refine pulse_foldl _ _ e1 fun k u => ?_
    extract_lets cap
    refine List.foldlRecOn _ _ (motive := fun a : Nat × State => a.2.pulse = u.pulse) rfl fun a ha i _ => ?_
    dsimp only
    split
    · exact (pulse_strmRefuse 3 i a.2).trans ha
    · exact ha
  clear_value s2
  have e3 : s3.pulse = s.pulse := pulse_foldl _ _ e2 fun i u => rfl
  clear_value s3
  have e4 : s4.pulse = s.pulse := pulse_foldl _ _ e3 fun i u => rfl
  clear_value s4
  exact (pulse_showStrm s4).trans e4

theorem pulse_newMode (n : Nat) (s : State) : (newMode n s).pulse = s.pulse := by
  unfold newMode
  cases ho : s.sys.oldFs with
  | none => exact pulse_ite rfl rfl
  | some f =>
    dsimp only
    obtain ⟨u, hu, eu⟩ : ∃ u, u = ({ s with sys := { s.sys with oldFs := none } } : State) ∧ u.pulse = s.pulse := ⟨_, rfl, rfl⟩
    rw [← hu]
    obtain ⟨w, hw, ew⟩ : ∃ w, w = bsiNewMode (sapNewMode (strmNewMode (f != u.fs) (mtxNewMode u))) ∧ w.pulse = s.pulse :=
      ⟨_, rfl, (pulse_bsiNewMode _).trans ((pulse_sapNewMode _).trans ((pulse_strmNewMode ..).trans ((pulse_mtxNewMode u).trans eu)))⟩
    rw [← hw]
    exact pulse_ite ew ew

theorem pulse_strmResume (n : Nat) (s : State) : (strmResume n s).pulse = s.pulse :=
  pulse_foldl _ _ rfl fun _ _ => pulse_ite rfl (pulse_ite rfl rfl)

theorem pulse_strmBreath1 (n i : Nat) (s : State) : (strmBreath1 n i s).pulse = s.pulse := by
  unfold strmBreath1
  extract_lets x rx
  exact pulse_ite (pulse_strmOff i s) (pulse_ite rfl (pulse_ite (pulse_ite rfl rfl) (pulse_ite rfl rfl)))

theorem pulse_feedRow (i m : Nat) (vs : List Int) (s : State) : (feedRow i m vs s).pulse = s.pulse :=
  pulse_foldl _ _ rfl fun _ _ => pulse_foldl _ _ rfl fun _ _ => rfl

theorem pulse_aesBreath (n i : Nat) (s : State) : (aesBreath n i s).pulse = s.pulse := by
  unfold aesBreath
  extract_lets x m1 m0 due row off got zeros last s1 goal
  have e1 : s1.pulse = s.pulse := pulse_foldl _ _ rfl fun m u => pulse_ite rfl (pulse_feedRow ..)
  have e2 : (rxMove i last (if (got && !off) = true then some goal else none) s1).2.pulse = s.pulse := e1
  refine pulse_ite rfl ?_
  refine Eq.trans (b := State.pulse (due.foldl _ (rxMove i last (if (got && !off) = true then some goal else none) s1).2)) rfl ?_
  refine pulse_foldl _ _ e2 fun m u => ?_
  split
  · exact pulse_feedRow ..
  · rfl

theorem pulse_strmBreath (n : Nat) (s : State) : (strmBreath n s).pulse = s.pulse :=
  pulse_ite rfl (Eq.trans (pulse_showStrm _) (pulse_foldl _ _ rfl fun i u => (pulse_aesBreath n i _).trans (pulse_strmBreath1 n i u)))

/-! ## Converters -/

theorem pulse_showAsrc (s : State) : (showAsrc s).pulse = s.pulse := pulse_of_outer (outer_showAsrc s)

theorem pulse_asrcFade (k : Nat) (s : State) : (asrcFade k s).2.pulse = s.pulse := by
  unfold asrcFade
  extract_lets was x w
  have hw : w.pulse = s.pulse := pulse_ite rfl rfl
  clear_value w
  exact pulse_ite ((pulse_showAsrc _).trans hw) hw

theorem pulse_asrcUnlock (k : Nat) (s : State) : (asrcUnlock k s).pulse = s.pulse := by
  have h := pulse_asrcFade k s
  unfold asrcUnlock
  generalize asrcFade k s = r at h ⊢
  obtain ⟨was, w⟩ := r
  exact (pulse_ite (pulse_raiseF ..) rfl).trans h

theorem pulse_asrcApply (k : Nat) (s : State) : (asrcApply k s).pulse = s.pulse := by
  have h := pulse_asrcUnlock k s
  unfold asrcApply
  extract_lets w x y
  have hw : w.pulse = s.pulse := h
  clear_value w
  split <;> exact hw

theorem pulse_applyWord (k n : Nat) (s : State) : (applyWord k n s).pulse = s.pulse := by
  unfold applyWord
  extract_lets x
  split <;> rfl

theorem pulse_trackRatio (k n : Nat) (s : State) : (trackRatio k n s).pulse = s.pulse := by
  unfold trackRatio
  split
  · extract_lets w
    have hw : w.pulse = s.pulse := pulse_applyWord k n s
    clear_value w
    exact pulse_ite hw hw
  · rfl

theorem pulse_watchRatio (k : Nat) (s : State) : (watchRatio k s).pulse = s.pulse := by
  unfold watchRatio
  extract_lets r x far w
  have hw : w.pulse = s.pulse := pulse_ite rfl rfl
  clear_value w
  exact pulse_ite hw ((pulse_asrcUnlock ..).trans hw)

theorem pulse_asrcStart (n : Nat) (s : State) : (asrcStart n s).pulse = s.pulse := by
  unfold asrcStart
  extract_lets w
  have hw : w.pulse = s.pulse := Eq.trans (pulse_showAsrc _) (pulse_foldl _ _ rfl fun e u => pulse_asrcApply e.1 u)
  clear_value w
  refine pulse_foldl _ _ hw fun e u => ?_
  extract_lets k x
  split
  · next c _ =>
    refine pulse_ite rfl ?_
    extract_lets v
    have hv : v.pulse = u.pulse := rfl
    clear_value v
    have hr : (if c.mode = 1 then v.setAsrcRatio k c.fixed else if c.mode = 2 then v.setAsrcRatio k (2 ^ 40) else trackRatio k n v).pulse
        = u.pulse := by
      generalize 2 ^ 40 = one
      exact pulse_ite hv (pulse_ite hv ((pulse_trackRatio ..).trans hv))
    exact (pulse_watchRatio ..).trans hr
  · rfl

/-! ## The matrix, surveillance and triggers -/

theorem pulse_swapBreath (n : Nat) (s : State) : (swapBreath n s).pulse = s.pulse :=
  pulse_ite rfl (pulse_ite (pulse_ite rfl rfl) (pulse_ite rfl rfl))

theorem pulse_survBreath (n : Nat) (s : State) : (survBreath n s).pulse = s.pulse := by
  unfold survBreath
  split
  · rfl
  · split
    · rfl
    · exact pulse_ite rfl rfl

theorem pulse_sapStart (mask : Nat) (s : State) : (sapStart mask s).pulse = s.pulse := pulse_foldl _ _ rfl fun _ _ => pulse_ite rfl rfl

theorem pulse_bsiStart (mask : Nat) (s : State) : (bsiStart mask s).pulse = s.pulse := pulse_foldl _ _ rfl fun _ _ => pulse_ite rfl rfl

/-- A trigger fires while the dispatcher is not ARMED, so it sets no anchor (R254). -/
theorem pulse_fireTrigger {k : Nat} (hk : k < 8) {s : State} (ha : s.dstate ≠ dArmed) : (fireTrigger k s).pulse = s.pulse := by
  obtain ⟨w, hw, hd, hp⟩ : ∃ w, w = capEvent 3 k ((((s.set (F.TRIG_FIRED_LO_NS k) s.devNs).set (F.TRIG_FIRED_HI_NS k) (s.devNs / 2 ^ 32)).inc
      (F.TRIG_STAT_FIRES k)).setBit F.TIME_EVT_TRIG k true) ∧ w.dstate = s.dstate ∧ w.pulse = s.pulse := by
    refine ⟨_, rfl, ?_, pulse_of_outer (outer_capEvent ..)⟩
    have hne : ∀ f ∈ [F.TRIG_STAT_FIRES k, F.TRIG_FIRED_HI_NS k, F.TRIG_FIRED_LO_NS k], f.lsb < 32 ∧ 0x20040000 ≤ f.addr ∧ f.addr < 0x20050000 := by
      simp only [List.mem_cons, List.not_mem_nil, or_false, forall_eq_or_imp, forall_eq, F.TRIG_FIRED_LO_NS, F.TRIG_FIRED_HI_NS,
        F.TRIG_STAT_FIRES, A.TRIG_FIRED_LO, A.TRIG_FIRED_HI, A.TRIG_STAT]
      omega
    have hb : KeepsBlock 0x2005 s (capEvent 3 k ((((s.set (F.TRIG_FIRED_LO_NS k) s.devNs).set (F.TRIG_FIRED_HI_NS k) (s.devNs / 2 ^ 32)).inc
      (F.TRIG_STAT_FIRES k)).setBit F.TIME_EVT_TRIG k true)) := by
      have hset : ∀ f ∈ [F.TRIG_STAT_FIRES k, F.TRIG_FIRED_HI_NS k, F.TRIG_FIRED_LO_NS k], ∀ v (w : State), KeepsBlock 0x2005 w (w.set f v) :=
        fun f hf v w => (KeepsBlock.refl _ w).set v (hne f hf).1 (by have := hne f hf; simp only [blockOf]; omega)
      refine KeepsBlock.trans ?_ (keepsBlock_capEvent (by decide) _ _ _)
      refine KeepsBlock.setBit ?_ _ _ (by decide) (by decide)
      exact ((hset _ (by simp) _ s).trans (hset _ (by simp) _ _)).trans (hset _ (by simp) _ _)
    exact hb _ (by decide) (by decide)
  unfold fireTrigger
  extract_lets s1 x tgt
  rw [show x = w from hw.symm]
  rw [← hp]
  split
  · rw [if_neg (by rw [hd]; simpa using ha)]
    rfl
  · exact pulse_sapStart ..
  · exact pulse_bsiStart ..
  · rfl
  · rfl

/-- A field outside the dispatcher's block written: the dispatcher's state is as before. -/
theorem dstate_setTrigEn {k : Nat} (hk : k < 8) (b : Bool) (s : State) : (setTrigEn k b s).dstate = s.dstate := by
  have hne : ∀ f ∈ [F.TRIG_CFG_EN k, F.TRIG_STAT_ARMED k], Fd.key F.DISP_STAT_STATE ≠ Fd.key f := by
    simp only [List.mem_cons, List.not_mem_nil, or_false, forall_eq_or_imp, forall_eq, Fd.key, F.TRIG_CFG_EN, F.TRIG_STAT_ARMED,
      F.DISP_STAT_STATE, A.TRIG_CFG, A.TRIG_STAT, A.DISP_STAT]
    omega
  exact (State.get_set_other _ _ (hne _ (by simp))).trans (State.get_set_other _ _ (hne _ (by simp)))

theorem pulse_trigBreath {k : Nat} (hk : k < 8) (s : State) : (trigBreath k s).pulse = s.pulse := by
  unfold trigBreath
  extract_lets x n p w next d t
  by_cases hgo : (s.on (F.TRIG_CFG_EN k) && s.get (F.TRIG_CFG_MODE k) == tmBREATH && s.breathing && decide (x.judged ≤ s.n)) = true
  swap
  · rw [if_pos (by rw [Bool.not_eq_true'] ; exact Bool.eq_false_iff.mpr hgo)]
  rw [if_neg (by rw [hgo]; decide)]
  simp only [Bool.and_eq_true] at hgo
  have ha : w.dstate ≠ dArmed := dstate_of_breathing hgo.1.2
  have hlate : (w.set (F.TRIG_STAT_LATE k) 1).dstate = w.dstate := State.get_set_other _ _ (by
    simp only [Fd.key, F.TRIG_STAT_LATE, F.DISP_STAT_STATE, A.TRIG_STAT, A.DISP_STAT]; omega)
  have hnext : ∀ q, (fireTrigger k (next q w)).pulse = s.pulse := fun q => pulse_fireTrigger hk (s := next q w) ha
  refine pulse_ite (pulse_ite ?_ (hnext _)) (pulse_ite (pulse_ite ?_ (pulse_ite (hnext _) rfl)) rfl)
  · exact pulse_fireTrigger hk (by rw [dstate_setTrigEn hk]; exact ha)
  · exact pulse_fireTrigger hk (by rw [dstate_setTrigEn hk, hlate]; exact ha)

/-! ## Pairs and re-seats -/

theorem pulse_sendTwin (sub : Nat) (l : List Byte) (s : State) : (sendTwin sub l s).pulse = s.pulse := pulse_of_outer (outer_sendTwin ..)

theorem pulse_roleResolve (s : State) : (roleResolve s).pulse = s.pulse := by
  unfold roleResolve rsLost
  split
  · next b r _ =>
    refine pulse_ite rfl ?_
    extract_lets tw w p
    have hw : w.pulse = s.pulse := (pulse_of_outer (outer_setTrole ..)).trans rfl
    clear_value w
    exact pulse_ite (pulse_ite hw hw) hw
  · rfl

theorem pulse_quietFor (r i : Nat) (s : State) : (quietFor r i s).pulse = s.pulse := pulse_foldl _ _ rfl fun _ _ => rfl

theorem pulse_breathNotes (n : Nat) (s : State) : (breathNotes n s).pulse = s.pulse :=
  pulse_ite rfl (pulse_foldl _ _ rfl fun _ _ => pulse_ite (pulse_sendTwin ..) (pulse_ite (pulse_ite rfl ((pulse_quietFor ..).trans rfl)) rfl))

theorem pulse_logTaps (b : Nat) (s : State) : (logTaps b s).pulse = s.pulse := by
  unfold logTaps
  extract_lets set ts at_ has s1 s2 s3 lg
  have e1 : s1.pulse = s.pulse := pulse_ite rfl rfl
  clear_value s1
  have e2 : s2.pulse = s.pulse := pulse_ite e1 e1
  exact e2

theorem pulse_rsRequest (set : Nat) (s : State) : (rsRequest set s).pulse = s.pulse := (pulse_sendTwin ..).trans rfl

theorem pulse_rsFail (err : Nat) (s : State) : (rsFail err s).pulse = s.pulse := by
  unfold rsFail
  extract_lets s1 s2 k
  exact pulse_ite rfl (pulse_ite ((pulse_raiseF ..).trans rfl) ((pulse_rsRequest ..).trans rfl))

theorem pulse_replay (b : Nat) (s : State) : (replay b s).pulse = s.pulse := by
  unfold replay
  extract_lets set r lg mine u1 u2 u3 u4 cores tasks buses u5 bad keep srcs m d s1 s2
  clear_value u5 bad
  have e2 : s2.pulse = s.pulse := rfl
  clear_value s2
  exact pulse_ite ((pulse_rsFail 8 s2).trans e2) e2

theorem pulse_liftSet (s : State) : (liftSet s).pulse = s.pulse := pulse_foldl _ _ rfl fun _ _ => pulse_ite rfl rfl

theorem pulse_rsResume (n : Nat) (s : State) : (rsResume n s).pulse = s.pulse := by
  unfold rsResume
  extract_lets set mine w
  have hw : w.pulse = s.pulse := pulse_foldl _ _ rfl fun _ _ => rfl
  clear_value w
  exact pulse_ite ((pulse_liftSet w : (rsIdle (liftSet w)).pulse = _).trans hw) hw

/-- A draw of the arbitrary counts itself and nothing else. -/
theorem pulse_draw {s w : State} {d : Nat} (h : (d, w) = s.draw) : w.pulse = s.pulse := by
  rw [show w = s.draw.2 from congrArg Prod.snd h]
  rfl

theorem pulse_rsReplay (n : Nat) (s : State) : (rsReplay n s).pulse = s.pulse := by
  obtain ⟨⟨d, w⟩, hx⟩ : ∃ x, x = s.draw := ⟨_, rfl⟩
  have hw : w.pulse = s.pulse := pulse_draw hx
  unfold rsReplay
  rw [← hx]
  refine pulse_ite rfl ?_
  dsimp -zeta only
  extract_lets one s1 s2 s3 s4
  have hone : ∀ u : State, (one u).pulse = u.pulse := fun u => pulse_ite (pulse_replay ..) rfl
  have e1 : s1.pulse = s.pulse := (hone w).trans hw
  clear_value s1
  have e2 : s2.pulse = s.pulse := pulse_ite ((hone s1).trans e1) e1
  clear_value s2
  have e4 : s4.pulse = s.pulse := e2
  clear_value s4
  exact pulse_ite ((pulse_rsResume n s4).trans e4) e4

theorem pulse_rsBreath (n : Nat) (s : State) : (rsBreath n s).pulse = s.pulse := by
  unfold rsBreath
  extract_lets p s1 tk r s2
  have e2 : s2.pulse = s.pulse := pulse_logTaps (n - 1) s
  clear_value s2
  exact pulse_ite rfl (pulse_ite ((pulse_rsFail ..).trans e2) (pulse_ite ((pulse_rsFail ..).trans e2) (pulse_ite e2
    ((pulse_rsReplay n s2).trans e2))))

theorem pulse_seatStart (n : Nat) (s : State) : (seatStart n s).pulse = s.pulse := by
  obtain ⟨⟨d, w⟩, hx⟩ : ∃ x, x = s.draw := ⟨_, rfl⟩
  have hw : w.pulse = s.pulse := pulse_draw hx
  unfold seatStart
  extract_lets r
  rw [← hx]
  refine pulse_ite rfl (pulse_ite hw ?_)
  obtain ⟨v, hv, ev⟩ : ∃ v, v = w.setBytes seatBase (w.seat w.rsSet n) ∧ v.pulse = s.pulse :=
    ⟨_, rfl, (pulse_of_outer (outer_setBytes ..)).trans hw⟩
  dsimp only
  rw [← hv]
  exact ev

theorem pulse_twinBreath (n : Nat) (s : State) : (twinBreath n s).pulse = s.pulse := by
  unfold twinBreath
  extract_lets w
  have hw : w.pulse = s.pulse :=
    (pulse_breathNotes n _).trans ((pulse_seatStart n _).trans ((pulse_rsBreath n _).trans rfl))
  split
  · exact (pulse_ite (pulse_sendTwin ..) rfl).trans hw
  · exact hw

/-! ## The start of a breath (R36) -/

theorem breathStart_does {s : State} (h : s.breathDue = true) : (breathStart s).pulse = (s.nextBreath, true) := by
  unfold breathStart
  extract_lets n fresh s1 s2 s3 s4 s5 s6
  rw [if_neg (by rw [h]; decide)]
  have henter : ∀ w : State, (enterBreath n w).pulse = (n, true) := fun w => by
    unfold enterBreath
    rfl
  have e1 : s1.pulse = (n, true) := (pulse_newMode n _).trans (henter _)
  clear_value s1
  have e2 : s2.pulse = (n, true) := by
    unfold s2
    split
    · exact (pulse_strmResume n s1).trans e1
    · exact e1
  clear_value s2
  have e3 : s3.pulse = (n, true) :=
    (pulse_applyBreath n _).trans ((pulse_sampleRun _).trans ((pulse_twinBreath n _).trans ((pulse_roleResolve s2).trans e2)))
  clear_value s3
  have e4 : s4.pulse = (n, true) := (pulse_armAll n _).trans ((pulse_restartDue n _).trans ((pulse_swapBreath n s3).trans e3))
  clear_value s4
  have e5 : s5.pulse = (n, true) := (pulse_survBreath n _).trans ((pulse_strmBreath n _).trans ((pulse_asrcStart n s4).trans e4))
  clear_value s5
  have e6 : s6.pulse = (n, true) :=
    (foldl_keeps State.pulse (fun (u : State) (k : Nat) => trigBreath k u) (List.range 8) s5 fun k hk u =>
      pulse_trigBreath (List.mem_range.mp hk) u).trans e5
  clear_value s6
  exact (foldl_keeps State.pulse (fun (u : State) (l : Nat) => gateCheck l u) _ s6 fun l _ u => pulse_gateCheck l u).trans e6

end Sys2Proof.Machine
end

section
/-!
RUNNING AND STOPPING THE DISPATCHER. What RUN written 1 and 0 do, the way back to STOPPED, and the start of a breath (R33, R36, R157).
-/
namespace Sys2Proof.Machine

/-- The fields that a write of DISP_CTRL can change. -/
def runFields : List Fd := [F.DISP_CTRL_RUN, F.DISP_CTRL_ROT_EN, F.DISP_STAT_STATE, F.PMU_STAT_PSTATE]

theorem set_state_other {s : State} {f : Fd} (v : Nat) (h : f ≠ F.DISP_STAT_STATE := by decide)
    (hf : f ∈ runFields := by decide) : (s.set F.DISP_STAT_STATE v).get f = s.get f := by
  have hk : ∀ g ∈ runFields, g ≠ F.DISP_STAT_STATE → Fd.key g ≠ Fd.key F.DISP_STAT_STATE := by decide
  exact State.get_set_other _ _ (hk f hf h)

/-- The return to STOPPED enters READY from SHOW (R379). -/
theorem enterReady_does (s : State) :
    (enterReady s).get F.PMU_STAT_PSTATE = (if s.get F.PMU_STAT_PSTATE = psSHOW then psREADY else s.get F.PMU_STAT_PSTATE)
      ∧ (∀ f, Fd.key f ≠ Fd.key F.PMU_STAT_PSTATE → (enterReady s).get f = s.get f) ∧ (enterReady s).disp = s.disp
      ∧ KeepsFields runFields s (enterReady s) ∧ KeepsStore s (enterReady s) := by
  unfold enterReady State.pstate
  by_cases h : s.get F.PMU_STAT_PSTATE = psSHOW
  · rw [if_pos h, if_pos (by rw [h]; rfl)]
    exact ⟨get_of_set rfl, fun f hf => State.get_set_other _ _ hf, rfl, (KeepsFields.refl _ s).set _ (by decide), ⟨rfl, rfl, rfl⟩⟩
  · rw [if_neg h, if_neg (by simpa using h)]
    exact ⟨rfl, fun _ _ => rfl, rfl, .refl _ s, ⟨rfl, rfl, rfl⟩⟩

/-- RUN written 1 (R33, R379). -/
theorem dispRun_does (s : State) :
    (dispRun s).get F.DISP_CTRL_RUN = 1 ∧ (dispRun s).get F.DISP_CTRL_ROT_EN = s.get F.DISP_CTRL_ROT_EN
      ∧ (dispRun s).get F.DISP_STAT_STATE = (if s.get F.DISP_STAT_STATE = dStopped then dArmed else s.get F.DISP_STAT_STATE)
      ∧ (dispRun s).get F.PMU_STAT_PSTATE
        = (if s.get F.DISP_STAT_STATE = dStopped ∧ s.get F.PMU_STAT_PSTATE = psREADY then psSHOW else s.get F.PMU_STAT_PSTATE)
      ∧ (dispRun s).disp.stopHeld = false ∧ KeepsFields runFields s (dispRun s) ∧ KeepsStore s (dispRun s) := by
  obtain ⟨w, hw, hrun, hother, hheld, hkeep, hstore⟩ : ∃ w : State, w = (({ s.set F.DISP_CTRL_RUN 1 with
      disp := { (s.set F.DISP_CTRL_RUN 1).disp with stopHeld := false } } : State)) ∧ w.get F.DISP_CTRL_RUN = 1
      ∧ (∀ f, Fd.key f ≠ Fd.key F.DISP_CTRL_RUN → w.get f = s.get f) ∧ w.disp.stopHeld = false ∧ KeepsFields runFields s w ∧ KeepsStore s w :=
    ⟨_, rfl, get_of_set rfl, fun f hf => State.get_set_other s 1 hf, rfl, ((KeepsFields.refl runFields s).set (f := F.DISP_CTRL_RUN) 1 (by decide)).congr rfl,
      ⟨rfl, rfl, rfl⟩⟩
  have hst : w.get F.DISP_STAT_STATE = s.get F.DISP_STAT_STATE := hother _ (by decide)
  have hps : w.get F.PMU_STAT_PSTATE = s.get F.PMU_STAT_PSTATE := hother _ (by decide)
  have hgo : dispRun s = if w.dstate == dStopped then
      (if (w.set F.DISP_STAT_STATE dArmed).pstate == psREADY then (w.set F.DISP_STAT_STATE dArmed).set F.PMU_STAT_PSTATE psSHOW
        else w.set F.DISP_STAT_STATE dArmed) else w := by
    rw [hw]; rfl
  rw [hgo]
  by_cases h : s.get F.DISP_STAT_STATE = dStopped
  swap
  · rw [if_neg (by rw [State.dstate, hst]; simpa using h), if_neg h, if_neg (fun k => h k.1)]
    exact ⟨hrun, hother _ (by decide), hst, hps, hheld, hkeep, hstore⟩
  rw [if_pos (by rw [State.dstate, hst, h]; rfl), if_pos h]
  have hps' : (w.set F.DISP_STAT_STATE dArmed).pstate = s.get F.PMU_STAT_PSTATE := (set_state_other _).trans hps
  have hkeep' : KeepsFields runFields s (w.set F.DISP_STAT_STATE dArmed) := hkeep.set _ (by decide)
  by_cases hr : s.get F.PMU_STAT_PSTATE = psREADY
  · rw [if_pos (by rw [hps', hr]; rfl), if_pos ⟨h, hr⟩]
    refine ⟨?_, ?_, ?_, get_of_set rfl, hheld, hkeep'.set _ (by decide), hstore⟩
    · exact (State.get_set_other _ _ (by decide)).trans ((set_state_other _).trans hrun)
    · exact (State.get_set_other _ _ (by decide)).trans ((set_state_other _).trans (hother _ (by decide)))
    · exact (State.get_set_other _ _ (by decide)).trans (get_of_set rfl)
  · rw [if_neg (by rw [hps']; simpa using hr), if_neg (fun k => hr k.2)]
    exact ⟨(set_state_other _).trans hrun, (set_state_other _).trans (hother _ (by decide)), get_of_set rfl, hps', hheld, hkeep', hstore⟩

/-- RUN written 0 (R33, R157). -/
theorem dispStop_does (s : State) :
    (dispStop s).get F.DISP_CTRL_RUN = 0
      ∧ (s.get F.DISP_STAT_STATE = dArmed → (dispStop s).get F.DISP_STAT_STATE = dStopped)
      ∧ (s.get F.DISP_STAT_STATE = dRunning → s.get F.RVC_STAT_STARTED = 0 → (dispStop s).get F.DISP_STAT_STATE = dStopping)
      ∧ (s.get F.DISP_STAT_STATE = dRunning → s.get F.RVC_STAT_STARTED ≠ 0 →
          (dispStop s).get F.DISP_STAT_STATE = dRunning ∧ (dispStop s).disp.stopHeld = true)
      ∧ KeepsFields runFields s (dispStop s) ∧ KeepsStore s (dispStop s) := by
  obtain ⟨w, hw, hrun, hother, hkeep, hstore⟩ : ∃ w : State, w = s.set F.DISP_CTRL_RUN 0 ∧ w.get F.DISP_CTRL_RUN = 0
      ∧ (∀ f, Fd.key f ≠ Fd.key F.DISP_CTRL_RUN → w.get f = s.get f) ∧ KeepsFields runFields s w ∧ KeepsStore s w :=
    ⟨_, rfl, get_of_set rfl, fun f hf => State.get_set_other s 0 hf, (KeepsFields.refl runFields s).set 0 (by decide), ⟨rfl, rfl, rfl⟩⟩
  have hst : w.get F.DISP_STAT_STATE = s.get F.DISP_STAT_STATE := hother _ (by decide)
  have hgo : dispStop s = if w.dstate == dArmed then enterReady (w.set F.DISP_STAT_STATE dStopped)
      else if w.dstate == dRunning then
        (if w.get F.RVC_STAT_STARTED != 0 then { w with disp := { w.disp with stopHeld := true } } else w.set F.DISP_STAT_STATE dStopping)
      else w := by
    rw [hw]; rfl
  rw [hgo]
  by_cases ha : s.get F.DISP_STAT_STATE = dArmed
  · rw [if_pos (by rw [State.dstate, hst, ha]; rfl)]
    obtain ⟨_, h2, _, h4, h5⟩ := enterReady_does (w.set F.DISP_STAT_STATE dStopped)
    have hne : s.get F.DISP_STAT_STATE ≠ dRunning := by rw [ha]; decide
    exact ⟨(h2 _ (by decide)).trans ((set_state_other _).trans hrun), fun _ => (h2 _ (by decide)).trans (get_of_set rfl),
      fun h => absurd h hne, fun h => absurd h hne, (hkeep.set _ (by decide)).trans h4, hstore.trans h5⟩
  rw [if_neg (by rw [State.dstate, hst]; simpa using ha)]
  by_cases hr : s.get F.DISP_STAT_STATE = dRunning
  swap
  · rw [if_neg (by rw [State.dstate, hst]; simpa using hr)]
    exact ⟨hrun, fun h => absurd h ha, fun h => absurd h hr, fun h => absurd h hr, hkeep, hstore⟩
  rw [if_pos (by rw [State.dstate, hst, hr]; rfl)]
  have hcom : w.get F.RVC_STAT_STARTED = s.get F.RVC_STAT_STARTED := hother _ (by decide)
  by_cases hc : s.get F.RVC_STAT_STARTED = 0
  · rw [if_neg (by rw [hcom, hc]; decide)]
    exact ⟨(set_state_other _).trans hrun, fun h => absurd h ha, fun _ _ => get_of_set rfl, fun _ h => absurd hc h, hkeep.set _ (by decide),
      hstore⟩
  · rw [if_pos (by rw [hcom]; simpa using hc)]
    exact ⟨hrun, fun h => absurd h ha, fun _ h => absurd h hc, fun _ _ => ⟨hst.trans hr, rfl⟩, hkeep.congr rfl, hstore⟩

/-- The audio frames dropped and the serial slots at 0: only the ports' hidden state changes (R275, R320). -/
theorem stopAudio_zeroSerial_only (s : State) : ∃ n p, zeroSerial (stopAudio (tickCredits s)) = { s with net := n, sap := p } := by
  obtain ⟨n, hn⟩ := tickCredits_keeps s
  rw [hn]
  obtain ⟨n', hn'⟩ : ∃ n', stopAudio { s with net := n } = { s with net := n' } :=
    List.foldlRecOn _ _ (motive := fun u : State => ∃ m, u = { s with net := m }) ⟨n, rfl⟩ fun u hu p _ => by
      obtain ⟨m, rfl⟩ := hu
      exact ⟨_, rfl⟩
  rw [hn']
  obtain ⟨p, hp⟩ : ∃ p, zeroSerial { s with net := n' } = { s with net := n', sap := p } :=
    List.foldlRecOn _ _ (motive := fun u : State => ∃ m, u = { s with net := n', sap := m }) ⟨s.sap, rfl⟩ fun u hu p _ => by
      obtain ⟨m, rfl⟩ := hu
      exact ⟨_, rfl⟩
  exact ⟨n', p, hp⟩

/-- The return to STOPPED (R33, R379). -/
theorem stopped_does (s : State) {u : State}
    (hu : u = enterReady ((zeroSerial (stopAudio (tickCredits s))).set F.DISP_STAT_STATE dStopped)) :
    u.get F.DISP_STAT_STATE = dStopped ∧ u.get F.DISP_CTRL_RUN = s.get F.DISP_CTRL_RUN
      ∧ u.get F.PMU_STAT_PSTATE = (if s.get F.PMU_STAT_PSTATE = psSHOW then psREADY else s.get F.PMU_STAT_PSTATE) ∧ KeepsStore s u := by
  obtain ⟨n, p, hnp⟩ := stopAudio_zeroSerial_only s
  rw [hnp] at hu
  obtain ⟨w, hw⟩ : ∃ w : State, w = { s with net := n, sap := p } := ⟨_, rfl⟩
  have hget : ∀ f, w.get f = s.get f := fun f => by rw [hw]; rfl
  have hstore : KeepsStore s w := by rw [hw]; exact ⟨rfl, rfl, rfl⟩
  rw [← hw] at hu
  obtain ⟨h1, h2, _, _, h5⟩ := enterReady_does (w.set F.DISP_STAT_STATE dStopped)
  have hps : (w.set F.DISP_STAT_STATE dStopped).get F.PMU_STAT_PSTATE = s.get F.PMU_STAT_PSTATE := (set_state_other _).trans (hget _)
  rw [hps] at h1
  rw [hu]
  exact ⟨(h2 _ (by decide)).trans (get_of_set rfl), (h2 _ (by decide)).trans ((set_state_other _).trans (hget _)), h1, hstore.trans h5⟩

end Sys2Proof.Machine

open Sys2Proof Sys2Proof.Machine

/-- Settles O28: RUN written 1 and 0 case by case, and a breath's start keeps the breath that `enterBreath` has put in force. -/
theorem dispatcherRunRowsComplete : Obligations.DispatcherRunRowsComplete := by
  unfold Obligations.DispatcherRunRowsComplete
  have hrot : ∀ (v : Nat) (s : State), KeepsFields runFields s (s.set F.DISP_CTRL_ROT_EN (bits 1 1 v)) := fun v s =>
    (KeepsFields.refl _ s).set _ (by decide)
  have hoff : ∀ (v : Nat) (s : State), s.get F.SYS_MODE_STAT_APPLYING = 0 →
      (s.set F.DISP_CTRL_ROT_EN (bits 1 1 v)).on F.SYS_MODE_STAT_APPLYING = false := fun v s h => by
    rw [State.on, State.get_set_other _ _ (by decide), h]; rfl
  refine ⟨?_, ?_, ?_, ?_⟩
  · intro m v s h hv hap
    refine ⟨_, (done_alive _ h.alive :), ?_⟩
    rw [guarded_admitted _ h]
    have hgo : wrDispCtrl v s = dispRun (s.set F.DISP_CTRL_ROT_EN (bits 1 1 v)) :=
      (if_neg (by rw [hoff v s hap]; decide)).trans (if_pos hv)
    obtain ⟨h1, h2, h3, h4, h5, h6, h7⟩ := dispRun_does (s.set F.DISP_CTRL_ROT_EN (bits 1 1 v))
    have hr : (s.set F.DISP_CTRL_ROT_EN (bits 1 1 v)).get F.DISP_CTRL_ROT_EN = bits 1 1 v :=
      (State.get_set_same s F.DISP_CTRL_ROT_EN (bits 1 1 v)).trans (Nat.mod_mod _ _)
    rw [State.get_set_other _ _ (by decide : Fd.key F.DISP_STAT_STATE ≠ Fd.key F.DISP_CTRL_ROT_EN)] at h3 h4
    rw [State.get_set_other _ _ (by decide : Fd.key F.PMU_STAT_PSTATE ≠ Fd.key F.DISP_CTRL_ROT_EN)] at h4
    rw [hgo]
    refine ⟨answers_sumTick .., (respond_get _ _ _ _ _ _ (by decide)).trans h1, (respond_get _ _ _ _ _ _ (by decide)).trans (h2.trans hr),
      (respond_get _ _ _ _ _ _ (by decide)).trans h3, (respond_get _ _ _ _ _ _ (by decide)).trans h4, ?_,
      keepsFields_sumTick _ _ _ _ ((hrot v s).trans h6), keepsStore_sumTick _ _ _ _ (KeepsStore.trans ⟨rfl, rfl, rfl⟩ h7)⟩
    rw [sumTick_disp]
    exact h5
  · intro m v s h hv hap
    refine ⟨_, (done_alive _ h.alive :), ?_⟩
    rw [guarded_admitted _ h]
    have hgo : wrDispCtrl v s = dispStop (s.set F.DISP_CTRL_ROT_EN (bits 1 1 v)) :=
      (if_neg (by rw [hoff v s hap]; decide)).trans (if_neg (by rw [hv]; decide))
    obtain ⟨h1, h2, h3, h4, h5, h6⟩ := dispStop_does (s.set F.DISP_CTRL_ROT_EN (bits 1 1 v))
    rw [State.get_set_other _ _ (by decide : Fd.key F.DISP_STAT_STATE ≠ Fd.key F.DISP_CTRL_ROT_EN)] at h2 h3 h4
    rw [State.get_set_other _ _ (by decide : Fd.key F.RVC_STAT_STARTED ≠ Fd.key F.DISP_CTRL_ROT_EN)] at h3 h4
    rw [hgo]
    refine ⟨answers_sumTick .., (respond_get _ _ _ _ _ _ (by decide)).trans h1,
      fun k => (respond_get _ _ _ _ _ _ (by decide)).trans (h2 k), fun k l => (respond_get _ _ _ _ _ _ (by decide)).trans (h3 k l),
      fun k l => ⟨(respond_get _ _ _ _ _ _ (by decide)).trans (h4 k l).1, ?_⟩,
      keepsFields_sumTick _ _ _ _ ((hrot v s).trans h5), keepsStore_sumTick _ _ _ _ (KeepsStore.trans ⟨rfl, rfl, rfl⟩ h6)⟩
    rw [sumTick_disp]
    exact (h4 k l).2
  · intro t s ha hst hall hap
    have hc : ((s.atTime t).dstate == dStopping && (s.atTime t).disp.insts.all (fun i => i.ended.isSome)
        && !(s.atTime t).on F.SYS_MODE_STAT_APPLYING) = true := by
      rw [State.dstate, show (s.atTime t).get F.DISP_STAT_STATE = dStopping from hst,
        show (s.atTime t).disp.insts.all (fun i => i.ended.isSome) = true from hall, State.on,
        show (s.atTime t).get F.SYS_MODE_STAT_APPLYING = 0 from hap]
      rfl
    obtain ⟨h1, h2, h3, h4⟩ := stopped_does (s.atTime t) rfl
    refine ⟨_, (if_pos hc).trans (done_alive _ ha), (sumTick_get _ _ (by decide)).trans h1, (sumTick_get _ _ (by decide)).trans h2,
      (sumTick_get _ _ (by decide)).trans h3, KeepsStore.sumTick (s := s) _ h4⟩
  · intro t s ha hdue
    refine ⟨_, done_alive _ ha, ?_⟩
    have h := breathStart_does hdue
    rw [sumTick_disp]
    exact ⟨congrArg Prod.fst h, congrArg Prod.snd h⟩
end

section
/-!
THE HOLDERS OF THE LOGICAL CORES. Which physical core holds a logical core, which cores are fenced, and what copying, loading and
stopping cores leave of both (R53, R54, R59, R61).
-/
namespace Sys2Proof.Machine

/-! ## The map and the fences -/

/-- Registers of the map of logical cores, of the fences, of the losses, and the dispatcher's state (R61). -/
def Holding (f : Fd) : Prop :=
  f.lsb < 32 ∧ (f = F.DISP_STAT_STATE ∨ (0x20050050 ≤ f.addr ∧ f.addr < 0x20050080) ∨ (0x20050200 ≤ f.addr ∧ f.addr < 0x20050280))

/-- The map of logical cores, the fences, the losses and the dispatcher's state are as before. -/
def HoldersKept (s w : State) : Prop := ∀ f : Fd, Holding f → w.get f = s.get f

theorem HoldersKept.refl (s : State) : HoldersKept s s := fun _ _ => rfl

theorem HoldersKept.trans {s w x : State} (h : HoldersKept s w) (k : HoldersKept w x) : HoldersKept s x := fun f hf => (k f hf).trans (h f hf)

theorem HoldersKept.of_fld {s w : State} (h : w.fld = s.fld) : HoldersKept s w := fun f _ => State.get_congr h f

theorem HoldersKept.ite {s x y : State} {p : Prop} [Decidable p] (hx : HoldersKept s x) (hy : HoldersKept s y) :
    HoldersKept s (if p then x else y) := by
  split
  · exact hx
  · exact hy

theorem HoldersKept.foldl {α : Type} {s w : State} (f : State → α → State) (l : List α) (h : HoldersKept s w)
    (hf : ∀ x u, HoldersKept u (f u x)) : HoldersKept s (l.foldl f w) := by
  induction l generalizing w with
  | nil => exact h
  | cons x l ih => exact ih (h.trans (hf x w))

/-- A write of a register that is none of them. -/
theorem HoldersKept.set {s w : State} {f : Fd} (h : HoldersKept s w) (v : Nat) (hl : f.lsb < 32) (hs : Fd.key f ≠ Fd.key F.DISP_STAT_STATE)
    (ha : ¬(0x20050050 ≤ f.addr ∧ f.addr < 0x20050080) ∧ ¬(0x20050200 ≤ f.addr ∧ f.addr < 0x20050280)) : HoldersKept s (w.set f v) := by
  intro g hg
  obtain ⟨hgl, rfl | hg⟩ := hg
  · exact (State.get_set_other _ _ hs.symm).trans (h _ ⟨by decide, .inl rfl⟩)
  · exact (State.get_set_other _ _ (Fd.key_ne hgl hl (.inl (by omega)))).trans (h g ⟨hgl, .inr hg⟩)

/-- The register of the map that shows logical core `l`. -/
def physFd (l : Nat) : Fd :=
  match l % 4 with
  | 0 => F.DISP_MAP_PHYS0 (l / 4) | 1 => F.DISP_MAP_PHYS1 (l / 4) | 2 => F.DISP_MAP_PHYS2 (l / 4) | _ => F.DISP_MAP_PHYS3 (l / 4)

theorem physOf_eq (l : Nat) (s : State) : s.physOf l = s.get (physFd l) := by
  unfold State.physOf physFd
  generalize l % 4 = r
  match r with
  | 0 | 1 | 2 | _ + 3 => rfl

theorem setPhys_eq (l p : Nat) (s : State) : s.setPhys l p = s.set (physFd l) p := by
  unfold State.setPhys physFd
  generalize l % 4 = r
  match r with
  | 0 | 1 | 2 | _ + 3 => rfl

theorem physFd_reg (l : Nat) : (physFd l).lsb < 32 ∧ (physFd l).addr = 0x20050200 + 4 * (l / 4) ∧ Fd.width (physFd l) = 8 := by
  unfold physFd
  split <;> exact ⟨by simp [F.DISP_MAP_PHYS0, F.DISP_MAP_PHYS1, F.DISP_MAP_PHYS2, F.DISP_MAP_PHYS3], rfl, rfl⟩

theorem physFd_holds {l : Nat} (hl : l < 128) : Holding (physFd l) := by
  obtain ⟨h1, h2, _⟩ := physFd_reg l
  exact ⟨h1, .inr (.inr (by omega))⟩

theorem physOf_setPhys {l p : Nat} (hp : p < 256) (s : State) : (s.setPhys l p).physOf l = p := by
  rw [physOf_eq, setPhys_eq, State.get_set_same, (physFd_reg l).2.2]
  exact Nat.mod_eq_of_lt hp

theorem HoldersKept.physOf {s w : State} (h : HoldersKept s w) {l : Nat} (hl : l < 128) : w.physOf l = s.physOf l := by
  rw [physOf_eq, physOf_eq]
  exact h _ (physFd_holds hl)

theorem HoldersKept.breathing {s w : State} (h : HoldersKept s w) : w.breathing = s.breathing := by
  rw [State.breathing, State.dstate, h _ ⟨by decide, .inl rfl⟩]
  rfl

/-- Which cores are idle spares does not turn on the registers below the map's. -/
theorem idleSpare_set {f : Fd} (v p : Nat) (s : State) (hl : f.lsb < 32) (ha : f.addr < 0x20050050) :
    (s.set f v).idleSpare p = s.idleSpare p := by
  have hphys : ∀ l, (s.set f v).physOf l = s.physOf l := fun l => by
    rw [physOf_eq, physOf_eq]
    obtain ⟨h1, h2, _⟩ := physFd_reg l
    exact State.get_set_other _ _ (Fd.key_ne h1 hl (.inl (by omega)))
  have hfenced : (s.set f v).coreFenced p = s.coreFenced p := by
    unfold State.coreFenced
    rw [State.get_set_other _ _ (Fd.key_ne (f := F.DISP_FENCED_FENCED (p / 32)) (by simp [F.DISP_FENCED_FENCED]) hl
      (.inl (by simp only [F.DISP_FENCED_FENCED, A.DISP_FENCED]; omega))),
      State.get_set_other _ _ (Fd.key_ne (f := F.DISP_FENCED4_FENCED) (by decide) hl
      (.inl (by simp only [F.DISP_FENCED4_FENCED, A.DISP_FENCED4]; omega)))]
  have hlog : (s.set f v).logOf p = s.logOf p := by
    unfold State.logOf
    simp only [hphys]
  unfold State.idleSpare
  rw [hfenced, hlog]
  rfl

theorem lowestSpare_set {f : Fd} (v : Nat) (s : State) (hl : f.lsb < 32) (ha : f.addr < 0x20050050) :
    (s.set f v).lowestSpare = s.lowestSpare := by
  unfold State.lowestSpare
  simp only [idleSpare_set v _ s hl ha]

/-! ## Copies, loads and stops -/

/-- What a copy of a window makes of memory. -/
def copiedMem (src dst : Nat) (p : Nat → Bool) (m : SMap Byte) : SMap Byte :=
  let inWin := fun (c a : Nat) => coreBase c ≤ a && a < coreBase (c + 1) && p (a - coreBase c)
  (m.filter (fun e => inWin src e.1)).foldl (fun t e => mset 0 (coreBase dst + (e.1 - coreBase src)) e.2 t) (mkeep (fun a => !inWin dst a) m)

theorem foldl_setByte {α : Type} (a : α → Nat) (b : α → Byte) (l : List α) (s : State) :
    l.foldl (fun t e => t.setByte (a e) (b e)) s = { s with mem := l.foldl (fun t e => mset 0 (a e) (b e) t) s.mem } := by
  induction l generalizing s with
  | nil => rfl
  | cons x l ih => exact ih _

theorem copyWindow_only (src dst : Nat) (p : Nat → Bool) (s : State) : copyWindow src dst p s = { s with mem := copiedMem src dst p s.mem } :=
  foldl_setByte (fun e : Nat × Byte => coreBase dst + (e.1 - coreBase src)) (fun e => e.2) _ _

/-- The dispatcher's hidden state but for the hand-over in progress, the task lists, the cycles counted and the words held. -/
def DispKept (s w : State) : Prop :=
  w.disp = { s.disp with rot := w.disp.rot, tasks := w.disp.tasks, cycles := w.disp.cycles, heldWords := w.disp.heldWords }

theorem DispKept.refl (s : State) : DispKept s s := rfl

theorem DispKept.trans {s w x : State} (h : DispKept s w) (k : DispKept w x) : DispKept s x := by
  unfold DispKept at *
  rw [k, h]

theorem DispKept.of_disp {s w : State} (h : w.disp = s.disp) : DispKept s w := by
  unfold DispKept
  rw [h]

theorem DispKept.ite {s x y : State} {p : Prop} [Decidable p] (hx : DispKept s x) (hy : DispKept s y) : DispKept s (if p then x else y) := by
  split
  · exact hx
  · exact hy

theorem DispKept.foldl {α : Type} {s w : State} (f : State → α → State) (l : List α) (h : DispKept s w) (hf : ∀ x u, DispKept u (f u x)) :
    DispKept s (l.foldl f w) := by
  induction l generalizing w with
  | nil => exact h
  | cons x l ih => exact ih (h.trans (hf x w))

theorem DispKept.n {s w : State} (h : DispKept s w) : w.n = s.n := by
  unfold DispKept at h
  rw [State.n, h]
  rfl

theorem DispKept.fenceTl {s w : State} (h : DispKept s w) (l : Nat) : w.fenceTl l = s.fenceTl l := by
  unfold DispKept at h
  rw [State.fenceTl, h]
  rfl

theorem DispKept.bistSpare {s w : State} (h : DispKept s w) : w.disp.bistSpare = s.disp.bistSpare := by
  unfold DispKept at h
  rw [h]

/-- Holders and dispatcher as before. -/
def CoresKept (s w : State) : Prop := HoldersKept s w ∧ DispKept s w

theorem CoresKept.refl (s : State) : CoresKept s s := ⟨.refl s, .refl s⟩
theorem CoresKept.trans {s w x : State} (h : CoresKept s w) (k : CoresKept w x) : CoresKept s x := ⟨h.1.trans k.1, h.2.trans k.2⟩
theorem CoresKept.of_eq {s w : State} (hf : w.fld = s.fld) (hd : w.disp = s.disp) : CoresKept s w := ⟨.of_fld hf, .of_disp hd⟩
theorem CoresKept.ite {s x y : State} {p : Prop} [Decidable p] (hx : CoresKept s x) (hy : CoresKept s y) : CoresKept s (if p then x else y) :=
  ⟨.ite hx.1 hy.1, .ite hx.2 hy.2⟩
theorem CoresKept.foldl {α : Type} {s w : State} (f : State → α → State) (l : List α) (h : CoresKept s w) (hf : ∀ x u, CoresKept u (f u x)) :
    CoresKept s (l.foldl f w) :=
  ⟨.foldl f l h.1 fun x u => (hf x u).1, .foldl f l h.2 fun x u => (hf x u).2⟩

theorem coresKept_set {f : Fd} (s : State) (v : Nat) (hl : f.lsb < 32) (hs : Fd.key f ≠ Fd.key F.DISP_STAT_STATE)
    (ha : ¬(0x20050050 ≤ f.addr ∧ f.addr < 0x20050080) ∧ ¬(0x20050200 ≤ f.addr ∧ f.addr < 0x20050280)) : CoresKept s (s.set f v) :=
  ⟨(HoldersKept.refl s).set v hl hs ha, .refl s⟩

theorem coresKept_coreWrite (c a : Nat) (l : List Byte) (s : State) : CoresKept s (coreWrite c a l s) := by
  obtain ⟨m, hm⟩ := s.setBytes_only a l
  have hset : CoresKept s (s.setBytes a l) := by rw [hm]; exact .of_eq rfl rfl
  unfold coreWrite
  extract_lets w
  have hw : CoresKept s w := hset
  clear_value w
  split
  · exact .ite (hw.trans ⟨.of_fld rfl, rfl⟩) hw
  · exact hw

theorem coresKept_stopCore (p st : Nat) (s : State) : CoresKept s (stopCore p st s) := by
  have hcount : CoresKept s (countCore p s) := by
    unfold countCore
    split
    · unfold countCycles
      extract_lets x tot d w
      have hw : CoresKept s w := ⟨.of_fld rfl, rfl⟩
      clear_value w
      refine hw.trans (coresKept_set _ _ ?_ ?_ ?_) <;>
        simp only [Fd.key, F.DISP_CORE_STAT_BUSY_MAX, A.DISP_CORE_STAT, F.DISP_STAT_STATE, A.DISP_STAT] <;> omega
    · exact .refl s
  have hland : ∀ w : State, CoresKept w (landY p w) := fun w =>
    CoresKept.foldl _ _ (.of_eq rfl rfl) fun e u => coresKept_coreWrite p e.1 e.2 u
  have hleave : CoresKept s ((leaveMem p (countCore p s)).setCore p {}) :=
    (hcount.trans (hland _)).trans (.of_eq rfl rfl)
  refine ((hleave.trans (coresKept_set _ st ?_ ?_ ?_)).trans (coresKept_set _ 0 ?_ ?_ ?_)).trans (coresKept_set _ 0 ?_ ?_ ?_) <;>
    simp only [Fd.key, F.RC_STAT_STATE, F.RC_TASK_RUNNING, F.RC_DBGPC_PC, A.RC_STAT, A.RC_TASK, A.RC_DBGPC, F.DISP_STAT_STATE,
      A.DISP_STAT] <;> omega

/-- A stopped core shows the state it is stopped in. -/
theorem stopCore_state (p st : Nat) (s : State) : (stopCore p st s).get (F.RC_STAT_STATE p) = st % 8 := by
  unfold stopCore
  rw [State.get_set_other, State.get_set_other, State.get_set_same]
  · rfl
  all_goals simp only [Fd.key, F.RC_STAT_STATE, F.RC_TASK_RUNNING, F.RC_DBGPC_PC, A.RC_STAT, A.RC_TASK, A.RC_DBGPC]; omega

/-- Stopping a core writes the count of cycles and the core's own registers. -/
theorem stopCore_get {f : Fd} (p st : Nat) (s : State) (hf : f.lsb < 32) (ha : f.addr < 0x40030000)
    (hb : f.addr % 0x100000000 ≠ 0x20050084) : (stopCore p st s).get f = s.get f := by
  have hcount : (countCore p s).get f = s.get f := by
    unfold countCore
    split
    · refine State.get_set_other _ _ (Fd.key_ne hf (by simp [F.DISP_CORE_STAT_BUSY_MAX]) (.inl ?_))
      simp only [F.DISP_CORE_STAT_BUSY_MAX, A.DISP_CORE_STAT]
      omega
    · rfl
  have hland : ∀ w : State, (landY p w).get f = w.get f := fun w =>
    foldl_keeps (fun u : State => u.get f) _ _ _ fun e _ u => by
      obtain ⟨d, h⟩ := coreWrite_only p e.1 e.2 u
      rw [h]
      rfl
  have hkey : ∀ g : Fd, g.lsb < 32 → 0x40030000 ≤ g.addr → Fd.key f ≠ Fd.key g := fun g hg ha' => Fd.key_ne hf hg (.inl (by omega))
  unfold stopCore
  rw [State.get_set_other _ _ (hkey _ (by simp [F.RC_DBGPC_PC]) (by simp only [F.RC_DBGPC_PC, A.RC_DBGPC]; omega)),
    State.get_set_other _ _ (hkey _ (by simp [F.RC_TASK_RUNNING]) (by simp only [F.RC_TASK_RUNNING, A.RC_TASK]; omega)),
    State.get_set_other _ _ (hkey _ (by simp [F.RC_STAT_STATE]) (by simp only [F.RC_STAT_STATE, A.RC_STAT]; omega))]
  exact (hland _).trans hcount

theorem coresKept_extWrite (c a : Nat) (l : List Byte) (s : State) : CoresKept s (extWrite c a l s) :=
  .ite (.of_eq rfl rfl) (coresKept_coreWrite ..)

theorem coresKept_loadCore (l : List ImgRec) (lc p : Nat) (keep : Bool) (s : State) : CoresKept s (loadCore l lc p keep s) := by
  have hput : ∀ (base first : Nat) (ws : List Nat) (u : State), CoresKept u (putWords p base first ws u) := fun base first ws u =>
    CoresKept.foldl _ _ (.refl u) fun _ v => coresKept_coreWrite _ _ _ v
  unfold loadCore
  extract_lets w
  have hw : CoresKept s w := .ite (.of_eq rfl rfl) (.of_eq rfl rfl)
  clear_value w
  refine CoresKept.foldl _ _ hw fun r u => ?_
  unfold loadCoreRec
  refine .ite (.refl u) ?_
  split
  · exact hput ..
  · exact hput ..
  · exact hput ..
  · exact .of_eq rfl rfl
  · exact .of_eq rfl rfl
  · exact coresKept_coreWrite ..
  · exact .refl u

theorem coresKept_loadTasks (l p : Nat) (s : State) : CoresKept s (loadTasks l p s) :=
  CoresKept.foldl _ _ (.refl s) fun k u => by
    extract_lets a
    obtain ⟨e, bad⟩ := taskOfWords u.fs (u.word a) (u.word (a + 4)) (u.word (a + 8)) (u.word (a + 12))
    cases bad with
    | false => exact ⟨.of_fld rfl, rfl⟩
    | true => exact (coresKept_set u 1 (f := F.DISP_STAT_BADTASK) (by decide) (by decide) (by decide)).trans ⟨.of_fld rfl, rfl⟩

theorem coresKept_landWords (p : HeldWord → Bool) (s : State) : CoresKept s (landWords p s) := by
  unfold landWords
  extract_lets hs d w
  have hw : CoresKept s w := ⟨.of_fld rfl, rfl⟩
  clear_value w
  refine CoresKept.foldl _ _ hw fun h u => ?_
  extract_lets c v
  have hv : CoresKept u v := .ite (coresKept_extWrite ..) (.refl u)
  clear_value v
  refine .ite hv (hv.trans (coresKept_set _ _ ?_ ?_ ?_)) <;>
    simp only [Fd.key, F.MTX_MBOX_STAT_STATE, A.MTX_MBOX_STAT, F.DISP_STAT_STATE, A.DISP_STAT] <;> omega

end Sys2Proof.Machine
end

section
/-!
SPARE ROTATION, SELF-TESTS AND FENCED CORES. Steps, hand-overs, self-tests, and the spare that takes a fenced core's place (R53–R61).
-/
namespace Sys2Proof.Machine

/-! ## Steps (R53, R55, R56) -/

/-- An automatic step is due for logical core `l`. -/
structure StepDue (l : Nat) (s : State) : Prop where
  breathing : s.breathing = true
  noRot     : s.disp.rot = none
  free      : s.disp.rotFree ≤ s.n
  noApply   : s.get F.SYS_MODE_STAT_APPLYING = 0
  noReq     : s.disp.bistReq = none
  enabled   : s.get F.DISP_CTRL_ROT_EN = 1
  due       : s.disp.rotDue ≤ s.n
  candidate : s.rotCandidate = some l

theorem rotationStart_goes {l : Nat} {s : State} (h : StepDue l s) : rotationStart s = startStep l false s := by
  obtain ⟨hb, hr, hf, ha, hq, he, hd, hc⟩ := h
  unfold rotationStart
  rw [if_neg (by simp [hb, hr, State.on, ha]; omega), hq]
  dsimp only
  rw [if_neg (by simp [State.on, he]; omega), hc]

theorem rotCandidate_lt {l : Nat} {s : State} (h : s.rotCandidate = some l) : l < 128 := by
  have h1 : l < s.activeCores := List.mem_range.mp (List.mem_of_find?_eq_some h)
  have h2 : s.activeCores ≤ 128 := by
    unfold State.activeCores Mode.cores
    split <;> omega
  omega

theorem startStep_spare {l q : Nat} {s : State} (hl : l < 128) (hq : s.lowestSpare = some q) {u : State} (hu : u = startStep l false s) :
    (∃ r, u.disp.rot = some r ∧ r.lcore = l ∧ r.p = s.physOf l ∧ r.q = q ∧ r.hand = some .bulk ∧ r.back = false ∧ r.startB = s.n)
      ∧ u.disp.rotDue = s.n + max 600 (s.get F.DISP_ROT_CTRL_STEP) ∧ u.get F.DISP_ROT_STAT_PHASE = rpHANDOVER
      ∧ u.get F.DISP_ROT_STAT_LCORE = l ∧ KeepsFields [F.DISP_ROT_STAT_PHASE, F.DISP_ROT_STAT_LCORE] s u ∧ KeepsStore s u := by
  obtain ⟨w, hw, hdisp, hwq, hphys, hstep, hlc, hkeep, hstore⟩ : ∃ w, w = s.set F.DISP_ROT_STAT_LCORE l ∧ w.disp = s.disp
      ∧ w.lowestSpare = some q ∧ w.physOf l = s.physOf l ∧ w.get F.DISP_ROT_CTRL_STEP = s.get F.DISP_ROT_CTRL_STEP
      ∧ w.get F.DISP_ROT_STAT_LCORE = l ∧ KeepsFields [F.DISP_ROT_STAT_PHASE, F.DISP_ROT_STAT_LCORE] s w ∧ KeepsStore s w := by
    refine ⟨_, rfl, rfl, (lowestSpare_set l s (by decide) (by decide)).trans hq, ?_, State.get_set_other _ _ (by decide), ?_,
      (KeepsFields.refl _ s).set _ (by simp), ⟨rfl, rfl, rfl⟩⟩
    · exact ((HoldersKept.refl s).set l (f := F.DISP_ROT_STAT_LCORE) (by decide) (by decide) (by decide)).physOf hl
    · exact (State.get_set_same s F.DISP_ROT_STAT_LCORE l).trans (Nat.mod_eq_of_lt hl)
  have hn : w.n = s.n := congrArg DispS.n hdisp
  unfold startStep at hu
  extract_lets v at hu
  rw [show v = w from hw.symm, hwq] at hu
  clear_value v
  rw [hu]
  refine ⟨⟨_, rfl, rfl, hphys, rfl, rfl, rfl, hn⟩, ?_, get_of_set rfl, ?_, ?_, hstore⟩
  · show w.n + max 600 (w.get F.DISP_ROT_CTRL_STEP) = _
    rw [hn, hstep]
  · exact (State.get_set_other _ _ (by decide)).trans hlc
  · exact (hkeep.congr rfl).set _ (by simp)

theorem startStep_suspended {l : Nat} {s : State} (hq : s.lowestSpare = none) {u : State} (hu : u = startStep l false s) :
    u.disp = s.disp ∧ u.get F.DISP_ROT_STAT_PHASE = rpSUSPENDED
      ∧ KeepsFields [F.DISP_ROT_STAT_PHASE, F.DISP_ROT_STAT_LCORE] s u ∧ KeepsStore s u := by
  unfold startStep at hu
  extract_lets v at hu
  rw [show v.lowestSpare = none from (lowestSpare_set l s (by decide) (by decide)).trans hq] at hu
  rw [hu]
  exact ⟨rfl, get_of_set rfl, ((KeepsFields.refl _ s).set _ (by simp)).set _ (by simp), ⟨rfl, rfl, rfl⟩⟩

/-! ## Hand-overs (R54, R55) -/

/-- The node once the core's holder has changed, before the core it leaves stops (R54). -/
theorem switchHand_eq {r : RotS} {s : State} (hl : r.lcore < 128) (hp : r.p < 136) (hq : r.q < 136) :
    ∃ w : State, w.physOf r.lcore = r.receiver ∧ switchHand r s = (if r.back then endStep (idleCore r.q w) else
      { stopCore r.p rcISOLATED w with disp := { (stopCore r.p rcISOLATED w).disp with rot := some { r with hand := none, dirty := [], startB := (stopCore r.p rcISOLATED w).n } } }) := by
  have hrecv : r.receiver < 256 := by
    unfold RotS.receiver
    split <;> omega
  have hrc : ∀ c v (w : State), CoresKept w (w.set (F.RC_STAT_STATE c) v) := fun c v w => by
    refine coresKept_set w v ?_ ?_ ?_ <;> simp only [Fd.key, F.RC_STAT_STATE, A.RC_STAT, F.DISP_STAT_STATE, A.DISP_STAT] <;> omega
  refine ⟨_, ?_, rfl⟩
  have h2 : (loadTasks r.lcore r.receiver ((copyDirty r s).setPhys r.lcore r.receiver)).physOf r.lcore = r.receiver :=
    ((coresKept_loadTasks ..).1.physOf hl).trans (physOf_setPhys hrecv _)
  exact ((hrc _ _ _).1.physOf hl).trans h2

/-- The hand-over's switch (R54, R55). -/
theorem switchHand_does {r : RotS} {s : State} (hl : r.lcore < 128) (hp : r.p < 136) (hq : r.q < 136) {u : State}
    (hu : u = switchHand r s) :
    u.physOf r.lcore = r.receiver
      ∧ (if r.back then u.disp.rot = none ∧ u.get F.DISP_ROT_STAT_PHASE = rpIDLE ∧ u.get (F.RC_STAT_STATE r.q) = rcGATED
         else u.get (F.RC_STAT_STATE r.p) = rcISOLATED ∧ ∃ x, u.disp.rot = some x ∧ x.hand = none ∧ x.lcore = r.lcore) := by
  obtain ⟨s3, h3, hgo⟩ := switchHand_eq (s := s) hl hp hq
  rw [hgo] at hu
  cases hb : r.back with
  | true =>
    rw [if_pos hb] at hu
    rw [hu]
    have hend : HoldersKept s3 (endStep (idleCore r.q s3)) :=
      (coresKept_stopCore r.q rcGATED s3).1.trans ((HoldersKept.of_fld rfl : HoldersKept _ _).set 0 (by decide) (by decide) (by decide))
    refine ⟨(hend.physOf hl).trans h3, rfl, get_of_set rfl, ?_⟩
    refine (State.get_set_other _ _ ?_).trans (stopCore_state r.q rcGATED s3)
    simp only [Fd.key, F.RC_STAT_STATE, F.DISP_ROT_STAT_PHASE, A.RC_STAT, A.DISP_ROT_STAT]
    omega
  | false =>
    rw [if_neg (by rw [hb]; decide)] at hu
    rw [hu]
    exact ⟨((coresKept_stopCore r.p rcISOLATED s3).1.physOf hl).trans h3, stopCore_state r.p rcISOLATED s3, _, rfl, rfl, rfl⟩

/-! ## Self-tests (R55, R56, R58) -/

/-- The state of a core and the phase of the step are registers of their own. -/
theorem rcState_ne_phase (p : Nat) : Fd.key F.DISP_ROT_STAT_PHASE ≠ Fd.key (F.RC_STAT_STATE p) := by
  simp only [Fd.key, F.RC_STAT_STATE, F.DISP_ROT_STAT_PHASE, A.RC_STAT, A.DISP_ROT_STAT]
  omega

theorem rcState_quiet (p : Nat) : Fd.quiet (F.RC_STAT_STATE p) = true :=
  Fd.quiet_of_block (by simp [F.RC_STAT_STATE]) (.inr (by simp only [F.RC_STAT_STATE, A.RC_STAT]; omega))

theorem bistStartStep_does {r : RotS} {s : State} (hr : s.disp.rot = some r) (hh : r.hand = none) (hb : r.back = false) (ha : r.bistAt = none)
    (hn : r.startB < s.n) {u : State} (hu : u = bistStartStep s) :
    u.disp = { s.disp with rot := some { r with bistAt := some s.dev } } ∧ u.get F.DISP_ROT_STAT_PHASE = rpBIST
      ∧ u.get (F.RC_STAT_STATE r.p) = rcBIST ∧ KeepsStore s u := by
  have hgo : bistStartStep s = (setRot { r with bistAt := some s.dev } rpBIST s).set (F.RC_STAT_STATE r.p) rcBIST := by
    unfold bistStartStep
    rw [hr]
    exact if_pos (by simp [hh, hb, ha, hn])
  rw [hu, hgo]
  exact ⟨rfl, (State.get_set_other _ _ (rcState_ne_phase r.p)).trans (get_of_set rfl), State.get_set_same _ (F.RC_STAT_STATE r.p) rcBIST,
    ⟨rfl, rfl, rfl⟩⟩

/-- The self-test of a spare begins or not: it touches the spare's state and nothing of the step (R58). -/
theorem bistStartSpare_keeps (s : State) :
    (bistStartSpare s).disp.rot = s.disp.rot ∧ (bistStartSpare s).get F.DISP_ROT_STAT_PHASE = s.get F.DISP_ROT_STAT_PHASE
      ∧ (∀ p, s.get (F.RC_STAT_STATE p) = rcBIST → (bistStartSpare s).get (F.RC_STAT_STATE p) = rcBIST) ∧ KeepsStore s (bistStartSpare s) := by
  unfold bistStartSpare
  split
  · next q _ =>
    split
    · refine ⟨rfl, State.get_set_other _ _ (rcState_ne_phase q), fun p hp => ?_, ⟨rfl, rfl, rfl⟩⟩
      by_cases h : p = q
      · rw [h]
        exact State.get_set_same _ (F.RC_STAT_STATE q) rcBIST
      · refine (State.get_set_other _ _ ?_).trans hp
        simp only [Fd.key, F.RC_STAT_STATE, A.RC_STAT]
        omega
    · exact ⟨rfl, rfl, fun _ h => h, ⟨rfl, rfl, rfl⟩⟩
  · exact ⟨rfl, rfl, fun _ h => h, ⟨rfl, rfl, rfl⟩⟩

theorem bistStartSpare_does {p : Nat} {s : State} (hs : s.disp.bistSpare = some (p, none)) (hb : s.breathing = true)
    (hst : s.disp.started = true) (hn : s.disp.bistB ≤ s.n) {u : State} (hu : u = bistStartSpare s) :
    u.disp.bistSpare = some (p, some s.dev) ∧ u.get (F.RC_STAT_STATE p) = rcBIST ∧ KeepsFields [F.RC_STAT_STATE p] s u ∧ KeepsStore s u := by
  have hgo : bistStartSpare s = ({ s with disp := { s.disp with bistSpare := some (p, some s.dev) } } : State).set (F.RC_STAT_STATE p) rcBIST := by
    unfold bistStartSpare
    rw [hs]
    exact if_pos (by simp [hb, hst, hn])
  rw [hu, hgo]
  exact ⟨rfl, State.get_set_same _ (F.RC_STAT_STATE p) rcBIST, ((KeepsFields.refl _ s).congr rfl).set _ (by simp), ⟨rfl, rfl, rfl⟩⟩

theorem stepTestEnd_passes {r : RotS} {s : State} (hr : s.disp.rot = some r) (hq : r.requested = false) (hs : r.swap = false) {u : State}
    (hu : u = stepTestEnd true s) :
    u.get F.DISP_ROT_STAT_PHASE = rpHANDBACK ∧ u.get (F.RC_STAT_STATE r.p) = rcISOLATED
      ∧ u.disp.rot = some { r with back := true, hand := some .bulk, bistAt := none, dirty := [], copied := 0 }
      ∧ KeepsFields [F.DISP_ROT_STAT_PHASE, F.RC_STAT_STATE r.p] s u ∧ KeepsStore s u := by
  have hgo : stepTestEnd true s = (setRot { r with back := true, hand := some .bulk, bistAt := none, dirty := [], copied := 0 } rpHANDBACK s).set
      (F.RC_STAT_STATE r.p) rcISOLATED := by
    unfold stepTestEnd
    rw [hr]
    dsimp only
    rw [if_neg (show ¬(!true) = true by decide), if_neg (by rw [hs]; decide), if_neg (by rw [hq]; decide)]
  rw [hu, hgo]
  exact ⟨(State.get_set_other _ _ (rcState_ne_phase r.p)).trans (get_of_set rfl), State.get_set_same _ (F.RC_STAT_STATE r.p) rcISOLATED, rfl,
    (((KeepsFields.refl _ s).congr rfl).set _ (by simp)).set _ (by simp), ⟨rfl, rfl, rfl⟩⟩

/-- The self-test of the step in progress ends first (R55–R58). -/
theorem bistEnd_step {r : RotS} {a : Nat} {s : State} (ok : Bool) (hr : s.disp.rot = some r) (hh : r.hand = none) (ha : r.bistAt = some a)
    (hdue : testRan s a ≥ ((2 * uMs : Nat) : Int)) (hfirst : ∀ b, s.spareTestAt = some b → testRan s b ≤ testRan s a) :
    bistEnd ok s = stepTestEnd ok s := by
  have hstep : s.stepTestAt = some a := by
    unfold State.stepTestAt
    rw [hr]
    show (if r.hand.isSome then none else r.bistAt) = _
    rw [hh, ha]
    rfl
  unfold bistEnd
  extract_lets ran due
  have hd : due a = true := decide_eq_true hdue
  have hran : ∀ b, ran b = testRan s b := fun _ => rfl
  clear_value ran due
  rw [hstep]
  cases hb : s.spareTestAt with
  | none => exact if_pos hd
  | some b =>
    have := hfirst b hb
    exact (if_neg (by rw [hran, hran]; omega)).trans (if_pos hd)

/-- The self-test of a spare ends where no step is in progress (R56, R58). -/
theorem bistEnd_spare {p a : Nat} {s : State} (ok : Bool) (hr : s.disp.rot = none) (hs : s.disp.bistSpare = some (p, some a))
    (hdue : testRan s a ≥ ((2 * uMs : Nat) : Int)) :
    bistEnd ok s = if ok then idleCore p (bistResult ok { s with disp := { s.disp with bistSpare := none } })
      else bistFail p (bistResult ok { s with disp := { s.disp with bistSpare := none } }) := by
  have hstep : s.stepTestAt = none := by
    unfold State.stepTestAt
    rw [hr]
    rfl
  have hspare : s.spareTestAt = some a := by
    unfold State.spareTestAt
    rw [hs]
    rfl
  have hend : spareTestEnd ok s = if ok then idleCore p (bistResult ok { s with disp := { s.disp with bistSpare := none } })
      else bistFail p (bistResult ok { s with disp := { s.disp with bistSpare := none } }) := by
    unfold spareTestEnd
    rw [hs]
  rw [← hend]
  unfold bistEnd
  extract_lets ran due
  have hd : due a = true := decide_eq_true hdue
  clear_value ran due
  rw [hstep, hspare]
  exact if_pos hd

theorem spareTest_passes (p : Nat) (s : State) {u : State} (hu : u = idleCore p (bistResult true { s with disp := { s.disp with bistSpare := none } })) :
    u.disp.bistSpare = none ∧ u.get F.DISP_BIST_STAT_BUSY = 0 ∧ u.get F.DISP_BIST_STAT_RESULT = 1 ∧ u.get (F.RC_STAT_STATE p) = rcGATED := by
  obtain ⟨w, hw, h1, h2, h3⟩ : ∃ w, w = bistResult true { s with disp := { s.disp with bistSpare := none } } ∧ w.disp.bistSpare = none
      ∧ w.get F.DISP_BIST_STAT_BUSY = 0 ∧ w.get F.DISP_BIST_STAT_RESULT = 1 :=
    ⟨_, rfl, rfl, (State.get_set_other _ _ (by decide)).trans (get_of_set rfl), get_of_set rfl⟩
  rw [hu, ← hw, idleCore]
  exact ⟨(coresKept_stopCore p rcGATED w).2.bistSpare.trans h1, (stopCore_get p _ w (by decide) (by decide) (by decide)).trans h2,
    (stopCore_get p _ w (by decide) (by decide) (by decide)).trans h3, stopCore_state p rcGATED w⟩

/-- A request that nothing rejects for an idle spare (R58). -/
theorem wrBistReq_accepts {v : Nat} {s : State} (hkey : v / 65536 = 0xA55A) (hgo : bitOf v 0 = true) (hf : s.coreFenced (bits 15 8 v) = false)
    (hlt : bits 15 8 v < 136) (hg : s.disp.pgated.contains (bits 15 8 v) = false) (hbusy : s.get F.DISP_BIST_STAT_BUSY = 0)
    (hidle : s.idleSpare (bits 15 8 v) = true) {u : State} (hu : u = wrBistReq v s) :
    u.disp.bistSpare = some (bits 15 8 v, none) ∧ u.disp.bistB = s.nextBreath ∧ u.get F.DISP_BIST_STAT_BUSY = 1
      ∧ u.get F.DISP_BIST_STAT_RESULT = 0 ∧ u.get F.DISP_BIST_STAT_PCORE = bits 15 8 v ∧ KeepsStore s u := by
  generalize hp : bits 15 8 v = p at hf hlt hg hidle ⊢
  have hfenced : (s.set F.DISP_BIST_STAT_PCORE p).coreFenced p = s.coreFenced p := by
    unfold State.coreFenced
    rw [State.get_set_other _ _ (Fd.key_ne (f := F.DISP_FENCED_FENCED (p / 32)) (by simp [F.DISP_FENCED_FENCED]) (by decide)
      (.inl (by simp only [F.DISP_FENCED_FENCED, A.DISP_FENCED, F.DISP_BIST_STAT_PCORE, A.DISP_BIST_STAT]; omega))),
      State.get_set_other _ _ (by decide : Fd.key F.DISP_FENCED4_FENCED ≠ Fd.key F.DISP_BIST_STAT_PCORE)]
  obtain ⟨w, hw, hdisp, hwf, hwi, hwb, hwp, hstore⟩ : ∃ w, w = s.set F.DISP_BIST_STAT_PCORE p ∧ w.disp = s.disp ∧ w.coreFenced p = false
      ∧ w.idleSpare p = true ∧ w.get F.DISP_BIST_STAT_BUSY = 0 ∧ w.get F.DISP_BIST_STAT_PCORE = p ∧ KeepsStore s w :=
    ⟨_, rfl, rfl, hfenced.trans hf, (idleSpare_set p p s (by decide) (by decide)).trans hidle,
      (State.get_set_other _ _ (by decide)).trans hbusy,
      (State.get_set_same s F.DISP_BIST_STAT_PCORE p).trans (Nat.mod_eq_of_lt (show p < 256 by omega)), ⟨rfl, rfl, rfl⟩⟩
  have hgoes : wrBistReq v s = (({ w with disp := { w.disp with bistSpare := some (p, none), bistB := w.nextBreath } } : State).set
      F.DISP_BIST_STAT_BUSY 1).set F.DISP_BIST_STAT_RESULT 0 := by
    unfold wrBistReq
    rw [if_neg (by simp [hkey, keyA55A, hgo])]
    extract_lets p' s1 rej accept
    have hp' : p' = p := hp
    have hs1 : s1 = w := by rw [hw, ← hp']
    clear_value p'
    subst hp'
    unfold rej accept
    clear_value s1
    subst hs1
    rw [if_neg (by omega), if_neg (by rw [hwf]; decide), if_neg (by rw [hdisp, hg]; decide), if_neg (by rw [State.on, hwb]; decide), if_pos hwi]
  have hnext : w.nextBreath = s.nextBreath := by
    unfold State.nextBreath
    rw [hdisp]
  rw [hu, hgoes]
  refine ⟨rfl, hnext, (State.get_set_other _ _ (by decide)).trans (get_of_set rfl), get_of_set rfl, ?_, hstore⟩
  exact (State.get_set_other _ _ (by decide)).trans ((State.get_set_other _ _ (by decide)).trans hwp)

/-! ## Fenced cores (R59–R61) -/

/-- The levels of the listed taps become the start levels of their ramps; nothing else changes (R47, R59). -/
theorem latchLevels_does (l : List Nat) (s : State) :
    (∃ m, latchLevels l s = { s with mtx := { s.mtx with tapRamp := m } }) ∧ ∀ x ∈ l, (latchLevels l s).rampA x = (s.tap x).cur := by
  suffices h : ∀ s : State, (∃ m, latchLevels l s = { s with mtx := { s.mtx with tapRamp := m } })
      ∧ ∀ x, (latchLevels l s).rampA x = if x ∈ l then (s.tap x).cur else s.rampA x by
    exact ⟨(h s).1, fun x hx => ((h s).2 x).trans (if_pos hx)⟩
  induction l with
  | nil => exact fun s => ⟨⟨_, rfl⟩, fun x => by rw [if_neg List.not_mem_nil]; rfl⟩
  | cons t l ih =>
    intro s
    obtain ⟨⟨m, hm⟩, hx⟩ := ih (s.setRampA t (s.tap t).cur)
    refine ⟨⟨m, hm⟩, fun x => (hx x).trans ?_⟩
    have htap : ((s.setRampA t (s.tap t).cur).tap x).cur = (s.tap x).cur := rfl
    rw [htap]
    by_cases hl : x ∈ l
    · rw [if_pos hl, if_pos (List.mem_cons_of_mem _ hl)]
    · rw [if_neg hl]
      by_cases ht : x = t
      · rw [if_pos (by rw [ht]; exact .head _), ht]
        unfold State.rampA State.setRampA
        dsimp only
        rw [mget_mset_same]
      · rw [if_neg (by simp [ht, hl])]
        unfold State.rampA State.setRampA
        dsimp only
        rw [mget_mset_other _ _ ht]

theorem fenceTl_setFenceTl (l : Nat) (x : Option FenceTl) (s : State) : (s.setFenceTl l x).fenceTl l = x := mget_mset_same ..

/-- The spare of a logical core that no section owns takes its place at once (R59). -/
theorem spareLoadDone_unowned {l q : Nat} {f : FenceTl} {s : State} (hq : q < 136) (hf : s.fenceTl l = some f) (hs : f.spare = some q)
    (ho : s.coreOwner l = none) {u : State} (hu : u = spareLoadDone l s) : u.fenceTl l = none ∧ u.physOf l = q ∧ KeepsStore s u := by
  have hgo : spareLoadDone l s = (s.setPhys l q).setFenceTl l none := by
    unfold spareLoadDone
    rw [hf]
    dsimp only
    rw [hs, ho]
  rw [hu, hgo]
  refine ⟨fenceTl_setFenceTl .., physOf_setPhys (by omega) s, ?_⟩
  rw [setPhys_eq]
  exact ⟨rfl, rfl, rfl⟩

theorem holdersKept_setFenceTl (l : Nat) (x : Option FenceTl) (s : State) : HoldersKept s (s.setFenceTl l x) := .of_fld rfl

/-- The spare that has been loaded waits for the next breath, if one runs (R59). -/
theorem spareLoadDone_eq {l q i : Nat} {f : FenceTl} {s : State} (hl : l < 128) (hf : s.fenceTl l = some f) (hs : f.spare = some q)
    (hi : s.coreOwner l = some i) (hr : f.restart = none) :
    ∃ w : State, spareLoadDone l s = (if w.breathing then w else (w.setPhys l q).setFenceTl l none) ∧ w.physOf l = s.physOf l
      ∧ w.breathing = s.breathing ∧ w.fenceTl l = some { f with restart := some (s.n + 1) } := by
  obtain ⟨x, hx⟩ : ∃ x, x = loadCore (s.liveImage i) l q false s := ⟨_, rfl⟩
  have h1 : CoresKept s x := by rw [hx]; exact coresKept_loadCore ..
  obtain ⟨y, hy⟩ : ∃ y, y = (loadTasks l q x).setFenceTl l (some { f with restart := some (x.n + 1) }) := ⟨_, rfl⟩
  have h2 : HoldersKept s y := by
    rw [hy]
    exact (h1.trans (coresKept_loadTasks l q x)).1.trans (holdersKept_setFenceTl _ _ _)
  have hyf : y.fenceTl l = some { f with restart := some (s.n + 1) } := by
    rw [hy, fenceTl_setFenceTl, h1.2.n]
  have h4 := coresKept_landWords (fun h => h.lcore == l) y
  refine ⟨landWords (fun h => h.lcore == l) y, ?_, (h2.trans h4.1).physOf hl, (h2.trans h4.1).breathing, (h4.2.fenceTl l).trans hyf⟩
  unfold spareLoadDone
  rw [hf]
  dsimp only
  rw [hs, hi]
  dsimp only
  rw [hs] at hy
  rw [if_neg (by rw [hr]; decide), ← hx, ← hy]

/-- The spare is loaded: it takes the place of the core at the next breath, or at once where no breath runs (R59). -/
theorem spareLoadDone_owned {l q : Nat} {f : FenceTl} {s : State} (hl : l < 128) (hq : q < 136) (hf : s.fenceTl l = some f)
    (hs : f.spare = some q) (ho : s.coreOwner l ≠ none) (hr : f.restart = none) {u : State} (hu : u = spareLoadDone l s) :
    u.physOf l = (if s.breathing then s.physOf l else q)
      ∧ u.fenceTl l = (if s.breathing then some { f with restart := some (s.n + 1) } else none) := by
  obtain ⟨i, hi⟩ := Option.ne_none_iff_exists'.mp ho
  obtain ⟨w, hgo, hphys, hbr, hfence⟩ := spareLoadDone_eq hl hf hs hi hr
  rw [hu, hgo, hbr]
  cases s.breathing with
  | true => exact ⟨hphys, hfence⟩
  | false => exact ⟨physOf_setPhys (by omega) w, fenceTl_setFenceTl ..⟩

end Sys2Proof.Machine

open Sys2Proof Sys2Proof.Machine

/-- Settles O32: each clause's command is due, so its lemma says what it does. -/
theorem rotationRowsComplete : Obligations.RotationRowsComplete := by
  unfold Obligations.RotationRowsComplete
  refine ⟨?_, ?_, ?_, ?_, ?_, ?_, ?_, ?_, ?_, ?_, ?_, ?_, ?_⟩
  · intro t l q s ha hb hr hf hap hq he hd hc hs
    have hgo := rotationStart_goes (s := s.atTime t) ⟨hb, hr, hf, hap, hq, he, hd, hc⟩
    obtain ⟨h1, h2, h3, h4, h5, h6⟩ := startStep_spare (s := s.atTime t) (rotCandidate_lt hc) hs hgo
    refine ⟨_, done_alive _ ha, ?_, ?_, (sumTick_get _ _ (by decide)).trans h3, (sumTick_get _ _ (by decide)).trans h4,
      KeepsFields.sumTick (s := s) _ h5, KeepsStore.sumTick (s := s) _ h6⟩
    · rw [sumTick_disp]
      exact h1
    · rw [sumTick_disp]
      exact h2
  · intro t l s ha hb hr hf hap hq he hd hc hs
    have hgo := rotationStart_goes (s := s.atTime t) ⟨hb, hr, hf, hap, hq, he, hd, hc⟩
    obtain ⟨h1, h2, h3, h4⟩ := startStep_suspended (s := s.atTime t) hs hgo
    exact ⟨_, done_alive _ ha, (sumTick_disp ..).trans h1, (sumTick_get _ _ (by decide)).trans h2, KeepsFields.sumTick (s := s) _ h3,
      KeepsStore.sumTick (s := s) _ h4⟩
  · intro t r s ha hr hh hquiet hup
    have hmem : (copyHand r (s.atTime t)).mem = (copyHand r s).mem := by rw [copyHand, copyHand, copyWindow_only, copyWindow_only]; rfl
    have hfld : (copyHand r (s.atTime t)).fld = s.fld := by rw [copyHand, copyWindow_only]; rfl
    have hgo : exec (.handoverBulkDone t) s = done s { copyHand r (s.atTime t) with
        disp := { (s.atTime t).disp with rot := some { r with hand := some .catchup, dirty := [] } } } := by
      show execHandoverBulkDone t s = _
      unfold execHandoverBulkDone
      dsimp only
      rw [show (s.atTime t).disp.rot = some r from hr]
      exact if_pos (by rw [hup, show (s.atTime t).handQuiet r = true from hquiet, hh]; rfl)
    exact ⟨_, hgo.trans (done_alive _ ha), by rw [sumTick_disp], (sumTick_mem ..).trans hmem,
      KeepsFields.sumTick (s := s) _ (.of_fld _ hfld)⟩
  · intro t r s ha hr hh hquiet
    have hmem : (copyDirty r (s.atTime t)).mem = (copyDirty r s).mem := by rw [copyDirty, copyDirty, copyWindow_only, copyWindow_only]; rfl
    have hfld : (copyDirty r (s.atTime t)).fld = s.fld := by rw [copyDirty, copyWindow_only]; rfl
    have hgo : exec (.handoverCatchupDone t) s = done s { copyDirty r (s.atTime t) with
        disp := { (s.atTime t).disp with rot := some { r with hand := some .switchWait, dirty := [] } } } := by
      show execHandoverCatchupDone t s = _
      unfold execHandoverCatchupDone
      dsimp only
      rw [show (s.atTime t).disp.rot = some r from hr]
      exact if_pos (by rw [show (s.atTime t).handQuiet r = true from hquiet, hh]; rfl)
    exact ⟨_, hgo.trans (done_alive _ ha), by rw [sumTick_disp], (sumTick_mem ..).trans hmem,
      KeepsFields.sumTick (s := s) _ (.of_fld _ hfld)⟩
  · intro t r s ha hr hh hl hp hq _ hinst hb hsince
    have hgo : exec (.handoverSwitch t) s = done s (switchHand r (s.atTime t)) := by
      show execHandoverSwitch t s = _
      unfold execHandoverSwitch
      dsimp only
      rw [show (s.atTime t).disp.rot = some r from hr]
      refine if_pos ?_
      rw [hh, show (s.atTime t).breathing = true from hb, show ((s.atTime t).coreS r.holder).inst = none from hinst, Bool.and_eq_true]
      exact ⟨rfl, decide_eq_true hsince⟩
    obtain ⟨h1, h2⟩ := switchHand_does (s := s.atTime t) hl hp hq rfl
    refine ⟨_, hgo.trans (done_alive _ ha), ?_, ?_⟩
    · rw [physOf_eq, sumTick_get _ _ (Fd.quiet_of_block (physFd_reg _).1 (.inl (by have := (physFd_reg r.lcore).2.1; omega))), ← physOf_eq]
      exact h1
    · rw [sumTick_disp, sumTick_get _ _ (by decide), sumTick_get _ _ (rcState_quiet _), sumTick_get _ _ (rcState_quiet _)]
      exact h2
  · intro t r s ha hr hh hb hat hn _
    obtain ⟨w, hw⟩ : ∃ w, w = bistStartStep (s.atTime t) := ⟨_, rfl⟩
    obtain ⟨h1, h2, h3, h4⟩ := bistStartStep_does (s := s.atTime t) hr hh hb hat hn hw
    obtain ⟨k1, k2, k3, k4⟩ := bistStartSpare_keeps w
    have hgo : exec (.bistStart t) s = done s (bistStartSpare w) := by rw [hw]; rfl
    refine ⟨_, hgo.trans (done_alive _ ha), ?_, (sumTick_get _ _ (by decide)).trans (k2.trans h2),
      (sumTick_get _ _ (rcState_quiet _)).trans (k3 _ h3), KeepsStore.sumTick (s := s) _ (KeepsStore.trans h4 k4)⟩
    rw [sumTick_disp, k1, h1]
  · intro t p s ha hr hs _ hb hst hn
    have hgo : exec (.bistStart t) s = done s (bistStartSpare (s.atTime t)) := by
      show done s (bistStartSpare (bistStartStep (s.atTime t))) = _
      have : bistStartStep (s.atTime t) = s.atTime t := by
        unfold bistStartStep
        rw [show (s.atTime t).disp.rot = none from hr]
      rw [this]
    obtain ⟨h1, h2, h3, h4⟩ := bistStartSpare_does (s := s.atTime t) hs hb hst hn rfl
    exact ⟨_, hgo.trans (done_alive _ ha), (congrArg DispS.bistSpare (sumTick_disp ..)).trans h1, (sumTick_get _ _ (rcState_quiet _)).trans h2,
      KeepsFields.sumTick (s := s) _ h3, KeepsStore.sumTick (s := s) _ h4⟩
  · intro t a r s ha hr hh hat hq hsw _ hdue hfirst
    have hgo := bistEnd_step (s := s.atTime t) true hr hh hat hdue hfirst
    obtain ⟨h1, h2, h3, h4, h5⟩ := stepTestEnd_passes (s := s.atTime t) hr hq hsw hgo
    exact ⟨_, done_alive _ ha, (sumTick_get _ _ (by decide)).trans h1, (sumTick_get _ _ (rcState_quiet _)).trans h2,
      (congrArg DispS.rot (sumTick_disp ..)).trans h3, KeepsFields.sumTick (s := s) _ h4, KeepsStore.sumTick (s := s) _ h5⟩
  · intro t a p s ha hr hs _ hdue
    refine ⟨?_, ?_⟩
    · have hgo := bistEnd_spare (s := s.atTime t) true hr hs hdue
      obtain ⟨h1, h2, h3, h4⟩ := spareTest_passes p (s.atTime t) hgo
      exact ⟨_, done_alive _ ha, (congrArg DispS.bistSpare (sumTick_disp ..)).trans h1, (sumTick_get _ _ (by decide)).trans h2,
        (sumTick_get _ _ (by decide)).trans h3, (sumTick_get _ _ (rcState_quiet _)).trans h4⟩
    · have hgo := bistEnd_spare (s := s.atTime t) false hr hs hdue
      refine ⟨_, done_alive _ ha, ?_⟩
      rw [hgo]
      exact leaves_sumTick ..
  · intro m v s h hkey hgo hf hlt hg hbusy hidle
    refine ⟨_, (done_alive _ h.alive :), ?_⟩
    rw [guarded_admitted _ h]
    obtain ⟨h1, h2, h3, h4, h5, h6⟩ := wrBistReq_accepts hkey hgo hf hlt hg hbusy hidle rfl
    refine ⟨answers_sumTick .., ?_, ?_, (respond_get _ _ _ _ _ _ (by decide)).trans h3, (respond_get _ _ _ _ _ _ (by decide)).trans h4,
      (respond_get _ _ _ _ _ _ (by decide)).trans h5, keepsStore_sumTick _ _ _ _ h6⟩
    · rw [sumTick_disp]
      exact h1
    · rw [sumTick_disp]
      exact h2
  · intro l t q f s ha hf hs hlost hn hq
    have hgo : spareSelect l (s.atTime t) = { (s.atTime t).setFenceTl l (some { f with spare := some q }) with
        dly := { s.dly with loaded := 0 } } := by
      unfold spareSelect
      rw [show (s.atTime t).fenceTl l = some f from hf, show (s.atTime t).lowestSpare = some q from hq]
      refine if_neg ?_
      rw [hs, show (s.atTime t).coreLost l = false from hlost]
      simp only [Option.isSome_none, Bool.false_or, Bool.and_eq_true, decide_eq_true_eq, not_and, Nat.not_lt]
      exact hn
    refine ⟨_, done_alive _ ha, ?_, ?_⟩
    · rw [hgo, State.fenceTl, sumTick_disp]
      exact fenceTl_setFenceTl l _ (s.atTime t)
    · rw [hgo]
      exact ⟨KeepsFields.sumTick (s := s) _ (.of_fld _ rfl), KeepsStore.sumTick (s := s) _ ⟨rfl, rfl, rfl⟩⟩
  · intro l t f s ha hb hf hramp hrest hn
    have hgo : exec (.fenceRampOut l t) s
        = done s (latchLevels (s.coreTaps l) ((s.atTime t).setFenceTl l (some { f with ramp := some s.n }))) := by
      show execFenceRampOut l t s = _
      unfold execFenceRampOut
      dsimp only
      rw [show (s.atTime t).fenceTl l = some f from hf]
      refine if_pos ?_
      rw [hramp, hrest, show (s.atTime t).breathing = true from hb, show (s.atTime t).n = s.n from rfl]
      simpa using hn
    obtain ⟨⟨m, hm⟩, hlev⟩ := latchLevels_does (s.coreTaps l) ((s.atTime t).setFenceTl l (some { f with ramp := some s.n }))
    refine ⟨_, hgo.trans (done_alive _ ha), ?_, fun x hx => ?_, ?_⟩
    · rw [State.fenceTl, sumTick_disp, hm]
      exact fenceTl_setFenceTl l _ (s.atTime t)
    · rw [State.rampA, sumTick_mtx]
      exact hlev x hx
    · rw [hm]
      exact ⟨KeepsFields.sumTick (s := s) _ (.of_fld _ rfl), KeepsStore.sumTick (s := s) _ ⟨rfl, rfl, rfl⟩⟩
  · intro l t q f s ha hl hq hf hs
    have hphys : ∀ w : State, (sumTick s w).physOf l = w.physOf l := fun w => by
      rw [physOf_eq, physOf_eq]
      exact sumTick_get _ _ (Fd.quiet_of_block (physFd_reg _).1 (.inl (by have := (physFd_reg l).2.1; omega)))
    have hfence : ∀ w : State, (sumTick s w).fenceTl l = w.fenceTl l := fun w => by rw [State.fenceTl, sumTick_disp]; rfl
    refine ⟨fun ho => ?_, fun ho hr => ?_⟩
    · obtain ⟨h1, h2, h3⟩ := spareLoadDone_unowned (s := s.atTime t) hq hf hs ho rfl
      exact ⟨_, done_alive _ ha, (hfence _).trans h1, (hphys _).trans h2, KeepsStore.sumTick (s := s) _ h3⟩
    · obtain ⟨h1, h2⟩ := spareLoadDone_owned (s := s.atTime t) hl hq hf hs ho hr rfl
      exact ⟨_, done_alive _ ha, (hphys _).trans h1, (hfence _).trans h2⟩
end

section
/-!
WHAT OUTLASTS A MISS. The registers of misses, of a core's flags and of the classes, the marks of instances and the cores, through
firing, gating, commits and events that fence nothing (R40–R48, R314–R320).
-/
namespace Sys2Proof.Machine

/-! ## Events that fence nothing -/

/-- An event of source `src` fences nothing: its group has no fence action, or its class is NOTE (R317). -/
def Noted (src : Nat) (s : State) : Prop :=
  ∃ g, srcGroup src = some g ∧ g ≠ 23 ∧ src < 120 ∧ (fenceNeeds g = none ∨ s.classOf src = 0)

/-- What every part of such an event does, the event does. -/
theorem raiseF_parts {R : State → State → Prop} {src : Nat} (hrefl : ∀ s, R s s) (htrans : ∀ s w x, R s w → R w x → R s x)
    (hfcu : ∀ s x, R s { s with fcu := x }) (hcount : ∀ s, R s (countEvent src s)) (hseq : ∀ s, R s (s.incSat F.FCU_CONSEQ_COUNT))
    (hrec : ∀ r s, R s (addRecord r s)) (hquiet : ∀ i s, R s (takeQuiet src i s)) (hhalt : ∀ i s, R s (takeHalt src i s))
    (idx : Nat) {s : State} (h : Noted src s) : R s (raiseF src idx s) := by
  obtain ⟨g, hg, h23, hsrc, hn⟩ := h
  have hwire0 : (src == 121) = false := beq_eq_false_iff_ne.2 (by omega)
  unfold raiseF raiseDeep collect
  rw [hg]
  dsimp -zeta only
  extract_lets wire s1 s2 c0 conseq c1 last s3 c2 s4 s5
  have h2 : R s s2 := hcount s
  have hc0 : s.classOf src = 0 → c0 = 0 := fun hz => by
    have : c0 = s2.classOf src := if_neg (by rw [show wire = false from hwire0]; decide)
    rw [this]
    exact (countEvent_classOf (by omega) s).trans hz
  clear_value s2
  have h3 : R s s3 := by
    unfold s3
    split
    · exact htrans _ _ _ h2 (hseq s2)
    · exact h2
  have hc : c2 ≠ 1 := by
    have hc1 : s.classOf src = 0 → c1 = 0 := fun hz => by
      unfold c1
      split
      · rfl
      · exact hc0 hz
    unfold c2
    split
    · next h1 =>
      rcases hn with hn | hz
      · rw [fenceClass_none _ _ hn]
        decide
      · rw [hc1 hz] at h1
        exact absurd h1 (by decide)
    · next h1 => simpa using h1
  clear_value s3 c2
  have h4 : R s s4 := htrans _ _ _ h3 (hrec _ s3)
  clear_value s4
  have h5 : s5 = s4 := by
    unfold s5 hostReaction
    rw [show (g == 23) = false from beq_eq_false_iff_ne.2 h23]
    exact if_neg Bool.false_ne_true
  rw [h5]
  have hite : ∀ (p : Prop) [Decidable p] (x y : State), R s x → R s y → R s (if p then x else y) := fun p _ x y hx hy => by
    split
    · exact hx
    · exact hy
  refine hite _ _ _ (hrefl s) (hite _ _ _ (hfcu s _) (hite _ _ _ h2 ?_))
  split
  · exact absurd rfl hc
  · exact hite _ _ _ h4 (htrans _ _ _ h4 (hquiet _ s4))
  · exact hite _ _ _ h4 (htrans _ _ _ h4 (hhalt _ s4))
  · exact h4

theorem eventOnly_noted {src : Nat} (idx : Nat) {s : State} (h : Noted src s) : EventOnly s (raiseF src idx s) :=
  raiseF_parts (R := EventOnly) .refl (fun _ _ _ h k => h.trans k) (fun s x => (EventOnly.refl s).fcu x)
    (fun s => (((FieldsOnly.refl s).setBit _ _ _).set _ _).event) (fun s => ((FieldsOnly.refl s).set _ _).event) eventOnly_addRecord
    (eventOnly_takeQuiet src) (eventOnly_takeHalt src) idx h

theorem keepsUnit_noted {b src : Nat} (hb : ApartFromEvents b) (hsrc : src < 128) (idx : Nat) {s : State} (h : Noted src s) :
    KeepsUnit b s (raiseF src idx s) := by
  have hfc : ∀ (f : Fd), f.addr % 2 ^ 32 / 65536 = 0x2002 → blockOf f ≠ b := fun f h e => hb.1 (e.symm.trans h)
  refine raiseF_parts (R := KeepsUnit b) (.refl b) (fun _ _ _ h k => h.trans k) (fun s _ => (KeepsUnit.refl b s).congr rfl) (fun s => ?_)
    (fun s => ?_) (keepsUnit_addRecord hb) (keepsUnit_takeQuiet hb src) (keepsUnit_takeHalt hb src) idx h
  · refine KeepsUnit.set (f := F.FCU_SRCCNT_COUNT src) (KeepsUnit.set (f := F.FCU_PEND_PEND (src / 32)) (.refl b s) _ ?_ (hfc _ ?_)) _
      ?_ (hfc _ ?_)
    · simp [F.FCU_PEND_PEND]
    · simp only [F.FCU_PEND_PEND, A.FCU_PEND]; omega
    · simp [F.FCU_SRCCNT_COUNT]
    · simp only [F.FCU_SRCCNT_COUNT, A.FCU_SRCCNT]; omega
  · exact KeepsUnit.set (f := F.FCU_CONSEQ_COUNT) (.refl b s) _ (by decide) (hfc _ (by decide))

/-- A register of the classes (R314). -/
def ClassFd (f : Fd) : Prop := f.lsb < 32 ∧ 0x20020020 ≤ f.addr ∧ f.addr < 0x20020040

/-- The classes are as before. -/
def ClassesKept (s w : State) : Prop := ∀ f, ClassFd f → w.get f = s.get f

theorem classesKept_set {f : Fd} (s : State) (v : Nat) (hl : f.lsb < 32) (ha : f.addr < 0x20020020 ∨ 0x20020040 ≤ f.addr) :
    ClassesKept s (s.set f v) := fun g hg => State.get_set_other _ _ (Fd.key_ne hg.1 hl (.inl (by have := hg.2; omega)))

theorem classesKept_react (c v src idx : Nat) (s : State) : ClassesKept s (noteReaction c src idx (s.set F.FCU_STAT_STATE v)) := fun f hf => by
  obtain ⟨hl, h1, h2⟩ := hf
  rw [noteReaction_get _ _ _ _ hl (by rw [blockOf]; omega),
    State.get_set_other _ _ (Fd.key_ne hl (by decide) (.inl (by simp only [F.FCU_LAST_INDEX, A.FCU_LAST]; omega))),
    State.get_set_other _ _ (Fd.key_ne hl (by decide) (.inl (by simp only [F.FCU_LAST_SOURCE, A.FCU_LAST]; omega))),
    State.get_set_other _ _ (Fd.key_ne hl (by decide) (.inl (by simp only [F.FCU_LAST_CLASS, A.FCU_LAST]; omega))),
    State.get_set_other _ _ (Fd.key_ne hl (by decide) (.inl (by simp only [F.FCU_LAST_VALID, A.FCU_LAST]; omega))),
    State.get_set_other _ _ (Fd.key_ne hl (by decide) (.inl (by simp only [F.FCU_STAT_STATE, A.FCU_STAT]; omega)))]

theorem classesKept_takeQuiet (src i : Nat) (s : State) : ClassesKept s (takeQuiet src i s) := fun f hf => by
  have h := classesKept_react 2 1 src i s f hf
  unfold takeQuiet
  generalize noteReaction 2 src i (s.set F.FCU_STAT_STATE 1) = w at h ⊢
  obtain ⟨x, n, hq⟩ := queueFlatline_only 2 src { w with fcu := { w.fcu with quietAt := some w.now, autoDue := true } }
  rw [hq]
  exact h

theorem classesKept_takeHalt (src i : Nat) (s : State) : ClassesKept s (takeHalt src i s) := fun f hf => by
  have h := classesKept_react 3 2 src i s f hf
  unfold takeHalt
  generalize noteReaction 3 src i (s.set F.FCU_STAT_STATE 2) = w at h ⊢
  obtain ⟨x, n, hq⟩ := queueFlatline_only 3 src { w with fcu := { w.fcu with haltAt := some w.now, haltSrc := src, autoDue := false } }
  rw [hq]
  exact h

theorem classesKept_noted {src : Nat} (idx : Nat) {s : State} (h : Noted src s) : ClassesKept s (raiseF src idx s) := by
  have hsrc : src < 120 := by
    obtain ⟨_, _, _, h, _⟩ := h
    exact h
  refine raiseF_parts (R := ClassesKept) (fun _ _ _ => rfl) (fun _ _ _ h k f hf => (k f hf).trans (h f hf)) (fun _ _ _ _ => rfl) (fun s f hf => ?_)
    (fun s => classesKept_set s _ (by decide) (by decide)) (fun r s f hf => ?_) (fun i s f hf => ?_) (fun i s f hf => ?_) idx h
  · obtain ⟨hl, h1, h2⟩ := hf
    refine countEvent_get s (Fd.key_ne hl (by simp [F.FCU_PEND_PEND]) (.inl ?_)) (Fd.key_ne hl (by simp [F.FCU_SRCCNT_COUNT]) (.inl ?_))
    · simp only [F.FCU_PEND_PEND, A.FCU_PEND]; omega
    · simp only [F.FCU_SRCCNT_COUNT, A.FCU_SRCCNT]; omega
  · obtain ⟨hl, h1, h2⟩ := hf
    exact addRecord_get r s (by rw [A.FCU_REC_STAT]; omega) hl (fcu_ne_ligFields hl (by omega))
  · exact classesKept_takeQuiet src i s f hf
  · exact classesKept_takeHalt src i s f hf

end Sys2Proof.Machine
end

section
/-!
INSTANCES, each the run of a task in one breath. What firing, gating, misses, completions and aborts leave of the registers of misses,
of a core's flags, of the marks of instances and of the cores (R40–R48, R90, R91).
-/
namespace Sys2Proof.Machine

/-! ## What later steps leave standing -/

/-- Registers of the misses (R46). -/
def missFields : List Fd := [F.DISP_MISS_COUNT_COUNT, F.DISP_MISS_LAST_VALID, F.DISP_MISS_LAST_KIND, F.DISP_MISS_BREATH_BREATH]

/-- Registers that stand: RUNAWAY and RUNNING of core `p`, the classes and, with `m`, those of the misses. -/
def Standing (m : Bool) (p : Nat) (f : Fd) : Prop :=
  (m = true ∧ f ∈ missFields) ∨ f = F.RC_FLAGS_RUNAWAY p ∨ f = F.RC_TASK_RUNNING p ∨ ClassFd f

/-- A register whose write touches none that stand. -/
def Fleeting (f : Fd) : Prop :=
  f.lsb < 32 ∧ f.addr % 0x40000 ≠ 0x30004 ∧ f.addr % 0x40000 ≠ 0x3001C ∧ (f.addr < 0x20020020 ∨ 0x20020040 ≤ f.addr)

theorem Standing.ne {m : Bool} {p : Nat} {f g : Fd} (hf : Standing m p f) (hg : Fleeting g)
    (hm : m = true → g.addr ≠ A.DISP_MISS_COUNT ∧ g.addr ≠ A.DISP_MISS_LAST ∧ g.addr ≠ A.DISP_MISS_BREATH) : Fd.key f ≠ Fd.key g := by
  obtain ⟨hl, h1, h2, h3⟩ := hg
  rcases hf with ⟨hm', hf⟩ | rfl | rfl | hf
  · have hlist : ∀ f ∈ missFields, f.lsb < 32 ∧ (f.addr = A.DISP_MISS_COUNT ∨ f.addr = A.DISP_MISS_LAST ∨ f.addr = A.DISP_MISS_BREATH) := by
      decide
    obtain ⟨hfl, ha⟩ := hlist f hf
    obtain ⟨k1, k2, k3⟩ := hm hm'
    refine Fd.key_ne hfl hl (.inl fun e => ?_)
    rcases ha with h | h | h
    · exact k1 (e.symm.trans h)
    · exact k2 (e.symm.trans h)
    · exact k3 (e.symm.trans h)
  · exact Fd.key_ne (by simp [F.RC_FLAGS_RUNAWAY]) hl (.inl (by simp only [F.RC_FLAGS_RUNAWAY, A.RC_FLAGS]; omega))
  · exact Fd.key_ne (by simp [F.RC_TASK_RUNNING]) hl (.inl (by simp only [F.RC_TASK_RUNNING, A.RC_TASK]; omega))
  · exact Fd.key_ne hf.1 hl (.inl (by have := hf.2; omega))

/-- A run goes on: it keeps its marks. -/
def GoesOn (i j : Inst) : Prop :=
  i.lcore = j.lcore ∧ i.task = j.task ∧ i.breath = j.breath ∧ (i.late = true → j.late = true) ∧ ∀ e, i.ended = some e → j.ended = some e

theorem GoesOn.refl (i : Inst) : GoesOn i i := ⟨rfl, rfl, rfl, id, fun _ => id⟩

theorem GoesOn.trans {i j k : Inst} (h : GoesOn i j) (g : GoesOn j k) : GoesOn i k := by
  obtain ⟨h1, h2, h3, h4, h5⟩ := h
  obtain ⟨g1, g2, g3, g4, g5⟩ := g
  exact ⟨h1.trans g1, h2.trans g2, h3.trans g3, fun x => g4 (h4 x), fun e x => g5 e (h5 e x)⟩

/-- What stands is as before: registers, the marks of every run, the cores and the lists of tasks. -/
structure Stands (m : Bool) (p : Nat) (s w : State) : Prop where
  fields : ∀ f, Standing m p f → w.get f = s.get f
  insts  : ∀ j ∈ w.disp.insts, ∃ i ∈ s.disp.insts, GoesOn i j
  core   : w.core = s.core
  tasks  : w.disp.tasks = s.disp.tasks

section
variable {m : Bool} {p : Nat}

theorem Stands.refl (s : State) : Stands m p s s := ⟨fun _ _ => rfl, fun j hj => ⟨j, hj, .refl j⟩, rfl, rfl⟩

theorem Stands.trans {s w x : State} (h : Stands m p s w) (k : Stands m p w x) : Stands m p s x := by
  refine ⟨fun f hf => (k.fields f hf).trans (h.fields f hf), fun j hj => ?_, k.core.trans h.core, k.tasks.trans h.tasks⟩
  obtain ⟨i, hi, hij⟩ := k.insts j hj
  obtain ⟨a, ha, hai⟩ := h.insts i hi
  exact ⟨a, ha, hai.trans hij⟩

theorem Stands.of_parts {s w : State} (hf : w.fld = s.fld) (hi : w.disp.insts = s.disp.insts) (hc : w.core = s.core)
    (ht : w.disp.tasks = s.disp.tasks) : Stands m p s w :=
  ⟨fun f _ => State.get_congr hf f, fun j hj => ⟨j, hi ▸ hj, .refl j⟩, hc, ht⟩

theorem Stands.set {s : State} {f : Fd} (v : Nat) (hf : Fleeting f)
    (hm : m = true → f.addr ≠ A.DISP_MISS_COUNT ∧ f.addr ≠ A.DISP_MISS_LAST ∧ f.addr ≠ A.DISP_MISS_BREATH) : Stands m p s (s.set f v) :=
  ⟨fun _ hg => State.get_set_other _ _ (hg.ne hf hm), fun j hj => ⟨j, hj, .refl j⟩, rfl, rfl⟩

theorem Stands.ite {s x y : State} {c : Prop} [Decidable c] (hx : Stands m p s x) (hy : Stands m p s y) :
    Stands m p s (if c then x else y) := by
  split
  · exact hx
  · exact hy

theorem Stands.foldl {α : Type} {s w : State} (f : State → α → State) (l : List α) (h : Stands m p s w) (hf : ∀ x u, Stands m p u (f u x)) :
    Stands m p s (l.foldl f w) := by
  induction l generalizing w with
  | nil => exact h
  | cons x l ih => exact ih (h.trans (hf x w))

theorem stands_mapInsts (q : Inst → Bool) (f : Inst → Inst) (hf : ∀ i, q i = true → GoesOn i (f i)) (s : State) :
    Stands m p s (mapInsts q f s) := by
  refine ⟨fun _ _ => rfl, fun j hj => ?_, rfl, rfl⟩
  obtain ⟨i, hi, rfl⟩ := List.mem_map.mp hj
  refine ⟨i, hi, ?_⟩
  split
  · next h => exact hf i h
  · exact .refl i

theorem stands_rcState (q v : Nat) (s : State) : Stands m p s (s.set (F.RC_STAT_STATE q) v) := by
  refine Stands.set v ⟨by simp [F.RC_STAT_STATE], ?_, ?_, ?_⟩ fun _ => ⟨?_, ?_, ?_⟩ <;>
    simp only [F.RC_STAT_STATE, A.RC_STAT, A.DISP_MISS_COUNT, A.DISP_MISS_LAST, A.DISP_MISS_BREATH] <;> omega

theorem stands_showIdle (l st : Nat) (s : State) : Stands m p s (showIdle l st s) := .ite (stands_rcState _ _ s) (.refl s)

theorem stands_wake (l : Nat) (s : State) : Stands m p s (wake l s) := by
  unfold wake
  extract_lets d ns w
  have hw : Stands m p s (w.setSleep l (.waking (w.now + 40 * uNs))) := .of_parts rfl rfl rfl rfl
  exact .ite (hw.trans (stands_showIdle ..)) (.refl s)

theorem stands_fire (q : Inst → TaskE → Bool) (s : State) : Stands m p s (fire q s) := by
  refine Stands.foldl _ _ (.refl s) fun ⟨i, e⟩ u => ?_
  dsimp -zeta only
  extract_lets v x d w
  have hv : Stands m p u v := by
    refine stands_mapInsts _ _ ?_ u
    exact fun i _ => ⟨rfl, rfl, rfl, id, fun _ => id⟩
  clear_value v
  have hw : Stands m p u w := by
    refine .ite (hv.trans ?_) hv
    have hset : Stands m p v (v.incSat F.DISP_EVT_COUNT_EARLY) := .set _ ⟨by decide, by decide, by decide, by decide⟩ fun _ => by decide
    exact hset.trans (.of_parts rfl rfl rfl rfl)
  exact hw.trans (stands_wake i.lcore w)

theorem stands_fireSuccessors (s : State) : Stands m p s (fireSuccessors s) := stands_fire _ s

theorem stands_gateCheck (l : Nat) (s : State) : Stands m p s (gateCheck l s) := by
  unfold gateCheck
  extract_lets awake mine w d
  have hw : Stands m p s w := .of_parts rfl rfl rfl rfl
  clear_value w
  exact .ite (hw.trans (Stands.trans (w := { w with disp := { d with gatedAt := mset 0 l w.now d.gatedAt } }) (.of_parts rfl rfl rfl rfl)
    (stands_showIdle ..))) (.refl s)

end

/-! ## Commits -/

/-- A commit writes one register, the count of words that saturated (R112). -/
theorem commitTap_get {f : Fd} (h : Fd.key f ≠ Fd.key F.MTX_FMTSAT_COUNT) (t : Nat) (v : Int) (n : Nat) (s : State) :
    (commitTap t v n s).get f = s.get f := by
  have hformat : ∀ (o : Nat) (w : State), (formatStep o v n w).get f = w.get f := fun o w => by
    unfold formatStep
    dsimp only
    split
    · exact State.get_set_other _ _ h
    · rfl
  have hline : ∀ (j : Nat) (w : State), (recordLine v n w j).get f = w.get f := fun j w => by
    have hset : ∀ (x : State) (a b : Nat), (x.setWord a b).get f = x.get f := fun x a b => by
      obtain ⟨y, hy⟩ := x.setBytes_only a (leBytes 4 b)
      rw [State.setWord, hy]
      rfl
    unfold recordLine
    extract_lets st x s1 s2
    split
    · rfl
    have h2 : s2.get f = w.get f := hset s1 _ _
    split
    · split
      · exact h2
      · exact h2
    · exact hset s1 _ _
  unfold commitTap
  extract_lets x y s1
  split
  · rfl
  · exact (foldl_keeps (fun u : State => u.get f) _ _ _ fun j _ w => hline j w).trans
      (foldl_keeps (fun u : State => u.get f) _ _ _ fun o _ w => hformat o w)

section
variable {m : Bool} {p : Nat}

theorem stands_commitTap (t : Nat) (v : Int) (n : Nat) (s : State) : Stands m p s (commitTap t v n s) := by
  have hf : Fleeting F.MTX_FMTSAT_COUNT := ⟨by decide, by decide, by decide, by decide⟩
  refine ⟨fun f h => commitTap_get (h.ne hf fun _ => by decide) t v n s, fun j hj => ⟨j, ?_, .refl j⟩, ?_, ?_⟩ <;>
    obtain ⟨_, _, _, _, h⟩ := commitOnly_commitTap t v n s
  · rw [h] at hj
    exact hj
  · rw [h]
  · rw [h]

theorem stands_commitReed (t : Nat) (v : Int) (n : Nat) (s : State) : Stands m p s (commitReed t v n s) := by
  unfold commitReed
  split <;> exact stands_commitTap ..

theorem stands_commitAll (ts : List Nat) (b : Nat) (f : State → Nat → Int) (s : State) : Stands m p s (commitAll ts b f s) :=
  Stands.foldl _ _ (.refl s) fun t u => stands_commitTap t _ b u

theorem stands_latchLevels (ts : List Nat) (s : State) : Stands m p s (latchLevels ts s) :=
  Stands.foldl _ _ (.refl s) fun _ _ => .of_parts rfl rfl rfl rfl

theorem stands_missTaps (l k : Nat) (e : TaskE) (b : Nat) (s : State) : Stands m p s (missTaps l k e b s) := by
  unfold missTaps
  extract_lets n w down
  have hw : Stands m p s w := .of_parts rfl rfl rfl rfl
  clear_value w
  have hdown : ∀ j u, Stands m p u (down j u) := fun j u =>
    Stands.trans (w := u.setTramp l k _) (.of_parts rfl rfl rfl rfl) (stands_commitAll ..)
  clear_value down
  split
  · exact hw.trans (hdown ..)
  · exact hw.trans (stands_commitAll ..)
  · exact .ite ((hw.trans (stands_latchLevels ..)).trans (hdown ..)) (hw.trans (stands_commitAll ..))

theorem stands_completeTaps (l k : Nat) (e : TaskE) (b : Nat) (q : List (Nat × Int)) (s : State) :
    Stands m p s (completeTaps l k e b q s) := by
  unfold completeTaps
  extract_lets value w up
  have hw : Stands m p s w := .of_parts rfl rfl rfl rfl
  clear_value w
  have hup : ∀ j u, Stands m p u (up j u) := fun j u =>
    Stands.trans (w := u.setTramp l k _) (.of_parts rfl rfl rfl rfl) (Stands.foldl _ _ (.refl _) fun t v => stands_commitReed ..)
  clear_value up
  split
  · exact (hw.trans (stands_latchLevels ..)).trans (hup ..)
  · exact (hw.trans (stands_latchLevels ..)).trans (hup ..)
  · exact hw.trans (hup ..)
  · exact Stands.foldl _ _ hw fun t v => .ite (stands_commitReed ..) (stands_commitTap ..)

/-- An event that fences nothing. -/
theorem stands_noted {src : Nat} (hp : p < 136) (idx : Nat) {s : State} (h : Noted src s) : Stands m p s (raiseF src idx s) := by
  have hsrc : src < 128 := by
    obtain ⟨_, _, _, h, _⟩ := h
    omega
  have hkeep : ∀ f : Fd, f.lsb < 32 → Fd.quiet f = true → ApartFromEvents (blockOf f) → (raiseF src idx s).get f = s.get f := fun f h1 h2 h3 =>
    keepsUnit_noted h3 hsrc idx h f h1 h2 rfl
  have hrc : ∀ a, 0x40030000 ≤ a → a < 0x44000000 → ApartFromEvents (a % 2 ^ 32 / 65536) := fun a h1 h2 => by
    refine ⟨?_, ?_, ?_, ?_⟩ <;> omega
  obtain ⟨_, _, _, _, _, _, heq⟩ := eventOnly_noted idx h
  refine ⟨fun f hf => ?_, fun j hj => ⟨j, ?_, .refl j⟩, ?_, ?_⟩
  · rcases hf with ⟨_, hf⟩ | rfl | rfl | hf
    · have hlist : ∀ f ∈ missFields, f.lsb < 32 ∧ Fd.quiet f = true ∧ blockOf f = 0x2005 := by decide
      obtain ⟨h1, h2, h3⟩ := hlist f hf
      exact hkeep f h1 h2 (by rw [h3]; exact ⟨by decide, by decide, by decide, by decide⟩)
    · exact hkeep _ (by simp [F.RC_FLAGS_RUNAWAY])
        (Fd.quiet_of_block (by simp [F.RC_FLAGS_RUNAWAY]) (.inr (by simp only [F.RC_FLAGS_RUNAWAY, A.RC_FLAGS]; omega)))
        (hrc _ (by simp only [F.RC_FLAGS_RUNAWAY, A.RC_FLAGS]; omega) (by simp only [F.RC_FLAGS_RUNAWAY, A.RC_FLAGS]; omega))
    · exact hkeep _ (by simp [F.RC_TASK_RUNNING])
        (Fd.quiet_of_block (by simp [F.RC_TASK_RUNNING]) (.inr (by simp only [F.RC_TASK_RUNNING, A.RC_TASK]; omega)))
        (hrc _ (by simp only [F.RC_TASK_RUNNING, A.RC_TASK]; omega) (by simp only [F.RC_TASK_RUNNING, A.RC_TASK]; omega))
    · exact classesKept_noted idx h f hf
  · rw [heq] at hj
    exact hj
  · rw [heq]
  · rw [heq]

end

theorem noted_miss (s : State) : Noted 8 s := ⟨1, rfl, by decide, by decide, .inl rfl⟩

theorem noted_runaway {s : State} (h : s.classOf 5 = 0) : Noted 5 s := ⟨0, rfl, by decide, by decide, .inr h⟩

theorem Stands.classOf {m : Bool} {p : Nat} {s w : State} (h : Stands m p s w) {src : Nat} (hsrc : src < 120) : w.classOf src = s.classOf src := by
  unfold State.classOf
  rw [if_neg (by omega), if_neg (by omega)]
  exact h.fields _ (.inr (.inr (.inr ⟨by simp only [F.FCU_CLASS_CLASS]; omega, by simp only [F.FCU_CLASS_CLASS, A.FCU_CLASS]; omega,
    by simp only [F.FCU_CLASS_CLASS, A.FCU_CLASS]; omega⟩)))

/-! ## Misses (R46, R48) -/

/-- The registers of a miss before it is reported. -/
def missNoted (l k b kind : Nat) (s : State) : State :=
  let s := (s.incSat F.DISP_MISS_COUNT_COUNT).set F.DISP_MISS_BREATH_BREATH b
  ((((s.set F.DISP_MISS_LAST_VALID 1).set F.DISP_MISS_LAST_LCORE l).set F.DISP_MISS_LAST_TASK k).set
    F.DISP_MISS_LAST_KIND kind).set (F.DISP_CORE_STAT_SLACK_MIN l) 0

theorem noteMiss_eq (l k b kind : Nat) (s : State) : noteMiss l k b kind s = raiseF 8 (128 * l + k) (missNoted l k b kind s) := rfl

theorem stands_missNoted (p l k b kind : Nat) (s : State) : Stands false p s (missNoted l k b kind s) := by
  have hno : ∀ {q : Prop}, false = true → q := fun h => absurd h (by decide)
  have hfix : ∀ f ∈ [F.DISP_MISS_COUNT_COUNT, F.DISP_MISS_BREATH_BREATH, F.DISP_MISS_LAST_VALID, F.DISP_MISS_LAST_LCORE, F.DISP_MISS_LAST_TASK,
      F.DISP_MISS_LAST_KIND], ∀ v (w : State), Stands false p w (w.set f v) := fun f hf v w => by
    have hfl : ∀ f ∈ [F.DISP_MISS_COUNT_COUNT, F.DISP_MISS_BREATH_BREATH, F.DISP_MISS_LAST_VALID, F.DISP_MISS_LAST_LCORE,
      F.DISP_MISS_LAST_TASK, F.DISP_MISS_LAST_KIND], f.lsb < 32 ∧ f.addr % 0x40000 ≠ 0x30004 ∧ f.addr % 0x40000 ≠ 0x3001C
        ∧ (f.addr < 0x20020020 ∨ 0x20020040 ≤ f.addr) := by decide
    exact .set v (hfl f hf) hno
  have hslack : ∀ w : State, Stands false p w (w.set (F.DISP_CORE_STAT_SLACK_MIN l) 0) := fun w => by
    refine .set 0 ⟨by simp [F.DISP_CORE_STAT_SLACK_MIN], ?_, ?_, ?_⟩ hno <;> simp only [F.DISP_CORE_STAT_SLACK_MIN, A.DISP_CORE_STAT] <;> omega
  exact ((((((hfix F.DISP_MISS_COUNT_COUNT (by simp) _ s).trans (hfix F.DISP_MISS_BREATH_BREATH (by simp) _ _)).trans
    (hfix F.DISP_MISS_LAST_VALID (by simp) _ _)).trans (hfix F.DISP_MISS_LAST_LCORE (by simp) _ _)).trans
    (hfix F.DISP_MISS_LAST_TASK (by simp) _ _)).trans (hfix F.DISP_MISS_LAST_KIND (by simp) _ _)).trans (hslack _)

/-- What a miss shows (R48). -/
theorem missNoted_shows {kind : Nat} (hk : kind < 4) (l k b : Nat) (s : State) :
    (missNoted l k b kind s).get F.DISP_MISS_COUNT_COUNT
        = min (s.get F.DISP_MISS_COUNT_COUNT + 1) (2 ^ Fd.width F.DISP_MISS_COUNT_COUNT - 1)
      ∧ (missNoted l k b kind s).get F.DISP_MISS_LAST_VALID = 1 ∧ (missNoted l k b kind s).get F.DISP_MISS_LAST_KIND = kind
      ∧ (missNoted l k b kind s).get F.DISP_MISS_BREATH_BREATH = b % 2 ^ Fd.width F.DISP_MISS_BREATH_BREATH := by
  have hslack : ∀ f : Fd, f.lsb < 32 → f.addr < 0x20050084 → ∀ w : State, (w.set (F.DISP_CORE_STAT_SLACK_MIN l) 0).get f = w.get f := fun f hl ha w => by
    refine State.get_set_other _ _ (Fd.key_ne hl (by simp [F.DISP_CORE_STAT_SLACK_MIN]) (.inl ?_))
    simp only [F.DISP_CORE_STAT_SLACK_MIN, A.DISP_CORE_STAT]
    omega
  unfold missNoted
  extract_lets w
  have hcount : w.get F.DISP_MISS_COUNT_COUNT = min (s.get F.DISP_MISS_COUNT_COUNT + 1) (2 ^ Fd.width F.DISP_MISS_COUNT_COUNT - 1) :=
    (State.get_set_other _ _ (by decide)).trans (State.addSat_get s F.DISP_MISS_COUNT_COUNT 1)
  have hbreath : w.get F.DISP_MISS_BREATH_BREATH = b % 2 ^ Fd.width F.DISP_MISS_BREATH_BREATH := State.get_set_same ..
  clear_value w
  refine ⟨?_, ?_, ?_, ?_⟩ <;> rw [hslack _ (by decide) (by decide)] <;> simp (disch := decide) only [State.get_set_other, State.get_set_same]
  · exact hcount
  · rfl
  · exact Nat.mod_eq_of_lt hk
  · exact hbreath

/-- What a report and the firing of successors leave of the taps and of the counts of misses in a row. -/
def State.missView (s : State) := (s.disp.misses, s.mtx)

theorem missView_noteMiss (l k b kind : Nat) (s : State) : (noteMiss l k b kind s).missView = s.missView := by
  obtain ⟨_, _, _, _, _, _, heq⟩ := eventOnly_noted (128 * l + k) (noted_miss (missNoted l k b kind s))
  rw [noteMiss_eq, heq]
  rfl

theorem missView_showIdle (l st : Nat) (s : State) : (showIdle l st s).missView = s.missView := by
  unfold showIdle
  dsimp only
  split <;> rfl

theorem missView_wake (l : Nat) (s : State) : (wake l s).missView = s.missView := by
  unfold wake
  extract_lets d ns w
  split
  · exact (missView_showIdle ..).trans rfl
  · rfl

theorem missView_fire (q : Inst → TaskE → Bool) (s : State) : (fire q s).missView = s.missView := by
  refine foldl_keeps State.missView _ _ _ fun ⟨i, e⟩ _ u => (missView_wake _ _).trans ?_
  split <;> rfl

theorem missView_gateCheck (l : Nat) (s : State) : (gateCheck l s).missView = s.missView := by
  unfold gateCheck
  extract_lets awake mine w d
  split
  · exact (missView_showIdle ..).trans rfl
  · rfl

theorem missRun_congr {s w : State} (h : w.missView = s.missView) (l k : Nat) : w.missRun l k = s.missRun l k :=
  congrArg (fun v : SMap Nat × MtxS => mget 0 (tkey l k) v.1) h

theorem tap_congr {s w : State} (h : w.missView = s.missView) (x : Nat) : w.tap x = s.tap x := congrArg (fun v : SMap Nat × MtxS => (mget {} x v.2.taps : TapS)) h

/-! ## Taps of a task -/

/-- A fold of commits for breath `b` commits every tap of its list, and a tap that stands before it takes the value its own step
gives it (R46, R90). -/
theorem foldl_commits {g : State → Nat → State} {b x : Nat} (hx : isTap x = true) (hg : ∀ v t, ∃ y, g v t = commitTap t y b v)
    (l : List Nat) (hl : x ∈ l) (s : State) (hat : (s.tap x).at_ ≤ b) :
    ((l.foldl g s).tap x).at_ = b + 1
      ∧ ∀ c, (∀ v, CommitOnly s v → v.tap x = s.tap x → g v x = commitTap x c b v) → ((l.foldl g s).tap x).cur = c := by
  have hdone : ∀ (l : List Nat) (v : State), (v.tap x).at_ = b + 1 → (l.foldl g v).tap x = v.tap x := fun l => by
    induction l with
    | nil => exact fun _ _ => rfl
    | cons t l ih =>
      intro v hv
      obtain ⟨y, hy⟩ := hg v t
      have hkeep : (g v t).tap x = v.tap x := by
        rw [hy]
        by_cases ht : x = t
        · subst ht
          exact congrArg (fun w : State => w.tap x) (if_pos (by simp [hv]))
        · exact congrArg (·.1) (commitTap_tapView ht y b v)
      exact (ih (g v t) (by rw [hkeep, hv])).trans hkeep
  induction l generalizing s with
  | nil => exact absurd hl List.not_mem_nil
  | cons t l ih =>
    obtain ⟨y, hy⟩ := hg s t
    by_cases ht : x = t
    · subst ht
      have hset : (g s x).tap x = ⟨y, (s.tap x).cur, (s.tap x).prev, b + 1⟩ := by rw [hy]; exact commitTap_tap_same hx y hat
      have hend := hdone l (g s x) (by rw [hset])
      rw [List.foldl_cons, hend]
      refine ⟨by rw [hset], fun c hc => ?_⟩
      rw [hc s (.refl s) rfl, commitTap_tap_same hx c hat]
    · have htap : (g s t).tap x = s.tap x := by
        rw [hy]
        exact congrArg (·.1) (commitTap_tapView ht y b s)
      have honly : CommitOnly s (g s t) := by
        rw [hy]
        exact commitOnly_commitTap ..
      obtain ⟨h1, h2⟩ := ih ((List.mem_cons.mp hl).resolve_left ht) (g s t) (by rw [htap]; exact hat)
      exact ⟨h1, fun c hc => h2 c fun v hv hvt => hc v (honly.trans hv) (hvt.trans htap)⟩

theorem commitReed_eq (t : Nat) (x : Int) (n : Nat) (s : State) : ∃ y, commitReed t x n s = commitTap t y n s := by
  unfold commitReed
  split <;> exact ⟨_, rfl⟩

/-- A first miss repeats every tap of the task (R46). -/
theorem missTaps_repeats {l k b x : Nat} {e : TaskE} {s : State} (hm : s.missRun l k < 8) (hr : s.tramp l k = .none) (hx : x ∈ e.taps)
    (ht : isTap x = true) (hat : (s.tap x).at_ ≤ b) :
    ((missTaps l k e b s).tap x).at_ = b + 1 ∧ ((missTaps l k e b s).tap x).cur = (s.tap x).cur := by
  have hgo : missTaps l k e b s = commitAll e.taps b (fun v t => (v.tap t).cur) (s.setMissRun l k (s.missRun l k + 1)) := by
    unfold missTaps
    extract_lets n w down
    rw [show w.tramp l k = .none from hr]
    exact if_neg (show ¬ 9 ≤ s.missRun l k + 1 by omega)
  rw [hgo]
  obtain ⟨h1, h2⟩ := foldl_commits (g := fun u t => commitTap t (u.tap t).cur b u) ht (fun v t => ⟨_, rfl⟩) e.taps hx
    (s.setMissRun l k (s.missRun l k + 1)) hat
  exact ⟨h1, h2 _ fun v _ hv => by rw [hv]; rfl⟩

theorem missRun_missTaps (l k : Nat) (e : TaskE) (b : Nat) (s : State) : (missTaps l k e b s).missRun l k = s.missRun l k + 1 := by
  have hset : ∀ n, (s.setMissRun l k n).missRun l k = n := fun n => mget_mset_same ..
  have hall : ∀ (ts : List Nat) (f : State → Nat → Int) (u : State), (commitAll ts b f u).disp = u.disp := fun ts f u =>
    foldl_keeps State.disp _ _ _ fun t _ v => by
      obtain ⟨_, _, _, _, h⟩ := commitOnly_commitTap t (f v t) b v
      rw [h]
  have hlatch : ∀ u : State, (latchLevels e.taps u).disp = u.disp := fun u => by
    obtain ⟨⟨x, h⟩, _⟩ := latchLevels_does e.taps u
    rw [h]
  have hrun : ∀ u : State, u.disp.misses = (s.setMissRun l k (s.missRun l k + 1)).disp.misses → u.missRun l k = s.missRun l k + 1 := fun u h => by
    rw [← hset (s.missRun l k + 1), State.missRun, h]
    rfl
  unfold missTaps
  extract_lets n w down
  have hdown : ∀ j u, (down j u).disp.misses = u.disp.misses := fun j u => by
    unfold down
    rw [hall]
    rfl
  clear_value down
  split
  · exact hrun _ (hdown ..)
  · exact hrun _ (by rw [hall])
  · split
    · exact hrun _ ((hdown ..).trans (by rw [hlatch]))
    · exact hrun _ (by rw [hall])

/-- A completion commits every tap of the task, and clears its misses (R47, R90). -/
theorem completeTaps_does {l k b : Nat} {e : TaskE} (q : List (Nat × Int)) (s : State) :
    (completeTaps l k e b q s).missRun l k = 0
      ∧ (∀ x ∈ e.taps, isTap x = true → (s.tap x).at_ ≤ b → ((completeTaps l k e b q s).tap x).at_ = b + 1)
      ∧ ∀ x v, x ∈ e.taps → isTap x = true → (s.tap x).at_ ≤ b → s.tramp l k = .none → s.tapOwner x = none →
          q.find? (fun r => r.1 == x) = some (x, v) → ((completeTaps l k e b q s).tap x).cur = v := by
  have hcommit : ∀ t y (u : State), (commitReed t y b u).disp = u.disp := fun t y u => by
    obtain ⟨z, hz⟩ := commitReed_eq t y b u
    obtain ⟨_, _, _, _, h⟩ := commitOnly_commitTap t z b u
    rw [hz, h]
  have hreed : ∀ (f : State → Nat → Int) (v : State) (t : Nat), ∃ y, commitReed t (f v t) b v = commitTap t y b v := fun f v t => commitReed_eq ..
  have hlatch : ∀ u : State, (latchLevels e.taps u).disp = u.disp ∧ ∀ x, (latchLevels e.taps u).tap x = u.tap x := fun u => by
    obtain ⟨⟨y, h⟩, _⟩ := latchLevels_does e.taps u
    rw [h]
    exact ⟨rfl, fun _ => rfl⟩
  unfold completeTaps
  extract_lets value w up
  have hw : w.missRun l k = 0 ∧ w.mtx = s.mtx ∧ w.rvc = s.rvc ∧ w.tramp l k = s.tramp l k := by
    refine ⟨?_, rfl, rfl, rfl⟩
    show mget 0 (tkey l k) (mset 0 (tkey l k) 0 s.disp.misses) = 0
    exact mget_mset_same ..
  have hwt : ∀ x, w.tap x = s.tap x := fun x => by rw [State.tap, hw.2.1]; rfl
  clear_value w
  have hup : ∀ j u, (up j u).disp.misses = u.disp.misses ∧ ∀ x ∈ e.taps, isTap x = true → (u.tap x).at_ ≤ b → ((up j u).tap x).at_ = b + 1 := by
    intro j u
    unfold up
    refine ⟨?_, fun x hx ht hat => (foldl_commits (g := fun v t => commitReed t (rampVal (v.rampA t) (value v t) j 32) b v) ht
      (hreed fun v t => rampVal (v.rampA t) (value v t) j 32) e.taps hx (u.setTramp l k (if j = 32 then .none else .up j)) hat).1⟩
    exact (congrArg DispS.misses (foldl_keeps State.disp (fun v t => commitReed t (rampVal (v.rampA t) (value v t) j 32) b v) e.taps
      (u.setTramp l k (if j = 32 then .none else .up j)) fun t _ v => hcommit ..)).trans rfl
  clear_value up
  have hrun : ∀ u : State, u.disp.misses = w.disp.misses → u.missRun l k = 0 := fun u h => by
    rw [← hw.1, State.missRun, h]
    rfl
  split
  · next hr =>
    refine ⟨hrun _ ((hup ..).1.trans (by rw [(hlatch w).1])), fun x hx ht hat => (hup ..).2 x hx ht (by rw [(hlatch w).2, hwt]; exact hat), ?_⟩
    intro x v _ _ _ h
    rw [hw.2.2.2, h] at hr
    cases hr
  · next hr =>
    refine ⟨hrun _ ((hup ..).1.trans (by rw [(hlatch w).1])), fun x hx ht hat => (hup ..).2 x hx ht (by rw [(hlatch w).2, hwt]; exact hat), ?_⟩
    intro x v _ _ _ h
    rw [hw.2.2.2, h] at hr
    cases hr
  · next hr =>
    refine ⟨hrun _ (hup ..).1, fun x hx ht hat => (hup ..).2 x hx ht (by rw [hwt]; exact hat), ?_⟩
    intro x v _ _ _ h
    rw [hw.2.2.2, h] at hr
    cases hr
  · have hg : ∀ (v : State) (t : Nat), ∃ y, (if q.any (fun r => r.1 == t) then commitReed t (value v t) b v else commitTap t (v.tap t).cur b v)
        = commitTap t y b v := fun v t => by
      split
      · exact commitReed_eq ..
      · exact ⟨_, rfl⟩
    refine ⟨hrun _ ?_, fun x hx ht hat => (foldl_commits ht hg e.taps hx w (by rw [hwt]; exact hat)).1, ?_⟩
    · refine congrArg DispS.misses (foldl_keeps State.disp (fun v t => if q.any (fun r => r.1 == t) then commitReed t (value v t) b v
        else commitTap t (v.tap t).cur b v) e.taps w fun t _ v => ?_)
      split
      · exact hcommit ..
      · obtain ⟨_, _, _, _, h⟩ := commitOnly_commitTap t (v.tap t).cur b v
        rw [h]
    · intro x v hx ht hat _ ho hq
      refine (foldl_commits ht hg e.taps hx w (by rw [hwt]; exact hat)).2 v fun u hu _ => ?_
      have hany : q.any (fun r => r.1 == x) = true := List.any_eq_true.mpr ⟨_, List.mem_of_find?_eq_some hq, by simp⟩
      have hval : value u x = v := by
        unfold value
        rw [hq]
      have hown : u.tapOwner x = none := by
        obtain ⟨_, _, _, _, rfl⟩ := hu
        rw [← ho, State.tapOwner, State.tapOwner, ← hw.2.2.1]
      rw [if_pos hany, hval, commitReed, hown]

end Sys2Proof.Machine
end

section
/-!
THE LIFE OF AN INSTANCE. Firing, wakes and starts, misses, completions and aborts (R40–R48, R66, R90, R91).
-/
namespace Sys2Proof.Machine

/-! ## Wakes and firing (R40, R43) -/

/-- A gated core begins to wake (R43). -/
theorem wake_gated {l : Nat} {s : State} (h : s.sleepOf l = .gated) {u : State} (hu : u = wake l s) :
    u.sleepOf l = .waking (s.now + 40 * uNs) ∧ mget 0 l u.disp.wakes = mget 0 l s.disp.wakes + 1 ∧ u.disp.insts = s.disp.insts
      ∧ (∀ c, c ≠ l → u.sleepOf c = s.sleepOf c) ∧ KeepsFields [F.RC_STAT_STATE (s.physOf l)] s u ∧ KeepsStore s u ∧ u.now = s.now := by
  unfold wake at hu
  rw [if_pos (by rw [h]; rfl)] at hu
  extract_lets d ns w at hu
  obtain ⟨v, hv⟩ : ∃ v, v = w.setSleep l (.waking (w.now + 40 * uNs)) := ⟨_, rfl⟩
  have hparts : v.disp.insts = s.disp.insts ∧ v.disp.wakes = mset 0 l (mget 0 l s.disp.wakes + 1) s.disp.wakes
      ∧ v.disp.sleep = mset .gated l (.waking (s.now + 40 * uNs)) s.disp.sleep ∧ v.fld = s.fld ∧ v.now = s.now ∧ KeepsStore s v := by
    rw [hv]
    exact ⟨rfl, rfl, rfl, rfl, rfl, rfl, rfl, rfl⟩
  obtain ⟨hi, hw, hsl, hf, hn, hs⟩ := hparts
  rw [← hv] at hu
  have hphys : v.physOf l = s.physOf l := by rw [physOf_eq, physOf_eq]; exact State.get_congr hf _
  have hidle : u.disp = v.disp ∧ u.now = v.now ∧ KeepsFields [F.RC_STAT_STATE (s.physOf l)] s u ∧ KeepsStore s u := by
    rw [hu]
    unfold showIdle
    rw [hphys]
    dsimp only
    split
    · exact ⟨rfl, rfl, (KeepsFields.of_fld _ hf).set _ (by simp), hs⟩
    · exact ⟨rfl, rfl, .of_fld _ hf, hs⟩
  obtain ⟨h1, h2, h3, h4⟩ := hidle
  refine ⟨?_, ?_, ?_, fun c hc => ?_, h3, h4, h2.trans hn⟩
  · rw [State.sleepOf, h1, hsl, mget_mset_same]
  · rw [h1, hw, mget_mset_same]
  · rw [h1, hi]
  · rw [State.sleepOf, h1, hsl, mget_mset_other _ _ hc, State.sleepOf]

/-- Fires the run (l, k, b): every record of it. -/
def firedAt (l k b now : Nat) (j : Inst) : Inst := if j.is l k b then { j with fired := some now } else j

/-- The state after run (l, k, b) has fired at `now` and its core wakes. -/
structure FiredFrom (l k b : Nat) (s u : State) : Prop where
  now    : u.now = s.now
  insts  : u.disp.insts = s.disp.insts.map (firedAt l k b s.now)
  core   : u.sleepOf l = (if s.sleepOf l = .gated then .waking (s.now + 40 * uNs) else s.sleepOf l)
  others : ∀ c, c ≠ l → u.sleepOf c = s.sleepOf c
  fields : KeepsFields [F.RC_STAT_STATE (s.physOf l)] s u
  store  : KeepsStore s u

/-- What firing does for one run of its list (R40). -/
def fireStep (now : Nat) (t : State) (x : Inst × TaskE) : State :=
  let t := mapInsts (fun j => j.is x.1.lcore x.1.task x.1.breath) (fun j => { j with fired := some now }) t
  let t := if t.isEarly x.2 x.1.breath then
      { t.incSat F.DISP_EVT_COUNT_EARLY with
        disp := { t.disp with early := mset false (evKey x.1.breath (arrKey x.2.arg)) true t.disp.early } }
    else t
  wake x.1.lcore t

theorem fire_eq (p : Inst → TaskE → Bool) (s : State) :
    fire p s = (s.instsOf (fun i e => i.waits && p i e)).foldl (fireStep s.now) s := rfl

theorem fireStep_time {l k b now : Nat} {x : Inst × TaskE} (hx : x.1.is l k b = true) (hk : x.2.kind = .time) (t : State) :
    fireStep now t x = wake l (mapInsts (fun j => j.is l k b) (fun j => { j with fired := some now }) t) := by
  obtain ⟨i, e⟩ := x
  simp only [Inst.is, Bool.and_eq_true, beq_iff_eq] at hx
  obtain ⟨⟨rfl, rfl⟩, rfl⟩ := hx
  have hearly : ∀ u : State, u.isEarly e i.breath = false := fun u => by
    unfold State.isEarly
    rw [show (e.kind == TKind.arrival) = false by rw [show e.kind = TKind.time from hk]; rfl]
    exact Bool.false_and _
  unfold fireStep
  dsimp only
  rw [hearly, if_neg Bool.false_ne_true]

theorem firedAt_firedAt (l k b now : Nat) (j : Inst) : firedAt l k b now (firedAt l k b now j) = firedAt l k b now j := by
  unfold firedAt
  by_cases h : j.is l k b = true
  · rw [if_pos h, if_pos (show ({ j with fired := some now } : Inst).is l k b = true from h)]
  · rw [if_neg h, if_neg h]

/-- Firing one TIME run, whatever its records (R40, R43). -/
theorem fire_time {l k b : Nat} {e : TaskE} {i : Inst} {q : Inst → TaskE → Bool} {s : State} (htask : s.task l k = some e)
    (hkind : e.kind = .time) (hi : i ∈ s.disp.insts) (his : i.is l k b = true) (hw : i.waits = true) (hq : q i e = true)
    (hall : ∀ j a, q j a = true → j.is l k b = true) : FiredFrom l k b s (fire q s) := by
  have hid : ∀ j : Inst, j.is l k b = true → s.task j.lcore j.task = some e := fun j h => by
    simp only [Inst.is, Bool.and_eq_true, beq_iff_eq] at h
    rw [h.1.1, h.1.2, htask]
  have hlist : ∀ x ∈ s.instsOf (fun i e => i.waits && q i e), x.1.is l k b = true ∧ x.2.kind = .time := by
    intro x hx
    obtain ⟨j, hj, hx⟩ := List.mem_filterMap.mp hx
    obtain ⟨a, ha, hx⟩ := Option.bind_eq_some_iff.mp hx
    split at hx
    · next hc =>
      cases hx
      rw [Bool.and_eq_true] at hc
      have hjs := hall j a hc.2
      rw [hid j hjs] at ha
      cases ha
      exact ⟨hjs, hkind⟩
    · cases hx
  have hmem : (i, e) ∈ s.instsOf (fun i e => i.waits && q i e) :=
    List.mem_filterMap.mpr ⟨i, hi, Option.bind_eq_some_iff.mpr ⟨e, hid i his, if_pos (show (i.waits && q i e) = true by rw [hw, hq]; rfl)⟩⟩
  have hfirst : FiredFrom l k b s (wake l (mapInsts (fun j => j.is l k b) (fun j => { j with fired := some s.now }) s)) := by
    obtain ⟨w, hw⟩ : ∃ w, w = mapInsts (fun j => j.is l k b) (fun j => { j with fired := some s.now }) s := ⟨_, rfl⟩
    have hwi : w.disp.insts = s.disp.insts.map (firedAt l k b s.now) := by rw [hw]; rfl
    have hws : ∀ c, w.sleepOf c = s.sleepOf c := fun c => by rw [hw]; rfl
    have hwf : w.fld = s.fld := by rw [hw]; rfl
    have hwn : w.now = s.now := by rw [hw]; rfl
    have hstore : KeepsStore s w := by rw [hw]; exact ⟨rfl, rfl, rfl⟩
    rw [← hw]
    by_cases hg : s.sleepOf l = .gated
    · obtain ⟨h1, _, h3, h4, h5, h6, h7⟩ := wake_gated ((hws l).trans hg) rfl
      have hphys : w.physOf l = s.physOf l := by rw [physOf_eq, physOf_eq]; exact State.get_congr hwf _
      rw [hphys] at h5
      exact ⟨h7.trans hwn, h3.trans hwi, by rw [h1, if_pos hg, hwn], fun c hc => (h4 c hc).trans (hws c),
        KeepsFields.trans (.of_fld _ hwf) h5, hstore.trans h6⟩
    · have hgo : wake l w = w := if_neg (by rw [hws]; simpa using hg)
      rw [hgo]
      exact ⟨hwn, hwi, by rw [hws, if_neg hg], fun c _ => hws c, .of_fld _ hwf, hstore⟩
  have hnext : ∀ (L : List (Inst × TaskE)), (∀ x ∈ L, x.1.is l k b = true ∧ x.2.kind = .time) → ∀ t, FiredFrom l k b s t →
      FiredFrom l k b s (L.foldl (fireStep s.now) t) := by
    intro L
    induction L with
    | nil => exact fun _ t ht => ht
    | cons x L ih =>
      intro hL t ht
      refine ih (fun y hy => hL y (.tail _ hy)) _ ?_
      obtain ⟨hx, hk⟩ := hL x (.head _)
      obtain ⟨h1, h2, h3, h4, h5, h6⟩ := ht
      have hsleep : t.sleepOf l ≠ .gated := by
        rw [h3]
        split
        · exact fun h => nomatch h
        · assumption
      obtain ⟨w, hw⟩ : ∃ w, w = mapInsts (fun j => j.is l k b) (fun j => { j with fired := some s.now }) t := ⟨_, rfl⟩
      have hwi : w.disp.insts = t.disp.insts.map (firedAt l k b s.now) := by rw [hw]; rfl
      have hws : ∀ c, w.sleepOf c = t.sleepOf c := fun c => by rw [hw]; rfl
      have hgo : wake l w = w := if_neg (by rw [hws]; simpa using hsleep)
      rw [fireStep_time hx hk, ← hw, hgo]
      refine ⟨by rw [hw]; exact h1, ?_, by rw [hws]; exact h3, fun c hc => (hws c).trans (h4 c hc), ?_, ?_⟩
      · rw [hwi, h2, List.map_map]
        exact List.map_congr_left fun j _ => firedAt_firedAt l k b s.now j
      · rw [hw]
        exact h5.congr rfl
      · rw [hw]
        exact ⟨h6.1, h6.2.1, h6.2.2⟩
  rw [fire_eq]
  generalize s.instsOf (fun i e => i.waits && q i e) = L at hlist hmem
  cases L with
  | nil => cases hmem
  | cons x L =>
    obtain ⟨hx, hk⟩ := hlist x (.head _)
    refine hnext L (fun y hy => hlist y (.tail _ hy)) _ ?_
    rw [fireStep_time hx hk]
    exact hfirst

/-! ## Start (R42, R66) -/

theorem coreS_setCore (p : Nat) (x : CoreS) (s : State) : (s.setCore p x).coreS p = x := mget_mset_same ..

/-- The registers of a core at the start of a task run (R66). -/
theorem startBase_get (l b loc : Nat) :
    mget 0 loc (startBase l b)
      = if loc = locIE then 1 else if loc = locS srBIDX then ((b % 2 ^ 32 : Nat) : Int) else if loc = locS srLCORE then (l : Int) else 0 := by
  have h1 : locIE ≠ locS srBIDX ∧ locIE ≠ locS srLCORE ∧ locS srBIDX ≠ locS srLCORE := by decide
  obtain ⟨h1, h2, h3⟩ := h1
  unfold startBase
  generalize ((b % 2 ^ 32 : Nat) : Int) = v
  by_cases hie : loc = locIE
  · subst hie
    rw [if_pos rfl, mget_mset_other _ _ h2, mget_mset_other _ _ h1, mget_mset_same]
  rw [if_neg hie]
  by_cases hb : loc = locS srBIDX
  · subst hb
    rw [if_pos rfl, mget_mset_other _ _ h3, mget_mset_same]
  rw [if_neg hb]
  by_cases hl : loc = locS srLCORE
  · subst hl
    rw [if_pos rfl, mget_mset_same]
  rw [if_neg hl, mget_mset_other _ _ hl, mget_mset_other _ _ hb, mget_mset_other _ _ hie]
  rfl

/-- The state in which run (l, k, b) has started on the core that holds `l` (R42, R66). -/
def startedState (l k b : Nat) (e : TaskE) (s : State) : State :=
  let p := s.physOf l
  let s2 := (mapInsts (fun j => j.is l k b) (fun j => { j with started := some s.now }) s).setSleep l .awake
  let s3 := s2.setCore p { pc := e.entry, base := startBase l b, inst := some ⟨l, k, b, e.entry, e.outBase, e.outCount⟩
                           dbgReq := (s.coreS p).dbgReq }
  (((s3.set (F.RC_STAT_STATE p) rcRUNNING).set (F.RC_TASK_RUNNING p) 1).set (F.RC_TASK_TASK p) k).set (F.RC_TASK_LCORE p) l

theorem startedState_does (l k b : Nat) (e : TaskE) (s : State) {u : State} (hu : u = startedState l k b e s) :
    (u.coreS (s.physOf l)).pc = e.entry ∧ (u.coreS (s.physOf l)).inst = some ⟨l, k, b, e.entry, e.outBase, e.outCount⟩
      ∧ (∀ loc r, (u.coreS (s.physOf l)).rd loc r
          = if loc = locIE then 1 else if loc = locS srBIDX then ((b % 2 ^ 32 : Nat) : Int) else if loc = locS srLCORE then (l : Int) else 0)
      ∧ u.get (F.RC_STAT_STATE (s.physOf l)) = rcRUNNING ∧ u.get (F.RC_TASK_RUNNING (s.physOf l)) = 1
      ∧ u.disp.insts = s.disp.insts.map (fun j => if j.is l k b then { j with started := some s.now } else j)
      ∧ KeepsFields [F.RC_STAT_STATE (s.physOf l), F.RC_TASK_RUNNING (s.physOf l), F.RC_TASK_TASK (s.physOf l),
          F.RC_TASK_LCORE (s.physOf l)] s u ∧ KeepsStore s u := by
  unfold startedState at hu
  extract_lets p s2 s3 at hu
  have hcore : s3.coreS p = { pc := e.entry, base := startBase l b, inst := some ⟨l, k, b, e.entry, e.outBase, e.outCount⟩
                              dbgReq := (s.coreS p).dbgReq } := coreS_setCore ..
  have hi : s3.disp.insts = s.disp.insts.map (fun j => if j.is l k b then { j with started := some s.now } else j) := rfl
  have hf : s3.fld = s.fld := rfl
  have hs : KeepsStore s s3 := ⟨rfl, rfl, rfl⟩
  have hp : s.physOf l = p := rfl
  rw [hp]
  clear_value s3 p
  have huc : u.coreS p = s3.coreS p := by rw [hu]; rfl
  have hne : Fd.key (F.RC_STAT_STATE p) ≠ Fd.key (F.RC_TASK_LCORE p) ∧ Fd.key (F.RC_STAT_STATE p) ≠ Fd.key (F.RC_TASK_TASK p)
      ∧ Fd.key (F.RC_STAT_STATE p) ≠ Fd.key (F.RC_TASK_RUNNING p) ∧ Fd.key (F.RC_TASK_RUNNING p) ≠ Fd.key (F.RC_TASK_LCORE p)
      ∧ Fd.key (F.RC_TASK_RUNNING p) ≠ Fd.key (F.RC_TASK_TASK p) := by
    simp only [Fd.key, F.RC_STAT_STATE, F.RC_TASK_LCORE, F.RC_TASK_TASK, F.RC_TASK_RUNNING, A.RC_STAT, A.RC_TASK]
    omega
  obtain ⟨n1, n2, n3, n4, n5⟩ := hne
  rw [huc, hcore]
  refine ⟨rfl, rfl, fun loc r => startBase_get l b loc, ?_, ?_, ?_, ?_, ?_⟩
  · rw [hu, State.get_set_other _ _ n1, State.get_set_other _ _ n2, State.get_set_other _ _ n3]
    exact State.get_set_same s3 (F.RC_STAT_STATE p) rcRUNNING
  · rw [hu, State.get_set_other _ _ n4, State.get_set_other _ _ n5]
    exact State.get_set_same _ (F.RC_TASK_RUNNING p) 1
  · rw [hu]
    exact hi
  · rw [hu]
    exact ((((KeepsFields.of_fld _ hf).set _ (by simp)).set _ (by simp)).set _ (by simp)).set _ (by simp)
  · rw [hu]
    exact ⟨hs.1, hs.2.1, hs.2.2⟩

/-! ## Misses (R46, R47) -/

/-- Every record of run (l, k, b) bears the mark. -/
def Marked (l k b : Nat) (q : Inst → Prop) (s : State) : Prop := ∀ j ∈ s.disp.insts, j.is l k b = true → q j

theorem marked_mapInsts {l k b : Nat} {q : Inst → Prop} {f : Inst → Inst} (hf : ∀ i, q (f i)) (s : State) :
    Marked l k b q (mapInsts (fun j => j.is l k b) f s) ∨ ∃ i, (f i).is l k b ≠ i.is l k b := by
  by_cases h : ∃ i, (f i).is l k b ≠ i.is l k b
  · exact .inr h
  refine .inl fun j hj his => ?_
  obtain ⟨i, _, rfl⟩ := List.mem_map.mp hj
  by_cases hi : i.is l k b = true
  · rw [if_pos hi]
    exact hf i
  · rw [if_neg hi] at his
    exact absurd his hi

theorem Stands.marked {m : Bool} {p l k b : Nat} {q : Inst → Prop} {s w : State} (h : Stands m p s w)
    (hq : ∀ i j, GoesOn i j → q i → q j) (hs : Marked l k b q s) : Marked l k b q w := fun j hj his => by
  obtain ⟨i, hi, hij⟩ := h.insts j hj
  refine hq i j hij (hs i hi ?_)
  obtain ⟨h1, h2, h3, _⟩ := hij
  rw [Inst.is, h1, h2, h3]
  exact his

theorem marked_late (l k b : Nat) (s : State) :
    Marked l k b (fun j => j.late = true) (mapInsts (fun j => j.is l k b) (fun i => { i with late := true }) s) :=
  (marked_mapInsts (q := fun j => j.late = true) (fun _ => rfl) s).resolve_right fun ⟨_, h⟩ => h rfl

theorem late_goesOn : ∀ i j : Inst, GoesOn i j → i.late = true → j.late = true := fun _ _ ⟨_, _, _, h, _⟩ => h

theorem ended_goesOn (e : IEnd) : ∀ i j : Inst, GoesOn i j → i.ended = some e → j.ended = some e := fun _ _ ⟨_, _, _, _, h⟩ => h e

theorem isEnded_goesOn : ∀ i j : Inst, GoesOn i j → i.ended.isSome = true → j.ended.isSome = true := fun _ _ ⟨_, _, _, _, h⟩ hi => by
  obtain ⟨e, he⟩ := Option.isSome_iff_exists.mp hi
  rw [h e he]
  rfl

/-- What a miss leaves standing: all but the registers of misses. -/
theorem stands_noteMiss {p : Nat} (hp : p < 136) (l k b kind : Nat) (s : State) : Stands false p s (noteMiss l k b kind s) := by
  rw [noteMiss_eq]
  exact (stands_missNoted p l k b kind s).trans (stands_noted hp _ (noted_miss _))

/-- A LATE miss where the task has an entry (R46). -/
def lateMissed (l k b : Nat) (e : TaskE) (s : State) : State :=
  fireSuccessors (noteMiss l k b 0 (missTaps l k e b (mapInsts (fun i => i.is l k b) (fun i => { i with late := true }) s)))

theorem lateMiss_some {l k b : Nat} {e : TaskE} {s : State} (h : s.task l k = some e) : lateMiss l k b s = lateMissed l k b e s := by
  unfold lateMiss
  rw [h]
  rfl

theorem stands_lateMiss {p : Nat} (hp : p < 136) (l k b : Nat) (s : State) : Stands false p s (lateMiss l k b s) := by
  unfold lateMiss
  split
  · exact .refl s
  · next e _ =>
    have hmap : Stands false p s (mapInsts (fun i => i.is l k b) (fun i => { i with late := true }) s) := by
      refine stands_mapInsts _ _ ?_ s
      exact fun i _ => ⟨rfl, rfl, rfl, fun _ => rfl, fun _ => id⟩
    generalize mapInsts (fun i => i.is l k b) (fun i => { i with late := true }) s = w at hmap ⊢
    exact ((hmap.trans (stands_missTaps l k e b w)).trans (stands_noteMiss hp ..)).trans (stands_fireSuccessors _)

/-- What a noted miss of run (l, k, b) shows after its report (R46–R48); `s` is the state once the run is marked. -/
theorem noteMiss_shows {l k b kind : Nat} {e : TaskE} (hk : kind < 4) (s : State) {u : State} (hu : u = noteMiss l k b kind (missTaps l k e b s)) :
    u.missRun l k = s.missRun l k + 1
      ∧ u.get F.DISP_MISS_COUNT_COUNT = min (s.get F.DISP_MISS_COUNT_COUNT + 1) (2 ^ Fd.width F.DISP_MISS_COUNT_COUNT - 1)
      ∧ u.get F.DISP_MISS_LAST_VALID = 1 ∧ u.get F.DISP_MISS_LAST_KIND = kind
      ∧ u.get F.DISP_MISS_BREATH_BREATH = b % 2 ^ Fd.width F.DISP_MISS_BREATH_BREATH
      ∧ ∀ x, u.tap x = (missTaps l k e b s).tap x := by
  obtain ⟨h1, h2, h3, h4⟩ := missNoted_shows hk l k b (missTaps l k e b s)
  have hcount : (missTaps l k e b s).get F.DISP_MISS_COUNT_COUNT = s.get F.DISP_MISS_COUNT_COUNT :=
    (stands_missTaps (m := true) (p := 0) l k e b s).fields _ (.inl ⟨rfl, by decide⟩)
  have hraise : ∀ f ∈ missFields, u.get f = (missNoted l k b kind (missTaps l k e b s)).get f := fun f hf => by
    rw [hu, noteMiss_eq]
    exact (stands_noted (m := true) (p := 0) (by decide) _ (noted_miss _)).fields f (.inl ⟨rfl, hf⟩)
  have hview : u.missView = (missTaps l k e b s).missView := by rw [hu]; exact missView_noteMiss ..
  rw [hcount] at h1
  exact ⟨(missRun_congr hview l k).trans (missRun_missTaps ..), (hraise _ (by decide)).trans h1, (hraise _ (by decide)).trans h2,
    (hraise _ (by decide)).trans h3, (hraise _ (by decide)).trans h4, tap_congr hview⟩

theorem lateMissed_does {l k b : Nat} {e : TaskE} (s : State) {u : State} (hu : u = lateMissed l k b e s) :
    Marked l k b (fun j => j.late = true) u ∧ u.missRun l k = s.missRun l k + 1
      ∧ u.get F.DISP_MISS_COUNT_COUNT = min (s.get F.DISP_MISS_COUNT_COUNT + 1) (2 ^ Fd.width F.DISP_MISS_COUNT_COUNT - 1)
      ∧ u.get F.DISP_MISS_LAST_VALID = 1 ∧ u.get F.DISP_MISS_LAST_KIND = 0
      ∧ u.get F.DISP_MISS_BREATH_BREATH = b % 2 ^ Fd.width F.DISP_MISS_BREATH_BREATH
      ∧ (s.missRun l k < 8 → s.tramp l k = .none → ∀ x ∈ e.taps, isTap x = true → (s.tap x).at_ ≤ b →
          u.committed x b = true ∧ (u.tap x).cur = (s.tap x).cur) := by
  obtain ⟨w, hw⟩ : ∃ w, w = mapInsts (fun i => i.is l k b) (fun i => { i with late := true }) s := ⟨_, rfl⟩
  have hmark : Marked l k b (fun j => j.late = true) w := by rw [hw]; exact marked_late l k b s
  have hview : w.missView = s.missView := by rw [hw]; rfl
  have hramp : w.tramp l k = s.tramp l k := by rw [hw]; rfl
  have hget : ∀ f, w.get f = s.get f := fun f => by rw [hw]; rfl
  obtain ⟨v, hv⟩ : ∃ v, v = noteMiss l k b 0 (missTaps l k e b w) := ⟨_, rfl⟩
  obtain ⟨h1, h2, h3, h4, h5, h6⟩ := noteMiss_shows (by decide) w hv
  have hvmark : Marked l k b (fun j => j.late = true) v := by
    rw [hv]
    exact ((stands_missTaps l k e b w).trans (stands_noteMiss (p := 0) (by decide) ..)).marked late_goesOn hmark
  have hlast : u = fireSuccessors v := by rw [hu, hv, hw]; rfl
  have hstand : Stands true 0 v u := by rw [hlast]; exact stands_fireSuccessors v
  have huview : u.missView = v.missView := by rw [hlast]; exact missView_fire _ v
  have hf : ∀ f ∈ missFields, u.get f = v.get f := fun f hf => hstand.fields f (.inl ⟨rfl, hf⟩)
  rw [hget] at h2
  refine ⟨hstand.marked late_goesOn hvmark, ?_, (hf _ (by decide)).trans h2, (hf _ (by decide)).trans h3, (hf _ (by decide)).trans h4,
    (hf _ (by decide)).trans h5, fun hm hr x hx ht hat => ?_⟩
  · rw [missRun_congr huview, h1, missRun_congr hview]
  · have hwt := tap_congr hview x
    obtain ⟨k1, k2⟩ := missTaps_repeats (e := e) (s := w) (b := b) (by rw [missRun_congr hview]; exact hm) (by rw [hramp]; exact hr) hx ht
      (by rw [hwt]; exact hat)
    rw [State.committed, tap_congr huview, h6, k1, k2, hwt]
    exact ⟨beq_self_eq_true _, rfl⟩

/-- An UNTRIGGERED miss (R46). -/
def untriggered (l k b : Nat) (e : TaskE) (s : State) : State :=
  gateCheck l (fireSuccessors (noteMiss l k b 1
    (missTaps l k e b (mapInsts (fun j => j.is l k b) (fun j => { j with ended := some .untriggered }) s))))

theorem untriggered_does {l k b : Nat} {e : TaskE} (s : State) {u : State} (hu : u = untriggered l k b e s) :
    Marked l k b (fun j => j.ended = some .untriggered) u ∧ u.missRun l k = s.missRun l k + 1
      ∧ u.get F.DISP_MISS_LAST_VALID = 1 ∧ u.get F.DISP_MISS_LAST_KIND = 1
      ∧ u.get F.DISP_MISS_BREATH_BREATH = b % 2 ^ Fd.width F.DISP_MISS_BREATH_BREATH := by
  obtain ⟨w, hw⟩ : ∃ w, w = mapInsts (fun j => j.is l k b) (fun j => { j with ended := some .untriggered }) s := ⟨_, rfl⟩
  have hmark : Marked l k b (fun j => j.ended = some .untriggered) w := by
    rw [hw]
    exact (marked_mapInsts (q := fun j => j.ended = some .untriggered) (fun _ => rfl) s).resolve_right fun ⟨_, h⟩ => h rfl
  have hview : w.missView = s.missView := by rw [hw]; rfl
  obtain ⟨v, hv⟩ : ∃ v, v = noteMiss l k b 1 (missTaps l k e b w) := ⟨_, rfl⟩
  obtain ⟨h1, _, h3, h4, h5, _⟩ := noteMiss_shows (by decide) w hv
  have hvmark : Marked l k b (fun j => j.ended = some .untriggered) v := by
    rw [hv]
    exact ((stands_missTaps l k e b w).trans (stands_noteMiss (p := 0) (by decide) ..)).marked (ended_goesOn _) hmark
  have hlast : u = gateCheck l (fireSuccessors v) := by rw [hu, hv, hw]; rfl
  have hstand : Stands true 0 v u := by rw [hlast]; exact (stands_fireSuccessors v).trans (stands_gateCheck ..)
  have huview : u.missView = v.missView := by rw [hlast]; exact (missView_gateCheck ..).trans (missView_fire _ v)
  have hf : ∀ f ∈ missFields, u.get f = v.get f := fun f hf => hstand.fields f (.inl ⟨rfl, hf⟩)
  exact ⟨hstand.marked (ended_goesOn _) hvmark, by rw [missRun_congr huview, h1, missRun_congr hview], (hf _ (by decide)).trans h3,
    (hf _ (by decide)).trans h4, (hf _ (by decide)).trans h5⟩

/-- The deadline of a fenced run: it counts as late, and nothing is reported (R59). -/
theorem fencedLate_does (l k b : Nat) (s : State) {u : State}
    (hu : u = fireSuccessors (mapInsts (fun j => j.is l k b) (fun j => { j with late := true }) s)) :
    Marked l k b (fun j => j.late = true) u ∧ u.disp.misses = s.disp.misses ∧ u.fcu = s.fcu
      ∧ u.get F.DISP_MISS_COUNT_COUNT = s.get F.DISP_MISS_COUNT_COUNT ∧ KeepsStore s u := by
  obtain ⟨w, hw⟩ : ∃ w, w = mapInsts (fun j => j.is l k b) (fun j => { j with late := true }) s := ⟨_, rfl⟩
  have hmark : Marked l k b (fun j => j.late = true) w := by rw [hw]; exact marked_late l k b s
  have hparts : w.disp.misses = s.disp.misses ∧ w.fcu = s.fcu ∧ w.fld = s.fld ∧ KeepsStore s w := by rw [hw]; exact ⟨rfl, rfl, rfl, rfl, rfl, rfl⟩
  obtain ⟨h1, h2, h3, h4⟩ := hparts
  rw [← hw] at hu
  have hstand : Stands true 0 w u := by rw [hu]; exact stands_fireSuccessors w
  have hview : u.missView = w.missView := by rw [hu]; exact missView_fire _ w
  obtain ⟨x, d, hfires⟩ : FiresOnly w u := by rw [hu]; exact firesOnly_fire _ w
  refine ⟨hstand.marked late_goesOn hmark, (congrArg Prod.fst hview).trans h1, ?_, ?_, ?_⟩
  · rw [hfires]
    exact h2
  · rw [hstand.fields _ (.inl ⟨rfl, by decide⟩)]
    exact State.get_congr h3 _
  · rw [hfires]
    exact ⟨h4.1, h4.2.1, h4.2.2⟩

end Sys2Proof.Machine
end

section
/-!
ENDINGS OF INSTANCES. A core is set aside, its run completes or is aborted (R46, R48, R90, R91).
-/
namespace Sys2Proof.Machine

/-! ## Work of a core -/

/-- The core's own work leaves the registers outside it but its counts, the taps, time and the records of tasks and instances. -/
structure CoreWork (p : Nat) (s w : State) : Prop where
  fields : ∀ f : Fd, f.lsb < 32 → f.addr < 0x40030000 → f.addr % 0x100000000 ≠ 0x20050084 → w.get f = s.get f
  clock  : w.now = s.now ∧ w.time = s.time ∧ w.disp.base = s.disp.base
  taps   : w.mtx = s.mtx ∧ w.rvc = s.rvc
  tasks  : w.disp.tasks = s.disp.tasks ∧ w.disp.misses = s.disp.misses ∧ w.disp.tramp = s.disp.tramp
  insts  : w.disp.insts = s.disp.insts
  inst   : (w.coreS p).inst = (s.coreS p).inst

section
variable {p : Nat}

theorem CoreWork.refl (s : State) : CoreWork p s s := ⟨fun _ _ _ _ => rfl, ⟨rfl, rfl, rfl⟩, ⟨rfl, rfl⟩, ⟨rfl, rfl, rfl⟩, rfl, rfl⟩

theorem CoreWork.trans {s w x : State} (h : CoreWork p s w) (k : CoreWork p w x) : CoreWork p s x := by
  obtain ⟨h1, ⟨h2, h3, h4⟩, ⟨h5, h6⟩, ⟨h7, h8, h9⟩, h10, h11⟩ := h
  obtain ⟨k1, ⟨k2, k3, k4⟩, ⟨k5, k6⟩, ⟨k7, k8, k9⟩, k10, k11⟩ := k
  exact ⟨fun f ha hb hc => (k1 f ha hb hc).trans (h1 f ha hb hc), ⟨k2.trans h2, k3.trans h3, k4.trans h4⟩, ⟨k5.trans h5, k6.trans h6⟩,
    ⟨k7.trans h7, k8.trans h8, k9.trans h9⟩, k10.trans h10, k11.trans h11⟩

theorem CoreWork.ite {s x y : State} {c : Prop} [Decidable c] (hx : CoreWork p s x) (hy : CoreWork p s y) :
    CoreWork p s (if c then x else y) := by
  split
  · exact hx
  · exact hy

theorem CoreWork.set (s : State) {f : Fd} (v : Nat) (hl : f.lsb < 32) (ha : 0x40030000 ≤ f.addr ∨ f.addr % 0x100000000 = 0x20050084) :
    CoreWork p s (s.set f v) := by
  refine ⟨fun g hg h1 h2 => State.get_set_other _ _ (Fd.key_ne hg hl (.inl fun e => ?_)), ⟨rfl, rfl, rfl⟩, ⟨rfl, rfl⟩, ⟨rfl, rfl, rfl⟩, rfl, rfl⟩
  rw [e] at h1 h2
  rcases ha with ha | ha
  · omega
  · exact h2 ha

theorem CoreWork.setCore (s : State) {x : CoreS} (hx : x.inst = (s.coreS p).inst) : CoreWork p s (s.setCore p x) :=
  ⟨fun _ _ _ _ => rfl, ⟨rfl, rfl, rfl⟩, ⟨rfl, rfl⟩, ⟨rfl, rfl, rfl⟩, rfl, (congrArg CoreS.inst (coreS_setCore p x s)).trans hx⟩

theorem CoreWork.task {s w : State} (h : CoreWork p s w) (l k : Nat) : w.task l k = s.task l k := by
  rw [State.task, h.tasks.1, State.task]

theorem CoreWork.since {s w : State} (h : CoreWork p s w) (n : Nat) : w.since n = s.since n := by
  obtain ⟨hnow, htime, hbase⟩ := h.clock
  have hf : ∀ f : Fd, f.lsb < 32 → f.addr < 0x20050084 → w.get f = s.get f := fun f hl ha =>
    h.fields f hl (by omega) (by omega)
  have hdev : w.dev = s.dev := State.dev_congr hnow htime (h.fields _ (by decide) (by decide) (by decide))
  have hat : w.breathAt n = s.breathAt n := by
    simp only [State.breathAt, State.anchor, State.fs, State.mode, hbase, hf _ (by decide : (F.DISP_ANCHOR_HI_NS_HI).lsb < 32) (by decide),
      hf _ (by decide : (F.DISP_ANCHOR_LO_NS_LO).lsb < 32) (by decide), hf _ (by decide : (F.DISP_ANCHOR_FRAC_FRAC).lsb < 32) (by decide),
      hf _ (by decide : (F.SYS_MODE_STAT_CUR).lsb < 32) (by decide)]
  rw [State.since, hdev, hat, State.since]

theorem coreWork_countCycles (l n : Nat) (s : State) : CoreWork p s (countCycles p l n s) := by
  unfold countCycles
  extract_lets x tot d w
  have hw : CoreWork p s w := by
    refine .trans (w := { s with disp := { s.disp with cycles := mset 0 l tot s.disp.cycles } }) ?_ (.setCore _ rfl)
    exact ⟨fun _ _ _ _ => rfl, ⟨rfl, rfl, rfl⟩, ⟨rfl, rfl⟩, ⟨rfl, rfl, rfl⟩, rfl, rfl⟩
  exact hw.trans (.set _ _ (by simp [F.DISP_CORE_STAT_BUSY_MAX]) (.inr (by simp only [F.DISP_CORE_STAT_BUSY_MAX, A.DISP_CORE_STAT]; omega)))

theorem coreWork_countCore (s : State) : CoreWork p s (countCore p s) := by
  unfold countCore
  split
  · exact coreWork_countCycles ..
  · exact .refl s

theorem coreWork_coreWrite (c a : Nat) (bs : List Byte) (s : State) : CoreWork p s (coreWrite c a bs s) := by
  have hset : CoreWork p s (s.setBytes a bs) := by
    obtain ⟨m, h⟩ := s.setBytes_only a bs
    rw [h]
    exact ⟨fun _ _ _ _ => rfl, ⟨rfl, rfl, rfl⟩, ⟨rfl, rfl⟩, ⟨rfl, rfl, rfl⟩, rfl, rfl⟩
  unfold coreWrite
  extract_lets w
  have hw : CoreWork p s w := hset
  clear_value w
  split
  · refine .ite (hw.trans ?_) hw
    exact ⟨fun _ _ _ _ => rfl, ⟨rfl, rfl, rfl⟩, ⟨rfl, rfl⟩, ⟨rfl, rfl, rfl⟩, rfl, rfl⟩
  · exact hw

theorem coreWork_leaveMem (s : State) : CoreWork p s (leaveMem p s) := by
  have hfold : ∀ (l : List (Nat × List Byte)) (w : State), CoreWork p w (l.foldl (fun u e => coreWrite p e.1 e.2 u) w) := fun l => by
    induction l with
    | nil => exact fun w => .refl w
    | cons e l ih => exact fun w => (coreWork_coreWrite p e.1 e.2 w).trans (ih _)
  have hland : CoreWork p s (landY p s) :=
    (CoreWork.setCore s (x := { s.coreS p with yext := [] }) rfl).trans (hfold (s.coreS p).yext _)
  exact hland.trans (.setCore _ rfl)

theorem coreWork_gatherFlags (c : Nat) (s : State) : CoreWork p s (gatherFlags p c s) := by
  have hrc : ∀ f ∈ [F.RC_FLAGS_ASAT p, F.RC_FLAGS_SAT p, F.RC_FLAGS_TAPE p], ∀ v (w : State), CoreWork p w (w.set f v) := by
    intro f hf v w
    simp only [List.mem_cons, List.not_mem_nil, or_false] at hf
    refine .set w v ?_ (.inl ?_)
    · rcases hf with rfl | rfl | rfl <;> simp [F.RC_FLAGS_ASAT, F.RC_FLAGS_SAT, F.RC_FLAGS_TAPE]
    · rcases hf with rfl | rfl | rfl <;> simp only [F.RC_FLAGS_ASAT, F.RC_FLAGS_SAT, F.RC_FLAGS_TAPE, A.RC_FLAGS] <;> omega
  have h1 := hrc (F.RC_FLAGS_ASAT p) (by simp) (s.get (F.RC_FLAGS_ASAT p) ||| c % 16) s
  unfold gatherFlags
  extract_lets w x
  have hx : CoreWork p s x := .ite (h1.trans (hrc _ (by simp) 1 w)) h1
  exact .ite (hx.trans (hrc _ (by simp) 1 x)) hx

theorem coreWork_noteCycles (l n : Nat) (slack : Int) (s : State) : CoreWork p s (noteCycles p l n slack s) := by
  unfold noteCycles
  extract_lets w
  have hw : CoreWork p s w := (coreWork_countCycles l n s).trans
    (.set _ _ (by simp [F.RC_CYCLES_CYCLES]) (.inl (by simp only [F.RC_CYCLES_CYCLES, A.RC_CYCLES]; omega)))
  exact hw.trans (.set _ _ (by simp [F.DISP_CORE_STAT_SLACK_MIN]) (.inr (by simp only [F.DISP_CORE_STAT_SLACK_MIN, A.DISP_CORE_STAT]; omega)))

end

/-- Ending what has not ended of a task run ends every record of it. -/
theorem marked_ended (l k b : Nat) (e : IEnd) (s : State) : Marked l k b (fun j => j.ended.isSome = true)
    (mapInsts (fun j => j.is l k b && j.ended.isNone) (fun j => { j with ended := some e }) s) := by
  intro j hj his
  obtain ⟨a, _, rfl⟩ := List.mem_map.mp hj
  by_cases ha : (a.is l k b && a.ended.isNone) = true
  · rw [if_pos ha]
    rfl
  · rw [if_neg ha] at his ⊢
    rw [his, Bool.true_and, Option.isNone_iff_eq_none] at ha
    exact Option.isSome_iff_ne_none.mpr ha

/-- A core leaves its run, which ends (R90, R91). -/
theorem abandon_does {p : Nat} {e : IEnd} {i : InstRef} {s : State} (hi : (s.coreS p).inst = some i) {u : State} (hu : u = abandon p e s) :
    (u.coreS p).inst = none ∧ u.get (F.RC_TASK_RUNNING p) = 0 ∧ Marked i.lcore i.task i.breath (fun j => j.ended.isSome = true) u
      ∧ (∀ f, ClassFd f → u.get f = s.get f) ∧ u.mtx = s.mtx ∧ u.rvc = s.rvc ∧ u.disp.tasks = s.disp.tasks ∧ u.disp.tramp = s.disp.tramp := by
  unfold abandon at hu
  extract_lets w x v y at hu
  have hw : CoreWork p s w := (coreWork_countCore s).trans (coreWork_leaveMem _)
  have hxi : x.inst = some i := hw.inst.trans hi
  have hv : v.fld = w.fld ∧ v.mtx = w.mtx ∧ v.rvc = w.rvc ∧ v.disp.tasks = w.disp.tasks ∧ v.disp.tramp = w.disp.tramp
      ∧ Marked i.lcore i.task i.breath (fun j => j.ended.isSome = true) v := by
    unfold v
    rw [hxi]
    exact ⟨rfl, rfl, rfl, rfl, rfl, marked_ended i.lcore i.task i.breath e w⟩
  obtain ⟨hvf, hvm, hvr, hvt, hvp, hmark⟩ := hv
  have hyc : (y.coreS p).inst = none := congrArg CoreS.inst (coreS_setCore ..)
  have hyv : y.fld = v.fld ∧ y.mtx = v.mtx ∧ y.rvc = v.rvc ∧ y.disp = v.disp := ⟨rfl, rfl, rfl, rfl⟩
  obtain ⟨hyf, hym, hyr, hyd⟩ := hyv
  clear_value y v x w
  obtain ⟨z, hz, hzc, hzm, hzr, hzd, hzf⟩ : ∃ z : State, u = z.set (F.RC_TASK_RUNNING p) 0 ∧ z.core = y.core ∧ z.mtx = y.mtx ∧ z.rvc = y.rvc
      ∧ z.disp = y.disp ∧ ∀ f, ClassFd f → z.get f = y.get f := by
    refine ⟨_, hu, ?_, ?_, ?_, ?_, fun f hf => ?_⟩
    · split <;> rfl
    · split <;> rfl
    · split <;> rfl
    · split <;> rfl
    · split
      · refine State.get_set_other _ _ (Fd.key_ne hf.1 (by simp [F.RC_STAT_STATE]) (.inl ?_))
        have := hf.2
        simp only [F.RC_STAT_STATE, A.RC_STAT]
        omega
      · rfl
  rw [hz]
  refine ⟨?_, State.get_set_same .., ?_, fun f hf => ?_, hzm.trans (hym.trans (hvm.trans hw.taps.1)), hzr.trans (hyr.trans (hvr.trans hw.taps.2)),
    ?_, ?_⟩
  · rw [← hyc, State.coreS, State.coreS, ← hzc]
    rfl
  · intro j hj
    exact hmark j (by rw [← hyd, ← hzd]; exact hj)
  · obtain ⟨hl, h1, h2⟩ := hf
    rw [State.get_set_other _ _ (Fd.key_ne hl (by simp [F.RC_TASK_RUNNING]) (.inl (by simp only [F.RC_TASK_RUNNING, A.RC_TASK]; omega))),
      hzf f ⟨hl, h1, h2⟩, State.get_congr hyf, State.get_congr hvf]
    exact hw.fields f hl (by omega) (by omega)
  · exact (congrArg DispS.tasks (hzd.trans hyd)).trans (hvt.trans hw.tasks.1)
  · exact (congrArg DispS.tramp (hzd.trans hyd)).trans (hvp.trans hw.tasks.2.2)

/-! ## Completion (R90) -/

/-- A completion in time ends the run and commits its taps; any completion leaves the core. -/
theorem complete_does {p : Nat} {i : InstRef} {s : State} (hi : (s.coreS p).inst = some i) (he : (s.coreS p).ending = true)
    {u : State} (hu : u = complete p s) :
    (u.coreS p).inst = none ∧ ∀ e, s.task i.lcore i.task = some e → s.since i.breath ≤ ((e.deadline * 256 : Nat) : Int) →
      s.disp.insts.any (fun j => j.is i.lcore i.task i.breath && j.late) = false →
      u.get (F.RC_TASK_RUNNING p) = 0 ∧ u.missRun i.lcore i.task = 0
        ∧ Marked i.lcore i.task i.breath (fun j => j.ended.isSome = true) u
        ∧ (∀ x ∈ e.taps, isTap x = true → (s.tap x).at_ ≤ i.breath → u.committed x i.breath = true)
        ∧ (∀ x v, x ∈ e.taps → isTap x = true → (s.tap x).at_ ≤ i.breath → s.tramp i.lcore i.task = .none → s.tapOwner x = none →
            (s.coreS p).twr.find? (fun q => q.1 == x) = some (x, v) → (u.tap x).cur = v) := by
  unfold complete at hu
  extract_lets x0 s1 at hu
  rw [show x0.inst = some i from hi] at hu
  dsimp -zeta only at hu
  rw [if_neg (by rw [show x0.ending = true from he]; decide)] at hu
  have htwr : x0.twr = (s.coreS p).twr := rfl
  extract_lets dl s2 late s3 s4 s5 at hu
  have h1 : CoreWork p s s1 := coreWork_gatherFlags _ s
  clear_value s1 x0
  have hc2 : (s2.coreS p).inst = some i := by
    unfold s2
    split
    · rw [State.coreS, (stands_lateMiss (p := 0) (by decide) i.lcore i.task i.breath s1).core]
      exact h1.inst.trans hi
    · exact h1.inst.trans hi
  have h3 : CoreWork p s2 s3 := coreWork_noteCycles ..
  obtain ⟨hinst, hrun, hmark, _, hmtx, hrvc, htask, htramp⟩ := abandon_does (p := p) (i := i) (h3.inst.trans hc2) (rfl : s4 = abandon p .completed s3)
  have hend : ∀ v : State, Stands true p v (gateCheck i.lcore (fireSuccessors v))
      ∧ (gateCheck i.lcore (fireSuccessors v)).missView = v.missView := fun v =>
    ⟨(stands_fireSuccessors v).trans (stands_gateCheck ..), (missView_gateCheck ..).trans (missView_fire _ v)⟩
  have h5 : Stands true p s4 s5 := by
    unfold s5
    split
    · exact .refl s4
    · split
      · exact stands_completeTaps ..
      · exact .refl s4
  refine ⟨?_, fun e het hin hlate => ?_⟩
  · rw [hu, State.coreS, (hend s5).1.core, h5.core]
    exact hinst
  have hdl : dl = e.deadline := by
    unfold dl
    rw [h1.task, het]
  have h2 : s2 = s1 := by
    unfold s2
    rw [hdl, h1.since, decide_eq_false (Int.not_lt.mpr hin)]
    exact if_neg Bool.false_ne_true
  have hlate0 : late = false := by
    unfold late
    rw [h2, h1.insts, hlate]
  have hwork : CoreWork p s s3 := h1.trans (h2 ▸ h3)
  have h4task : s4.task i.lcore i.task = some e := by
    rw [State.task, htask, hwork.tasks.1]
    exact het
  have h5eq : s5 = completeTaps i.lcore i.task e i.breath x0.twr s4 := by
    unfold s5
    rw [hlate0, if_neg Bool.false_ne_true, h4task]
  have htap : ∀ x, s4.tap x = s.tap x := fun x => by rw [State.tap, hmtx, hwork.taps.1, State.tap]
  obtain ⟨k1, k2, k3⟩ := completeTaps_does (l := i.lcore) (k := i.task) (b := i.breath) (e := e) x0.twr s4
  rw [← h5eq] at k1 k2 k3
  obtain ⟨hs, hview⟩ := hend s5
  have hall := h5.trans hs
  rw [← hu] at hall hview
  refine ⟨(hall.fields _ (.inr (.inr (.inl rfl)))).trans hrun, (missRun_congr hview ..).trans k1, hall.marked isEnded_goesOn hmark,
    fun x hx ht hat => ?_, fun x v hx ht hat hr ho hq => ?_⟩
  · rw [State.committed, tap_congr hview, k2 x hx ht (by rw [htap]; exact hat)]
    exact beq_self_eq_true _
  · rw [tap_congr hview]
    refine k3 x v hx ht (by rw [htap]; exact hat) ?_ ?_ (by rw [htwr]; exact hq)
    · rw [State.tramp, htramp, hwork.tasks.2.2]
      exact hr
    · rw [State.tapOwner, hrvc, hwork.taps.2]
      exact ho

/-! ## Aborts (R91) -/

/-- An aborted run shows RUNAWAY, and leaves what it meets standing. -/
theorem abortEnd_does {p : Nat} (hp : p < 136) (l k b : Nat) {s : State} (hc : s.classOf 5 = 0) {u : State} (hu : u = abortEnd p l k b s) :
    u.get (F.RC_FLAGS_RUNAWAY p) = 1 ∧ u.classOf 5 = 0 ∧ u.core = s.core
      ∧ ∀ a c d, Marked a c d (fun j => j.ended.isSome = true) s → Marked a c d (fun j => j.ended.isSome = true) u := by
  unfold abortEnd at hu
  extract_lets late w x at hu
  have hw : w.get (F.RC_FLAGS_RUNAWAY p) = 1 ∧ w.core = s.core ∧ w.disp = s.disp ∧ w.classOf 5 = 0 := by
    refine ⟨State.get_set_same s (F.RC_FLAGS_RUNAWAY p) 1, rfl, rfl, ?_⟩
    rw [← hc]
    refine State.get_set_other s 1 (Fd.key_ne (f := F.FCU_CLASS_CLASS 0 5) (g := F.RC_FLAGS_RUNAWAY p) (by decide)
      (by simp [F.RC_FLAGS_RUNAWAY]) (.inl ?_))
    simp only [F.FCU_CLASS_CLASS, A.FCU_CLASS, F.RC_FLAGS_RUNAWAY, A.RC_FLAGS]
    omega
  have hx : Stands false p w x := .ite (.refl w) (stands_lateMiss hp l k b w)
  clear_value w x
  obtain ⟨h1, h2, h3, h4⟩ := hw
  have hy : Stands false p w (fireSuccessors x) := hx.trans (stands_fireSuccessors x)
  have hz : Stands false p w u := by
    rw [hu]
    exact (hy.trans (stands_noted hp p (noted_runaway ((hy.classOf (by decide)).trans h4)))).trans (stands_gateCheck ..)
  refine ⟨(hz.fields _ (.inr (.inl rfl))).trans h1, (hz.classOf (by decide)).trans h4, hz.core.trans h2, fun a c d hm => ?_⟩
  exact hz.marked isEnded_goesOn fun j hj => hm j (by rw [← h3]; exact hj)

/-- One waiting run ends. -/
def abortStep (p : Nat) (u : State) (i : Inst) : State :=
  abortEnd p i.lcore i.task i.breath
    (mapInsts (fun j => j.is i.lcore i.task i.breath && j.ended.isNone) (fun j => { j with ended := some .aborted }) u)

theorem abortStep_does {p : Nat} (hp : p < 136) (i : Inst) {s : State} (hc : s.classOf 5 = 0) {u : State} (hu : u = abortStep p s i) :
    u.get (F.RC_FLAGS_RUNAWAY p) = 1 ∧ u.classOf 5 = 0 ∧ u.core = s.core
      ∧ Marked i.lcore i.task i.breath (fun j => j.ended.isSome = true) u
      ∧ ∀ a c d, Marked a c d (fun j => j.ended.isSome = true) s → Marked a c d (fun j => j.ended.isSome = true) u := by
  obtain ⟨w, hw⟩ : ∃ w, w = mapInsts (fun j => j.is i.lcore i.task i.breath && j.ended.isNone) (fun j => { j with ended := some .aborted }) s :=
    ⟨_, rfl⟩
  have hfld : w.fld = s.fld ∧ w.core = s.core := by rw [hw]; exact ⟨rfl, rfl⟩
  obtain ⟨hf, hcore⟩ := hfld
  have hmark : Marked i.lcore i.task i.breath (fun j => j.ended.isSome = true) w := by
    rw [hw]
    exact marked_ended i.lcore i.task i.breath .aborted s
  have hkeep : ∀ a c d, Marked a c d (fun j => j.ended.isSome = true) s → Marked a c d (fun j => j.ended.isSome = true) w := by
    intro a c d hm j hj his
    rw [hw] at hj
    obtain ⟨x, hx, rfl⟩ := List.mem_map.mp hj
    split
    · rfl
    · next h =>
      rw [if_neg h] at his
      exact hm x hx his
  obtain ⟨h1, h2, h3, h4⟩ := abortEnd_does hp i.lcore i.task i.breath (s := w) ((State.get_congr hf _).trans hc) (u := u)
    (by rw [hu, hw]; rfl)
  exact ⟨h1, h2, h3.trans hcore, h4 _ _ _ hmark, fun a c d hm => h4 a c d (hkeep a c d hm)⟩

theorem abortSteps_do {p : Nat} (hp : p < 136) (L : List Inst) {s : State} (hc : s.classOf 5 = 0) :
    (L.foldl (abortStep p) s).core = s.core
      ∧ (s.get (F.RC_FLAGS_RUNAWAY p) = 1 ∨ L ≠ [] → (L.foldl (abortStep p) s).get (F.RC_FLAGS_RUNAWAY p) = 1)
      ∧ (∀ a c d, Marked a c d (fun j => j.ended.isSome = true) s → Marked a c d (fun j => j.ended.isSome = true) (L.foldl (abortStep p) s))
      ∧ ∀ i ∈ L, Marked i.lcore i.task i.breath (fun j => j.ended.isSome = true) (L.foldl (abortStep p) s) := by
  induction L generalizing s with
  | nil => exact ⟨rfl, fun h => h.resolve_right fun h => h rfl, fun _ _ _ h => h, fun _ h => absurd h List.not_mem_nil⟩
  | cons x L ih =>
    obtain ⟨h1, h2, h3, h4, h5⟩ := abortStep_does hp x hc rfl
    obtain ⟨k1, k2, k3, k4⟩ := ih h2
    refine ⟨k1.trans h3, fun _ => k2 (.inl h1), fun a c d hm => k3 a c d (h5 a c d hm), fun i hi => ?_⟩
    rcases List.mem_cons.mp hi with rfl | hi
    · exact k3 _ _ _ h4
    · exact k4 i hi

/-- An abort of the run that a core executes. -/
theorem abort_running {p : Nat} {i : InstRef} {e : TaskE} {s : State} (hp : p < 136) (hi : (s.coreS p).inst = some i)
    (het : s.task i.lcore i.task = some e) (hdue : ((e.deadline * 256 + s.period : Nat) : Int) ≤ s.since i.breath) (hc : s.classOf 5 = 0) :
    ((abort p s).coreS p).inst = none ∧ (abort p s).get (F.RC_FLAGS_RUNAWAY p) = 1
      ∧ Marked i.lcore i.task i.breath (fun j => j.ended.isSome = true) (abort p s) := by
  have hrun : abortRunning p s = abortEnd p i.lcore i.task i.breath (abandon p .aborted s) := by
    unfold abortRunning
    rw [hi]
    dsimp only
    rw [het]
    exact if_neg (Int.not_lt.mpr hdue)
  obtain ⟨hinst, _, hmark, hcls, _⟩ := abandon_does hi (rfl : abandon p .aborted s = abandon p .aborted s)
  have hc1 : (abandon p .aborted s).classOf 5 = 0 := (hcls (F.FCU_CLASS_CLASS 0 5) ⟨by decide, by decide, by decide⟩).trans hc
  obtain ⟨h1, h2, h3, h4⟩ := abortEnd_does hp i.lcore i.task i.breath hc1 hrun
  obtain ⟨k1, k2, k3, _⟩ := abortSteps_do hp ((abortRunning p s).disp.insts.filter
    (fun j => j.ready && (abortRunning p s).physOf j.lcore == p && (abortRunning p s).overdue j)) h2
  refine ⟨?_, k2 (.inl h1), k3 _ _ _ (h4 _ _ _ hmark)⟩
  have hcore : (abort p s).core = (abandon p .aborted s).core := k1.trans h3
  rw [State.coreS, hcore]
  exact hinst

/-- An abort of a task run that waits for its core. -/
theorem abort_waiting {p : Nat} {i : Inst} {s : State} (hp : p < 136) (hn : (s.coreS p).inst = none) (hi : i ∈ s.disp.insts)
    (hr : i.ready = true) (hphys : s.physOf i.lcore = p) (hdue : s.overdue i = true) (hc : s.classOf 5 = 0) :
    (abort p s).get (F.RC_FLAGS_RUNAWAY p) = 1 ∧ Marked i.lcore i.task i.breath (fun j => j.ended.isSome = true) (abort p s) := by
  have hrun : abortRunning p s = s := by
    unfold abortRunning
    rw [hn]
  have hmem : i ∈ s.disp.insts.filter (fun j => j.ready && s.physOf j.lcore == p && s.overdue j) :=
    List.mem_filter.mpr ⟨hi, by rw [hr, hphys, hdue, beq_self_eq_true]; rfl⟩
  obtain ⟨_, k2, _, k4⟩ := abortSteps_do hp (s.disp.insts.filter (fun j => j.ready && s.physOf j.lcore == p && s.overdue j)) hc
  have habort : abort p s = (s.disp.insts.filter (fun j => j.ready && s.physOf j.lcore == p && s.overdue j)).foldl (abortStep p) s := by
    unfold abort
    rw [hrun]
    rfl
  rw [habort]
  exact ⟨k2 (.inr (List.ne_nil_of_mem hmem)), k4 i hmem⟩

end Sys2Proof.Machine

open Sys2Proof Sys2Proof.Machine

/-- Settles O30: a miss, a completion and an abort leave standing what they mark, through the firing of successors and the reports. -/
theorem instanceRowsComplete : Obligations.InstanceRowsComplete := by
  unfold Obligations.InstanceRowsComplete
  have hrc : ∀ (f : Fd), f.lsb < 32 → 0x20160000 ≤ f.addr → Fd.quiet f = true := fun f hl ha => Fd.quiet_of_block hl (.inr ha)
  have hcore : ∀ (s w : State) (p : Nat), (sumTick s w).coreS p = w.coreS p := fun s w p => by rw [State.coreS, sumTick_core, State.coreS]
  have hrun : ∀ (s w : State) (l k : Nat), (sumTick s w).missRun l k = w.missRun l k := fun s w l k => by
    rw [State.missRun, sumTick_disp, State.missRun]
  have htap : ∀ (s w : State) (x : Nat), (sumTick s w).tap x = w.tap x := fun s w x => by rw [State.tap, sumTick_mtx, State.tap]
  have hcom : ∀ (s w : State) (x b : Nat), (sumTick s w).committed x b = w.committed x b := fun s w x b => by
    rw [State.committed, htap, State.committed]
  have hsleep : ∀ (s w : State) (c : Nat), (sumTick s w).sleepOf c = w.sleepOf c := fun s w c => by rw [State.sleepOf, sumTick_disp, State.sleepOf]
  refine ⟨?_, ?_, ?_, ?_, ?_, ?_, ?_, ?_, ?_⟩
  · intro l k b t e i s ha htask hkind hi his hw hreach
    obtain ⟨_, h1, h2, h3, h4, h5⟩ := fire_time (s := s.atTime t)
      (q := fun i e => i.is l k b && e.kind == .time && (s.atTime t).reached b (e.arg % 65536)) htask hkind hi his hw
      (by rw [his, hkind, hreach]; rfl) fun j a h => by
        rw [Bool.and_eq_true, Bool.and_eq_true] at h
        exact h.1.1
    refine ⟨_, done_alive _ ha, ?_, (hsleep ..).trans h2, fun c hc => (hsleep ..).trans (h3 c hc), KeepsFields.sumTick (s := s) _ h4,
      KeepsStore.sumTick (s := s) _ h5⟩
    rw [sumTick_disp]
    exact h1
  · intro l t e i s ha hi hl hw htask hto hg
    have hgo : ((s.atTime t).instsOf (fun i _ => i.lcore == l && i.waits)).any (fun x => decide ((s.atTime t).toWake x.2 x.1.breath ≤ 0)) = true := by
      refine List.any_eq_true.mpr ⟨(i, e), List.mem_filterMap.mpr ⟨i, hi, Option.bind_eq_some_iff.mpr ⟨e, ?_, ?_⟩⟩, decide_eq_true hto⟩
      · rw [hl]
        exact htask
      · exact if_pos (show (i.lcore == l && i.waits) = true by rw [hl, hw, beq_self_eq_true]; rfl)
    have hexec : execCoreWake l t s = done s (wake l (s.atTime t)) := by
      unfold execCoreWake
      dsimp only
      rw [if_pos hgo]
    obtain ⟨h1, h2, h3, _, h5, h6, _⟩ := wake_gated (s := s.atTime t) hg rfl
    refine ⟨_, hexec.trans (done_alive _ ha), (hsleep ..).trans h1, ?_, ?_, KeepsFields.sumTick (s := s) _ h5, KeepsStore.sumTick (s := s) _ h6⟩
    · rw [sumTick_disp]
      exact h2
    · rw [sumTick_disp]
      exact h3
  · intro l k b t e i s ha htask hfind hmay
    have hexec : execInstanceStart l k b t s = done s (startedState l k b e (s.atTime t)) := by
      unfold execInstanceStart
      dsimp only
      rw [show (s.atTime t).disp.insts.find? (fun i => i.is l k b) = some i from hfind, show (s.atTime t).task l k = some e from htask]
      dsimp only
      rw [if_pos hmay]
      rfl
    obtain ⟨h1, h2, h3, h4, h5, h6, h7, h8⟩ := startedState_does l k b e (s.atTime t) rfl
    refine ⟨_, hexec.trans (done_alive _ ha), ?_, ?_, fun loc r => ?_,
      (sumTick_get _ _ (hrc _ (by simp [F.RC_STAT_STATE]) (by simp only [F.RC_STAT_STATE, A.RC_STAT]; omega))).trans h4,
      (sumTick_get _ _ (hrc _ (by simp [F.RC_TASK_RUNNING]) (by simp only [F.RC_TASK_RUNNING, A.RC_TASK]; omega))).trans h5, ?_,
      KeepsFields.sumTick (s := s) _ h7, KeepsStore.sumTick (s := s) _ h8⟩
    · rw [hcore]
      exact h1
    · rw [hcore]
      exact h2
    · rw [hcore]
      exact h3 loc r
    · rw [sumTick_disp]
      exact h6
  · intro l k b t e i s ha htask hreach hfind hlate hend hfired
    have hexec : execDeadlineMiss l k b t s = done s (lateMiss l k b (s.atTime t)) := by
      unfold execDeadlineMiss
      dsimp only
      rw [show (s.atTime t).disp.insts.find? (fun i => i.is l k b) = some i from hfind, show (s.atTime t).task l k = some e from htask]
      dsimp only
      rw [hlate, hreach, hend, hfired]
      rfl
    obtain ⟨h1, h2, h3, h4, h5, h6, h7⟩ := lateMissed_does (e := e) (s.atTime t) (lateMiss_some (s := s.atTime t) htask)
    refine ⟨_, hexec.trans (done_alive _ ha), leaves_sumTick .., fun _ => ⟨?_, (hrun ..).trans h2, (sumTick_get _ _ (by decide)).trans h3,
      (sumTick_get _ _ (by decide)).trans h4, (sumTick_get _ _ (by decide)).trans h5, (sumTick_get _ _ (by decide)).trans h6,
      fun hm hr x hx ht hat => ?_⟩⟩
    · rw [sumTick_disp]
      exact h1
    · rw [hcom, htap]
      exact h7 hm hr x hx ht hat
  · intro l k b t e i s ha htask hreach hfind hlate hend hfired _
    have hexec : execDeadlineMiss l k b t s = done s (untriggered l k b e (s.atTime t)) := by
      unfold execDeadlineMiss
      dsimp only
      rw [show (s.atTime t).disp.insts.find? (fun i => i.is l k b) = some i from hfind, show (s.atTime t).task l k = some e from htask]
      dsimp only
      rw [hlate, hreach, hend, hfired]
      rfl
    obtain ⟨h1, h2, h3, h4, h5⟩ := untriggered_does (l := l) (k := k) (b := b) (e := e) (s.atTime t) rfl
    refine ⟨_, hexec.trans (done_alive _ ha), ?_, (hrun ..).trans h2, (sumTick_get _ _ (by decide)).trans h3,
      (sumTick_get _ _ (by decide)).trans h4, (sumTick_get _ _ (by decide)).trans h5⟩
    rw [sumTick_disp]
    exact h1
  · intro l k b t e i s ha htask hreach hfind hlate hend
    have hexec : execDeadlineMiss l k b t s = done s
        (fireSuccessors (mapInsts (fun j => j.is l k b) (fun j => { j with late := true }) (s.atTime t))) := by
      unfold execDeadlineMiss
      dsimp only
      rw [show (s.atTime t).disp.insts.find? (fun i => i.is l k b) = some i from hfind, show (s.atTime t).task l k = some e from htask]
      dsimp only
      rw [hlate, hreach, hend]
      rfl
    obtain ⟨h1, h2, h3, h4, h5⟩ := fencedLate_does l k b (s.atTime t) rfl
    refine ⟨_, hexec.trans (done_alive _ ha), ?_, ?_, (sumTick_fcu ..).trans h3, (sumTick_get _ _ (by decide)).trans h4,
      KeepsStore.sumTick (s := s) _ h5⟩
    · rw [sumTick_disp]
      exact h1
    · rw [sumTick_disp]
      exact h2
  · intro p t i s ha hi he
    obtain ⟨h1, h2⟩ := complete_does (s := s.atTime t) hi he rfl
    refine ⟨_, done_alive _ ha, leaves_sumTick .., ?_, fun e het hin hlate => ?_⟩
    · rw [hcore]
      exact h1
    · obtain ⟨k1, k2, k3, k4, k5⟩ := h2 e het hin hlate
      refine ⟨(sumTick_get _ _ (hrc _ (by simp [F.RC_TASK_RUNNING]) (by simp only [F.RC_TASK_RUNNING, A.RC_TASK]; omega))).trans k1,
        (hrun ..).trans k2, ?_, fun x hx ht hat => (hcom ..).trans (k4 x hx ht hat), fun x v hx ht hat hr ho hq => ?_⟩
      · rw [sumTick_disp]
        exact k3
      · rw [htap]
        exact k5 x v hx ht hat hr ho hq
  · intro p t i e s ha hp hi het hdue
    refine ⟨_, done_alive _ ha, leaves_sumTick .., fun hc _ => ?_⟩
    obtain ⟨h1, h2, h3⟩ := abort_running (s := s.atTime t) hp hi het hdue hc
    refine ⟨?_, (sumTick_get _ _ (hrc _ (by simp [F.RC_FLAGS_RUNAWAY]) (by simp only [F.RC_FLAGS_RUNAWAY, A.RC_FLAGS]; omega))).trans h2, ?_⟩
    · rw [hcore]
      exact h1
    · rw [sumTick_disp]
      exact h3
  · intro p t i s ha hp hn hi hr hphys hdue hc _
    obtain ⟨h1, h2⟩ := abort_waiting (s := s.atTime t) hp hn hi hr hphys hdue hc
    refine ⟨_, done_alive _ ha,
      (sumTick_get _ _ (hrc _ (by simp [F.RC_FLAGS_RUNAWAY]) (by simp only [F.RC_FLAGS_RUNAWAY, A.RC_FLAGS]; omega))).trans h1, ?_⟩
    rw [sumTick_disp]
    exact h2

end

section
/-!
THE PITCH PIPE'S PARTS. What each of its functions writes among its registers, and that its references and the time stay as they were
(R227–R241).
-/
namespace Sys2Proof.Machine

/-! ## What a part writes -/

/-- The registers of the Pitch Pipe but those that `M` names, its references and the time are as before. -/
structure Pitch (M : Fd → Prop) (s w : State) : Prop where
  fields : ∀ f : Fd, f.lsb < 32 → blockOf f = 0x2003 → (∀ g, M g → Fd.key f ≠ Fd.key g) → w.get f = s.get f
  refs   : w.pp.refs = s.pp.refs
  now    : w.now = s.now

section
variable {M : Fd → Prop}

theorem Pitch.refl (s : State) : Pitch M s s := ⟨fun _ _ _ _ => rfl, rfl, rfl⟩

theorem Pitch.trans {s w x : State} (h : Pitch M s w) (k : Pitch M w x) : Pitch M s x :=
  ⟨fun f hl hb hm => (k.fields f hl hb hm).trans (h.fields f hl hb hm), k.refs.trans h.refs, k.now.trans h.now⟩

theorem Pitch.mono {N : Fd → Prop} {s w : State} (h : Pitch M s w) (hsub : ∀ g, M g → N g) : Pitch N s w :=
  ⟨fun f hl hb hm => h.fields f hl hb fun g hg => hm g (hsub g hg), h.refs, h.now⟩

theorem Pitch.set {f : Fd} (hf : M f) (v : Nat) (s : State) : Pitch M s (s.set f v) :=
  ⟨fun _ _ _ hm => State.get_set_other _ _ (hm f hf), rfl, rfl⟩

theorem Pitch.setPp {x : PpS} {s : State} (hx : x.refs = s.pp.refs) : Pitch M s (setPp x s) := ⟨fun _ _ _ _ => rfl, hx, rfl⟩

theorem Pitch.ite {s x y : State} {c : Prop} [Decidable c] (hx : Pitch M s x) (hy : Pitch M s y) : Pitch M s (if c then x else y) := by
  split
  · exact hx
  · exact hy

theorem Pitch.foldl {α : Type} {s w : State} (f : State → α → State) (l : List α) (h : Pitch M s w) (hf : ∀ x ∈ l, ∀ u, Pitch M u (f u x)) :
    Pitch M s (l.foldl f w) := by
  induction l generalizing w with
  | nil => exact h
  | cons x l ih => exact ih (h.trans (hf x (.head _) w)) fun y hy => hf y (.tail _ hy)

/-- A field of the Pitch Pipe is none of the slots' summary. -/
theorem quiet_of_pp {f : Fd} (hl : f.lsb < 32) (hb : blockOf f = 0x2003) : Fd.quiet f = true := by
  rw [blockOf] at hb
  by_cases h : f.addr < 0x20150000
  · exact Fd.quiet_of_block hl (.inl h)
  · exact Fd.quiet_of_block hl (.inr (by omega))

theorem Pitch.of_unit {s w : State} (hf : KeepsUnit 0x2003 s w) (hp : w.pp = s.pp) (hn : w.now = s.now) : Pitch M s w :=
  ⟨fun f hl hb _ => hf f hl (quiet_of_pp hl hb) hb, by rw [hp], hn⟩

theorem Pitch.of_event {s w : State} (h : EventOnly s w) (hf : KeepsUnit 0x2003 s w) : Pitch M s w := by
  obtain ⟨_, _, _, _, _, _, heq⟩ := h
  exact .of_unit hf (by rw [heq]) (by rw [heq])

end

/-! ## Events of the Pitch Pipe -/

theorem apart_pp : ApartFromEvents 0x2003 := ⟨by decide, by decide, by decide, by decide⟩

/-- A fault event of the Pitch Pipe's group fences nothing (R317). -/
theorem eventOnly_pitch {src : Nat} (hsrc : src = 82 ∨ src = 83) (idx : Nat) (s : State) : EventOnly s (raiseF src idx s) := by
  rcases hsrc with rfl | rfl
  · exact eventOnly_raiseF idx rfl rfl s
  · exact eventOnly_raiseF idx rfl rfl s

theorem pitch_raiseF {M : Fd → Prop} {src : Nat} (hsrc : src = 82 ∨ src = 83) (idx : Nat) (s : State) : Pitch M s (raiseF src idx s) := by
  refine .of_event (eventOnly_pitch hsrc idx s) ?_
  rcases hsrc with rfl | rfl
  · exact keepsUnit_raiseF_unfenced apart_pp idx rfl (by decide) rfl s
  · exact keepsUnit_raiseF_unfenced apart_pp idx rfl (by decide) rfl s

theorem pitch_capEvent {M : Fd → Prop} (a b : Nat) (s : State) : Pitch M s (capEvent a b s) :=
  .of_event (eventOnly_capEvent a b s) (keepsBlock_capEvent (by decide) a b s).unit

/-! ## Entering a state (R235) -/

/-- The registers that enter a state. -/
def stateFields : List Fd := [F.PP_STAT_STATE, F.PP_EVT_STATE]

/-- Only the timers of the Pitch Pipe change. -/
def TimersOnly (x y : PpS) : Prop := ∃ a b c d, y = { x with holdAt := a, holdAcc := b, below := c, above := d }

theorem TimersOnly.refl (x : PpS) : TimersOnly x x := ⟨_, _, _, _, rfl⟩

theorem ppGo_does {st : Nat} (hst : st < 8) (s : State) {u : State} (hu : u = ppGo st s) :
    u.ppState = st ∧ (s.ppState ≠ st → u.get F.PP_EVT_STATE = 1) ∧ Pitch (· ∈ stateFields) s u ∧ TimersOnly s.pp u.pp := by
  unfold ppGo at hu
  by_cases hsame : s.ppState = st
  · rw [if_pos (beq_iff_eq.mpr hsame)] at hu
    rw [hu]
    exact ⟨hsame, fun h => absurd hsame h, .refl s, .refl _⟩
  rw [if_neg (by simpa using hsame)] at hu
  extract_lets was w p1 x p3 y at hu
  have hw : w.ppState = st ∧ w.get F.PP_EVT_STATE = 1 ∧ Pitch (· ∈ stateFields) s w ∧ w.pp = s.pp := by
    obtain ⟨v, hv⟩ : ∃ v, v = (s.set F.PP_STAT_STATE st).set F.PP_EVT_STATE 1 := ⟨_, rfl⟩
    have h1 : v.ppState = st := by
      rw [hv, State.ppState, State.get_set_other _ _ (by decide), State.get_set_same]
      exact Nat.mod_eq_of_lt hst
    have h2 : v.get F.PP_EVT_STATE = 1 := by rw [hv]; exact State.get_set_same ..
    have h3 : Pitch (· ∈ stateFields) s v := by
      rw [hv]
      exact (Pitch.set (by simp [stateFields]) st s).trans (.set (by simp [stateFields]) 1 _)
    have h4 : v.pp = s.pp := by rw [hv]; rfl
    have hall : w = allEvt evCLOCK v := by rw [hv]
    obtain ⟨l, hl⟩ := allEvt_only evCLOCK v
    have hpp : (allEvt evCLOCK v).pp = v.pp := by rw [hl]
    rw [hall]
    refine ⟨(allEvt_get _ _ (by decide)).trans h1, (allEvt_get _ _ (by decide)).trans h2, h3.trans (.of_unit ?_ hpp (by rw [hl])),
      hpp.trans h4⟩
    exact fun f _ hq _ => allEvt_get _ _ hq
  clear_value w
  obtain ⟨h1, h2, h3, h4⟩ := hw
  have hx : x.fld = w.fld ∧ TimersOnly w.pp x.pp ∧ x.now = w.now := by
    unfold x
    split
    · exact ⟨rfl, ⟨_, _, _, _, rfl⟩, rfl⟩
    · split
      · exact ⟨rfl, ⟨_, _, _, _, rfl⟩, rfl⟩
      · exact ⟨rfl, .refl _, rfl⟩
  clear_value x
  have hy : y.fld = x.fld ∧ TimersOnly x.pp y.pp ∧ y.now = x.now := by
    unfold y
    split
    · exact ⟨rfl, ⟨_, _, _, _, rfl⟩, rfl⟩
    · split
      · exact ⟨rfl, ⟨_, _, _, _, rfl⟩, rfl⟩
      · exact ⟨rfl, .refl _, rfl⟩
  clear_value y
  obtain ⟨hxf, ⟨a, b, c, d, hxp⟩, hxn⟩ := hx
  obtain ⟨hyf, ⟨a', b', c', d', hyp⟩, hyn⟩ := hy
  have hevent : EventOnly y u := by rw [hu]; exact (eventOnly_capEvent 1 0 y).trans (eventOnly_pitch (.inr rfl) st (capEvent 1 0 y))
  have hup : u.pp = y.pp := by
    obtain ⟨_, _, _, _, _, _, h⟩ := hevent
    rw [h]
  have hpitch : ∀ {M : Fd → Prop}, Pitch M y u := by
    rw [hu]
    exact (pitch_capEvent 1 0 y).trans (pitch_raiseF (.inr rfl) st (capEvent 1 0 y))
  have hyw : Pitch (· ∈ stateFields) w y := ⟨fun f _ _ _ => State.get_congr (hyf.trans hxf) f, by rw [hyp, hxp], hyn.trans hxn⟩
  have hfields : ∀ f ∈ stateFields, u.get f = w.get f := fun f hf =>
    ((hpitch (M := fun _ => False)).fields f (by revert f; decide) (by revert f; decide) fun _ h => h.elim).trans
      (State.get_congr (hyf.trans hxf) f)
  refine ⟨(hfields _ (by decide)).trans h1, fun _ => (hfields _ (by decide)).trans h2, (h3.trans hyw).trans hpitch, ?_⟩
  rw [hup, hyp, hxp, h4]
  exact ⟨_, _, _, _, rfl⟩

/-! ## Steering and slews (R227, R237) -/

theorem steer_does (v : Int) (s : State) : (∃ u, (u = s ∨ u = putRate v s) ∧ steer v s = u) := by
  unfold steer
  split
  · exact ⟨_, .inr rfl, rfl⟩
  · exact ⟨_, .inl rfl, rfl⟩

theorem putRate_pp (v : Int) (s : State) : (putRate v s).pp = s.pp ∧ (putRate v s).now = s.now := ⟨rfl, rfl⟩

theorem pitch_steer {M : Fd → Prop} (v : Int) (s : State) : Pitch M s (steer v s) ∧ (steer v s).pp = s.pp ∧ KeepsStore s (steer v s)
    ∧ KeepsFields [F.TIME_RATE_RATE] s (steer v s) := by
  unfold steer
  split
  · obtain ⟨_, _, _, hf, hs⟩ := putRate_folds v s rfl
    refine ⟨⟨fun f hl hb _ => ?_, rfl, rfl⟩, rfl, hs, hf⟩
    refine hf f (quiet_of_pp hl hb) fun g hg => Fd.key_ne hl ?_ (.inl fun e => ?_)
    · rw [List.mem_singleton.mp hg]
      decide
    · rw [blockOf, e, List.mem_singleton.mp hg] at hb
      exact absurd hb (by decide)
  · exact ⟨.refl s, rfl, ⟨rfl, rfl, rfl⟩, .refl _ s⟩

theorem pitch_steerHold {M : Fd → Prop} (s : State) : Pitch M s (steerHold s) ∧ (steerHold s).pp = s.pp := by
  unfold steerHold
  split
  · obtain ⟨h1, h2, _⟩ := pitch_steer (M := M) s.holdRate s
    exact ⟨h1, h2⟩
  · exact ⟨.refl s, rfl⟩

/-- The registers that a slew moves. -/
def SlewField (g : Fd) : Prop := (∃ r, g = F.PP_BUILDOUT_B r) ∨ g = F.PP_PSTEP_REMAIN_REMAIN

/-- A slew moves its own registers and marks. -/
theorem slewTick_does (s : State) {u : State} (hu : u = slewTick s) :
    Pitch SlewField s u ∧ (∃ a m, u.pp = { s.pp with slewAt := a, slewMoved := m }) ∧ KeepsStore s u
      ∧ KeepsFields [F.PP_BUILDOUT_B s.ppActive, F.PP_PSTEP_REMAIN_REMAIN] s u ∧ (s.pp.slewing = false → u = s) := by
  unfold slewTick at hu
  extract_lets p left rate total n d w p' at hu
  clear_value left rate total n d
  split at hu
  · rw [hu]
    exact ⟨.refl s, ⟨_, _, rfl⟩, ⟨rfl, rfl, rfl⟩, .refl _ s, fun _ => rfl⟩
  · next hsl =>
    have hne : ∀ {q : Prop}, s.pp.slewing = false → q := fun h => absurd (show (!p.slewing) = true by rw [show p.slewing = false from h]; rfl) hsl
    split at hu
    · rw [hu]
      exact ⟨.setPp rfl, ⟨_, _, rfl⟩, ⟨rfl, rfl, rfl⟩, .of_fld _ rfl, hne⟩
    · have hw : Pitch SlewField s w ∧ w.pp = s.pp ∧ KeepsStore s w
          ∧ KeepsFields [F.PP_BUILDOUT_B s.ppActive, F.PP_PSTEP_REMAIN_REMAIN] s w :=
        ⟨.set (.inl ⟨_, rfl⟩) _ s, rfl, ⟨rfl, rfl, rfl⟩, (KeepsFields.refl _ s).set _ (by simp)⟩
      clear_value w
      obtain ⟨h1, h2, h3, h4⟩ := hw
      have hp : p' = s.pp := h2
      rw [hu]
      refine ⟨(h1.trans (.set (.inr rfl) _ w)).trans (.setPp rfl), ⟨p'.slewAt, p.slewMoved + n, ?_⟩, ⟨h3.1, h3.2.1, h3.2.2⟩,
        (h4.set _ (by simp)).congr rfl, hne⟩
      rw [hp]
      rfl

/-! ## What is shown (R229, R233, R234) -/

def showFields : List Fd := [F.PP_STAT_SELOK, F.PP_STAT_REVPEND, F.PP_REFSTAT_DISAGREE, F.PP_EVT_DISAGREE]

theorem showPp_does (s : State) : Pitch (· ∈ showFields) s (showPp s) ∧ (showPp s).pp = s.pp ∧ KeepsStore s (showPp s) :=
  ⟨(Pitch.set (by simp [showFields]) _ s).trans (.set (by simp [showFields]) _ _), rfl, rfl, rfl, rfl⟩

theorem showDisagree_does (s : State) :
    Pitch (· ∈ showFields) s (showDisagree s) ∧ (showDisagree s).pp = s.pp ∧ KeepsStore s (showDisagree s) := by
  unfold showDisagree
  extract_lets v new w
  clear_value v
  have hw : Pitch (· ∈ showFields) s w ∧ w.pp = s.pp ∧ KeepsStore s w := ⟨.set (by simp [showFields]) v s, rfl, rfl, rfl, rfl⟩
  clear_value w new
  obtain ⟨h1, h2, h3⟩ := hw
  split
  · exact ⟨h1.trans (.set (by simp [showFields]) 1 w), h2, h3.1, h3.2.1, h3.2.2⟩
  · exact ⟨h1, h2, h3⟩

end Sys2Proof.Machine
end

section
/-!
SWITCHING AND PHASE STEPS OF THE PITCH PIPE. What a phase step, a switch and the loss of a reference do (R226–R237).
-/
namespace Sys2Proof.Machine

/-! ## Offset steps -/

theorem setAnchor_pp (a : Int) (s : State) : (s.setAnchor a).pp = s.pp ∧ (s.setAnchor a).now = s.now := by
  unfold State.setAnchor
  generalize ux 72 a = v
  exact ⟨rfl, rfl⟩

/-- An anchor trigger leaves the Pitch Pipe and the instant as they were. -/
theorem dispAnchor_pp (t : Nat) (s : State) : (dispAnchor t s).pp = s.pp ∧ (dispAnchor t s).now = s.now := by
  unfold dispAnchor
  extract_lets s1 k d goOn new s2 st s3 re mx dd s4
  clear_value new goOn re
  have h1 : s1.pp = s.pp ∧ s1.now = s.now := by
    obtain ⟨n, h⟩ := tickCredits_keeps s
    rw [show s1 = _ from h]
    exact ⟨rfl, rfl⟩
  have h2 : s2.pp = s1.pp ∧ s2.now = s1.now := setAnchor_pp ..
  clear_value s1 s2
  have h4 : s4.pp = s2.pp ∧ s4.now = s2.now := by
    unfold s4
    split <;> exact ⟨rfl, rfl⟩
  clear_value s4
  have h5 : (if goOn then s4 else restartHistory (fun _ => true) s4).pp = s4.pp
      ∧ (if goOn then s4 else restartHistory (fun _ => true) s4).now = s4.now := by
    split <;> exact ⟨rfl, rfl⟩
  exact ⟨h5.1.trans (h4.1.trans (h2.1.trans h1.1)), h5.2.trans (h4.2.trans (h2.2.trans h1.2))⟩

theorem bsiStart_pp (mask : Nat) (s : State) : (bsiStart mask s).pp = s.pp ∧ (bsiStart mask s).now = s.now := by
  refine List.foldlRecOn _ _ (motive := fun u : State => u.pp = s.pp ∧ u.now = s.now) ⟨rfl, rfl⟩ fun u hu c _ => ?_
  split
  · exact hu
  · exact hu

section
variable {M : Fd → Prop}

theorem pitch_fireTrigger {k : Nat} (hk : k < 8) (s : State) : Pitch M s (fireTrigger k s) := by
  have hreg : ∀ f ∈ [F.TRIG_FIRED_LO_NS k, F.TRIG_FIRED_HI_NS k, F.TRIG_STAT_FIRES k, F.TRIG_STAT_IGNORED k], f.lsb < 32 ∧ blockOf f ≠ 0x2003 := by
    simp only [List.mem_cons, List.not_mem_nil, or_false, forall_eq_or_imp, forall_eq, blockOf, F.TRIG_FIRED_LO_NS, F.TRIG_FIRED_HI_NS,
      F.TRIG_STAT_FIRES, F.TRIG_STAT_IGNORED, A.TRIG_FIRED_LO, A.TRIG_FIRED_HI, A.TRIG_STAT]
    omega
  have hset : ∀ f ∈ [F.TRIG_FIRED_LO_NS k, F.TRIG_FIRED_HI_NS k, F.TRIG_STAT_FIRES k, F.TRIG_STAT_IGNORED k], ∀ v (w : State),
      Pitch M w (w.set f v) := fun f hf v w => .of_unit ((KeepsUnit.refl _ w).set v (hreg f hf).1 (hreg f hf).2) rfl rfl
  unfold fireTrigger
  extract_lets s1 w tgt
  have h1 : Pitch M s s1 :=
    (hset _ (by simp) s.devNs s).trans ((hset _ (by simp) (s.devNs / 2 ^ 32) (s.set _ _)).trans (hset _ (by simp) _ _))
  clear_value s1
  have hw : Pitch M s w := (h1.trans (Pitch.of_unit (w := s1.setBit F.TIME_EVT_TRIG k true) ((KeepsUnit.refl _ s1).set _ (by decide) (by decide))
    rfl rfl)).trans (pitch_capEvent 3 k _)
  clear_value w
  split
  · split
    · obtain ⟨h2, h3⟩ := dispAnchor_pp w.dev w
      exact hw.trans (.of_unit (dispAnchor_keeps (by decide) w.dev w).1.unit h2 h3)
    · exact hw.trans (hset _ (by simp) 1 w)
  · obtain ⟨x, h⟩ := sapStart_keeps (tgt % 65536) w
    rw [h]
    exact hw.trans (.of_unit (.refl _ w) rfl rfl)
  · obtain ⟨h2, h3⟩ := bsiStart_pp tgt w
    exact hw.trans (.of_unit (bsiStart_keeps (by decide) tgt w).1.unit h2 h3)
  · exact hw.trans (.of_unit (.refl _ w) rfl rfl)
  · exact hw

theorem pitch_trigStep {k : Nat} (hk : k < 8) (s : State) : Pitch M s (trigStep k s) := by
  have hreg : ∀ f ∈ [F.TRIG_STAT_STEPFIRE k, F.TRIG_CFG_EN k, F.TRIG_STAT_ARMED k], f.lsb < 32 ∧ blockOf f ≠ 0x2003 := by
    simp only [List.mem_cons, List.not_mem_nil, or_false, forall_eq_or_imp, forall_eq, blockOf, F.TRIG_STAT_STEPFIRE, F.TRIG_CFG_EN,
      F.TRIG_STAT_ARMED, A.TRIG_STAT, A.TRIG_CFG]
    omega
  have hset : ∀ f ∈ [F.TRIG_STAT_STEPFIRE k, F.TRIG_CFG_EN k, F.TRIG_STAT_ARMED k], ∀ v (w : State), Pitch M w (w.set f v) :=
    fun f hf v w => .of_unit ((KeepsUnit.refl _ w).set v (hreg f hf).1 (hreg f hf).2) rfl rfl
  unfold trigStep
  extract_lets x s1
  split
  · exact .refl s
  have h1 : Pitch M s s1 := hset _ (by simp) 1 s
  clear_value s1
  split
  · exact (h1.trans ((hset _ (by simp) _ s1).trans (hset _ (by simp) _ _))).trans (pitch_fireTrigger hk _)
  · exact (h1.trans (Pitch.of_unit (w := s1.setTrig k _) (.refl _ s1) rfl rfl)).trans (pitch_fireTrigger hk _)

theorem pitch_takeStep (d : Int) (s : State) : Pitch M s (takeStep d s) := by
  obtain ⟨w, hw, hwf, hwp, hwn⟩ : ∃ w : State,
      w = restamp (shiftMarks d { notePast s with time := { (notePast s).time with c := (notePast s).time.c + d * 2 ^ 40 } })
      ∧ w.fld = s.fld ∧ w.pp.refs = s.pp.refs ∧ w.now = s.now := ⟨_, rfl, rfl, rfl, rfl⟩
  have h1 : Pitch M s w := ⟨fun f _ _ _ => State.get_congr hwf f, hwp, hwn⟩
  have hset : ∀ f ∈ [F.TIME_STAT_ARMED, F.TIME_STAT_STEPPED, F.DISP_STAT_STEPPED], ∀ v (u : State), Pitch M u (u.set f v) := fun f hf v u => by
    have hreg : ∀ f ∈ [F.TIME_STAT_ARMED, F.TIME_STAT_STEPPED, F.DISP_STAT_STEPPED], f.lsb < 32 ∧ blockOf f ≠ 0x2003 := by decide
    exact .of_unit ((KeepsUnit.refl _ u).set v (hreg f hf).1 (hreg f hf).2) rfl rfl
  obtain ⟨x, hx⟩ : ∃ x, x = (w.set F.TIME_STAT_ARMED 0).set F.TIME_STAT_STEPPED 1 := ⟨_, rfl⟩
  have h2 : Pitch M s x := by
    rw [hx]
    exact h1.trans ((hset _ (by simp) 0 w).trans (hset _ (by simp) 1 _))
  have hmove : Pitch M x (moveAnchor d x) := by
    obtain ⟨y, hy, hyf, hyp, hyn⟩ : ∃ y : State, y = { x with strm := { x.strm with mr := !x.strm.mr } } ∧ y.fld = x.fld ∧ y.pp = x.pp
        ∧ y.now = x.now := ⟨_, rfl, rfl, rfl, rfl⟩
    have hanchor := setAnchor_pp (x.anchor + d) y
    unfold moveAnchor
    rw [← hy]
    refine Pitch.trans (.of_unit ?_ (hanchor.1.trans hyp) (hanchor.2.trans hyn)) (hset _ (by simp) 1 _)
    exact ((KeepsBlock.of_fld hyf).trans (keepsBlock_setAnchor (by decide) _ y)).unit
  obtain ⟨y, hy⟩ : ∃ y, y = (if x.breathing then moveAnchor d x else x) := ⟨_, rfl⟩
  have h3 : Pitch M s y := by
    rw [hy]
    exact .ite (h2.trans hmove) h2
  have hgo : takeStep d s = if 0 < d then (List.range 8).foldl (fun u k => trigStep k u) y else y := by
    rw [hy, hx, hw]
    rfl
  rw [hgo]
  exact .ite (.foldl _ _ h3 fun k hk u => pitch_trigStep (List.mem_range.mp hk) u) h3

end

end Sys2Proof.Machine
end

section
/-!
THE PITCH PIPE'S REFERENCES. Phase steps, switches, and the loss of a reference (R226–R237).
-/
namespace Sys2Proof.Machine

/-! ## Phase steps (R237) -/

/-- The registers that a phase step writes. -/
def PhaseField (g : Fd) : Prop := SlewField g ∨ g ∈ [F.PP_PSTEP_STAT_RESULT, F.PP_PSTEP_STAT_BUSY, F.PP_EVT_PSTEP]

/-- The registers that the Pitch Pipe moves of itself. -/
def PpMoving (g : Fd) : Prop := PhaseField g ∨ g ∈ stateFields ∨ g ∈ showFields ∨ g = F.PP_STAT_ACTIVE ∨ g = F.PP_STAT_CLAMP

theorem SlewField.moving {g : Fd} (h : SlewField g) : PpMoving g := .inl (.inl h)
theorem PhaseField.moving {g : Fd} (h : PhaseField g) : PpMoving g := .inl h
theorem moving_of_state {g : Fd} (h : g ∈ stateFields) : PpMoving g := .inr (.inl h)
theorem moving_of_show {g : Fd} (h : g ∈ showFields) : PpMoving g := .inr (.inr (.inl h))

/-- A field that is not a build-out and not REMAIN is none that a slew moves. -/
theorem SlewField.ne {f g : Fd} (hl : f.lsb < 32) (ha : f.addr % 2 ^ 32 ≠ 0x20030048) (hr : f.addr ≠ A.PP_PSTEP_REMAIN) (hg : SlewField g) :
    Fd.key f ≠ Fd.key g := by
  rcases hg with ⟨r, rfl⟩ | rfl
  · refine Fd.key_ne hl (by simp [F.PP_BUILDOUT_B]) (.inl fun e => ha ?_)
    rw [e]
    simp only [F.PP_BUILDOUT_B, A.PP_BUILDOUT]
    omega
  · exact Fd.key_ne hl (by decide) (.inl hr)

/-- What the Pitch Pipe never moves of itself. -/
def heldPp : List Fd :=
  [F.PP_REFSTAT_VALID, F.PP_REFSTAT_LOS, F.PP_EVT_REFLOSS, F.PP_CTRL_SEL, F.PP_CTRL_STEER, F.PP_SWCOUNT_COUNT, F.PP_EVT_SWITCH, F.PP_STAT_LOCKLOSS]

theorem moving_ne {f g : Fd} (hf : f ∈ heldPp) (hg : PpMoving g) : Fd.key f ≠ Fd.key g := by
  have hlist : ∀ f ∈ heldPp, f.lsb < 32 ∧ f.addr % 2 ^ 32 ≠ 0x20030048 ∧ f.addr ≠ A.PP_PSTEP_REMAIN
      ∧ ∀ g ∈ [F.PP_PSTEP_STAT_RESULT, F.PP_PSTEP_STAT_BUSY, F.PP_EVT_PSTEP] ++ stateFields ++ showFields ++ [F.PP_STAT_ACTIVE, F.PP_STAT_CLAMP],
        Fd.key f ≠ Fd.key g := by decide
  obtain ⟨h1, h2, h3, h4⟩ := hlist f hf
  rcases hg with (hg | hg) | hg | hg | rfl | rfl
  · exact hg.ne h1 h2 h3
  · exact h4 g (by simp only [List.mem_append]; exact .inl (.inl (.inl hg)))
  · exact h4 g (by simp only [List.mem_append]; exact .inl (.inl (.inr hg)))
  · exact h4 g (by simp only [List.mem_append]; exact .inl (.inr hg))
  · exact h4 _ (by simp)
  · exact h4 _ (by simp)

theorem Pitch.held {s w : State} (h : Pitch PpMoving s w) {f : Fd} (hf : f ∈ heldPp) : w.get f = s.get f := by
  have hlist : ∀ f ∈ heldPp, f.lsb < 32 ∧ blockOf f = 0x2003 := by decide
  exact h.fields f (hlist f hf).1 (hlist f hf).2 fun g hg => moving_ne hf hg

theorem Pitch.refValid {s w : State} (h : Pitch PpMoving s w) (r : Nat) : w.refValid r = s.refValid r := by
  rw [State.refValid, State.bit, h.held (by simp [heldPp]), State.refValid, State.bit]

theorem Pitch.ref {M : Fd → Prop} {s w : State} (h : Pitch M s w) (r : Nat) : w.ref r = s.ref r := by rw [State.ref, h.refs, State.ref]

theorem pitch_phaseStep (imm : Bool) (d : Int) (s : State) : Pitch PhaseField s (phaseStep imm d s) := by
  have hset : ∀ f ∈ [F.PP_PSTEP_STAT_RESULT, F.PP_PSTEP_STAT_BUSY, F.PP_EVT_PSTEP], ∀ v (w : State), Pitch PhaseField w (w.set f v) :=
    fun f hf v w => .set (.inr hf) v w
  unfold phaseStep
  extract_lets w x left p y
  have hw : Pitch PhaseField s w := .set (.inl (.inl ⟨_, rfl⟩)) _ s
  have hx : Pitch PhaseField s x := (slewTick_does s rfl).1.mono fun g => .inl
  have hy : Pitch PhaseField x y := .setPp rfl
  clear_value w x y
  refine .ite (hset _ (by simp) _ s) (.ite (.ite (hset _ (by simp) _ s) ?_) ?_)
  · exact ((hw.trans (pitch_takeStep d w)).trans (hset _ (by simp) _ _)).trans (hset _ (by simp) _ _)
  · exact ((hx.trans hy).trans (.set (.inl (.inr rfl)) _ y)).trans (hset _ (by simp) _ _)

theorem phaseField_active {g : Fd} (hg : PhaseField g) : Fd.key F.PP_STAT_ACTIVE ≠ Fd.key g := by
  rcases hg with hg | hg
  · exact hg.ne (by decide) (by decide) (by decide)
  · revert g
    decide

theorem phaseStep_active (imm : Bool) (d : Int) (s : State) : (phaseStep imm d s).ppActive = s.ppActive :=
  (pitch_phaseStep imm d s).fields _ (by decide) (by decide) fun _ => phaseField_active

/-! ## Switching (R229–R232, R235) -/

/-- The state with the reference that governs put, before a switch or the loss of all enters its state. -/
theorem putActive_does {r : Nat} (hr : r < 8) (s : State) {u : State} (hu : u = (s.set F.PP_STAT_ACTIVE r).set F.PP_STAT_CLAMP 0) :
    u.ppActive = r ∧ u.ppState = s.ppState ∧ Pitch PpMoving s u ∧ u.pp = s.pp := by
  have hact : u.ppActive = r := by
    rw [hu, State.ppActive, State.get_set_other _ _ (by decide), State.get_set_same]
    exact Nat.mod_eq_of_lt hr
  have hst : u.ppState = s.ppState := by
    rw [hu, State.ppState, State.get_set_other _ _ (by decide), State.get_set_other _ _ (by decide)]
    rfl
  refine ⟨hact, hst, ?_, by rw [hu]; rfl⟩
  rw [hu]
  exact (Pitch.set (.inr (.inr (.inr (.inl rfl)))) r s).trans (.set (.inr (.inr (.inr (.inr rfl)))) 0 _)

theorem stateFields_active : ∀ g ∈ stateFields, Fd.key F.PP_STAT_ACTIVE ≠ Fd.key g := by decide

theorem slewTick_state (s : State) : (slewTick s).ppState = s.ppState ∧ (slewTick s).ppActive = s.ppActive := by
  obtain ⟨h, _⟩ := slewTick_does s rfl
  exact ⟨h.fields _ (by decide) (by decide) fun g hg => hg.ne (by decide) (by decide) (by decide),
    h.fields _ (by decide) (by decide) fun g hg => hg.ne (by decide) (by decide) (by decide)⟩

theorem ppSwitch_does {r : Nat} (hr : r < 8) (s : State) {u : State} (hu : u = ppSwitch r s) :
    u.ppState = ppSWITCHING ∧ u.ppActive = r ∧ (s.ppState ≠ ppSWITCHING → u.get F.PP_EVT_STATE = 1) ∧ Pitch PpMoving s u := by
  unfold ppSwitch at hu
  extract_lets on u0 was w p x at hu
  obtain ⟨h1, h2, h3, _⟩ := putActive_does hr (slewTick s) (rfl : w = _)
  have hslew : Pitch PpMoving s (slewTick s) := (slewTick_does s rfl).1.mono fun g => SlewField.moving
  have hx : x.ppActive = r ∧ x.ppState = s.ppState ∧ Pitch PpMoving s x :=
    ⟨h1, h2.trans (slewTick_state s).1, (hslew.trans h3).trans (.setPp rfl)⟩
  clear_value x
  obtain ⟨hxa, hxs, hxp⟩ := hx
  obtain ⟨k1, k2, k3, _⟩ := ppGo_does (st := ppSWITCHING) (by decide) x rfl
  have hk : (ppGo ppSWITCHING x).ppActive = r := (k3.fields _ (by decide) (by decide) stateFields_active).trans hxa
  rw [hxs] at k2
  clear_value w
  generalize ppGo ppSWITCHING x = y at hu k1 k2 k3 hk
  obtain ⟨hz, _⟩ := pitch_steerHold (M := fun _ => False) y
  have hget : ∀ f : Fd, f.lsb < 32 → blockOf f = 0x2003 → u.get f = y.get f := fun f hl hb => by
    rw [hu]
    exact hz.fields f hl hb fun _ h => h.elim
  refine ⟨(hget _ (by decide) (by decide)).trans k1, (hget _ (by decide) (by decide)).trans hk,
    fun h => (hget _ (by decide) (by decide)).trans (k2 h), ?_⟩
  rw [hu]
  exact (hxp.trans (k3.mono fun g => moving_of_state)).trans (hz.mono fun _ h => h.elim)

theorem ppNoRef_does (s : State) {u : State} (hu : u = ppNoRef s) : u.ppActive = 5 ∧ Pitch PpMoving s u := by
  unfold ppNoRef at hu
  extract_lets x at hu
  obtain ⟨w, hw⟩ : ∃ w, w = ((slewTick s).set F.PP_STAT_ACTIVE 5).set F.PP_STAT_CLAMP 0 := ⟨_, rfl⟩
  obtain ⟨h1, _, h3, _⟩ := putActive_does (by decide) (slewTick s) hw
  have hslew : Pitch PpMoving s (slewTick s) := (slewTick_does s rfl).1.mono fun g => SlewField.moving
  obtain ⟨hz, _⟩ := pitch_steerHold (M := fun _ => False) w
  have hx : x = steerHold w := by rw [hw]
  have hxa : x.ppActive = 5 := by
    rw [hx]
    exact (hz.fields _ (by decide) (by decide) fun _ h => h.elim).trans h1
  have hxp : Pitch PpMoving s x := by
    rw [hx]
    exact (hslew.trans h3).trans (hz.mono fun _ h => h.elim)
  clear_value x
  have hst : (if x.on F.PP_STAT_HISTVALID then ppHOLDOVER else ppFREERUN) < 8 := by split <;> decide
  generalize (if x.on F.PP_STAT_HISTVALID then ppHOLDOVER else ppFREERUN) = st at hu hst
  obtain ⟨_, _, k3, _⟩ := ppGo_does hst x hu
  exact ⟨(k3.fields _ (by decide) (by decide) stateFields_active).trans hxa, hxp.trans (k3.mono fun g => moving_of_state)⟩

theorem sel_le (s : State) : s.sel ≤ 5 := Nat.min_le_left ..

theorem ppSelect_does (s : State) {u : State} (hu : u = ppSelect s) : Pitch PpMoving s u
    ∧ ∀ r < 5, s.refValid r = false → s.ppActive ≠ r → u.ppActive ≠ r := by
  unfold ppSelect at hu
  extract_lets q at hu
  split at hu
  · split at hu
    · obtain ⟨h1, h2⟩ := ppNoRef_does s hu
      exact ⟨h2, fun r hr _ _ => by omega⟩
    · rw [hu]
      exact ⟨.refl s, fun _ _ _ h => h⟩
  · split at hu
    · next hq =>
      rw [Bool.and_eq_true] at hq
      obtain ⟨_, h2, _, h4⟩ := ppSwitch_does (by have := sel_le s; omega) s hu
      refine ⟨h4, fun r _ hv _ e => ?_⟩
      rw [show r = q from e.symm.trans h2, hq.1] at hv
      cases hv
    · rw [hu]
      exact ⟨.refl s, fun _ _ _ h => h⟩

theorem ppAfter_does (s : State) {u : State} (hu : u = ppAfter s) : Pitch PpMoving s u
    ∧ (∀ r < 5, s.refValid r = false → s.ppActive ≠ r → u.ppActive ≠ r) ∧ (s.pp.held = none → s.pp.selPend = false → u = s) := by
  unfold ppAfter at hu
  extract_lets p0 x w p1 at hu
  have hw : Pitch PpMoving s w ∧ w.ppActive = s.ppActive ∧ (s.pp.held = none → w = s) := by
    have hx : Pitch PpMoving s x ∧ x.ppActive = s.ppActive := ⟨.setPp rfl, rfl⟩
    obtain ⟨h1, hxa⟩ := hx
    unfold w
    clear_value x
    split
    · next imm d hh =>
      refine ⟨(h1.trans (.set (.inl (.inr (by simp))) _ x)).trans ((pitch_phaseStep ..).mono fun g => PhaseField.moving), ?_,
        fun h => absurd (hh.symm.trans h) (by simp)⟩
      rw [phaseStep_active, State.ppActive, State.get_set_other _ _ (by decide)]
      exact hxa
    · exact ⟨.refl s, rfl, fun _ => rfl⟩
  clear_value w
  obtain ⟨h1, h2, h3⟩ := hw
  split at hu
  · next hp =>
    have hx : Pitch PpMoving w (setPp { p1 with selPend := false } w) := .setPp rfl
    obtain ⟨k1, k2⟩ := ppSelect_does _ hu
    refine ⟨(h1.trans hx).trans k1, fun r hr hv ha => k2 r hr ?_ ?_, fun hh hsp => ?_⟩
    · rw [(h1.trans hx).refValid]
      exact hv
    · rw [← h2] at ha
      exact ha
    · rw [h3 hh, hsp] at hp
      cases hp
  · rw [hu]
    exact ⟨h1, fun r _ _ ha => by rw [h2]; exact ha, fun hh _ => h3 hh⟩

/-! ## The reference that governs (R229, R233) -/

theorem refValid_five (s : State) : s.refValid 5 = true := rfl

/-- The reference chosen is valid. -/
theorem chooseRef_valid (s : State) : s.refValid s.chooseRef = true ∧ s.chooseRef < 8 := by
  unfold State.chooseRef
  extract_lets sel vs
  split
  · next h =>
    rw [Bool.or_eq_true, Bool.and_eq_true, beq_iff_eq] at h
    refine ⟨?_, by have := sel_le s; omega⟩
    rcases h with h | h
    · rw [h]
      exact refValid_five s
    · exact h.1
  have hvs : ∀ r ∈ vs, s.refValid r = true ∧ r < 8 := fun r hr => by
    obtain ⟨h1, h2⟩ := List.mem_filter.mp hr
    exact ⟨h2, by have := List.mem_range.mp h1; omega⟩
  clear_value vs
  split
  · exact ⟨refValid_five s, by decide⟩
  · next v t =>
    extract_lets rk best r0
    have hbest : ∀ r ∈ best, s.refValid r = true ∧ r < 8 := fun r hr => hvs r (List.mem_of_mem_filter hr)
    have h0 : s.refValid r0 = true ∧ r0 < 8 := by
      unfold r0
      cases hb : best with
      | nil => exact hvs v (.head _)
      | cons a b => exact hbest a (by rw [hb]; exact .head _)
    clear_value best r0
    split
    · refine List.foldlRecOn best _ (motive := fun m => s.refValid m = true ∧ m < 8) h0 fun m hm r hr => ?_
      split
      · exact hbest r hr
      · exact hm
    · exact h0

theorem ppFail_does (s : State) {u : State} (hu : u = ppFail s) : Pitch PpMoving s u ∧ ∀ r < 5, s.refValid r = false → u.ppActive ≠ r := by
  unfold ppFail at hu
  extract_lets q at hu
  obtain ⟨hv, h8⟩ := chooseRef_valid s
  split at hu
  · obtain ⟨h1, h2⟩ := ppNoRef_does s rfl
    obtain ⟨k1, k2, _⟩ := ppAfter_does _ hu
    exact ⟨h2.trans k1, fun r hr hn => k2 r hr ((h2.refValid r).trans hn) (by rw [h1]; omega)⟩
  · obtain ⟨_, h2, _, h4⟩ := ppSwitch_does h8 s hu
    refine ⟨h4, fun r _ hn e => ?_⟩
    rw [show r = s.chooseRef from e.symm.trans h2, hv] at hn
    cases hn

/-! ## Losing a reference (R226) -/

theorem bitOf_withBit_clear (v i : Nat) : bitOf (withBit v i false) i = false := by
  unfold withBit
  by_cases h : bitOf v i = true
  · rw [if_pos h, if_neg Bool.false_ne_true]
    rw [bitOf, beq_iff_eq] at h
    rw [bitOf, show v - 2 ^ i = v - 2 ^ i * 1 by rw [Nat.mul_one], Nat.sub_mul_div]
    simp only [beq_eq_false_iff_ne]
    omega
  · rw [if_neg h, if_neg Bool.false_ne_true]
    simpa using h

theorem State.bit_setBit_clear {f : Fd} {i : Nat} (s : State) (h : i < Fd.width f) : (s.setBit f i false).bit f i = false := by
  rw [State.bit, State.setBit, State.get_set_same, bitOf_mod_two_pow _ h, bitOf_withBit_clear]

theorem ref_setRef (r : Nat) (x : RefS) (s : State) : (setRef r x s).ref r = x := mget_mset_same ..

theorem loseRef_does {r : Nat} (hr : r < 5) (s : State) {u : State} (hu : u = loseRef r s) :
    u.refValid r = false ∧ (u.ref r).act = false ∧ (u.ref r).ok = 0
      ∧ (s.refValid r = true → u.bit F.PP_REFSTAT_LOS r = true ∧ u.get F.PP_EVT_REFLOSS = 1 ∧ (s.ppActive = r → u.ppActive ≠ r)) := by
  have hbit : ∀ w : State, w.refValid r = w.bit F.PP_REFSTAT_VALID r := fun w => by
    rw [State.refValid, decide_eq_false (by omega)]
    rfl
  unfold loseRef at hu
  extract_lets was x0 w v y at hu
  have hw : (w.ref r).act = false ∧ (w.ref r).ok = 0 ∧ w.fld = s.fld := by
    have h : w.ref r = { s.ref r with act := false, ok := 0 } := ref_setRef ..
    rw [h]
    exact ⟨rfl, rfl, rfl⟩
  clear_value w
  obtain ⟨h1, h2, h3⟩ := hw
  split at hu
  · next hn =>
    rw [Bool.not_eq_true'] at hn
    have hv : s.refValid r = false := (hbit s).trans hn
    rw [hu]
    refine ⟨?_, h1, h2, fun h => absurd (hv.symm.trans h) Bool.false_ne_true⟩
    rw [hbit, State.bit, State.get_congr h3]
    exact hn
  · obtain ⟨x, hx⟩ : ∃ x, x = (v.setBit F.PP_REFSTAT_LOS r true).set F.PP_EVT_REFLOSS 1 := ⟨_, rfl⟩
    have hvp : v.pp = w.pp ∧ v.ppActive = s.ppActive ∧ v.bit F.PP_REFSTAT_VALID r = false := by
      refine ⟨rfl, ?_, State.bit_setBit_clear w (show r < 6 by omega)⟩
      exact (State.get_set_other _ _ (by decide)).trans (State.get_congr h3 _)
    clear_value v
    have hxp : x.pp = v.pp ∧ x.ppActive = v.ppActive ∧ x.bit F.PP_REFSTAT_VALID r = v.bit F.PP_REFSTAT_VALID r
        ∧ x.bit F.PP_REFSTAT_LOS r = true ∧ x.get F.PP_EVT_REFLOSS = 1 := by
      rw [hx]
      refine ⟨rfl, ?_, ?_, ?_, State.get_set_same ..⟩
      · exact (State.get_set_other _ _ (by decide)).trans (State.get_set_other _ _ (by decide))
      · exact congrArg (bitOf · r) ((State.get_set_other _ _ (by decide)).trans (State.get_set_other _ _ (by decide)))
      · exact (congrArg (bitOf · r) (State.get_set_other _ _ (by decide))).trans (State.bit_setBit_same v (show r < 6 by omega))
    have hy : Pitch (fun g => g ∈ showFields) x y := by
      have hyx : y = showDisagree (raiseF 82 r x) := by rw [hx]
      rw [hyx]
      exact (pitch_raiseF (.inl rfl) r x).trans (showDisagree_does _).1
    clear_value y
    have hya : y.ppActive = x.ppActive := hy.fields _ (by decide) (by decide) (by decide)
    obtain ⟨z, hz, hzp, hza⟩ : ∃ z, u = showPp z ∧ Pitch PpMoving y z ∧ (y.ppActive = r → y.refValid r = false → z.ppActive ≠ r) := by
      refine ⟨_, hu, ?_⟩
      split
      · obtain ⟨k1, k2⟩ := ppFail_does y rfl
        exact ⟨k1, fun _ hv => k2 r hr hv⟩
      · next hne => exact ⟨.refl y, fun h => absurd (beq_iff_eq.mpr h) hne⟩
    have hshow : Pitch (fun g => g ∈ showFields) z u := by rw [hz]; exact (showPp_does z).1
    have hua : u.ppActive = z.ppActive := hshow.fields _ (by decide) (by decide) (by decide)
    have hall : Pitch PpMoving x u := ((hy.mono fun g => moving_of_show).trans hzp).trans (hshow.mono fun g => moving_of_show)
    obtain ⟨p1, p2, p3⟩ := hvp
    obtain ⟨q1, q2, q3, q4, q5⟩ := hxp
    have hxv : x.refValid r = false := by rw [hbit, q3, p3]
    have hur : u.ref r = w.ref r := by rw [hall.ref, State.ref, q1, p1, State.ref]
    refine ⟨(hall.refValid r).trans hxv, by rw [hur]; exact h1, by rw [hur]; exact h2, fun _ => ⟨?_, ?_, fun ha => ?_⟩⟩
    · rw [State.bit, hall.held (by simp [heldPp])]
      exact q4
    · rw [hall.held (by simp [heldPp])]
      exact q5
    · rw [hua]
      refine hza (hya.trans (q2.trans (p2.trans ha))) ?_
      rw [(hy.mono fun g => moving_of_show).refValid]
      exact hxv

end Sys2Proof.Machine
end

section
/-!
SAMPLES, ESTIMATES AND COMMANDS OF THE PITCH PIPE (R224–R238).
-/
namespace Sys2Proof.Machine

/-! ## Samples (R224–R227) -/

/-- The loop's update writes CLAMP and the rate. -/
theorem ppInput_does (e : Int) (s : State) : Pitch (· = F.PP_STAT_CLAMP) s (ppInput e s) ∧ KeepsStore s (ppInput e s) := by
  unfold ppInput
  extract_lets u lim p below above
  have hupdate : ∀ (y : PpS), y.refs = s.pp.refs → Pitch (· = F.PP_STAT_CLAMP) s (loopUpdate u (setPp y s))
      ∧ KeepsStore s (loopUpdate u (setPp y s)) := by
    intro y hy
    obtain ⟨w, hw, hwp⟩ : ∃ w, w = setPp y s ∧ w.pp = y := ⟨_, rfl, rfl⟩
    have h0 : Pitch (· = F.PP_STAT_CLAMP) s w ∧ KeepsStore s w := by rw [hw]; exact ⟨.setPp hy, rfl, rfl, rfl⟩
    rw [← hw]
    obtain ⟨h1, h2⟩ := h0
    unfold loopUpdate
    extract_lets q dt integ v c x d
    clear_value dt integ v c
    split
    · exact ⟨h1.trans (.setPp rfl), h2⟩
    · have hx : Pitch (· = F.PP_STAT_CLAMP) s x ∧ KeepsStore s x := by
        refine ⟨(h1.trans (Pitch.set (M := (· = F.PP_STAT_CLAMP)) rfl _ w)).trans (.setPp rfl), h2.1, h2.2.1, h2.2.2⟩
      have hd : d = x.pp := rfl
      clear_value x
      obtain ⟨h3, h4⟩ := hx
      have hy : ∀ z : State, Pitch (· = F.PP_STAT_CLAMP) s z → KeepsStore s z →
          Pitch (· = F.PP_STAT_CLAMP) s (steer c z) ∧ KeepsStore s (steer c z) := fun z hz hzs => by
        obtain ⟨k1, _, k3, _⟩ := pitch_steer (M := (· = F.PP_STAT_CLAMP)) c z
        exact ⟨hz.trans k1, hzs.trans k3⟩
      split
      · exact hy _ (h3.trans (.setPp (by rw [hd]))) h4
      · exact hy _ h3 h4
  exact hupdate _ rfl

/-- The field of a sample is none that the loop moves. -/
theorem phaseE_ne (r : Nat) : (F.PP_REF_PHASE_E r).lsb < 32 ∧ blockOf (F.PP_REF_PHASE_E r) = 0x2003
    ∧ (∀ g, SlewField g → Fd.key (F.PP_REF_PHASE_E r) ≠ Fd.key g) ∧ ∀ g : Fd, g.lsb < 32 → g.addr < 0x20030040 → Fd.key (F.PP_REF_PHASE_E r) ≠ Fd.key g := by
  have h : (F.PP_REF_PHASE_E r).lsb < 32 ∧ blockOf (F.PP_REF_PHASE_E r) = 0x2003 ∧ (F.PP_REF_PHASE_E r).addr % 2 ^ 32 = 0x20030040
      ∧ 0x20030040 ≤ (F.PP_REF_PHASE_E r).addr := by
    simp only [blockOf, F.PP_REF_PHASE_E, A.PP_REF_PHASE]
    omega
  obtain ⟨h1, h2, h3, h4⟩ := h
  refine ⟨h1, h2, fun g hg => hg.ne h1 (by rw [h3]; decide) fun e => ?_, fun g hl ha => Fd.key_ne h1 hl (.inl (by omega))⟩
  rw [e] at h3
  exact absurd h3 (by decide)

/-- A sample is shown, and the slew in progress moves on. -/
theorem sampleTick_does (r : Nat) (e : Int) (s : State) {v : State} (hv : v = slewTick (s.set (F.PP_REF_PHASE_E r) (ux 32 e))) :
    v.get (F.PP_REF_PHASE_E r) = ux 32 e ∧ v.now = s.now ∧ v.ppActive = s.ppActive ∧ KeepsStore s v
      ∧ (s.pp.slewing = false → KeepsFields [F.PP_REF_PHASE_E r] s v) := by
  obtain ⟨h1, h2, h3, h4⟩ := phaseE_ne r
  obtain ⟨w, hw⟩ : ∃ w, w = s.set (F.PP_REF_PHASE_E r) (ux 32 e) := ⟨_, rfl⟩
  have hwp : w.get (F.PP_REF_PHASE_E r) = ux 32 e := by
    rw [hw, State.get_set_same]
    exact Nat.mod_eq_of_lt (ux_lt 32 e)
  have hwk : w.pp = s.pp ∧ w.now = s.now ∧ KeepsStore s w ∧ KeepsFields [F.PP_REF_PHASE_E r] s w ∧ w.ppActive = s.ppActive := by
    rw [hw]
    exact ⟨rfl, rfl, ⟨rfl, rfl, rfl⟩, (KeepsFields.refl _ s).set _ (by simp), State.get_set_other _ _ (h4 _ (by decide) (by decide)).symm⟩
  obtain ⟨k1, k2, k3, k4, k5⟩ := hwk
  rw [← hw] at hv
  obtain ⟨p1, _, p3, _, p5⟩ := slewTick_does w hv
  refine ⟨(p1.fields _ h1 h2 h3).trans hwp, p1.now.trans k2, ?_, k3.trans p3, fun hs => ?_⟩
  · rw [hv]
    exact (slewTick_state w).2.trans k5
  · rw [p5 (by rw [k1]; exact hs)]
    exact k4

theorem refSample_does {r : Nat} (e : Int) (s : State) {u : State} (hu : u = refSample r e s) :
    u.get (F.PP_REF_PHASE_E r) = ux 32 e ∧ (u.ref r).act = true ∧ (u.ref r).last = s.now ∧ KeepsStore s u
      ∧ (s.ppActive ≠ r → s.pp.slewing = false → KeepsFields [F.PP_REF_PHASE_E r] s u) := by
  obtain ⟨h1, h2, _, h4⟩ := phaseE_ne r
  unfold refSample at hu
  extract_lets v was x x' y ok z q at hu
  obtain ⟨k1, k2, k3, k4, k5⟩ := sampleTick_does r e s (rfl : v = _)
  clear_value v
  have hx' : x'.act = true ∧ x'.last = s.now := ⟨rfl, k2⟩
  have hz : (z.ref r).act = true ∧ (z.ref r).last = s.now ∧ z.fld = v.fld ∧ KeepsStore v z := by
    have h : z.ref r = { x' with ok := ok } := ref_setRef ..
    rw [h]
    exact ⟨hx'.1, hx'.2, rfl, rfl, rfl, rfl⟩
  clear_value z
  obtain ⟨z1, z2, z3, z4⟩ := hz
  have hact : z.ppActive = v.ppActive := State.get_congr z3 _
  have hgoal : Pitch (· = F.PP_STAT_CLAMP) z u ∧ KeepsStore z u ∧ (s.ppActive ≠ r → u = z) := by
    split at hu
    · rw [hu]
      exact ⟨.refl z, ⟨rfl, rfl, rfl⟩, fun _ => rfl⟩
    · next hc =>
      have hne : s.ppActive = r := by
        rw [hact, k3] at hc
        simpa using hc
      split at hu
      · split at hu
        · rw [hu]
          exact ⟨.setPp rfl, ⟨rfl, rfl, rfl⟩, fun h => absurd hne h⟩
        · rw [hu]
          exact ⟨.refl z, ⟨rfl, rfl, rfl⟩, fun _ => rfl⟩
      · split at hu
        · rw [hu]
          obtain ⟨p1, p2⟩ := ppInput_does e z
          exact ⟨p1, p2, fun h => absurd hne h⟩
        · rw [hu]
          exact ⟨.refl z, ⟨rfl, rfl, rfl⟩, fun _ => rfl⟩
  obtain ⟨p1, p2, p3⟩ := hgoal
  refine ⟨?_, by rw [p1.ref]; exact z1, by rw [p1.ref]; exact z2, (k4.trans z4).trans p2, fun ha hs => ?_⟩
  · rw [p1.fields _ h1 h2 fun g hg => by rw [hg]; exact h4 _ (by decide) (by decide), State.get_congr z3]
    exact k1
  · rw [p3 ha]
    exact (k5 hs).congr z3

/-! ## Estimates (R226, R233) -/

theorem refHz_congr {s w : State} (h : ∀ f : Fd, f.lsb < 32 → f.addr % 2 ^ 32 ≠ 0x20030044 → w.get f = s.get f) (r : Nat) : w.refHz r = s.refHz r := by
  have h1 : w.get F.PP_WCLK_CFG_RATE = s.get F.PP_WCLK_CFG_RATE := h _ (by decide) (by decide)
  have h2 : w.get F.PP_SAPREF_CFG_PORT = s.get F.PP_SAPREF_CFG_PORT := h _ (by decide) (by decide)
  have h3 : ∀ p, w.sapHz p = s.sapHz p := fun p => by
    rw [State.sapHz, h _ (by simp [F.SAPp_CFG_RATE]) (by simp only [F.SAPp_CFG_RATE, A.SAPp_CFG]; omega), State.sapHz]
  rw [State.refHz, h1, h2, h3, State.refHz]

/-- The frequency shown of reference `r` lies within the slopes of its samples. -/
def Estimated (r : Nat) (s w : State) : Prop :=
  match slopes (if r < 2 then 0 else s.refHz r) (s.ref r).pts with
  | [] => w.get (F.PP_REF_FREQ_F r) = s.get (F.PP_REF_FREQ_F r)
  | d :: ds => ∃ x, ds.foldl min d ≤ x ∧ x ≤ ds.foldl max d ∧ w.get (F.PP_REF_FREQ_F r) = ux 32 (satS 32 x)

theorem min_le_max (ds : List Int) (a b : Int) (h : a ≤ b) : ds.foldl min a ≤ ds.foldl max b := by
  induction ds generalizing a b with
  | nil => exact h
  | cons x ds ih => exact ih _ _ (by omega)

theorem setRef_freqAt (r : Nat) (x : RefS) (s : State) : (setRef r x s).pp.freqAt = s.pp.freqAt := rfl

theorem estimate_does (r : Nat) (s : State) {u : State} (hu : u = estimate r s) :
    Estimated r s u ∧ (∀ f, Fd.key f ≠ Fd.key (F.PP_REF_FREQ_F r) → u.get f = s.get f) ∧ (∀ q, q ≠ r → u.ref q = s.ref q)
      ∧ u.pp.freqAt = s.pp.freqAt ∧ KeepsStore s u := by
  have href : ∀ (x : RefS) (w : State) (q : Nat), q ≠ r → (setRef r x w).ref q = w.ref q := fun x w q hq => mget_mset_other _ _ hq _ _
  unfold estimate at hu
  unfold Estimated
  extract_lets x at hu
  have hx : x = s.ref r := rfl
  clear_value x
  rw [hx] at hu
  split
  · next hnil =>
    rw [hnil] at hu
    rw [hu]
    exact ⟨rfl, fun _ _ => rfl, fun q hq => href _ s q hq, rfl, rfl, rfl, rfl⟩
  · next d ds hcons =>
    rw [hcons] at hu
    obtain ⟨⟨n, w⟩, hdraw⟩ : ∃ q, q = s.draw := ⟨_, rfl⟩
    have hw : w.fld = s.fld ∧ w.pp = s.pp ∧ KeepsStore s w := by
      have h : w = { s with fresh := s.fresh + 1 } := congrArg Prod.snd hdraw
      rw [h]
      exact ⟨rfl, rfl, rfl, rfl, rfl⟩
    obtain ⟨h1, h2, h3⟩ := hw
    rw [← hdraw] at hu
    dsimp -zeta only at hu
    extract_lets lo hi v ppm inside bad ok at hu
    clear_value bad ok
    have hmin : lo ≤ hi := min_le_max ds d d le_rfl
    have hv : lo ≤ v ∧ v ≤ hi := by
      have hpos : 0 < hi - lo + 1 := by omega
      have := Int.emod_nonneg (n : Int) (ne_of_gt hpos)
      have := Int.emod_lt_of_pos (n : Int) hpos
      constructor <;> simp only [v] <;> omega
    obtain ⟨y, hy⟩ : ∃ y, y = w.set (F.PP_REF_FREQ_F r) (ux 32 (satS 32 v)) := ⟨_, rfl⟩
    have hyk : y.get (F.PP_REF_FREQ_F r) = ux 32 (satS 32 v) ∧ (∀ f, Fd.key f ≠ Fd.key (F.PP_REF_FREQ_F r) → y.get f = s.get f)
        ∧ y.pp = s.pp ∧ KeepsStore s y := by
      rw [hy]
      refine ⟨?_, fun f hf => (State.get_set_other _ _ hf).trans (State.get_congr h1 _), h2, h3.1, h3.2.1, h3.2.2⟩
      rw [State.get_set_same]
      exact Nat.mod_eq_of_lt (ux_lt 32 _)
    obtain ⟨k1, k2, k3, k4⟩ := hyk
    rw [← hy] at hu
    rw [hu]
    refine ⟨⟨v, hv.1, hv.2, k1⟩, k2, fun q hq => (href _ y q hq).trans (by rw [State.ref, k3, State.ref]), ?_, k4.1, k4.2.1, k4.2.2⟩
    exact (setRef_freqAt r _ y).trans (congrArg PpS.freqAt k3)

theorem freqField (r : Nat) : (F.PP_REF_FREQ_F r).lsb < 32 ∧ (F.PP_REF_FREQ_F r).addr = 0x20030044 + 0x100000000 * r
    ∧ (F.PP_REF_FREQ_F r).addr % 2 ^ 32 = 0x20030044 := by
  refine ⟨(by decide : 0 < 32), rfl, ?_⟩
  simp only [F.PP_REF_FREQ_F, A.PP_REF_FREQ]
  omega

theorem freqField_ne {q r : Nat} (h : q ≠ r) : Fd.key (F.PP_REF_FREQ_F q) ≠ Fd.key (F.PP_REF_FREQ_F r) := by
  obtain ⟨h1, h2, _⟩ := freqField q
  obtain ⟨k1, k2, _⟩ := freqField r
  exact Fd.key_ne h1 k1 (.inl (by omega))

/-- What the estimates of a list of references leave to the others. -/
theorem estimates_do (l : List Nat) (hn : l.Nodup) (s : State) {u : State} (hu : u = l.foldl (fun u r => estimate r u) s) :
    (∀ r ∈ l, Estimated r s u) ∧ (∀ q, q ∉ l → u.get (F.PP_REF_FREQ_F q) = s.get (F.PP_REF_FREQ_F q)) ∧ u.pp.freqAt = s.pp.freqAt
      ∧ KeepsStore s u := by
  induction l generalizing s with
  | nil =>
    rw [hu]
    exact ⟨fun _ h => absurd h List.not_mem_nil, fun _ _ => rfl, rfl, rfl, rfl, rfl⟩
  | cons x l ih =>
    obtain ⟨hx, hl⟩ := List.nodup_cons.mp hn
    obtain ⟨h1, h2, h3, h4, h5⟩ := estimate_does x s rfl
    obtain ⟨k1, k2, k3, k4⟩ := ih hl (estimate x s) hu
    generalize estimate x s = v at h1 h2 h3 h4 h5 k1 k2 k3 k4
    have hhz : ∀ r, v.refHz r = s.refHz r := refHz_congr fun f hf ha =>
      h2 f (Fd.key_ne hf (freqField x).1 (.inl fun e => ha (by rw [e]; exact (freqField x).2.2)))
    refine ⟨fun r hr => ?_, fun q hq => ?_, k3.trans h4, h5.trans k4⟩
    · rcases List.mem_cons.mp hr with rfl | hr
      · have hsame : u.get (F.PP_REF_FREQ_F r) = v.get (F.PP_REF_FREQ_F r) := k2 r hx
        unfold Estimated at h1 ⊢
        rw [hsame]
        exact h1
      · have hne : r ≠ x := fun e => hx (e ▸ hr)
        have hr := k1 r hr
        unfold Estimated at hr ⊢
        rw [hhz, h3 r hne, h2 _ (freqField_ne hne)] at hr
        exact hr
    · rw [List.mem_cons, not_or] at hq
      exact (k2 q hq.2).trans (h2 _ (freqField_ne hq.1))

theorem showFields_freq (r : Nat) : ∀ g ∈ showFields, Fd.key (F.PP_REF_FREQ_F r) ≠ Fd.key g := by
  obtain ⟨h1, _, h3⟩ := freqField r
  intro g hg
  have hlist : ∀ g ∈ showFields, g.lsb < 32 ∧ g.addr % 2 ^ 32 ≠ 0x20030044 := by decide
  exact Fd.key_ne h1 (hlist g hg).1 (.inl fun e => (hlist g hg).2 (by rw [← e]; exact h3))

/-- FREQUENCY_ESTIMATE. -/
theorem freqEstimate_does {s : State} (hdue : s.pp.freqAt + uS ≤ s.now) {u : State} (hu : u = freqEstimate s) :
    u.pp.freqAt = s.now ∧ (∀ r < 5, Estimated r s u) ∧ KeepsStore s u := by
  unfold freqEstimate at hu
  rw [if_neg (by omega)] at hu
  obtain ⟨w, hw, hwf, hwr, hwa, hws⟩ : ∃ w, w = setPp { s.pp with freqAt := s.now } s ∧ w.fld = s.fld ∧ w.pp.refs = s.pp.refs
      ∧ w.pp.freqAt = s.now ∧ KeepsStore s w := ⟨_, rfl, rfl, rfl, rfl, rfl, rfl, rfl⟩
  obtain ⟨x, hx⟩ : ∃ x, x = (List.range 5).foldl (fun u r => estimate r u) w := ⟨_, rfl⟩
  obtain ⟨k1, _, k3, k4⟩ := estimates_do (List.range 5) List.nodup_range w hx
  have hux : u = showPp (showDisagree x) := by rw [hu, hx, hw]
  obtain ⟨d1, d2, d3⟩ := showDisagree_does x
  generalize showDisagree x = y at hux d1 d2 d3
  obtain ⟨e1, e2, e3⟩ := showPp_does y
  rw [← hux] at e1 e2 e3
  have hshow := d1.trans e1
  refine ⟨(congrArg PpS.freqAt (e2.trans d2)).trans (k3.trans hwa), fun r hr => ?_, ((hws.trans k4).trans d3).trans e3⟩
  have h := k1 r (List.mem_range.mpr hr)
  have hhz : w.refHz r = s.refHz r := refHz_congr (fun f _ _ => State.get_congr hwf f) r
  have href : w.ref r = s.ref r := by rw [State.ref, hwr, State.ref]
  have hfreq : u.get (F.PP_REF_FREQ_F r) = x.get (F.PP_REF_FREQ_F r) :=
    hshow.fields _ (freqField r).1 (by rw [blockOf, (freqField r).2.2]) (showFields_freq r)
  unfold Estimated at h ⊢
  rw [hhz, href, State.get_congr hwf] at h
  rw [hfreq]
  exact h

end Sys2Proof.Machine
end

section
/-!
THE COMMANDS OF THE PITCH PIPE (R224–R238).
-/
namespace Sys2Proof.Machine

/-! ## Qualification, lock and reversion (R226, R234, R235) -/

theorem refQualified_does {r : Nat} {s : State} (hr : r < 5) (hn : s.refValid r = false) (ha : s.refActive r = true) (hb : (s.ref r).bad = 0)
    (hok : (s.ref r).ok ≠ 0) (hdue : (s.ref r).ok - 1 + max 100 (s.get F.PP_QUAL_QUAL_MS) * uMs ≤ s.now) {u : State} (hu : u = refQualified r s) :
    u.refValid r = true ∧ (u.ref r).since = s.now := by
  unfold refQualified at hu
  extract_lets x at hu
  rw [if_pos (by
    rw [hn, ha, decide_eq_true hr, decide_eq_true hdue, show x.bad = 0 from hb, show (x.ok != 0) = true from bne_iff_ne.mpr hok]
    rfl)] at hu
  obtain ⟨w, hw⟩ : ∃ w, w = setRef r { x with since := s.now } (s.setBit F.PP_REFSTAT_VALID r true) := ⟨_, rfl⟩
  have hwk : w.refValid r = true ∧ (w.ref r).since = s.now := by
    rw [hw]
    refine ⟨?_, congrArg RefS.since (ref_setRef ..)⟩
    rw [State.refValid, Bool.or_eq_true]
    exact .inr (State.bit_setBit_same s (show r < 6 by omega))
  rw [← hw] at hu
  clear_value x
  obtain ⟨h1, h2⟩ := hwk
  obtain ⟨d1, _⟩ := showDisagree_does w
  have hd := d1.mono fun g => moving_of_show
  generalize showDisagree w = y at hu hd
  have hz : Pitch PpMoving y (ppWake y) := by
    unfold ppWake
    obtain ⟨_, _, _, h⟩ := ppSwitch_does (chooseRef_valid y).2 y rfl
    exact .ite h (.refl y)
  generalize ppWake y = z at hu hz
  have hall := (hd.trans hz).trans ((showPp_does z).1.mono fun g => moving_of_show)
  rw [← hu] at hall
  exact ⟨(hall.refValid r).trans h1, by rw [hall.ref]; exact h2⟩

theorem showFields_get {f : Fd} (hl : f.lsb < 32) (hb : blockOf f = 0x2003) (hf : ∀ g ∈ showFields, Fd.key f ≠ Fd.key g) (s : State) :
    (showPp s).get f = s.get f := (showPp_does s).1.fields f hl hb hf

theorem lockAchieved_does {s : State} (hst : s.ppState = ppACQUIRING) (hb : s.pp.below ≠ 0)
    (hdue : s.pp.below - 1 + s.get F.PP_LOCK_LOCK_MS * uMs ≤ s.now) {u : State} (hu : u = lockAchieved s) :
    u.ppState = ppLOCKED ∧ u.get F.PP_EVT_STATE = 1 := by
  unfold lockAchieved at hu
  rw [if_pos (by rw [hst, decide_eq_true hdue, bne_iff_ne.mpr hb]; rfl)] at hu
  obtain ⟨h1, h2, _⟩ := ppGo_does (st := ppLOCKED) (by decide) s rfl
  generalize ppGo ppLOCKED s = w at hu h1 h2
  rw [hu]
  exact ⟨(showFields_get (by decide) (by decide) (by decide) w).trans h1,
    (showFields_get (by decide) (by decide) (by decide) w).trans (h2 (by rw [hst]; decide))⟩

theorem lockLoss_does {s : State} (hst : s.ppState = ppLOCKED) (hb : s.pp.above ≠ 0) (hdue : s.pp.above - 1 + 100 * uMs ≤ s.now)
    {u : State} (hu : u = lockLoss s) : u.ppState = ppACQUIRING ∧ u.get F.PP_STAT_LOCKLOSS = 1 ∧ u.get F.PP_EVT_STATE = 1 := by
  unfold lockLoss at hu
  rw [if_pos (by rw [hst, decide_eq_true hdue, bne_iff_ne.mpr hb]; rfl)] at hu
  obtain ⟨v, hv⟩ : ∃ v, v = s.set F.PP_STAT_LOCKLOSS 1 := ⟨_, rfl⟩
  have hvs : v.ppState = ppLOCKED := by
    rw [hv, State.ppState, State.get_set_other _ _ (by decide)]
    exact hst
  have hvl : v.get F.PP_STAT_LOCKLOSS = 1 := by rw [hv]; exact State.get_set_same ..
  rw [← hv] at hu
  obtain ⟨h1, h2, h3, _⟩ := ppGo_does (st := ppACQUIRING) (by decide) v rfl
  generalize ppGo ppACQUIRING v = w at hu h1 h2 h3
  rw [hu]
  exact ⟨(showFields_get (by decide) (by decide) (by decide) w).trans h1,
    (showFields_get (by decide) (by decide) (by decide) w).trans ((h3.fields _ (by decide) (by decide) (by decide)).trans hvl),
    (showFields_get (by decide) (by decide) (by decide) w).trans (h2 (by rw [hvs]; decide))⟩

/-- A reference returned to is one of the five, and the loop is closed. -/
theorem reverts_does {r : Nat} {s : State} (h : r ∈ s.reverts) : r < 8 ∧ s.ppClosed = true := by
  unfold State.reverts at h
  extract_lets a ok at h
  split at h
  · exact absurd h List.not_mem_nil
  · next hc =>
    rw [Bool.or_eq_true, Bool.or_eq_true, not_or, not_or, Bool.not_eq_true, Bool.not_eq_false', Bool.and_eq_true] at hc
    refine ⟨?_, hc.1.1.2⟩
    rcases List.mem_append.mp h with h | h
    · split at h
      · rw [List.mem_singleton.mp h]
        have := sel_le s
        omega
      · exact absurd h List.not_mem_nil
    · obtain ⟨k, _, h⟩ := List.mem_flatMap.mp h
      have := List.mem_range.mp (List.mem_of_mem_filter h)
      omega

theorem reversion_does {r : Nat} {s : State} (h : s.reverts.find? s.heldOff = some r) {u : State} (hu : u = reversion s) :
    u.ppState = ppSWITCHING ∧ u.ppActive = r ∧ u.get F.PP_EVT_STATE = 1 := by
  obtain ⟨h8, hclosed⟩ := reverts_does (List.mem_of_find?_eq_some h)
  have hne : s.ppState ≠ ppSWITCHING := by
    intro e
    rw [State.ppClosed, e] at hclosed
    cases hclosed
  unfold reversion at hu
  rw [h] at hu
  obtain ⟨h1, h2, h3, _⟩ := ppSwitch_does h8 s rfl
  dsimp only at hu
  generalize ppSwitch r s = w at hu h1 h2 h3
  rw [hu]
  exact ⟨(showFields_get (by decide) (by decide) (by decide) w).trans h1, (showFields_get (by decide) (by decide) (by decide) w).trans h2,
    (showFields_get (by decide) (by decide) (by decide) w).trans (h3 hne)⟩

/-! ## Switches (R231) -/

/-- What the completion of a switch leaves before its event. -/
theorem switchComplete_does {s : State} (hst : s.ppState = ppSWITCHING) (hn : s.pp.avg.length = switchSamples s.ppActive)
    {u : State} (hu : u = switchComplete s) :
    u.get F.PP_SWCOUNT_COUNT = (s.get F.PP_SWCOUNT_COUNT + 1) % 2 ^ 32 ∧ u.get F.PP_EVT_SWITCH = 1
      ∧ (s.pp.held = none → s.pp.selPend = false →
          u.ppState = (if s.pp.wasLocked then ppLOCKED else ppACQUIRING) ∧ u.ppActive = s.ppActive
          ∧ u.get (F.PP_BUILDOUT_B s.ppActive) = ux 32 (roundAway (s.pp.avg.foldl (· + ·) 0) (switchSamples s.ppActive) - s.pp.u0)) := by
  obtain ⟨r, hr⟩ : ∃ r, r = s.ppActive := ⟨_, rfl⟩
  obtain ⟨b, hb⟩ : ∃ b, b = roundAway (s.pp.avg.foldl (· + ·) 0) (switchSamples s.ppActive) - s.pp.u0 := ⟨_, rfl⟩
  obtain ⟨w, hw⟩ : ∃ w, w = (setBuildout s.ppActive b s).inc F.PP_SWCOUNT_COUNT := ⟨_, rfl⟩
  have hbf : (F.PP_BUILDOUT_B r).lsb < 32 ∧ blockOf (F.PP_BUILDOUT_B r) = 0x2003 ∧ (F.PP_BUILDOUT_B r).addr % 2 ^ 32 = 0x20030048 := by
    simp only [blockOf, F.PP_BUILDOUT_B, A.PP_BUILDOUT]
    omega
  obtain ⟨b1, b2, b3⟩ := hbf
  have hne : ∀ f : Fd, f.lsb < 32 → f.addr % 2 ^ 32 ≠ 0x20030048 → Fd.key (F.PP_BUILDOUT_B r) ≠ Fd.key f := fun f hl ha =>
    Fd.key_ne b1 hl (.inl fun e => ha (by rw [← e]; exact b3))
  have hwk : w.get F.PP_SWCOUNT_COUNT = (s.get F.PP_SWCOUNT_COUNT + 1) % 2 ^ 32 ∧ w.get (F.PP_BUILDOUT_B r) = ux 32 b ∧ w.ppActive = r
      ∧ w.ppState = ppSWITCHING := by
    rw [hw, hr, State.inc, setBuildout]
    rw [hr] at hne
    refine ⟨?_, ?_, ?_, ?_⟩
    · rw [State.get_set_same, State.get_set_other _ _ (hne _ (by decide) (by decide)).symm]
      rfl
    · rw [State.get_set_other _ _ (hne _ (by decide) (by decide)), State.get_set_same]
      exact Nat.mod_eq_of_lt (ux_lt 32 _)
    · rw [State.ppActive, State.get_set_other _ _ (by decide), State.get_set_other _ _ (hne _ (by decide) (by decide)).symm]
      rfl
    · rw [State.ppState, State.get_set_other _ _ (by decide), State.get_set_other _ _ (hne _ (by decide) (by decide)).symm]
      exact hst
  unfold switchComplete at hu
  extract_lets r0 n p e w' since refs p1 x y at hu
  rw [if_neg (by rw [hst, show s.pp.avg.length = n from hn]; simp)] at hu
  have hw' : w' = w := by rw [hw, hb]
  have hx : x.fld = w.fld ∧ x.pp.held = s.pp.held ∧ x.pp.selPend = s.pp.selPend := by
    rw [← hw']
    exact ⟨rfl, rfl, rfl⟩
  clear_value x
  obtain ⟨hxf, hxh, hxs⟩ := hx
  have hpitch : Pitch (· = F.PP_EVT_SWITCH) x y :=
    (Pitch.set (M := (· = F.PP_EVT_SWITCH)) rfl 1 x).trans (pitch_capEvent 0 0 _)
  have hyp : y.pp = x.pp := by
    obtain ⟨_, _, _, _, _, _, h⟩ := eventOnly_capEvent 0 0 (x.set F.PP_EVT_SWITCH 1)
    rw [show y = _ from h]
    rfl
  have hye : y.get F.PP_EVT_SWITCH = 1 :=
    ((pitch_capEvent (M := fun _ => False) 0 0 (x.set F.PP_EVT_SWITCH 1)).fields _ (by decide) (by decide) fun _ h => h.elim).trans
      (get_of_set rfl)
  clear_value y
  have hyw : ∀ f : Fd, f.lsb < 32 → blockOf f = 0x2003 → Fd.key f ≠ Fd.key F.PP_EVT_SWITCH → y.get f = w.get f := fun f h1 h2 h3 =>
    (hpitch.fields f h1 h2 fun g hg => by rw [hg]; exact h3).trans (State.get_congr hxf f)
  have hst8 : (if p.wasLocked then ppLOCKED else ppACQUIRING) < 8 ∧ (if p.wasLocked then ppLOCKED else ppACQUIRING)
      = (if s.pp.wasLocked then ppLOCKED else ppACQUIRING) := ⟨by split <;> decide, rfl⟩
  generalize (if p.wasLocked then ppLOCKED else ppACQUIRING) = st at hu hst8
  obtain ⟨hst8, hsteq⟩ := hst8
  obtain ⟨g1, _, g3, ⟨_, _, _, _, g4⟩⟩ := ppGo_does hst8 y rfl
  obtain ⟨z, hz, hzf, hzh, hzs⟩ : ∃ z, z = closeLoop (ppGo st y) ∧ z.fld = (ppGo st y).fld ∧ z.pp.held = (ppGo st y).pp.held
      ∧ z.pp.selPend = (ppGo st y).pp.selPend := ⟨_, rfl, rfl, rfl, rfl⟩
  rw [← hz] at hu
  obtain ⟨k1, _, k3⟩ := ppAfter_does z rfl
  have hheld : ∀ f ∈ heldPp, Fd.key f ≠ Fd.key F.PP_EVT_SWITCH → u.get f = w.get f := fun f hf hne' => by
    have hlist : ∀ f ∈ heldPp, f.lsb < 32 ∧ blockOf f = 0x2003 ∧ ∀ g ∈ stateFields, Fd.key f ≠ Fd.key g := by decide
    obtain ⟨q1, q2, q3⟩ := hlist f hf
    rw [hu, (k1.trans ((showPp_does _).1.mono fun g => moving_of_show)).held hf, State.get_congr hzf, g3.fields f q1 q2 q3]
    exact hyw f q1 q2 hne'
  obtain ⟨w1, w2, w3, _⟩ := hwk
  refine ⟨(hheld _ (by simp [heldPp]) (by decide)).trans w1, ?_, fun hh hsp => ?_⟩
  · rw [hu, (k1.trans ((showPp_does _).1.mono fun g => moving_of_show)).held (by simp [heldPp]), State.get_congr hzf,
      g3.fields _ (by decide) (by decide) (by decide)]
    exact hye
  · have hafter : ppAfter z = z := k3 (by rw [hzh, g4, hyp]; exact hxh.trans hh) (by rw [hzs, g4, hyp]; exact hxs.trans hsp)
    rw [hafter] at hu
    have hget : ∀ f : Fd, f.lsb < 32 → blockOf f = 0x2003 → (∀ g ∈ showFields, Fd.key f ≠ Fd.key g) → u.get f = (ppGo st y).get f :=
      fun f h1 h2 h3 => by
        rw [hu, showFields_get h1 h2 h3]
        exact State.get_congr hzf f
    refine ⟨?_, ?_, ?_⟩
    · rw [← hsteq]
      exact (hget _ (by decide) (by decide) (by decide)).trans g1
    · rw [State.ppActive, hget _ (by decide) (by decide) (by decide), g3.fields _ (by decide) (by decide) stateFields_active,
        hyw _ (by decide) (by decide) (by decide)]
      exact w3.trans hr
    · rw [← hb, ← hr]
      have hlist : ∀ g ∈ showFields ++ stateFields ++ [F.PP_EVT_SWITCH], g.lsb < 32 ∧ g.addr % 2 ^ 32 ≠ 0x20030048 := by decide
      have hno : ∀ g ∈ showFields ++ stateFields ++ [F.PP_EVT_SWITCH], Fd.key (F.PP_BUILDOUT_B r) ≠ Fd.key g := fun g hg =>
        hne g (hlist g hg).1 (hlist g hg).2
      rw [hget _ b1 b2 fun g hg => hno g (by simp [hg]), g3.fields _ b1 b2 fun g hg => hno g (by simp [hg]), hyw _ b1 b2 (hno _ (by simp))]
      exact w2

/-! ## Holdover (R236) -/

theorem holdUpdate_does {s : State} (hst : s.ppState = ppLOCKED) (hl : uS ≤ s.lockedFor) {u : State} (hu : u = holdUpdate s) :
    u.get F.PP_HOLD_RATE_RATE = (if s.pp.rateN = 0 then s.get F.PP_HOLD_RATE_RATE % 2 ^ 32
          else ux 32 (s.holdRate + (s.pp.rateSum - s.holdRate * s.pp.rateN) / (300 * s.pp.rateN : Nat)))
      ∧ u.get F.PP_HOLD_AGE_SECONDS = min (s.get F.PP_HOLD_AGE_SECONDS + 1) (2 ^ 32 - 1)
      ∧ (59 ≤ s.get F.PP_HOLD_AGE_SECONDS → u.get F.PP_STAT_HISTVALID = 1)
      ∧ KeepsFields [F.PP_HOLD_RATE_RATE, F.PP_HOLD_AGE_SECONDS, F.PP_STAT_HISTVALID] s u ∧ KeepsStore s u := by
  unfold holdUpdate at hu
  rw [if_neg (by rw [hst, decide_eq_true hl]; decide)] at hu
  extract_lets p h v x y at hu
  have hx : x.get F.PP_HOLD_RATE_RATE = (if s.pp.rateN = 0 then s.get F.PP_HOLD_RATE_RATE % 2 ^ 32
          else ux 32 (s.holdRate + (s.pp.rateSum - s.holdRate * s.pp.rateN) / (300 * s.pp.rateN : Nat)))
      ∧ x.get F.PP_HOLD_AGE_SECONDS = s.get F.PP_HOLD_AGE_SECONDS
      ∧ KeepsFields [F.PP_HOLD_RATE_RATE, F.PP_HOLD_AGE_SECONDS, F.PP_STAT_HISTVALID] s x ∧ KeepsStore s x := by
    refine ⟨?_, State.get_set_other _ _ (by decide), ((KeepsFields.refl _ s).congr rfl).set _ (by simp), rfl, rfl, rfl⟩
    rw [show x.get F.PP_HOLD_RATE_RATE = ux 32 v % 2 ^ 32 from State.get_set_same .., Nat.mod_eq_of_lt (ux_lt 32 v)]
    unfold v
    split
    · exact ux_sx_mod 32 _
    · rfl
  clear_value x
  obtain ⟨x1, x2, x3, x4⟩ := hx
  have hy : y.get F.PP_HOLD_AGE_SECONDS = min (s.get F.PP_HOLD_AGE_SECONDS + 1) (2 ^ 32 - 1) := by
    rw [← x2]
    exact State.addSat_get x F.PP_HOLD_AGE_SECONDS 1
  have hyr : y.get F.PP_HOLD_RATE_RATE = x.get F.PP_HOLD_RATE_RATE := State.get_set_other _ _ (by decide)
  have hyk : KeepsFields [F.PP_HOLD_RATE_RATE, F.PP_HOLD_AGE_SECONDS, F.PP_STAT_HISTVALID] s y ∧ KeepsStore s y :=
    ⟨x3.addSat 1 (by simp), x4.1, x4.2.1, x4.2.2⟩
  clear_value y
  split at hu
  · rw [hu]
    refine ⟨?_, ?_, fun _ => get_of_set rfl, hyk.1.set _ (by simp), hyk.2.1, hyk.2.2.1, hyk.2.2.2⟩
    · rw [State.get_set_other _ _ (by decide), hyr, x1]
    · rw [State.get_set_other _ _ (by decide), hy]
  · next hn =>
    rw [hu]
    refine ⟨hyr.trans x1, hy, fun h => absurd (by rw [hy]; omega) hn, hyk.1, hyk.2⟩

end Sys2Proof.Machine
end

section
/-!
REGISTER WRITES OF THE PITCH PIPE, and its settled statement (R227, R229, R237, R238).
-/
namespace Sys2Proof.Machine

/-! ## PP_CTRL and PP_FREERUN_RATE (R227, R229) -/

theorem pitch_steerNow (s : State) : Pitch (fun _ => False) s (steerNow s) ∧ (steerNow s).pp = s.pp := by
  have hsteer : ∀ v, Pitch (fun _ => False) s (steer v s) ∧ (steer v s).pp = s.pp := fun v => by
    obtain ⟨h1, h2, _⟩ := pitch_steer (M := fun _ => False) v s
    exact ⟨h1, h2⟩
  unfold steerNow
  split
  · exact hsteer _
  split
  · exact hsteer _
  split
  · exact pitch_steerHold s
  · exact ⟨.refl s, rfl⟩

/-- PP_CTRL as written. -/
theorem putCtrl_does (v : Nat) (s : State) {w : State} (hw : w = s.writeRegPlain A.PP_CTRL v) :
    w.get F.PP_CTRL_SEL = v % 8 ∧ w.get F.PP_CTRL_STEER = (bitOf v 10).toNat ∧ w.pp = s.pp
      ∧ ∀ f : Fd, f.lsb < 32 → f.addr ≠ A.PP_CTRL → w.get f = s.get f := by
  have hfields : ∀ g ∈ fieldsAt A.PP_CTRL, g.lsb < 32 ∧ g.addr = A.PP_CTRL := by decide
  refine ⟨?_, ?_, ?_, fun f hl ha => ?_⟩
  · rw [hw, State.writeRegPlain_get_rw (f := F.PP_CTRL_SEL) (by decide) rfl (by decide)]
    show v / 2 ^ 0 % 2 ^ 3 % 2 ^ 3 = v % 8
    omega
  · rw [hw, State.writeRegPlain_get_rw (f := F.PP_CTRL_STEER) (by decide) rfl (by decide), bitOf]
    show v / 2 ^ 10 % 2 ^ 1 % 2 ^ 1 = _
    rw [show v / 2 ^ 10 % 2 ^ 1 % 2 ^ 1 = v / 2 ^ 10 % 2 by omega]
    rcases Nat.mod_two_eq_zero_or_one (v / 2 ^ 10) with h | h
    · rw [h]
      rfl
    · rw [h]
      rfl
  · obtain ⟨l, h⟩ := s.writeRegPlain_only A.PP_CTRL v
    rw [hw, h]
  · rw [hw]
    exact State.writeRegPlain_get_other s _ v fun g hg =>
      Fd.key_ne hl (hfields g hg).1 (.inl (by rw [(hfields g hg).2]; exact ha))

theorem wrPpCtrl_does (v : Nat) (s : State) {u : State} (hu : u = wrPpCtrl v s) :
    u.get F.PP_CTRL_SEL = v % 8 ∧ u.get F.PP_CTRL_STEER = (bitOf v 10).toNat
      ∧ (s.ppState = ppSWITCHING → u.ppState = ppSWITCHING ∧ u.pp.selPend = true)
      ∧ (s.ppState ≠ ppSWITCHING → v % 8 < 5 → s.refValid (v % 8) = true → v % 8 ≠ s.ppActive → u.ppState = ppSWITCHING ∧ u.ppActive = v % 8)
      ∧ (s.get F.PP_CTRL_STEER = 0 → bitOf v 10 = true → s.ppState = ppFREERUN → s.fcuState ≠ 2 → (5 ≤ v % 8 ∨ s.refValid (v % 8) = false) →
          u.get F.TIME_RATE_RATE = s.get F.PP_FREERUN_RATE_RATE % 2 ^ 32) := by
  unfold wrPpCtrl at hu
  extract_lets was w x p at hu
  obtain ⟨w1, w2, w3, w4⟩ := putCtrl_does v s (rfl : w = _)
  have hx : Pitch (fun _ => False) w x ∧ x.pp = w.pp
      ∧ (s.get F.PP_CTRL_STEER = 0 → bitOf v 10 = true → x = steerNow w) := by
    obtain ⟨h1, h2⟩ := pitch_steerNow w
    unfold x
    split
    · exact ⟨h1, h2, fun _ _ => rfl⟩
    · next hc =>
      refine ⟨.refl w, rfl, fun h0 hb => absurd ?_ hc⟩
      rw [show was = false by rw [show was = (s.get F.PP_CTRL_STEER != 0) from rfl, h0]; rfl, State.on, w2, hb]
      rfl
  have hp : p = x.pp := rfl
  clear_value x w p
  obtain ⟨x1, x2, x3⟩ := hx
  have hxget : ∀ f : Fd, f.lsb < 32 → blockOf f = 0x2003 → f.addr ≠ A.PP_CTRL → x.get f = s.get f := fun f h1 h2 h3 =>
    (x1.fields f h1 h2 fun _ h => h.elim).trans (w4 f h1 h3)
  have hst : x.ppState = s.ppState := hxget _ (by decide) (by decide) (by decide)
  have hact : x.ppActive = s.ppActive := hxget _ (by decide) (by decide) (by decide)
  have hvalid : ∀ r, x.refValid r = s.refValid r := fun r => by
    rw [State.refValid, State.bit, hxget _ (by decide) (by decide) (by decide), State.refValid, State.bit]
  have hsel : x.sel = min 5 (v % 8) := by
    rw [State.sel, x1.fields _ (by decide) (by decide) fun _ h => h.elim, w1]
  obtain ⟨y, hy, hyp⟩ : ∃ y, y = (if x.ppState == ppSWITCHING then setPp { p with selPend := true } x else ppSelect x) ∧ Pitch PpMoving x y := by
    refine ⟨_, rfl, ?_⟩
    split
    · exact .setPp (by rw [hp])
    · exact (ppSelect_does x rfl).1
  rw [← hy] at hu
  have hall : Pitch PpMoving x u := hyp.trans (by rw [hu]; exact (showPp_does y).1.mono fun g => moving_of_show)
  have hshow : ∀ f : Fd, f.lsb < 32 → blockOf f = 0x2003 → (∀ g ∈ showFields, Fd.key f ≠ Fd.key g) → u.get f = y.get f := fun f h1 h2 h3 => by
    rw [hu]
    exact showFields_get h1 h2 h3 y
  refine ⟨?_, ?_, fun hs => ?_, fun hs h5 hv ha => ?_, fun h0 hb hf hq h5 => ?_⟩
  · rw [hall.held (by simp [heldPp]), x1.fields _ (by decide) (by decide) fun _ h => h.elim]
    exact w1
  · rw [hall.held (by simp [heldPp]), x1.fields _ (by decide) (by decide) fun _ h => h.elim]
    exact w2
  · have hgo : y = setPp { p with selPend := true } x := by rw [hy, hst, hs]; rfl
    refine ⟨(hshow _ (by decide) (by decide) (by decide)).trans ?_, ?_⟩
    · rw [hgo]
      exact hst.trans hs
    · rw [hu, (showPp_does y).2.1, hgo]
      rfl
  · have hgo : y = ppSwitch (v % 8) x := by
      rw [hy, if_neg (by rw [hst]; simpa using hs)]
      have hsel' : x.sel = v % 8 := by omega
      unfold ppSelect
      dsimp only
      rw [hsel', if_neg (by simp; omega), hvalid, hv, hact, if_pos (by simpa using ha)]
    obtain ⟨k1, k2, _, _⟩ := ppSwitch_does (by omega) x hgo
    exact ⟨(hshow _ (by decide) (by decide) (by decide)).trans k1, (hshow _ (by decide) (by decide) (by decide)).trans k2⟩
  · have hstay : y = x := by
      rw [hy, if_neg (by rw [hst, hf]; decide)]
      unfold ppSelect
      dsimp only
      rw [hsel]
      by_cases hge : 5 ≤ v % 8
      · rw [show min 5 (v % 8) = 5 by omega, if_pos (beq_self_eq_true _), State.ppClosed, hst, hf]
        rfl
      · have hinv := h5.resolve_left hge
        rw [show min 5 (v % 8) = v % 8 by omega, if_neg (by simp; omega), hvalid, hinv]
        rfl
    have hwf : w.ppState = ppFREERUN := (w4 _ (by decide) (by decide)).trans hf
    have hgo : x = putRate w.freerunRate w := by
      rw [x3 h0 hb, steerNow, hwf, if_pos (beq_self_eq_true _), steer, if_pos]
      rw [State.on, w2, hb, State.fcuState, w4 _ (by decide) (by decide), bne_iff_ne.mpr (show s.get F.FCU_STAT_STATE ≠ 2 from hq)]
      rfl
    obtain ⟨_, _, k3, _⟩ := putRate_folds w.freerunRate w hgo
    rw [hu, hstay]
    refine (State.get_set_other _ _ (by decide)).trans ((State.get_set_other _ _ (by decide)).trans (k3.trans ?_))
    rw [State.freerunRate, ux_sx_mod, w4 _ (by decide) (by decide)]

theorem wrFreerun_does (v : Nat) (s : State) {u : State} (hu : u = wrFreerun v s) :
    u.get F.PP_FREERUN_RATE_RATE = v % 2 ^ 32 ∧ u.dev = s.dev
      ∧ (if s.ppState = ppFREERUN ∧ s.get F.PP_CTRL_STEER = 1 ∧ s.fcuState ≠ 2 then u.get F.TIME_RATE_RATE = v % 2 ^ 32
         else s.get F.PP_CTRL_STEER ≤ 1 → u.get F.TIME_RATE_RATE = s.get F.TIME_RATE_RATE)
      ∧ KeepsFields [F.PP_FREERUN_RATE_RATE, F.TIME_RATE_RATE] s u ∧ KeepsStore s u := by
  obtain ⟨w, hw⟩ : ∃ w, w = s.set F.PP_FREERUN_RATE_RATE v := ⟨_, rfl⟩
  have hwk : w.get F.PP_FREERUN_RATE_RATE = v % 2 ^ 32 ∧ w.dev = s.dev ∧ w.get F.TIME_RATE_RATE = s.get F.TIME_RATE_RATE
      ∧ w.ppState = s.ppState ∧ w.get F.PP_CTRL_STEER = s.get F.PP_CTRL_STEER ∧ w.fcuState = s.fcuState
      ∧ KeepsFields [F.PP_FREERUN_RATE_RATE, F.TIME_RATE_RATE] s w ∧ KeepsStore s w := by
    rw [hw]
    exact ⟨State.get_set_same .., dev_set v s (by decide), State.get_set_other _ _ (by decide), State.get_set_other _ _ (by decide),
      State.get_set_other _ _ (by decide), State.get_set_other _ _ (by decide), (KeepsFields.refl _ s).set _ (by simp), rfl, rfl, rfl⟩
  obtain ⟨w1, w2, w3, w4, w5, w6, w7, w8⟩ := hwk
  unfold wrFreerun at hu
  rw [← hw] at hu
  dsimp only at hu
  by_cases hgo : s.ppState = ppFREERUN ∧ (w.on F.PP_CTRL_STEER && w.fcuState != 2) = true
  · obtain ⟨hf, hon⟩ := hgo
    rw [w4, hf, if_pos (beq_self_eq_true _), steer, if_pos hon] at hu
    obtain ⟨k1, _, k3, k4, k5⟩ := putRate_folds w.freerunRate w hu
    rw [Bool.and_eq_true, State.on, bne_iff_ne, bne_iff_ne, w5, w6] at hon
    have hrate : u.get F.TIME_RATE_RATE = v % 2 ^ 32 := by
      rw [k3, State.freerunRate, ux_sx_mod, w1]
      exact Nat.mod_mod ..
    refine ⟨(k4 _ (by decide) (by decide)).trans w1, k1.trans w2, ?_, w7.trans (k4.mono (by simp)), w8.trans k5⟩
    split
    · exact hrate
    · next hn => exact fun hle => absurd ⟨hf, by omega, hon.2⟩ hn
  · have hstay : u = w := by
      rw [hu]
      split
      · next hf =>
        rw [w4, beq_iff_eq] at hf
        rw [steer, if_neg fun h => hgo ⟨hf, h⟩]
      · rfl
    rw [hstay]
    refine ⟨w1, w2, ?_, w7, w8⟩
    split
    · next hc =>
      obtain ⟨hf, hone, hq⟩ := hc
      refine absurd ⟨hf, ?_⟩ hgo
      rw [State.on, w5, hone, w6, bne_iff_ne.mpr hq]
      rfl
    · exact fun _ => w3

/-! ## Phase steps (R237) -/

theorem psResult_does {r : Nat} (hr : r < 8) (s : State) {u : State} (hu : u = psResult r s) :
    u.get F.PP_PSTEP_STAT_RESULT = r ∧ KeepsFields [F.PP_PSTEP_STAT_RESULT] s u ∧ KeepsStore s u := by
  rw [hu]
  refine ⟨?_, (KeepsFields.refl _ s).set _ (by simp), rfl, rfl, rfl⟩
  rw [psResult, State.get_set_same]
  exact Nat.mod_eq_of_lt hr

/-- The mode of a keyed word is set apart from its key. -/
theorem keyed_withBit {v : Nat} (h : Keyed v) (b : Bool) : Keyed (withBit v 1 b) ∧ bitOf (withBit v 1 b) 1 = b := by
  obtain ⟨h1, h2⟩ := h
  rw [bitOf, beq_iff_eq, pow_zero, Nat.div_one] at h2
  have hb : ∀ w, Keyed w ↔ w / 65536 = 0xA55A ∧ w % 2 = 1 := fun w => by
    rw [Keyed, bitOf, beq_iff_eq]
    simp only [pow_zero, Nat.div_one]
  rw [hb]
  unfold withBit
  by_cases hs : bitOf v 1 = true
  · rw [if_pos hs]
    cases b with
    | true =>
      rw [if_pos rfl]
      exact ⟨⟨h1, h2⟩, hs⟩
    | false =>
      rw [if_neg Bool.false_ne_true]
      rw [bitOf, beq_iff_eq] at hs
      refine ⟨by omega, ?_⟩
      rw [bitOf, beq_eq_false_iff_ne]
      omega
  · rw [if_neg hs]
    rw [bitOf, beq_iff_eq] at hs
    cases b with
    | true =>
      rw [if_pos rfl]
      refine ⟨by omega, ?_⟩
      rw [bitOf, beq_iff_eq]
      omega
    | false =>
      rw [if_neg Bool.false_ne_true]
      refine ⟨by omega, ?_⟩
      rw [bitOf, beq_eq_false_iff_ne]
      exact hs

theorem wrPstep_keyed {v : Nat} (h : Keyed v) (s : State) : wrPstep v s
    = if s.ppActive == 5 then psResult psNOREF s
      else if bitOf v 1 && !s.on F.TIME_STAT_ARMED then psResult psTIMESTEP s
      else if s.pp.held.isSome then psResult psKEYBUSY s
      else if s.ppState == ppSWITCHING then
        (setPp { s.pp with held := some (bitOf v 1, sx 32 (s.get F.PP_PSTEP_DELTA)) } s).set F.PP_PSTEP_STAT_BUSY 1
      else phaseStep (bitOf v 1) (sx 32 (s.get F.PP_PSTEP_DELTA)) s := by
  unfold wrPstep
  dsimp only
  rw [if_neg (by rw [h.1, h.2]; decide)]

theorem phaseStep_slew {d : Int} {s : State} (ha : s.ppActive ≠ 5) {u : State} (hu : u = phaseStep false d s) :
    u.get F.PP_PSTEP_STAT_BUSY = 1 ∧ u.pp.slewing = true
      ∧ u.get F.PP_PSTEP_REMAIN_REMAIN = ux 32 (sx 32 ((slewTick s).get F.PP_PSTEP_REMAIN_REMAIN) + d) ∧ KeepsStore s u := by
  unfold phaseStep at hu
  rw [if_neg (by simpa using ha), if_neg Bool.false_ne_true] at hu
  obtain ⟨_, _, h3, _⟩ := slewTick_does s rfl
  generalize slewTick s = w at hu h3
  extract_lets y left p x at hu
  have hx : x.pp.slewing = true ∧ KeepsStore w x := ⟨rfl, rfl, rfl, rfl⟩
  clear_value x
  obtain ⟨hs, hk⟩ := hx
  rw [hu]
  refine ⟨get_of_set rfl, hs, ?_, h3.trans hk⟩
  rw [State.get_set_other _ _ (by decide), State.get_set_same]
  exact Nat.mod_eq_of_lt (ux_lt 32 _)

theorem phaseStep_immediate {d : Int} {s : State} (ha : s.ppActive < 5) (harm : s.get F.TIME_STAT_ARMED = 1) {u : State}
    (hu : u = phaseStep true d s) :
    u.get F.PP_PSTEP_STAT_RESULT = 1 ∧ u.get F.PP_EVT_PSTEP = 1 ∧ u.get F.TIME_STAT_ARMED = 0 ∧ u.time.c = s.time.c + d * 2 ^ 40
      ∧ u.get (F.PP_BUILDOUT_B s.ppActive) = ux 32 (s.buildout s.ppActive - d) := by
  unfold phaseStep at hu
  rw [if_neg (by simp; omega), if_pos rfl, if_neg (by rw [State.on, harm]; decide)] at hu
  obtain ⟨r, hr⟩ : ∃ r, r = s.ppActive := ⟨_, rfl⟩
  rw [← hr] at hu ⊢
  obtain ⟨w, hw⟩ : ∃ w, w = setBuildout r (s.buildout r - d) s := ⟨_, rfl⟩
  have hwb : w.get (F.PP_BUILDOUT_B r) = ux 32 (s.buildout r - d) ∧ w.time = s.time := by
    rw [hw]
    refine ⟨?_, rfl⟩
    rw [setBuildout, State.get_set_same]
    exact Nat.mod_eq_of_lt (ux_lt 32 _)
  rw [← hw] at hu
  dsimp only at hu
  obtain ⟨h1, _, h3, _⟩ := takeStep_does d w rfl
  have hp := pitch_takeStep (M := fun _ => False) d w
  generalize takeStep d w = y at hu h1 h3 hp
  have hb : (F.PP_BUILDOUT_B r).lsb < 32 ∧ blockOf (F.PP_BUILDOUT_B r) = 0x2003 ∧ (F.PP_BUILDOUT_B r).addr % 2 ^ 32 = 0x20030048 := by
    simp only [blockOf, F.PP_BUILDOUT_B, A.PP_BUILDOUT]
    omega
  obtain ⟨b1, b2, b3⟩ := hb
  have hne : ∀ g ∈ [F.PP_EVT_PSTEP, F.PP_PSTEP_STAT_RESULT], Fd.key (F.PP_BUILDOUT_B r) ≠ Fd.key g := fun g hg => by
    have hlist : ∀ g ∈ [F.PP_EVT_PSTEP, F.PP_PSTEP_STAT_RESULT], g.lsb < 32 ∧ g.addr % 2 ^ 32 ≠ 0x20030048 := by decide
    exact Fd.key_ne b1 (hlist g hg).1 (.inl fun e => (hlist g hg).2 (by rw [← e]; exact b3))
  rw [hu]
  refine ⟨?_, get_of_set rfl, ?_, h3.trans (by rw [hwb.2]), ?_⟩
  · rw [State.get_set_other _ _ (by decide)]
    exact (psResult_does (by decide) y rfl).1
  · rw [State.get_set_other _ _ (by decide), psResult, State.get_set_other _ _ (by decide)]
    exact h1
  · rw [State.get_set_other _ _ (hne _ (by simp)), psResult, State.get_set_other _ _ (hne _ (by simp)), hp.fields _ b1 b2 fun _ h => h.elim]
    exact hwb.1

theorem slewDone_does {s : State} (hsl : s.pp.slewing = true) (h0 : (slewTick s).get F.PP_PSTEP_REMAIN_REMAIN = 0) {u : State} (hu : u = slewDone s) :
    u.pp.slewing = false ∧ u.get F.PP_PSTEP_STAT_RESULT = 1 ∧ u.get F.PP_EVT_PSTEP = 1 ∧ u.get F.PP_PSTEP_STAT_BUSY = s.pp.held.isSome.toNat
      ∧ KeepsStore s u := by
  unfold slewDone at hu
  obtain ⟨_, ⟨a, m, hp⟩, h3, _⟩ := slewTick_does s rfl
  generalize slewTick s = w at hu h0 hp h3
  extract_lets y p x at hu
  rw [if_pos (by rw [show y = w from rfl, hp, h0]; simpa using hsl)] at hu
  have hx : x.pp.slewing = false ∧ KeepsStore w x ∧ x.pp.held = s.pp.held := by
    refine ⟨rfl, ⟨rfl, rfl, rfl⟩, ?_⟩
    show w.pp.held = _
    rw [hp]
  clear_value x
  obtain ⟨x1, x2, x3⟩ := hx
  rw [hu]
  refine ⟨x1, ?_, get_of_set rfl, ?_, h3.trans x2⟩
  · rw [State.get_set_other _ _ (by decide)]
    exact get_of_set rfl
  · rw [State.get_set_other _ _ (by decide), psResult, State.get_set_other _ _ (by decide), State.get_set_same, x3]
    cases s.pp.held <;> rfl

/-! ## Clock outputs (R238) -/

theorem clockStart_does {k : Nat} {s : State} (hk : k < 3) (hen : s.clkEn k = true) (hrun : bitOf s.pp.clkRun k = false) (hb : s.breathing = true)
    (hq : s.fcuState ≠ 2) (h0 : 0 ≤ s.since s.n) (h1 : s.since s.n < 256) {u : State} (hu : u = clockStart k s) :
    bitOf u.pp.clkRun k = true ∧ mget 0 k u.pp.clkFrom = s.sinceAnchor (s.dev - s.since s.n) * 49152000 / 256000000000 ∧ KeepsAll s u := by
  unfold clockStart at hu
  extract_lets d p at hu
  rw [if_pos (by
    rw [decide_eq_true hk, hen, hrun, hb, show decide (0 ≤ d && d < 256) = true by
      rw [decide_eq_true_eq, Bool.and_eq_true]; exact ⟨decide_eq_true h0, decide_eq_true h1⟩, bne_iff_ne.mpr hq]
    rfl)] at hu
  rw [hu]
  refine ⟨bitOf_withBit_same .., ?_, .of_fld _ rfl, rfl, rfl, rfl⟩
  show mget 0 k (mset 0 k ((s.sinceAnchor (s.dev - d)) * 49152000 / 256000000000) p.clkFrom) = _
  rw [mget_mset_same]

end Sys2Proof.Machine

open Sys2Proof Sys2Proof.Machine

/-- Settles O48: each part of the Pitch Pipe writes its own registers, and its events leave them and its references alone. -/
theorem pitchPipeRowsComplete : Obligations.PitchPipeRowsComplete := by
  unfold Obligations.PitchPipeRowsComplete
  have hquiet : ∀ f : Fd, f.lsb < 32 → blockOf f = 0x2003 → Fd.quiet f = true := fun f => quiet_of_pp
  have hfreq : ∀ r, Fd.quiet (F.PP_REF_FREQ_F r) = true := fun r => hquiet _ (freqField r).1 (by rw [blockOf, (freqField r).2.2])
  have hbuild : ∀ r, Fd.quiet (F.PP_BUILDOUT_B r) = true := fun r => hquiet _ (by simp [F.PP_BUILDOUT_B]) (by
    simp only [blockOf, F.PP_BUILDOUT_B, A.PP_BUILDOUT]
    omega)
  have href : ∀ (s w : State) (r : Nat), (sumTick s w).ref r = w.ref r := fun s w r => by rw [State.ref, sumTick_pp, State.ref]
  have hvalid : ∀ (s w : State) (r : Nat), (sumTick s w).refValid r = w.refValid r := fun s w r => by
    rw [State.refValid, State.bit, sumTick_get _ _ (by decide), State.refValid, State.bit]
  have hrespRef : ∀ (s w : State) (m r : Nat), (sumTick s (w.respond m 0 false false)).ref r = w.ref r := fun s w m r => by
    rw [href, State.ref, State.respond_pp, State.ref]
  refine ⟨?_, ?_, ?_, ?_, ?_, ?_, ?_, ?_, ?_, ?_, ?_, ?_, ?_, ?_, ?_⟩
  · intro m n v s hn h
    have hgo : exec (.ptpSample m n v) s = done s (guarded m (A.PP_PTP_ERR n) (wrPtpErr n v) s) := by
      show execPtpSample m n v s = _
      rw [execPtpSample, Nat.mod_eq_of_lt hn]
    refine ⟨_, hgo.trans (done_alive _ h.alive :), ?_⟩
    rw [guarded_admitted _ h]
    obtain ⟨h1, h2, h3, h4, h5⟩ := refSample_does (r := n) (sx 32 v) s rfl
    refine ⟨answers_sumTick .., (respond_get _ _ _ _ _ _ (hquiet _ (phaseE_ne n).1 (phaseE_ne n).2.1)).trans (h1.trans (ux_sx_mod 32 v)), ?_, ?_,
      fun ha hs => keepsFields_sumTick _ _ _ _ (h5 ha hs), keepsStore_sumTick _ _ _ _ h4⟩
    · rw [hrespRef]
      exact h2
    · rw [hrespRef]
      exact h3
  · intro r t edges xs s ha h2 h5 hxs hne
    have hgo : hwSample r edges (s.atTime t)
        = refSample r (roundAway (xs.foldl (fun a x => a + (s.atTime t).edgeErr (s.refHz r) x) 0) (s.refHz r * xs.length)) (s.atTime t) := by
      unfold hwSample
      dsimp only
      rw [show (edges.filter (fun e => r != 2 || e.2 != (s.atTime t).on F.PP_WCLK_CFG_EDGE)).map (·.1) = xs from hxs.symm, if_neg]
      · rfl
      · have : xs.isEmpty = false := by simpa using hne
        rw [this, Bool.or_false, Bool.or_eq_true, decide_eq_true_eq, decide_eq_true_eq]
        omega
    obtain ⟨k1, k2, k3, k4, k5⟩ := refSample_does _ (s.atTime t) hgo
    refine ⟨_, done_alive _ ha, (sumTick_get _ _ (hquiet _ (phaseE_ne r).1 (phaseE_ne r).2.1)).trans k1, ?_, ?_,
      fun h hs => KeepsFields.sumTick (s := s) _ (k5 h hs), KeepsStore.sumTick (s := s) _ k4⟩
    · rw [href]
      exact k2
    · rw [href]
      exact k3
  · intro t s ha hdue
    obtain ⟨h1, h2, h3⟩ := freqEstimate_does (s := s.atTime t) hdue rfl
    refine ⟨_, done_alive _ ha, ?_, fun r hr => ?_, KeepsStore.sumTick (s := s) _ h3⟩
    · rw [sumTick_pp]
      exact h1
    · rw [sumTick_get _ _ (hfreq r)]
      exact h2 r hr
  · intro r t s ha hr hn hact hb hok hdue
    obtain ⟨h1, h2⟩ := refQualified_does (s := s.atTime t) hr hn hact hb hok hdue rfl
    refine ⟨_, done_alive _ ha, (hvalid ..).trans h1, ?_⟩
    rw [href]
    exact h2
  · intro r t lost s ha hr hcause
    have hgo : refInvalid r lost (s.atTime t) = loseRef r (s.atTime t) := by
      unfold refInvalid
      dsimp only
      rw [if_pos]
      rw [decide_eq_true hr, Bool.true_and, Bool.or_eq_true, Bool.or_eq_true]
      rcases hcause with ⟨h1, h2⟩ | h | ⟨h1, h2⟩
      · exact .inl (.inl (by rw [h1, decide_eq_true h2]; rfl))
      · exact .inl (.inr (by rw [h]; rfl))
      · refine .inr ?_
        rw [Bool.and_eq_true]
        exact ⟨bne_iff_ne.mpr h1, decide_eq_true h2⟩
    obtain ⟨h1, h2, h3, h4⟩ := loseRef_does hr (s.atTime t) hgo
    refine ⟨_, done_alive _ ha, (hvalid ..).trans h1, by rw [href]; exact h2, by rw [href]; exact h3, fun hv => ?_⟩
    obtain ⟨k1, k2, k3⟩ := h4 hv
    refine ⟨?_, (sumTick_get _ _ (by decide)).trans k2, fun h => ?_⟩
    · rw [State.bit, sumTick_get _ _ (by decide)]
      exact k1
    · rw [State.ppActive, sumTick_get _ _ (by decide)]
      exact k3 h
  · intro m v s h
    obtain ⟨h1, h2, h3, h4, h5⟩ := wrPpCtrl_does v s rfl
    constructor
    · refine ⟨_, (done_alive _ h.alive :), ?_⟩
      rw [guarded_admitted _ h]
      refine ⟨answers_sumTick .., (respond_get _ _ _ _ _ _ (by decide)).trans h1, (respond_get _ _ _ _ _ _ (by decide)).trans h2,
        fun hs => ⟨(respond_get _ _ _ _ _ _ (by decide)).trans (h3 hs).1, ?_⟩, fun hs hv hok hne =>
          ⟨(respond_get _ _ _ _ _ _ (by decide)).trans (h4 hs hv hok hne).1, (respond_get _ _ _ _ _ _ (by decide)).trans (h4 hs hv hok hne).2⟩⟩
      rw [sumTick_pp, State.respond_pp]
      exact (h3 hs).2
    · refine ⟨_, (done_alive _ h.alive :), ?_⟩
      rw [guarded_admitted _ h]
      exact ⟨answers_sumTick .., (respond_get _ _ _ _ _ _ (by decide)).trans h2, fun h0 hb hf hq hs =>
        (respond_get _ _ _ _ _ _ (by decide)).trans (h5 h0 hb hf hq hs)⟩
  · intro m v s h
    refine ⟨_, (done_alive _ h.alive :), ?_⟩
    rw [guarded_admitted _ h]
    obtain ⟨h1, h2, h3, h4, h5⟩ := wrFreerun_does v s rfl
    have hdev : (sumTick s ((wrFreerun v s).respond m 0 false false)).dev = (wrFreerun v s).dev :=
      State.dev_congr (by rw [sumTick_now, State.respond_now]) (by rw [sumTick_time, State.respond_time]) (respond_get _ _ _ _ _ _ (by decide))
    refine ⟨answers_sumTick .., (respond_get _ _ _ _ _ _ (by decide)).trans h1, hdev.trans h2, ?_, keepsFields_sumTick _ _ _ _ h4,
      keepsStore_sumTick _ _ _ _ h5⟩
    rw [respond_get _ _ _ _ _ _ (by decide)]
    exact h3
  · intro t s ha hst h5 hn
    obtain ⟨h1, h2, h3⟩ := switchComplete_does (s := s.atTime t) hst hn rfl
    refine ⟨_, done_alive _ ha, (sumTick_get _ _ (by decide)).trans h1, (sumTick_get _ _ (by decide)).trans h2, fun hh hs => ?_⟩
    obtain ⟨k1, k2, k3⟩ := h3 hh hs
    exact ⟨(sumTick_get _ _ (by decide)).trans k1, (sumTick_get _ _ (by decide)).trans k2, (sumTick_get _ _ (hbuild _)).trans k3⟩
  · intro t s ha hst hb hdue
    obtain ⟨h1, h2⟩ := lockAchieved_does (s := s.atTime t) hst hb hdue rfl
    exact ⟨_, done_alive _ ha, (sumTick_get _ _ (by decide)).trans h1, (sumTick_get _ _ (by decide)).trans h2⟩
  · intro t s ha hst hb hdue
    obtain ⟨h1, h2, h3⟩ := lockLoss_does (s := s.atTime t) hst hb hdue rfl
    exact ⟨_, done_alive _ ha, (sumTick_get _ _ (by decide)).trans h1, (sumTick_get _ _ (by decide)).trans h2,
      (sumTick_get _ _ (by decide)).trans h3⟩
  · intro r t s ha hr
    obtain ⟨h1, h2, h3⟩ := reversion_does (s := s.atTime t) hr rfl
    exact ⟨_, done_alive _ ha, (sumTick_get _ _ (by decide)).trans h1, (sumTick_get _ _ (by decide)).trans h2,
      (sumTick_get _ _ (by decide)).trans h3⟩
  · intro t s ha hst hl
    obtain ⟨h1, h2, h3, h4, h5⟩ := holdUpdate_does (s := s.atTime t) hst hl rfl
    exact ⟨_, done_alive _ ha, (sumTick_get _ _ (by decide)).trans h1, (sumTick_get _ _ (by decide)).trans h2,
      fun h => (sumTick_get _ _ (by decide)).trans (h3 h), KeepsFields.sumTick (s := s) _ h4, KeepsStore.sumTick (s := s) _ h5⟩
  · intro m v s h hv
    have hslew : ∀ w, wrPstep (withBit v 1 false) s = w →
        exec (.phaseStepSlew m v) s = .next (sumTick s (w.respond m 0 false false)) := fun w hw => by
      rw [← hw, ← guarded_admitted _ h]
      exact done_alive _ h.alive
    have himm : ∀ w, wrPstep (withBit v 1 true) s = w →
        exec (.phaseStepImmediate m v) s = .next (sumTick s (w.respond m 0 false false)) := fun w hw => by
      rw [← hw, ← guarded_admitted _ h]
      exact done_alive _ h.alive
    obtain ⟨ks, bs⟩ := keyed_withBit hv false
    obtain ⟨ki, bi⟩ := keyed_withBit hv true
    have hresult : ∀ r < 8, (sumTick s ((psResult r s).respond m 0 false false)).get F.PP_PSTEP_STAT_RESULT = r
        ∧ KeepsFields [F.PP_PSTEP_STAT_RESULT] s (sumTick s ((psResult r s).respond m 0 false false))
        ∧ KeepsStore s (sumTick s ((psResult r s).respond m 0 false false)) := fun r hr => by
      obtain ⟨h1, h2, h3⟩ := psResult_does hr s rfl
      exact ⟨(respond_get _ _ _ _ _ _ (by decide)).trans h1, keepsFields_sumTick _ _ _ _ h2, keepsStore_sumTick _ _ _ _ h3⟩
    refine ⟨fun ha => ?_, fun ha hh hst => ?_⟩
    · have hno : ∀ {w}, Keyed w → wrPstep w s = psResult psNOREF s := fun hw => by
        rw [wrPstep_keyed hw, if_pos (by rw [ha]; rfl)]
      exact ⟨⟨_, hslew _ (hno ks), answers_sumTick .., hresult 2 (by decide)⟩, ⟨_, himm _ (hno ki), answers_sumTick .., hresult 2 (by decide)⟩⟩
    have hne : (s.ppActive == 5) = false := beq_eq_false_iff_ne.mpr (by omega)
    have hns : (s.ppState == ppSWITCHING) = false := beq_eq_false_iff_ne.mpr hst
    refine ⟨?_, fun harm => ?_, fun harm => ?_⟩
    · have hgo : wrPstep (withBit v 1 false) s = phaseStep false (sx 32 (s.get F.PP_PSTEP_DELTA)) s := by
        rw [wrPstep_keyed ks, hne, bs, hh, hns]
        rfl
      obtain ⟨h1, h2, h3, h4⟩ := phaseStep_slew (d := sx 32 (s.get F.PP_PSTEP_DELTA)) (s := s) (by omega) rfl
      refine ⟨_, hslew _ hgo, answers_sumTick .., (respond_get _ _ _ _ _ _ (by decide)).trans h1, ?_,
        (respond_get _ _ _ _ _ _ (by decide)).trans h3, keepsStore_sumTick _ _ _ _ h4⟩
      rw [sumTick_pp, State.respond_pp]
      exact h2
    · have hgo : wrPstep (withBit v 1 true) s = psResult psTIMESTEP s := by
        rw [wrPstep_keyed ki, hne, bi, State.on, harm]
        rfl
      exact ⟨_, himm _ hgo, answers_sumTick .., hresult 3 (by decide)⟩
    · have hgo : wrPstep (withBit v 1 true) s = phaseStep true (sx 32 (s.get F.PP_PSTEP_DELTA)) s := by
        rw [wrPstep_keyed ki, hne, bi, State.on, harm, hh, hns]
        rfl
      obtain ⟨h1, h2, h3, h4, h5⟩ := phaseStep_immediate (d := sx 32 (s.get F.PP_PSTEP_DELTA)) ha harm rfl
      refine ⟨_, himm _ hgo, answers_sumTick .., (respond_get _ _ _ _ _ _ (by decide)).trans h1, (respond_get _ _ _ _ _ _ (by decide)).trans h2,
        (respond_get _ _ _ _ _ _ (by decide)).trans h3, ?_, (respond_get _ _ _ _ _ _ (hbuild _)).trans h5⟩
      rw [sumTick_time, State.respond_time]
      exact h4
  · intro t s ha hsl h0
    obtain ⟨h1, h2, h3, h4, h5⟩ := slewDone_does (s := s.atTime t) hsl h0 rfl
    refine ⟨_, done_alive _ ha, ?_, (sumTick_get _ _ (by decide)).trans h2, (sumTick_get _ _ (by decide)).trans h3,
      (sumTick_get _ _ (by decide)).trans h4, KeepsStore.sumTick (s := s) _ h5⟩
    rw [sumTick_pp]
    exact h1
  · intro k t s w ha hk hen hrun hb hq hw h0 h1
    subst hw
    obtain ⟨k1, k2, k3, k4⟩ := clockStart_does (s := s.atTime t) hk hen hrun hb hq h0 h1 rfl
    refine ⟨_, done_alive _ ha, ?_, ?_, KeepsFields.sumTick (s := s) _ k3, KeepsStore.sumTick (s := s) _ k4⟩
    · rw [sumTick_pp]
      exact k1
    · rw [sumTick_pp]
      exact k2
end

section
/-!
SERIAL PORTS. What their functions may touch, the state of a port, enabling and disabling one, masks, the cable loop, loss and return of
the clock (R264, R270–R274).
-/
namespace Sys2Proof.Machine

/-! ## What a port's functions may touch -/

/-- `w` is `s` but for its registers and its serial ports. -/
def PortsOnly (s w : State) : Prop := ∃ m l x, w = { s with fld := m, latch := l, sap := x }

theorem PortsOnly.refl (s : State) : PortsOnly s s := ⟨_, _, _, rfl⟩

theorem PortsOnly.trans {s w x : State} (h : PortsOnly s w) (k : PortsOnly w x) : PortsOnly s x := by
  obtain ⟨_, _, _, rfl⟩ := h
  obtain ⟨_, _, _, rfl⟩ := k
  exact ⟨_, _, _, rfl⟩

theorem PortsOnly.of_fields {s w : State} (h : FieldsOnly s w) : PortsOnly s w := by
  obtain ⟨l, rfl⟩ := h
  exact ⟨_, _, _, rfl⟩

theorem PortsOnly.set {s w : State} (f : Fd) (v : Nat) (h : PortsOnly s w) : PortsOnly s (w.set f v) := h.trans ⟨_, _, _, rfl⟩

theorem PortsOnly.setSap {s w : State} (p : Nat) (x : SapS) (h : PortsOnly s w) : PortsOnly s (w.setSap p x) := h.trans ⟨_, _, _, rfl⟩

theorem PortsOnly.ite {s x y : State} {c : Prop} [Decidable c] (hx : PortsOnly s x) (hy : PortsOnly s y) :
    PortsOnly s (if c then x else y) := by
  split
  · exact hx
  · exact hy

theorem PortsOnly.keepsStore {s w : State} (h : PortsOnly s w) : KeepsStore s w := by
  obtain ⟨_, _, _, rfl⟩ := h
  exact ⟨rfl, rfl, rfl⟩

theorem sapS_setSap (p : Nat) (x : SapS) (s : State) : (s.setSap p x).sapS p = x := mget_mset_same ..

theorem setSap_get (p : Nat) (x : SapS) (s : State) (f : Fd) : (s.setSap p x).get f = s.get f := rfl

theorem sapS_congr {s w : State} (h : w.sap = s.sap) (p : Nat) : w.sapS p = s.sapS p := by
  rw [State.sapS, h]
  rfl

theorem sapS_sumTick (r s : State) (p : Nat) : (sumTick r s).sapS p = s.sapS p := sapS_congr (sumTick_sap r s) p

theorem FieldsOnly.sapS {s w : State} (h : FieldsOnly s w) (p : Nat) : w.sapS p = s.sapS p := by
  obtain ⟨l, rfl⟩ := h
  rfl

/-- A register of the serial ports is none of the slots' summary. -/
theorem quiet_of_sap {f : Fd} (hl : f.lsb < 32) (hb : blockOf f = 0x2011) : Fd.quiet f = true := by
  rw [blockOf] at hb
  by_cases h : f.addr < 0x20150000
  · exact Fd.quiet_of_block hl (.inl h)
  · exact Fd.quiet_of_block hl (.inr (by omega))

/-- The registers of a port that commands show. -/
def portFields (p : Nat) : List Fd :=
  [F.SAPp_CFG_EN p, F.SAPp_STAT_STATE p, F.SAPp_STAT_DERR p, F.SAPp_STAT_MASKREJ p, F.SAPp_STAT_LOCLK_EV p, F.SAPp_STAT_REPAIRED p,
    F.SAPp_FRAME_FRAME p, F.SAPp_EPOCH_FRAME_FRAME p, F.SAPp_EPOCH_BREATH_BREATH p, F.SAPp_BLK_TS_LO_NS p, F.SAPp_BLK_TS_HI_NS p,
    F.SAPp_PHASE_PHASE p, F.SAPp_REPAIR_BREATH p, F.SAPp_SLIP_REPAIRS p, F.SAPp_SLIP_SLIP p, F.SAPp_CNT0_UNDERRUN p,
    F.SAPp_CNT0_OVERRUN p, F.SAPp_CNT1_TXUNDER p, F.SAPp_CNT1_LOSSES p, F.SAPp_CNT1_BADFRAME p, F.SAPp_CABLE_STAT_VALID p,
    F.SAPp_CABLE_STAT_RTT p, F.SAPp_RXMASK_MASK p, F.SAPp_TXMASK_MASK p]

theorem portFields_place : ∀ p < 16, ∀ f ∈ portFields p, f.lsb < 32 ∧ blockOf f = 0x2011 := by decide

theorem portField_quiet {p : Nat} {f : Fd} (hp : p < 16) (hf : f ∈ portFields p) : Fd.quiet f = true :=
  quiet_of_sap (portFields_place p hp f hf).1 (portFields_place p hp f hf).2

/-! ## The state of a port -/

theorem setSapState_state {p st : Nat} (hst : st < 8) (s : State) : (setSapState p st s).sapState p = st := by
  rw [State.sapState, setSapState, State.get_set_same]
  exact Nat.mod_eq_of_lt hst

theorem fieldsOnly_showSap (s : State) : FieldsOnly s (showSap s) := ((FieldsOnly.refl s).set _ _).set _ _

theorem keepsFields_showSap (s : State) : KeepsFields [F.SAP_STAT_RX_SLOTS, F.SAP_STAT_TX_SLOTS] s (showSap s) :=
  ((KeepsFields.refl _ s).set _ (by simp)).set _ (by simp)

/-- What SAP_STAT counts is in no port's registers. -/
theorem showSap_port {p : Nat} (hp : p < 16) {f : Fd} (hf : f ∈ portFields p) (s : State) : (showSap s).get f = s.get f := by
  have h : ∀ q < 16, ∀ f ∈ portFields q, ∀ g ∈ [F.SAP_STAT_RX_SLOTS, F.SAP_STAT_TX_SLOTS], Fd.key f ≠ Fd.key g := by decide
  exact keepsFields_showSap s f (portField_quiet hp hf) (h p hp f hf)

/-- A port that turns off: it is off at once (R264). -/
theorem sapOff_does {p : Nat} (hp : p < 16) (s : State) {u : State} (hu : u = sapOff p s) :
    u.get (F.SAPp_CFG_EN p) = 0 ∧ u.sapState p = saOFF ∧ u.sapS p = {} ∧ PortsOnly s u := by
  have hk : ∀ q < 16, Fd.key (F.SAPp_CFG_EN q) ≠ Fd.key (F.SAPp_STAT_STATE q) := by decide
  unfold sapOff at hu
  obtain ⟨w, hw⟩ : ∃ w, w = (setSapState p saOFF (s.set (F.SAPp_CFG_EN p) 0)).setSap p {} := ⟨_, rfl⟩
  have hen : w.get (F.SAPp_CFG_EN p) = 0 := by
    rw [hw]
    show ((s.set (F.SAPp_CFG_EN p) 0).set (F.SAPp_STAT_STATE p) saOFF).get (F.SAPp_CFG_EN p) = 0
    rw [State.get_set_other _ _ (hk p hp), State.get_set_same]
    exact Nat.zero_mod _
  have hst : w.get (F.SAPp_STAT_STATE p) = saOFF := by
    rw [hw]
    exact setSapState_state (p := p) (st := saOFF) (by decide) _
  have hs : w.sapS p = {} := by rw [hw]; exact sapS_setSap ..
  have ho : PortsOnly s w := by
    rw [hw]
    exact (((PortsOnly.refl s).set _ _).set _ _).setSap _ _
  rw [← hw] at hu
  subst hu
  exact ⟨(showSap_port hp (by simp [portFields]) w).trans hen, (showSap_port hp (by simp [portFields]) w).trans hst,
    ((fieldsOnly_showSap w).sapS p).trans hs, ho.trans (.of_fields (fieldsOnly_showSap w))⟩

/-! ## Enabling (R264) -/

/-- The registers of every port that validation reads. -/
def checkFields (p : Nat) : List Fd :=
  [F.SAPp_CFG_EN p, F.SAPp_CFG_MASTER p, F.SAPp_CFG_DOMAIN p, F.SAPp_CFG_FMT p, F.SAPp_CFG_RATE p, F.SAPp_CFG_SLOTS p, F.SAPp_CFG_SLOTW p,
    F.SAPp_CFG_WORD p, F.SAPp_MAP_TAP_BASE p, F.SAPp_RXMASK_MASK p, F.SAPp_TXMASK_MASK p]

/-- The cause of a refusal depends on those registers and the engine mode alone. -/
theorem sapErr_congr {s w : State} (hmode : w.get F.SYS_MODE_STAT_CUR = s.get F.SYS_MODE_STAT_CUR)
    (h : ∀ q, ∀ f ∈ checkFields q, w.get f = s.get f) (p : Nat) : w.sapErr p = s.sapErr p := by
  simp only [checkFields, List.mem_cons, List.not_mem_nil, or_false, forall_eq_or_imp, forall_eq, forall_and] at h
  obtain ⟨h1, h2, h3, h4, h5, h6, h7, h8, h9, h10, h11⟩ := h
  have hslots : ∀ tx, w.slotsUsed tx p = s.slotsUsed tx p := fun tx => by
    cases tx <;> simp only [State.slotsUsed, State.maskCount, State.sapSlots, State.on, h1, h6, h10, h11, if_true, if_false, Bool.false_eq_true]
  simp only [State.sapErr, hslots, State.maskCount, State.sapSlots, State.sapSlotW, State.sapWord, State.sapMaster, State.sapForeign,
    State.sapHz, State.fs, State.mode, State.on, hmode, h1, h2, h3, h4, h5, h6, h7, h8, h9, h10, h11]
  congr!

theorem fieldsAt_sapCfg : ∀ p < 16, fieldsAt (A.SAPp_CFG p) = [F.SAPp_CFG_EN p, F.SAPp_CFG_MASTER p, F.SAPp_CFG_DOMAIN p, F.SAPp_CFG_FMT p,
    F.SAPp_CFG_RATE p, F.SAPp_CFG_SLOTS p, F.SAPp_CFG_SLOTW p, F.SAPp_CFG_WORD p, F.SAPp_CFG_FSW p, F.SAPp_CFG_DELAY p,
    F.SAPp_CFG_BCLK_INV p, F.SAPp_CFG_FS_INV p, F.SAPp_CFG_TXHIZ p, F.SAPp_CFG_RETCLK p] := by
  intro p hp
  interval_cases p <;> decide

/-- The addresses that enabling a port resets. -/
def counts (p a : Nat) : Bool := a == A.SAPp_CNT0 p || a == A.SAPp_CNT1 p || a == A.SAPp_SLIP p

theorem sapEnable_does {p : Nat} (hp : p < 16) (s : State) (hen : s.get (F.SAPp_CFG_EN p) = 0) {u : State} (hu : u = sapEnable p s) :
    (if s.fencedInst 15 p then u.get (F.SAPp_CFG_EN p) = 0
      else if s.sapErr p ≠ 0 then u.get (F.SAPp_STAT_DERR p) = s.sapErr p ∧ u.get (F.SAPp_CFG_EN p) = 0
      else u.get (F.SAPp_CFG_EN p) = 1 ∧ u.sapState p = saARMED ∧ u.get (F.SAPp_STAT_DERR p) = s.get (F.SAPp_STAT_DERR p)
        ∧ u.get (F.SAPp_CNT0_UNDERRUN p) = 0 ∧ u.get (F.SAPp_SLIP_REPAIRS p) = 0)
    ∧ PortsOnly s u := by
  have hreset : ∀ f : Fd, f.lsb < 32 → counts p f.addr = false → (s.resetRegs (counts p)).get f = s.get f := fun f hl hf => by
    rw [State.get_resetRegs, Fd.key, show (f.addr * 32 + f.lsb) / 32 = f.addr by omega, hf, if_neg (by decide)]
  have hcheck : ∀ q, ∀ f ∈ checkFields q, f.lsb < 32 ∧ counts p f.addr = false := fun q => by
    simp only [checkFields, List.mem_cons, List.not_mem_nil, or_false, forall_eq_or_imp, forall_eq, counts, Bool.or_eq_false_iff,
      beq_eq_false_iff_ne, F.SAPp_CFG_EN, F.SAPp_CFG_MASTER, F.SAPp_CFG_DOMAIN, F.SAPp_CFG_FMT, F.SAPp_CFG_RATE, F.SAPp_CFG_SLOTS,
      F.SAPp_CFG_SLOTW, F.SAPp_CFG_WORD, F.SAPp_MAP_TAP_BASE, F.SAPp_RXMASK_MASK, F.SAPp_TXMASK_MASK, A.SAPp_CFG, A.SAPp_MAP,
      A.SAPp_RXMASK, A.SAPp_TXMASK, A.SAPp_CNT0, A.SAPp_CNT1, A.SAPp_SLIP]
    omega
  have hsite : ∀ q < 16, (∀ f ∈ [F.SAPp_CFG_EN q, F.SAPp_STAT_DERR q], f.lsb < 32 ∧ counts q f.addr = false)
      ∧ counts q F.SYS_MODE_STAT_CUR.addr = false := by decide
  have hcount : ∀ q < 16, ∀ f ∈ [F.SAPp_CNT0_UNDERRUN q, F.SAPp_SLIP_REPAIRS q], counts q (Fd.key f / 32) = true ∧ f.rst = 0 := by decide
  obtain ⟨w, hw, hwen, hwerr, hwder, hwcnt, hwo⟩ : ∃ w : State, w = s.resetRegs (counts p) ∧ w.get (F.SAPp_CFG_EN p) = 0
      ∧ w.sapErr p = s.sapErr p ∧ w.get (F.SAPp_STAT_DERR p) = s.get (F.SAPp_STAT_DERR p)
      ∧ (∀ f ∈ [F.SAPp_CNT0_UNDERRUN p, F.SAPp_SLIP_REPAIRS p], w.get f = 0) ∧ PortsOnly s w := by
    obtain ⟨hport, hm⟩ := hsite p hp
    refine ⟨_, rfl, ?_, ?_, ?_, ?_, ⟨_, _, _, rfl⟩⟩
    · obtain ⟨hl, ha⟩ := hport (F.SAPp_CFG_EN p) (by simp)
      exact (hreset _ hl ha).trans hen
    · exact sapErr_congr (hreset _ (by decide) hm) (fun q f hf => hreset f (hcheck q f hf).1 (hcheck q f hf).2) p
    · obtain ⟨hl, ha⟩ := hport (F.SAPp_STAT_DERR p) (by simp)
      exact hreset _ hl ha
    · intro f hf
      obtain ⟨ha, h0⟩ := hcount p hp f hf
      rw [State.get_resetRegs, ha, if_pos rfl, h0]
  have hgo : u = if s.fencedInst 15 p then s else if w.sapErr p != 0 then w.set (F.SAPp_STAT_DERR p) (w.sapErr p)
      else showSap (setSapState p saARMED ((w.set (F.SAPp_CFG_EN p) 1).setSap p {})) := by
    rw [hu, hw]
    rfl
  rw [hwerr] at hgo
  by_cases hf : s.fencedInst 15 p = true
  · rw [if_pos hf] at hgo ⊢
    rw [hgo]
    exact ⟨hen, .refl s⟩
  rw [if_neg hf] at hgo ⊢
  by_cases he : s.sapErr p = 0
  · rw [if_neg (by rw [he]; decide)] at hgo
    rw [if_neg (not_not_intro he)]
    obtain ⟨z, hz⟩ : ∃ z, z = setSapState p saARMED ((w.set (F.SAPp_CFG_EN p) 1).setSap p {}) := ⟨_, rfl⟩
    have hset : ∀ f : Fd, Fd.key f ≠ Fd.key (F.SAPp_STAT_STATE p) → Fd.key f ≠ Fd.key (F.SAPp_CFG_EN p) → z.get f = w.get f :=
      fun f h1 h2 => by
        rw [hz, setSapState, State.get_set_other _ _ h1, setSap_get, State.get_set_other _ _ h2]
    have hne : ∀ q < 16, (∀ f ∈ [F.SAPp_STAT_DERR q, F.SAPp_CNT0_UNDERRUN q, F.SAPp_SLIP_REPAIRS q],
        Fd.key f ≠ Fd.key (F.SAPp_STAT_STATE q) ∧ Fd.key f ≠ Fd.key (F.SAPp_CFG_EN q))
        ∧ Fd.key (F.SAPp_CFG_EN q) ≠ Fd.key (F.SAPp_STAT_STATE q) := by decide
    obtain ⟨hne1, hne2⟩ := hne p hp
    have hkeep : ∀ f ∈ [F.SAPp_STAT_DERR p, F.SAPp_CNT0_UNDERRUN p, F.SAPp_SLIP_REPAIRS p], z.get f = w.get f :=
      fun f hf => hset f (hne1 f hf).1 (hne1 f hf).2
    have hzen : z.get (F.SAPp_CFG_EN p) = 1 := by
      rw [hz, setSapState, State.get_set_other _ _ hne2, setSap_get]
      exact State.get_set_same ..
    have hzst : z.sapState p = saARMED := by rw [hz]; exact setSapState_state (by decide) _
    have hzo : PortsOnly w z := by
      rw [hz]
      exact (((PortsOnly.refl w).set _ _).setSap _ _).set _ _
    rw [← hz] at hgo
    rw [hgo]
    refine ⟨⟨?_, ?_, ?_, ?_, ?_⟩, (hwo.trans hzo).trans (.of_fields (fieldsOnly_showSap z))⟩
    · exact (showSap_port hp (by simp [portFields]) z).trans hzen
    · exact (showSap_port hp (by simp [portFields]) z).trans hzst
    · exact ((showSap_port hp (by simp [portFields]) z).trans (hkeep _ (by simp))).trans hwder
    · exact ((showSap_port hp (by simp [portFields]) z).trans (hkeep _ (by simp))).trans (hwcnt _ (by simp))
    · exact ((showSap_port hp (by simp [portFields]) z).trans (hkeep _ (by simp))).trans (hwcnt _ (by simp))
  · have hlt : s.sapErr p < 8 := by
      unfold State.sapErr
      dsimp only
      split_ifs <;> decide
    have hne : ∀ q < 16, Fd.key (F.SAPp_CFG_EN q) ≠ Fd.key (F.SAPp_STAT_DERR q) := by decide
    rw [if_pos (by simpa using he)] at hgo
    rw [if_pos he, hgo, State.get_set_same, State.get_set_other _ _ (hne p hp)]
    exact ⟨⟨Nat.mod_eq_of_lt hlt, hwen⟩, hwo.set _ _⟩

section
variable {p : Nat} {s : State} (hp : p < 16)
include hp

theorem wrSapCfg_enable (v : Nat) (hen : s.get (F.SAPp_CFG_EN p) = 0) {u : State} (hu : u = wrSapCfg p (withBit (v % 2 ^ 32) 31 true) s) :
    (let w := s.writeRegPlain (A.SAPp_CFG p) (withBit (v % 2 ^ 32) 31 false)
      if w.fencedInst 15 p then u.get (F.SAPp_CFG_EN p) = 0
      else if w.sapErr p ≠ 0 then u.get (F.SAPp_STAT_DERR p) = w.sapErr p ∧ u.get (F.SAPp_CFG_EN p) = 0
      else u.get (F.SAPp_CFG_EN p) = 1 ∧ u.sapState p = saARMED ∧ u.get (F.SAPp_STAT_DERR p) = s.get (F.SAPp_STAT_DERR p)
        ∧ u.get (F.SAPp_CNT0_UNDERRUN p) = 0 ∧ u.get (F.SAPp_SLIP_REPAIRS p) = 0)
    ∧ KeepsStore s u := by
  have hplace : ∀ q < 16, ∀ f ∈ fieldsAt (A.SAPp_CFG q), (F.SAPp_CFG_EN q = f ∨ Fd.key (F.SAPp_CFG_EN q) ≠ Fd.key f)
      ∧ Fd.key (F.SAPp_STAT_DERR q) ≠ Fd.key f := by
    intro q hq
    rw [fieldsAt_sapCfg q hq]
    revert q
    decide
  have hmem : F.SAPp_CFG_EN p ∈ fieldsAt (A.SAPp_CFG p) := by
    rw [fieldsAt_sapCfg p hp]
    exact .head _
  have hon : s.on (F.SAPp_CFG_EN p) = false := by rw [State.on, hen]; rfl
  obtain ⟨w, hw⟩ : ∃ w, w = s.writeRegPlain (A.SAPp_CFG p) (withBit (v % 2 ^ 32) 31 false) := ⟨_, rfl⟩
  have hwen : w.get (F.SAPp_CFG_EN p) = 0 := by
    have hb : bitOf (withBit (v % 2 ^ 32) 31 false) 31 = false := bitOf_withBit_31_clear _
    rw [hw, State.writeRegPlain_get_rw hmem rfl fun g hg => (hplace p hp g hg).1]
    generalize withBit (v % 2 ^ 32) 31 false = x at hb
    rw [bitOf, beq_eq_false_iff_ne] at hb
    show x / 2 ^ 31 % 2 % 2 = 0
    omega
  have hwder : w.get (F.SAPp_STAT_DERR p) = s.get (F.SAPp_STAT_DERR p) := by
    rw [hw]
    exact State.writeRegPlain_get_other _ _ _ fun g hg => (hplace p hp g hg).2
  have hwo : PortsOnly s w := by
    obtain ⟨l, hl⟩ := s.writeRegPlain_only (A.SAPp_CFG p) (withBit (v % 2 ^ 32) 31 false)
    exact .of_fields ⟨l, hw.trans hl⟩
  have huw : u = sapEnable p w := by
    rw [hu, wrSapCfg, hon, hw]
    simp only [Bool.false_eq_true, if_false, withBit_31_clear (Nat.mod_lt v (by decide : 0 < 2 ^ 32)), bitOf_withBit_same, if_true]
  obtain ⟨h, ho⟩ := sapEnable_does hp w hwen huw
  dsimp only
  rw [← hw]
  rw [hwder] at h
  exact ⟨h, (hwo.trans ho).keepsStore⟩

/-! ## Disabling -/

theorem wrSapCfg_disable (v : Nat) (hen : s.get (F.SAPp_CFG_EN p) = 1) {u : State} (hu : u = wrSapCfg p (withBit (v % 2 ^ 32) 31 false) s) :
    u.get (F.SAPp_CFG_EN p) = 0 ∧ KeepsStore s u
    ∧ (if (s.sapS p).frame = none ∨ s.sapState p = saLOCLK then u.sapState p = saOFF ∧ u.sapS p = {}
       else u.sapState p = s.sapState p ∧ u.sapS p = { s.sapS p with closing := true, txw := [], under := [] }) := by
  have hon : s.on (F.SAPp_CFG_EN p) = true := by rw [State.on, hen]; rfl
  have hk : ∀ q < 16, Fd.key (F.SAPp_STAT_STATE q) ≠ Fd.key (F.SAPp_STAT_CFGWR q)
      ∧ Fd.key (F.SAPp_STAT_STATE q) ≠ Fd.key (F.SAPp_CFG_EN q) := by decide
  obtain ⟨x, hxo, hxst, hux⟩ : ∃ x : State, FieldsOnly s x ∧ x.sapState p = s.sapState p ∧ u = sapDisable p x := by
    rw [hu, wrSapCfg, hon]
    simp only [if_true, bitOf_withBit_31_clear, Bool.false_eq_true, if_false]
    refine ⟨_, .ite ((FieldsOnly.refl s).set _ _) (.refl s), ?_, rfl⟩
    split
    · exact State.get_set_other _ _ (hk p hp).1
    · rfl
  have hxs := hxo.sapS p
  unfold sapDisable at hux
  extract_lets y at hux
  have hy : y = s.sapS p := hxs
  clear_value y
  subst hy
  rw [hxst] at hux
  by_cases hc : (s.sapS p).frame = none ∨ s.sapState p = saLOCLK
  · rw [if_pos (by simpa using hc)] at hux
    obtain ⟨h1, h2, h3, h4⟩ := sapOff_does hp x hux
    rw [if_pos hc]
    exact ⟨h1, (PortsOnly.of_fields hxo |>.trans h4).keepsStore, h2, h3⟩
  · rw [if_neg (by simpa using hc)] at hux
    rw [if_neg hc]
    obtain ⟨z, hz⟩ : ∃ z, z = (x.set (F.SAPp_CFG_EN p) 0).setSap p { s.sapS p with closing := true, txw := [], under := [] } := ⟨_, rfl⟩
    have hzen : z.get (F.SAPp_CFG_EN p) = 0 := by
      rw [hz]
      exact (State.get_set_same x (F.SAPp_CFG_EN p) 0).trans (Nat.zero_mod _)
    have hzst : z.sapState p = s.sapState p := by
      rw [hz, State.sapState, setSap_get, State.get_set_other _ _ (hk p hp).2]
      exact hxst
    have hzs : z.sapS p = { s.sapS p with closing := true, txw := [], under := [] } := by rw [hz]; exact sapS_setSap ..
    have hzo : PortsOnly s z := by
      rw [hz]
      exact ((PortsOnly.of_fields hxo).set _ _).setSap _ _
    rw [← hz] at hux
    rw [hux]
    exact ⟨(showSap_port hp (by simp [portFields]) z).trans hzen, (hzo.trans (.of_fields (fieldsOnly_showSap z))).keepsStore,
      (showSap_port hp (by simp [portFields]) z).trans hzst, ((fieldsOnly_showSap z).sapS p).trans hzs⟩

end

end Sys2Proof.Machine
end

section
/-!
MASKS, THE CABLE LOOP, THE CLOCK AND BLOCK STAMPS of a serial port (R266–R274).
-/
namespace Sys2Proof.Machine

section
variable {p : Nat} {s : State} (hp : p < 16)
include hp

/-! ## Masks (R273) -/

omit hp in
theorem wrMask_rejected (tx : Bool) {v : Nat} (h : s.get (F.SAPp_CFG_EN p) ≠ 0 ∧ s.mode.serCh < s.slotsUsed tx p + s.maskCount p (v % 2 ^ 32))
    {u : State} (hu : u = wrMask p tx v s) :
    u.get (F.SAPp_STAT_MASKREJ p) = 1 ∧ KeepsFields [F.SAPp_STAT_MASKREJ p] s u ∧ KeepsStore s u := by
  have hgo : u = s.set (F.SAPp_STAT_MASKREJ p) 1 := by
    rw [hu]
    refine if_pos ?_
    rw [Bool.and_eq_true, decide_eq_true_eq, State.on, bne_iff_ne]
    exact h
  rw [hgo]
  exact ⟨State.get_set_same .., (KeepsFields.refl _ s).set _ (by simp), ((FieldsOnly.refl s).set _ _).keepsStore⟩

theorem wrMask_taken (tx : Bool) {v : Nat}
    (h : ¬ (s.get (F.SAPp_CFG_EN p) ≠ 0 ∧ s.mode.serCh < s.slotsUsed tx p + s.maskCount p (v % 2 ^ 32))) {u : State} (hu : u = wrMask p tx v s) :
    u.get (if tx then F.SAPp_TXMASK_MASK p else F.SAPp_RXMASK_MASK p) = v % 2 ^ 32
    ∧ KeepsFields [if tx then F.SAPp_TXMASK_MASK p else F.SAPp_RXMASK_MASK p, F.SAP_STAT_RX_SLOTS, F.SAP_STAT_TX_SLOTS] s u
    ∧ KeepsStore s u := by
  unfold wrMask at hu
  extract_lets fd w x z at hu
  rw [if_neg (by rw [Bool.and_eq_true, decide_eq_true_eq, State.on, bne_iff_ne]; exact h)] at hu
  have hfd : fd ∈ portFields p ∧ Fd.width fd = 32 := by
    cases tx
    · exact ⟨by simp [fd, portFields], rfl⟩
    · exact ⟨by simp [fd, portFields], rfl⟩
  have hz : z.get fd = v % 2 ^ 32 ∧ KeepsFields [fd, F.SAP_STAT_RX_SLOTS, F.SAP_STAT_TX_SLOTS] s z ∧ PortsOnly s z := by
    have hw : w.get fd = v % 2 ^ 32 ∧ KeepsFields [fd, F.SAP_STAT_RX_SLOTS, F.SAP_STAT_TX_SLOTS] s w ∧ PortsOnly s w := by
      refine ⟨?_, (KeepsFields.refl _ s).set _ (by simp), (PortsOnly.refl s).set _ _⟩
      rw [State.get_set_same, hfd.2]
    clear_value w
    unfold z
    split
    · exact hw
    · exact ⟨hw.1, hw.2.1.congr rfl, hw.2.2.setSap _ _⟩
  clear_value z
  obtain ⟨h1, h2, h3⟩ := hz
  rw [hu]
  exact ⟨(showSap_port hp hfd.1 z).trans h1, h2.trans ((keepsFields_showSap z).mono (by simp)),
    (h3.trans (.of_fields (fieldsOnly_showSap z))).keepsStore⟩

omit hp in
theorem keepsFields_showEpoch (s : State) : KeepsFields [F.SAPp_EPOCH_FRAME_FRAME p, F.SAPp_EPOCH_BREATH_BREATH p] s (showEpoch p s) :=
  ((KeepsFields.refl _ s).set _ (by simp)).set _ (by simp)

theorem showEpoch_frame (s : State) : (showEpoch p s).get (F.SAPp_EPOCH_FRAME_FRAME p) = (s.sapS p).frame.getD 0 % 2 ^ 32 := by
  have hk : ∀ q < 16, Fd.key (F.SAPp_EPOCH_FRAME_FRAME q) ≠ Fd.key (F.SAPp_EPOCH_BREATH_BREATH q) := by decide
  unfold showEpoch
  dsimp only
  rw [State.get_set_other _ _ (hk p hp), State.get_set_same]
  rfl

omit hp in
theorem fieldsOnly_showEpoch (s : State) : FieldsOnly s (showEpoch p s) := ((FieldsOnly.refl s).set _ _).set _ _

theorem maskEpoch_does {f v at_ : Nat} (tx : Bool) (hst : s.sapState p ≠ saLOCLK ∨ (s.sapS p).back = true) (hf : (s.sapS p).frame = some f)
    (hnext : (if tx then (s.sapS p).txNext else (s.sapS p).rxNext) = some (v, at_)) (hat : at_ < (s.sapS p).fsAt) {u : State}
    (hu : u = maskEpoch p s) :
    (if tx then (u.sapS p).tx = v ∧ (u.sapS p).txNext = none else (u.sapS p).rx = v ∧ (u.sapS p).rxNext = none)
    ∧ u.get (F.SAPp_EPOCH_FRAME_FRAME p) = f % 2 ^ 32
    ∧ KeepsFields [F.SAPp_EPOCH_FRAME_FRAME p, F.SAPp_EPOCH_BREATH_BREATH p] s u ∧ KeepsStore s u := by
  unfold maskEpoch at hu
  extract_lets x arrived r w y z at hu
  have hlock : (s.sapState p == saLOCLK && !x.back) = false := by
    rw [Bool.and_eq_false_iff, beq_eq_false_iff_ne, Bool.not_eq_false']
    exact hst
  have harrived : ∀ o : Option (Nat × Nat), o = some (v, at_) → arrived o = some v := by
    rintro _ rfl
    exact if_pos hat
  have hr : tx = false → r = some v := by
    rintro rfl
    exact harrived _ hnext
  have hw : tx = true → w = some v := by
    rintro rfl
    exact harrived _ hnext
  have hxf : x.frame = some f := hf
  clear_value r w x
  have hhas : (r.isNone && w.isNone) = false := by
    cases tx with
    | true => rw [hw rfl, Option.isNone_some, Bool.and_false]
    | false => rw [hr rfl, Option.isNone_some, Bool.false_and]
  rw [if_neg (by rw [hlock, hhas, hxf]; exact Bool.false_ne_true)] at hu
  have hy : y.frame = some f ∧ (tx = false → y.rx = v ∧ y.rxNext = none) := by
    unfold y
    split
    · next q => exact ⟨hxf, fun htx => ⟨Option.some.inj (hr htx), rfl⟩⟩
    · next => exact ⟨hxf, fun htx => absurd (hr htx) (by simp)⟩
  clear_value y
  have hz : z.frame = some f ∧ (if tx then z.tx = v ∧ z.txNext = none else z.rx = v ∧ z.rxNext = none) := by
    unfold z
    cases tx with
    | true =>
      rw [hw rfl]
      exact ⟨hy.1, rfl, rfl⟩
    | false =>
      split <;> exact ⟨hy.1, hy.2 rfl⟩
  clear_value z
  have hS : (s.setSap p z).sapS p = z := sapS_setSap ..
  have ho := fieldsOnly_showEpoch (p := p) (s.setSap p z)
  have hE := showEpoch_frame hp (s.setSap p z)
  have hK := keepsFields_showEpoch (p := p) (s.setSap p z)
  rw [← hu] at ho hE hK
  rw [ho.sapS p, hS]
  rw [hS, hz.1] at hE
  exact ⟨hz.2, hE, (KeepsFields.of_fld _ rfl).trans hK, (((PortsOnly.refl s).setSap p z).trans (.of_fields ho)).keepsStore⟩

/-! ## The cable loop, the clock, a missing output word -/

theorem cableMeasure_does {rtt : Nat} (hon : s.get (F.SAPp_CABLE_CFG_MEAS_EN p) = 1) (hen : s.get (F.SAPp_CFG_EN p) = 1)
    (hm : s.sapMaster p = true) (hdue : (s.sapS p).cableAt = 0 ∨ (s.sapS p).cableAt - 1 + 100 * uMs ≤ s.now) {u : State}
    (hu : u = cableMeasure p rtt s) :
    u.get (F.SAPp_CABLE_STAT_RTT p) = rtt % 2 ^ 24 ∧ u.get (F.SAPp_CABLE_STAT_VALID p) = 1
    ∧ KeepsFields [F.SAPp_CABLE_STAT_RTT p, F.SAPp_CABLE_STAT_VALID p] s u ∧ KeepsStore s u := by
  have hk : ∀ q < 16, Fd.key (F.SAPp_CABLE_STAT_RTT q) ≠ Fd.key (F.SAPp_CABLE_STAT_VALID q) := by decide
  have hgo : u = ((s.setSap p { s.sapS p with cableAt := s.now + 1 }).set (F.SAPp_CABLE_STAT_RTT p) rtt).set (F.SAPp_CABLE_STAT_VALID p) 1 := by
    rw [hu]
    refine if_pos ?_
    rw [State.on, State.on, hon, hen, hm, Bool.and_eq_true, Bool.or_eq_true, beq_iff_eq, decide_eq_true_eq]
    exact ⟨rfl, hdue⟩
  rw [hgo]
  refine ⟨?_, State.get_set_same .., ?_, ((((PortsOnly.refl s).setSap _ _).set _ _).set _ _).keepsStore⟩
  · rw [State.get_set_other _ _ (hk p hp), State.get_set_same]
    rfl
  · exact ((KeepsFields.of_fld _ rfl).set _ (by simp)).set _ (by simp)

omit hp in
theorem clockRecovered_does (hst : s.sapState p = saLOCLK) (hgood : 16 ≤ (s.sapS p).good) {u : State} (hu : u = clockRecovered p s) :
    u.sapState p = saLOCLK ∧ u.sapS p = { s.sapS p with back := true } ∧ KeepsAll s u := by
  have hgo : u = s.setSap p { s.sapS p with back := true } := by
    rw [hu]
    refine if_pos ?_
    rw [hst, Bool.and_eq_true, decide_eq_true_eq]
    exact ⟨rfl, hgood⟩
  rw [hgo]
  exact ⟨hst, sapS_setSap .., .of_fld _ rfl, rfl, rfl, rfl⟩

omit hp in
/-- A saturating count of one. -/
theorem State.incSat_get (f : Fd) (s : State) : (s.incSat f).get f = min (s.get f + 1) (2 ^ Fd.width f - 1) := State.addSat_get s f 1

omit hp in
theorem outputUnderrun_does {sl f : Nat} {m : Int} (hst : s.sapState p = saRUN ∨ s.sapState p = saUNALIGNED) (hmute : s.sapMute = false)
    (hsl : sl < s.sapSlots p) (htx : bitOf (s.sapS p).tx sl = true) (hun : (s.sapS p).under.contains sl = false)
    (hmap : (s.sapS p).map = some m) (hf : (s.sapS p).frame = some f)
    (hload : (s.sapS p).ofs + s.slotMsb p sl - 40 * 256 ≤ s.since (m + f).toNat)
    (hword : (s.outWord (sapOut p sl) ((m + f).toNat - s.get (F.SAPp_MAP_TXLAG p))).2 = false) {u : State} (hu : u = outputUnderrun p sl s) :
    (u.sapS p).under = sl :: (s.sapS p).under ∧ u.get (F.SAPp_CNT1_TXUNDER p) = min (s.get (F.SAPp_CNT1_TXUNDER p) + 1) 65535 % 2 ^ 16
    ∧ KeepsFields [F.SAPp_CNT1_TXUNDER p] s u ∧ KeepsStore s u := by
  have hgo : u = (s.incSat (F.SAPp_CNT1_TXUNDER p)).setSap p { s.sapS p with under := sl :: (s.sapS p).under } := by
    rw [hu, outputUnderrun]
    simp only [hmap, hf]
    refine if_pos ?_
    rw [htx, hun, hmute, hword, decide_eq_true hsl, decide_eq_true hload]
    rcases hst with h | h <;> rw [h] <;> rfl
  rw [hgo]
  refine ⟨by rw [sapS_setSap], ?_, ?_, ?_⟩
  · rw [setSap_get, State.incSat_get]
    exact (Nat.mod_eq_of_lt (by show min _ 65535 < 2 ^ 16; omega)).symm
  · exact KeepsFields.congr ((KeepsFields.refl _ s).addSat 1 (by simp)) rfl
  · exact (((PortsOnly.refl s).set _ _).setSap _ _).keepsStore

/-- Loss of the bit clock (R270): what shows it, and the event that follows. -/
theorem lossOfClock_raises (hst : s.sapState p = saALIGNING ∨ s.sapState p = saRUN ∨ s.sapState p = saUNALIGNED)
    (hm : s.sapMaster p = false) (hlost : (s.sapS p).fsAt + 512000000000 / max 1 (s.sapHz p) < s.now ∨ 2 ≤ (s.sapS p).bad) {w : State}
    (hw : w = ((((setSapState p saLOCLK (s.setSap p { s.sapS p with good := 0, back := false, txw := [] })).set
        (F.SAPp_STAT_LOCLK_EV p) 1).setBit F.SAP_EVT_LOCLK p true).incSat (F.SAPp_CNT1_LOSSES p))) :
    lossOfClock p s = (let v := if s.get F.PP_SAPREF_CFG_PORT = p then loseRef 3 (raiseF 72 p w) else raiseF 72 p w
                       if (s.sapS p).closing then sapOff p v else v)
    ∧ w.sapState p = saLOCLK ∧ w.get (F.SAPp_STAT_LOCLK_EV p) = 1
    ∧ w.get (F.SAPp_CNT1_LOSSES p) = min (s.get (F.SAPp_CNT1_LOSSES p) + 1) 255 % 2 ^ 8 := by
  have hk : ∀ q < 16, ([F.SAPp_STAT_STATE q, F.SAPp_STAT_LOCLK_EV q, F.SAP_EVT_LOCLK, F.SAPp_CNT1_LOSSES q] : List Fd).Pairwise
      (fun f g => Fd.key f ≠ Fd.key g) := by decide
  have hkey := hk p hp
  simp only [List.pairwise_cons, List.mem_cons, List.not_mem_nil, or_false, forall_eq_or_imp, forall_eq] at hkey
  obtain ⟨⟨h12, h13, h14⟩, ⟨h23, h24⟩, h34, -⟩ := hkey
  have hunit : ∀ u : State, KeepsUnit 0x2003 u (sapOff p u) := fun u => by
    have hb : ∀ q < 16, ∀ f ∈ [F.SAPp_CFG_EN q, F.SAPp_STAT_STATE q, F.SAP_STAT_RX_SLOTS, F.SAP_STAT_TX_SLOTS], f.lsb < 32 ∧ blockOf f ≠ 0x2003 := by
      decide
    have hb' := hb p hp
    simp only [List.mem_cons, List.not_mem_nil, or_false, forall_eq_or_imp, forall_eq] at hb'
    obtain ⟨⟨l1, b1⟩, ⟨l2, b2⟩, ⟨l3, b3⟩, l4, b4⟩ := hb'
    exact ((KeepsUnit.congr (((KeepsUnit.refl _ u).set 0 l1 b1).set saOFF l2 b2) rfl).set _ l3 b3).set _ l4 b4
  have hport : (raiseF 72 p w).get F.PP_SAPREF_CFG_PORT = s.get F.PP_SAPREF_CFG_PORT := by
    have h1 : KeepsUnit 0x2003 w (raiseF 72 p w) := by
      refine keepsUnit_raiseF apart_pp rfl (by decide) (fun u => ?_) w
      rw [Nat.mod_eq_of_lt (by omega)]
      exact hunit u
    refine (h1 F.PP_SAPREF_CFG_PORT (by decide) (by decide) (by decide)).trans ?_
    have hne : ∀ q < 16, ∀ f ∈ [F.SAPp_STAT_STATE q, F.SAPp_STAT_LOCLK_EV q, F.SAP_EVT_LOCLK, F.SAPp_CNT1_LOSSES q],
        Fd.key F.PP_SAPREF_CFG_PORT ≠ Fd.key f := by decide
    rw [hw, State.incSat, State.addSat, State.get_set_other _ _ (hne p hp _ (by simp)), State.setBit, State.get_set_other _ _ (hne p hp _ (by simp)),
      State.get_set_other _ _ (hne p hp _ (by simp)), setSapState, State.get_set_other _ _ (hne p hp _ (by simp)), setSap_get]
  refine ⟨?_, ?_, ?_, ?_⟩
  · unfold lossOfClock
    extract_lets x st silent s1 s2 s3 s4
    have hs : (st == saALIGNING || st == saRUN || st == saUNALIGNED) = true := by
      rcases hst with h | h | h <;> rw [show st = _ from h] <;> rfl
    have hl : (silent || decide (2 ≤ x.bad)) = true := by
      rw [Bool.or_eq_true, decide_eq_true_eq, decide_eq_true_eq]
      exact hlost
    have h3 : s3 = raiseF 72 p w := by rw [hw]
    rw [hs, hm, hl, if_pos (by decide)]
    unfold s4
    rw [h3]
    simp only [hport, beq_iff_eq]
    rfl
  · rw [hw, State.sapState, State.incSat, State.addSat, State.get_set_other _ _ h14, State.setBit, State.get_set_other _ _ h13,
      State.get_set_other _ _ h12]
    exact setSapState_state (p := p) (st := saLOCLK) (by decide) _
  · rw [hw, State.incSat, State.addSat, State.get_set_other _ _ h24, State.setBit, State.get_set_other _ _ h23]
    exact State.get_set_same ..
  · rw [hw, State.incSat_get, State.setBit, State.get_set_other _ _ h34.symm, State.get_set_other _ _ h24.symm, setSapState,
      State.get_set_other _ _ h14.symm, setSap_get]
    exact (Nat.mod_eq_of_lt (by show min _ 255 < 2 ^ 8; omega)).symm

end

end Sys2Proof.Machine
end

section
/-!
BLOCK STAMPS of a serial port (R266–R268).
-/
namespace Sys2Proof.Machine

/-! ## Breaths seen from states that differ in ports alone -/

section
variable {s w : State} (h : PortsOnly s w) (hfs : w.fs = s.fs) (hanchor : w.anchor = s.anchor)

include h in
theorem PortsOnly.disp : w.disp = s.disp := by
  obtain ⟨_, _, _, rfl⟩ := h
  rfl

include h in
theorem PortsOnly.unwrap (v : Nat) : w.unwrap v = s.unwrap v := by
  unfold State.unwrap State.n
  rw [h.disp]

include h hfs hanchor in
theorem PortsOnly.breathAt (b : Nat) : w.breathAt b = s.breathAt b := by
  unfold State.breathAt
  rw [hfs, hanchor, h.disp]

include hfs hanchor in
theorem nearestBreath_congr (u : Int) : w.nearestBreath u = s.nearestBreath u := by
  unfold State.nearestBreath State.sinceAnchor
  rw [hfs, hanchor]

include h hfs hanchor in
/-- The phase of a block where the stamp and the offset are as before. -/
theorem PortsOnly.sapPhase {p : Nat} (hstamp : (w.sapS p).stamp = (s.sapS p).stamp) (hofs : (w.sapS p).ofs = (s.sapS p).ofs) (b : Nat) :
    w.sapPhase p b = s.sapPhase p b := by
  unfold State.sapPhase
  rw [hstamp, hofs, h.breathAt hfs hanchor]

end

/-! ## A block stamp -/

/-- What a block stamp writes but the stamp itself. -/
def stampFields (p : Nat) : List Fd :=
  [F.SAPp_STAT_STATE p, F.SAPp_PHASE_PHASE p, F.SAPp_CNT1_BADFRAME p, F.SAPp_REPAIR_BREATH p, F.SAPp_SLIP_SLIP p, F.SAPp_SLIP_REPAIRS p,
    F.SAPp_STAT_REPAIRED p, F.SAP_EVT_REPAIR, F.SAPp_CNT0_UNDERRUN p]

/-- The port shows where block `b` stands. -/
def showPhase (p b : Nat) (s : State) : State := s.set (F.SAPp_PHASE_PHASE p) (ux 32 (s.sapPhase p b))

/-- The stamp of the block frame is taken. -/
def stampTaken (p : Nat) (s : State) : State :=
  ((s.setSap p { s.sapS p with stamped := true }).set (F.SAPp_BLK_TS_LO_NS p) ((s.sapS p).stamp / 256)).set (F.SAPp_BLK_TS_HI_NS p)
    ((s.sapS p).stamp / 256 / 2 ^ 32)

theorem sapMap_eq (p f : Nat) (s : State) : ∃ (b : Nat) (ofs : Int), sapMap p f s = (b, s.setSap p { s.sapS p with ofs := ofs, map := some ((b : Int) - f) }) :=
  ⟨_, _, rfl⟩

section
variable {p : Nat} {s : State} (hp : p < 16)
include hp

/-- What a block stamp reads of a port's configuration, of the mode and of the anchor. -/
def stampReads (p : Nat) : List Fd :=
  [F.SAPp_STAT_STATE p, F.SAPp_CFG_MASTER p, F.SAPp_CFG_DOMAIN p, F.SYS_MODE_STAT_CUR, F.DISP_ANCHOR_HI_NS_HI, F.DISP_ANCHOR_LO_NS_LO,
    F.DISP_ANCHOR_FRAC_FRAC]

theorem stampTaken_does {w : State} (hw : w = stampTaken p s) :
    w.sapS p = { s.sapS p with stamped := true } ∧ PortsOnly s w ∧ (∀ f ∈ stampReads p, w.get f = s.get f)
    ∧ KeepsFields [F.SAPp_BLK_TS_LO_NS p, F.SAPp_BLK_TS_HI_NS p] s w
    ∧ w.get (F.SAPp_BLK_TS_LO_NS p) = (s.sapS p).stamp / 256 % 2 ^ 32 := by
  have hk : ∀ q < 16, ∀ f ∈ stampReads q, Fd.quiet f = true ∧ ∀ g ∈ [F.SAPp_BLK_TS_LO_NS q, F.SAPp_BLK_TS_HI_NS q], Fd.key f ≠ Fd.key g := by
    decide
  have hlo : ∀ q < 16, Fd.key (F.SAPp_BLK_TS_LO_NS q) ≠ Fd.key (F.SAPp_BLK_TS_HI_NS q) := by decide
  have hkeep : KeepsFields [F.SAPp_BLK_TS_LO_NS p, F.SAPp_BLK_TS_HI_NS p] s w := by
    rw [hw]
    exact ((KeepsFields.of_fld _ rfl).set _ (by simp)).set _ (by simp)
  refine ⟨?_, ?_, fun f hf => hkeep f (hk p hp f hf).1 (hk p hp f hf).2, hkeep, ?_⟩
  · rw [hw]
    exact sapS_setSap ..
  · rw [hw]
    exact (((PortsOnly.refl s).setSap _ _).set _ _).set _ _
  · rw [hw, stampTaken, State.get_set_other _ _ (hlo p hp), State.get_set_same]
    rfl

omit hp in
theorem stampReads_same {w : State} (h : ∀ f ∈ stampReads p, w.get f = s.get f) :
    w.sapMaster p = s.sapMaster p ∧ w.sapForeign p = s.sapForeign p ∧ w.fs = s.fs ∧ w.anchor = s.anchor := by
  refine ⟨?_, ?_, ?_, ?_⟩
  · rw [State.sapMaster, State.on, h _ (by simp [stampReads])]
    rfl
  · rw [State.sapForeign, State.on, h _ (by simp [stampReads])]
    rfl
  · rw [State.fs, State.mode, h _ (by simp [stampReads])]
    rfl
  · unfold State.anchor
    rw [h _ (by simp [stampReads]), h _ (by simp [stampReads]), h _ (by simp [stampReads])]

omit hp in
theorem sapMap_does (f : Nat) {b : Nat} {u : State} (hu : sapMap p f s = (b, u)) :
    PortsOnly s u ∧ u.fld = s.fld ∧ (u.sapS p).map.isSome = true := by
  obtain ⟨b', ofs, h⟩ := sapMap_eq p f s
  obtain ⟨-, rfl⟩ := Prod.mk.injEq .. ▸ h.symm.trans hu
  exact ⟨(PortsOnly.refl s).setSap _ _, rfl, by rw [sapS_setSap]; rfl⟩

theorem showPhase_does (b : Nat) (v : State) {u : State} (hu : u = showPhase p b v) :
    FieldsOnly v u ∧ KeepsFields [F.SAPp_PHASE_PHASE p] v u
    ∧ ∀ f ∈ [F.SAPp_STAT_STATE p, F.SAPp_STAT_REPAIRED p, F.SAPp_SLIP_REPAIRS p], u.get f = v.get f := by
  have hk : ∀ q < 16, ∀ f ∈ [F.SAPp_STAT_STATE q, F.SAPp_STAT_REPAIRED q, F.SAPp_SLIP_REPAIRS q], Fd.key f ≠ Fd.key (F.SAPp_PHASE_PHASE q) := by
    decide
  rw [hu]
  exact ⟨(FieldsOnly.refl v).set _ _, (KeepsFields.refl _ v).set _ (by simp), fun f hf => State.get_set_other _ _ (hk p hp f hf)⟩

/-- A repair is shown and the port runs (R268). -/
theorem repaired_does (b d : Nat) (v : State) {u : State}
    (hu : u = setSapState p saRUN (((((v.set (F.SAPp_REPAIR_BREATH p) b).set (F.SAPp_SLIP_SLIP p) d).incSat (F.SAPp_SLIP_REPAIRS p)).set
      (F.SAPp_STAT_REPAIRED p) 1).setBit F.SAP_EVT_REPAIR p true)) :
    FieldsOnly v u ∧ KeepsFields (stampFields p) v u ∧ u.sapState p = saRUN ∧ u.get (F.SAPp_STAT_REPAIRED p) = 1
    ∧ u.get (F.SAPp_SLIP_REPAIRS p) = min (v.get (F.SAPp_SLIP_REPAIRS p) + 1) 65535 % 2 ^ 16 := by
  have hk : ∀ q < 16, ([F.SAPp_SLIP_REPAIRS q, F.SAPp_STAT_REPAIRED q, F.SAP_EVT_REPAIR, F.SAPp_STAT_STATE q] : List Fd).Pairwise
      (fun f g => Fd.key f ≠ Fd.key g)
      ∧ ∀ g ∈ [F.SAPp_REPAIR_BREATH q, F.SAPp_SLIP_SLIP q], Fd.key (F.SAPp_SLIP_REPAIRS q) ≠ Fd.key g := by decide
  obtain ⟨hkey, hkey'⟩ := hk p hp
  simp only [List.pairwise_cons, List.mem_cons, List.not_mem_nil, or_false, forall_eq_or_imp, forall_eq] at hkey
  obtain ⟨⟨h12, h13, h14⟩, ⟨h23, h24⟩, h34, -⟩ := hkey
  rw [hu]
  refine ⟨?_, ?_, setSapState_state (by decide) _, ?_, ?_⟩
  · exact (((((FieldsOnly.refl v).set _ _).set _ _).set _ _).set _ _).setBit _ _ _ |>.set _ _
  · exact ((((((KeepsFields.refl _ v).set _ (by simp [stampFields])).set _ (by simp [stampFields])).addSat 1 (by simp [stampFields])).set _
      (by simp [stampFields])).setBit _ _ (by simp [stampFields])).set _ (by simp [stampFields])
  · rw [setSapState, State.get_set_other _ _ h24, State.setBit, State.get_set_other _ _ h23]
    exact State.get_set_same ..
  · rw [setSapState, State.get_set_other _ _ h14, State.setBit, State.get_set_other _ _ h13, State.get_set_other _ _ h12, State.incSat_get,
      State.get_set_other _ _ (hkey' _ (by simp)), State.get_set_other _ _ (hkey' _ (by simp))]
    exact (Nat.mod_eq_of_lt (by show min _ 65535 < 2 ^ 16; omega)).symm

theorem blockStamp_does {f : Nat} {ok : Bool} (hf : (s.sapS p).frame = some f) (hblock : f % s.sapBlock p = 0)
    (hst : (s.sapS p).stamped = false) {u : State} (hu : u = blockStamp p ok s) :
    KeepsStore s u ∧ u.get (F.SAPp_BLK_TS_LO_NS p) = (s.sapS p).stamp / 256 % 2 ^ 32
      ∧ (s.sapState p = saLOCLK → (s.sapS p).back = false →
          u.sapState p = saLOCLK ∧ KeepsFields [F.SAPp_BLK_TS_LO_NS p, F.SAPp_BLK_TS_HI_NS p] s u)
      ∧ (s.sapMaster p = true → s.sapState p ≠ saLOCLK → u.sapState p = s.sapState p
          ∧ KeepsFields [F.SAPp_BLK_TS_LO_NS p, F.SAPp_BLK_TS_HI_NS p, F.SAPp_PHASE_PHASE p] s u)
      ∧ (s.sapMaster p = false → s.sapForeign p = true → s.sapState p ≠ saLOCLK ∨ (s.sapS p).back = true →
          u.sapState p = saRUN ∧ KeepsFields [F.SAPp_STAT_STATE p, F.SAPp_BLK_TS_LO_NS p, F.SAPp_BLK_TS_HI_NS p] s u)
      ∧ (s.sapMaster p = false → s.sapForeign p = false → s.sapState p = saALIGNING → ok = true →
          u.sapState p = saRUN ∧ (u.sapS p).map.isSome = true)
      ∧ (s.sapMaster p = false → s.sapForeign p = false → s.sapState p = saALIGNING → ok = false →
          u.sapState p = saALIGNING ∧ u.get (F.SAPp_CNT1_BADFRAME p) = min (s.get (F.SAPp_CNT1_BADFRAME p) + 1) 255 % 2 ^ 8)
      ∧ (s.sapMaster p = false → s.sapForeign p = false →
          s.sapState p = saUNALIGNED ∨ (s.sapState p = saLOCLK ∧ (s.sapS p).back = true) →
          u.sapState p = saRUN ∧ (u.sapS p).map.isSome = true ∧ u.get (F.SAPp_STAT_REPAIRED p) = 1
            ∧ u.get (F.SAPp_SLIP_REPAIRS p) = min (s.get (F.SAPp_SLIP_REPAIRS p) + 1) 65535 % 2 ^ 16)
      ∧ (∀ m, s.sapMaster p = false → s.sapForeign p = false → s.sapState p = saRUN → (s.sapS p).map = some m →
          let b := s.unwrap (ux 48 (s.nearestBreath ((s.sapS p).stamp - (s.sapS p).ofs)))
          u.sapState p = (if s.period < 4 * (s.sapPhase p b).natAbs ∨ (b : Int) ≠ m + f then saUNALIGNED else saRUN)) := by
  unfold blockStamp at hu
  extract_lets x st s1 w phase y b z at hu
  obtain ⟨hws, hwo, hwget, hwkeep, hwlo⟩ := stampTaken_does hp (w := w) rfl
  rw [show x.frame = some f from hf] at hu
  dsimp -zeta only at hu
  rw [if_neg (by rw [hblock, show x.stamped = false from hst]; decide)] at hu
  obtain ⟨hwm, hwf, hwfs, hwa⟩ := stampReads_same hwget
  have hwst : w.sapState p = s.sapState p := hwget _ (by simp [stampReads])
  have hx : x = s.sapS p := rfl
  have hst' : st = s.sapState p := rfl
  have hz : z = showPhase p b w := rfl
  have hb : b = s.unwrap (ux 48 (s.nearestBreath (x.stamp - x.ofs))) := by
    show w.unwrap (ux 48 (w.nearestBreath (x.stamp - x.ofs))) = _
    rw [hwo.unwrap, nearestBreath_congr hwfs hwa]
  have hphase : phase = showPhase p := rfl
  clear_value w z b phase st
  rw [hwm, hwf, hphase, hst'] at hu
  rcases hmap1 : sapMap p f w with ⟨b1, v1⟩
  rcases hmap2 : sapMap p f (w.setSap p { y with back := false }) with ⟨b2, v2⟩
  obtain ⟨ho1, hf1, hm1⟩ := sapMap_does f hmap1
  obtain ⟨ho2, hf2, hm2⟩ := sapMap_does f hmap2
  rw [hmap1, hmap2] at hu
  dsimp -zeta only at hu
  extract_lets d v3 at hu
  have hrep := fun v (hv : v = setSapState p saRUN ((v3.set (F.SAPp_STAT_REPAIRED p) 1).setBit F.SAP_EVT_REPAIR p true)) =>
    repaired_does hp b2 (ux 16 d) v2 hv
  clear_value v3 d y
  have hrun := fun v => setSapState_state (p := p) (st := saRUN) (by decide) v
  have hset : ∀ v, KeepsFields (stampFields p) v (setSapState p saRUN v) := fun v => (KeepsFields.refl _ v).set _ (by simp [stampFields])
  have hph := fun b v => showPhase_does hp b v rfl
  have hph' : ∀ b v, KeepsFields (stampFields p) v (showPhase p b v) := fun b v => (hph b v).2.1.mono (by simp [stampFields])
  have hun : ∀ v, KeepsFields (stampFields p) v (sapUnalign p false v) := fun v =>
    ((KeepsFields.refl _ v).addSat (f := F.SAPp_CNT0_UNDERRUN p) 1 (by simp [stampFields])).set _ (by simp [stampFields])
  have hgen : PortsOnly w u ∧ KeepsFields (stampFields p) w u := by
    rw [hu]
    split_ifs
    · exact ⟨.refl w, .refl _ w⟩
    · split
      · exact ⟨.of_fields (hph _ _).1, hph' _ _⟩
      · exact ⟨.refl w, .refl _ w⟩
    · exact ⟨.refl w, .refl _ w⟩
    · exact ⟨((PortsOnly.refl w).setSap _ _).set _ _, (KeepsFields.of_fld _ rfl).trans (hset _)⟩
    · exact ⟨(PortsOnly.refl w).set _ _, (KeepsFields.refl _ w).addSat 1 (by simp [stampFields])⟩
    · exact ⟨(ho1.set _ _).trans (.of_fields (hph _ _).1), ((KeepsFields.of_fld _ hf1).trans (hset _)).trans (hph' _ _)⟩
    · obtain ⟨hr1, hr2, -⟩ := hrep _ rfl
      exact ⟨((((PortsOnly.refl w).setSap _ _).trans ho2).trans (.of_fields hr1)).trans (.of_fields (hph _ _).1),
        ((KeepsFields.of_fld _ hf2).trans hr2).trans (hph' _ _)⟩
    · split
      · exact ⟨.refl w, .refl _ w⟩
      · extract_lets slip
        rw [hz]
        split
        · exact ⟨(((PortsOnly.refl w).trans (.of_fields (hph _ _).1)).set _ _).set _ _, (hph' _ _).trans (hun _)⟩
        · exact ⟨.of_fields (hph _ _).1, hph' _ _⟩
  obtain ⟨hgo, hgk⟩ := hgen
  have hlo : ∀ q < 16, Fd.quiet (F.SAPp_BLK_TS_LO_NS q) = true ∧ ∀ g ∈ stampFields q, Fd.key (F.SAPp_BLK_TS_LO_NS q) ≠ Fd.key g := by decide
  have hcount : ∀ q < 16, ∀ f ∈ [F.SAPp_CNT1_BADFRAME q, F.SAPp_SLIP_REPAIRS q], Fd.quiet f = true
      ∧ ∀ g ∈ [F.SAPp_BLK_TS_LO_NS q, F.SAPp_BLK_TS_HI_NS q], Fd.key f ≠ Fd.key g := by decide
  have hwcount : ∀ f ∈ [F.SAPp_CNT1_BADFRAME p, F.SAPp_SLIP_REPAIRS p], w.get f = s.get f :=
    fun f hf => hwkeep f (hcount p hp f hf).1 (hcount p hp f hf).2
  have hlock : s.sapState p ≠ saLOCLK ∨ (s.sapS p).back = true → (s.sapState p == saLOCLK && !x.back) = false := fun h => by
    rw [Bool.and_eq_false_iff, beq_eq_false_iff_ne, Bool.not_eq_false']
    exact h
  have hne : ∀ v, s.sapState p = v → v ≠ saLOCLK → (s.sapState p == saLOCLK && !x.back) = false := fun v h hv =>
    hlock (.inl (h ▸ hv))
  refine ⟨(hwo.trans hgo).keepsStore, (hgk _ (hlo p hp).1 (hlo p hp).2).trans hwlo, ?_, ?_, ?_, ?_, ?_, ?_, ?_⟩
  · intro h1 h2
    rw [h1, show x.back = false from h2, if_pos (by decide)] at hu
    rw [hu]
    exact ⟨hwst.trans h1, hwkeep⟩
  · intro h1 h2
    rw [hlock (.inl h2), if_neg (by decide), h1, if_pos rfl] at hu
    rw [hu]
    split
    · exact ⟨((hph _ _).2.2 _ (by simp)).trans hwst, (hwkeep.mono (by simp)).trans ((hph _ _).2.1.mono (by simp))⟩
    · exact ⟨hwst, hwkeep.mono (by simp)⟩
  · intro h1 h2 h3
    rw [hlock h3, if_neg (by decide), h1, if_neg (by decide), h2, if_pos rfl] at hu
    rw [hu]
    split
    · next h =>
      exact ⟨hwst.trans (beq_iff_eq.mp h), hwkeep.mono (by simp)⟩
    · exact ⟨hrun _, KeepsFields.set _ ((hwkeep.mono (by simp)).congr rfl) (by simp)⟩
  · intro h1 h2 h3 h4
    rw [hne _ h3 (by decide), if_neg (by decide), h1, if_neg (by decide), h2, if_neg (by decide), h3, if_pos (by decide), h4,
      if_neg (by decide)] at hu
    rw [hu]
    refine ⟨((hph _ _).2.2 _ (by simp)).trans (hrun _), ?_⟩
    rw [(hph _ _).1.sapS p]
    exact hm1
  · intro h1 h2 h3 h4
    rw [hne _ h3 (by decide), if_neg (by decide), h1, if_neg (by decide), h2, if_neg (by decide), h3, if_pos (by decide), h4,
      if_pos (by decide)] at hu
    have hk : ∀ q < 16, Fd.key (F.SAPp_STAT_STATE q) ≠ Fd.key (F.SAPp_CNT1_BADFRAME q) := by decide
    rw [hu]
    refine ⟨((State.get_set_other _ _ (hk p hp)).trans hwst).trans h3, ?_⟩
    rw [State.incSat_get, hwcount _ (by simp)]
    exact (Nat.mod_eq_of_lt (by show min _ 255 < 2 ^ 8; omega)).symm
  · intro h1 h2 h3
    obtain ⟨hl, ha, hc⟩ : (s.sapState p == saLOCLK && !x.back) = false ∧ (s.sapState p == saALIGNING) = false
        ∧ (s.sapState p == saUNALIGNED || s.sapState p == saLOCLK) = true := by
      rcases h3 with h | ⟨h, hback⟩
      · exact ⟨hne _ h (by decide), by rw [h]; rfl, by rw [h]; rfl⟩
      · exact ⟨hlock (.inr hback), by rw [h]; rfl, by rw [h]; rfl⟩
    rw [hl, if_neg (by decide), h1, if_neg (by decide), h2, if_neg (by decide), ha, if_neg (by decide), hc, if_pos rfl] at hu
    obtain ⟨hr1, -, hr3, hr4, hr5⟩ := hrep _ rfl
    rw [hu]
    refine ⟨((hph _ _).2.2 _ (by simp)).trans hr3, ?_, ((hph _ _).2.2 _ (by simp)).trans hr4, ?_⟩
    · rw [(hph _ _).1.sapS p, hr1.sapS p]
      exact hm2
    · rw [(hph _ _).2.2 _ (by simp), hr5, ← hwcount _ (by simp), State.get_congr hf2]
      rfl
  · intro m h1 h2 h3 h4
    rw [hne _ h3 (by decide), if_neg (by decide), h1, if_neg (by decide), h2, if_neg (by decide), h3, if_neg (by decide), if_neg (by decide),
      show x.map = some m from h4] at hu
    dsimp -zeta only at hu
    rw [hx] at hb
    dsimp only
    rw [← hb]
    obtain ⟨hzo, hzk, hzst⟩ := showPhase_does hp b w hz
    have hk : ∀ q < 16, ∀ f ∈ stampReads q, Fd.quiet f = true ∧ ∀ g ∈ [F.SAPp_PHASE_PHASE q], Fd.key f ≠ Fd.key g := by decide
    obtain ⟨-, -, hzfs, hza⟩ := stampReads_same (p := p) (s := s) (w := z) fun f hf =>
      (hzk f (hk p hp f hf).1 (hk p hp f hf).2).trans (hwget f hf)
    have hzs : z.sapS p = w.sapS p := hzo.sapS p
    have hzp : z.sapPhase p b = s.sapPhase p b :=
      (hwo.trans (.of_fields hzo)).sapPhase hzfs hza (by rw [hzs, hws]) (by rw [hzs, hws]) b
    have hzper : z.period = s.period := by rw [State.period, hzfs]; rfl
    have hcond : (decide (z.period < 4 * (z.sapPhase p b).natAbs) || (b : Int) != m + f) = true
        ↔ s.period < 4 * (s.sapPhase p b).natAbs ∨ (b : Int) ≠ m + f := by
      rw [hzp, hzper, Bool.or_eq_true, decide_eq_true_eq, bne_iff_ne]
    rw [hu]
    by_cases h : s.period < 4 * (s.sapPhase p b).natAbs ∨ (b : Int) ≠ m + f
    · rw [if_pos (hcond.mpr h), if_pos h]
      exact setSapState_state (p := p) (st := saUNALIGNED) (by decide) _
    · rw [if_neg (fun h' => h (hcond.mp h')), if_neg h]
      exact ((hzst _ (by simp)).trans hwst).trans h3

end

end Sys2Proof.Machine
end

section
/-!
FRAMES AND SLOTS of a serial port (R263, R265, R268–R272).
-/
namespace Sys2Proof.Machine

/-! ## What the words of a frame's output slots touch -/

/-- The registers of the serial ports, the time and port `p` but for its output words are as before. -/
structure WordsOnly (p : Nat) (s w : State) : Prop where
  fields : KeepsUnit 0x2011 s w
  port   : ∃ a b, w.sapS p = { s.sapS p with txw := a, under := b }
  now    : w.now = s.now

section
variable {p : Nat}

theorem WordsOnly.refl (s : State) : WordsOnly p s s := ⟨.refl _ s, ⟨_, _, rfl⟩, rfl⟩

theorem WordsOnly.trans {s w x : State} (h : WordsOnly p s w) (k : WordsOnly p w x) : WordsOnly p s x := by
  obtain ⟨a, b, hp⟩ := h.port
  obtain ⟨c, d, kp⟩ := k.port
  exact ⟨h.fields.trans k.fields, ⟨c, d, by rw [kp, hp]⟩, k.now.trans h.now⟩

theorem WordsOnly.of_sap {s w : State} (hf : KeepsUnit 0x2011 s w) (hs : w.sap = s.sap) (hn : w.now = s.now) : WordsOnly p s w :=
  ⟨hf, ⟨_, _, sapS_congr hs p⟩, hn⟩

theorem WordsOnly.setSap {a : SMap Int} {b : List Nat} (s : State) : WordsOnly p s (s.setSap p { s.sapS p with txw := a, under := b }) :=
  ⟨fun _ _ _ _ => rfl, ⟨a, b, sapS_setSap ..⟩, rfl⟩

theorem WordsOnly.foldl {α : Type} {s w : State} (f : State → α → State) (l : List α) (h : WordsOnly p s w) (hf : ∀ x u, WordsOnly p u (f u x)) :
    WordsOnly p s (l.foldl f w) := by
  induction l generalizing w with
  | nil => exact h
  | cons x l ih => exact ih (h.trans (hf x w))

theorem apart_sap : ApartFromEvents 0x2011 := ⟨by decide, by decide, by decide, by decide⟩

theorem wordsOnly_incSat {f : Fd} (hl : f.lsb < 32) (hb : blockOf f ≠ 0x2011) (s : State) : WordsOnly p s (s.incSat f) :=
  .of_sap ((KeepsUnit.refl _ s).set _ hl hb) rfl rfl

theorem wordsOnly_disp (d : DispS) (s : State) : WordsOnly p s { s with disp := d } := .of_sap (fun _ _ _ _ => rfl) rfl rfl

theorem wordsOnly_measureTransit (o b egress : Nat) (s : State) : WordsOnly p s (measureTransit o b egress s) := by
  have hraise : ∀ w : State, WordsOnly p w (raiseF 9 o w) := fun w => by
    have hk := keepsUnit_raiseF_unfenced apart_sap (src := 9) o rfl (by decide) rfl w
    obtain ⟨_, _, _, _, _, _, heq⟩ := eventOnly_raiseF (src := 9) o rfl rfl w
    exact .of_sap hk (by rw [heq]) (by rw [heq])
  have hset : ∀ (w : State) (v : Nat), WordsOnly p w (w.set (F.DISP_TBT_DATA1_WORD1 o) v) := fun w v =>
    .of_sap ((KeepsUnit.refl _ w).set v (by simp [F.DISP_TBT_DATA1_WORD1])
      (by simp only [blockOf, F.DISP_TBT_DATA1_WORD1, A.DISP_TBT_DATA1]; omega)) rfl rfl
  unfold measureTransit
  extract_lets w0 w1 ms got last tr ns mx early exc n s1 d1 s2
  have h1 : WordsOnly p s s1 := hset s _
  clear_value s1 exc last
  have h2 : WordsOnly p s s2 := by
    unfold s2
    split
    · exact h1
    · exact (h1.trans (wordsOnly_disp _ s1)).trans (wordsOnly_incSat (by decide) (by decide) _)
  split
  · exact .refl s
  split
  · exact h1
  · exact h2.trans (hraise s2)

theorem wordsOnly_asrcPull (e : Nat × Nat) (b : Int) (s : State) : WordsOnly p s (asrcPull e b s).2 := by
  unfold asrcPull
  split
  · exact .refl s
  · exact .of_sap (.refl _ s) rfl rfl

theorem wordsOnly_sapPull (s : State) : WordsOnly p s (sapPull p s) := by
  unfold sapPull
  split
  · exact .refl s
  split
  · exact .setSap s
  · extract_lets x
    refine .foldl _ _ (.refl s) fun t u => ?_
    have h0 : WordsOnly p u (asrcPull (sapEnd p t) x.jB u).2 := wordsOnly_asrcPull ..
    generalize asrcPull (sapEnd p t) x.jB u = r at h0
    obtain ⟨v, u1⟩ := r
    dsimp -zeta only
    extract_lets o e y u2 z u3
    have h2 : WordsOnly p u u2 := by
      unfold u2
      split
      · exact WordsOnly.trans h0 (wordsOnly_incSat (by decide) (by decide) u1)
      · exact h0
    clear_value u2
    have h3 : WordsOnly p u u3 := h2.trans (.setSap u2)
    exact h3.trans (wordsOnly_measureTransit ..)

theorem wordsOnly_sapSend (s : State) : WordsOnly p s (sapSend p s) := by
  unfold sapSend
  extract_lets x
  split
  · exact .refl s
  split
  · exact .setSap s
  split
  · next m f hm hf =>
    extract_lets bf b s1
    have h1 : WordsOnly p s s1 := by
      refine .foldl _ _ (.refl s) fun t u => ?_
      extract_lets z u1
      split
      · exact .refl u
      · exact WordsOnly.trans (w := u1) (.setSap u) (wordsOnly_measureTransit ..)
    clear_value s1
    exact h1.trans (.setSap s1)
  · exact .refl s

end

/-! ## Frames -/

section
variable {p : Nat} {s : State} (hp : p < 16)
include hp

/-- The first frame (R265, R273). -/
theorem sapFirst_does (map : Option Int) (hforeign : s.sapForeign p = true → s.sapMaster p = false) {u : State} (hu : u = sapFirst p map s) :
    (u.sapS p).frame = some 0 ∧ u.get (F.SAPp_FRAME_FRAME p) = 0
    ∧ (u.sapS p).rx = s.get (F.SAPp_RXMASK_MASK p) ∧ (u.sapS p).tx = s.get (F.SAPp_TXMASK_MASK p)
    ∧ u.sapState p = (if s.sapMaster p then saRUN else saALIGNING)
    ∧ ((s.sapS p).rxNext.isSome = true ∨ (s.sapS p).txNext.isSome = true → u.get (F.SAPp_EPOCH_FRAME_FRAME p) = 0)
    ∧ KeepsFields [F.SAPp_FRAME_FRAME p, F.SAPp_STAT_STATE p, F.SAPp_EPOCH_FRAME_FRAME p, F.SAPp_EPOCH_BREATH_BREATH p] s u
    ∧ KeepsStore s u := by
  have hk : ∀ q < 16, ([F.SAPp_FRAME_FRAME q, F.SAPp_STAT_STATE q, F.SAPp_EPOCH_FRAME_FRAME q] : List Fd).Pairwise
      (fun f g => Fd.key f ≠ Fd.key g) ∧ ∀ f ∈ [F.SAPp_CFG_MASTER q, F.SAPp_CFG_DOMAIN q], Fd.quiet f = true
      ∧ ∀ g ∈ [F.SAPp_FRAME_FRAME q, F.SAPp_STAT_STATE q, F.SAPp_EPOCH_FRAME_FRAME q, F.SAPp_EPOCH_BREATH_BREATH q], Fd.key f ≠ Fd.key g := by
    decide
  obtain ⟨hkey, hcfg⟩ := hk p hp
  simp only [List.pairwise_cons, List.mem_cons, List.not_mem_nil, or_false, forall_eq_or_imp, forall_eq] at hkey
  obtain ⟨⟨h12, h13⟩, h23, -⟩ := hkey
  unfold sapFirst at hu
  extract_lets ofs masked s1 s2 at hu
  obtain ⟨x, hx⟩ : ∃ x, x = s1.sapS p := ⟨_, rfl⟩
  have hs1 : x.frame = some 0 ∧ x.rx = s.get (F.SAPp_RXMASK_MASK p) ∧ x.tx = s.get (F.SAPp_TXMASK_MASK p) := by
    rw [hx, sapS_setSap]
    exact ⟨rfl, rfl, rfl⟩
  have hs1o : PortsOnly s s1 ∧ s1.fld = s.fld := ⟨(PortsOnly.refl s).setSap _ _, rfl⟩
  clear_value s1
  have hs2 : s2.sapS p = x ∧ PortsOnly s s2 ∧ KeepsFields [F.SAPp_EPOCH_FRAME_FRAME p, F.SAPp_EPOCH_BREATH_BREATH p] s s2
      ∧ (masked = true → s2.get (F.SAPp_EPOCH_FRAME_FRAME p) = 0) := by
    unfold s2
    split
    · have ho := fieldsOnly_showEpoch (p := p) s1
      refine ⟨(ho.sapS p).trans hx.symm, hs1o.1.trans (.of_fields ho), (KeepsFields.of_fld _ hs1o.2).trans (keepsFields_showEpoch s1), fun _ => ?_⟩
      rw [showEpoch_frame hp, ← hx, hs1.1]
      rfl
    · next h => exact ⟨hx.symm, hs1o.1, .of_fld _ hs1o.2, fun h' => absurd h' h⟩
  clear_value s2
  obtain ⟨hs2x, hs2o, hs2k, hs2e⟩ := hs2
  have hm : s2.sapMaster p = s.sapMaster p := by
    obtain ⟨hq, hne⟩ := hcfg (F.SAPp_CFG_MASTER p) (by simp)
    rw [State.sapMaster, State.on, hs2k _ hq fun g hg => hne g (.tail _ (.tail _ hg))]
    rfl
  obtain ⟨w, hw⟩ : ∃ w, w = setSapState p (if s2.sapMaster p then saRUN else saALIGNING) (s2.set (F.SAPp_FRAME_FRAME p) 0) := ⟨_, rfl⟩
  have hwx : w.sapS p = x := by rw [hw]; exact hs2x
  have hwst : w.sapState p = (if s.sapMaster p then saRUN else saALIGNING) := by
    rw [hw, hm]
    refine setSapState_state ?_ _
    split <;> decide
  have hwfr : w.get (F.SAPp_FRAME_FRAME p) = 0 := by
    rw [hw, setSapState, State.get_set_other _ _ h12, State.get_set_same]
    exact Nat.zero_mod _
  have hwep : w.get (F.SAPp_EPOCH_FRAME_FRAME p) = s2.get (F.SAPp_EPOCH_FRAME_FRAME p) := by
    rw [hw, setSapState, State.get_set_other _ _ h23.symm, State.get_set_other _ _ h13.symm]
  have hwk : KeepsFields [F.SAPp_FRAME_FRAME p, F.SAPp_STAT_STATE p, F.SAPp_EPOCH_FRAME_FRAME p, F.SAPp_EPOCH_BREATH_BREATH p] s w := by
    rw [hw]
    exact ((hs2k.mono (by simp)).set _ (by simp)).set _ (by simp)
  have hwo : PortsOnly s w := by
    rw [hw]
    exact (hs2o.set _ _).set _ _
  rw [← hw] at hu
  clear hw
  -- The output words: a port of the mix takes none here, and a foreign one is still muted.
  have hpull : ∃ a b, u = w ∨ u = w.setSap p { w.sapS p with txw := a, under := b } := by
    by_cases hf : w.sapForeign p = true
    · have hsf : s.sapForeign p = true := by
        obtain ⟨hq, hne⟩ := hcfg (F.SAPp_CFG_DOMAIN p) (by simp)
        rw [State.sapForeign, State.on, hwk _ hq hne] at hf
        exact hf
      have hmuted : w.sapMuted p = true := by
        unfold State.sapMuted
        dsimp only
        rw [hwst, hforeign hsf, if_neg (by decide)]
        simp
      refine ⟨[], [], .inr ?_⟩
      rw [hu, sapPull, hf, hmuted]
      rfl
    · refine ⟨[], [], .inl ?_⟩
      rw [hu, sapPull, Bool.eq_false_of_not_eq_true hf]
      rfl
  have hux : (u.sapS p).frame = x.frame ∧ (u.sapS p).rx = x.rx ∧ (u.sapS p).tx = x.tx ∧ u.fld = w.fld ∧ PortsOnly w u := by
    obtain ⟨a, b, h | h⟩ := hpull
    · rw [h, hwx]
      exact ⟨rfl, rfl, rfl, rfl, .refl w⟩
    · rw [h, sapS_setSap, hwx]
      exact ⟨rfl, rfl, rfl, rfl, (PortsOnly.refl w).setSap _ _⟩
  obtain ⟨hu1, hu2, hu3, hu4, hu5⟩ := hux
  refine ⟨hu1.trans hs1.1, (State.get_congr hu4 _).trans hwfr, hu2.trans hs1.2.1, hu3.trans hs1.2.2, (State.get_congr hu4 _).trans hwst, fun h => ?_,
    hwk.congr hu4, (hwo.trans hu5).keepsStore⟩
  refine ((State.get_congr hu4 _).trans hwep).trans (hs2e ?_)
  rw [Bool.or_eq_true]
  exact h

omit hp in
/-- No mode apply is between its modes, and HALT holds no ball, where the port counts. -/
theorem sapBetween_false (hpins : s.fcu.pinsHold = false) (hgap : s.sapForeign p = false → s.modeGap = false) :
    ((!s.sapForeign p && s.modeGap) || s.fcu.pinsHold) = false := by
  rw [hpins, Bool.or_false]
  cases hf : s.sapForeign p with
  | false => rw [hgap hf]; rfl
  | true => rfl

omit hp in
/-- An FS edge at a port without a frame starts it (R265). -/
theorem sapFrameStart_first {d : Nat} (ok : Bool) (hst : s.sapState p ≠ saOFF) (hpins : s.fcu.pinsHold = false)
    (hgap : s.sapForeign p = false → s.modeGap = false) (hfr : (s.sapS p).frame = none) (hreq : (s.sapS p).req = some d)
    (hdue : s.sapMaster p = true → s.breathing = true ∧ (s.sapFixedOfs p : Int) ≤ s.since s.n
      ∧ 0 ≤ sx 72 (ux 72 ((s.breathAt s.n : Int) + s.sapFixedOfs p - d))) :
    ∃ map, sapFrameStart p ok s = sapFirst p map s := by
  have hbetween := sapBetween_false hpins hgap
  unfold sapFrameStart
  extract_lets x st master between i s1 x1 b bad
  rw [if_neg (by rw [show between = false from hbetween, Bool.or_false, beq_iff_eq]; exact hst), show x.frame = none from hfr]
  dsimp -zeta only
  rw [show x.req = some d from hreq]
  dsimp -zeta only
  split
  · exact ⟨_, rfl⟩
  · next hm =>
    obtain ⟨h1, h2, h3⟩ := hdue (by simpa using hm)
    rw [if_pos (by rw [h1, Bool.true_and, Bool.and_eq_true, decide_eq_true_eq, decide_eq_true_eq]; exact ⟨h2, h3⟩)]
    exact ⟨_, rfl⟩

/-- An FS edge at a running port ends its frame and begins the next (R265, R271). -/
theorem sapFrameStart_next {f : Nat} (ok : Bool) (hst : s.sapState p ≠ saOFF) (hpins : s.fcu.pinsHold = false)
    (hgap : s.sapForeign p = false → s.modeGap = false) (hfr : (s.sapS p).frame = some f)
    (hdue : s.sapMaster p = true → ∀ m, (s.sapS p).map = some m → (s.sapS p).ofs ≤ s.since (m + (f + 1 : Nat)).toNat) {u : State}
    (hu : u = sapFrameStart p ok s) :
    if (s.sapS p).closing then u.get (F.SAPp_CFG_EN p) = 0 ∧ u.sapState p = saOFF ∧ u.sapS p = {}
    else (u.sapS p).frame = some (f + 1) ∧ (u.sapS p).fsAt = s.now
      ∧ u.get (F.SAPp_FRAME_FRAME p) = (s.get (F.SAPp_FRAME_FRAME p) + 1) % 2 ^ 32
      ∧ (u.sapS p).good = (if ok then (s.sapS p).good + 1 else 0) := by
  have hbetween := sapBetween_false hpins hgap
  have hFR : F.SAPp_FRAME_FRAME p ∈ portFields p := by simp [portFields]
  have hk : ∀ q < 16, Fd.key (F.SAPp_FRAME_FRAME q) ≠ Fd.key (F.SAPp_CNT1_BADFRAME q) := by decide
  obtain ⟨hl, hb⟩ := portFields_place p hp _ hFR
  have hframe : ∀ v w : State, WordsOnly p v w → w.get (F.SAPp_FRAME_FRAME p) = v.get (F.SAPp_FRAME_FRAME p) := fun v w h =>
    h.fields _ hl (portField_quiet hp hFR) hb
  unfold sapFrameStart at hu
  extract_lets x st master between i s1 x1 b bad at hu
  rw [if_neg (by rw [show between = false from hbetween, Bool.or_false, beq_iff_eq]; exact hst), show x.frame = some f from hfr] at hu
  dsimp -zeta only at hu
  extract_lets due x2 s2 at hu
  have hdue' : (master && !due) = false := by
    cases hm : master with
    | false => rfl
    | true =>
      have h : due = true := by
        unfold due
        split
        · next m hmap => exact decide_eq_true (hdue hm m hmap)
        · rfl
      rw [h]
      rfl
  rw [hdue', if_neg (by decide)] at hu
  by_cases hc : (s.sapS p).closing = true
  · rw [if_pos hc] at hu ⊢
    obtain ⟨h1, h2, h3, -⟩ := sapOff_does hp s hu
    exact ⟨h1, h2, h3⟩
  rw [if_neg hc] at hu ⊢
  have hsend : WordsOnly p s s1 := wordsOnly_sapSend s
  have hs2 : s2.sapS p = x2 ∧ s2.get (F.SAPp_FRAME_FRAME p) = (s.get (F.SAPp_FRAME_FRAME p) + 1) % 2 ^ 32 := by
    refine ⟨sapS_setSap .., ?_⟩
    show ((s1.setSap p x2).inc (F.SAPp_FRAME_FRAME p)).get (F.SAPp_FRAME_FRAME p) = _
    rw [State.inc, State.get_set_same, setSap_get, hframe s s1 hsend]
    rfl
  have hx2 : x2.frame = some (f + 1) ∧ x2.fsAt = s.now ∧ x2.good = (if ok then (s.sapS p).good + 1 else 0) := by
    obtain ⟨a, c, hx1⟩ : ∃ a c, x1 = { s.sapS p with txw := a, under := c } := hsend.port
    refine ⟨rfl, hsend.now, ?_⟩
    show (if ok then x1.good + 1 else 0) = _
    rw [hx1]
  clear_value s2
  have hs3 : ∀ v, v = (if ok || master then s2 else s2.incSat (F.SAPp_CNT1_BADFRAME p)) → v.sapS p = x2
      ∧ v.get (F.SAPp_FRAME_FRAME p) = (s.get (F.SAPp_FRAME_FRAME p) + 1) % 2 ^ 32 := by
    rintro v rfl
    split
    · exact hs2
    · exact ⟨hs2.1, (State.get_set_other _ _ (hk p hp)).trans hs2.2⟩
  obtain ⟨hv1, hv2⟩ := hs3 _ rfl
  have hpull := wordsOnly_sapPull (p := p) (if ok || master then s2 else s2.incSat (F.SAPp_CNT1_BADFRAME p))
  rw [← hu] at hpull
  obtain ⟨a, c, hport⟩ := hpull.port
  rw [hport, hv1]
  exact ⟨hx2.1, hx2.2.1, (hframe _ _ hpull).trans hv2, hx2.2.2⟩

/-! ## Slots (R263, R268, R269) -/

omit hp in
/-- A slot's commit for a breath it has not committed. -/
theorem sapCommit_does (tap0 : Nat) {t b : Nat} (v : Option Int) (hb : ¬ b < (mget {} t (s.sapS p).slots).doneB) {u : State}
    (hu : u = sapCommit p tap0 t b v s) :
    (mget {} t (u.sapS p).slots).doneB = b + 1 ∧ KeepsBlock 0x2011 s u := by
  unfold sapCommit at hu
  extract_lets x q at hu
  rw [if_neg hb] at hu
  generalize seqStep _ _ v q = r at hu
  obtain ⟨y, q'⟩ := r
  dsimp only at hu
  obtain ⟨w, hw⟩ : ∃ w, w = s.setSap p { x with slots := mset {} t { q' with doneB := b + 1 } x.slots } := ⟨_, rfl⟩
  rw [← hw] at hu
  have hwS : (mget {} t (w.sapS p).slots).doneB = b + 1 := by
    rw [hw, sapS_setSap]
    exact congrArg SeqS.doneB (mget_mset_same ..)
  have hwf : w.fld = s.fld := by rw [hw]; rfl
  have hcommit := commitOnly_commitTap (tap0 + t) y b w
  have hblock := keepsBlock_commitTap (b := 0x2011) (by decide) (tap0 + t) y b w
  rw [← hu] at hcommit hblock
  have hsap : u.sap = w.sap := by
    obtain ⟨_, _, _, _, rfl⟩ := hcommit
    rfl
  exact ⟨by rw [sapS_congr hsap]; exact hwS, (KeepsBlock.of_fld hwf).trans hblock⟩

omit hp in
theorem arrive_sapS (key b : Nat) (real : Option Nat) (v : State) :
    (arrive key b real v).sapS p = v.sapS p ∧ KeepsBlock 0x2011 v (arrive key b real v) := by
  refine ⟨?_, keepsBlock_arrive (by decide) (by decide) key b real v⟩
  obtain ⟨_, _, h⟩ := firesOnly_arrive key b real v
  rw [h]
  rfl

theorem KeepsBlock.port {v w : State} (h : KeepsBlock 0x2011 v w) {f : Fd} (hf : f ∈ portFields p) : w.get f = v.get f :=
  h f (portFields_place p hp f hf).1 (portFields_place p hp f hf).2

theorem sapUnalign_does (tooLate : Bool) (v : State) {u : State} (hu : u = sapUnalign p tooLate v) :
    u.sapState p = saUNALIGNED
    ∧ u.get (if tooLate then F.SAPp_CNT0_OVERRUN p else F.SAPp_CNT0_UNDERRUN p)
      = min (v.get (if tooLate then F.SAPp_CNT0_OVERRUN p else F.SAPp_CNT0_UNDERRUN p) + 1) 65535 % 2 ^ 16
    ∧ KeepsFields [F.SAPp_STAT_STATE p, if tooLate then F.SAPp_CNT0_OVERRUN p else F.SAPp_CNT0_UNDERRUN p] v u ∧ FieldsOnly v u := by
  have hk : ∀ q < 16, ∀ f ∈ [F.SAPp_CNT0_OVERRUN q, F.SAPp_CNT0_UNDERRUN q], Fd.key f ≠ Fd.key (F.SAPp_STAT_STATE q) := by decide
  have hw : ∀ f ∈ [F.SAPp_CNT0_OVERRUN p, F.SAPp_CNT0_UNDERRUN p], Fd.width f = 16 := by
    simp only [List.mem_cons, List.not_mem_nil, or_false, forall_eq_or_imp, forall_eq]
    exact ⟨rfl, rfl⟩
  rw [hu, sapUnalign]
  have hmem : (if tooLate then F.SAPp_CNT0_OVERRUN p else F.SAPp_CNT0_UNDERRUN p) ∈ [F.SAPp_CNT0_OVERRUN p, F.SAPp_CNT0_UNDERRUN p] := by
    cases tooLate <;> simp
  generalize (if tooLate then F.SAPp_CNT0_OVERRUN p else F.SAPp_CNT0_UNDERRUN p) = f at hmem
  refine ⟨setSapState_state (by decide) _, ?_, ((KeepsFields.refl _ v).addSat 1 (by simp)).set _ (by simp), ((FieldsOnly.refl v).set _ _).set _ _⟩
  rw [setSapState, State.get_set_other _ _ (hk p hp f hmem), State.incSat_get, hw f hmem]
  exact (Nat.mod_eq_of_lt (by show min _ 65535 < 2 ^ 16; omega)).symm

/-- What the end of input slot `sl` in frame `f` shows of a port of the mix in RUN: a malformed frame is noted, a sample for a breath too
far or committed ends the mapping, one for a substituted breath is discarded, any other is committed (R263, R268). -/
def SlotShows (p sl f : Nat) (m : Int) (ok : Bool) (s u : State) : Prop :=
  let b := (m + f).toNat
  let e := mget {} sl (s.sapS p).slots
  if ok = false then KeepsAll s u
    ∧ u.sapS p = { s.sapS p with lone := if (s.sapS p).lone.contains b then (s.sapS p).lone else b :: (s.sapS p).lone }
  else if s.n + 2 < b ∨ (b < e.doneB ∧ ¬ (e.doneB = b + 1 ∧ ssMissing e.st = true)) then
    u.sapState p = saUNALIGNED ∧ u.get (F.SAPp_CNT0_OVERRUN p) = min (s.get (F.SAPp_CNT0_OVERRUN p) + 1) 65535 % 2 ^ 16
      ∧ KeepsFields [F.SAPp_STAT_STATE p, F.SAPp_CNT0_OVERRUN p] s u ∧ KeepsStore s u
  else if e.doneB = b + 1 ∧ ssMissing e.st = true then KeepsAll s u ∧ u.sapS p = s.sapS p
  else (mget {} sl (u.sapS p).slots).doneB = b + 1 ∧ u.sapState p = saRUN

theorem slotReceive_does {sl w f : Nat} {m : Int} (ok : Bool) (hst : s.sapState p = saRUN) (hsl : sl < s.sapSlots p)
    (hforeign : s.sapForeign p = false) (hf : s.slotFrame p sl = some f) (hm : (s.sapS p).map = some m) {u : State}
    (hu : u = slotReceive p sl w ok s) :
    SlotShows p sl f m ok s u := by
  unfold SlotShows
  unfold slotReceive at hu
  extract_lets x v e at hu
  rw [if_neg (by rw [hst, decide_eq_false (by omega)]; decide), hforeign, if_neg (by decide), hf, show x.map = some m from hm] at hu
  dsimp -zeta only at hu
  extract_lets b late w1 at hu
  dsimp only
  have hlate : late = true ↔ e.doneB = b + 1 ∧ ssMissing e.st = true := by
    show (b + 1 == e.doneB && ssMissing e.st) = true ↔ _
    rw [Bool.and_eq_true, beq_iff_eq, eq_comm]
  cases ok with
  | false =>
    rw [if_pos (by decide)] at hu
    rw [if_pos rfl, hu]
    by_cases hc : x.lone.contains b = true
    · rw [if_pos hc, if_pos hc]
      exact ⟨⟨.refl _ s, rfl, rfl, rfl⟩, rfl⟩
    · rw [if_neg hc, if_neg hc, sapS_setSap, hm]
      exact ⟨⟨.of_fld _ rfl, rfl, rfl, rfl⟩, rfl⟩
  | true =>
    rw [if_neg (by decide)] at hu
    rw [if_neg (by decide)]
    have hover : (decide (s.n + 2 < b) || (decide (b < e.doneB) && !late)) = true
        ↔ s.n + 2 < b ∨ (b < e.doneB ∧ ¬ (e.doneB = b + 1 ∧ ssMissing e.st = true)) := by
      rw [Bool.or_eq_true, Bool.and_eq_true, decide_eq_true_eq, decide_eq_true_eq, Bool.not_eq_true', ← hlate, Bool.not_eq_true]
    by_cases ho : s.n + 2 < b ∨ (b < e.doneB ∧ ¬ (e.doneB = b + 1 ∧ ssMissing e.st = true))
    · rw [if_pos (hover.mpr ho)] at hu
      rw [if_pos ho]
      obtain ⟨h1, h2, h3, h4⟩ := sapUnalign_does hp true s hu
      exact ⟨h1, h2, h3, h4.keepsStore⟩
    rw [if_neg (fun h => ho (hover.mp h))] at hu
    rw [if_neg ho]
    by_cases hl : e.doneB = b + 1 ∧ ssMissing e.st = true
    · rw [if_pos (hlate.mpr hl)] at hu
      rw [if_pos hl, hu]
      exact ⟨⟨.refl _ s, rfl, rfl, rfl⟩, rfl⟩
    rw [if_neg (fun h => hl (hlate.mp h))] at hu
    rw [if_neg hl]
    have hb : ¬ b < (mget {} sl (s.sapS p).slots).doneB := fun h => ho (.inr ⟨h, hl⟩)
    obtain ⟨h1, h2⟩ := sapCommit_does (s.sapTap0 p) (if bitOf x.rx sl then some v else none) hb (u := w1) rfl
    clear_value w1
    obtain ⟨h3, h4⟩ := arrive_sapS (p := p) (4096 + 32 * p + sl) b (some w1.dev) w1
    rw [← hu] at h3 h4
    exact ⟨by rw [h3]; exact h1, ((KeepsBlock.port hp (h2.trans h4) (by simp [portFields])).trans hst)⟩

omit hp in
/-- A slot of a foreign port feeds its converters. -/
theorem slotReceive_foreign {sl w : Nat} (ok : Bool) (hst : s.sapState p = saRUN) (hsl : sl < s.sapSlots p) (hforeign : s.sapForeign p = true) :
    slotReceive p sl w ok s = if ok ∧ bitOf (s.sapS p).rx sl then asrcFeed (sapEnd p sl) none (s.slotValue p w) s else s := by
  unfold slotReceive
  rw [if_neg (by rw [hst, decide_eq_false (by omega)]; decide), hforeign, if_pos rfl]
  simp only [Bool.and_eq_true]

theorem slotMissing_does {sl b : Nat} (hst : saRUN ≤ s.sapState p) (hforeign : s.sapForeign p = false) (hm : (s.sapS p).map.isSome = true)
    (hbr : s.breathing = true) (hsl : sl < s.sapSlots p) (hn : b ≤ s.n) (hdone : (mget {} sl (s.sapS p).slots).doneB ≤ b)
    (hdue : s.slotDue p sl b = true) {u : State} (hu : u = slotMissing p sl b s) :
    (mget {} sl (u.sapS p).slots).doneB = b + 1
    ∧ (if s.sapState p = saRUN ∧ bitOf (s.sapS p).rx sl = true ∧ (s.sapS p).lone.contains b = false then
        u.sapState p = saUNALIGNED ∧ u.get (F.SAPp_CNT0_UNDERRUN p) = min (s.get (F.SAPp_CNT0_UNDERRUN p) + 1) 65535 % 2 ^ 16
       else u.sapState p = s.sapState p ∧ u.get (F.SAPp_CNT0_UNDERRUN p) = s.get (F.SAPp_CNT0_UNDERRUN p)) := by
  unfold slotMissing at hu
  extract_lets x st on w at hu
  have hon : on = true := by
    show (decide (saRUN ≤ s.sapState p) && !s.sapForeign p && (s.sapS p).map.isSome) = true
    rw [decide_eq_true hst, hforeign, hm]
    rfl
  rw [if_neg (by rw [hon, hbr, decide_eq_true hsl, decide_eq_true hn, decide_eq_true hdone, hdue]; decide)] at hu
  have hw : w.sapS p = s.sapS p
      ∧ (if s.sapState p = saRUN ∧ bitOf (s.sapS p).rx sl = true ∧ (s.sapS p).lone.contains b = false then
          w.sapState p = saUNALIGNED ∧ w.get (F.SAPp_CNT0_UNDERRUN p) = min (s.get (F.SAPp_CNT0_UNDERRUN p) + 1) 65535 % 2 ^ 16
         else w.sapState p = s.sapState p ∧ w.get (F.SAPp_CNT0_UNDERRUN p) = s.get (F.SAPp_CNT0_UNDERRUN p)) := by
    have hcond : (st == saRUN && bitOf x.rx sl && !x.lone.contains b) = true
        ↔ s.sapState p = saRUN ∧ bitOf (s.sapS p).rx sl = true ∧ (s.sapS p).lone.contains b = false := by
      rw [Bool.and_eq_true, Bool.and_eq_true, beq_iff_eq, Bool.not_eq_true', and_assoc]
    unfold w
    by_cases h : s.sapState p = saRUN ∧ bitOf (s.sapS p).rx sl = true ∧ (s.sapS p).lone.contains b = false
    · rw [if_pos (hcond.mpr h), if_pos h]
      obtain ⟨h1, h2, -, h4⟩ := sapUnalign_does hp false s rfl
      exact ⟨h4.sapS p, h1, h2⟩
    · rw [if_neg (fun h' => h (hcond.mp h')), if_neg h]
      exact ⟨rfl, rfl, rfl⟩
  clear_value w
  obtain ⟨hwS, hwc⟩ := hw
  have hb : ¬ b < (mget {} sl (w.sapS p).slots).doneB := by rw [hwS]; omega
  obtain ⟨h1, h2⟩ := sapCommit_does (w.sapTap0 p) none hb rfl
  obtain ⟨h3, h4⟩ := arrive_sapS (p := p) (4096 + 32 * p + sl) b none (sapCommit p (w.sapTap0 p) sl b none w)
  rw [← hu] at h3 h4
  have h5 := h2.trans h4
  have hst5 : u.sapState p = w.sapState p := KeepsBlock.port hp h5 (by simp [portFields])
  rw [hst5, KeepsBlock.port hp h5 (f := F.SAPp_CNT0_UNDERRUN p) (by simp [portFields]), h3]
  exact ⟨h1, hwc⟩

end

end Sys2Proof.Machine
end

section
namespace Sys2Proof.Machine

/-! ## The end of a command leaves the ports -/

theorem sapState_sumTick {p : Nat} (hp : p < 16) (r s : State) : (sumTick r s).sapState p = s.sapState p :=
  sumTick_get _ _ (portField_quiet hp (by simp [portFields]))

theorem sapState_answered {p : Nat} (hp : p < 16) (r s : State) (m d : Nat) (e c : Bool) :
    (sumTick r (s.respond m d e c)).sapState p = s.sapState p :=
  respond_get _ _ _ _ _ _ (portField_quiet hp (by simp [portFields]))

theorem sapS_answered (r s : State) (m d : Nat) (e c : Bool) (p : Nat) : (sumTick r (s.respond m d e c)).sapS p = s.sapS p :=
  sapS_congr (by rw [sumTick_sap, State.respond_sap]) p

theorem KeepsAll.sumTick {s w : State} (r : State) (h : KeepsAll s w) : KeepsAll s (Machine.sumTick r w) :=
  ⟨KeepsFields.sumTick (s := s) _ h.1, KeepsStore.sumTick (s := s) _ h.2⟩

theorem SlotShows.sumTick {p sl f : Nat} {m : Int} {ok : Bool} {s u : State} (hp : p < 16) (r : State) (h : SlotShows p sl f m ok s u) :
    SlotShows p sl f m ok s (Machine.sumTick r u) := by
  have hOV : Fd.quiet (F.SAPp_CNT0_OVERRUN p) = true := portField_quiet hp (by simp [portFields])
  unfold SlotShows at h ⊢
  extract_lets b e at h ⊢
  rw [sapS_sumTick, sapState_sumTick hp, sumTick_get _ _ hOV]
  by_cases h1 : ok = false
  · rw [if_pos h1] at h ⊢
    exact ⟨KeepsAll.sumTick (s := s) _ h.1, h.2⟩
  rw [if_neg h1] at h ⊢
  by_cases h2 : s.n + 2 < b ∨ (b < e.doneB ∧ ¬ (e.doneB = b + 1 ∧ ssMissing e.st = true))
  · rw [if_pos h2] at h ⊢
    obtain ⟨h3, h4, h5, h6⟩ := h
    exact ⟨h3, h4, KeepsFields.sumTick (s := s) _ h5, KeepsStore.sumTick (s := s) _ h6⟩
  rw [if_neg h2] at h ⊢
  by_cases h3 : e.doneB = b + 1 ∧ ssMissing e.st = true
  · rw [if_pos h3] at h ⊢
    exact ⟨KeepsAll.sumTick (s := s) _ h.1, h.2⟩
  · rw [if_neg h3] at h ⊢
    exact h

end Sys2Proof.Machine

open Sys2Proof Sys2Proof.Machine

/-- Settles O45, by what each command writes: the port's registers and, among the ports, that port alone. -/
theorem serialRowsComplete : Obligations.SerialRowsComplete := by
  unfold Obligations.SerialRowsComplete
  have hq : ∀ {p : Nat} {f : Fd}, p < 16 → f ∈ portFields p → Fd.quiet f = true := fun hp hf => portField_quiet hp hf
  refine ⟨?_, ?_, ?_, ?_, ?_, ?_, ?_, ?_, ?_, ?_, ?_, ?_, ?_, ?_⟩
  · intro m p v s hp h hen
    obtain ⟨hcase, hstore⟩ := wrSapCfg_enable hp v hen rfl
    refine ⟨_, (done_alive _ h.alive :), ?_⟩
    rw [guarded_admitted _ h]
    refine ⟨answers_sumTick .., ?_, keepsStore_sumTick _ _ _ _ hstore⟩
    have hEN : Fd.quiet (F.SAPp_CFG_EN p) = true := hq hp (by simp [portFields])
    have hER : Fd.quiet (F.SAPp_STAT_DERR p) = true := hq hp (by simp [portFields])
    have hUN : Fd.quiet (F.SAPp_CNT0_UNDERRUN p) = true := hq hp (by simp [portFields])
    have hRE : Fd.quiet (F.SAPp_SLIP_REPAIRS p) = true := hq hp (by simp [portFields])
    simp only [sapState_answered hp, respond_get _ _ _ _ _ _ hEN, respond_get _ _ _ _ _ _ hER,
      respond_get _ _ _ _ _ _ hUN, respond_get _ _ _ _ _ _ hRE]
    exact hcase
  · intro m p v s hp h hen
    obtain ⟨h1, hstore, hcase⟩ := wrSapCfg_disable hp v hen rfl
    refine ⟨_, (done_alive _ h.alive :), ?_⟩
    rw [guarded_admitted _ h]
    refine ⟨answers_sumTick .., (respond_get _ _ _ _ _ _ (hq hp (by simp [portFields]))).trans h1, keepsStore_sumTick _ _ _ _ hstore, ?_⟩
    rw [sapS_answered, sapState_answered hp]
    exact hcase
  · intro p t d ok s hp ha hst hpins hgap hforeign hfr hreq hdue
    obtain ⟨map, hgo⟩ := sapFrameStart_first (s := s.atTime t) ok hst hpins hgap hfr hreq hdue
    obtain ⟨h1, h2, h3, h4, h5, h6, hkeep, hstore⟩ := sapFirst_does hp map (s := s.atTime t) hforeign hgo
    refine ⟨_, done_alive _ ha, ?_⟩
    rw [sapS_sumTick]
    exact ⟨h1, (sumTick_get _ _ (hq hp (by simp [portFields]))).trans h2, h3, h4, (sumTick_get _ _ (hq hp (by simp [portFields]))).trans h5,
      fun h => (sumTick_get _ _ (hq hp (by simp [portFields]))).trans (h6 h), KeepsFields.sumTick (s := s) _ hkeep,
      KeepsStore.sumTick (s := s) _ hstore⟩
  · intro p t f ok s hp ha hst hpins hgap hfr hdue
    have hcase := sapFrameStart_next hp (s := s.atTime t) ok hst hpins hgap hfr hdue rfl
    refine ⟨_, done_alive _ ha, ?_⟩
    have hEN : Fd.quiet (F.SAPp_CFG_EN p) = true := hq hp (by simp [portFields])
    have hFR : Fd.quiet (F.SAPp_FRAME_FRAME p) = true := hq hp (by simp [portFields])
    rw [sapS_sumTick, sapState_sumTick hp, sumTick_get _ _ hEN, sumTick_get _ _ hFR]
    exact hcase
  · intro p sl w t f m ok s hp ha hst hsl hforeign hf hm
    have hcase := slotReceive_does hp (s := s.atTime t) (w := w) ok hst hsl hforeign hf hm rfl
    refine ⟨_, done_alive _ ha, ?_⟩
    exact SlotShows.sumTick hp (s := s) s hcase
  · intro p sl w t ok s hp ha hst hsl hforeign
    refine ⟨_, done_alive _ ha, ?_⟩
    rw [slotReceive_foreign (s := s.atTime t) ok hst hsl hforeign]
    exact leaves_sumTick ..
  · intro p sl b t s hp ha hst hforeign hm hbr hsl hn hdone hdue
    have hcase := slotMissing_does hp (s := s.atTime t) hst hforeign hm hbr hsl hn hdone hdue rfl
    refine ⟨_, done_alive _ ha, ?_⟩
    have hUN : Fd.quiet (F.SAPp_CNT0_UNDERRUN p) = true := hq hp (by simp [portFields])
    rw [sapS_sumTick, sapState_sumTick hp, sumTick_get _ _ hUN]
    exact hcase
  · intro p sl t f m s hp ha hst hmute hsl htx hun hm hf hload hword
    obtain ⟨h1, h2, hkeep, hstore⟩ := outputUnderrun_does (s := s.atTime t) hst hmute hsl htx hun hm hf hload hword rfl
    refine ⟨_, done_alive _ ha, ?_⟩
    rw [sapS_sumTick]
    exact ⟨h1, (sumTick_get _ _ (hq hp (by simp [portFields]))).trans h2, KeepsFields.sumTick (s := s) _ hkeep,
      KeepsStore.sumTick (s := s) _ hstore⟩
  · intro p t f ok s hp ha hf hblock hstamp
    obtain ⟨hstore, h1, h2, h3, h4, h5, h6, h7, h8⟩ := blockStamp_does hp (s := s.atTime t) (ok := ok) hf hblock hstamp rfl
    refine ⟨_, done_alive _ ha, KeepsStore.sumTick (s := s) _ hstore, (sumTick_get _ _ (hq hp (by simp [portFields]))).trans h1, ?_, ?_, ?_, ?_, ?_, ?_, ?_⟩
    all_goals rw [sapState_sumTick hp]
    · exact fun a b => ⟨(h2 a b).1, KeepsFields.sumTick (s := s) _ (h2 a b).2⟩
    · exact fun a b => ⟨(h3 a b).1, KeepsFields.sumTick (s := s) _ (h3 a b).2⟩
    · exact fun a b c => ⟨(h4 a b c).1, KeepsFields.sumTick (s := s) _ (h4 a b c).2⟩
    · rw [sapS_sumTick]
      exact h5
    · rw [sumTick_get _ _ (hq hp (by simp [portFields]))]
      exact h6
    · rw [sapS_sumTick, sumTick_get _ _ (hq hp (by simp [portFields])), sumTick_get _ _ (hq hp (by simp [portFields]))]
      exact h7
    · exact h8
  · intro p t s hp ha hst hgood
    obtain ⟨h1, h2, h3⟩ := clockRecovered_does (s := s.atTime t) hst hgood rfl
    refine ⟨_, done_alive _ ha, ?_⟩
    rw [sapS_sumTick]
    exact ⟨(sumTick_get _ _ (hq hp (by simp [portFields]))).trans h1, h2, KeepsFields.sumTick (s := s) _ h3.1,
      KeepsStore.sumTick (s := s) _ h3.2⟩
  · intro p t s w hp ha hst hm hlost hw
    obtain ⟨hgo, h1, h2, h3⟩ := lossOfClock_raises hp (s := s.atTime t) hst hm hlost hw
    refine ⟨_, done_alive _ ha, ?_, h1, h2, h3⟩
    rw [hgo]
    exact leaves_sumTick ..
  · intro m p v tx s hp h
    by_cases hrej : s.get (F.SAPp_CFG_EN p) ≠ 0 ∧ s.mode.serCh < s.slotsUsed tx p + s.maskCount p (v % 2 ^ 32)
    · rw [if_pos hrej]
      obtain ⟨h1, hkeep, hstore⟩ := wrMask_rejected tx hrej rfl
      refine ⟨_, (done_alive _ h.alive :), ?_⟩
      rw [guarded_admitted _ h]
      exact ⟨answers_sumTick .., (respond_get _ _ _ _ _ _ (hq hp (by simp [portFields]))).trans h1, keepsFields_sumTick _ _ _ _ hkeep,
        keepsStore_sumTick _ _ _ _ hstore⟩
    · rw [if_neg hrej]
      obtain ⟨h1, hkeep, hstore⟩ := wrMask_taken hp tx hrej rfl
      refine ⟨_, (done_alive _ h.alive :), ?_⟩
      rw [guarded_admitted _ h]
      have hfd : Fd.quiet (if tx then F.SAPp_TXMASK_MASK p else F.SAPp_RXMASK_MASK p) = true := by
        cases tx
        · exact hq hp (by simp [portFields])
        · exact hq hp (by simp [portFields])
      exact ⟨answers_sumTick .., (respond_get _ _ _ _ _ _ hfd).trans h1, keepsFields_sumTick _ _ _ _ hkeep, keepsStore_sumTick _ _ _ _ hstore⟩
  · intro p t f v at_ tx s ha hp hst hf hnext hat
    obtain ⟨h1, h2, hkeep, hstore⟩ := maskEpoch_does hp (s := s.atTime t) tx hst hf hnext hat rfl
    refine ⟨_, done_alive _ ha, ?_⟩
    rw [sapS_sumTick]
    exact ⟨h1, (sumTick_get _ _ (hq hp (by simp [portFields]))).trans h2, KeepsFields.sumTick (s := s) _ hkeep,
      KeepsStore.sumTick (s := s) _ hstore⟩
  · intro p rtt t s hp ha hon hen hm hdue
    obtain ⟨h1, h2, hkeep, hstore⟩ := cableMeasure_does hp (rtt := rtt) (s := s.atTime t) hon hen hm hdue rfl
    exact ⟨_, done_alive _ ha, (sumTick_get _ _ (hq hp (by simp [portFields]))).trans h1,
      (sumTick_get _ _ (hq hp (by simp [portFields]))).trans h2, KeepsFields.sumTick (s := s) _ hkeep, KeepsStore.sumTick (s := s) _ hstore⟩
end

section
/-!
THE BOOT'S STEPS. The rails, DRAM, the journal's scan, the slot, the directory, the configuration, the hold-up measurement and the voice
images (R330–R337, R349, R385).
-/
namespace Sys2Proof.Machine

/-! ## Where the boot stands -/

theorem bootAt_of {p : BootPh} {s : State} (h : BootAt p s) : s.bootAt p = true := by
  obtain ⟨hb, hpin, hoff, hfcu, hfall⟩ := h
  rw [State.bootAt, hb, hpin, hoff, hfall, bne_iff_ne.mpr (show s.fcuState ≠ 2 from hfcu), Bool.and_true]
  cases p <;> rfl

theorem bootAt_other {p q : BootPh} {s : State} (h : BootAt p s) (hne : p ≠ q) : s.bootAt q = false := by
  rw [State.bootAt, h.1, beq_false_of_ne hne]
  rfl

theorem BootAt.on {p : BootPh} {s : State} (h : BootAt p s) : s.sys.off = false := h.2.2.1

/-! ## Power-good and the oscillator -/

theorem setRailOk_get {f : Fd} (b : Bool) (r : Nat) (s : State) (h1 : Fd.key f ≠ Fd.key (F.PMU_RAIL_OK r)) (h2 : Fd.key f ≠ Fd.key F.PMU_RAILOK_OK) :
    (setRailOk b s r).get f = s.get f := by
  rw [setRailOk, State.setBit, State.get_set_other _ _ h2, State.get_set_other _ _ h1]

theorem key_railOk (r : Nat) : Fd.key (F.PMU_RAIL_OK r) ≠ Fd.key F.PMU_RAILOK_OK := by
  simp only [Fd.key, F.PMU_RAIL_OK, F.PMU_RAILOK_OK, A.PMU_RAIL, A.PMU_RAILOK]
  omega

theorem setRailOk_same (b : Bool) (r : Nat) (s : State) : (setRailOk b s r).get (F.PMU_RAIL_OK r) = b.toNat := by
  rw [setRailOk, State.setBit, State.get_set_other _ _ (key_railOk r), State.get_set_same]
  cases b <;> rfl

/-- Rails that are set show so. -/
theorem railsOn_get {r : Nat} (l : List Nat) (s : State) (h : r ∈ l ∨ s.get (F.PMU_RAIL_OK r) = 1) :
    (l.foldl (setRailOk true) s).get (F.PMU_RAIL_OK r) = 1 := by
  induction l generalizing s with
  | nil => exact h.resolve_left List.not_mem_nil
  | cons q l ih =>
    refine ih _ ?_
    by_cases hq : r = q
    · subst hq
      exact .inr (setRailOk_same true r s)
    · have hk : Fd.key (F.PMU_RAIL_OK r) ≠ Fd.key (F.PMU_RAIL_OK q) := by
        simp only [Fd.key, F.PMU_RAIL_OK, A.PMU_RAIL]
        omega
      refine h.imp (fun hm => (List.mem_cons.mp hm).resolve_left hq) fun h1 => ?_
      rw [setRailOk_get _ _ _ hk (key_railOk r), h1]

theorem railsOn_now (l : List Nat) (s : State) : (l.foldl (setRailOk true) s).now = s.now := foldl_keeps State.now _ l s fun _ _ _ => rfl

theorem railsOn_busy {l : List Nat} (hl : ∀ r ∈ l, r < 16) (s : State) :
    (l.foldl (setRailOk true) s).get F.PMU_STAT_BUSY = s.get F.PMU_STAT_BUSY := by
  have hk : ∀ r < 16, Fd.key F.PMU_STAT_BUSY ≠ Fd.key (F.PMU_RAIL_OK r) := by decide
  exact foldl_keeps (fun v : State => v.get F.PMU_STAT_BUSY) _ l s fun r hr v => setRailOk_get true r v (hk r (hl r hr)) (by decide)

/-- The always-on rails start, and the sequence with them. -/
theorem startRails_does (s : State) {u : State} (hu : u = startRails s) :
    u.pmu.origin = s.now ∧ u.get F.PMU_STAT_BUSY = 1 ∧ (∀ r ∈ aonRails, u.get (F.PMU_RAIL_OK r) = 1) := by
  have hl : ∀ r ∈ aonRails, r < 16 := by decide
  have hbusy := (railsOn_busy hl (s.set F.PMU_STAT_BUSY 1)).trans (State.get_set_same ..)
  have hok := fun r (hr : r ∈ aonRails) => railsOn_get aonRails (s.set F.PMU_STAT_BUSY 1) (r := r) (.inl hr)
  have hnow := (railsOn_now aonRails (s.set F.PMU_STAT_BUSY 1)).trans (State.set_now s F.PMU_STAT_BUSY 1)
  obtain ⟨w, hw, huw⟩ : ∃ w, w = aonRails.foldl (setRailOk true) (s.set F.PMU_STAT_BUSY 1)
      ∧ u = { w with pmu := { w.pmu with origin := w.now, seqStop := false, started := aonRails.map (fun r => (r, w.now)), below := [] } } :=
    ⟨_, rfl, hu⟩
  rw [← hw] at hnow hbusy hok
  clear hw hu
  rw [huw]
  exact ⟨hnow, hbusy, hok⟩

theorem powerGood_does {s : State} (h : BootAt .none s) (hps : s.get F.PMU_STAT_PSTATE = psSTANDBY) (hst : s.pmu.started = [])
    (htest : s.sys.testMode = false) {u : State} (hu : u = powerGood s) :
    u.sys.boot = .xo ∧ u.pmu.origin = s.now ∧ u.get F.PMU_STAT_BUSY = 1 ∧ (∀ r ∈ [14, 5, 6, 7], u.get (F.PMU_RAIL_OK r) = 1) := by
  have hcond : (s.pstate == psSTANDBY && s.bootAt .none && s.pmu.started.isEmpty && !s.sys.testMode) = true := by
    rw [State.pstate, hps, bootAt_of h, hst, htest]
    rfl
  unfold powerGood at hu
  rw [if_pos hcond] at hu
  obtain ⟨w, hw⟩ : ∃ w, w = startRails s := ⟨_, rfl⟩
  obtain ⟨h1, h2, h3⟩ := startRails_does s hw
  rw [← hw] at hu
  clear hw
  dsimp only at hu
  rw [hu]
  exact ⟨rfl, h1, h2, h3⟩

theorem xoCheck_does {s : State} (h : BootAt .xo s) (ok : Bool) : xoCheck ok s =
    if ok then { s with sys := { s.sys with boot := .rails, safeN := false } } else raiseF 80 0 s :=
  if_neg (by rw [bootAt_of h]; decide)

/-! ## Rails -/

theorem railDue_lt {r : Nat} {s : State} (h : s.railDue r = true) : r < 16 := by
  have hall : ∀ e ∈ railSteps, ∀ q ∈ e.2, q < 16 := by decide
  unfold State.railDue at h
  dsimp only at h
  split at h
  · next ms l hf =>
    have hc : l.contains r = true := (List.find?_some hf :)
    exact hall _ (List.mem_of_find?_eq_some hf) r (List.contains_iff_mem.mp hc)
  · exact absurd h (by decide)

/-- The end of the rails' sequence: the clock starts where it stood still, and the boot goes on (R337). -/
theorem bootRails_does (s : State) {u : State} (hu : u = bootRails s) :
    u.pmu = s.pmu ∧ (∀ r < 16, u.get (F.PMU_RAIL_OK r) = s.get (F.PMU_RAIL_OK r)) ∧ u.get F.PMU_RAILOK_OK = s.get F.PMU_RAILOK_OK
    ∧ (s.sys.boot = .rails → s.get F.PMU_RAILOK_OK = 0xDFFF → u.sys.boot = .scan) := by
  have hk : ∀ r < 16, ∀ f ∈ [F.PMU_RAIL_OK r, F.PMU_RAILOK_OK], Fd.key f ≠ Fd.key F.PMU_STAT_SWMODE ∧ inBlock 4 (Fd.key f / 32) = false := by
    decide
  unfold bootRails at hu
  by_cases hgo : (s.sys.boot == .rails && s.railsUp) = true
  swap
  · rw [if_neg hgo] at hu
    rw [hu]
    refine ⟨rfl, fun _ _ => rfl, rfl, fun h1 h2 => absurd ?_ hgo⟩
    rw [h1, State.railsUp, h2]
    rfl
  rw [if_pos hgo] at hu
  obtain ⟨w, hw⟩ : ∃ w : State, w = { s with sys := { s.sys with boot := .scan, holdDue := s.sys.holdDue || !s.sys.warmBoot } } := ⟨_, rfl⟩
  have hwf : w.fld = s.fld ∧ w.pmu = s.pmu ∧ w.sys.boot = .scan := by
    rw [hw]
    exact ⟨rfl, rfl, rfl⟩
  rw [← hw] at hu
  clear hw
  dsimp only at hu
  have hstart : ∀ v, v = (if w.time.on then w else startTime w) → v.pmu = w.pmu ∧ v.sys = w.sys
      ∧ ∀ r < 16, ∀ f ∈ [F.PMU_RAIL_OK r, F.PMU_RAILOK_OK], v.get f = w.get f := by
    rintro v rfl
    split
    · exact ⟨rfl, rfl, fun _ _ _ _ => rfl⟩
    · refine ⟨rfl, rfl, fun r hr f hf => ?_⟩
      show (w.resetRegs (inBlock 4)).get f = w.get f
      rw [State.get_resetRegs, (hk r hr f hf).2, if_neg (by decide)]
  obtain ⟨h1, h2, h3⟩ := hstart _ rfl
  generalize (if w.time.on then w else startTime w) = v at hu h1 h2 h3
  have hget : ∀ r < 16, ∀ f ∈ [F.PMU_RAIL_OK r, F.PMU_RAILOK_OK], u.get f = s.get f := fun r hr f hf => by
    rw [hu, showSwmode, State.get_set_other _ _ (hk r hr f hf).1, h3 r hr f hf, State.get_congr hwf.1]
  refine ⟨?_, fun r hr => hget r hr _ (by simp), hget 0 (by decide) _ (by simp), fun _ _ => ?_⟩
  · rw [hu]
    exact h1.trans hwf.2.1
  · rw [hu]
    exact (congrArg SysS.boot h2).trans hwf.2.2

theorem railStart_does {r : Nat} (pass : Bool) {s : State} (h : BootAt .xo s ∨ BootAt .rails s) (hdue : s.railDue r = true) {u : State}
    (hu : u = railStart r pass s) :
    u.pmu.started = s.pmu.started ++ [(r, s.now)]
    ∧ (if pass then u.get (F.PMU_RAIL_OK r) = 1 else u.pmu.below.contains r = true)
    ∧ (BootAt .rails s → u.get F.PMU_RAILOK_OK = 0xDFFF → u.sys.boot = .scan) := by
  have hr := railDue_lt hdue
  have hat : (s.bootAt .xo || s.bootAt .rails) = true := by
    rcases h with h | h
    · rw [bootAt_of h]
      rfl
    · rw [bootAt_of h, Bool.or_true]
  unfold railStart at hu
  rw [hat, hdue, if_pos (by decide)] at hu
  extract_lets p1 s1 s2 at hu
  have h1 : s1.pmu.started = s.pmu.started ++ [(r, s.now)] ∧ s1.sys = s.sys := ⟨rfl, rfl⟩
  clear_value s1
  have h2 : s2.pmu.started = s.pmu.started ++ [(r, s.now)] ∧ s2.sys = s.sys := by
    unfold s2
    split <;> exact h1
  clear_value s2
  obtain ⟨w, hw⟩ : ∃ w, w = (if pass then setRailOk true s2 r else setBelow true r s2) := ⟨_, rfl⟩
  have h3 : w.pmu.started = s.pmu.started ++ [(r, s.now)] ∧ w.sys = s.sys
      ∧ (if pass then w.get (F.PMU_RAIL_OK r) = 1 else w.pmu.below.contains r = true) := by
    cases pass with
    | true =>
      rw [hw, if_pos rfl, if_pos rfl, setRailOk_same]
      exact ⟨h2.1, h2.2, rfl⟩
    | false =>
      rw [hw, if_neg (by decide), if_neg (by decide)]
      refine ⟨h2.1, h2.2, ?_⟩
      show (r :: s2.pmu.below.filter (· != r)).contains r = true
      rw [List.contains_cons, beq_self_eq_true, Bool.true_or]
  rw [← hw] at hu
  clear hw
  obtain ⟨h4, h5, h6, h7⟩ := bootRails_does w hu
  rw [h4, h5 r hr, h6]
  exact ⟨h3.1, h3.2.2, fun h8 h9 => h7 (by rw [h3.2.1]; exact h8.1) h9⟩

theorem railTimeout_does {r : Nat} {s : State} (h : BootAt .xo s ∨ BootAt .rails s) (hstop : s.pmu.seqStop = false)
    (hok : s.get (F.PMU_RAIL_OK r) = 0) (hx : ∃ x, (r, x) ∈ s.pmu.started ∧ x + 5 * uMs ≤ s.now) :
    railTimeout r s = raiseF 91 r { s with pmu := { s.pmu with seqStop := true } } := by
  have hat : (s.bootAt .xo || s.bootAt .rails) = true := by
    rcases h with h | h
    · rw [bootAt_of h]
      rfl
    · rw [bootAt_of h, Bool.or_true]
  have hany : s.pmu.started.any (fun e => e.1 == r && e.2 + 5 * uMs ≤ s.now) = true := by
    obtain ⟨x, hmem, hle⟩ := hx
    refine List.any_eq_true.mpr ⟨(r, x), hmem, ?_⟩
    rw [Bool.and_eq_true, beq_iff_eq, decide_eq_true_eq]
    exact ⟨rfl, hle⟩
  refine if_pos ?_
  rw [hat, hstop, State.on, hok, hany]
  rfl

/-! ## DRAM and the journal -/

theorem dramDone_does {s : State} (h : BootAt .scan s) (hready : s.sys.dramReady = false) {u : State} (hu : u = dramDone s) :
    u.sys.dramReady = true ∧ (∀ a, dramBase ≤ a → u.byte a = 0) ∧ (∀ a, a < dramBase → u.byte a = s.byte a) := by
  have hpast : (s.bootPastRails && !s.sys.dramReady) = true := by
    have hat : s.bootAt s.sys.boot = true := by rw [h.1]; exact bootAt_of h
    rw [State.bootPastRails, bootAt_other h (by decide), bootAt_other h (by decide), bootAt_other h (by decide), hat, hready]
    rfl
  unfold dramDone at hu
  rw [if_pos hpast] at hu
  have hmem : u.mem = mkeep (fun a => !decide (dramBase ≤ a)) s.mem ∧ u.sys.dramReady = true := by
    rw [hu]
    exact ⟨rfl, rfl⟩
  refine ⟨hmem.2, fun a ha => ?_, fun a ha => ?_⟩
  · have hbase : 0x40000 ≤ dramBase := by decide
    rw [State.byte, if_neg (by omega), hmem.1, mget_mkeep, decide_eq_true ha]
    rfl
  · rw [State.byte, State.byte, hmem.1, mget_mkeep, decide_eq_false (by omega)]
    rfl

/-- Logical cores take their holders without touching the dispatcher's hidden state. -/
theorem takeHolder_disp (l : Nat) (s : State) : (takeHolder l s).disp = s.disp := by
  have hset : ∀ (q : Nat) (w : State), (w.setPhys l q).disp = w.disp := fun q w => by
    unfold State.setPhys
    split <;> rfl
  unfold takeHolder
  split
  · exact hset _ _
  split
  · exact hset _ _
  · unfold loseCore
    dsimp only
    obtain ⟨_, _, _, _, _, _, heq⟩ := eventOnly_raiseF (src := 10) l rfl rfl
      ((((s.setBit (F.DISP_LOST_LOST (l / 32)) (l % 32) true).set F.DISP_STAT_DEGRADED 1)).setPhys l 0xFF)
    rw [heq]
    exact hset _ _

theorem resetMap_disp (s : State) : (resetMap s).disp = s.disp := by
  have hset : ∀ (l q : Nat) (w : State), (w.setPhys l q).disp = w.disp := fun l q w => by
    unfold State.setPhys
    split <;> rfl
  unfold resetMap
  refine (foldl_keeps State.disp _ _ _ fun l _ w => ?_).trans (foldl_keeps State.disp _ _ _ fun l _ w => hset l l w)
  split
  · rfl
  split
  · exact (takeHolder_disp l _).trans (hset _ _ _)
  · exact hset _ _ _

theorem bootScan_does {s : State} (h : BootAt .scan s) {u : State} (hu : u = bootScan s) : u.sys.boot = .choose ∧ u.disp.fenceTl = [] := by
  unfold bootScan at hu
  rw [if_pos (bootAt_of h)] at hu
  generalize journalScan s = w at hu
  dsimp only at hu
  have hd := resetMap_disp { w with disp := { w.disp with fenceTl := [] } }
  generalize resetMap { w with disp := { w.disp with fenceTl := [] } } = v at hu hd
  rw [hu]
  refine ⟨rfl, ?_⟩
  show v.disp.fenceTl = []
  rw [hd]

end Sys2Proof.Machine
end

section
/-!
THE SLOT, THE DIRECTORY, THE HOLD-UP MEASUREMENT AND THE VOICE IMAGES of a boot (R331, R335, R337, R349).
-/
namespace Sys2Proof.Machine

/-! ## The slot and the directory -/

/-- Entry to RECOVERY (R335). -/
theorem enterRecovery_does (s : State) {u : State} (hu : u = enterRecovery s) :
    u.sys.boot = .recovery ∧ u.sys.safeN = true ∧ u.get F.SEC_STAT_RECOVERY = 1 ∧ u.get F.PMU_STAT_PSTATE = psREADY := by
  obtain ⟨w, hw⟩ : ∃ w, w = setBoot .recovery { ((s.set F.SEC_STAT_RECOVERY 1).set F.PMU_STAT_PSTATE psREADY).set F.PMU_STAT_BUSY 0 with
    sys := { s.sys with safeN := true } } := ⟨_, rfl⟩
  obtain ⟨b, x, hux, hxf, hxs⟩ : ∃ b x, u = journal jBOOT b x ∧ x.fld = w.fld ∧ x.sys = w.sys := by
    rw [hu, hw]
    exact ⟨_, _, rfl, rfl, rfl⟩
  have hwrec : w.get F.SEC_STAT_RECOVERY = 1 := by
    rw [hw]
    show (((s.set F.SEC_STAT_RECOVERY 1).set F.PMU_STAT_PSTATE psREADY).set F.PMU_STAT_BUSY 0).get F.SEC_STAT_RECOVERY = 1
    rw [State.get_set_other _ _ (by decide), State.get_set_other _ _ (by decide)]
    exact State.get_set_same ..
  have hwps : w.get F.PMU_STAT_PSTATE = psREADY := by
    rw [hw]
    show (((s.set F.SEC_STAT_RECOVERY 1).set F.PMU_STAT_PSTATE psREADY).set F.PMU_STAT_BUSY 0).get F.PMU_STAT_PSTATE = psREADY
    rw [State.get_set_other _ _ (by decide)]
    exact State.get_set_same ..
  have hws : w.sys.boot = .recovery ∧ w.sys.safeN = true := by
    rw [hw]
    exact ⟨rfl, rfl⟩
  have hget : ∀ f ∈ [F.SEC_STAT_RECOVERY, F.PMU_STAT_PSTATE], u.get f = w.get f := fun f hf => by
    rw [hux, journal_get _ _ _ (by revert f; decide), State.get_congr hxf]
  have hus : u.sys = w.sys := by
    obtain ⟨m, l, h⟩ := journal_only jBOOT b x
    rw [hux, h]
    exact hxs
  rw [hus]
  exact ⟨hws.1, hws.2, (hget _ (by simp)).trans hwrec, (hget _ (by simp)).trans hwps⟩

theorem takeSlot_boot (m : List Byte) (act k cause : Nat) (s : State) : (takeSlot m act k cause s).sys.boot = .directory := rfl

theorem trySlots_boot (m : List Byte) (act k cause : Nat) (s : State) {u : State} (hu : u = trySlots m act k cause s) :
    u.sys.boot = .directory ∨ u.sys.boot = .recovery := by
  unfold trySlots at hu
  extract_lets c at hu
  clear_value c
  split_ifs at hu
  · exact .inl (hu ▸ takeSlot_boot ..)
  · exact .inr (enterRecovery_does _ hu).1
  · exact .inl (hu ▸ takeSlot_boot ..)
  · exact .inr (enterRecovery_does _ hu).1

theorem slotChoose_none {s : State} (h : BootAt .choose s) (hm : s.manifestCopy = none) : slotChoose s = enterRecovery s := by
  unfold slotChoose
  rw [if_neg (by rw [bootAt_of h]; decide), hm]

theorem slotChoose_boot {s : State} (h : BootAt .choose s) {u : State} (hu : u = slotChoose s) :
    u.sys.boot = .directory ∨ u.sys.boot = .recovery := by
  unfold slotChoose at hu
  rw [if_neg (by rw [bootAt_of h]; decide)] at hu
  split at hu
  · exact .inr (enterRecovery_does s hu).1
  · next c _ =>
    extract_lets s1 m act gen b has at hu
    clear_value s1 m act gen b has
    split_ifs at hu
    · exact trySlots_boot _ _ _ _ _ hu
    · exact trySlots_boot _ _ _ _ _ hu
    · exact trySlots_boot _ _ _ _ _ hu

theorem directoryCheck_does {s : State} (h : BootAt .directory s) (hready : s.sys.dramReady = true) {u : State} (hu : u = directoryCheck s) :
    if ([dtCCFW, dtCAL, dtHOSTKEYS].flatMap s.entriesOf).all s.entryOk then u.sys.boot = .config
    else u.sys.boot = .directory ∨ u.sys.boot = .recovery := by
  unfold directoryCheck at hu
  rw [if_neg (by rw [bootAt_of h, hready]; decide)] at hu
  extract_lets es m act body s1 at hu
  have hes' : ([dtCCFW, dtCAL, dtHOSTKEYS].flatMap s.entriesOf).all s.entryOk = es.all s.entryOk := rfl
  rw [hes']
  cases hes : es.all s.entryOk with
  | true =>
    rw [hes, if_neg (by decide)] at hu
    rw [if_pos rfl]
    clear_value s1 m act
    generalize (s1.entriesOf dtHOSTKEYS).foldl loadHostKeys s1 = v at hu
    rw [hu]
    rfl
  | false =>
    rw [hes, if_pos (by decide)] at hu
    rw [if_neg (by decide)]
    clear_value m act
    split_ifs at hu
    · exact .inr (enterRecovery_does _ hu).1
    · exact .inl (hu ▸ takeSlot_boot ..)
    · exact .inr (enterRecovery_does _ hu).1

/-! ## The configuration -/

theorem bootConfig_boot {s : State} (h : BootAt .config s) {u : State} (hu : u = bootConfig s) : u.sys.boot = .images := by
  unfold bootConfig at hu
  rw [if_neg (by rw [bootAt_of h]; decide)] at hu
  extract_lets m s1 s2 s3 s4 s5 at hu
  clear_value s5
  rw [hu]
  rfl

/-! ## The hold-up measurement (R349) -/

/-- An event of another group than a host port's, where the fence action touches no more than events may. -/
theorem eventOnly_raiseF_fenced {src g : Nat} (idx : Nat) (hg : srcGroup src = some g) (h23 : (g == 23) = false)
    (hf : ∀ u, EventOnly u (fenceUnit (raiseDeep 5) src g (idx % 65536) u)) (s : State) : EventOnly s (raiseF src idx s) := by
  have hfence : ∀ w, EventOnly w (takeFence (raiseDeep 5) src g (idx % 65536) w) := fun w => by
    unfold takeFence
    extract_lets fs s1 s2 s3 s4 s5
    have h1 : EventOnly w s1 := (EventOnly.refl w).fcu _
    clear_value s1
    have h2 : EventOnly w s2 := h1.trans ((FieldsOnly.refl s1).setBit _ _ _).event
    clear_value s2
    have h3 : EventOnly w s3 := h2.trans (eventOnly_noteReaction 1 src _ s2)
    clear_value s3
    have h4 : EventOnly w s4 := h3.trans (hf s3)
    clear_value s4
    exact (EventOnly.fcu h4 _).trans (eventOnly_journal jFENCE _ s5)
  unfold raiseF raiseDeep collect
  rw [hg]
  dsimp -zeta only
  extract_lets wire s1 s2 c0 conseq c1 last s3 c2 s4 s5
  have h2 : EventOnly s s2 := (((FieldsOnly.refl s).setBit _ _ _).set _ _).event
  clear_value s2
  have h3 : EventOnly s s3 := EventOnly.ite (h2.trans ((FieldsOnly.refl s2).set _ _).event) h2
  clear_value s3 c2
  have h4 : EventOnly s s4 := h3.trans (eventOnly_addRecord _ _)
  clear_value s4
  have h5 : s5 = s4 := by
    unfold s5 hostReaction
    rw [h23]
    exact if_neg Bool.false_ne_true
  rw [h5]
  refine EventOnly.ite (.refl s) (EventOnly.ite ((EventOnly.refl s).fcu _) (EventOnly.ite h2 ?_))
  split
  · exact h4.trans (hfence s4)
  · exact EventOnly.ite h4 (h4.trans (eventOnly_takeQuiet ..))
  · exact EventOnly.ite h4 (h4.trans (eventOnly_takeHalt ..))
  · exact h4

/-- A converter phase that is fenced is shed, and no more (R317). -/
theorem eventOnly_raiseF_phase {src : Nat} (idx : Nat) (hg : srcGroup src = some 19) (s : State) : EventOnly s (raiseF src idx s) :=
  eventOnly_raiseF_fenced idx hg rfl (fun u => ((FieldsOnly.refl u).setBit F.PMU_PHASE_SHED (idx % 65536) true).event) s

theorem jPump_sys (s : State) : (jPump s).sys = s.sys := rfl

theorem holdupDone_does {v0 us : Nat} {s : State} (h : BootAt s.sys.boot s) (hdue : s.sys.holdDue = true) (hcopy : s.boot.copy ≠ 0) {u : State}
    (hu : u = holdupDone v0 us s) : u.sys.holdDue = false := by
  have hgo : (!(s.sys.holdDue && s.boot.copy != 0 && s.bootAt s.sys.boot)) = false := by
    rw [hdue, bootAt_of h, bne_iff_ne.mpr hcopy]
    rfl
  unfold holdupDone at hu
  rw [hgo, if_neg (by decide)] at hu
  extract_lets t at hu
  generalize s.draw = r at hu
  obtain ⟨d, s1⟩ := r
  dsimp -zeta only at hu
  extract_lets bytes cap s2 v x w at hu
  have hw : w.sys.holdDue = false := rfl
  clear_value w
  have hraise : (raiseF 93 0 w).sys = w.sys := (eventOnly_raiseF_phase 0 rfl w).sys
  rw [hu, jPump_sys]
  split
  · rw [hraise]
    exact hw
  · exact hw

/-! ## The voice images -/

theorem setAnchor_sys (a : Int) (s : State) : (s.setAnchor a).sys = s.sys := by
  unfold State.setAnchor
  generalize ux 72 a = v
  rfl

theorem dispAnchor_sys (t : Nat) (s : State) : (dispAnchor t s).sys = s.sys := by
  unfold dispAnchor
  extract_lets s1 k d goOn new s2 st s3 re mx dd s4
  clear_value new goOn re
  have h1 : s1.sys = s.sys := by
    obtain ⟨n, h⟩ := tickCredits_keeps s
    rw [show s1 = _ from h]
  have h2 : s2.sys = s1.sys := setAnchor_sys ..
  clear_value s1 s2
  have h4 : s4.sys = s2.sys := by
    unfold s4
    split <;> rfl
  clear_value s4
  have h5 : (if goOn then s4 else restartHistory (fun _ => true) s4).sys = s4.sys := by
    split <;> rfl
  exact h5.trans (h4.trans (h2.trans h1))

/-- SYS and PMU are as they were. -/
def SysPmuKept (s w : State) : Prop := w.sys = s.sys ∧ KeepsUnit 0x2001 s w

theorem SysPmuKept.trans {s w x : State} (h : SysPmuKept s w) (k : SysPmuKept w x) : SysPmuKept s x := ⟨k.1.trans h.1, h.2.trans k.2⟩

theorem SysPmuKept.of_fld {s w : State} (hs : w.sys = s.sys) (hf : w.fld = s.fld) : SysPmuKept s w :=
  ⟨hs, fun f _ _ _ => State.get_congr hf f⟩

theorem SysPmuKept.set {s w : State} {f : Fd} (h : SysPmuKept s w) (v : Nat) (hf : f.lsb < 32 ∧ blockOf f ≠ 0x2001) : SysPmuKept s (w.set f v) :=
  ⟨h.1, h.2.set v hf.1 hf.2⟩

theorem SysPmuKept.refl (s : State) : SysPmuKept s s := .of_fld rfl rfl

/-- The registers of trigger `k`. -/
def trigFields (k : Nat) : List Fd :=
  [F.TRIG_FIRED_LO_NS k, F.TRIG_FIRED_HI_NS k, F.TRIG_STAT_FIRES k, F.TRIG_STAT_IGNORED k, F.TRIG_AT_LO_AT_LO k, F.TRIG_AT_HI_AT_HI k,
    F.TRIG_CFG_MODE k, F.TRIG_CFG_ACTION k, F.TRIG_CFG_EN k, F.TRIG_STAT_ARMED k, F.TRIG_STAT_LATE k, F.TRIG_STAT_BADCFG k]

theorem trigFields_place : ∀ k < 8, ∀ f ∈ trigFields k, f.lsb < 32 ∧ blockOf f ≠ 0x2001 := by decide

section
variable {k : Nat} (hk : k < 8)
include hk

/-- A firing leaves SYS and PMU as they were. -/
theorem sysPmuKept_fireTrigger (s : State) : SysPmuKept s (fireTrigger k s) := by
  have hset : ∀ f ∈ trigFields k, ∀ v (w : State), SysPmuKept w (w.set f v) := fun f hf v w =>
    (SysPmuKept.refl w).set v (trigFields_place k hk f hf)
  unfold fireTrigger
  extract_lets s1 w tgt
  have h1 : SysPmuKept s s1 := ((hset _ (by simp [trigFields]) _ s).trans (hset _ (by simp [trigFields]) _ _)).trans (hset _ (by simp [trigFields]) _ _)
  clear_value s1
  have hw : SysPmuKept s w := by
    obtain ⟨_, _, _, _, _, _, heq⟩ := eventOnly_capEvent 3 k (s1.setBit F.TIME_EVT_TRIG k true)
    refine (h1.set (f := F.TIME_EVT_TRIG) _ (by decide)).trans ⟨?_, (keepsBlock_capEvent (by decide) 3 k _).unit⟩
    rw [show w = _ from heq]
    rfl
  clear_value w
  split
  · split
    · exact hw.trans ⟨dispAnchor_sys _ _, (dispAnchor_keeps (by decide) w.dev w).1.unit⟩
    · exact hw.trans (hset _ (by simp [trigFields]) 1 w)
  · obtain ⟨x, h⟩ := sapStart_keeps (tgt % 65536) w
    rw [h]
    exact hw.trans (.of_fld rfl rfl)
  · refine hw.trans ⟨?_, (bsiStart_keeps (by decide) tgt w).1.unit⟩
    exact List.foldlRecOn _ _ (motive := fun u : State => u.sys = w.sys) rfl fun u hu c _ => by split <;> exact hu
  · exact hw.trans (.of_fld rfl rfl)
  · exact hw

theorem sysPmuKept_trigEnable (s : State) : SysPmuKept s (trigEnable k s) := by
  have hset : ∀ f ∈ trigFields k, ∀ v (w : State), SysPmuKept w (w.set f v) := fun f hf v w =>
    (SysPmuKept.refl w).set v (trigFields_place k hk f hf)
  have hen : ∀ w : State, SysPmuKept w (setTrigEn k true w) := fun w =>
    (hset _ (by simp [trigFields]) _ w).trans (hset _ (by simp [trigFields]) _ _)
  have hput : ∀ x (w : State), SysPmuKept w (w.setTrig k x) := fun x w => .of_fld rfl rfl
  unfold trigEnable
  split
  · exact hset _ (by simp [trigFields]) 1 s
  split
  · exact .refl s
  extract_lets at0
  split
  · split
    · exact (hset _ (by simp [trigFields]) 1 s).trans (sysPmuKept_fireTrigger hk _)
    · exact (hput _ s).trans (hen _)
  · exact (hput _ s).trans (hen _)
  · exact (hput _ s).trans (hen _)

end

theorem dispRun_sys (s : State) : (dispRun s).sys = s.sys := by
  unfold dispRun
  extract_lets s1 d s2 s3
  split
  · split <;> rfl
  · rfl

/-- The state in which the dispatcher is started (R337). -/
def voicesLoaded (s : State) : State :=
  let s := (s.set F.PMU_STAT_PSTATE psREADY).set F.PMU_STAT_BUSY 0
  { setBoot .none s with sys := { s.sys with boot := .none, bootZero := true } }

theorem voicesLoaded_does (s : State) {u : State} (hu : u = voicesLoaded s) :
    u.sys.boot = .none ∧ u.sys.bootZero = true ∧ u.get F.PMU_STAT_PSTATE = psREADY ∧ u.get F.DISP_STAT_STATE = s.get F.DISP_STAT_STATE := by
  have huf : u.fld = ((s.set F.PMU_STAT_PSTATE psREADY).set F.PMU_STAT_BUSY 0).fld := by
    rw [hu]
    rfl
  refine ⟨by rw [hu]; rfl, by rw [hu]; rfl, ?_, ?_⟩
  · rw [State.get_congr huf, State.get_set_other _ _ (by decide)]
    exact State.get_set_same ..
  · rw [State.get_congr huf, State.get_set_other _ _ (by decide), State.get_set_other _ _ (by decide)]

theorem voiceLoad_does {s : State} (h : BootAt .images s) {u : State} (hu : u = voiceLoad s) :
    u.sys.boot = .none ∧ u.sys.bootZero = true
    ∧ (s.entriesOf dtVOICE = [] → s.get F.DISP_STAT_STATE = dStopped → u.get F.PMU_STAT_PSTATE = psSHOW) := by
  unfold voiceLoad at hu
  rw [if_neg (by rw [bootAt_of h]; decide)] at hu
  extract_lets s1 s2 s3 x w q at hu
  have hs1 : s.entriesOf dtVOICE = [] → s1 = s := fun he => by
    show (s.entriesOf dtVOICE).foldl loadVoice s = s
    rw [he]
    rfl
  obtain ⟨hw1, hw2, hw3, hw4⟩ := voicesLoaded_does s1 (u := w) rfl
  clear_value w s1
  -- The dispatcher is started; what follows leaves SYS and PMU as they are.
  have hq : q.sys = w.sys ∧ (w.get F.DISP_STAT_STATE = dStopped → q.get F.PMU_STAT_PSTATE = psSHOW) := by
    obtain ⟨-, -, -, hps, -⟩ := dispRun_does ((w.set F.DISP_START_INDEX_LO_START_LO 0).set F.DISP_START_INDEX_HI_START_HI 0)
    refine ⟨dispRun_sys _, fun hst => hps.trans (if_pos ⟨?_, ?_⟩)⟩
    · rw [State.get_set_other _ _ (by decide), State.get_set_other _ _ (by decide)]
      exact hst
    · rw [State.get_set_other _ _ (by decide), State.get_set_other _ _ (by decide)]
      exact hw3
  clear_value q
  have hd : q.draw.2.sys = q.sys ∧ q.draw.2.fld = q.fld := ⟨rfl, rfl⟩
  generalize q.draw = r at hu hd
  obtain ⟨d, q1⟩ := r
  dsimp -zeta only at hu hd
  extract_lets k at0 s5 at hu
  have hk : k < 8 := Nat.mod_lt _ (by decide)
  clear_value k at0
  have hset : ∀ f ∈ trigFields k, ∀ v (y : State), SysPmuKept y (y.set f v) := fun f hf v y =>
    (SysPmuKept.refl y).set v (trigFields_place k hk f hf)
  have h5 : SysPmuKept q1 s5 := ((hset _ (by simp [trigFields]) _ q1).trans (hset _ (by simp [trigFields]) _ _)).trans (hset _ (by simp [trigFields]) _ _)
  clear_value s5
  have hu5 : SysPmuKept q1 u := by
    rw [hu]
    exact (h5.trans (hset _ (by simp [trigFields]) 1 s5)).trans (sysPmuKept_trigEnable hk _)
  have hus : u.sys = w.sys := (hu5.1.trans hd.1).trans hq.1
  rw [hus]
  refine ⟨hw1, hw2, fun he hst => ?_⟩
  rw [hu5.2 F.PMU_STAT_PSTATE (by decide) (by decide) (by decide), State.get_congr hd.2]
  exact hq.2 (by rw [hw4, hs1 he, hst])

theorem breathZero_does {s : State} (hz : s.sys.bootZero = true) (hbr : s.breathing = true) (hst : s.disp.started = true)
    (hnear : s.reached s.n 100 = false) {u : State} (hu : u = breathZero s) : u.sys.bootZero = false := by
  unfold breathZero at hu
  rw [if_pos (by rw [hz, hbr, hst, hnear]; rfl)] at hu
  extract_lets s1 g at hu
  clear_value s1
  rw [hu]

end Sys2Proof.Machine
end

section
namespace Sys2Proof.Machine

/-! ## What the boot reads of the flash does not depend on the instant -/

theorem fbytes_atTime (s : State) (t a n : Nat) : (s.atTime t).fbytes a n = s.fbytes a n := by
  induction n generalizing a with
  | zero => rfl
  | succ n ih => exact congrArg (s.fbyte a :: ·) (ih (a + 1))

theorem signedBy_atTime (s : State) (t : Nat) (l : List Byte) : (s.atTime t).signedBy l = s.signedBy l := by
  have hkey : ∀ pub, (s.atTime t).keyOf pub = s.keyOf pub := fun pub => rfl
  unfold State.signedBy State.accepts
  rw [hkey]

theorem manifestCopy_atTime (s : State) (t : Nat) : (s.atTime t).manifestCopy = s.manifestCopy := by
  have hman : ∀ c, (s.atTime t).manifest c = s.manifest c := fun c => fbytes_atTime ..
  have hok : ∀ c, (s.atTime t).manifestOk c = s.manifestOk c := fun c => by
    unfold State.manifestOk
    simp only [hman, signedBy_atTime]
  unfold State.manifestCopy
  simp only [hman, hok]

theorem entriesOf_atTime (s : State) (t k : Nat) : (s.atTime t).entriesOf k = s.entriesOf k := by
  have hdir : (s.atTime t).directory (s.atTime t).boot.slot = s.directory s.boot.slot := fbytes_atTime ..
  unfold State.entriesOf
  rw [hdir]

theorem entryOk_atTime (s : State) (t : Nat) (e : DirEntry) : (s.atTime t).entryOk e = s.entryOk e := by
  have hbytes : (s.atTime t).entryBytes e = s.entryBytes e := fbytes_atTime ..
  unfold State.entryOk
  rw [hbytes]

end Sys2Proof.Machine

open Sys2Proof Sys2Proof.Machine

/-- Settles O17, step by step: where the boot stands decides the step, and no event moves it. -/
theorem bootRowsComplete : Obligations.BootRowsComplete := by
  unfold Obligations.BootRowsComplete
  have hok : ∀ r < 16, Fd.quiet (F.PMU_RAIL_OK r) = true := by decide
  have hbyte : ∀ (r u : State) (a : Nat), (sumTick r u).byte a = u.byte a := fun r u a => by
    rw [State.byte, sumTick_mem]
    rfl
  refine ⟨?_, ?_, ?_, ?_, ?_, ?_, ?_, ?_, ?_, ?_, ?_, ?_⟩
  · intro t s h hps hst htest
    obtain ⟨h1, h2, h3, h4⟩ := powerGood_does (s := s.atTime t) h hps hst htest rfl
    refine ⟨_, doneAon_on _ h.on, ?_⟩
    rw [sumTick_sys, sumTick_pmu]
    have hl : ∀ r ∈ [14, 5, 6, 7], r < 16 := by decide
    exact ⟨h1, h2, (sumTick_get _ _ (by decide)).trans h3, fun r hr => (sumTick_get _ _ (hok r (hl r hr))).trans (h4 r hr)⟩
  · intro ok t s h
    refine ⟨_, doneAon_on _ h.on, ?_⟩
    rw [xoCheck_does (s := s.atTime t) h ok]
    cases ok with
    | true =>
      rw [if_pos rfl, if_pos rfl, sumTick_sys]
      exact ⟨rfl, rfl, KeepsFields.sumTick (s := s) _ (.of_fld _ rfl), KeepsStore.sumTick (s := s) _ ⟨rfl, rfl, rfl⟩⟩
    | false =>
      rw [if_neg (by decide), if_neg (by decide)]
      exact leaves_sumTick ..
  · intro r t pass s h hdue
    obtain ⟨h1, h2, h3⟩ := railStart_does pass (s := s.atTime t) h hdue rfl
    refine ⟨_, doneAon_on _ (h.elim BootAt.on BootAt.on), ?_⟩
    rw [sumTick_sys, sumTick_pmu, sumTick_get _ _ (hok r (railDue_lt hdue)), sumTick_get _ _ (by decide)]
    exact ⟨h1, h2, h3⟩
  · intro r t s h hstop hnot hx
    refine ⟨_, doneAon_on _ (h.elim BootAt.on BootAt.on), ?_⟩
    rw [railTimeout_does (s := s.atTime t) h hstop hnot hx]
    exact leaves_sumTick ..
  · intro t s h hready
    obtain ⟨h1, h2, h3⟩ := dramDone_does (s := s.atTime t) h hready rfl
    refine ⟨_, doneAon_on _ h.on, ?_⟩
    rw [sumTick_sys]
    exact ⟨h1, fun a ha => (hbyte _ _ a).trans (h2 a ha), fun a ha => (hbyte _ _ a).trans (h3 a ha)⟩
  · intro t s h
    refine ⟨_, doneAon_on _ h.on, ?_⟩
    rw [sumTick_sys, sumTick_disp]
    exact bootScan_does (s := s.atTime t) h rfl
  · intro t s h
    refine ⟨_, doneAon_on _ h.on, ?_⟩
    rw [sumTick_sys, sumTick_get _ _ (by decide), sumTick_get _ _ (by decide)]
    refine ⟨slotChoose_boot (s := s.atTime t) h rfl, fun hm => ?_⟩
    rw [slotChoose_none (s := s.atTime t) h ((manifestCopy_atTime s t).trans hm)]
    exact enterRecovery_does (s.atTime t) rfl
  · intro t s h hready
    refine ⟨_, doneAon_on _ h.on, ?_⟩
    rw [sumTick_sys]
    have hcase := directoryCheck_does (s := s.atTime t) h hready rfl
    rw [funext (entriesOf_atTime s t), funext (entryOk_atTime s t)] at hcase
    exact hcase
  · intro t s h
    refine ⟨_, doneAon_on _ h.on, ?_⟩
    rw [sumTick_sys]
    exact bootConfig_boot (s := s.atTime t) h rfl
  · intro v0 us t s h hdue hcopy
    refine ⟨_, doneAon_on _ h.on, ?_⟩
    rw [sumTick_sys]
    exact holdupDone_does (s := s.atTime t) h hdue hcopy rfl
  · intro t s h
    obtain ⟨h1, h2, h3⟩ := voiceLoad_does (s := s.atTime t) h rfl
    rw [entriesOf_atTime] at h3
    refine ⟨_, doneAon_on _ h.on, ?_⟩
    rw [sumTick_sys, sumTick_get _ _ (by decide)]
    exact ⟨h1, h2, h3⟩
  · intro t s ha hz hbr hst hnear
    refine ⟨_, done_alive _ ha, ?_⟩
    rw [sumTick_sys]
    exact breathZero_does (s := s.atTime t) hz hbr hst hnear rfl
end
